-- ==== Sys2Proof/Word.lean ====
section
/-! DEFINITION. Words, bytes and sparse data. -/

namespace Sys2Proof

/-- A register word (R9). -/
abbrev Word := BitVec 32

/-- A byte of memory. -/
abbrev Byte := BitVec 8

/-- Sparse data by key: a list of (key, value) pairs with strictly rising keys; an unlisted key has a default value that
the reader names. -/
abbrev Sparse (α : Type) := List (Nat × α)

end Sys2Proof
end

