-- ==== Sys2Proof/Syntax.lean ====
section
/-! DEFINITION. The commands of the block: one constructor for each row of the opcode table, with the operands that the
spec gives it. An event from outside (a frame, a word, a level, an instant) comes as the operands of its command. -/

namespace Sys2Proof

/-- A command descriptor (03 R86), field by field; `rsv` holds bytes 20-23. -/
structure Desc where
  opcode : Nat := 0
  flags : Nat := 0
  version : Nat := 2
  tag : Nat := 0
  dataAddr : Nat := 0
  dataLen : Nat := 0
  rsv : Nat := 0
  params : List Nat := []
  deriving DecidableEq, Repr

/-- A job: the command ring it came from, the ring's consumer index after its descriptor, its number among the descriptors
fetched, the descriptor, and the bytes of its data buffer as the host memory holds them when the job reads them. -/
structure Job where
  ring : Nat := 0
  head : Nat := 0
  num : Nat := 0
  desc : Desc := {}
  data : List Nat := []
  deriving DecidableEq, Repr

/-- What host memory holds in a command ring: the entries of 64 B from its consumer index on. -/
structure RingDescs where
  ring : Nat := 0
  descs : List (List Nat) := []
  deriving DecidableEq, Repr

/-- One 16 B element of an in-stream (03 R96). -/
structure StreamEl where
  pos : Int := 0
  vel : Int := 0
  tag : Nat := 0
  axis : Nat := 0
  last : Bool := false
  deriving DecidableEq, Repr

/-- Who makes a register access: a fabric port (01 R38; port 1 is the host through BAR0), or the host through BAR2 or BAR4 at the given
offset (01 R45, 03 R80). -/
inductive Via where
  | port (p : Nat)
  | bar2
  | bar4
  deriving DecidableEq, Repr

/-- What a program run brings that no layout of the model places (05 R163): the offset of its section, which counts at the first end of
its slot. -/
structure ProgramRun where
  off : Nat := 0
  deriving DecidableEq, Repr

/-- What a run has met (05 R158, R160, R164): saturated write-backs; the violations in order, as variable IDs, 0xFFFF_FFFF for an
input; for IK_DLS the updates done and whether a joint has been clamped to its travel. -/
structure RunMet where
  sats : Nat := 0
  viol : List Nat := []
  iter : Nat := 0
  clamped : Bool := false
  deriving DecidableEq, Repr

/-- Why a run is aborted (05 R165): a poisoned word, or else an invalid instruction or address; and what it had met. -/
structure RunAbort where
  poison : Bool := false
  met : RunMet := {}
  deriving DecidableEq, Repr

/-- A request that a manager sends to a worker in its asynchronous slots (09 R284, R291; 14 R423; 20 R577): 1 enable, 2 disable,
3 injection, 4 timed output, 5 Tap; the cycle named, the cell axes as a mask (the output for kind 4), the data. -/
structure AsyncReq where
  node : Nat := 0
  kind : Nat := 0
  cycle : Nat := 0
  axes : Nat := 0
  data : List Nat := []
  deriving DecidableEq, Repr

/-- A worker's answer to a request: its node, the request's kind and cycle, status code and DETAIL. -/
structure AsyncAns where
  node : Nat := 0
  kind : Nat := 0
  cycle : Nat := 0
  status : Nat := 0
  detail : Nat := 0
  deriving DecidableEq, Repr

/-- A HEARTBEAT frame of the pair link (17 R490): role, rank, SEQ acknowledged, the swap cycle that the sender carries or
confirms, whether it asks for a swap, its last comparison class
and verdict, SYS_LOCK; its departure, and the echo of the last frame received
with its arrival, in 1/4 ticks (R498). -/
structure HbFrame where
  role : Nat := 0
  rank : Nat := 0
  ack : Nat := 0
  swapAt : Option Nat := none
  want : Bool := false
  cls : Nat := 0
  clean : Bool := false
  locks : Nat := 0
  tx : Nat := 0
  echoTx : Nat := 0
  echoRx : Nat := 0
  deriving DecidableEq, Repr

/-- An INPUT frame's content (17 R494): a job with its data, or an in-stream block. -/
inductive PairInput where
  | job (j : Job)
  | block (ring cycle : Nat) (els : List StreamEl)
  deriving DecidableEq, Repr

/-- A SNAPSHOT frame (17 R495): the newest input taken, speed limits by group, M_p by group, (group, feed hold, override),
EPOCH with whether the first lock has set it (14 R411), y, selected domain; the master samples used, by port (08 R253). -/
structure SnapFrame where
  seq : Nat := 0
  limits : List Nat := []
  mps : List (Nat × Int) := []
  ovr : List (Nat × Bool × Nat) := []
  epoch : Int := 0
  first : Bool := false
  y : Int := 0
  dom : Nat := 0
  samples : List (Nat × List (Nat × Int × Bool)) := []
  deriving DecidableEq, Repr

/-- Group state in a MIRROR frame (17 R496): k with its first two differences, path time, mode, feed hold, segment, gear engaged,
gear anchors as (P_a, F_a, old and new ratio, ramp length, falling), armed changes as (P_C, falling, ramp length, tag, then the
ratios). -/
structure MirrorGroup where
  group : Nat := 0
  k : Int := 0
  d1 : Int := 0
  d2 : Int := 0
  theta : Nat := 0
  mode : Nat := 0
  fh : Bool := false
  sid : Nat := 0
  engaged : Bool := false
  laws : List (List Int) := []
  armed : List (List Int) := []
  deriving DecidableEq, Repr

/-- The shared start in a MIRROR frame (17 R496): RUN_START_STAT.STATE, groups armed, the tick of arming, the start instant with whether
it was moved, whether the arming waits for a snapshot. -/
structure MirrorStart where
  state : Nat := 0
  groups : List Nat := []
  armTick : Nat := 0
  ts : Option Nat := none
  moved : Bool := false
  atSnap : Bool := false
  deriving DecidableEq, Repr

/-- A MIRROR frame (17 R496): its cycle; committed entries by cell axis; group state; ATTEMPT words and miss runs by slot;
reactions as (class, kind, scope); rollback causes by group; jobs awaiting completion as (TAG, ring, cycle of effect); the mode
exchange as (mode, switch cycle, cycle a, decision) with its acknowledgements; the admitted set and the electorate as masks;
SWAP_AT; changed Crucible sections by address; the shared start. -/
structure MirrorFrame where
  cycle : Nat := 0
  ents : List (Nat × List Int) := []
  groups : List MirrorGroup := []
  attempts : List Nat := []
  missRun : List Nat := []
  reacs : List (Nat × Nat × Nat) := []
  causes : List (Nat × Nat) := []
  jobs : List (Nat × Nat × Nat) := []
  exch : Option (Nat × Nat × Nat × Nat) := none
  acks : List Nat := []
  admitted : Nat := 0
  elect : Nat := 0
  swapAt : Option Nat := none
  secs : List (Nat × List Nat) := []
  start : MirrorStart := {}
  deriving DecidableEq, Repr

/-- A time-scale ramp (07 R211): k, its first and second difference at the entry before, the target as a fraction of
2^-30 steps, the duration in cycles, the entry index. -/
structure Ramp where
  k0 : Int := 0
  d1 : Int := 0
  d2 : Int := 0
  num : Nat := 0
  den : Nat := 1
  dur : Nat := 1
  i : Nat := 0
  deriving DecidableEq, Repr

/-- A queued segment (07 R209): type, tag, item, flags, descriptor indices, duration and largest speed; the scales of a PTP, or the
interval that a spline was given; PTP start (none where it is not known yet), target and phase lengths t1, t2, t4, t, tt of each axis;
spline control points by axis and interval; path item bytes, geometry and speed
profile; the path time at which it starts, once known, and the cycle of its first entry. -/
structure Seg where
  typ : Nat := 0
  sid : Nat := 0
  item : Nat := 0
  first : Bool := false
  last : Bool := false
  wait : Bool := false
  ix : List Nat := []
  len : Nat := 0
  vpk : Nat := 0
  vs : Nat := 0
  acs : Nat := 0
  start : List Int := []
  target : List Int := []
  prof : List (List Nat) := []
  ctrl : List (List Int) := []
  interval : Nat := 1
  raw : List Nat := []
  geo : List Int := []
  spd : List Int := []
  t0 : Option Nat := none
  c0 : Option Nat := none
  deriving DecidableEq, Repr

/-- A time-based stop (07 R221): cycle and positions it starts from, start speed (62 fraction bits), t1 and t2 of each axis, the
duration of the slowest. -/
structure Halt where
  c0 : Nat := 0
  base : List Int := []
  curves : List (Int × Nat × Nat) := []
  dur : Nat := 0
  deriving DecidableEq, Repr

/-- A follower's gear law (08 R246): anchor (master with 32 fraction bits, position), old and new ratio, ramp length, falling. -/
structure Law where
  pa : Int := 0
  fa : Int := 0
  no : Int := 0
  dO : Nat := 1
  nn : Int := 0
  dn : Nat := 1
  w : Nat := 0
  fall : Bool := false
  deriving DecidableEq, Repr

/-- An armed ratio change (08 R248): position, falling, ramp length, tag, ratios (0, 0 keeps one). -/
structure Change where
  pc : Int := 0
  fall : Bool := false
  w : Nat := 0
  tag : Nat := 0
  ratios : List (Int × Nat) := []
  deriving DecidableEq, Repr

/-- A master (08 R237 to R242): node and port; position at its base instant (32 fraction bits), speed, base instant (PTP ns, or
virtual advance in 2^-30 cycles), speed before a change and its duration in ns; samples of the last three cycles, newest first, as
(cycle, position, PRED 0); missing samples in a row, whether their loss has been reported; the position evaluated for the last entry, its
speed and that for the cycle after; PRED and LEAD as the last snapshot found them; a speed change that waits for its cycle of effect (V,
D); the changes of a network master whose T0 is still to come, earliest first, as (T0, V, D). -/
structure Master where
  node : Nat := 0
  port : Nat := 0
  p0 : Int := 0
  v : Int := 0
  t0 : Nat := 0
  va : Int := 0
  d : Nat := 0
  samples : List (Nat × Int × Bool) := []
  miss : Nat := 0
  mp : Int := 0
  vm : Int := 0
  vm2 : Int := 0
  said : Bool := false
  pred : Nat := 1
  lead : Int := 400
  next : Option (Int × Nat) := none
  later : List (Nat × Int × Nat) := []
  deriving DecidableEq, Repr

/-- The plan of a group after the entry of a cycle: positions and speeds in group index order, path time (32 fraction bits), k
with its differences, the target in force and its ramp, the queue and what waits for a stop to end, the mode (0 none, 1 STOP, 2
REPLACE, 3 RAMP, 4 HOLD, 5 CUT), whether the stop at rest has been carried out, feed hold and its report, the stream with its first
block seen and its run of extrapolated entries, a time-based stop, the reference pose (position, quaternion) of chain groups, SRC,
SEG_ID and further flags of the entry, the armed changes, the master and the laws of a geared group, whether the last latched change falls; the cause of a stop in progress;
events (kind, value) and gear event records (position, tag, crossing) that the commit of the entry reports. -/
structure Dyn where
  c : Nat := 0
  pos : List Int := []
  vel : List Int := []
  acc : List Int := []
  theta : Nat := 0
  k : Int := 1073741824
  d1 : Int := 0
  d2 : Int := 0
  ksNum : Nat := 1073741824
  ksDen : Nat := 1
  ramp : Option Ramp := none
  segs : List Seg := []
  after : List Seg := []
  mode : Nat := 0
  atStop : Bool := false
  fh : Bool := false
  fhSaid : Bool := false
  stream : Option Nat := none
  strFirst : Bool := false
  urun : Nat := 0
  halt : Option Halt := none
  pose : List Int := []
  twist : List Int := []
  src : Nat := 0
  sid : Nat := 0
  flags : Nat := 0
  engaged : Bool := false
  gsrc : Nat := 0
  master : Master := {}
  laws : List Law := []
  armed : List Change := []
  lastPC : Option (Int × Nat) := none
  fall : Bool := false
  events : List (Nat × Nat) := []
  gev : List (Nat × Nat × Nat) := []
  cause : Nat := 0
  deriving DecidableEq, Repr

/-- What an accepted motion job asks of the next snapshot, as a BULK frame carries it: kind, group, numbers, segments, a gear's plan,
armed changes. Its job stays with the active manager. -/
structure PairAct where
  kind : Nat := 0
  grp : Nat := 0
  data : List Int := []
  segs : List Seg := []
  gear : Option Dyn := none
  change : Option Change := none
  deriving DecidableEq, Repr

/-- A BULK frame's content (17 R511): a piece of the Mould image, the lock state with the SCHEDULE tags, a piece of memory
(segment areas, Crucible sections), the queue and plan of a group, a pending input, what the motion jobs that wait for a snapshot ask
of it, the group-state frame of cycle c_r. -/
inductive BulkContent where
  | image (total off : Nat) (bytes : List Nat)
  | locks (l : Nat) (tags : List Nat)
  | memory (addr : Nat) (bytes : List Nat)
  | plan (group : Nat) (d : Dyn)
  | input (x : PairInput)
  | acts (l : List PairAct)
  | state (f : MirrorFrame)
  deriving DecidableEq, Repr

/-- A pair-link frame by its TYPE (17 R490): HEARTBEAT, INPUT, SNAPSHOT, DIGEST (CRC-32 by group, ATTEMPT words), MIRROR, TIME
(cell time in ticks at its first block), BULK. -/
inductive DuoFrame where
  | heartbeat (f : HbFrame)
  | input (x : PairInput)
  | snapshot (f : SnapFrame)
  | digest (crcs attempts : List Nat)
  | mirror (f : MirrorFrame)
  | time (t : Nat)
  | bulk (c : BulkContent)
  deriving DecidableEq, Repr
/-- A boundary-scan cell of JTAG (24 R660): ball group (0 G18, 1 G33, 2 OD33, 3 S33), ball, level. -/
structure JPin where
  group : Nat := 0
  ball : Nat := 0
  level : Bool := false
  deriving DecidableEq, Repr

/-- What a configuration request reads or writes: the items of 03 R78. -/
inductive CfgItem where
  /-- Vendor ID (low half) and Device ID. -/
  | ident
  | classCode
  /-- Word 0 or 1 of the Device Serial Number. -/
  | serial (i : Nat)
  /-- Largest payload and read request supported, and the values set: size codes, 128 B times 2 to the code. -/
  | maxPayloadCap
  | maxPayload
  | maxReadRequest
  /-- D0 (0) or D3hot (3). -/
  | powerState
  /-- Size in bytes that base address register i claims. -/
  | barSize (i : Nat)
  /-- A register of Advanced Error Reporting, by its number in the capability. -/
  | aer (i : Nat)
  /-- The command register. -/
  | command
  /-- Message control of the MSI-X capability. -/
  | msixControl
  /-- A capability or mechanism that R78 does not list. -/
  | absent
  deriving DecidableEq, Repr

/-- A configuration request (03 R78, R79): whether the configuration space has been loaded by now, the item, the value of a write. -/
structure CfgRequest where
  loaded : Bool := false
  item : CfgItem := .absent
  write : Option Nat := none
  deriving DecidableEq, Repr

/-- The PCIe link as it trains (03 R79): its speed code, and whether PERST# is still asserted. -/
structure PcieLink where
  speed : Nat := 0
  perst : Bool := false
  deriving DecidableEq, Repr

/-- The commands (95: each row is one whole step). -/
inductive Instr where
  /-- GET_INFO (R104). -/
  | getInfo (j : Job)
  /-- SET_LOCK (R137). -/
  | setLock (j : Job)
  /-- GET_FAULT_LOG (R638). -/
  | getFaultLog (j : Job)
  /-- RESET_BLOCK (R617). -/
  | resetBlock (j : Job)
  /-- MODEL_LOAD (R124). -/
  | modelLoad (j : Job)
  /-- MODEL_READ (R117). -/
  | modelRead (j : Job)
  /-- CREATE_RING (R105). -/
  | createRing (j : Job)
  /-- DELETE_RING (R107). -/
  | deleteRing (j : Job)
  /-- ROUTE_EVENTS (R94). -/
  | routeEvents (j : Job)
  /-- SET_COALESCE (R102). -/
  | setCoalesce (j : Job)
  /-- SET_DMA_WINDOW (R83). -/
  | setDmaWindow (j : Job)
  /-- LADLE_STATS (R531). -/
  | ladleStats (j : Job)
  /-- CRUC_STATUS (R103). -/
  | crucStatus (j : Job)
  /-- MOVE_PTP (R213). -/
  | movePtp (j : Job)
  /-- MOVE_PATH (R215). -/
  | movePath (j : Job)
  /-- MOVE_SPLINE (R219). -/
  | moveSpline (j : Job)
  /-- STREAM_BIND (R220). -/
  | streamBind (j : Job)
  /-- FEED_HOLD (R232). -/
  | feedHold (j : Job)
  /-- RESUME (R232). -/
  | resumeJob (j : Job)
  /-- OVERRIDE (R233). -/
  | overrideJob (j : Job)
  /-- STOP (R234). -/
  | stopJob (j : Job)
  /-- GEAR_SET (R244). -/
  | gearSet (j : Job)
  /-- GEAR_CHANGE_AT (R249). -/
  | gearChangeAt (j : Job)
  /-- SHARED_START (R255). -/
  | sharedStart (j : Job)
  /-- AXIS_ENABLE (R284). -/
  | axisEnable (j : Job)
  /-- AXIS_DISABLE (R284). -/
  | axisDisable (j : Job)
  /-- TUNE_INJECT (R291). -/
  | tuneInject (j : Job)
  /-- NET_START (R383). -/
  | netStart (j : Job)
  /-- MODE_SWITCH (R367). -/
  | modeSwitch (j : Job)
  /-- NET_STATUS (R103). -/
  | netStatus (j : Job)
  /-- TIMED_OUT (R423). -/
  | timedOut (j : Job)
  /-- DOMAIN_SELECT (R420). -/
  | domainSelect (j : Job)
  /-- TAP_ARM (R577). -/
  | tapArm (j : Job)
  /-- TAP_STOP (R576). -/
  | tapStop (j : Job)
  /-- SAFE_CONFIG (R468). -/
  | safeConfig (j : Job)
  /-- SAFE_MIRROR_READ (R680). -/
  | safeMirrorRead (j : Job)
  /-- PAIR_SWAP (R502). -/
  | pairSwap (j : Job)
  /-- PAIR_STATUS (R103). -/
  | pairStatus (j : Job)
  /-- MEM_ERR_LOG (R611). -/
  | memErrLog (j : Job)
  /-- TEST_PERTURB (R675). -/
  | testPerturb (j : Job)
  /-- DESCRIPTOR_FETCH (R89). -/
  | descriptorFetch (rings : List RingDescs)
  /-- COMPLETION_ENTRY_WRITE (R92). -/
  | completionEntryWrite (cq : Nat)
  /-- EVENT_ENTRY_WRITE (R95). -/
  | eventEntryWrite (k : Nat)
  /-- COMMAND_PRODUCER_DOORBELL (R81). -/
  | commandProducerDoorbell (k v : Nat)
  /-- COMPLETION_CONSUMER_DOORBELL (R81). -/
  | completionConsumerDoorbell (k v : Nat)
  /-- EVENT_CONSUMER_DOORBELL (R81). -/
  | eventConsumerDoorbell (k v : Nat)
  /-- STREAM_PRODUCER_DOORBELL (R81). -/
  | streamProducerDoorbell (k v : Nat)
  /-- STREAM_CONSUMER_DOORBELL (R81). -/
  | streamConsumerDoorbell (k v : Nat)
  /-- STREAM_BLOCK_FETCH (R97). -/
  | streamBlockFetch (k : Nat) (els : List (List Nat))
  /-- TELEMETRY_BLOCK_WRITE (R100). -/
  | telemetryBlockWrite (k : Nat)
  /-- COALESCE_TIMER_EXPIRY (R102). -/
  | coalesceTimerExpiry (v : Nat)
  /-- MSIX_TABLE_WRITE (R79). -/
  | msixTableWrite (v d x : Nat)
  /-- FEATURE_NEGOTIATION_GO (R110). -/
  | featureNegotiationGo (x : Nat)
  /-- FEATURE_NEGOTIATION_DONE (R110). -/
  | featureNegotiationDone
  /-- PERST (R111): PERST# is asserted. -/
  | perst
  /-- HOT_RESET (R111). -/
  | hotReset
  /-- FUNCTION_LEVEL_RESET (R111). -/
  | functionLevelReset
  /-- PCIE_LINK_LOSS (R111). -/
  | pcieLinkLoss
  /-- PCIE_LINK_UP (R79). -/
  | pcieLinkUp (link : PcieLink) (width : Nat)
  /-- RING_ENABLE (R105). -/
  | ringEnable (kind k : Nat)
  /-- RING_DISABLE (R107). -/
  | ringDisable (kind k : Nat)
  /-- BAR4_WRITE (R46). -/
  | bar4Write (off : Nat) (l : List Nat)
  /-- REGISTER_WRITE (R681). -/
  | registerWrite (via : Via) (addr x : Nat)
  /-- REGISTER_LO_READ (R13). -/
  | registerLoRead (via : Via) (addr : Nat)
  /-- CFG_LOCK_SET (R136). -/
  | cfgLockSet
  /-- LIMIT_LOCK_SET (R136). -/
  | limitLockSet
  /-- SCHED_LOCK_SET (R136). -/
  | schedLockSet
  /-- CYCLE_CFG_WRITE (R678). -/
  | cycleCfgWrite (x : Nat)
  /-- CYCLE_LENGTH_CHANGE (R678). -/
  | cycleLengthChange
  /-- CYCLE_BOUNDARY (R62). -/
  | cycleBoundary
  /-- PHASE_P1_START (R62). -/
  | phaseP1Start
  /-- RUNNER_SNAPSHOT (R63). -/
  | runnerSnapshot
  /-- GRAPH_OPEN (R517). -/
  | graphOpen
  /-- RUNNER_TARGETS (R224). -/
  | runnerTargets
  /-- RUNNER_PREP (R224). -/
  | runnerPrep
  /-- RUNNER_COMMIT (R223). -/
  | runnerCommit
  /-- REFILL_COMPLETE (R229). -/
  | refillComplete (g : Nat)
  /-- STREAM_UNDERRUN_STOP (R221). -/
  | streamUnderrunStop (g : Nat)
  /-- GEAR_MASTER_LOST (R239). -/
  | gearMasterLost (g : Nat)
  /-- CRUCIBLE_DEADLINE (R193). -/
  | crucibleDeadline (stops : List (Nat × RunMet))
  /-- COMMIT_DEADLINE (R65). -/
  | commitDeadline
  /-- PHASE_P3_START (R62). -/
  | phaseP3Start
  /-- PHASE_P4_START (R62). -/
  | phaseP4Start
  /-- CRUCIBLE_PROGRAM_START (R156). -/
  | crucibleProgramStart (k t : Nat)
  /-- CRUCIBLE_PROGRAM_END (R163). -/
  | crucibleProgramEnd (k t : Nat) (x : ProgramRun)
  /-- CRUCIBLE_PROGRAM_ABORT (R165). -/
  | crucibleProgramAbort (k t : Nat) (why : RunAbort)
  /-- ITEM_DISPATCH (R521). -/
  | itemDispatch (t : Nat)
  /-- RUN_LIMIT_EXPIRY (R522). -/
  | runLimitExpiry (c : Nat)
  /-- LADLE_SUBMIT (R526). -/
  | ladleSubmit (port : Nat) (l : List Nat)
  /-- COUNTER_SET (R520). -/
  | counterSet (v : Nat)
  /-- COUNTER_DECREMENT (R519). -/
  | counterDecrement (n : Nat)
  /-- ADD (R553). -/
  | addR (c rd rs1 rs2 : Nat)
  /-- SUB (R553). -/
  | subR (c rd rs1 rs2 : Nat)
  /-- AND (R553). -/
  | andR (c rd rs1 rs2 : Nat)
  /-- OR (R553). -/
  | orR (c rd rs1 rs2 : Nat)
  /-- XOR (R553). -/
  | xorR (c rd rs1 rs2 : Nat)
  /-- SHL (R553). -/
  | shl (c rd rs1 rs2 : Nat)
  /-- SHR (R553). -/
  | shr (c rd rs1 rs2 : Nat)
  /-- SHA (R553). -/
  | sha (c rd rs1 rs2 : Nat)
  /-- LT (R553). -/
  | lt (c rd rs1 rs2 : Nat)
  /-- LTU (R553). -/
  | ltu (c rd rs1 rs2 : Nat)
  /-- MUL (R539). -/
  | mul (c rd rs1 rs2 : Nat)
  /-- MULH (R539). -/
  | mulh (c rd rs1 rs2 : Nat)
  /-- ADDS (R539). -/
  | adds (c rd rs1 rs2 : Nat)
  /-- SUBS (R539). -/
  | subs (c rd rs1 rs2 : Nat)
  /-- MIN (R553). -/
  | minR (c rd rs1 rs2 : Nat)
  /-- MAX (R553). -/
  | maxR (c rd rs1 rs2 : Nat)
  /-- CLS (R553). -/
  | cls (c rd rs1 : Nat)
  /-- ADD_W (R539). -/
  | addW (c rd rs1 rs2 : Nat)
  /-- SUB_W (R539). -/
  | subW (c rd rs1 rs2 : Nat)
  /-- ADDK (R552). -/
  | addk (c rd rs1 k : Nat)
  /-- ANDK (R552). -/
  | andk (c rd rs1 k : Nat)
  /-- ORK (R552). -/
  | ork (c rd rs1 k : Nat)
  /-- XORK (R552). -/
  | xork (c rd rs1 k : Nat)
  /-- SHLK (R552). -/
  | shlk (c rd rs1 k : Nat)
  /-- SHRK (R552). -/
  | shrk (c rd rs1 k : Nat)
  /-- SHAK (R552). -/
  | shak (c rd rs1 k : Nat)
  /-- HIK (R552). -/
  | hik (c rd k : Nat)
  /-- LTK (R552). -/
  | ltk (c rd rs1 k : Nat)
  /-- LD_B (R545). -/
  | ldB (c rd rs1 k : Nat)
  /-- LD_H (R545). -/
  | ldH (c rd rs1 k : Nat)
  /-- LD_W (R545). -/
  | ldW (c rd rs1 k : Nat)
  /-- LD_D (R545). -/
  | ldD (c rd rs1 k : Nat)
  /-- LD_BU (R545). -/
  | ldBu (c rd rs1 k : Nat)
  /-- LD_HU (R545). -/
  | ldHu (c rd rs1 k : Nat)
  /-- LD_WU (R545). -/
  | ldWu (c rd rs1 k : Nat)
  /-- ST_B (R545). -/
  | stB (c rs2 rs1 k : Nat)
  /-- ST_H (R545). -/
  | stH (c rs2 rs1 k : Nat)
  /-- ST_W (R545). -/
  | stW (c rs2 rs1 k : Nat)
  /-- ST_D (R545). -/
  | stD (c rs2 rs1 k : Nat)
  /-- PLD (R545). -/
  | pld (c rd p : Nat) (pm : Bool) (sz : Nat) (u : Bool)
  /-- PST (R545). -/
  | pst (c src p : Nat) (pm : Bool) (sz : Nat)
  /-- PSET (R553). -/
  | pset (c k rs1 : Nat)
  /-- PGET (R553). -/
  | pget (c rd k : Nat)
  /-- MSET (R553). -/
  | mset (c k rs1 : Nat)
  /-- MGET (R553). -/
  | mget (c rd k : Nat)
  /-- SSET (R543). -/
  | sset (c k rs1 : Nat)
  /-- SSET_IMMEDIATE (R553). -/
  | ssetImmediate (c k sh : Nat)
  /-- SGET (R553). -/
  | sget (c rd k : Nat)
  /-- PADD (R553). -/
  | padd (c k rs1 : Nat)
  /-- BR_EQ (R552). -/
  | brEq (c rs1 rs2 off : Nat)
  /-- BR_NE (R552). -/
  | brNe (c rs1 rs2 off : Nat)
  /-- BR_LT (R552). -/
  | brLt (c rs1 rs2 off : Nat)
  /-- BR_GE (R552). -/
  | brGe (c rs1 rs2 off : Nat)
  /-- BR_LTU (R552). -/
  | brLtu (c rs1 rs2 off : Nat)
  /-- BR_GEU (R552). -/
  | brGeu (c rs1 rs2 off : Nat)
  /-- LOOP (R548). -/
  | loopR (c rs1 n : Nat)
  /-- CALL (R552). -/
  | callR (c off : Nat)
  /-- CALLR (R552). -/
  | callr (c rd rs1 k : Nat)
  /-- CMAC (R540). -/
  | cmac (c a mode : Nat) (neg clr : Bool) (rs1 rs2 : Nat)
  /-- CMAC_P (R540). -/
  | cmacP (c a mode : Nat) (neg clr : Bool) (pa pb : Nat) (pma pmb : Bool)
  /-- ACLR (R553). -/
  | aclr (c a : Nat)
  /-- AADD (R553). -/
  | aadd (c a b : Nat)
  /-- ASUB (R553). -/
  | asub (c a b : Nat)
  /-- ANEG (R553). -/
  | aneg (c a : Nat)
  /-- ASWAP (R553). -/
  | aswap (c a : Nat)
  /-- MVA (R542). -/
  | mva (c rd a sc part : Nat)
  /-- ALD (R542). -/
  | ald (c a sc rd : Nat)
  /-- LSIG (R550). -/
  | lsig (c rd rs1 rs2 : Nat)
  /-- LSET (R550). -/
  | lset (c rd rs1 rs2 : Nat)
  /-- LCNT (R550). -/
  | lcnt (c rd rs1 : Nat)
  /-- LSUB (R550). -/
  | lsub (c rd rs1 : Nat)
  /-- LSUBT (R550). -/
  | lsubt (c rd rs1 rs2 : Nat)
  /-- DONE (R537). -/
  | doneR (c t : Nat)
  /-- DRAIN (R546). -/
  | drain (c : Nat)
  /-- STRD (R553). -/
  | strd (c rd : Nat)
  /-- STCLR (R553). -/
  | stclr (c : Nat)
  /-- GETCYC (R553). -/
  | getcyc (c rd t : Nat)
  /-- GETTIME (R553). -/
  | gettime (c rd t : Nat)
  /-- GETCORE (R553). -/
  | getcore (c rd : Nat)
  /-- TRAP (R553). -/
  | trapR (c : Nat)
  /-- RDSR (R554). -/
  | rdsr (c rd num : Nat)
  /-- WRSR (R554). -/
  | wrsr (c rs1 num : Nat)
  /-- RETN (R595). -/
  | retn (c : Nat)
  /-- RETF (R595). -/
  | retf (c : Nat)
  /-- IDLE (R598). -/
  | idleR (c : Nat)
  /-- ENTU (R553). -/
  | entu (c rs1 : Nat)
  /-- NORMAL_ENTRY (R595). -/
  | normalEntry
  /-- FAST_ENTRY (R596). -/
  | fastEntry
  /-- INTC_CLAIM_NORMAL (R593). -/
  | intcClaimNormal (port : Nat)
  /-- INTC_CLAIM_FAST (R593). -/
  | intcClaimFast (port : Nat)
  /-- INTC_COMPLETE (R594). -/
  | intcComplete (port x : Nat)
  /-- INTC_PEND_SET (R591). -/
  | intcPendSet (w x : Nat)
  /-- INTC_PEND_CLR (R591). -/
  | intcPendClr (w x : Nat)
  /-- EXTERNAL_LINE_EVENT (R589). -/
  | externalLineEvent (n : Nat) (level : Bool) (samples : Nat)
  /-- LOCKSTEP_MISMATCH (R586). -/
  | lockstepMismatch
  /-- PVC_PASS (R267). -/
  | pvcPass (s k : Nat) (dropped : Bool)
  /-- C_PASS (R267): the bits of the three channels up to the end of the window, newest last, and the tick of the output. -/
  | cPass (s : Nat) (a b c : List Bool) (t : Nat) (dropped : Bool)
  /-- AXL_COMMIT (R299). -/
  | axlCommit (s : Nat)
  /-- TUNE_GO (R300). -/
  | tuneGo (s : Nat)
  /-- TUNE_ABORT (R300). -/
  | tuneAbort (s : Nat)
  /-- CARRIER_BOUNDARY (R308). -/
  | carrierBoundary (s : Nat)
  /-- PER_WRITE (R302). -/
  | perWrite (s x : Nat)
  /-- PWR_COMMIT (R305). -/
  | pwrCommit (s : Nat)
  /-- EVT_CFG_WRITE (R320). -/
  | evtCfgWrite (s x : Nat)
  /-- SWITCH_NODE_CROSSING (R314). -/
  | switchNodeCrossing (s x : Nat) (rising : Bool) (cross : Option Nat)
  /-- TRIP_INPUT (R316). -/
  | tripInput (s i a held : Nat)
  /-- FAST_CHANNEL_SAMPLE (R319): the bits of the channel up to the output, newest last, and its tick. -/
  | fastChannelSample (s ch : Nat) (data : List Bool) (t : Nat)
  /-- SD_CHANNEL_FAULT (R324). -/
  | sdChannelFault (s ch : Nat)
  /-- ENCODER_REQUEST (R333). -/
  | encoderRequest (k j : Nat) (low : Bool)
  /-- ENCODER_WORD (R337). -/
  | encoderWord (k : Nat) (fall : Option Nat) (raw : Nat)
  /-- ENCODER_ENABLE (R333). -/
  | encoderEnable (k x : Nat)
  /-- XPOS_WRITE (R343). -/
  | xposWrite (k x : Nat)
  /-- FRAME_RECEIVE (R358). -/
  | frameReceive (p t4 last : Nat) (clean : Bool) (bytes : List Nat) (reqs : List AsyncReq) (answers : List AsyncAns)
  /-- SLOT_TRANSMIT (R378). -/
  | slotTransmit (h : Nat)
  /-- GUARDIAN_CUT (R372). -/
  | guardianCut (p h : Nat)
  /-- OWN_INSERTION_CUT (R373). -/
  | ownInsertionCut (p h : Nat)
  /-- TX_PUBLISH (R378). -/
  | txPublish (h : Nat)
  /-- ACQUIRE_VIEW (R375). -/
  | acquireView (h : Nat)
  /-- MODE_CTRL_GO (R381). -/
  | modeCtrlGo (k : Nat)
  /-- LINK_FRAME_SEND (R383). -/
  | linkFrameSend (p t : Nat)
  /-- LINK_FRAME_RECEIVE (R384). -/
  | linkFrameReceive (p t4 : Nat) (clean : Bool) (bytes : List Nat)
  /-- LINK_DOWN (R386). -/
  | linkDown (p : Nat)
  /-- LISTEN_TIMEOUT (R391). -/
  | listenTimeout
  /-- COLD_START_END (R392). -/
  | coldStartEnd
  /-- PASSIVE_TIMEOUT (R398). -/
  | passiveTimeout
  /-- SYNC_LOST (R398). -/
  | syncLost
  /-- DISCOVERY_START (R399). -/
  | discoveryStart
  /-- CONFIG_PART_CHECK (R403). -/
  | configPartCheck
  /-- OPERATIONAL_SWITCH (R404). -/
  | operationalSwitch
  /-- AUTO_START (R405). -/
  | autoStart
  /-- PTP_SYNC_RECEIVE (R416). -/
  | ptpSyncReceive (port dn src seq : Nat) (twoStep : Bool) (stamp : Nat) (origin : Int)
  /-- FOLLOW_UP_RECEIVE (R413). -/
  | followUpReceive (port dn src seq : Nat) (origin : Int)
  /-- PDELAY_REQ_RECEIVE (R413). -/
  | pdelayReqReceive (port seq stamp depart : Nat)
  /-- PDELAY_RESP_RECEIVE (R413). -/
  | pdelayRespReceive (port seq : Nat) (t2 t3 : Int) (stamp : Nat)
  /-- ANNOUNCE_RECEIVE (R413). -/
  | announceReceive (port dn src gm : Nat) (vec : List Nat)
  /-- SIGNALING_RECEIVE (R413). -/
  | signalingReceive (port dn : Nat) (logSync : Int)
  /-- MANAGEMENT_RECEIVE (R413). -/
  | managementReceive (port : Nat)
  /-- ETHERNET_FRAME_DISCARD (R414). -/
  | ethernetFrameDiscard (port : Nat)
  /-- PTP_SYNC_TRANSMIT (R413). -/
  | ptpSyncTransmit (d t : Nat)
  /-- PDELAY_REQ_TRANSMIT (R413). -/
  | pdelayReqTransmit (port t : Nat)
  /-- SYNC_RECEIPT_TIMEOUT (R416). -/
  | syncReceiptTimeout (d : Nat)
  /-- FIRST_LOCK_WAIT_EXPIRY (R418). -/
  | firstLockWaitExpiry
  /-- SEL_WRITE (R420). -/
  | selWrite (d : Nat)
  /-- DOMAIN_ENABLE (R416). -/
  | domainEnable (d : Nat) (en : Bool)
  /-- OUT_GO (R423). -/
  | outGo (o : Nat)
  /-- OUT_STOP (R427). -/
  | outStop (o : Nat)
  /-- TIMED_OUTPUT_PULSE (R425). -/
  | timedOutputPulse (o : Nat)
  /-- CAPTURE_EDGE (R429). -/
  | captureEdge (i : Nat) (falling : Bool) (stamp held : Nat)
  /-- CAPTURE_HEAD_REMOVE (R430). -/
  | captureHeadRemove (i : Nat)
  /-- TIME_REFERENCE_MARKER (R431). -/
  | timeReferenceMarker (t : Nat)
  /-- SAFETY_CYCLE_START (R438). -/
  | safetyCycleStart (t edm mism : Nat)
  /-- MIRROR_PUBLISH (R463). -/
  | mirrorPublish
  /-- MIRROR_LATCH_READ (R464). -/
  | mirrorLatchRead (port : Nat)
  /-- MIRROR_STALE (R465). -/
  | mirrorStale
  /-- SAFE_INPUT_CHANGE (R439). -/
  | safeInputChange (i ch : Nat) (samples : List Bool)
  /-- TEST_PULSE (R440). -/
  | testPulse (i ch : Nat) (samples : List Bool)
  /-- DISCREPANCY_TIMEOUT (R441). -/
  | discrepancyTimeout (i : Nat)
  /-- DARK_TEST (R443). -/
  | darkTest (sto : Bool) (o : Nat) (low : Bool)
  /-- EDM_TIMEOUT (R444). -/
  | edmTimeout (o : Nat)
  /-- RESET_BUTTON_RELEASE (R456). -/
  | resetButtonRelease (d : Nat)
  /-- RESET_STUCK (R456). -/
  | resetStuck
  /-- ISLAND_INTERNAL_FAULT (R435). -/
  | islandInternalFault
  /-- ISLAND_SELF_TEST_DONE (R437). -/
  | islandSelfTestDone (ok pressed : Bool)
  /-- MAILBOX_POST (R468). -/
  | mailboxPost
  /-- CONFIG_LOAD (R460). -/
  | configLoad
  /-- CONFIG_SEAL (R460). -/
  | configSeal
  /-- CONFIG_COMMISSION (R460). -/
  | configCommission
  /-- CONFIG_KEY (R460). -/
  | configKey
  /-- CONFIRM_TIMEOUT (R460). -/
  | confirmTimeout
  /-- SENSOR_FRAME_RECEIVE (R476). -/
  | sensorFrameReceive (port t : Nat) (bytes : List Nat)
  /-- PAIR_LINK_ADMIT (R489). -/
  | pairLinkAdmit (skew : Nat)
  /-- ROLE_RESOLVE (R493). -/
  | roleResolve (late : Bool)
  /-- HEARTBEAT_SEND (R490). -/
  | heartbeatSend (t : Nat)
  /-- HEARTBEAT_RECEIVE (R490). -/
  | heartbeatReceive (crcOk : Bool) (f : HbFrame) (t4 : Nat)
  /-- INPUT_RECEIVE (R494). -/
  | inputReceive (crcOk : Bool) (seq : Nat) (x : PairInput)
  /-- SNAPSHOT_RECEIVE (R495). -/
  | snapshotReceive (crcOk : Bool) (f : SnapFrame)
  /-- DIGEST_RECEIVE (R501). -/
  | digestReceive (crcOk : Bool) (crcs att : List Nat)
  /-- MIRROR_RECEIVE (R497). -/
  | mirrorReceive (crcOk : Bool) (f : MirrorFrame)
  /-- TIME_RECEIVE (R498). -/
  | timeReceive (crcOk : Bool) (t arr4 : Nat)
  /-- BULK_RECEIVE (R511). -/
  | bulkReceive (crcOk : Bool) (seq : Nat) (c : BulkContent)
  /-- PAIR_RETRANSMIT_TIMEOUT (R490). -/
  | pairRetransmitTimeout (seq : Nat)
  /-- INPUT_MIRROR_TIMEOUT (R494). -/
  | inputMirrorTimeout (seq : Nat)
  /-- SNAPSHOT_TIMEOUT (R495). -/
  | snapshotTimeout
  /-- PAIR_HEARTBEAT_LOST (R491). -/
  | pairHeartbeatLost
  /-- SWAP_PERIOD_EXPIRY (R502). -/
  | swapPeriodExpiry
  /-- PAIR_CTRL_SWAP (R502). -/
  | pairCtrlSwap
  /-- RESYNC_PHASE_DONE (R511). -/
  | resyncPhaseDone (ok : Bool) (code : Nat)
  /-- SCRUB_READ (R610). -/
  | scrubRead (upsets : List (Nat × List Nat))
  /-- SCRUB_PERIOD_EXPIRY (R610). -/
  | scrubPeriodExpiry
  /-- CORRECTED_WRITE_BACK (R606). -/
  | correctedWriteBack (k : Nat)
  /-- TAP_CTRL_ARM (R584). -/
  | tapCtrlArm
  /-- TAP_CTRL_STOP (R576). -/
  | tapCtrlStop
  /-- TAP_FORCE (R571). -/
  | tapForce
  /-- TAP_SAMPLE (R565). -/
  | tapSample (t : Nat)
  /-- TAP_REARM_END (R575). -/
  | tapRearmEnd
  /-- DRAIN_BLOCK_WRITE (R578). -/
  | drainBlockWrite (waited : Bool)
  /-- TRIGGER_BUS_EDGE (R257). -/
  | triggerBusEdge (l : Nat) (falling : Bool) (t : Nat) (own : Bool)
  /-- LIMIT_INPUT_CHANGE (R260). -/
  | limitInputChange (s : Nat) (neg level : Bool) (held : Nat)
  /-- POWER_ON_RESET (R616). -/
  | powerOnReset
  /-- SUPPLY_OUT_OF_RANGE (R623). -/
  | supplyOutOfRange
  /-- CHIP_RESET_REQUEST (R618). -/
  | chipResetRequest (x : Nat)
  /-- CHIP_RESET (R616). -/
  | chipReset
  /-- RESET_RELEASE (R631). -/
  | resetRelease (pcie : Bool)
  /-- STRAP_SAMPLE (R614). -/
  | strapSample (node src : Nat) (mgr test : Bool) (fuse uid grade : Nat) (hashes : List (List Nat))
  /-- FLASH_DISCOVERY (R625). -/
  | flashDiscovery (header : Bool) (mode : Nat) (eye : List Bool)
  /-- FIRMWARE_AUTHENTICATION (R627). -/
  | firmwareAuthentication (l : List Nat) (ms : Nat)
  /-- BOOT_MODEL_LOAD (R629). -/
  | bootModelLoad (l : List Nat)
  /-- BOOT_LEN_WRITE (R628). -/
  | bootLenWrite (len ms : Nat)
  /-- SIDEBAND_STATUS_RECORD (R621). -/
  | sidebandStatusRecord
  /-- POWER_CONTROL_WRITE (R631). -/
  | powerControlWrite (x : Nat)
  /-- DOMAIN_TRANSITION_DONE (R630). -/
  | domainTransitionDone (d : Nat)
  /-- REF_CLK_FAILURE (R633). -/
  | refClkFailure
  /-- SERDES_PLL_LOCK_LOSS (R633). -/
  | serdesPllLockLoss (k : Nat)
  /-- WATCHDOG_KICK (R634). -/
  | watchdogKick (x t : Nat)
  /-- WATCHDOG_EXPIRY (R635). -/
  | watchdogExpiry (t : Nat)
  /-- RECOVERY_RESET (R635). -/
  | recoveryReset
  /-- MANAGER_LOST (R636). -/
  | managerLost
  /-- TEST_KEY_WRITE (R667). -/
  | testKeyWrite (port x t : Nat)
  /-- TEST_UNIT_ENABLE (R670). -/
  | testUnitEnable (u : Nat)
  /-- TEST_UNIT_DISABLE (R670). -/
  | testUnitDisable (u : Nat)
  /-- TEST_LOCK (R668). -/
  | testLock
  /-- BYPASS (R660). -/
  | bypass
  /-- IDCODE (R660). -/
  | idcode
  /-- SAMPLE_PRELOAD (R660). -/
  | samplePreload (l : List JPin)
  /-- EXTEST (R660). -/
  | extest (l : List JPin)
  /-- CONFIGURATION_REQUEST (R79). -/
  | configurationRequest (x : CfgRequest)
  /-- HOST_READ_COMPLETION (R113). -/
  | hostReadCompletion (err job : Bool) (kind k head : Nat)
  /-- CODE_GROUP_SYNC_ACQUIRED (R383). -/
  | codeGroupSyncAcquired (p : Nat)
  /-- BLOCK_LOCK_LOSS (R491). -/
  | blockLockLoss (lane : Nat)
  /-- SERDES_PLL_RELOCK (R633). -/
  | serdesPllRelock (k : Nat)
  /-- OUTPUT_READBACK_MISMATCH (R443). -/
  | outputReadbackMismatch (sto : Bool) (o : Nat)
  /-- BLOCK_RESET_DONE (R617). -/
  | blockResetDone (b : Nat)
  deriving DecidableEq, Repr

end Sys2Proof
end

