-- ==== Sys2Proof/Decode.lean ====
section
/-! DEFINITION. The command that a word spells. The opcode table gives no row of this block any bits: a command is no word, so
no word spells one. -/

namespace Sys2Proof

/-- The command that `w`, of `nbits` bits, spells by the table's bits: none, since no row gives bits. -/
def decodeTableWord (_nbits _w : Nat) : Option Instr := none

end Sys2Proof
end

