-- ==== Sys2Proof/Config.lean ====
section
/-! DEFINITION. The values that the spec leaves open: opaque constants without a body, so that no proof can rest on a
value of one. `State.free` counts the fresh ones (entry 6). -/

namespace Sys2Proof.Config

/-- A fresh open value: the n-th one that a run needs (entry 6). -/
opaque freeValue : Nat → Nat

/-- Which of the values within 2^-29 of the exact sine the current law takes at an angle (09 R280). -/
opaque sinError : Nat → Nat

/-- The same for the cosine. -/
opaque cosError : Nat → Nat

/-- Which of the values within 2^-29 of the exact sine the Crucible's SINCOS gives at an angle (05 R159). -/
opaque crucSin : Nat → Nat

/-- The same for the cosine. -/
opaque crucCos : Nat → Nat

/-- Which of the values within 1 LSB of the exact result RECIP (true) or RSQRT gives for an input with its fraction bits, in an output
format (05 R159). -/
opaque crucUnit : Bool → Nat → Nat → Nat → Nat

/-- The variable ID of a quantity of a program: model, slot, the quantity's name in the spec's procedure, element (04 R134). -/
opaque programVar : Nat → Nat → String → Nat → Nat

/-- The variable ID that Yunalet gives the torque (false) or the velocity (true) of a joint: model, joint record (04 R135). -/
opaque jointVar : Nat → Nat → Bool → Nat

/-- Component of the gravity of a chain of a model, in Cartesian rates: a model constant whose place the spec does not give (06 R176). -/
opaque gravity : Nat → Nat → Nat → Int

/-- The fraction bits of a quantity for which FORMATS holds no entry. -/
opaque programShift : Nat → Nat → String → Nat → Nat

/-- ALN of the instruction that computes a quantity (05 R158). -/
opaque programAlign : Nat → Nat → String → Nat → Nat

/-- Which value within 32 LSB of the exact distance a DIST program finds (06 R186). -/
opaque distError : Nat → Nat

/-- The position, 32 bits, that a worker island sends for an exact one outside the range of its class (16 R470). Free. -/
opaque farPosition : Int → Nat

/-- Safety cycles after which the worker of an axis set applies a manager's safety frame, D + M of its connection (16 R479), which
the manager's own configuration does not hold. -/
opaque sepDelay : Nat → Nat

/-- The place, in words, of an entry of a line's schedule memory, which the spec does not give (12 R364). -/
opaque schedPlace : Nat → Nat

/-- The link indication of an Ethernet port's PHY at a cell time (14 R433): an input of the plant. Free. -/
opaque rgmiiLink : Nat → Nat → Bool

/-- The manufacturer identity code of the JTAG IDCODE (24 R660). -/
opaque manufacturer : Nat

/-- Vendor ID of the configuration space (03 R78: as the data sheet lists it). -/
opaque vendorId : Nat

/-- Registers of Advanced Error Reporting as PCI Express defines them (03 R78), by the number of reads so far. -/
opaque aer : Nat → Nat

end Sys2Proof.Config
end

