-- ==== Sys2Proof/Machine/Codes.lean ====
section
/-! DEFINITION. The event and status codes of every block, from the code tables of spec/ (R20, R113, R150, R200, R235, R265,
R290, R330, R349, R380, R408, R432, R467, R487, R512, R528, R562, R583, R600, R612, R639, R676). -/

namespace Sys2Proof.Machine

/-- R20: success. -/
def E_OK : Nat := 0
/-- Code E_SYS_STRAP_INVALID. -/
def E_SYS_STRAP_INVALID : Nat := 0x0001
/-- Code E_SYS_LOCK_WRITE. -/
def E_SYS_LOCK_WRITE : Nat := 0x0002
/-- Code E_SYS_ACCESS_DENIED. -/
def E_SYS_ACCESS_DENIED : Nat := 0x0003
/-- Code E_SYS_DOMAIN_OFF. -/
def E_SYS_DOMAIN_OFF : Nat := 0x0004
/-- Code E_SYS_ROLE_UNSUPPORTED. -/
def E_SYS_ROLE_UNSUPPORTED : Nat := 0x0005
/-- Code E_SYS_AUTH_FAIL. -/
def E_SYS_AUTH_FAIL : Nat := 0x0006
/-- Code E_SYS_BOOT_FLASH. -/
def E_SYS_BOOT_FLASH : Nat := 0x0007
/-- Code E_SYS_CLOCK. -/
def E_SYS_CLOCK : Nat := 0x0008
/-- Code E_SYS_RESET_BUSY. -/
def E_SYS_RESET_BUSY : Nat := 0x0009
/-- Code E_SYS_MANAGER_LOST. -/
def E_SYS_MANAGER_LOST : Nat := 0x000A
/-- Code E_SYS_WDT. -/
def E_SYS_WDT : Nat := 0x000B
/-- Code E_SYS_LOG_CORRUPT. -/
def E_SYS_LOG_CORRUPT : Nat := 0x000C
/-- Code E_SYS_BAD_CFG. -/
def E_SYS_BAD_CFG : Nat := 0x000D
/-- Code E_SYS_MODEL_FORMAT. -/
def E_SYS_MODEL_FORMAT : Nat := 0x0030
/-- Code E_SYS_MODEL_ROLE. -/
def E_SYS_MODEL_ROLE : Nat := 0x0031
/-- Code E_SYS_MODEL_CAPACITY. -/
def E_SYS_MODEL_CAPACITY : Nat := 0x0032
/-- Code E_SYS_MODEL_REF. -/
def E_SYS_MODEL_REF : Nat := 0x0033
/-- Code E_SYS_MODEL_RANGE. -/
def E_SYS_MODEL_RANGE : Nat := 0x0034
/-- Code E_SYS_MODEL_MEMORY. -/
def E_SYS_MODEL_MEMORY : Nat := 0x0035
/-- Code E_SYS_MODEL_REACTION. -/
def E_SYS_MODEL_REACTION : Nat := 0x0036
/-- Code E_SYS_MODEL_CARRIER. -/
def E_SYS_MODEL_CARRIER : Nat := 0x0037
/-- Code E_SYS_MODEL_BUSY. -/
def E_SYS_MODEL_BUSY : Nat := 0x0038
/-- Code E_SYS_NO_MODEL. -/
def E_SYS_NO_MODEL : Nat := 0x0039
/-- Code E_SYS_LOCK_ORDER. -/
def E_SYS_LOCK_ORDER : Nat := 0x003A
/-- Code E_SYS_LIMIT_INVALID. -/
def E_SYS_LIMIT_INVALID : Nat := 0x003B
/-- Code E_SYS_NOT_LOCKED. -/
def E_SYS_NOT_LOCKED : Nat := 0x003C
/-- Code E_RESOURCE_BUSY. -/
def E_RESOURCE_BUSY : Nat := 0x0040
/-- Code E_SYS_BOOTED. -/
def E_SYS_BOOTED : Nat := 0x0080
/-- Code E_SYS_BLOCK_RESET. -/
def E_SYS_BLOCK_RESET : Nat := 0x0081
/-- Code E_SYS_BOOT_PHASE. -/
def E_SYS_BOOT_PHASE : Nat := 0x0082
/-- Code E_SYS_MODEL_LOADED. -/
def E_SYS_MODEL_LOADED : Nat := 0x00B0
/-- Code E_SYS_LOCK_SET. -/
def E_SYS_LOCK_SET : Nat := 0x00B1
/-- Code E_SYS_RESOURCE_FALLBACK. -/
def E_SYS_RESOURCE_FALLBACK : Nat := 0x00B2
/-- Code E_HIF_BAD_DESC. -/
def E_HIF_BAD_DESC : Nat := 0x0101
/-- Code E_HIF_BAD_OPCODE. -/
def E_HIF_BAD_OPCODE : Nat := 0x0102
/-- Code E_HIF_NOT_NEGOTIATED. -/
def E_HIF_NOT_NEGOTIATED : Nat := 0x0103
/-- Code E_HIF_FEATURE_OFF. -/
def E_HIF_FEATURE_OFF : Nat := 0x0104
/-- Code E_HIF_STANDBY. -/
def E_HIF_STANDBY : Nat := 0x0105
/-- Code E_HIF_DMA_DENIED. -/
def E_HIF_DMA_DENIED : Nat := 0x0106
/-- Code E_HIF_BAD_PARAM. -/
def E_HIF_BAD_PARAM : Nat := 0x0107
/-- Code E_HIF_RING_FAULT. -/
def E_HIF_RING_FAULT : Nat := 0x0108
/-- Code E_HIF_RING_IN_USE. -/
def E_HIF_RING_IN_USE : Nat := 0x0109
/-- Code E_HIF_DOORBELL_BAD. -/
def E_HIF_DOORBELL_BAD : Nat := 0x010A
/-- Code E_HIF_FEAT_REQUIRED. -/
def E_HIF_FEAT_REQUIRED : Nat := 0x010B
/-- Code E_HIF_FEAT_LOCKED. -/
def E_HIF_FEAT_LOCKED : Nat := 0x010C
/-- Code E_HIF_STREAM_FORMAT. -/
def E_HIF_STREAM_FORMAT : Nat := 0x010D
/-- Code E_HIF_STREAM_LATE. -/
def E_HIF_STREAM_LATE : Nat := 0x010E
/-- Code E_HIF_HOST_ABORT. -/
def E_HIF_HOST_ABORT : Nat := 0x010F
/-- Code E_HIF_LINK_UP. -/
def E_HIF_LINK_UP : Nat := 0x0181
/-- Code E_HIF_LINK_RESET. -/
def E_HIF_LINK_RESET : Nat := 0x0182
/-- Code E_HIF_FEAT_DONE. -/
def E_HIF_FEAT_DONE : Nat := 0x0183
/-- Code E_HIF_STREAM_DROP. -/
def E_HIF_STREAM_DROP : Nat := 0x0184
/-- Code E_INTC_BAD_COMPLETE. -/
def E_INTC_BAD_COMPLETE : Nat := 0x0201
/-- Code E_INTC_BAD_CFG. -/
def E_INTC_BAD_CFG : Nat := 0x0202
/-- Code E_LADLE_NO_SHARE. -/
def E_LADLE_NO_SHARE : Nat := 0x0301
/-- Code E_LADLE_SUBMIT. -/
def E_LADLE_SUBMIT : Nat := 0x0302
/-- Code E_LADLE_OVERRUN. -/
def E_LADLE_OVERRUN : Nat := 0x0303
/-- Code E_LADLE_ITEM_FAULT. -/
def E_LADLE_ITEM_FAULT : Nat := 0x0304
/-- Code E_LADLE_DEADLINE. -/
def E_LADLE_DEADLINE : Nat := 0x0305
/-- Code E_LADLE_GRAPH_LATE. -/
def E_LADLE_GRAPH_LATE : Nat := 0x0306
/-- Code E_LADLE_UNDERFLOW. -/
def E_LADLE_UNDERFLOW : Nat := 0x0307
/-- Code E_LADLE_BAD_CFG. -/
def E_LADLE_BAD_CFG : Nat := 0x0308
/-- Code E_LADLE_LONG_WAIT. -/
def E_LADLE_LONG_WAIT : Nat := 0x0381
/-- Code E_CORE_BAD_CFG. -/
def E_CORE_BAD_CFG : Nat := 0x0401
/-- Code E_CORE_DOUBLE_FAULT. -/
def E_CORE_DOUBLE_FAULT : Nat := 0x0402
/-- Code E_CORE_LOCKSTEP. -/
def E_CORE_LOCKSTEP : Nat := 0x0403
/-- Code E_CRUC_RANGE. -/
def E_CRUC_RANGE : Nat := 0x0501
/-- Code E_CRUC_SATURATED. -/
def E_CRUC_SATURATED : Nat := 0x0502
/-- Code E_CRUC_NOT_CONVERGED. -/
def E_CRUC_NOT_CONVERGED : Nat := 0x0503
/-- Code E_CRUC_PROG_FAULT. -/
def E_CRUC_PROG_FAULT : Nat := 0x0504
/-- Code E_CRUC_POISON. -/
def E_CRUC_POISON : Nat := 0x0505
/-- Code E_CRUC_BAD_CFG. -/
def E_CRUC_BAD_CFG : Nat := 0x0506
/-- Code E_CRUC_DEADLINE. -/
def E_CRUC_DEADLINE : Nat := 0x0510
/-- Code E_CRUC_SINGULAR. -/
def E_CRUC_SINGULAR : Nat := 0x0511
/-- Code E_CRUC_INPUT_STALE. -/
def E_CRUC_INPUT_STALE : Nat := 0x0512
/-- Code E_CRUC_COLD_START. -/
def E_CRUC_COLD_START : Nat := 0x0581
/-- Code E_CRUC_DIST_NEAR. -/
def E_CRUC_DIST_NEAR : Nat := 0x0590
/-- Code E_RUN_BAD_KIND. -/
def E_RUN_BAD_KIND : Nat := 0x0601
/-- Code E_RUN_COUPLED. -/
def E_RUN_COUPLED : Nat := 0x0602
/-- Code E_RUN_QUEUE_FULL. -/
def E_RUN_QUEUE_FULL : Nat := 0x0603
/-- Code E_RUN_BAD_DATA. -/
def E_RUN_BAD_DATA : Nat := 0x0604
/-- Code E_RUN_GROUP_BUSY. -/
def E_RUN_GROUP_BUSY : Nat := 0x0605
/-- Code E_RUN_RAMP_ACTIVE. -/
def E_RUN_RAMP_ACTIVE : Nat := 0x0606
/-- Code E_RUN_STREAM_UNDERRUN. -/
def E_RUN_STREAM_UNDERRUN : Nat := 0x0607
/-- Code E_RUN_STREAM_BROKEN. -/
def E_RUN_STREAM_BROKEN : Nat := 0x0608
/-- Code E_RUN_POLICY. -/
def E_RUN_POLICY : Nat := 0x0609
/-- Code E_RUN_BAD_CFG. -/
def E_RUN_BAD_CFG : Nat := 0x060A
/-- Code E_RUN_GEAR_SOURCE. -/
def E_RUN_GEAR_SOURCE : Nat := 0x0610
/-- Code E_RUN_GEAR_PASSED. -/
def E_RUN_GEAR_PASSED : Nat := 0x0611
/-- Code E_RUN_GEAR_ORDER. -/
def E_RUN_GEAR_ORDER : Nat := 0x0612
/-- Code E_RUN_GEAR_NOT_ENGAGED. -/
def E_RUN_GEAR_NOT_ENGAGED : Nat := 0x0613
/-- Code E_RUN_GEAR_MASTER_LOST. -/
def E_RUN_GEAR_MASTER_LOST : Nat := 0x0614
/-- Code E_RUN_GEAR_LIMIT. -/
def E_RUN_GEAR_LIMIT : Nat := 0x0615
/-- Code E_RUN_GEAR_BROKEN. -/
def E_RUN_GEAR_BROKEN : Nat := 0x0616
/-- Code E_RUN_LIMIT_BOTH. -/
def E_RUN_LIMIT_BOTH : Nat := 0x0617
/-- Code E_RUN_LIMIT_CLAMP. -/
def E_RUN_LIMIT_CLAMP : Nat := 0x0618
/-- Code E_RUN_ROLLBACK. -/
def E_RUN_ROLLBACK : Nat := 0x0681
/-- Code E_RUN_SEG_START. -/
def E_RUN_SEG_START : Nat := 0x0682
/-- Code E_RUN_SEG_DONE. -/
def E_RUN_SEG_DONE : Nat := 0x0683
/-- Code E_RUN_SPLINE_STRETCHED. -/
def E_RUN_SPLINE_STRETCHED : Nat := 0x0684
/-- Code E_RUN_STOPPED. -/
def E_RUN_STOPPED : Nat := 0x0685
/-- Code E_RUN_GEAR_ENGAGED. -/
def E_RUN_GEAR_ENGAGED : Nat := 0x0690
/-- Code E_RUN_GEAR_CHANGED. -/
def E_RUN_GEAR_CHANGED : Nat := 0x0691
/-- Code E_RUN_GEAR_DISENGAGED. -/
def E_RUN_GEAR_DISENGAGED : Nat := 0x0692
/-- Code E_RUN_START. -/
def E_RUN_START : Nat := 0x0693
/-- Code E_RUN_LIMIT_ACTIVE. -/
def E_RUN_LIMIT_ACTIVE : Nat := 0x0694
/-- Code E_RUN_LIMIT_CLEAR. -/
def E_RUN_LIMIT_CLEAR : Nat := 0x0695
/-- Code E_AXL_FOLLOWING. -/
def E_AXL_FOLLOWING : Nat := 0x0701
/-- Code E_AXL_OVERSPEED. -/
def E_AXL_OVERSPEED : Nat := 0x0702
/-- Code E_AXL_FEEDBACK. -/
def E_AXL_FEEDBACK : Nat := 0x0703
/-- Code E_AXL_REF_STALE. -/
def E_AXL_REF_STALE : Nat := 0x0704
/-- Code E_AXL_LOCAL_STOP. -/
def E_AXL_LOCAL_STOP : Nat := 0x0705
/-- Code E_AXL_ENABLE_WIN. -/
def E_AXL_ENABLE_WIN : Nat := 0x0706
/-- Code E_AXL_MODE. -/
def E_AXL_MODE : Nat := 0x0707
/-- Code E_AXL_NOT_ENABLED. -/
def E_AXL_NOT_ENABLED : Nat := 0x0708
/-- Code E_AXL_BAD_CFG. -/
def E_AXL_BAD_CFG : Nat := 0x0709
/-- Code E_AXL_PASS_OVERRUN. -/
def E_AXL_PASS_OVERRUN : Nat := 0x070A
/-- Code E_AXL_ENABLE_LATE. -/
def E_AXL_ENABLE_LATE : Nat := 0x070B
/-- Code E_AXL_ENABLED. -/
def E_AXL_ENABLED : Nat := 0x0781
/-- Code E_AXL_DISABLED. -/
def E_AXL_DISABLED : Nat := 0x0782
/-- Code E_AXL_TUNE_DONE. -/
def E_AXL_TUNE_DONE : Nat := 0x0783
/-- Code E_PWR_OVERCURRENT. -/
def E_PWR_OVERCURRENT : Nat := 0x0801
/-- Code E_PWR_TRIP_PERSIST. -/
def E_PWR_TRIP_PERSIST : Nat := 0x0802
/-- Code E_PWR_SD_FAULT. -/
def E_PWR_SD_FAULT : Nat := 0x0803
/-- Code E_PWR_BAD_CFG. -/
def E_PWR_BAD_CFG : Nat := 0x0804
/-- Code E_PWR_DT_CEIL. -/
def E_PWR_DT_CEIL : Nat := 0x0805
/-- Code E_PWR_PARTIAL_UPDATE. -/
def E_PWR_PARTIAL_UPDATE : Nat := 0x0881
/-- Code E_ENC_CHECK. -/
def E_ENC_CHECK : Nat := 0x0901
/-- Code E_ENC_NO_RESPONSE. -/
def E_ENC_NO_RESPONSE : Nat := 0x0902
/-- Code E_ENC_NOT_IDLE. -/
def E_ENC_NOT_IDLE : Nat := 0x0903
/-- Code E_ENC_SENSOR. -/
def E_ENC_SENSOR : Nat := 0x0904
/-- Code E_ENC_JUMP. -/
def E_ENC_JUMP : Nat := 0x0905
/-- Code E_ENC_BAD_CFG. -/
def E_ENC_BAD_CFG : Nat := 0x0906
/-- Code E_ENC_EXT_MISMATCH. -/
def E_ENC_EXT_MISMATCH : Nat := 0x0907
/-- Code E_TWI_PLAN_MISMATCH. -/
def E_TWI_PLAN_MISMATCH : Nat := 0x0A01
/-- Code E_TWI_SCHED_INVALID. -/
def E_TWI_SCHED_INVALID : Nat := 0x0A02
/-- Code E_TWI_MODE_ABORT. -/
def E_TWI_MODE_ABORT : Nat := 0x0A03
/-- Code E_TWI_MODE_BUSY. -/
def E_TWI_MODE_BUSY : Nat := 0x0A04
/-- Code E_TWI_MODE_LOST. -/
def E_TWI_MODE_LOST : Nat := 0x0A05
/-- Code E_TWI_SLOT_MISS. -/
def E_TWI_SLOT_MISS : Nat := 0x0A06
/-- Code E_TWI_FWD_CUT. -/
def E_TWI_FWD_CUT : Nat := 0x0A07
/-- Code E_TWI_FWD_DROP. -/
def E_TWI_FWD_DROP : Nat := 0x0A08
/-- Code E_TWI_BAD_CFG. -/
def E_TWI_BAD_CFG : Nat := 0x0A09
/-- Code E_TWI_LINK_DOWN. -/
def E_TWI_LINK_DOWN : Nat := 0x0A20
/-- Code E_TWI_LINK_MISWIRED. -/
def E_TWI_LINK_MISWIRED : Nat := 0x0A21
/-- Code E_TWI_LINK_DELAY. -/
def E_TWI_LINK_DELAY : Nat := 0x0A22
/-- Code E_TWI_PASSIVE. -/
def E_TWI_PASSIVE : Nat := 0x0A23
/-- Code E_TWI_SYNC_LOST. -/
def E_TWI_SYNC_LOST : Nat := 0x0A24
/-- Code E_TWI_NODE_MISSING. -/
def E_TWI_NODE_MISSING : Nat := 0x0A25
/-- Code E_TWI_TOPOLOGY. -/
def E_TWI_TOPOLOGY : Nat := 0x0A26
/-- Code E_TWI_CFG_FAIL. -/
def E_TWI_CFG_FAIL : Nat := 0x0A27
/-- Code E_TWI_MODE_SWITCHED. -/
def E_TWI_MODE_SWITCHED : Nat := 0x0A81
/-- Code E_TWI_COLD_START. -/
def E_TWI_COLD_START : Nat := 0x0AA0
/-- Code E_TWI_COLD_ABANDON. -/
def E_TWI_COLD_ABANDON : Nat := 0x0AA1
/-- Code E_TWI_INTEGRATED. -/
def E_TWI_INTEGRATED : Nat := 0x0AA2
/-- Code E_TWI_FIRST_LOCK. -/
def E_TWI_FIRST_LOCK : Nat := 0x0AA3
/-- Code E_TWI_REINTEGRATED. -/
def E_TWI_REINTEGRATED : Nat := 0x0AA4
/-- Code E_TWI_OPERATIONAL. -/
def E_TWI_OPERATIONAL : Nat := 0x0AA5
/-- Code E_TIME_PLAN_INVALID. -/
def E_TIME_PLAN_INVALID : Nat := 0x0B01
/-- Code E_TIME_OUT_PAST. -/
def E_TIME_OUT_PAST : Nat := 0x0B02
/-- Code E_TIME_OUT_RATE. -/
def E_TIME_OUT_RATE : Nat := 0x0B03
/-- Code E_TIME_DOMAIN_NOT_LOCKED. -/
def E_TIME_DOMAIN_NOT_LOCKED : Nat := 0x0B04
/-- Code E_TIME_ROLE. -/
def E_TIME_ROLE : Nat := 0x0B05
/-- Code E_TIME_HOLDOVER. -/
def E_TIME_HOLDOVER : Nat := 0x0B06
/-- Code E_TIME_RATE_LIMIT. -/
def E_TIME_RATE_LIMIT : Nat := 0x0B07
/-- Code E_TIME_CAP_OVERFLOW. -/
def E_TIME_CAP_OVERFLOW : Nat := 0x0B08
/-- Code E_TIME_BAD_CFG. -/
def E_TIME_BAD_CFG : Nat := 0x0B09
/-- Code E_TIME_OUT_LATE. -/
def E_TIME_OUT_LATE : Nat := 0x0B0A
/-- Code E_TIME_FIRST_LOCK. -/
def E_TIME_FIRST_LOCK : Nat := 0x0B81
/-- Code E_TIME_DOMAIN_SWITCH. -/
def E_TIME_DOMAIN_SWITCH : Nat := 0x0B82
/-- Code E_TIME_LOCKED. -/
def E_TIME_LOCKED : Nat := 0x0B83
/-- Code E_TIME_GM_CHANGE. -/
def E_TIME_GM_CHANGE : Nat := 0x0B84
/-- Code E_TAP_POST_EXCEEDS. -/
def E_TAP_POST_EXCEEDS : Nat := 0x0C01
/-- Code E_TAP_BANDWIDTH. -/
def E_TAP_BANDWIDTH : Nat := 0x0C02
/-- Code E_TAP_PROBE. -/
def E_TAP_PROBE : Nat := 0x0C03
/-- Code E_TAP_BAD_SETUP. -/
def E_TAP_BAD_SETUP : Nat := 0x0C04
/-- Code E_TAP_OVERRUN. -/
def E_TAP_OVERRUN : Nat := 0x0C05
/-- Code E_TAP_MISSED. -/
def E_TAP_MISSED : Nat := 0x0C06
/-- Code E_TAP_MASK_STOP. -/
def E_TAP_MASK_STOP : Nat := 0x0C07
/-- Code E_TAP_BAD_CFG. -/
def E_TAP_BAD_CFG : Nat := 0x0C08
/-- Code E_TAP_TRIGGERED. -/
def E_TAP_TRIGGERED : Nat := 0x0C81
/-- Code E_TAP_DONE. -/
def E_TAP_DONE : Nat := 0x0C82
/-- Code E_SAFE_CFG_FORMAT. -/
def E_SAFE_CFG_FORMAT : Nat := 0x0D01
/-- Code E_SAFE_CFG_AUTH. -/
def E_SAFE_CFG_AUTH : Nat := 0x0D02
/-- Code E_SAFE_CFG_SEAL. -/
def E_SAFE_CFG_SEAL : Nat := 0x0D03
/-- Code E_SAFE_CFG_STATE. -/
def E_SAFE_CFG_STATE : Nat := 0x0D04
/-- Code E_SAFE_SEAL_FULL. -/
def E_SAFE_SEAL_FULL : Nat := 0x0D05
/-- Code E_SAFE_MBX_BUSY. -/
def E_SAFE_MBX_BUSY : Nat := 0x0D06
/-- Code E_SAFE_CONFIRM_TIMEOUT. -/
def E_SAFE_CONFIRM_TIMEOUT : Nat := 0x0D07
/-- Code E_SAFE_CFG_CHANGED. -/
def E_SAFE_CFG_CHANGED : Nat := 0x0D08
/-- Code E_SAFE_DISCREPANCY. -/
def E_SAFE_DISCREPANCY : Nat := 0x0D10
/-- Code E_SAFE_TESTPULSE. -/
def E_SAFE_TESTPULSE : Nat := 0x0D11
/-- Code E_SAFE_EDM. -/
def E_SAFE_EDM : Nat := 0x0D12
/-- Code E_SAFE_READBACK. -/
def E_SAFE_READBACK : Nat := 0x0D13
/-- Code E_SAFE_ENC_OBS. -/
def E_SAFE_ENC_OBS : Nat := 0x0D14
/-- Code E_SAFE_SLS. -/
def E_SAFE_SLS : Nat := 0x0D15
/-- Code E_SAFE_ENVELOPE. -/
def E_SAFE_ENVELOPE : Nat := 0x0D16
/-- Code E_SAFE_SOS. -/
def E_SAFE_SOS : Nat := 0x0D17
/-- Code E_SAFE_CONN_LOST. -/
def E_SAFE_CONN_LOST : Nat := 0x0D18
/-- Code E_SAFE_HALT. -/
def E_SAFE_HALT : Nat := 0x0D19
/-- Code E_SAFE_MIRROR_STALE. -/
def E_SAFE_MIRROR_STALE : Nat := 0x0D1A
/-- Code E_SAFE_RESET_STUCK. -/
def E_SAFE_RESET_STUCK : Nat := 0x0D1B
/-- Code E_SAFE_SEP_STOP. -/
def E_SAFE_SEP_STOP : Nat := 0x0D20
/-- Code E_SAFE_SENSOR_LOST. -/
def E_SAFE_SENSOR_LOST : Nat := 0x0D21
/-- Code E_SAFE_POS_INVALID. -/
def E_SAFE_POS_INVALID : Nat := 0x0D22
/-- Code E_SAFE_SEP_CAPACITY. -/
def E_SAFE_SEP_CAPACITY : Nat := 0x0D23
/-- Code E_SAFE_STOP. -/
def E_SAFE_STOP : Nat := 0x0D81
/-- Code E_SAFE_RESET_ACCEPTED. -/
def E_SAFE_RESET_ACCEPTED : Nat := 0x0D82
/-- Code E_SAFE_RESET_REFUSED. -/
def E_SAFE_RESET_REFUSED : Nat := 0x0D83
/-- Code E_SAFE_SEALED. -/
def E_SAFE_SEALED : Nat := 0x0D84
/-- Code E_SAFE_STATE. -/
def E_SAFE_STATE : Nat := 0x0D85
/-- Code E_SAFE_SEP_LIMIT. -/
def E_SAFE_SEP_LIMIT : Nat := 0x0D86
/-- Code E_PAIR_SWAP_REFUSED. -/
def E_PAIR_SWAP_REFUSED : Nat := 0x0E01
/-- Code E_PAIR_SWAP_BUSY. -/
def E_PAIR_SWAP_BUSY : Nat := 0x0E02
/-- Code E_PAIR_NOT_MIRRORED. -/
def E_PAIR_NOT_MIRRORED : Nat := 0x0E03
/-- Code E_PAIR_HB_LOST. -/
def E_PAIR_HB_LOST : Nat := 0x0E04
/-- Code E_PAIR_MISMATCH. -/
def E_PAIR_MISMATCH : Nat := 0x0E05
/-- Code E_PAIR_MIRROR_MISSING. -/
def E_PAIR_MIRROR_MISSING : Nat := 0x0E06
/-- Code E_PAIR_VOTE_LOST. -/
def E_PAIR_VOTE_LOST : Nat := 0x0E07
/-- Code E_PAIR_NO_ACTIVE. -/
def E_PAIR_NO_ACTIVE : Nat := 0x0E08
/-- Code E_PAIR_RESYNC_FAIL. -/
def E_PAIR_RESYNC_FAIL : Nat := 0x0E09
/-- Code E_PAIR_BAD_CFG. -/
def E_PAIR_BAD_CFG : Nat := 0x0E0A
/-- Code E_PAIR_ROLE. -/
def E_PAIR_ROLE : Nat := 0x0E81
/-- Code E_PAIR_SWAPPED. -/
def E_PAIR_SWAPPED : Nat := 0x0E82
/-- Code E_PAIR_TAKEOVER. -/
def E_PAIR_TAKEOVER : Nat := 0x0E83
/-- Code E_PAIR_VOTE. -/
def E_PAIR_VOTE : Nat := 0x0E84
/-- Code E_PAIR_RESYNC_DONE. -/
def E_PAIR_RESYNC_DONE : Nat := 0x0E85
/-- Code E_PAIR_SWAP_DEFERRED. -/
def E_PAIR_SWAP_DEFERRED : Nat := 0x0E86
/-- Code E_MEM_UNCORR. -/
def E_MEM_UNCORR : Nat := 0x0F01
/-- Code E_MEM_POISON_READ. -/
def E_MEM_POISON_READ : Nat := 0x0F02
/-- Code E_MEM_SCRUB_LATE. -/
def E_MEM_SCRUB_LATE : Nat := 0x0F03
/-- Code E_MEM_BAD_CFG. -/
def E_MEM_BAD_CFG : Nat := 0x0F04
/-- Code E_MEM_CE_THRESHOLD. -/
def E_MEM_CE_THRESHOLD : Nat := 0x0F81
/-- Code E_TEST_BAD_CFG. -/
def E_TEST_BAD_CFG : Nat := 0x1001
/-- Code E_TEST_START. -/
def E_TEST_START : Nat := 0x1081
/-- Code E_TEST_END. -/
def E_TEST_END : Nat := 0x1082

/-- Codes, part 0. -/
def allCodes_0 : List Nat :=
  [E_OK, E_SYS_STRAP_INVALID, E_SYS_LOCK_WRITE, E_SYS_ACCESS_DENIED, E_SYS_DOMAIN_OFF, E_SYS_ROLE_UNSUPPORTED,
   E_SYS_AUTH_FAIL, E_SYS_BOOT_FLASH, E_SYS_CLOCK, E_SYS_RESET_BUSY, E_SYS_MANAGER_LOST, E_SYS_WDT,
   E_SYS_LOG_CORRUPT, E_SYS_BAD_CFG, E_SYS_MODEL_FORMAT, E_SYS_MODEL_ROLE, E_SYS_MODEL_CAPACITY, E_SYS_MODEL_REF,
   E_SYS_MODEL_RANGE, E_SYS_MODEL_MEMORY, E_SYS_MODEL_REACTION, E_SYS_MODEL_CARRIER, E_SYS_MODEL_BUSY, E_SYS_NO_MODEL,
   E_SYS_LOCK_ORDER, E_SYS_LIMIT_INVALID, E_SYS_NOT_LOCKED, E_RESOURCE_BUSY, E_SYS_BOOTED, E_SYS_BLOCK_RESET,
   E_SYS_BOOT_PHASE, E_SYS_MODEL_LOADED, E_SYS_LOCK_SET, E_SYS_RESOURCE_FALLBACK, E_HIF_BAD_DESC, E_HIF_BAD_OPCODE,
   E_HIF_NOT_NEGOTIATED, E_HIF_FEATURE_OFF, E_HIF_STANDBY, E_HIF_DMA_DENIED]
/-- Codes, part 1. -/
def allCodes_1 : List Nat :=
  [E_HIF_BAD_PARAM, E_HIF_RING_FAULT, E_HIF_RING_IN_USE, E_HIF_DOORBELL_BAD, E_HIF_FEAT_REQUIRED, E_HIF_FEAT_LOCKED,
   E_HIF_STREAM_FORMAT, E_HIF_STREAM_LATE, E_HIF_HOST_ABORT, E_HIF_LINK_UP, E_HIF_LINK_RESET, E_HIF_FEAT_DONE,
   E_HIF_STREAM_DROP, E_INTC_BAD_COMPLETE, E_INTC_BAD_CFG, E_LADLE_NO_SHARE, E_LADLE_SUBMIT, E_LADLE_OVERRUN,
   E_LADLE_ITEM_FAULT, E_LADLE_DEADLINE, E_LADLE_GRAPH_LATE, E_LADLE_UNDERFLOW, E_LADLE_BAD_CFG, E_LADLE_LONG_WAIT,
   E_CORE_BAD_CFG, E_CORE_DOUBLE_FAULT, E_CORE_LOCKSTEP, E_CRUC_RANGE, E_CRUC_SATURATED, E_CRUC_NOT_CONVERGED,
   E_CRUC_PROG_FAULT, E_CRUC_POISON, E_CRUC_BAD_CFG, E_CRUC_DEADLINE, E_CRUC_SINGULAR, E_CRUC_INPUT_STALE,
   E_CRUC_COLD_START, E_CRUC_DIST_NEAR, E_RUN_BAD_KIND, E_RUN_COUPLED]
/-- Codes, part 2. -/
def allCodes_2 : List Nat :=
  [E_RUN_QUEUE_FULL, E_RUN_BAD_DATA, E_RUN_GROUP_BUSY, E_RUN_RAMP_ACTIVE, E_RUN_STREAM_UNDERRUN, E_RUN_STREAM_BROKEN,
   E_RUN_POLICY, E_RUN_BAD_CFG, E_RUN_GEAR_SOURCE, E_RUN_GEAR_PASSED, E_RUN_GEAR_ORDER, E_RUN_GEAR_NOT_ENGAGED,
   E_RUN_GEAR_MASTER_LOST, E_RUN_GEAR_LIMIT, E_RUN_GEAR_BROKEN, E_RUN_LIMIT_BOTH, E_RUN_LIMIT_CLAMP, E_RUN_ROLLBACK,
   E_RUN_SEG_START, E_RUN_SEG_DONE, E_RUN_SPLINE_STRETCHED, E_RUN_STOPPED, E_RUN_GEAR_ENGAGED, E_RUN_GEAR_CHANGED,
   E_RUN_GEAR_DISENGAGED, E_RUN_START, E_RUN_LIMIT_ACTIVE, E_RUN_LIMIT_CLEAR, E_AXL_FOLLOWING, E_AXL_OVERSPEED,
   E_AXL_FEEDBACK, E_AXL_REF_STALE, E_AXL_LOCAL_STOP, E_AXL_ENABLE_WIN, E_AXL_MODE, E_AXL_NOT_ENABLED,
   E_AXL_BAD_CFG, E_AXL_PASS_OVERRUN, E_AXL_ENABLE_LATE, E_AXL_ENABLED]
/-- Codes, part 3. -/
def allCodes_3 : List Nat :=
  [E_AXL_DISABLED, E_AXL_TUNE_DONE, E_PWR_OVERCURRENT, E_PWR_TRIP_PERSIST, E_PWR_SD_FAULT, E_PWR_BAD_CFG,
   E_PWR_DT_CEIL, E_PWR_PARTIAL_UPDATE, E_ENC_CHECK, E_ENC_NO_RESPONSE, E_ENC_NOT_IDLE, E_ENC_SENSOR,
   E_ENC_JUMP, E_ENC_BAD_CFG, E_ENC_EXT_MISMATCH, E_TWI_PLAN_MISMATCH, E_TWI_SCHED_INVALID, E_TWI_MODE_ABORT,
   E_TWI_MODE_BUSY, E_TWI_MODE_LOST, E_TWI_SLOT_MISS, E_TWI_FWD_CUT, E_TWI_FWD_DROP, E_TWI_BAD_CFG,
   E_TWI_LINK_DOWN, E_TWI_LINK_MISWIRED, E_TWI_LINK_DELAY, E_TWI_PASSIVE, E_TWI_SYNC_LOST, E_TWI_NODE_MISSING,
   E_TWI_TOPOLOGY, E_TWI_CFG_FAIL, E_TWI_MODE_SWITCHED, E_TWI_COLD_START, E_TWI_COLD_ABANDON, E_TWI_INTEGRATED,
   E_TWI_FIRST_LOCK, E_TWI_REINTEGRATED, E_TWI_OPERATIONAL, E_TIME_PLAN_INVALID]
/-- Codes, part 4. -/
def allCodes_4 : List Nat :=
  [E_TIME_OUT_PAST, E_TIME_OUT_RATE, E_TIME_DOMAIN_NOT_LOCKED, E_TIME_ROLE, E_TIME_HOLDOVER, E_TIME_RATE_LIMIT,
   E_TIME_CAP_OVERFLOW, E_TIME_BAD_CFG, E_TIME_OUT_LATE, E_TIME_FIRST_LOCK, E_TIME_DOMAIN_SWITCH, E_TIME_LOCKED,
   E_TIME_GM_CHANGE, E_TAP_POST_EXCEEDS, E_TAP_BANDWIDTH, E_TAP_PROBE, E_TAP_BAD_SETUP, E_TAP_OVERRUN,
   E_TAP_MISSED, E_TAP_MASK_STOP, E_TAP_BAD_CFG, E_TAP_TRIGGERED, E_TAP_DONE, E_SAFE_CFG_FORMAT,
   E_SAFE_CFG_AUTH, E_SAFE_CFG_SEAL, E_SAFE_CFG_STATE, E_SAFE_SEAL_FULL, E_SAFE_MBX_BUSY, E_SAFE_CONFIRM_TIMEOUT,
   E_SAFE_CFG_CHANGED, E_SAFE_DISCREPANCY, E_SAFE_TESTPULSE, E_SAFE_EDM, E_SAFE_READBACK, E_SAFE_ENC_OBS,
   E_SAFE_SLS, E_SAFE_ENVELOPE, E_SAFE_SOS, E_SAFE_CONN_LOST]
/-- Codes, part 5. -/
def allCodes_5 : List Nat :=
  [E_SAFE_HALT, E_SAFE_MIRROR_STALE, E_SAFE_RESET_STUCK, E_SAFE_SEP_STOP, E_SAFE_SENSOR_LOST, E_SAFE_POS_INVALID,
   E_SAFE_SEP_CAPACITY, E_SAFE_STOP, E_SAFE_RESET_ACCEPTED, E_SAFE_RESET_REFUSED, E_SAFE_SEALED, E_SAFE_STATE,
   E_SAFE_SEP_LIMIT, E_PAIR_SWAP_REFUSED, E_PAIR_SWAP_BUSY, E_PAIR_NOT_MIRRORED, E_PAIR_HB_LOST, E_PAIR_MISMATCH,
   E_PAIR_MIRROR_MISSING, E_PAIR_VOTE_LOST, E_PAIR_NO_ACTIVE, E_PAIR_RESYNC_FAIL, E_PAIR_BAD_CFG, E_PAIR_ROLE,
   E_PAIR_SWAPPED, E_PAIR_TAKEOVER, E_PAIR_VOTE, E_PAIR_RESYNC_DONE, E_PAIR_SWAP_DEFERRED, E_MEM_UNCORR,
   E_MEM_POISON_READ, E_MEM_SCRUB_LATE, E_MEM_BAD_CFG, E_MEM_CE_THRESHOLD, E_TEST_BAD_CFG, E_TEST_START,
   E_TEST_END]
/-- Every code of the device. -/
def allCodes : List Nat := allCodes_0 ++ allCodes_1 ++ allCodes_2 ++ allCodes_3 ++ allCodes_4 ++ allCodes_5

end Sys2Proof.Machine
end

