-- ==== Sys2Proof/Machine/Arith.lean ====
section
/-! DEFINITION. Bit fields, two's complement, rounding and byte order on exact integers, and the operations on sparse
data. Every quantity is computed as an exact integer and narrowed in one named place (00 R26). -/

namespace Sys2Proof.Machine

/-- The field of `w` bits of `x` that starts at bit `lo`. -/
def bits (x lo w : Nat) : Nat := (x / 2 ^ lo) % 2 ^ w

/-- Bit `i` of `x`. -/
def bit (x i : Nat) : Bool := x.testBit i

/-- A condition as a bit. -/
def b2n (b : Bool) : Nat := if b then 1 else 0

/-- The two's-complement value of the low `w` bits of `x`. -/
def sgn (w x : Nat) : Int := if x % 2 ^ w < 2 ^ (w - 1) then ((x % 2 ^ w : Nat) : Int) else ((x % 2 ^ w : Nat) : Int) - 2 ^ w

/-- The low `w` bits of an integer, as a natural number. -/
def unsg (w : Nat) (i : Int) : Nat := (i % (2 : Int) ^ w).toNat

/-- `x` with the `w` bits from bit `lo` replaced by `v`. -/
def setBits (x lo w v : Nat) : Nat := x - bits x lo w * 2 ^ lo + (v % 2 ^ w) * 2 ^ lo

/-- The largest value of a signed field of `w` bits. -/
def smax (w : Nat) : Int := (2 : Int) ^ (w - 1) - 1

/-- The smallest value of a signed field of `w` bits. -/
def smin (w : Nat) : Int := -((2 : Int) ^ (w - 1))

/-- `i` held in the signed range of `w` bits (00 R26, saturating). -/
def sat (w : Nat) (i : Int) : Int := if smax w < i then smax w else if i < smin w then smin w else i

/-- Whether `i` lies outside the signed range of `w` bits. -/
def satHit (w : Nat) (i : Int) : Bool := decide (smax w < i ∨ i < smin w)

/-- `i` held in [lo, hi]. -/
def clampI (lo hi i : Int) : Int := if i < lo then lo else if hi < i then hi else i

/-- Exact division by 2^k rounded toward minus infinity: the arithmetic shift of 00 R26. -/
def shrI (i : Int) (k : Nat) : Int := i / (2 : Int) ^ k

/-- Division rounded to the nearest integer, ties to even (convergent rounding, 05 R158). -/
def roundDiv (a : Int) (d : Nat) : Int :=
  let q := a / (d : Int)
  let r := a - q * d
  if 2 * r < d then q else if (d : Int) < 2 * r then q + 1 else if q % 2 = 0 then q else q + 1

/-- Convergent rounding shift by `k` (05 R158). -/
def roundShift (a : Int) (k : Nat) : Int := roundDiv a (2 ^ k)

/-- Division rounded to the nearest integer, ties away from zero. -/
def roundAway (a : Int) (d : Nat) : Int :=
  if 0 ≤ a then (2 * a + d) / (2 * d) else -((2 * (-a) + d) / (2 * d))

/-- Division rounded toward zero. -/
def truncDiv (a : Int) (d : Int) : Int := Int.tdiv a d

/-- Absolute value as an integer. -/
def absI (a : Int) : Int := if a < 0 then -a else a

/-- The sign of `a`: -1, 0 or 1. -/
def signI (a : Int) : Int := if a < 0 then -1 else if a = 0 then 0 else 1

/-- The little-endian value of a list of bytes. -/
def leNat : List Nat → Nat
  | [] => 0
  | b :: r => b % 256 + 256 * leNat r

/-- The `n` little-endian bytes of `x`. -/
def leBytes (n x : Nat) : List Nat := (List.range n).map (fun i => bits x (8 * i) 8)

/-- The `n`-byte little-endian field of `l` at byte `o`; bytes beyond the end count as 0. -/
def field (l : List Nat) (o n : Nat) : Nat := leNat ((l.drop o).take n)

/-- The 32-bit word `i` of a list of bytes. -/
def word (l : List Nat) (i : Nat) : Nat := field l (4 * i) 4

/-- `l` cut or filled with zeros to `n` elements. -/
def padTo (n : Nat) (l : List Nat) : List Nat := (l ++ List.replicate (n - l.length) 0).take n

/-- Element `i` of a list, 0 beyond its end. -/
def nth (l : List Nat) (i : Nat) : Nat := l.getD i 0

/-- Element `i` of a list of integers, 0 beyond its end. -/
def nthI (l : List Int) (i : Nat) : Int := l.getD i 0

/-- The indices of the bits set in the low `n` bits of `x`, ascending. -/
def bitsOf (n x : Nat) : List Nat := (List.range n).filter (fun i => x.testBit i)

/-- The number whose set bits are those of `l`. -/
def maskOf (l : List Nat) : Nat := l.foldl (fun a i => if a.testBit i then a else a + 2 ^ i) 0

/-- Bitwise AND with the complement of `b`. -/
def andNot (a b : Nat) : Nat := a - (a &&& b)

/-- The lengths that one more never passes: `x + n` held at `mx` (00 R16). -/
def satAdd (mx x n : Nat) : Nat := if mx ≤ x + n then mx else x + n

/-- Ceiling of `a / d`. -/
def ceilDiv (a d : Nat) : Nat := (a + (d - 1)) / d

/-- The exact base-2 logarithm of the smallest power of two that is at least `x`. -/
def clog2 (x : Nat) : Nat := if x ≤ 1 then 0 else Nat.log2 (x - 1) + 1

/-- Reads key `k` of sparse data, `d` where it is unlisted. -/
def sget {α : Type} (m : Sparse α) (k : Nat) (d : α) : α :=
  match m with
  | [] => d
  | (a, v) :: r => if a = k then v else sget r k d

/-- Drops key `k`. -/
def sdel {α : Type} (m : Sparse α) (k : Nat) : Sparse α :=
  match m with
  | [] => []
  | (a, v) :: r => if a = k then sdel r k else (a, v) :: sdel r k

/-- Lists key `k` with value `v`, in rising order of keys. -/
def sins {α : Type} (m : Sparse α) (k : Nat) (v : α) : Sparse α :=
  match m with
  | [] => [(k, v)]
  | (a, u) :: r => if k < a then (k, v) :: (a, u) :: r else if a = k then (k, v) :: r else (a, u) :: sins r k v

/-- Writes key `k`: a value equal to the default removes the entry, so equal data are equal lists. -/
def sput {α : Type} [DecidableEq α] (m : Sparse α) (k : Nat) (v d : α) : Sparse α :=
  if v = d then sdel m k else sins m k v

/-- Whether the keys rise strictly. -/
def sortedKeys {α : Type} : Sparse α → Bool
  | [] => true
  | [_] => true
  | (a, _) :: (b, v) :: r => decide (a < b) && sortedKeys ((b, v) :: r)

/-- Whether the list is in canonical form for the default `d`: keys strictly rising, no entry equal to the default. -/
def canonical {α : Type} [DecidableEq α] (d : α) (m : Sparse α) : Bool :=
  sortedKeys m && m.all (fun e => decide (e.2 ≠ d))

/-- Inserts `k` into a strictly rising list of numbers. -/
def insNat (k : Nat) : List Nat → List Nat
  | [] => [k]
  | a :: r => if k < a then k :: a :: r else if a = k then a :: r else a :: insNat k r

/-- Replaces element `i` of a list. -/
def setNth {α : Type} (l : List α) (i : Nat) (v : α) : List α := l.set i v

/-- The last `n` elements of a list. -/
def lastN {α : Type} (n : Nat) (l : List α) : List α := l.drop (l.length - n)

/-- Applies `f` for each of `l` in order. -/
def each {α β : Type} (l : List α) (f : β → α → β) (s : β) : β := l.foldl f s

/-- A left fold over numbers that evaluates each partial result as it arises. -/
def foldNat {β : Type} (f : Nat → β → Nat) : List β → Nat → Nat
  | [], c => c
  | b :: r, c => match f c b with
    | 0 => foldNat f r 0
    | k + 1 => foldNat f r (k + 1)

/-- It is the left fold. -/
theorem foldNat_eq {β : Type} (f : Nat → β → Nat) (l : List β) (c : Nat) : foldNat f l c = l.foldl f c := by
  induction l generalizing c with
  | nil => rfl
  | cons b r ih => rw [foldNat, List.foldl_cons, ← ih (f c b)]; split <;> simp_all

end Sys2Proof.Machine
end

