-- ==== Sys2Proof/Machine/Reg.lean ====
section
/-! DEFINITION. What a register field is: where it lies, how it may be accessed, what it holds after reset and which
values it accepts (00 R9, R10, R681). The fields themselves stand in the Regs files, from the register tables of spec/. -/

namespace Sys2Proof.Machine

/-- Access codes (00 R10), with the variants that the tables name in words. -/
inductive Acc where
  | rw | ro
  /-- Flag bits, a 1 clears the bit. -/
  | w1c
  /-- A counter of access W1C (00 R17): a 1 in the field's lowest bit clears all of it. -/
  | cnt
  | w1s | wo | rwlCfg | rwlLim | rwlSch
  /-- RW while disabled or while idle, as the block states. -/
  | rwIdle
  /-- RW, shadowed. -/
  | shadow
  /-- RW for external sources (21 R601). -/
  | rwExt
  /-- RW until GO (03 R110). -/
  | rwGo
  /-- RW until PHASE 5 (23 R628). -/
  | rwBoot
  /-- RW until first write by firmware (23 R634). -/
  | rwOnce
  deriving DecidableEq, Repr

/-- The values a field accepts (00 R681). -/
inductive Chk where
  | any
  /-- Unsigned range, both ends included. -/
  | range (lo hi : Nat)
  /-- Signed range, both ends included. -/
  | srange (lo hi : Int)
  deriving DecidableEq, Repr

/-- A register field. Instance `i` of its register lies `stride * i` bytes above `off`; its reset value is
`reset + rstep * i`. -/
structure Fld where
  blk : Nat
  off : Nat
  lsb : Nat
  w : Nat
  acc : Acc
  stride : Nat := 4
  n : Nat := 1
  reset : Nat := 0
  rstep : Nat := 0
  chk : Chk := .any
  deriving DecidableEq, Repr

/-- The internal address of the register that holds instance `i` of the field (01 R29). -/
def Fld.addr (f : Fld) (i : Nat) : Nat := 0x40000000 + f.blk * 0x10000 + f.off + f.stride * i

/-- The key of instance `i` of the field in the register file. -/
def Fld.key (f : Fld) (i : Nat) : Nat := f.addr i * 32 + f.lsb

/-- The reset value of instance `i`. The kind of an interrupt source and its EXT bit follow 21 R587. -/
def Fld.rst (f : Fld) (i : Nat) : Nat :=
  if f.blk = 2 ∧ f.off = 0x1000 ∧ f.lsb = 2 then (if i = 24 ∨ (208 ≤ i ∧ i < 216) then 1 else 0)
  else if f.blk = 2 ∧ f.off = 0x1000 ∧ f.lsb = 18 then (if 320 ≤ i ∧ i < 387 then 1 else 0)
  else f.reset + f.rstep * i

/-- Whether the field accepts `v` (00 R681). -/
def Fld.accepts (f : Fld) (v : Nat) : Bool :=
  match f.chk with
  | .any => true
  | .range lo hi => decide (lo ≤ v ∧ v ≤ hi)
  | .srange lo hi => decide (lo ≤ sgn f.w v ∧ sgn f.w v ≤ hi)

end Sys2Proof.Machine
end

