-- ==== Sys2Proof/Machine/RegsNet.lean ====
section
/-! DEFINITION. The register fields of the blocks PWR, ENC, TWI, TIME, one definition a field, from the register tables of
spec/ (the rule that gives each table stands with the field). -/

namespace Sys2Proof.Machine

/-- R331. -/
def PWR_SUMMARY_GATES : Fld := { blk := 8, off := 0x0000, lsb := 0, w := 16, acc := .ro }
/-- R331. -/
def PWR_SUMMARY_OC : Fld := { blk := 8, off := 0x0000, lsb := 16, w := 16, acc := .ro }
/-- R331. -/
def PWR_CFG_ALIGN : Fld := { blk := 8, off := 0x1000, lsb := 0, w := 1, acc := .rwIdle, stride := 0x100, n := 16 }
/-- R331. -/
def PWR_CFG_UPD_MODE : Fld := { blk := 8, off := 0x1000, lsb := 1, w := 1, acc := .rwIdle, stride := 0x100, n := 16 }
/-- R331. -/
def PWR_CFG_FMT : Fld := { blk := 8, off := 0x1000, lsb := 2, w := 1, acc := .rwIdle, stride := 0x100, n := 16 }
/-- R331. -/
def PWR_PER_PER : Fld := { blk := 8, off := 0x1004, lsb := 0, w := 24, acc := .shadow, stride := 0x100, n := 16 }
/-- R331. -/
def PWR_DUTY_A_DUTY : Fld := { blk := 8, off := 0x1008, lsb := 0, w := 32, acc := .shadow, stride := 0x100, n := 16 }
/-- R331. -/
def PWR_DUTY_B_DUTY : Fld := { blk := 8, off := 0x100C, lsb := 0, w := 32, acc := .shadow, stride := 0x100, n := 16 }
/-- R331. -/
def PWR_DUTY_C_DUTY : Fld := { blk := 8, off := 0x1010, lsb := 0, w := 32, acc := .shadow, stride := 0x100, n := 16 }
/-- R331. -/
def PWR_COMMIT_GO : Fld := { blk := 8, off := 0x1014, lsb := 0, w := 1, acc := .wo, stride := 0x100, n := 16 }
/-- R331. -/
def PWR_STAT_PEND : Fld := { blk := 8, off := 0x1018, lsb := 0, w := 1, acc := .ro, stride := 0x100, n := 16 }
/-- R331. -/
def PWR_STAT_CUT : Fld := { blk := 8, off := 0x1018, lsb := 1, w := 2, acc := .ro, stride := 0x100, n := 16 }
/-- R331. -/
def PWR_STAT_CHOP : Fld := { blk := 8, off := 0x1018, lsb := 3, w := 1, acc := .ro, stride := 0x100, n := 16 }
/-- R331. -/
def PWR_STAT_SD_VALID : Fld := { blk := 8, off := 0x1018, lsb := 4, w := 3, acc := .ro, stride := 0x100, n := 16 }
/-- R331. -/
def PWR_FLAGS_PARTIAL_UPDATE : Fld := { blk := 8, off := 0x101C, lsb := 0, w := 1, acc := .w1c, stride := 0x100, n := 16 }
/-- R331. -/
def PWR_FLAGS_DUTY_FIT : Fld := { blk := 8, off := 0x101C, lsb := 1, w := 1, acc := .w1c, stride := 0x100, n := 16 }
/-- R331. -/
def PWR_FLAGS_DUTY_MAX : Fld := { blk := 8, off := 0x101C, lsb := 2, w := 1, acc := .w1c, stride := 0x100, n := 16 }
/-- R331. -/
def PWR_FLAGS_SUPPRESSED : Fld := { blk := 8, off := 0x101C, lsb := 3, w := 1, acc := .w1c, stride := 0x100, n := 16 }
/-- R331. -/
def PWR_FLAGS_TRIP : Fld := { blk := 8, off := 0x101C, lsb := 4, w := 2, acc := .w1c, stride := 0x100, n := 16 }
/-- R331. -/
def PWR_FLAGS_TRIP_PERSIST : Fld := { blk := 8, off := 0x101C, lsb := 6, w := 1, acc := .w1c, stride := 0x100, n := 16 }
/-- R331. -/
def PWR_FLAGS_OVERCURRENT : Fld := { blk := 8, off := 0x101C, lsb := 7, w := 1, acc := .w1c, stride := 0x100, n := 16 }
/-- R331. -/
def PWR_FLAGS_SD_FAULT : Fld := { blk := 8, off := 0x101C, lsb := 8, w := 1, acc := .w1c, stride := 0x100, n := 16 }
/-- R331. -/
def PWR_FLAGS_DT_CEIL_HIT : Fld := { blk := 8, off := 0x101C, lsb := 9, w := 1, acc := .w1c, stride := 0x100, n := 16 }
/-- R331. -/
def PWR_PROT_MIN_PULSE : Fld := { blk := 8, off := 0x1020, lsb := 0, w := 10, acc := .rwIdle, stride := 0x100, n := 16, reset := 80 }
/-- R331. -/
def PWR_PROT_TRIP_MAX : Fld := { blk := 8, off := 0x1020, lsb := 16, w := 8, acc := .rwIdle, stride := 0x100, n := 16, reset := 8 }
/-- R331. -/
def PWR_MAX_DUTY_MAX : Fld := { blk := 8, off := 0x1024, lsb := 0, w := 32, acc := .rwlLim, stride := 0x100, n := 16 }
/-- R331. -/
def PWR_PEAK_TRIP_THR : Fld := { blk := 8, off := 0x1028, lsb := 0, w := 31, acc := .rwlLim, stride := 0x100, n := 16 }
/-- R331. -/
def PWR_DT_LIM_DT_FLOOR : Fld := { blk := 8, off := 0x102C, lsb := 0, w := 10, acc := .rwlLim, stride := 0x100, n := 16 }
/-- R331. -/
def PWR_DT_LIM_DT_CEIL : Fld := { blk := 8, off := 0x102C, lsb := 16, w := 10, acc := .rwlLim, stride := 0x100, n := 16 }
/-- R331. -/
def PWR_DT_CFG_DT_FIX : Fld := { blk := 8, off := 0x1030, lsb := 0, w := 10, acc := .rwIdle, stride := 0x100, n := 16 }
/-- R331. -/
def PWR_DT_CFG_MARGIN : Fld := { blk := 8, off := 0x1030, lsb := 10, w := 6, acc := .rwIdle, stride := 0x100, n := 16, reset := 8 }
/-- R331. -/
def PWR_DT_CFG_GAIN : Fld := { blk := 8, off := 0x1030, lsb := 16, w := 3, acc := .rwIdle, stride := 0x100, n := 16, reset := 2 }
/-- R331. -/
def PWR_DT_CFG_ADAPT : Fld := { blk := 8, off := 0x1030, lsb := 19, w := 1, acc := .rwIdle, stride := 0x100, n := 16 }
/-- R331. -/
def PWR_SN_CFG_SN_DLY : Fld := { blk := 8, off := 0x1034, lsb := 0, w := 6, acc := .rwIdle, stride := 0x100, n := 16 }
/-- R331. -/
def PWR_SN_CFG_IMIN : Fld := { blk := 8, off := 0x1034, lsb := 8, w := 24, acc := .rwIdle, stride := 0x100, n := 16, reset := 64 }
/-- R331. -/
def PWR_DT_A_DT_R : Fld := { blk := 8, off := 0x1058, lsb := 0, w := 10, acc := .ro, stride := 0x100, n := 16 }
/-- R331. -/
def PWR_DT_B_DT_R : Fld := { blk := 8, off := 0x105C, lsb := 0, w := 10, acc := .ro, stride := 0x100, n := 16 }
/-- R331. -/
def PWR_DT_C_DT_R : Fld := { blk := 8, off := 0x1060, lsb := 0, w := 10, acc := .ro, stride := 0x100, n := 16 }
/-- R331. -/
def PWR_DT_A_DT_F : Fld := { blk := 8, off := 0x1058, lsb := 16, w := 10, acc := .ro, stride := 0x100, n := 16 }
/-- R331. -/
def PWR_DT_B_DT_F : Fld := { blk := 8, off := 0x105C, lsb := 16, w := 10, acc := .ro, stride := 0x100, n := 16 }
/-- R331. -/
def PWR_DT_C_DT_F : Fld := { blk := 8, off := 0x1060, lsb := 16, w := 10, acc := .ro, stride := 0x100, n := 16 }
/-- R331. -/
def PWR_TRIP_CFG_FILT_0 : Fld := { blk := 8, off := 0x1038, lsb := 0, w := 5, acc := .rwIdle, stride := 0x100, n := 16, reset := 4 }
/-- R331. -/
def PWR_TRIP_CFG_FILT_1 : Fld := { blk := 8, off := 0x1038, lsb := 16, w := 5, acc := .rwIdle, stride := 0x100, n := 16, reset := 4 }
/-- R331. -/
def PWR_TRIP_CFG_ACT_0 : Fld := { blk := 8, off := 0x1038, lsb := 5, w := 1, acc := .rwIdle, stride := 0x100, n := 16 }
/-- R331. -/
def PWR_TRIP_CFG_ACT_1 : Fld := { blk := 8, off := 0x1038, lsb := 21, w := 1, acc := .rwIdle, stride := 0x100, n := 16 }
/-- R331. -/
def PWR_TRIP_CFG_EN_0 : Fld := { blk := 8, off := 0x1038, lsb := 6, w := 1, acc := .rwIdle, stride := 0x100, n := 16 }
/-- R331. -/
def PWR_TRIP_CFG_EN_1 : Fld := { blk := 8, off := 0x1038, lsb := 22, w := 1, acc := .rwIdle, stride := 0x100, n := 16 }
/-- R331. -/
def PWR_TRIP_CFG_POL_0 : Fld := { blk := 8, off := 0x1038, lsb := 7, w := 1, acc := .rwIdle, stride := 0x100, n := 16, reset := 1 }
/-- R331. -/
def PWR_TRIP_CFG_POL_1 : Fld := { blk := 8, off := 0x1038, lsb := 23, w := 1, acc := .rwIdle, stride := 0x100, n := 16, reset := 1 }
/-- R331. -/
def PWR_TRIP_CFG_PAIRS_0 : Fld := { blk := 8, off := 0x1038, lsb := 8, w := 3, acc := .rwIdle, stride := 0x100, n := 16, reset := 7 }
/-- R331. -/
def PWR_TRIP_CFG_PAIRS_1 : Fld := { blk := 8, off := 0x1038, lsb := 24, w := 3, acc := .rwIdle, stride := 0x100, n := 16, reset := 7 }
/-- R331. -/
def PWR_AUX_CMP_VAL : Fld := { blk := 8, off := 0x103C, lsb := 0, w := 20, acc := .rwIdle, stride := 0x100, n := 16, reset := 40 }
/-- R331. -/
def PWR_EVT_CFG_SRC : Fld := { blk := 8, off := 0x1040, lsb := 0, w := 3, acc := .rw, stride := 0x100, n := 16, chk := .range 0 6 }
/-- R331. -/
def PWR_EVT_CFG_PRESC : Fld := { blk := 8, off := 0x1040, lsb := 4, w := 4, acc := .rw, stride := 0x100, n := 16 }
/-- R331. -/
def PWR_SD_CFG_EN : Fld := { blk := 8, off := 0x1044, lsb := 0, w := 3, acc := .rwIdle, stride := 0x100, n := 16 }
/-- R331. -/
def PWR_SD_CFG_MDIV : Fld := { blk := 8, off := 0x1044, lsb := 8, w := 8, acc := .rwIdle, stride := 0x100, n := 16, reset := 32, chk := .range 32 160 }
/-- R331. -/
def PWR_SD_CFG_OSR : Fld := { blk := 8, off := 0x1044, lsb := 16, w := 3, acc := .rwIdle, stride := 0x100, n := 16, reset := 2, chk := .range 0 5 }
/-- R331. -/
def PWR_SD_CFG_OSR_F : Fld := { blk := 8, off := 0x1044, lsb := 20, w := 2, acc := .rwIdle, stride := 0x100, n := 16, reset := 1 }
/-- R331. -/
def PWR_SD_CFG_SYNC : Fld := { blk := 8, off := 0x1044, lsb := 24, w := 1, acc := .rwIdle, stride := 0x100, n := 16 }
/-- R331. -/
def PWR_SD_OFF_A_OFF : Fld := { blk := 8, off := 0x104C, lsb := 0, w := 32, acc := .rw, stride := 0x100, n := 16 }
/-- R331. -/
def PWR_SD_OFF_B_OFF : Fld := { blk := 8, off := 0x1050, lsb := 0, w := 32, acc := .rw, stride := 0x100, n := 16 }
/-- R331. -/
def PWR_SD_OFF_C_OFF : Fld := { blk := 8, off := 0x1054, lsb := 0, w := 32, acc := .rw, stride := 0x100, n := 16 }
/-- R331. -/
def PWR_CUR_A_I : Fld := { blk := 8, off := 0x1064, lsb := 0, w := 32, acc := .ro, stride := 0x100, n := 16 }
/-- R331. -/
def PWR_CUR_B_I : Fld := { blk := 8, off := 0x1068, lsb := 0, w := 32, acc := .ro, stride := 0x100, n := 16 }
/-- R331. -/
def PWR_CUR_C_I : Fld := { blk := 8, off := 0x106C, lsb := 0, w := 32, acc := .ro, stride := 0x100, n := 16 }
/-- R331. -/
def PWR_CHOP_CFG_H : Fld := { blk := 8, off := 0x1048, lsb := 0, w := 24, acc := .rwIdle, stride := 0x100, n := 16 }
/-- R331. -/
def PWR_CHOP_CFG_CG : Fld := { blk := 8, off := 0x1048, lsb := 24, w := 4, acc := .rwIdle, stride := 0x100, n := 16, reset := 4 }
/-- R331. -/
def PWR_CHOP_OFF_A_O : Fld := { blk := 8, off := 0x1070, lsb := 0, w := 32, acc := .ro, stride := 0x100, n := 16 }
/-- R331. -/
def PWR_CHOP_OFF_B_O : Fld := { blk := 8, off := 0x1074, lsb := 0, w := 32, acc := .ro, stride := 0x100, n := 16 }
/-- R331. -/
def PWR_CHOP_OFF_C_O : Fld := { blk := 8, off := 0x1078, lsb := 0, w := 32, acc := .ro, stride := 0x100, n := 16 }
/-- R331. -/
def PWR_SUPPR_CNT_CNT : Fld := { blk := 8, off := 0x107C, lsb := 0, w := 16, acc := .cnt, stride := 0x100, n := 16 }
/-- R331. -/
def PWR_CLAMP_CNT_CNT : Fld := { blk := 8, off := 0x1080, lsb := 0, w := 16, acc := .cnt, stride := 0x100, n := 16 }
/-- R331. -/
def PWR_TRIP_CNT_CNT : Fld := { blk := 8, off := 0x1084, lsb := 0, w := 16, acc := .cnt, stride := 0x100, n := 16 }
/-- R331. -/
def PWR_DT_LATE_CNT_CNT : Fld := { blk := 8, off := 0x1088, lsb := 0, w := 16, acc := .cnt, stride := 0x100, n := 16 }

/-- Fields of block PWR, part 0. -/
def fieldsPWR_0 : List Fld :=
  [PWR_SUMMARY_GATES, PWR_SUMMARY_OC, PWR_CFG_ALIGN, PWR_CFG_UPD_MODE,
   PWR_CFG_FMT, PWR_PER_PER, PWR_DUTY_A_DUTY, PWR_DUTY_B_DUTY,
   PWR_DUTY_C_DUTY, PWR_COMMIT_GO, PWR_STAT_PEND, PWR_STAT_CUT,
   PWR_STAT_CHOP, PWR_STAT_SD_VALID, PWR_FLAGS_PARTIAL_UPDATE, PWR_FLAGS_DUTY_FIT,
   PWR_FLAGS_DUTY_MAX, PWR_FLAGS_SUPPRESSED, PWR_FLAGS_TRIP, PWR_FLAGS_TRIP_PERSIST,
   PWR_FLAGS_OVERCURRENT, PWR_FLAGS_SD_FAULT, PWR_FLAGS_DT_CEIL_HIT, PWR_PROT_MIN_PULSE,
   PWR_PROT_TRIP_MAX, PWR_MAX_DUTY_MAX, PWR_PEAK_TRIP_THR, PWR_DT_LIM_DT_FLOOR,
   PWR_DT_LIM_DT_CEIL, PWR_DT_CFG_DT_FIX, PWR_DT_CFG_MARGIN, PWR_DT_CFG_GAIN,
   PWR_DT_CFG_ADAPT, PWR_SN_CFG_SN_DLY, PWR_SN_CFG_IMIN, PWR_DT_A_DT_R,
   PWR_DT_B_DT_R, PWR_DT_C_DT_R, PWR_DT_A_DT_F, PWR_DT_B_DT_F]
/-- Fields of block PWR, part 1. -/
def fieldsPWR_1 : List Fld :=
  [PWR_DT_C_DT_F, PWR_TRIP_CFG_FILT_0, PWR_TRIP_CFG_FILT_1, PWR_TRIP_CFG_ACT_0,
   PWR_TRIP_CFG_ACT_1, PWR_TRIP_CFG_EN_0, PWR_TRIP_CFG_EN_1, PWR_TRIP_CFG_POL_0,
   PWR_TRIP_CFG_POL_1, PWR_TRIP_CFG_PAIRS_0, PWR_TRIP_CFG_PAIRS_1, PWR_AUX_CMP_VAL,
   PWR_EVT_CFG_SRC, PWR_EVT_CFG_PRESC, PWR_SD_CFG_EN, PWR_SD_CFG_MDIV,
   PWR_SD_CFG_OSR, PWR_SD_CFG_OSR_F, PWR_SD_CFG_SYNC, PWR_SD_OFF_A_OFF,
   PWR_SD_OFF_B_OFF, PWR_SD_OFF_C_OFF, PWR_CUR_A_I, PWR_CUR_B_I,
   PWR_CUR_C_I, PWR_CHOP_CFG_H, PWR_CHOP_CFG_CG, PWR_CHOP_OFF_A_O,
   PWR_CHOP_OFF_B_O, PWR_CHOP_OFF_C_O, PWR_SUPPR_CNT_CNT, PWR_CLAMP_CNT_CNT,
   PWR_TRIP_CNT_CNT, PWR_DT_LATE_CNT_CNT]
/-- Every field of block PWR. -/
def fieldsPWR : List Fld := fieldsPWR_0 ++ fieldsPWR_1

/-- R350. -/
def ENC_SUMMARY_ENABLED : Fld := { blk := 9, off := 0x0000, lsb := 0, w := 16, acc := .ro }
/-- R350. -/
def ENC_SUMMARY_STILL : Fld := { blk := 9, off := 0x0000, lsb := 16, w := 16, acc := .ro }
/-- R350. -/
def ENC_CFG_EN : Fld := { blk := 9, off := 0x1000, lsb := 0, w := 1, acc := .rwIdle, stride := 0x80, n := 16 }
/-- R350. -/
def ENC_CFG_CODE : Fld := { blk := 9, off := 0x1000, lsb := 1, w := 1, acc := .rwIdle, stride := 0x80, n := 16 }
/-- R350. -/
def ENC_CFG_INV : Fld := { blk := 9, off := 0x1000, lsb := 2, w := 1, acc := .rwIdle, stride := 0x80, n := 16 }
/-- R350. -/
def ENC_CFG_LDC : Fld := { blk := 9, off := 0x1000, lsb := 3, w := 1, acc := .rwIdle, stride := 0x80, n := 16 }
/-- R350. -/
def ENC_CFG_RATE : Fld := { blk := 9, off := 0x1000, lsb := 4, w := 2, acc := .rwIdle, stride := 0x80, n := 16, chk := .range 0 2 }
/-- R350. -/
def ENC_CFG_OWNER : Fld := { blk := 9, off := 0x1000, lsb := 6, w := 2, acc := .ro, stride := 0x80, n := 16 }
/-- R350. -/
def ENC_FRAME_LEN : Fld := { blk := 9, off := 0x1004, lsb := 0, w := 6, acc := .rwIdle, stride := 0x80, n := 16, reset := 25 }
/-- R350. -/
def ENC_FRAME_SKIP : Fld := { blk := 9, off := 0x1004, lsb := 8, w := 2, acc := .rwIdle, stride := 0x80, n := 16 }
/-- R350. -/
def ENC_FRAME_POS_BITS : Fld := { blk := 9, off := 0x1004, lsb := 16, w := 6, acc := .rwIdle, stride := 0x80, n := 16, reset := 25 }
/-- R350. -/
def ENC_FRAME_STAT_BITS : Fld := { blk := 9, off := 0x1004, lsb := 24, w := 4, acc := .rwIdle, stride := 0x80, n := 16 }
/-- R350. -/
def ENC_CHK_TYPE : Fld := { blk := 9, off := 0x1008, lsb := 0, w := 2, acc := .rwIdle, stride := 0x80, n := 16 }
/-- R350. -/
def ENC_CHK_CHK_LEN : Fld := { blk := 9, off := 0x1008, lsb := 4, w := 4, acc := .rwIdle, stride := 0x80, n := 16 }
/-- R350. -/
def ENC_CHK_POLY : Fld := { blk := 9, off := 0x1008, lsb := 8, w := 8, acc := .rwIdle, stride := 0x80, n := 16 }
/-- R350. -/
def ENC_CHK_INV : Fld := { blk := 9, off := 0x1008, lsb := 16, w := 1, acc := .rwIdle, stride := 0x80, n := 16 }
/-- R350. -/
def ENC_CHK_ERR_MASK : Fld := { blk := 9, off := 0x1008, lsb := 24, w := 4, acc := .rwIdle, stride := 0x80, n := 16 }
/-- R350. -/
def ENC_CHK_ERR_VAL : Fld := { blk := 9, off := 0x1008, lsb := 28, w := 4, acc := .rwIdle, stride := 0x80, n := 16 }
/-- R350. -/
def ENC_CLK_CLKDIV : Fld := { blk := 9, off := 0x100C, lsb := 0, w := 10, acc := .rwIdle, stride := 0x80, n := 16, reset := 200 }
/-- R350. -/
def ENC_CLK_DLY : Fld := { blk := 9, off := 0x100C, lsb := 16, w := 10, acc := .rwIdle, stride := 0x80, n := 16 }
/-- R350. -/
def ENC_REQ_REQ : Fld := { blk := 9, off := 0x1010, lsb := 0, w := 20, acc := .rwIdle, stride := 0x80, n := 16, reset := 400 }
/-- R350. -/
def ENC_SPD_CFG_SHIFT : Fld := { blk := 9, off := 0x1014, lsb := 0, w := 5, acc := .rwIdle, stride := 0x80, n := 16, chk := .srange (-8) 8 }
/-- R350. -/
def ENC_SPD_CFG_WIN : Fld := { blk := 9, off := 0x1014, lsb := 8, w := 3, acc := .rwIdle, stride := 0x80, n := 16, reset := 2, chk := .range 0 5 }
/-- R350. -/
def ENC_SPD_CFG_STILL_T : Fld := { blk := 9, off := 0x1014, lsb := 16, w := 16, acc := .rwIdle, stride := 0x80, n := 16, reset := 10000, chk := .range 1 65535 }
/-- R350. -/
def ENC_DIR_CFG_HYST : Fld := { blk := 9, off := 0x1018, lsb := 0, w := 16, acc := .rwIdle, stride := 0x80, n := 16, reset := 16 }
/-- R350. -/
def ENC_DIR_CFG_STILL_BAND : Fld := { blk := 9, off := 0x1018, lsb := 16, w := 8, acc := .rwIdle, stride := 0x80, n := 16 }
/-- R350. -/
def ENC_JUMP_JUMP_MAX : Fld := { blk := 9, off := 0x101C, lsb := 0, w := 32, acc := .rwIdle, stride := 0x80, n := 16 }
/-- R350. -/
def ENC_STAT_DIR : Fld := { blk := 9, off := 0x1020, lsb := 0, w := 1, acc := .ro, stride := 0x80, n := 16 }
/-- R350. -/
def ENC_STAT_STANDSTILL : Fld := { blk := 9, off := 0x1020, lsb := 1, w := 1, acc := .ro, stride := 0x80, n := 16, reset := 1 }
/-- R350. -/
def ENC_STAT_SPEED_PROVISIONAL : Fld := { blk := 9, off := 0x1020, lsb := 2, w := 1, acc := .ro, stride := 0x80, n := 16 }
/-- R350. -/
def ENC_STAT_REVERSAL_RECENT : Fld := { blk := 9, off := 0x1020, lsb := 3, w := 1, acc := .ro, stride := 0x80, n := 16 }
/-- R350. -/
def ENC_STAT_VALID : Fld := { blk := 9, off := 0x1020, lsb := 4, w := 1, acc := .ro, stride := 0x80, n := 16 }
/-- R350. -/
def ENC_STAT_SPD_SAT : Fld := { blk := 9, off := 0x1020, lsb := 5, w := 1, acc := .ro, stride := 0x80, n := 16 }
/-- R350. -/
def ENC_STAT_FAIL_RUN : Fld := { blk := 9, off := 0x1020, lsb := 8, w := 4, acc := .ro, stride := 0x80, n := 16 }
/-- R350. -/
def ENC_STAT_STATUS : Fld := { blk := 9, off := 0x1020, lsb := 16, w := 8, acc := .ro, stride := 0x80, n := 16 }
/-- R350. -/
def ENC_FLAGS_CHECK : Fld := { blk := 9, off := 0x1024, lsb := 0, w := 1, acc := .w1c, stride := 0x80, n := 16 }
/-- R350. -/
def ENC_FLAGS_NO_RESPONSE : Fld := { blk := 9, off := 0x1024, lsb := 1, w := 1, acc := .w1c, stride := 0x80, n := 16 }
/-- R350. -/
def ENC_FLAGS_NOT_IDLE : Fld := { blk := 9, off := 0x1024, lsb := 2, w := 1, acc := .w1c, stride := 0x80, n := 16 }
/-- R350. -/
def ENC_FLAGS_JUMP : Fld := { blk := 9, off := 0x1024, lsb := 3, w := 1, acc := .w1c, stride := 0x80, n := 16 }
/-- R350. -/
def ENC_FLAGS_SENSOR_ERR : Fld := { blk := 9, off := 0x1024, lsb := 4, w := 1, acc := .w1c, stride := 0x80, n := 16 }
/-- R350. -/
def ENC_FLAGS_REVERSAL : Fld := { blk := 9, off := 0x1024, lsb := 5, w := 1, acc := .w1c, stride := 0x80, n := 16 }
/-- R350. -/
def ENC_FLAGS_EXT_MISMATCH : Fld := { blk := 9, off := 0x1024, lsb := 6, w := 1, acc := .w1c, stride := 0x80, n := 16 }
/-- R350. -/
def ENC_POS_LO_C : Fld := { blk := 9, off := 0x1028, lsb := 0, w := 32, acc := .ro, stride := 0x80, n := 16 }
/-- R350. -/
def ENC_POS_HI_C : Fld := { blk := 9, off := 0x102C, lsb := 0, w := 8, acc := .ro, stride := 0x80, n := 16 }
/-- R350. -/
def ENC_SAMP_LO_SAMP : Fld := { blk := 9, off := 0x1030, lsb := 0, w := 32, acc := .ro, stride := 0x80, n := 16 }
/-- R350. -/
def ENC_SAMP_HI_SAMP : Fld := { blk := 9, off := 0x1034, lsb := 0, w := 8, acc := .ro, stride := 0x80, n := 16 }
/-- R350. -/
def ENC_XPOS_LO_X : Fld := { blk := 9, off := 0x1038, lsb := 0, w := 32, acc := .rw, stride := 0x80, n := 16 }
/-- R350. -/
def ENC_XPOS_HI_X : Fld := { blk := 9, off := 0x103C, lsb := 0, w := 32, acc := .rw, stride := 0x80, n := 16 }
/-- R350. -/
def ENC_SPD_V : Fld := { blk := 9, off := 0x1040, lsb := 0, w := 32, acc := .ro, stride := 0x80, n := 16 }
/-- R350. -/
def ENC_TSTAMP_T : Fld := { blk := 9, off := 0x1044, lsb := 0, w := 32, acc := .ro, stride := 0x80, n := 16 }
/-- R350. -/
def ENC_DELAY_D : Fld := { blk := 9, off := 0x1048, lsb := 0, w := 10, acc := .ro, stride := 0x80, n := 16 }
/-- R350. -/
def ENC_RAW_LO_RAW : Fld := { blk := 9, off := 0x104C, lsb := 0, w := 32, acc := .ro, stride := 0x80, n := 16 }
/-- R350. -/
def ENC_RAW_HI_RAW : Fld := { blk := 9, off := 0x1050, lsb := 0, w := 16, acc := .ro, stride := 0x80, n := 16 }
/-- R350. -/
def ENC_ERR_CNT_CNT : Fld := { blk := 9, off := 0x1054, lsb := 0, w := 16, acc := .cnt, stride := 0x80, n := 16 }
/-- R350. -/
def ENC_REV_CNT_CNT : Fld := { blk := 9, off := 0x1058, lsb := 0, w := 16, acc := .cnt, stride := 0x80, n := 16 }

/-- Fields of block ENC, part 0. -/
def fieldsENC_0 : List Fld :=
  [ENC_SUMMARY_ENABLED, ENC_SUMMARY_STILL, ENC_CFG_EN, ENC_CFG_CODE,
   ENC_CFG_INV, ENC_CFG_LDC, ENC_CFG_RATE, ENC_CFG_OWNER,
   ENC_FRAME_LEN, ENC_FRAME_SKIP, ENC_FRAME_POS_BITS, ENC_FRAME_STAT_BITS,
   ENC_CHK_TYPE, ENC_CHK_CHK_LEN, ENC_CHK_POLY, ENC_CHK_INV,
   ENC_CHK_ERR_MASK, ENC_CHK_ERR_VAL, ENC_CLK_CLKDIV, ENC_CLK_DLY,
   ENC_REQ_REQ, ENC_SPD_CFG_SHIFT, ENC_SPD_CFG_WIN, ENC_SPD_CFG_STILL_T,
   ENC_DIR_CFG_HYST, ENC_DIR_CFG_STILL_BAND, ENC_JUMP_JUMP_MAX, ENC_STAT_DIR,
   ENC_STAT_STANDSTILL, ENC_STAT_SPEED_PROVISIONAL, ENC_STAT_REVERSAL_RECENT, ENC_STAT_VALID,
   ENC_STAT_SPD_SAT, ENC_STAT_FAIL_RUN, ENC_STAT_STATUS, ENC_FLAGS_CHECK,
   ENC_FLAGS_NO_RESPONSE, ENC_FLAGS_NOT_IDLE, ENC_FLAGS_JUMP, ENC_FLAGS_SENSOR_ERR]
/-- Fields of block ENC, part 1. -/
def fieldsENC_1 : List Fld :=
  [ENC_FLAGS_REVERSAL, ENC_FLAGS_EXT_MISMATCH, ENC_POS_LO_C, ENC_POS_HI_C,
   ENC_SAMP_LO_SAMP, ENC_SAMP_HI_SAMP, ENC_XPOS_LO_X, ENC_XPOS_HI_X,
   ENC_SPD_V, ENC_TSTAMP_T, ENC_DELAY_D, ENC_RAW_LO_RAW,
   ENC_RAW_HI_RAW, ENC_ERR_CNT_CNT, ENC_REV_CNT_CNT]
/-- Every field of block ENC. -/
def fieldsENC : List Fld := fieldsENC_0 ++ fieldsENC_1

/-- R381. -/
def TWI_STATUS_MODE : Fld := { blk := 10, off := 0x0000, lsb := 0, w := 3, acc := .ro }
/-- R381. -/
def TWI_STATUS_EXCH : Fld := { blk := 10, off := 0x0000, lsb := 3, w := 1, acc := .ro }
/-- R381. -/
def TWI_STATUS_TARGET : Fld := { blk := 10, off := 0x0000, lsb := 4, w := 3, acc := .ro }
/-- R381. -/
def TWI_STATUS_ACTIVE_TX : Fld := { blk := 10, off := 0x0000, lsb := 7, w := 1, acc := .ro }
/-- R381. -/
def TWI_STATUS_STATE : Fld := { blk := 10, off := 0x0000, lsb := 8, w := 4, acc := .ro }
/-- R381. -/
def TWI_FLAGS_CRC_ERR : Fld := { blk := 10, off := 0x0004, lsb := 0, w := 1, acc := .w1c }
/-- R381. -/
def TWI_FLAGS_HDR_ERR : Fld := { blk := 10, off := 0x0004, lsb := 1, w := 1, acc := .w1c }
/-- R381. -/
def TWI_FLAGS_TAG_ERR : Fld := { blk := 10, off := 0x0004, lsb := 2, w := 1, acc := .w1c }
/-- R381. -/
def TWI_FLAGS_MISS : Fld := { blk := 10, off := 0x0004, lsb := 3, w := 1, acc := .w1c }
/-- R381. -/
def TWI_FLAGS_FWD_CUT : Fld := { blk := 10, off := 0x0004, lsb := 4, w := 1, acc := .w1c }
/-- R381. -/
def TWI_FLAGS_FWD_DROP : Fld := { blk := 10, off := 0x0004, lsb := 5, w := 1, acc := .w1c }
/-- R381. -/
def TWI_FLAGS_MODE_ABORT : Fld := { blk := 10, off := 0x0004, lsb := 6, w := 1, acc := .w1c }
/-- R381. -/
def TWI_FLAGS_MODE_LOST : Fld := { blk := 10, off := 0x0004, lsb := 7, w := 1, acc := .w1c }
/-- R381. -/
def TWI_MODE_CTRL_TARGET : Fld := { blk := 10, off := 0x0008, lsb := 0, w := 3, acc := .rw }
/-- R381. -/
def TWI_MODE_CTRL_GO : Fld := { blk := 10, off := 0x0008, lsb := 31, w := 1, acc := .wo }
/-- R381. -/
def TWI_MODE_STAT_S : Fld := { blk := 10, off := 0x000C, lsb := 0, w := 32, acc := .ro }
/-- R381. -/
def TWI_MODE_CLASS_CLASS : Fld := { blk := 10, off := 0x0010, lsb := 0, w := 14, acc := .rwlSch, reset := 16383 }
/-- R381. -/
def TWI_TAG_TAG : Fld := { blk := 10, off := 0x0014, lsb := 0, w := 32, acc := .rwlSch, stride := 0x4, n := 7 }
/-- R381. -/
def TWI_SCH_IDX_SLOT : Fld := { blk := 10, off := 0x0040, lsb := 0, w := 8, acc := .rw }
/-- R381. -/
def TWI_SCH_IDX_CH : Fld := { blk := 10, off := 0x0040, lsb := 8, w := 1, acc := .rw }
/-- R381. -/
def TWI_SCH_IDX_LINE : Fld := { blk := 10, off := 0x0040, lsb := 9, w := 2, acc := .rw }
/-- R381. -/
def TWI_SCH_IDX_MODE : Fld := { blk := 10, off := 0x0040, lsb := 11, w := 3, acc := .rw, chk := .range 1 7 }
/-- R381. -/
def TWI_SCH_DATA_0_START : Fld := { blk := 10, off := 0x0044, lsb := 0, w := 20, acc := .rwlSch }
/-- R381. -/
def TWI_SCH_DATA_0_DUR : Fld := { blk := 10, off := 0x0044, lsb := 20, w := 12, acc := .ro }
/-- R381. -/
def TWI_SCH_DATA_1_OWNER : Fld := { blk := 10, off := 0x0048, lsb := 0, w := 6, acc := .rwlSch }
/-- R381. -/
def TWI_SCH_DATA_1_KIND : Fld := { blk := 10, off := 0x0048, lsb := 6, w := 3, acc := .rwlSch }
/-- R381. -/
def TWI_SCH_DATA_1_RX : Fld := { blk := 10, off := 0x0048, lsb := 9, w := 1, acc := .rwlSch }
/-- R381. -/
def TWI_SCH_DATA_1_GEV : Fld := { blk := 10, off := 0x0048, lsb := 10, w := 3, acc := .rwlSch }
/-- R381. -/
def TWI_SCH_DATA_1_VALID : Fld := { blk := 10, off := 0x0048, lsb := 13, w := 1, acc := .rwlSch }
/-- R381. -/
def TWI_SCH_DATA_1_PLEN4 : Fld := { blk := 10, off := 0x0048, lsb := 16, w := 9, acc := .rwlSch, chk := .range 0 256 }
/-- R381. -/
def TWI_LINE_CFG_POS : Fld := { blk := 10, off := 0x0050, lsb := 0, w := 4, acc := .ro, stride := 0x4, n := 4 }
/-- R381. -/
def TWI_LINE_CFG_NODES : Fld := { blk := 10, off := 0x0050, lsb := 4, w := 4, acc := .ro, stride := 0x4, n := 4 }
/-- R381. -/
def TWI_LINE_CFG_EN : Fld := { blk := 10, off := 0x0050, lsb := 8, w := 1, acc := .ro, stride := 0x4, n := 4 }
/-- R381. -/
def TWI_LINK_DLY_DLY : Fld := { blk := 10, off := 0x0100, lsb := 0, w := 10, acc := .ro, stride := 0x4, n := 64 }
/-- R381. -/
def TWI_PORT_RX_GOOD_CNT : Fld := { blk := 10, off := 0x0200, lsb := 0, w := 16, acc := .cnt, stride := 0x20, n := 8 }
/-- R381. -/
def TWI_PORT_RX_CRC_CNT : Fld := { blk := 10, off := 0x0204, lsb := 0, w := 16, acc := .cnt, stride := 0x20, n := 8 }
/-- R381. -/
def TWI_PORT_RX_HDR_CNT : Fld := { blk := 10, off := 0x0208, lsb := 0, w := 16, acc := .cnt, stride := 0x20, n := 8 }
/-- R381. -/
def TWI_PORT_FWD_CUT_CNT : Fld := { blk := 10, off := 0x020C, lsb := 0, w := 16, acc := .cnt, stride := 0x20, n := 8 }
/-- R381. -/
def TWI_PORT_FWD_DROP_CNT : Fld := { blk := 10, off := 0x0210, lsb := 0, w := 16, acc := .cnt, stride := 0x20, n := 8 }
/-- R381. -/
def TWI_MISS_CNT_CNT : Fld := { blk := 10, off := 0x040C, lsb := 0, w := 16, acc := .cnt }
/-- R381. -/
def TWI_TX_PUB_HANDLE : Fld := { blk := 10, off := 0x0400, lsb := 0, w := 11, acc := .wo }
/-- R381. -/
def TWI_ACQ_HANDLE : Fld := { blk := 10, off := 0x0404, lsb := 0, w := 11, acc := .wo }
/-- R381. -/
def TWI_BUF_BASE_ADDR : Fld := { blk := 10, off := 0x0408, lsb := 0, w := 32, acc := .ro }
/-- R381. -/
def TWI_SLOT_STAT_VIEW : Fld := { blk := 10, off := 0x4000, lsb := 0, w := 2, acc := .ro, stride := 0x4, n := 2048 }
/-- R381. -/
def TWI_SLOT_STAT_FREE : Fld := { blk := 10, off := 0x4000, lsb := 2, w := 2, acc := .ro, stride := 0x4, n := 2048 }
/-- R381. -/
def TWI_SLOT_STAT_EMPTY : Fld := { blk := 10, off := 0x4000, lsb := 4, w := 1, acc := .ro, stride := 0x4, n := 2048, reset := 1 }
/-- R381. -/
def TWI_SLOT_STAT_STALE : Fld := { blk := 10, off := 0x4000, lsb := 5, w := 1, acc := .ro, stride := 0x4, n := 2048 }
/-- R381. -/
def TWI_SLOT_STAT_OWNED : Fld := { blk := 10, off := 0x4000, lsb := 6, w := 1, acc := .ro, stride := 0x4, n := 2048 }
/-- R381. -/
def TWI_SLOT_STAT_AGE : Fld := { blk := 10, off := 0x4000, lsb := 8, w := 8, acc := .ro, stride := 0x4, n := 2048 }
/-- R381. -/
def TWI_SLOT_STAT_CYCLE : Fld := { blk := 10, off := 0x4000, lsb := 16, w := 16, acc := .ro, stride := 0x4, n := 2048 }
/-- R409. -/
def TWI_SU_CFG_START_MODE : Fld := { blk := 10, off := 0x0800, lsb := 0, w := 3, acc := .rwlSch, reset := 1 }
/-- R409. -/
def TWI_SU_CFG_AUTO : Fld := { blk := 10, off := 0x0800, lsb := 3, w := 1, acc := .rwlCfg }
/-- R409. -/
def TWI_SU_CFG_PARTIAL : Fld := { blk := 10, off := 0x0800, lsb := 4, w := 1, acc := .rwlSch }
/-- R409. -/
def TWI_SU_STAT_REF : Fld := { blk := 10, off := 0x0804, lsb := 0, w := 6, acc := .ro, reset := 63 }
/-- R409. -/
def TWI_SU_STAT_MASTER : Fld := { blk := 10, off := 0x0804, lsb := 6, w := 1, acc := .ro }
/-- R409. -/
def TWI_SU_STAT_LOCKED : Fld := { blk := 10, off := 0x0804, lsb := 7, w := 1, acc := .ro }
/-- R409. -/
def TWI_SU_STAT_WALK : Fld := { blk := 10, off := 0x0804, lsb := 8, w := 4, acc := .ro }
/-- R409. -/
def TWI_SYNC_DEV_DELTA : Fld := { blk := 10, off := 0x0808, lsb := 0, w := 32, acc := .ro }
/-- R409. -/
def TWI_SYNC_RATE_RATE : Fld := { blk := 10, off := 0x080C, lsb := 0, w := 32, acc := .ro }
/-- R409. -/
def TWI_SYNC_MAX_MAX : Fld := { blk := 10, off := 0x0810, lsb := 0, w := 32, acc := .cnt }
/-- R409. -/
def TWI_PASSIVE_CNT_CNT : Fld := { blk := 10, off := 0x0814, lsb := 0, w := 16, acc := .cnt }
/-- R409. -/
def TWI_REINT_CNT_CNT : Fld := { blk := 10, off := 0x0818, lsb := 0, w := 16, acc := .cnt }
/-- R409. -/
def TWI_ADMIT_LO_NODES : Fld := { blk := 10, off := 0x0820, lsb := 0, w := 32, acc := .ro }
/-- R409. -/
def TWI_ADMIT_HI_NODES : Fld := { blk := 10, off := 0x0824, lsb := 0, w := 2, acc := .ro }
/-- R409. -/
def TWI_PORT_STATE : Fld := { blk := 10, off := 0x0880, lsb := 0, w := 3, acc := .ro, stride := 0x4, n := 8 }
/-- R409. -/
def TWI_PORT_PEER : Fld := { blk := 10, off := 0x0880, lsb := 8, w := 6, acc := .ro, stride := 0x4, n := 8, reset := 63 }
/-- R409. -/
def TWI_PORT_DLY : Fld := { blk := 10, off := 0x0880, lsb := 16, w := 12, acc := .ro, stride := 0x4, n := 8 }

/-- Fields of block TWI, part 0. -/
def fieldsTWI_0 : List Fld :=
  [TWI_STATUS_MODE, TWI_STATUS_EXCH, TWI_STATUS_TARGET, TWI_STATUS_ACTIVE_TX,
   TWI_STATUS_STATE, TWI_FLAGS_CRC_ERR, TWI_FLAGS_HDR_ERR, TWI_FLAGS_TAG_ERR,
   TWI_FLAGS_MISS, TWI_FLAGS_FWD_CUT, TWI_FLAGS_FWD_DROP, TWI_FLAGS_MODE_ABORT,
   TWI_FLAGS_MODE_LOST, TWI_MODE_CTRL_TARGET, TWI_MODE_CTRL_GO, TWI_MODE_STAT_S,
   TWI_MODE_CLASS_CLASS, TWI_TAG_TAG, TWI_SCH_IDX_SLOT, TWI_SCH_IDX_CH,
   TWI_SCH_IDX_LINE, TWI_SCH_IDX_MODE, TWI_SCH_DATA_0_START, TWI_SCH_DATA_0_DUR,
   TWI_SCH_DATA_1_OWNER, TWI_SCH_DATA_1_KIND, TWI_SCH_DATA_1_RX, TWI_SCH_DATA_1_GEV,
   TWI_SCH_DATA_1_VALID, TWI_SCH_DATA_1_PLEN4, TWI_LINE_CFG_POS, TWI_LINE_CFG_NODES,
   TWI_LINE_CFG_EN, TWI_LINK_DLY_DLY, TWI_PORT_RX_GOOD_CNT, TWI_PORT_RX_CRC_CNT,
   TWI_PORT_RX_HDR_CNT, TWI_PORT_FWD_CUT_CNT, TWI_PORT_FWD_DROP_CNT, TWI_MISS_CNT_CNT]
/-- Fields of block TWI, part 1. -/
def fieldsTWI_1 : List Fld :=
  [TWI_TX_PUB_HANDLE, TWI_ACQ_HANDLE, TWI_BUF_BASE_ADDR, TWI_SLOT_STAT_VIEW,
   TWI_SLOT_STAT_FREE, TWI_SLOT_STAT_EMPTY, TWI_SLOT_STAT_STALE, TWI_SLOT_STAT_OWNED,
   TWI_SLOT_STAT_AGE, TWI_SLOT_STAT_CYCLE, TWI_SU_CFG_START_MODE, TWI_SU_CFG_AUTO,
   TWI_SU_CFG_PARTIAL, TWI_SU_STAT_REF, TWI_SU_STAT_MASTER, TWI_SU_STAT_LOCKED,
   TWI_SU_STAT_WALK, TWI_SYNC_DEV_DELTA, TWI_SYNC_RATE_RATE, TWI_SYNC_MAX_MAX,
   TWI_PASSIVE_CNT_CNT, TWI_REINT_CNT_CNT, TWI_ADMIT_LO_NODES, TWI_ADMIT_HI_NODES,
   TWI_PORT_STATE, TWI_PORT_PEER, TWI_PORT_DLY]
/-- Every field of block TWI. -/
def fieldsTWI : List Fld := fieldsTWI_0 ++ fieldsTWI_1

/-- R77. -/
def TIME_CYCLE_CFG_LEN : Fld := { blk := 11, off := 0x0200, lsb := 0, w := 3, acc := .rwlSch, reset := 1 }
/-- R77. -/
def TIME_CYCLE_CFG_PLAN_CUSTOM : Fld := { blk := 11, off := 0x0200, lsb := 8, w := 1, acc := .rwlSch }
/-- R77. -/
def TIME_PHASE_1_START : Fld := { blk := 11, off := 0x0204, lsb := 0, w := 20, acc := .rwlSch, reset := 4000 }
/-- R77. -/
def TIME_PHASE_2_START : Fld := { blk := 11, off := 0x0208, lsb := 0, w := 20, acc := .rwlSch, reset := 32000 }
/-- R77. -/
def TIME_PHASE_3_START : Fld := { blk := 11, off := 0x020C, lsb := 0, w := 20, acc := .rwlSch, reset := 76000 }
/-- R77. -/
def TIME_PHASE_4_START : Fld := { blk := 11, off := 0x0210, lsb := 0, w := 20, acc := .rwlSch, reset := 96000 }
/-- R77. -/
def TIME_CYCLE_NUM_LO_NUM : Fld := { blk := 11, off := 0x0214, lsb := 0, w := 32, acc := .ro }
/-- R77. -/
def TIME_CYCLE_NUM_HI_NUM : Fld := { blk := 11, off := 0x0218, lsb := 0, w := 32, acc := .ro }
/-- R77. -/
def TIME_PHASE_STAT_PHASE : Fld := { blk := 11, off := 0x021C, lsb := 0, w := 3, acc := .ro }
/-- R77. -/
def TIME_PHASE_STAT_COMMIT_LATE : Fld := { blk := 11, off := 0x021C, lsb := 3, w := 1, acc := .w1c }
/-- R77. -/
def TIME_PHASE_STAT_PLAN_VALID : Fld := { blk := 11, off := 0x021C, lsb := 4, w := 1, acc := .ro }
/-- R77. -/
def TIME_PHASE_STAT_CUSTOM : Fld := { blk := 11, off := 0x021C, lsb := 5, w := 1, acc := .ro }
/-- R77. -/
def TIME_COMMIT_CNT_COMMIT_LATE_CNT : Fld := { blk := 11, off := 0x0220, lsb := 0, w := 16, acc := .cnt }
/-- R433. -/
def TIME_CTRL_SEL : Fld := { blk := 11, off := 0x0000, lsb := 0, w := 1, acc := .rw }
/-- R433. -/
def TIME_CTRL_AUTO_SWITCH : Fld := { blk := 11, off := 0x0000, lsb := 1, w := 1, acc := .rw }
/-- R433. -/
def TIME_CTRL_STEP_MODE : Fld := { blk := 11, off := 0x0000, lsb := 2, w := 1, acc := .rwlCfg, reset := 1 }
/-- R433. -/
def TIME_CTRL_WAIT_MS : Fld := { blk := 11, off := 0x0000, lsb := 16, w := 16, acc := .rwlCfg }
/-- R433. -/
def TIME_STAT_FIRST_LOCK : Fld := { blk := 11, off := 0x0004, lsb := 0, w := 1, acc := .ro }
/-- R433. -/
def TIME_STAT_HOLDOVER : Fld := { blk := 11, off := 0x0004, lsb := 1, w := 1, acc := .ro }
/-- R433. -/
def TIME_STAT_SWITCH_PEND : Fld := { blk := 11, off := 0x0004, lsb := 2, w := 1, acc := .ro }
/-- R433. -/
def TIME_STAT_SERVO : Fld := { blk := 11, off := 0x0004, lsb := 3, w := 1, acc := .ro }
/-- R433. -/
def TIME_FLAGS_STEP_SKIPPED : Fld := { blk := 11, off := 0x0008, lsb := 0, w := 1, acc := .w1c }
/-- R433. -/
def TIME_FLAGS_RLIM_HIT : Fld := { blk := 11, off := 0x0008, lsb := 1, w := 1, acc := .w1c }
/-- R433. -/
def TIME_FLAGS_OVERFLOW : Fld := { blk := 11, off := 0x0008, lsb := 2, w := 1, acc := .w1c }
/-- R433. -/
def TIME_FLAGS_SWITCHED : Fld := { blk := 11, off := 0x0008, lsb := 3, w := 1, acc := .w1c }
/-- R433. -/
def TIME_NOW_LO_C : Fld := { blk := 11, off := 0x000C, lsb := 0, w := 32, acc := .ro }
/-- R433. -/
def TIME_NOW_HI_C : Fld := { blk := 11, off := 0x0010, lsb := 0, w := 32, acc := .ro }
/-- R433. -/
def TIME_EPOCH_LO_EPOCH : Fld := { blk := 11, off := 0x0014, lsb := 0, w := 32, acc := .ro }
/-- R433. -/
def TIME_EPOCH_HI_EPOCH : Fld := { blk := 11, off := 0x0018, lsb := 0, w := 32, acc := .ro }
/-- R433. -/
def TIME_RATE_Y : Fld := { blk := 11, off := 0x001C, lsb := 0, w := 32, acc := .ro }
/-- R433. -/
def TIME_SERVO_Y_MAX : Fld := { blk := 11, off := 0x0020, lsb := 0, w := 10, acc := .rw, reset := 400, chk := .range 1 750 }
/-- R433. -/
def TIME_SERVO_SLEW_MAX : Fld := { blk := 11, off := 0x0020, lsb := 16, w := 9, acc := .rw, reset := 100, chk := .range 1 500 }
/-- R433. -/
def TIME_SERVO_TAU_TAU : Fld := { blk := 11, off := 0x0024, lsb := 0, w := 16, acc := .rw, reset := 1000, chk := .range 100 60000 }
/-- R433. -/
def TIME_SERVO_TAU_LOCK_THR : Fld := { blk := 11, off := 0x0024, lsb := 16, w := 16, acc := .rw, reset := 1000 }
/-- R433. -/
def TIME_DOM_CFG_EN : Fld := { blk := 11, off := 0x0100, lsb := 0, w := 1, acc := .rw, stride := 0x30, n := 2 }
/-- R433. -/
def TIME_DOM_CFG_PORT : Fld := { blk := 11, off := 0x0100, lsb := 1, w := 1, acc := .rwIdle, stride := 0x30, n := 2 }
/-- R433. -/
def TIME_DOM_CFG_GM_EN : Fld := { blk := 11, off := 0x0100, lsb := 2, w := 1, acc := .rwIdle, stride := 0x30, n := 2 }
/-- R433. -/
def TIME_DOM_CFG_DOMAIN : Fld := { blk := 11, off := 0x0100, lsb := 8, w := 7, acc := .rwIdle, stride := 0x30, n := 2, rstep := 20 }
/-- R433. -/
def TIME_DOM_CFG_PRIO1 : Fld := { blk := 11, off := 0x0100, lsb := 24, w := 8, acc := .rwIdle, stride := 0x30, n := 2, reset := 255 }
/-- R433. -/
def TIME_DOM_STAT_STATE : Fld := { blk := 11, off := 0x0104, lsb := 0, w := 3, acc := .ro, stride := 0x30, n := 2 }
/-- R433. -/
def TIME_DOM_STAT_GM_SELF : Fld := { blk := 11, off := 0x0104, lsb := 3, w := 1, acc := .ro, stride := 0x30, n := 2 }
/-- R433. -/
def TIME_DOM_STAT_LOG_SYNC : Fld := { blk := 11, off := 0x0104, lsb := 4, w := 8, acc := .ro, stride := 0x30, n := 2 }
/-- R433. -/
def TIME_DOM_OFS_LO_OFS : Fld := { blk := 11, off := 0x0108, lsb := 0, w := 32, acc := .ro, stride := 0x30, n := 2 }
/-- R433. -/
def TIME_DOM_OFS_HI_OFS : Fld := { blk := 11, off := 0x010C, lsb := 0, w := 32, acc := .ro, stride := 0x30, n := 2 }
/-- R433. -/
def TIME_DOM_RATE_R : Fld := { blk := 11, off := 0x0110, lsb := 0, w := 32, acc := .ro, stride := 0x30, n := 2 }
/-- R433. -/
def TIME_DOM_GM_LO_GM : Fld := { blk := 11, off := 0x0114, lsb := 0, w := 32, acc := .ro, stride := 0x30, n := 2 }
/-- R433. -/
def TIME_DOM_GM_HI_GM : Fld := { blk := 11, off := 0x0118, lsb := 0, w := 32, acc := .ro, stride := 0x30, n := 2 }
/-- R433. -/
def TIME_DOM_LOSS_CNT_CNT : Fld := { blk := 11, off := 0x011C, lsb := 0, w := 16, acc := .cnt, stride := 0x30, n := 2 }
/-- R433. -/
def TIME_ETH_LAT_ING_LAT : Fld := { blk := 11, off := 0x0180, lsb := 0, w := 16, acc := .rw, stride := 0x10, n := 2 }
/-- R433. -/
def TIME_ETH_LAT_EGR_LAT : Fld := { blk := 11, off := 0x0180, lsb := 16, w := 16, acc := .rw, stride := 0x10, n := 2 }
/-- R433. -/
def TIME_ETH_STAT_LINK : Fld := { blk := 11, off := 0x0184, lsb := 0, w := 1, acc := .ro, stride := 0x10, n := 2 }
/-- R433. -/
def TIME_ETH_DROP_CNT_CNT : Fld := { blk := 11, off := 0x0188, lsb := 0, w := 16, acc := .cnt, stride := 0x10, n := 2 }
/-- R433. -/
def TIME_OUT_CFG_MODE : Fld := { blk := 11, off := 0x0400, lsb := 0, w := 2, acc := .rw, stride := 0x20, n := 8 }
/-- R433. -/
def TIME_OUT_CFG_POL : Fld := { blk := 11, off := 0x0400, lsb := 2, w := 1, acc := .rw, stride := 0x20, n := 8 }
/-- R433. -/
def TIME_OUT_CFG_GROUP : Fld := { blk := 11, off := 0x0400, lsb := 3, w := 5, acc := .rw, stride := 0x20, n := 8 }
/-- R433. -/
def TIME_OUT_CFG_ORDER : Fld := { blk := 11, off := 0x0400, lsb := 8, w := 8, acc := .rw, stride := 0x20, n := 8 }
/-- R433. -/
def TIME_OUT_CFG_OWNER : Fld := { blk := 11, off := 0x0400, lsb := 16, w := 2, acc := .ro, stride := 0x20, n := 8 }
/-- R433. -/
def TIME_OUT_START_LO_START : Fld := { blk := 11, off := 0x0404, lsb := 0, w := 32, acc := .rw, stride := 0x20, n := 8 }
/-- R433. -/
def TIME_OUT_START_HI_START : Fld := { blk := 11, off := 0x0408, lsb := 0, w := 32, acc := .rw, stride := 0x20, n := 8 }
/-- R433. -/
def TIME_OUT_PERIOD_TICKS : Fld := { blk := 11, off := 0x040C, lsb := 0, w := 32, acc := .rw, stride := 0x20, n := 8 }
/-- R433. -/
def TIME_OUT_WIDTH_TICKS : Fld := { blk := 11, off := 0x0410, lsb := 0, w := 32, acc := .rw, stride := 0x20, n := 8 }
/-- R433. -/
def TIME_OUT_RLIM_RLIM : Fld := { blk := 11, off := 0x0414, lsb := 0, w := 24, acc := .rwlLim, stride := 0x20, n := 8 }
/-- R433. -/
def TIME_OUT_RLIM_USED : Fld := { blk := 11, off := 0x0414, lsb := 31, w := 1, acc := .rwlLim, stride := 0x20, n := 8 }
/-- R433. -/
def TIME_OUT_CTRL_GO : Fld := { blk := 11, off := 0x0418, lsb := 0, w := 1, acc := .wo, stride := 0x20, n := 8 }
/-- R433. -/
def TIME_OUT_CTRL_STOP : Fld := { blk := 11, off := 0x0418, lsb := 1, w := 1, acc := .wo, stride := 0x20, n := 8 }
/-- R433. -/
def TIME_OUT_CNT_RLIM : Fld := { blk := 11, off := 0x041C, lsb := 0, w := 8, acc := .cnt, stride := 0x20, n := 8 }
/-- R433. -/
def TIME_OUT_CNT_LATE : Fld := { blk := 11, off := 0x041C, lsb := 8, w := 8, acc := .cnt, stride := 0x20, n := 8 }
/-- R433. -/
def TIME_OUT_CNT_PULSES : Fld := { blk := 11, off := 0x041C, lsb := 16, w := 16, acc := .ro, stride := 0x20, n := 8 }
/-- R433. -/
def TIME_CAP_CFG_EN : Fld := { blk := 11, off := 0x0600, lsb := 0, w := 1, acc := .rw, stride := 0x20, n := 8 }
/-- R433. -/
def TIME_CAP_CFG_EDGE : Fld := { blk := 11, off := 0x0600, lsb := 1, w := 2, acc := .rw, stride := 0x20, n := 8, reset := 1, chk := .range 1 3 }
/-- R433. -/
def TIME_CAP_CFG_FILT : Fld := { blk := 11, off := 0x0600, lsb := 8, w := 8, acc := .rw, stride := 0x20, n := 8, reset := 3 }
/-- R433. -/
def TIME_CAP_CFG_OWNER : Fld := { blk := 11, off := 0x0600, lsb := 16, w := 2, acc := .ro, stride := 0x20, n := 8 }
/-- R433. -/
def TIME_CAP_LO_STAMP : Fld := { blk := 11, off := 0x0604, lsb := 0, w := 32, acc := .ro, stride := 0x20, n := 8 }
/-- R433. -/
def TIME_CAP_HI_STAMP : Fld := { blk := 11, off := 0x0608, lsb := 0, w := 32, acc := .ro, stride := 0x20, n := 8 }
/-- R433. -/
def TIME_CAP_STAT_COUNT : Fld := { blk := 11, off := 0x060C, lsb := 0, w := 5, acc := .ro, stride := 0x20, n := 8 }
/-- R433. -/
def TIME_CAP_STAT_HEAD_EDGE : Fld := { blk := 11, off := 0x060C, lsb := 5, w := 1, acc := .ro, stride := 0x20, n := 8 }
/-- R433. -/
def TIME_CAP_STAT_LEVEL : Fld := { blk := 11, off := 0x060C, lsb := 6, w := 1, acc := .ro, stride := 0x20, n := 8 }
/-- R433. -/
def TIME_OVF_CNT_CNT : Fld := { blk := 11, off := 0x0610, lsb := 0, w := 16, acc := .cnt, stride := 0x20, n := 8 }

/-- Fields of block TIME, part 0. -/
def fieldsTIME_0 : List Fld :=
  [TIME_CYCLE_CFG_LEN, TIME_CYCLE_CFG_PLAN_CUSTOM, TIME_PHASE_1_START, TIME_PHASE_2_START,
   TIME_PHASE_3_START, TIME_PHASE_4_START, TIME_CYCLE_NUM_LO_NUM, TIME_CYCLE_NUM_HI_NUM,
   TIME_PHASE_STAT_PHASE, TIME_PHASE_STAT_COMMIT_LATE, TIME_PHASE_STAT_PLAN_VALID, TIME_PHASE_STAT_CUSTOM,
   TIME_COMMIT_CNT_COMMIT_LATE_CNT, TIME_CTRL_SEL, TIME_CTRL_AUTO_SWITCH, TIME_CTRL_STEP_MODE,
   TIME_CTRL_WAIT_MS, TIME_STAT_FIRST_LOCK, TIME_STAT_HOLDOVER, TIME_STAT_SWITCH_PEND,
   TIME_STAT_SERVO, TIME_FLAGS_STEP_SKIPPED, TIME_FLAGS_RLIM_HIT, TIME_FLAGS_OVERFLOW,
   TIME_FLAGS_SWITCHED, TIME_NOW_LO_C, TIME_NOW_HI_C, TIME_EPOCH_LO_EPOCH,
   TIME_EPOCH_HI_EPOCH, TIME_RATE_Y, TIME_SERVO_Y_MAX, TIME_SERVO_SLEW_MAX,
   TIME_SERVO_TAU_TAU, TIME_SERVO_TAU_LOCK_THR, TIME_DOM_CFG_EN, TIME_DOM_CFG_PORT,
   TIME_DOM_CFG_GM_EN, TIME_DOM_CFG_DOMAIN, TIME_DOM_CFG_PRIO1, TIME_DOM_STAT_STATE]
/-- Fields of block TIME, part 1. -/
def fieldsTIME_1 : List Fld :=
  [TIME_DOM_STAT_GM_SELF, TIME_DOM_STAT_LOG_SYNC, TIME_DOM_OFS_LO_OFS, TIME_DOM_OFS_HI_OFS,
   TIME_DOM_RATE_R, TIME_DOM_GM_LO_GM, TIME_DOM_GM_HI_GM, TIME_DOM_LOSS_CNT_CNT,
   TIME_ETH_LAT_ING_LAT, TIME_ETH_LAT_EGR_LAT, TIME_ETH_STAT_LINK, TIME_ETH_DROP_CNT_CNT,
   TIME_OUT_CFG_MODE, TIME_OUT_CFG_POL, TIME_OUT_CFG_GROUP, TIME_OUT_CFG_ORDER,
   TIME_OUT_CFG_OWNER, TIME_OUT_START_LO_START, TIME_OUT_START_HI_START, TIME_OUT_PERIOD_TICKS,
   TIME_OUT_WIDTH_TICKS, TIME_OUT_RLIM_RLIM, TIME_OUT_RLIM_USED, TIME_OUT_CTRL_GO,
   TIME_OUT_CTRL_STOP, TIME_OUT_CNT_RLIM, TIME_OUT_CNT_LATE, TIME_OUT_CNT_PULSES,
   TIME_CAP_CFG_EN, TIME_CAP_CFG_EDGE, TIME_CAP_CFG_FILT, TIME_CAP_CFG_OWNER,
   TIME_CAP_LO_STAMP, TIME_CAP_HI_STAMP, TIME_CAP_STAT_COUNT, TIME_CAP_STAT_HEAD_EDGE,
   TIME_CAP_STAT_LEVEL, TIME_OVF_CNT_CNT]
/-- Every field of block TIME. -/
def fieldsTIME : List Fld := fieldsTIME_0 ++ fieldsTIME_1

end Sys2Proof.Machine
end

