-- ==== Sys2Proof/Machine/RegsRun.lean ====
section
/-! DEFINITION. The register fields of the blocks CRUC, RUN, AXL, one definition a field, from the register tables of
spec/ (the rule that gives each table stands with the field). -/

namespace Sys2Proof.Machine

/-- R174. -/
def CRUC_CTRL_EN : Fld := { blk := 5, off := 0x0000, lsb := 0, w := 1, acc := .rw }
/-- R174. -/
def CRUC_CTRL_GROUP_EN : Fld := { blk := 5, off := 0x0000, lsb := 16, w := 16, acc := .rwlCfg, reset := 65535 }
/-- R174. -/
def CRUC_STATUS_BUSY : Fld := { blk := 5, off := 0x0004, lsb := 0, w := 16, acc := .ro }
/-- R174. -/
def CRUC_STATUS_QDEPTH : Fld := { blk := 5, off := 0x0004, lsb := 16, w := 6, acc := .ro }
/-- R174. -/
def CRUC_STATUS_WINDOW : Fld := { blk := 5, off := 0x0004, lsb := 24, w := 1, acc := .ro }
/-- R174. -/
def CRUC_FLAGS_RANGE : Fld := { blk := 5, off := 0x0008, lsb := 0, w := 1, acc := .w1c }
/-- R174. -/
def CRUC_FLAGS_SATURATED : Fld := { blk := 5, off := 0x0008, lsb := 1, w := 1, acc := .w1c }
/-- R174. -/
def CRUC_FLAGS_NOT_CONVERGED : Fld := { blk := 5, off := 0x0008, lsb := 2, w := 1, acc := .w1c }
/-- R174. -/
def CRUC_FLAGS_PROG_FAULT : Fld := { blk := 5, off := 0x0008, lsb := 3, w := 1, acc := .w1c }
/-- R174. -/
def CRUC_FLAGS_POISON : Fld := { blk := 5, off := 0x0008, lsb := 4, w := 1, acc := .w1c }
/-- R174. -/
def CRUC_FLAGS_COLD_START : Fld := { blk := 5, off := 0x0008, lsb := 5, w := 1, acc := .w1c }
/-- R174. -/
def CRUC_RANGE_CNT_CNT : Fld := { blk := 5, off := 0x000C, lsb := 0, w := 16, acc := .cnt }
/-- R174. -/
def CRUC_SAT_CNT_CNT : Fld := { blk := 5, off := 0x0010, lsb := 0, w := 16, acc := .cnt }
/-- R174. -/
def CRUC_NC_CNT_CNT : Fld := { blk := 5, off := 0x0014, lsb := 0, w := 16, acc := .cnt }
/-- R174. -/
def CRUC_RANGE_VAR_VAR : Fld := { blk := 5, off := 0x0018, lsb := 0, w := 32, acc := .ro }
/-- R174. -/
def CRUC_RANGE_PROG_SLOT : Fld := { blk := 5, off := 0x001C, lsb := 0, w := 6, acc := .ro }
/-- R174. -/
def CRUC_CYC_USED_CYC : Fld := { blk := 5, off := 0x0020, lsb := 0, w := 20, acc := .ro }
/-- R174. -/
def CRUC_CYC_MAX_MAX : Fld := { blk := 5, off := 0x0024, lsb := 0, w := 20, acc := .cnt }
/-- R174. -/
def CRUC_PUB_ADDR_ADDR : Fld := { blk := 5, off := 0x0028, lsb := 0, w := 32, acc := .ro }
/-- R174. -/
def CRUC_PROG_ADDR_OFFSET : Fld := { blk := 5, off := 0x0100, lsb := 4, w := 17, acc := .rwlCfg, stride := 0x8, n := 64 }
/-- R174. -/
def CRUC_PROG_CFG_KIND : Fld := { blk := 5, off := 0x0104, lsb := 0, w := 8, acc := .rwlCfg, stride := 0x8, n := 64 }
/-- R174. -/
def CRUC_PROG_CFG_GROUPS : Fld := { blk := 5, off := 0x0104, lsb := 8, w := 16, acc := .rwlCfg, stride := 0x8, n := 64 }
/-- R174. -/
def CRUC_PROG_CFG_CHAIN : Fld := { blk := 5, off := 0x0104, lsb := 24, w := 5, acc := .rwlCfg, stride := 0x8, n := 64, reset := 31 }
/-- R174. -/
def CRUC_PROG_CFG_VALID : Fld := { blk := 5, off := 0x0104, lsb := 29, w := 1, acc := .rwlCfg, stride := 0x8, n := 64 }
/-- R200. -/
def CRUC_DL_CFG_N_MISS : Fld := { blk := 5, off := 0x1000, lsb := 0, w := 4, acc := .rwlCfg, reset := 2, chk := .range 1 15 }
/-- R200. -/
def CRUC_DL_FLAGS_MISS : Fld := { blk := 5, off := 0x1004, lsb := 0, w := 1, acc := .w1c }
/-- R200. -/
def CRUC_DL_FLAGS_REPEAT : Fld := { blk := 5, off := 0x1004, lsb := 1, w := 1, acc := .w1c }
/-- R200. -/
def CRUC_DL_CNT_CNT : Fld := { blk := 5, off := 0x1008, lsb := 0, w := 16, acc := .cnt }
/-- R200. -/
def CRUC_SING_CNT_CNT : Fld := { blk := 5, off := 0x1010, lsb := 0, w := 16, acc := .cnt }
/-- R200. -/
def CRUC_DL_LAST_SLOT : Fld := { blk := 5, off := 0x100C, lsb := 0, w := 6, acc := .ro }
/-- R200. -/
def CRUC_DL_LAST_STATE : Fld := { blk := 5, off := 0x100C, lsb := 6, w := 2, acc := .ro }
/-- R200. -/
def CRUC_DL_LAST_CYCLE : Fld := { blk := 5, off := 0x100C, lsb := 16, w := 16, acc := .ro }
/-- R200. -/
def CRUC_MISS_RUN_RUN : Fld := { blk := 5, off := 0x1100, lsb := 0, w := 4, acc := .ro, stride := 0x4, n := 64 }
/-- R200. -/
def CRUC_CL_CFG_SLOT : Fld := { blk := 5, off := 0x1200, lsb := 0, w := 6, acc := .rwlCfg, stride := 0x10, n := 8 }
/-- R200. -/
def CRUC_CL_CFG_VALID : Fld := { blk := 5, off := 0x1200, lsb := 6, w := 1, acc := .rwlCfg, stride := 0x10, n := 8 }
/-- R200. -/
def CRUC_CL_EPS_EPS : Fld := { blk := 5, off := 0x1204, lsb := 0, w := 32, acc := .rw, stride := 0x10, n := 8, reset := 256, chk := .range 1 2147483647 }
/-- R200. -/
def CRUC_CL_STAT_PIVOT : Fld := { blk := 5, off := 0x1208, lsb := 0, w := 16, acc := .ro, stride := 0x10, n := 8, reset := 65535 }
/-- R200. -/
def CRUC_CL_STAT_PIV_CNT : Fld := { blk := 5, off := 0x1208, lsb := 16, w := 8, acc := .ro, stride := 0x10, n := 8 }
/-- R200. -/
def CRUC_DIST_THR_THR : Fld := { blk := 5, off := 0x1300, lsb := 0, w := 32, acc := .rw, stride := 0x4, n := 8 }
/-- R175. -/
def CRUC_IK_CFG_MAX_ITER : Fld := { blk := 5, off := 0x0400, lsb := 0, w := 5, acc := .rw, stride := 0x20, n := 16, reset := 4, chk := .range 1 16 }
/-- R175. -/
def CRUC_IK_CFG_WS_EXTRAP : Fld := { blk := 5, off := 0x0400, lsb := 5, w := 1, acc := .rw, stride := 0x20, n := 16 }
/-- R175. -/
def CRUC_IK_CFG_CLAMP_EN : Fld := { blk := 5, off := 0x0400, lsb := 6, w := 1, acc := .rw, stride := 0x20, n := 16, reset := 1 }
/-- R175. -/
def CRUC_IK_LAMBDA_LAMBDA : Fld := { blk := 5, off := 0x0404, lsb := 0, w := 32, acc := .rw, stride := 0x20, n := 16, reset := 8389, chk := .range 1 4294967295 }
/-- R175. -/
def CRUC_IK_WROT_W : Fld := { blk := 5, off := 0x0408, lsb := 0, w := 32, acc := .rw, stride := 0x20, n := 16, reset := 2097152 }
/-- R175. -/
def CRUC_IK_TOLP_TOL_POS : Fld := { blk := 5, off := 0x040C, lsb := 0, w := 32, acc := .rw, stride := 0x20, n := 16, reset := 8 }
/-- R175. -/
def CRUC_IK_TOLR_TOL_ROT : Fld := { blk := 5, off := 0x0410, lsb := 0, w := 32, acc := .rw, stride := 0x20, n := 16, reset := 1024 }
/-- R175. -/
def CRUC_IK_DQROT_DQ_ROT : Fld := { blk := 5, off := 0x0414, lsb := 0, w := 32, acc := .rw, stride := 0x20, n := 16, reset := 13421773 }
/-- R175. -/
def CRUC_IK_DQLIN_DQ_LIN : Fld := { blk := 5, off := 0x0418, lsb := 0, w := 32, acc := .rw, stride := 0x20, n := 16, reset := 41943 }

/-- Fields of block CRUC, part 0. -/
def fieldsCRUC_0 : List Fld :=
  [CRUC_CTRL_EN, CRUC_CTRL_GROUP_EN, CRUC_STATUS_BUSY, CRUC_STATUS_QDEPTH,
   CRUC_STATUS_WINDOW, CRUC_FLAGS_RANGE, CRUC_FLAGS_SATURATED, CRUC_FLAGS_NOT_CONVERGED,
   CRUC_FLAGS_PROG_FAULT, CRUC_FLAGS_POISON, CRUC_FLAGS_COLD_START, CRUC_RANGE_CNT_CNT,
   CRUC_SAT_CNT_CNT, CRUC_NC_CNT_CNT, CRUC_RANGE_VAR_VAR, CRUC_RANGE_PROG_SLOT,
   CRUC_CYC_USED_CYC, CRUC_CYC_MAX_MAX, CRUC_PUB_ADDR_ADDR, CRUC_PROG_ADDR_OFFSET,
   CRUC_PROG_CFG_KIND, CRUC_PROG_CFG_GROUPS, CRUC_PROG_CFG_CHAIN, CRUC_PROG_CFG_VALID,
   CRUC_DL_CFG_N_MISS, CRUC_DL_FLAGS_MISS, CRUC_DL_FLAGS_REPEAT, CRUC_DL_CNT_CNT,
   CRUC_SING_CNT_CNT, CRUC_DL_LAST_SLOT, CRUC_DL_LAST_STATE, CRUC_DL_LAST_CYCLE,
   CRUC_MISS_RUN_RUN, CRUC_CL_CFG_SLOT, CRUC_CL_CFG_VALID, CRUC_CL_EPS_EPS,
   CRUC_CL_STAT_PIVOT, CRUC_CL_STAT_PIV_CNT, CRUC_DIST_THR_THR, CRUC_IK_CFG_MAX_ITER]
/-- Fields of block CRUC, part 1. -/
def fieldsCRUC_1 : List Fld :=
  [CRUC_IK_CFG_WS_EXTRAP, CRUC_IK_CFG_CLAMP_EN, CRUC_IK_LAMBDA_LAMBDA, CRUC_IK_WROT_W,
   CRUC_IK_TOLP_TOL_POS, CRUC_IK_TOLR_TOL_ROT, CRUC_IK_DQROT_DQ_ROT, CRUC_IK_DQLIN_DQ_LIN]
/-- Every field of block CRUC. -/
def fieldsCRUC : List Fld := fieldsCRUC_0 ++ fieldsCRUC_1

/-- R236. -/
def RUN_CTRL_EN : Fld := { blk := 6, off := 0x0000, lsb := 0, w := 1, acc := .rw }
/-- R236. -/
def RUN_STATUS_ACTIVE : Fld := { blk := 6, off := 0x0004, lsb := 0, w := 6, acc := .ro }
/-- R236. -/
def RUN_STATUS_PENDING : Fld := { blk := 6, off := 0x0004, lsb := 6, w := 1, acc := .ro }
/-- R236. -/
def RUN_STATUS_REFILL : Fld := { blk := 6, off := 0x0004, lsb := 7, w := 1, acc := .ro }
/-- R236. -/
def RUN_FLAGS_ROLLBACK : Fld := { blk := 6, off := 0x0008, lsb := 0, w := 1, acc := .w1c }
/-- R236. -/
def RUN_FLAGS_UNDERRUN : Fld := { blk := 6, off := 0x0008, lsb := 1, w := 1, acc := .w1c }
/-- R236. -/
def RUN_FLAGS_STREAM_BROKEN : Fld := { blk := 6, off := 0x0008, lsb := 2, w := 1, acc := .w1c }
/-- R236. -/
def RUN_FLAGS_DEG_USED : Fld := { blk := 6, off := 0x0008, lsb := 3, w := 1, acc := .w1c }
/-- R236. -/
def RUN_FLAGS_POLICY : Fld := { blk := 6, off := 0x0008, lsb := 4, w := 1, acc := .w1c }
/-- R236. -/
def RUN_RB_CNT_CNT : Fld := { blk := 6, off := 0x000C, lsb := 0, w := 16, acc := .cnt }
/-- R236. -/
def RUN_UNDERRUN_CNT_CNT : Fld := { blk := 6, off := 0x0010, lsb := 0, w := 16, acc := .cnt }
/-- R236. -/
def RUN_DEG_CNT_CNT : Fld := { blk := 6, off := 0x0014, lsb := 0, w := 16, acc := .cnt }
/-- R236. -/
def RUN_RING_ADDR_ADDR : Fld := { blk := 6, off := 0x0018, lsb := 0, w := 32, acc := .ro }
/-- R236. -/
def RUN_SEG_ADDR_ADDR : Fld := { blk := 6, off := 0x001C, lsb := 0, w := 32, acc := .ro }
/-- R236. -/
def RUN_GRP_CFG_DEPTH : Fld := { blk := 6, off := 0x0100, lsb := 0, w := 7, acc := .rw, stride := 0x20, n := 32, reset := 64, chk := .range 1 64 }
/-- R236. -/
def RUN_GRP_CFG_POS_POL : Fld := { blk := 6, off := 0x0100, lsb := 8, w := 2, acc := .rw, stride := 0x20, n := 32, chk := .range 0 2 }
/-- R236. -/
def RUN_GRP_CFG_TFF_POL : Fld := { blk := 6, off := 0x0100, lsb := 10, w := 2, acc := .rw, stride := 0x20, n := 32 }
/-- R236. -/
def RUN_GRP_CFG_UNDERRUN_MAX : Fld := { blk := 6, off := 0x0100, lsb := 16, w := 7, acc := .rw, stride := 0x20, n := 32, reset := 4, chk := .range 0 64 }
/-- R236. -/
def RUN_GRP_KT_KT_N : Fld := { blk := 6, off := 0x0104, lsb := 0, w := 16, acc := .rw, stride := 0x20, n := 32, reset := 800, chk := .range 1 65535 }
/-- R236. -/
def RUN_GRP_KT_KT_S : Fld := { blk := 6, off := 0x0104, lsb := 16, w := 16, acc := .rw, stride := 0x20, n := 32, reset := 1600, chk := .range 1 65535 }
/-- R236. -/
def RUN_GRP_OVR_OVR : Fld := { blk := 6, off := 0x0108, lsb := 0, w := 31, acc := .rw, stride := 0x20, n := 32, reset := 1073741824, chk := .range 0 1073741824 }
/-- R236. -/
def RUN_GRP_STAT_STATE : Fld := { blk := 6, off := 0x010C, lsb := 0, w := 3, acc := .ro, stride := 0x20, n := 32 }
/-- R236. -/
def RUN_GRP_STAT_RB : Fld := { blk := 6, off := 0x010C, lsb := 3, w := 2, acc := .ro, stride := 0x20, n := 32 }
/-- R236. -/
def RUN_GRP_STAT_FEED_HOLD : Fld := { blk := 6, off := 0x010C, lsb := 5, w := 1, acc := .ro, stride := 0x20, n := 32 }
/-- R236. -/
def RUN_GRP_STAT_LIMITED : Fld := { blk := 6, off := 0x010C, lsb := 6, w := 1, acc := .ro, stride := 0x20, n := 32 }
/-- R236. -/
def RUN_GRP_STAT_COUPLED : Fld := { blk := 6, off := 0x010C, lsb := 7, w := 1, acc := .ro, stride := 0x20, n := 32 }
/-- R236. -/
def RUN_GRP_STAT_DEPTH_NOW : Fld := { blk := 6, off := 0x010C, lsb := 8, w := 7, acc := .ro, stride := 0x20, n := 32 }
/-- R236. -/
def RUN_GRP_K_K : Fld := { blk := 6, off := 0x0110, lsb := 0, w := 31, acc := .ro, stride := 0x20, n := 32, reset := 1073741824 }
/-- R236. -/
def RUN_GRP_FRONT_FRONT : Fld := { blk := 6, off := 0x0114, lsb := 0, w := 32, acc := .ro, stride := 0x20, n := 32 }
/-- R236. -/
def RUN_GRP_QUEUE_USED : Fld := { blk := 6, off := 0x0118, lsb := 0, w := 9, acc := .ro, stride := 0x20, n := 32 }
/-- R236. -/
def RUN_GRP_QUEUE_SEG_CUR : Fld := { blk := 6, off := 0x0118, lsb := 16, w := 16, acc := .ro, stride := 0x20, n := 32 }
/-- R236. -/
def RUN_GRP_STREAM_BOUND : Fld := { blk := 6, off := 0x011C, lsb := 0, w := 1, acc := .ro, stride := 0x20, n := 32 }
/-- R236. -/
def RUN_GRP_STREAM_RING : Fld := { blk := 6, off := 0x011C, lsb := 1, w := 5, acc := .ro, stride := 0x20, n := 32 }
/-- R236. -/
def RUN_GRP_STREAM_UNDERRUN_RUN : Fld := { blk := 6, off := 0x011C, lsb := 8, w := 7, acc := .ro, stride := 0x20, n := 32 }
/-- R266. -/
def RUN_GEAR_CFG_SRC : Fld := { blk := 6, off := 0x0600, lsb := 0, w := 2, acc := .ro, stride := 0x20, n := 32 }
/-- R266. -/
def RUN_GEAR_CFG_PRED : Fld := { blk := 6, off := 0x0600, lsb := 2, w := 2, acc := .rw, stride := 0x20, n := 32, reset := 1, chk := .range 0 2 }
/-- R266. -/
def RUN_GEAR_CFG_MLOSS_MAX : Fld := { blk := 6, off := 0x0600, lsb := 4, w := 4, acc := .rw, stride := 0x20, n := 32, reset := 2, chk := .range 0 8 }
/-- R266. -/
def RUN_GEAR_CFG_LEAD : Fld := { blk := 6, off := 0x0600, lsb := 16, w := 16, acc := .rw, stride := 0x20, n := 32, reset := 400 }
/-- R266. -/
def RUN_GEAR_STAT_ENGAGED : Fld := { blk := 6, off := 0x0604, lsb := 0, w := 1, acc := .ro, stride := 0x20, n := 32 }
/-- R266. -/
def RUN_GEAR_STAT_RAMPING : Fld := { blk := 6, off := 0x0604, lsb := 1, w := 1, acc := .ro, stride := 0x20, n := 32 }
/-- R266. -/
def RUN_GEAR_STAT_ARMED : Fld := { blk := 6, off := 0x0604, lsb := 2, w := 3, acc := .ro, stride := 0x20, n := 32 }
/-- R266. -/
def RUN_GEAR_STAT_MLOSS_RUN : Fld := { blk := 6, off := 0x0604, lsb := 8, w := 4, acc := .ro, stride := 0x20, n := 32 }
/-- R266. -/
def RUN_GEAR_STAT_DIR : Fld := { blk := 6, off := 0x0604, lsb := 12, w := 1, acc := .ro, stride := 0x20, n := 32 }
/-- R266. -/
def RUN_GEAR_MPOS_LO_MPOS : Fld := { blk := 6, off := 0x0608, lsb := 0, w := 32, acc := .ro, stride := 0x20, n := 32 }
/-- R266. -/
def RUN_GEAR_MPOS_HI_MPOS : Fld := { blk := 6, off := 0x060C, lsb := 0, w := 32, acc := .ro, stride := 0x20, n := 32 }
/-- R266. -/
def RUN_GEAR_MVEL_MVEL : Fld := { blk := 6, off := 0x0610, lsb := 0, w := 32, acc := .ro, stride := 0x20, n := 32 }
/-- R266. -/
def RUN_GEAR_CHG_CNT_CNT : Fld := { blk := 6, off := 0x0614, lsb := 0, w := 16, acc := .cnt, stride := 0x20, n := 32 }
/-- R266. -/
def RUN_START_CFG_LINE : Fld := { blk := 6, off := 0x0A00, lsb := 0, w := 1, acc := .rw, reset := 1 }
/-- R266. -/
def RUN_START_CFG_ARM_MIN : Fld := { blk := 6, off := 0x0A00, lsb := 8, w := 16, acc := .rw, reset := 1000 }
/-- R266. -/
def RUN_START_STAT_STATE : Fld := { blk := 6, off := 0x0A04, lsb := 0, w := 2, acc := .ro }
/-- R266. -/
def RUN_START_STAT_FALLBACK : Fld := { blk := 6, off := 0x0A04, lsb := 2, w := 1, acc := .w1c }
/-- R266. -/
def RUN_START_STAT_LEVEL : Fld := { blk := 6, off := 0x0A04, lsb := 3, w := 1, acc := .ro }
/-- R266. -/
def RUN_START_DELAY_DELAY : Fld := { blk := 6, off := 0x0A08, lsb := 0, w := 24, acc := .rw }
/-- R266. -/
def RUN_START_COMP_COMP : Fld := { blk := 6, off := 0x0A0C, lsb := 0, w := 16, acc := .rw }
/-- R266. -/
def RUN_START_TIME_LO_T_S : Fld := { blk := 6, off := 0x0A10, lsb := 0, w := 32, acc := .ro }
/-- R266. -/
def RUN_START_TIME_HI_T_S : Fld := { blk := 6, off := 0x0A14, lsb := 0, w := 32, acc := .ro }
/-- R266. -/
def RUN_LIM_CFG_P_MODE : Fld := { blk := 6, off := 0x0B00, lsb := 0, w := 2, acc := .rwlCfg, stride := 0x4, n := 16, chk := .range 0 2 }
/-- R266. -/
def RUN_LIM_CFG_N_MODE : Fld := { blk := 6, off := 0x0B00, lsb := 2, w := 2, acc := .rwlCfg, stride := 0x4, n := 16, chk := .range 0 2 }
/-- R266. -/
def RUN_LIM_CFG_P_POL : Fld := { blk := 6, off := 0x0B00, lsb := 4, w := 1, acc := .rwlCfg, stride := 0x4, n := 16 }
/-- R266. -/
def RUN_LIM_CFG_N_POL : Fld := { blk := 6, off := 0x0B00, lsb := 5, w := 1, acc := .rwlCfg, stride := 0x4, n := 16 }
/-- R266. -/
def RUN_LIM_CFG_ALT : Fld := { blk := 6, off := 0x0B00, lsb := 6, w := 1, acc := .rwlCfg, stride := 0x4, n := 16 }
/-- R266. -/
def RUN_LIM_CFG_FILT : Fld := { blk := 6, off := 0x0B00, lsb := 16, w := 10, acc := .rwlCfg, stride := 0x4, n := 16, reset := 200, chk := .range 0 1000 }
/-- R266. -/
def RUN_LIM_MARGIN_MARGIN : Fld := { blk := 6, off := 0x0B40, lsb := 0, w := 32, acc := .rwlCfg, stride := 0x4, n := 16, reset := 1048576 }
/-- R266. -/
def RUN_LIM_STAT_P_ACT : Fld := { blk := 6, off := 0x0B80, lsb := 0, w := 16, acc := .ro }
/-- R266. -/
def RUN_LIM_STAT_N_ACT : Fld := { blk := 6, off := 0x0B80, lsb := 16, w := 16, acc := .ro }
/-- R266. -/
def RUN_LIM_CLAMP_CLAMP : Fld := { blk := 6, off := 0x0B84, lsb := 0, w := 16, acc := .w1c }

/-- Fields of block RUN, part 0. -/
def fieldsRUN_0 : List Fld :=
  [RUN_CTRL_EN, RUN_STATUS_ACTIVE, RUN_STATUS_PENDING, RUN_STATUS_REFILL,
   RUN_FLAGS_ROLLBACK, RUN_FLAGS_UNDERRUN, RUN_FLAGS_STREAM_BROKEN, RUN_FLAGS_DEG_USED,
   RUN_FLAGS_POLICY, RUN_RB_CNT_CNT, RUN_UNDERRUN_CNT_CNT, RUN_DEG_CNT_CNT,
   RUN_RING_ADDR_ADDR, RUN_SEG_ADDR_ADDR, RUN_GRP_CFG_DEPTH, RUN_GRP_CFG_POS_POL,
   RUN_GRP_CFG_TFF_POL, RUN_GRP_CFG_UNDERRUN_MAX, RUN_GRP_KT_KT_N, RUN_GRP_KT_KT_S,
   RUN_GRP_OVR_OVR, RUN_GRP_STAT_STATE, RUN_GRP_STAT_RB, RUN_GRP_STAT_FEED_HOLD,
   RUN_GRP_STAT_LIMITED, RUN_GRP_STAT_COUPLED, RUN_GRP_STAT_DEPTH_NOW, RUN_GRP_K_K,
   RUN_GRP_FRONT_FRONT, RUN_GRP_QUEUE_USED, RUN_GRP_QUEUE_SEG_CUR, RUN_GRP_STREAM_BOUND,
   RUN_GRP_STREAM_RING, RUN_GRP_STREAM_UNDERRUN_RUN, RUN_GEAR_CFG_SRC, RUN_GEAR_CFG_PRED,
   RUN_GEAR_CFG_MLOSS_MAX, RUN_GEAR_CFG_LEAD, RUN_GEAR_STAT_ENGAGED, RUN_GEAR_STAT_RAMPING]
/-- Fields of block RUN, part 1. -/
def fieldsRUN_1 : List Fld :=
  [RUN_GEAR_STAT_ARMED, RUN_GEAR_STAT_MLOSS_RUN, RUN_GEAR_STAT_DIR, RUN_GEAR_MPOS_LO_MPOS,
   RUN_GEAR_MPOS_HI_MPOS, RUN_GEAR_MVEL_MVEL, RUN_GEAR_CHG_CNT_CNT, RUN_START_CFG_LINE,
   RUN_START_CFG_ARM_MIN, RUN_START_STAT_STATE, RUN_START_STAT_FALLBACK, RUN_START_STAT_LEVEL,
   RUN_START_DELAY_DELAY, RUN_START_COMP_COMP, RUN_START_TIME_LO_T_S, RUN_START_TIME_HI_T_S,
   RUN_LIM_CFG_P_MODE, RUN_LIM_CFG_N_MODE, RUN_LIM_CFG_P_POL, RUN_LIM_CFG_N_POL,
   RUN_LIM_CFG_ALT, RUN_LIM_CFG_FILT, RUN_LIM_MARGIN_MARGIN, RUN_LIM_STAT_P_ACT,
   RUN_LIM_STAT_N_ACT, RUN_LIM_CLAMP_CLAMP]
/-- Every field of block RUN. -/
def fieldsRUN : List Fld := fieldsRUN_0 ++ fieldsRUN_1

/-- R299. -/
def AXL_SUMMARY_ENABLED : Fld := { blk := 7, off := 0x0000, lsb := 0, w := 16, acc := .ro }
/-- R299. -/
def AXL_SUMMARY_INJECT : Fld := { blk := 7, off := 0x0000, lsb := 16, w := 16, acc := .ro }
/-- R299. -/
def AXL_MODE_LOOP_MODE : Fld := { blk := 7, off := 0x1000, lsb := 0, w := 2, acc := .rwIdle, stride := 0x100, n := 16 }
/-- R299. -/
def AXL_MODE_POS_LAW : Fld := { blk := 7, off := 0x1000, lsb := 2, w := 1, acc := .rwIdle, stride := 0x100, n := 16 }
/-- R299. -/
def AXL_MODE_CUR_LAW : Fld := { blk := 7, off := 0x1000, lsb := 3, w := 1, acc := .rwIdle, stride := 0x100, n := 16 }
/-- R299. -/
def AXL_MODE_MOTOR : Fld := { blk := 7, off := 0x1000, lsb := 4, w := 2, acc := .rwIdle, stride := 0x100, n := 16, chk := .range 0 1 }
/-- R299. -/
def AXL_MODE_POS_RATE : Fld := { blk := 7, off := 0x1000, lsb := 6, w := 2, acc := .rwIdle, stride := 0x100, n := 16, chk := .range 0 2 }
/-- R299. -/
def AXL_MODE_CUR_DIV : Fld := { blk := 7, off := 0x1000, lsb := 8, w := 4, acc := .rwIdle, stride := 0x100, n := 16, reset := 1, chk := .range 1 15 }
/-- R299. -/
def AXL_STAT_STATE : Fld := { blk := 7, off := 0x1004, lsb := 0, w := 2, acc := .ro, stride := 0x100, n := 16 }
/-- R299. -/
def AXL_STAT_BAND_IN : Fld := { blk := 7, off := 0x1004, lsb := 2, w := 1, acc := .ro, stride := 0x100, n := 16 }
/-- R299. -/
def AXL_STAT_V_SAT : Fld := { blk := 7, off := 0x1004, lsb := 3, w := 1, acc := .ro, stride := 0x100, n := 16 }
/-- R299. -/
def AXL_STAT_I_SAT : Fld := { blk := 7, off := 0x1004, lsb := 4, w := 1, acc := .ro, stride := 0x100, n := 16 }
/-- R299. -/
def AXL_STAT_V_LIM : Fld := { blk := 7, off := 0x1004, lsb := 5, w := 1, acc := .ro, stride := 0x100, n := 16 }
/-- R299. -/
def AXL_STAT_REF_STALE : Fld := { blk := 7, off := 0x1004, lsb := 6, w := 1, acc := .ro, stride := 0x100, n := 16 }
/-- R299. -/
def AXL_STAT_COMMIT_PEND : Fld := { blk := 7, off := 0x1004, lsb := 7, w := 1, acc := .ro, stride := 0x100, n := 16 }
/-- R299. -/
def AXL_FLAGS_FOLLOWING : Fld := { blk := 7, off := 0x1008, lsb := 0, w := 1, acc := .w1c, stride := 0x100, n := 16 }
/-- R299. -/
def AXL_FLAGS_OVERSPEED : Fld := { blk := 7, off := 0x1008, lsb := 1, w := 1, acc := .w1c, stride := 0x100, n := 16 }
/-- R299. -/
def AXL_FLAGS_FEEDBACK : Fld := { blk := 7, off := 0x1008, lsb := 2, w := 1, acc := .w1c, stride := 0x100, n := 16 }
/-- R299. -/
def AXL_FLAGS_STALE : Fld := { blk := 7, off := 0x1008, lsb := 3, w := 1, acc := .w1c, stride := 0x100, n := 16 }
/-- R299. -/
def AXL_FLAGS_OVERRUN : Fld := { blk := 7, off := 0x1008, lsb := 4, w := 1, acc := .w1c, stride := 0x100, n := 16 }
/-- R299. -/
def AXL_FLAGS_ENABLE_WIN : Fld := { blk := 7, off := 0x1008, lsb := 5, w := 1, acc := .w1c, stride := 0x100, n := 16 }
/-- R299. -/
def AXL_FLAGS_LOCAL_STOP : Fld := { blk := 7, off := 0x1008, lsb := 6, w := 1, acc := .w1c, stride := 0x100, n := 16 }
/-- R299. -/
def AXL_COMMIT_GO : Fld := { blk := 7, off := 0x100C, lsb := 0, w := 1, acc := .wo, stride := 0x100, n := 16 }
/-- R299. -/
def AXL_KP_K : Fld := { blk := 7, off := 0x1010, lsb := 0, w := 32, acc := .shadow, stride := 0x100, n := 16 }
/-- R299. -/
def AXL_KVF_K : Fld := { blk := 7, off := 0x1014, lsb := 0, w := 32, acc := .shadow, stride := 0x100, n := 16 }
/-- R299. -/
def AXL_KAF_K : Fld := { blk := 7, off := 0x1018, lsb := 0, w := 32, acc := .shadow, stride := 0x100, n := 16 }
/-- R299. -/
def AXL_KTF_K : Fld := { blk := 7, off := 0x101C, lsb := 0, w := 32, acc := .shadow, stride := 0x100, n := 16 }
/-- R299. -/
def AXL_KVP_K : Fld := { blk := 7, off := 0x1020, lsb := 0, w := 32, acc := .shadow, stride := 0x100, n := 16 }
/-- R299. -/
def AXL_KVI_K : Fld := { blk := 7, off := 0x1024, lsb := 0, w := 32, acc := .shadow, stride := 0x100, n := 16 }
/-- R299. -/
def AXL_KBC_K : Fld := { blk := 7, off := 0x1028, lsb := 0, w := 32, acc := .shadow, stride := 0x100, n := 16 }
/-- R299. -/
def AXL_KCP_K : Fld := { blk := 7, off := 0x102C, lsb := 0, w := 32, acc := .shadow, stride := 0x100, n := 16 }
/-- R299. -/
def AXL_KCI_K : Fld := { blk := 7, off := 0x1030, lsb := 0, w := 32, acc := .shadow, stride := 0x100, n := 16 }
/-- R299. -/
def AXL_KCB_K : Fld := { blk := 7, off := 0x1034, lsb := 0, w := 32, acc := .shadow, stride := 0x100, n := 16 }
/-- R299. -/
def AXL_SHIFT_A_S : Fld := { blk := 7, off := 0x1038, lsb := 0, w := 30, acc := .shadow, stride := 0x100, n := 16 }
/-- R299. -/
def AXL_SHIFT_B_S : Fld := { blk := 7, off := 0x103C, lsb := 0, w := 20, acc := .shadow, stride := 0x100, n := 16 }
/-- R299. -/
def AXL_VCMD_LIM_LIM : Fld := { blk := 7, off := 0x1040, lsb := 0, w := 32, acc := .shadow, stride := 0x100, n := 16, reset := 2147483647 }
/-- R299. -/
def AXL_INT_LIM_LIM : Fld := { blk := 7, off := 0x1044, lsb := 0, w := 32, acc := .shadow, stride := 0x100, n := 16 }
/-- R299. -/
def AXL_IQ_LIM_LIM : Fld := { blk := 7, off := 0x1048, lsb := 0, w := 32, acc := .shadow, stride := 0x100, n := 16 }
/-- R299. -/
def AXL_CINT_LIM_LIM : Fld := { blk := 7, off := 0x1054, lsb := 0, w := 32, acc := .shadow, stride := 0x100, n := 16 }
/-- R299. -/
def AXL_ID_REF_REF : Fld := { blk := 7, off := 0x104C, lsb := 0, w := 32, acc := .shadow, stride := 0x100, n := 16 }
/-- R299. -/
def AXL_VLIM_LIM : Fld := { blk := 7, off := 0x1050, lsb := 0, w := 32, acc := .shadow, stride := 0x100, n := 16, reset := 1073741824 }
/-- R299. -/
def AXL_BAND_BAND_IN : Fld := { blk := 7, off := 0x1058, lsb := 0, w := 16, acc := .shadow, stride := 0x100, n := 16 }
/-- R299. -/
def AXL_BAND_BAND_OUT : Fld := { blk := 7, off := 0x1058, lsb := 16, w := 16, acc := .shadow, stride := 0x100, n := 16 }
/-- R299. -/
def AXL_VBAND_V : Fld := { blk := 7, off := 0x105C, lsb := 0, w := 32, acc := .shadow, stride := 0x100, n := 16 }
/-- R299. -/
def AXL_CPR_CPR : Fld := { blk := 7, off := 0x1060, lsb := 0, w := 32, acc := .shadow, stride := 0x100, n := 16 }
/-- R299. -/
def AXL_COMM_OFF_OFF : Fld := { blk := 7, off := 0x1064, lsb := 0, w := 32, acc := .shadow, stride := 0x100, n := 16 }
/-- R299. -/
def AXL_POLES_POLES : Fld := { blk := 7, off := 0x1068, lsb := 0, w := 8, acc := .shadow, stride := 0x100, n := 16 }
/-- R299. -/
def AXL_FOLLOW_MAX_MAX : Fld := { blk := 7, off := 0x106C, lsb := 0, w := 32, acc := .shadow, stride := 0x100, n := 16, reset := 16777216 }
/-- R299. -/
def AXL_SUPV_FOLLOW_N : Fld := { blk := 7, off := 0x1070, lsb := 0, w := 8, acc := .shadow, stride := 0x100, n := 16, reset := 4, chk := .range 1 255 }
/-- R299. -/
def AXL_SUPV_ENC_MISS_MAX : Fld := { blk := 7, off := 0x1070, lsb := 8, w := 4, acc := .shadow, stride := 0x100, n := 16, reset := 2, chk := .range 1 8 }
/-- R299. -/
def AXL_SUPV_ENA_WIN : Fld := { blk := 7, off := 0x1070, lsb := 16, w := 16, acc := .shadow, stride := 0x100, n := 16, reset := 4096 }
/-- R299. -/
def AXL_VMEAS_MAX_MAX : Fld := { blk := 7, off := 0x1074, lsb := 0, w := 32, acc := .shadow, stride := 0x100, n := 16, reset := 2147483647 }
/-- R299. -/
def AXL_STOP_DEC_DEC : Fld := { blk := 7, off := 0x1078, lsb := 0, w := 32, acc := .shadow, stride := 0x100, n := 16 }
/-- R299. -/
def AXL_OLV_V : Fld := { blk := 7, off := 0x107C, lsb := 0, w := 32, acc := .shadow, stride := 0x100, n := 16 }
/-- R299. -/
def AXL_PERR_VAL : Fld := { blk := 7, off := 0x1080, lsb := 0, w := 32, acc := .ro, stride := 0x100, n := 16 }
/-- R299. -/
def AXL_VCMD_VAL : Fld := { blk := 7, off := 0x1084, lsb := 0, w := 32, acc := .ro, stride := 0x100, n := 16 }
/-- R299. -/
def AXL_VINT_VAL : Fld := { blk := 7, off := 0x1088, lsb := 0, w := 32, acc := .ro, stride := 0x100, n := 16 }
/-- R299. -/
def AXL_IQREF_VAL : Fld := { blk := 7, off := 0x108C, lsb := 0, w := 32, acc := .ro, stride := 0x100, n := 16 }
/-- R299. -/
def AXL_IQ_VAL : Fld := { blk := 7, off := 0x1090, lsb := 0, w := 32, acc := .ro, stride := 0x100, n := 16 }
/-- R299. -/
def AXL_ID_VAL : Fld := { blk := 7, off := 0x1094, lsb := 0, w := 32, acc := .ro, stride := 0x100, n := 16 }
/-- R299. -/
def AXL_VQ_VAL : Fld := { blk := 7, off := 0x1098, lsb := 0, w := 32, acc := .ro, stride := 0x100, n := 16 }
/-- R299. -/
def AXL_VD_VAL : Fld := { blk := 7, off := 0x109C, lsb := 0, w := 32, acc := .ro, stride := 0x100, n := 16 }
/-- R299. -/
def AXL_THETA_THETA : Fld := { blk := 7, off := 0x10A0, lsb := 0, w := 32, acc := .ro, stride := 0x100, n := 16 }
/-- R299. -/
def AXL_STALE_CNT_CNT : Fld := { blk := 7, off := 0x10A4, lsb := 0, w := 16, acc := .cnt, stride := 0x100, n := 16 }
/-- R299. -/
def AXL_OVR_CNT_CNT : Fld := { blk := 7, off := 0x10A8, lsb := 0, w := 16, acc := .cnt, stride := 0x100, n := 16 }
/-- R299. -/
def AXL_SAT_CNT_CNT : Fld := { blk := 7, off := 0x10AC, lsb := 0, w := 16, acc := .cnt, stride := 0x100, n := 16 }
/-- R300. -/
def AXL_TUNE_CFG_POINT : Fld := { blk := 7, off := 0x2000, lsb := 0, w := 2, acc := .rw, stride := 0x40, n := 16 }
/-- R300. -/
def AXL_TUNE_CFG_WAVE : Fld := { blk := 7, off := 0x2000, lsb := 2, w := 2, acc := .rw, stride := 0x40, n := 16 }
/-- R300. -/
def AXL_TUNE_CFG_ORDER : Fld := { blk := 7, off := 0x2000, lsb := 4, w := 5, acc := .rw, stride := 0x40, n := 16 }
/-- R300. -/
def AXL_TUNE_CFG_CAPTURE : Fld := { blk := 7, off := 0x2000, lsb := 9, w := 1, acc := .rw, stride := 0x40, n := 16 }
/-- R300. -/
def AXL_TUNE_CFG_HOLD : Fld := { blk := 7, off := 0x2000, lsb := 16, w := 16, acc := .rw, stride := 0x40, n := 16 }
/-- R300. -/
def AXL_TUNE_AMP_AMP : Fld := { blk := 7, off := 0x2004, lsb := 0, w := 32, acc := .rw, stride := 0x40, n := 16 }
/-- R300. -/
def AXL_TUNE_F0_F : Fld := { blk := 7, off := 0x2008, lsb := 0, w := 32, acc := .rw, stride := 0x40, n := 16 }
/-- R300. -/
def AXL_TUNE_F1_F : Fld := { blk := 7, off := 0x200C, lsb := 0, w := 32, acc := .rw, stride := 0x40, n := 16 }
/-- R300. -/
def AXL_TUNE_LEN_LEN : Fld := { blk := 7, off := 0x2010, lsb := 0, w := 24, acc := .rw, stride := 0x40, n := 16 }
/-- R300. -/
def AXL_TUNE_SEED_SEED : Fld := { blk := 7, off := 0x2014, lsb := 0, w := 31, acc := .rw, stride := 0x40, n := 16, reset := 1 }
/-- R300. -/
def AXL_TUNE_CTRL_GO : Fld := { blk := 7, off := 0x2018, lsb := 0, w := 1, acc := .wo, stride := 0x40, n := 16 }
/-- R300. -/
def AXL_TUNE_CTRL_ABORT : Fld := { blk := 7, off := 0x2018, lsb := 1, w := 1, acc := .wo, stride := 0x40, n := 16 }
/-- R300. -/
def AXL_TUNE_STAT_SAMPLE : Fld := { blk := 7, off := 0x201C, lsb := 0, w := 24, acc := .ro, stride := 0x40, n := 16 }
/-- R300. -/
def AXL_TUNE_STAT_RUN : Fld := { blk := 7, off := 0x201C, lsb := 24, w := 1, acc := .ro, stride := 0x40, n := 16 }
/-- R300. -/
def AXL_TUNE_STAT_ABORTED : Fld := { blk := 7, off := 0x201C, lsb := 25, w := 1, acc := .ro, stride := 0x40, n := 16 }

/-- Fields of block AXL, part 0. -/
def fieldsAXL_0 : List Fld :=
  [AXL_SUMMARY_ENABLED, AXL_SUMMARY_INJECT, AXL_MODE_LOOP_MODE, AXL_MODE_POS_LAW,
   AXL_MODE_CUR_LAW, AXL_MODE_MOTOR, AXL_MODE_POS_RATE, AXL_MODE_CUR_DIV,
   AXL_STAT_STATE, AXL_STAT_BAND_IN, AXL_STAT_V_SAT, AXL_STAT_I_SAT,
   AXL_STAT_V_LIM, AXL_STAT_REF_STALE, AXL_STAT_COMMIT_PEND, AXL_FLAGS_FOLLOWING,
   AXL_FLAGS_OVERSPEED, AXL_FLAGS_FEEDBACK, AXL_FLAGS_STALE, AXL_FLAGS_OVERRUN,
   AXL_FLAGS_ENABLE_WIN, AXL_FLAGS_LOCAL_STOP, AXL_COMMIT_GO, AXL_KP_K,
   AXL_KVF_K, AXL_KAF_K, AXL_KTF_K, AXL_KVP_K,
   AXL_KVI_K, AXL_KBC_K, AXL_KCP_K, AXL_KCI_K,
   AXL_KCB_K, AXL_SHIFT_A_S, AXL_SHIFT_B_S, AXL_VCMD_LIM_LIM,
   AXL_INT_LIM_LIM, AXL_IQ_LIM_LIM, AXL_CINT_LIM_LIM, AXL_ID_REF_REF]
/-- Fields of block AXL, part 1. -/
def fieldsAXL_1 : List Fld :=
  [AXL_VLIM_LIM, AXL_BAND_BAND_IN, AXL_BAND_BAND_OUT, AXL_VBAND_V,
   AXL_CPR_CPR, AXL_COMM_OFF_OFF, AXL_POLES_POLES, AXL_FOLLOW_MAX_MAX,
   AXL_SUPV_FOLLOW_N, AXL_SUPV_ENC_MISS_MAX, AXL_SUPV_ENA_WIN, AXL_VMEAS_MAX_MAX,
   AXL_STOP_DEC_DEC, AXL_OLV_V, AXL_PERR_VAL, AXL_VCMD_VAL,
   AXL_VINT_VAL, AXL_IQREF_VAL, AXL_IQ_VAL, AXL_ID_VAL,
   AXL_VQ_VAL, AXL_VD_VAL, AXL_THETA_THETA, AXL_STALE_CNT_CNT,
   AXL_OVR_CNT_CNT, AXL_SAT_CNT_CNT, AXL_TUNE_CFG_POINT, AXL_TUNE_CFG_WAVE,
   AXL_TUNE_CFG_ORDER, AXL_TUNE_CFG_CAPTURE, AXL_TUNE_CFG_HOLD, AXL_TUNE_AMP_AMP,
   AXL_TUNE_F0_F, AXL_TUNE_F1_F, AXL_TUNE_LEN_LEN, AXL_TUNE_SEED_SEED,
   AXL_TUNE_CTRL_GO, AXL_TUNE_CTRL_ABORT, AXL_TUNE_STAT_SAMPLE, AXL_TUNE_STAT_RUN]
/-- Fields of block AXL, part 2. -/
def fieldsAXL_2 : List Fld :=
  [AXL_TUNE_STAT_ABORTED]
/-- Every field of block AXL. -/
def fieldsAXL : List Fld := fieldsAXL_0 ++ fieldsAXL_1 ++ fieldsAXL_2

end Sys2Proof.Machine
end

