-- ==== Sys2Proof/Machine/RegsSafe.lean ====
section
/-! DEFINITION. The register fields of the blocks TAP, SAFE, PAIR, MEM, TEST, one definition a field, from the register tables of
spec/ (the rule that gives each table stands with the field). -/

namespace Sys2Proof.Machine

/-- R584. -/
def TAP_CTRL_ARM : Fld := { blk := 12, off := 0x0000, lsb := 0, w := 1, acc := .wo }
/-- R584. -/
def TAP_CTRL_STOP : Fld := { blk := 12, off := 0x0000, lsb := 1, w := 1, acc := .wo }
/-- R584. -/
def TAP_CTRL_FORCE : Fld := { blk := 12, off := 0x0000, lsb := 2, w := 1, acc := .wo }
/-- R584. -/
def TAP_CFG_CONT : Fld := { blk := 12, off := 0x0004, lsb := 0, w := 1, acc := .rwIdle }
/-- R584. -/
def TAP_CFG_PREFILL_HOLD : Fld := { blk := 12, off := 0x0004, lsb := 1, w := 1, acc := .rwIdle }
/-- R584. -/
def TAP_CFG_MASK_STOP : Fld := { blk := 12, off := 0x0004, lsb := 2, w := 1, acc := .rwIdle }
/-- R584. -/
def TAP_CFG_NSEG_LOG2 : Fld := { blk := 12, off := 0x0004, lsb := 4, w := 4, acc := .rwIdle, chk := .range 0 8 }
/-- R584. -/
def TAP_STAT_STATE : Fld := { blk := 12, off := 0x0008, lsb := 0, w := 3, acc := .ro }
/-- R584. -/
def TAP_STAT_SEQ_STATE : Fld := { blk := 12, off := 0x0008, lsb := 3, w := 4, acc := .ro }
/-- R584. -/
def TAP_STAT_SEG : Fld := { blk := 12, off := 0x0008, lsb := 16, w := 8, acc := .ro }
/-- R584. -/
def TAP_FLAGS_MISSED : Fld := { blk := 12, off := 0x000C, lsb := 0, w := 1, acc := .w1c }
/-- R584. -/
def TAP_FLAGS_EARLY : Fld := { blk := 12, off := 0x000C, lsb := 1, w := 1, acc := .w1c }
/-- R584. -/
def TAP_FLAGS_MASK_VIOL : Fld := { blk := 12, off := 0x000C, lsb := 2, w := 1, acc := .w1c }
/-- R584. -/
def TAP_FLAGS_OVERRUN : Fld := { blk := 12, off := 0x000C, lsb := 3, w := 1, acc := .w1c }
/-- R584. -/
def TAP_FLAGS_LOST : Fld := { blk := 12, off := 0x000C, lsb := 4, w := 1, acc := .w1c }
/-- R584. -/
def TAP_FLAGS_TRIGGERED : Fld := { blk := 12, off := 0x000C, lsb := 5, w := 1, acc := .w1c }
/-- R584. -/
def TAP_REC_RLOG2 : Fld := { blk := 12, off := 0x0010, lsb := 0, w := 4, acc := .ro, reset := 4 }
/-- R584. -/
def TAP_REC_NPROBE : Fld := { blk := 12, off := 0x0010, lsb := 4, w := 7, acc := .ro }
/-- R584. -/
def TAP_REC_W : Fld := { blk := 12, off := 0x0010, lsb := 16, w := 12, acc := .ro }
/-- R584. -/
def TAP_SEGSIZE_S : Fld := { blk := 12, off := 0x0020, lsb := 0, w := 24, acc := .ro }
/-- R584. -/
def TAP_SAMPLE_CLK : Fld := { blk := 12, off := 0x0014, lsb := 0, w := 3, acc := .rwIdle, chk := .range 0 5 }
/-- R584. -/
def TAP_SAMPLE_SLOT : Fld := { blk := 12, off := 0x0014, lsb := 4, w := 4, acc := .rwIdle }
/-- R584. -/
def TAP_SAMPLE_INTERVAL : Fld := { blk := 12, off := 0x0014, lsb := 8, w := 24, acc := .rwIdle, reset := 1000, chk := .range 1 16777215 }
/-- R584. -/
def TAP_PRE_N : Fld := { blk := 12, off := 0x0018, lsb := 0, w := 24, acc := .rwIdle }
/-- R584. -/
def TAP_POST_N : Fld := { blk := 12, off := 0x001C, lsb := 0, w := 32, acc := .rwIdle, reset := 1 }
/-- R584. -/
def TAP_TTIME_LO_T : Fld := { blk := 12, off := 0x0024, lsb := 0, w := 32, acc := .rwIdle }
/-- R584. -/
def TAP_TTIME_HI_T : Fld := { blk := 12, off := 0x0028, lsb := 0, w := 32, acc := .rwIdle }
/-- R584. -/
def TAP_EVT_CFG_SLOT : Fld := { blk := 12, off := 0x002C, lsb := 0, w := 4, acc := .rwIdle }
/-- R584. -/
def TAP_EVT_CFG_GROUP : Fld := { blk := 12, off := 0x002C, lsb := 4, w := 5, acc := .rwIdle }
/-- R584. -/
def TAP_EVT_CFG_ORDER : Fld := { blk := 12, off := 0x002C, lsb := 16, w := 8, acc := .rwIdle, reset := 255 }
/-- R584. -/
def TAP_BUS_CFG_OWN : Fld := { blk := 12, off := 0x0030, lsb := 0, w := 2, acc := .rwIdle }
/-- R584. -/
def TAP_BUS_CFG_DRIVE : Fld := { blk := 12, off := 0x0030, lsb := 2, w := 2, acc := .rwIdle }
/-- R584. -/
def TAP_BUS_CFG_COMP : Fld := { blk := 12, off := 0x0030, lsb := 4, w := 12, acc := .rwIdle }
/-- R584. -/
def TAP_BUS_CFG_PULSE : Fld := { blk := 12, off := 0x0030, lsb := 16, w := 16, acc := .rwIdle, reset := 80, chk := .range 1 65535 }
/-- R584. -/
def TAP_OUT_CFG_OUT : Fld := { blk := 12, off := 0x0034, lsb := 0, w := 3, acc := .rwIdle }
/-- R584. -/
def TAP_OUT_CFG_EN : Fld := { blk := 12, off := 0x0034, lsb := 3, w := 1, acc := .rwIdle }
/-- R584. -/
def TAP_OUT_CFG_WIDTH : Fld := { blk := 12, off := 0x0034, lsb := 8, w := 24, acc := .rwIdle, reset := 80 }
/-- R584. -/
def TAP_DRAIN_CFG_RING : Fld := { blk := 12, off := 0x0038, lsb := 0, w := 5, acc := .rwIdle }
/-- R584. -/
def TAP_DRAIN_CFG_EN : Fld := { blk := 12, off := 0x0038, lsb := 5, w := 1, acc := .rwIdle }
/-- R584. -/
def TAP_DRAIN_CFG_BLK : Fld := { blk := 12, off := 0x0038, lsb := 6, w := 7, acc := .rwIdle, reset := 64, chk := .range 1 64 }
/-- R584. -/
def TAP_DRAIN_CFG_TMO : Fld := { blk := 12, off := 0x0038, lsb := 16, w := 8, acc := .rwIdle, reset := 1 }
/-- R584. -/
def TAP_PROBE_SRC : Fld := { blk := 12, off := 0x0100, lsb := 0, w := 8, acc := .rwIdle, stride := 0x4, n := 64 }
/-- R584. -/
def TAP_PROBE_INST : Fld := { blk := 12, off := 0x0100, lsb := 8, w := 4, acc := .rwIdle, stride := 0x4, n := 64 }
/-- R584. -/
def TAP_PROBE_WIDTH : Fld := { blk := 12, off := 0x0100, lsb := 12, w := 5, acc := .rwIdle, stride := 0x4, n := 64 }
/-- R584. -/
def TAP_PROBE_LSB : Fld := { blk := 12, off := 0x0100, lsb := 17, w := 5, acc := .rwIdle, stride := 0x4, n := 64 }
/-- R584. -/
def TAP_PROBE_EN : Fld := { blk := 12, off := 0x0100, lsb := 31, w := 1, acc := .rwIdle, stride := 0x4, n := 64 }
/-- R584. -/
def TAP_CMP_CFG_PROBE : Fld := { blk := 12, off := 0x0200, lsb := 0, w := 6, acc := .rwIdle, stride := 0x10, n := 8 }
/-- R584. -/
def TAP_CMP_CFG_OP : Fld := { blk := 12, off := 0x0200, lsb := 6, w := 3, acc := .rwIdle, stride := 0x10, n := 8 }
/-- R584. -/
def TAP_CMP_CFG_SIGNED : Fld := { blk := 12, off := 0x0200, lsb := 9, w := 1, acc := .rwIdle, stride := 0x10, n := 8 }
/-- R584. -/
def TAP_CMP_VAL_A_V : Fld := { blk := 12, off := 0x0204, lsb := 0, w := 32, acc := .rwIdle, stride := 0x10, n := 8 }
/-- R584. -/
def TAP_CMP_VAL_B_V : Fld := { blk := 12, off := 0x0208, lsb := 0, w := 32, acc := .rwIdle, stride := 0x10, n := 8 }
/-- R584. -/
def TAP_ST_CFG_TERM_A : Fld := { blk := 12, off := 0x0300, lsb := 0, w := 5, acc := .rwIdle, stride := 0x10, n := 8 }
/-- R584. -/
def TAP_ST_CFG_TERM_B : Fld := { blk := 12, off := 0x0300, lsb := 5, w := 5, acc := .rwIdle, stride := 0x10, n := 8 }
/-- R584. -/
def TAP_ST_CFG_LOGIC : Fld := { blk := 12, off := 0x0300, lsb := 10, w := 2, acc := .rwIdle, stride := 0x10, n := 8 }
/-- R584. -/
def TAP_ST_CFG_NEXT : Fld := { blk := 12, off := 0x0300, lsb := 12, w := 4, acc := .rwIdle, stride := 0x10, n := 8, reset := 8, chk := .range 0 8 }
/-- R584. -/
def TAP_ST_CFG_TO_NEXT : Fld := { blk := 12, off := 0x0300, lsb := 16, w := 4, acc := .rwIdle, stride := 0x10, n := 8, chk := .range 0 8 }
/-- R584. -/
def TAP_ST_COUNT_COUNT : Fld := { blk := 12, off := 0x0304, lsb := 0, w := 32, acc := .rwIdle, stride := 0x10, n := 8, reset := 1 }
/-- R584. -/
def TAP_ST_TIMER_TIMER : Fld := { blk := 12, off := 0x0308, lsb := 0, w := 32, acc := .rwIdle, stride := 0x10, n := 8 }
/-- R584. -/
def TAP_MASK_CFG_PROBE : Fld := { blk := 12, off := 0x0400, lsb := 0, w := 6, acc := .rwIdle, stride := 0x10, n := 4 }
/-- R584. -/
def TAP_MASK_CFG_SIGNED : Fld := { blk := 12, off := 0x0400, lsb := 6, w := 1, acc := .rwIdle, stride := 0x10, n := 4 }
/-- R584. -/
def TAP_MASK_CFG_EN : Fld := { blk := 12, off := 0x0400, lsb := 7, w := 1, acc := .rwIdle, stride := 0x10, n := 4 }
/-- R584. -/
def TAP_MASK_LO_V : Fld := { blk := 12, off := 0x0404, lsb := 0, w := 32, acc := .rwIdle, stride := 0x10, n := 4 }
/-- R584. -/
def TAP_MASK_HI_V : Fld := { blk := 12, off := 0x0408, lsb := 0, w := 32, acc := .rwIdle, stride := 0x10, n := 4 }
/-- R584. -/
def TAP_MASK_WIN_START : Fld := { blk := 12, off := 0x040C, lsb := 0, w := 16, acc := .rwIdle, stride := 0x10, n := 4 }
/-- R584. -/
def TAP_MASK_WIN_END : Fld := { blk := 12, off := 0x040C, lsb := 16, w := 16, acc := .rwIdle, stride := 0x10, n := 4 }
/-- R584. -/
def TAP_MISSED_CNT : Fld := { blk := 12, off := 0x0040, lsb := 0, w := 16, acc := .cnt }
/-- R584. -/
def TAP_EARLY_CNT_CNT : Fld := { blk := 12, off := 0x0044, lsb := 0, w := 16, acc := .cnt }
/-- R584. -/
def TAP_TRIG_CNT_CNT : Fld := { blk := 12, off := 0x004C, lsb := 0, w := 16, acc := .cnt }
/-- R584. -/
def TAP_MASK_CNT_CNT : Fld := { blk := 12, off := 0x0050, lsb := 0, w := 16, acc := .cnt }
/-- R584. -/
def TAP_LOST_CNT_CNT : Fld := { blk := 12, off := 0x0048, lsb := 0, w := 32, acc := .cnt }
/-- R584. -/
def TAP_USER_V : Fld := { blk := 12, off := 0x0060, lsb := 0, w := 32, acc := .rw, stride := 0x4, n := 4 }

/-- Fields of block TAP, part 0. -/
def fieldsTAP_0 : List Fld :=
  [TAP_CTRL_ARM, TAP_CTRL_STOP, TAP_CTRL_FORCE, TAP_CFG_CONT,
   TAP_CFG_PREFILL_HOLD, TAP_CFG_MASK_STOP, TAP_CFG_NSEG_LOG2, TAP_STAT_STATE,
   TAP_STAT_SEQ_STATE, TAP_STAT_SEG, TAP_FLAGS_MISSED, TAP_FLAGS_EARLY,
   TAP_FLAGS_MASK_VIOL, TAP_FLAGS_OVERRUN, TAP_FLAGS_LOST, TAP_FLAGS_TRIGGERED,
   TAP_REC_RLOG2, TAP_REC_NPROBE, TAP_REC_W, TAP_SEGSIZE_S,
   TAP_SAMPLE_CLK, TAP_SAMPLE_SLOT, TAP_SAMPLE_INTERVAL, TAP_PRE_N,
   TAP_POST_N, TAP_TTIME_LO_T, TAP_TTIME_HI_T, TAP_EVT_CFG_SLOT,
   TAP_EVT_CFG_GROUP, TAP_EVT_CFG_ORDER, TAP_BUS_CFG_OWN, TAP_BUS_CFG_DRIVE,
   TAP_BUS_CFG_COMP, TAP_BUS_CFG_PULSE, TAP_OUT_CFG_OUT, TAP_OUT_CFG_EN,
   TAP_OUT_CFG_WIDTH, TAP_DRAIN_CFG_RING, TAP_DRAIN_CFG_EN, TAP_DRAIN_CFG_BLK]
/-- Fields of block TAP, part 1. -/
def fieldsTAP_1 : List Fld :=
  [TAP_DRAIN_CFG_TMO, TAP_PROBE_SRC, TAP_PROBE_INST, TAP_PROBE_WIDTH,
   TAP_PROBE_LSB, TAP_PROBE_EN, TAP_CMP_CFG_PROBE, TAP_CMP_CFG_OP,
   TAP_CMP_CFG_SIGNED, TAP_CMP_VAL_A_V, TAP_CMP_VAL_B_V, TAP_ST_CFG_TERM_A,
   TAP_ST_CFG_TERM_B, TAP_ST_CFG_LOGIC, TAP_ST_CFG_NEXT, TAP_ST_CFG_TO_NEXT,
   TAP_ST_COUNT_COUNT, TAP_ST_TIMER_TIMER, TAP_MASK_CFG_PROBE, TAP_MASK_CFG_SIGNED,
   TAP_MASK_CFG_EN, TAP_MASK_LO_V, TAP_MASK_HI_V, TAP_MASK_WIN_START,
   TAP_MASK_WIN_END, TAP_MISSED_CNT, TAP_EARLY_CNT_CNT, TAP_TRIG_CNT_CNT,
   TAP_MASK_CNT_CNT, TAP_LOST_CNT_CNT, TAP_USER_V]
/-- Every field of block TAP. -/
def fieldsTAP : List Fld := fieldsTAP_0 ++ fieldsTAP_1

/-- R468. -/
def SAFE_MIR_STAT_MIRROR_STALE : Fld := { blk := 13, off := 0x0100, lsb := 0, w := 1, acc := .ro, reset := 1 }
/-- R468. -/
def SAFE_MIR_STAT_STALE_SEEN : Fld := { blk := 13, off := 0x0100, lsb := 1, w := 1, acc := .w1c }
/-- R468. -/
def SAFE_MIR_STAT_AGE : Fld := { blk := 13, off := 0x0100, lsb := 2, w := 8, acc := .ro, reset := 255 }
/-- R468. -/
def SAFE_STALE_CNT_CNT : Fld := { blk := 13, off := 0x0104, lsb := 0, w := 16, acc := .cnt }
/-- R468. -/
def SAFE_MBX_CTRL_POST : Fld := { blk := 13, off := 0x0200, lsb := 0, w := 1, acc := .wo }
/-- R468. -/
def SAFE_MBX_LEN_LEN : Fld := { blk := 13, off := 0x0204, lsb := 0, w := 16, acc := .rw, chk := .range 256 32768 }
/-- R468. -/
def SAFE_MBX_STAT_STATE : Fld := { blk := 13, off := 0x0208, lsb := 0, w := 2, acc := .ro }
/-- R468. -/
def SAFE_MBX_STAT_SEQ : Fld := { blk := 13, off := 0x0208, lsb := 8, w := 8, acc := .ro }
/-- R468. -/
def SAFE_MBX_STAT_RESULT : Fld := { blk := 13, off := 0x0208, lsb := 16, w := 16, acc := .ro }

/-- Fields of block SAFE, part 0. -/
def fieldsSAFE_0 : List Fld :=
  [SAFE_MIR_STAT_MIRROR_STALE, SAFE_MIR_STAT_STALE_SEEN, SAFE_MIR_STAT_AGE, SAFE_STALE_CNT_CNT,
   SAFE_MBX_CTRL_POST, SAFE_MBX_LEN_LEN, SAFE_MBX_STAT_STATE, SAFE_MBX_STAT_SEQ,
   SAFE_MBX_STAT_RESULT]
/-- Every field of block SAFE. -/
def fieldsSAFE : List Fld := fieldsSAFE_0

/-- R513. -/
def PAIR_CFG_SWAP_PER : Fld := { blk := 14, off := 0x0000, lsb := 0, w := 16, acc := .rw, reset := 24 }
/-- R513. -/
def PAIR_CFG_HB_TO : Fld := { blk := 14, off := 0x0000, lsb := 16, w := 4, acc := .rwlCfg, reset := 3, chk := .range 2 15 }
/-- R513. -/
def PAIR_CFG_MISMATCH_MAX : Fld := { blk := 14, off := 0x0000, lsb := 24, w := 4, acc := .rw, reset := 3, chk := .range 1 15 }
/-- R513. -/
def PAIR_STAT_ROLE : Fld := { blk := 14, off := 0x0004, lsb := 0, w := 3, acc := .ro }
/-- R513. -/
def PAIR_STAT_PARTNER : Fld := { blk := 14, off := 0x0004, lsb := 3, w := 3, acc := .ro }
/-- R513. -/
def PAIR_STAT_RANK : Fld := { blk := 14, off := 0x0004, lsb := 6, w := 1, acc := .ro }
/-- R513. -/
def PAIR_STAT_LINK_UP : Fld := { blk := 14, off := 0x0004, lsb := 7, w := 1, acc := .ro }
/-- R513. -/
def PAIR_STAT_PAIR_HB : Fld := { blk := 14, off := 0x0004, lsb := 8, w := 1, acc := .ro }
/-- R513. -/
def PAIR_STAT_TWIRA_HB : Fld := { blk := 14, off := 0x0004, lsb := 9, w := 1, acc := .ro }
/-- R513. -/
def PAIR_STAT_CLEAN : Fld := { blk := 14, off := 0x0004, lsb := 10, w := 1, acc := .ro }
/-- R513. -/
def PAIR_STAT_CLASS : Fld := { blk := 14, off := 0x0004, lsb := 11, w := 2, acc := .ro }
/-- R513. -/
def PAIR_STAT_SWAP_PEND : Fld := { blk := 14, off := 0x0004, lsb := 13, w := 1, acc := .ro }
/-- R513. -/
def PAIR_STAT_RESYNC_PHASE : Fld := { blk := 14, off := 0x0004, lsb := 14, w := 4, acc := .ro }
/-- R513. -/
def PAIR_FLAGS_HB_LOST : Fld := { blk := 14, off := 0x0008, lsb := 0, w := 1, acc := .w1c }
/-- R513. -/
def PAIR_FLAGS_TWIRA_HB_LOST : Fld := { blk := 14, off := 0x0008, lsb := 1, w := 1, acc := .w1c }
/-- R513. -/
def PAIR_FLAGS_MISMATCH : Fld := { blk := 14, off := 0x0008, lsb := 2, w := 1, acc := .w1c }
/-- R513. -/
def PAIR_FLAGS_DIGEST : Fld := { blk := 14, off := 0x0008, lsb := 3, w := 1, acc := .w1c }
/-- R513. -/
def PAIR_FLAGS_MIRROR_MISSING : Fld := { blk := 14, off := 0x0008, lsb := 4, w := 1, acc := .w1c }
/-- R513. -/
def PAIR_FLAGS_VOTE : Fld := { blk := 14, off := 0x0008, lsb := 5, w := 1, acc := .w1c }
/-- R513. -/
def PAIR_FLAGS_SWAPPED : Fld := { blk := 14, off := 0x0008, lsb := 6, w := 1, acc := .w1c }
/-- R513. -/
def PAIR_FLAGS_TAKEOVER : Fld := { blk := 14, off := 0x0008, lsb := 7, w := 1, acc := .w1c }
/-- R513. -/
def PAIR_SWAP_AT_S : Fld := { blk := 14, off := 0x000C, lsb := 0, w := 32, acc := .ro }
/-- R513. -/
def PAIR_MIRROR_CYC_CYC : Fld := { blk := 14, off := 0x0010, lsb := 0, w := 32, acc := .ro }
/-- R513. -/
def PAIR_VOTE_COUNT0 : Fld := { blk := 14, off := 0x0014, lsb := 0, w := 8, acc := .ro }
/-- R513. -/
def PAIR_VOTE_COUNT1 : Fld := { blk := 14, off := 0x0014, lsb := 8, w := 8, acc := .ro }
/-- R513. -/
def PAIR_VOTE_ELECTORATE : Fld := { blk := 14, off := 0x0014, lsb := 16, w := 8, acc := .ro }
/-- R513. -/
def PAIR_VOTE_RESULT : Fld := { blk := 14, off := 0x0014, lsb := 24, w := 2, acc := .ro }
/-- R513. -/
def PAIR_LINK_LOCK : Fld := { blk := 14, off := 0x0018, lsb := 0, w := 2, acc := .ro }
/-- R513. -/
def PAIR_LINK_SKEW : Fld := { blk := 14, off := 0x0018, lsb := 2, w := 8, acc := .ro }
/-- R513. -/
def PAIR_LINK_CRC_CNT : Fld := { blk := 14, off := 0x0018, lsb := 16, w := 16, acc := .cnt }
/-- R513. -/
def PAIR_MISMATCH_CNT_CNT : Fld := { blk := 14, off := 0x0020, lsb := 0, w := 16, acc := .cnt }
/-- R513. -/
def PAIR_TIMING_CNT_CNT : Fld := { blk := 14, off := 0x0024, lsb := 0, w := 16, acc := .cnt }
/-- R513. -/
def PAIR_MIRROR_MISS_CNT_CNT : Fld := { blk := 14, off := 0x0028, lsb := 0, w := 16, acc := .cnt }
/-- R513. -/
def PAIR_HB_MISS_CNT_CNT : Fld := { blk := 14, off := 0x002C, lsb := 0, w := 16, acc := .cnt }
/-- R513. -/
def PAIR_SWAP_CNT_CNT : Fld := { blk := 14, off := 0x0030, lsb := 0, w := 16, acc := .cnt }
/-- R513. -/
def PAIR_CTRL_SWAP : Fld := { blk := 14, off := 0x0040, lsb := 0, w := 1, acc := .wo }

/-- Fields of block PAIR, part 0. -/
def fieldsPAIR_0 : List Fld :=
  [PAIR_CFG_SWAP_PER, PAIR_CFG_HB_TO, PAIR_CFG_MISMATCH_MAX, PAIR_STAT_ROLE,
   PAIR_STAT_PARTNER, PAIR_STAT_RANK, PAIR_STAT_LINK_UP, PAIR_STAT_PAIR_HB,
   PAIR_STAT_TWIRA_HB, PAIR_STAT_CLEAN, PAIR_STAT_CLASS, PAIR_STAT_SWAP_PEND,
   PAIR_STAT_RESYNC_PHASE, PAIR_FLAGS_HB_LOST, PAIR_FLAGS_TWIRA_HB_LOST, PAIR_FLAGS_MISMATCH,
   PAIR_FLAGS_DIGEST, PAIR_FLAGS_MIRROR_MISSING, PAIR_FLAGS_VOTE, PAIR_FLAGS_SWAPPED,
   PAIR_FLAGS_TAKEOVER, PAIR_SWAP_AT_S, PAIR_MIRROR_CYC_CYC, PAIR_VOTE_COUNT0,
   PAIR_VOTE_COUNT1, PAIR_VOTE_ELECTORATE, PAIR_VOTE_RESULT, PAIR_LINK_LOCK,
   PAIR_LINK_SKEW, PAIR_LINK_CRC_CNT, PAIR_MISMATCH_CNT_CNT, PAIR_TIMING_CNT_CNT,
   PAIR_MIRROR_MISS_CNT_CNT, PAIR_HB_MISS_CNT_CNT, PAIR_SWAP_CNT_CNT, PAIR_CTRL_SWAP]
/-- Every field of block PAIR. -/
def fieldsPAIR : List Fld := fieldsPAIR_0

/-- R613. -/
def MEM_CTRL_SCRUB_EN : Fld := { blk := 15, off := 0x0000, lsb := 0, w := 1, acc := .rw, reset := 1 }
/-- R613. -/
def MEM_CTRL_WB_EN : Fld := { blk := 15, off := 0x0000, lsb := 1, w := 1, acc := .rw, reset := 1 }
/-- R613. -/
def MEM_SCRUB_CFG_PER : Fld := { blk := 15, off := 0x0004, lsb := 0, w := 12, acc := .rw, reset := 10, chk := .range 1 3600 }
/-- R613. -/
def MEM_SCRUB_STAT_REGION : Fld := { blk := 15, off := 0x0008, lsb := 0, w := 3, acc := .ro }
/-- R613. -/
def MEM_SCRUB_STAT_LINE : Fld := { blk := 15, off := 0x0008, lsb := 3, w := 29, acc := .ro }
/-- R613. -/
def MEM_SCRUB_PASS_CNT : Fld := { blk := 15, off := 0x000C, lsb := 0, w := 32, acc := .ro }
/-- R613. -/
def MEM_FLAGS_CE : Fld := { blk := 15, off := 0x0010, lsb := 0, w := 1, acc := .w1c }
/-- R613. -/
def MEM_FLAGS_UE : Fld := { blk := 15, off := 0x0010, lsb := 1, w := 1, acc := .w1c }
/-- R613. -/
def MEM_FLAGS_POISON_READ : Fld := { blk := 15, off := 0x0010, lsb := 2, w := 1, acc := .w1c }
/-- R613. -/
def MEM_FLAGS_SCRUB_LATE : Fld := { blk := 15, off := 0x0010, lsb := 3, w := 1, acc := .w1c }
/-- R613. -/
def MEM_CE_THR_THR : Fld := { blk := 15, off := 0x0014, lsb := 0, w := 16, acc := .rw, reset := 16 }
/-- R613. -/
def MEM_POISONED_N : Fld := { blk := 15, off := 0x0018, lsb := 0, w := 16, acc := .ro }
/-- R613. -/
def MEM_UE_CNT_CNT : Fld := { blk := 15, off := 0x001C, lsb := 0, w := 16, acc := .cnt }
/-- R613. -/
def MEM_POISON_READ_CNT_CNT : Fld := { blk := 15, off := 0x0020, lsb := 0, w := 16, acc := .cnt }
/-- R613. -/
def MEM_LAST_ADDR_ADDR : Fld := { blk := 15, off := 0x0024, lsb := 0, w := 32, acc := .ro }
/-- R613. -/
def MEM_LAST_INFO_REGION : Fld := { blk := 15, off := 0x0028, lsb := 0, w := 3, acc := .ro }
/-- R613. -/
def MEM_LAST_INFO_SOURCE : Fld := { blk := 15, off := 0x0028, lsb := 3, w := 3, acc := .ro }
/-- R613. -/
def MEM_LAST_INFO_PORT : Fld := { blk := 15, off := 0x0028, lsb := 8, w := 8, acc := .ro }
/-- R613. -/
def MEM_LAST_INFO_BIT0 : Fld := { blk := 15, off := 0x0028, lsb := 16, w := 7, acc := .ro, reset := 127 }
/-- R613. -/
def MEM_LAST_INFO_BIT1 : Fld := { blk := 15, off := 0x0028, lsb := 24, w := 7, acc := .ro, reset := 127 }
/-- R613. -/
def MEM_CE_CNT_CNT : Fld := { blk := 15, off := 0x0040, lsb := 0, w := 16, acc := .cnt, stride := 0x4, n := 7 }

/-- Fields of block MEM, part 0. -/
def fieldsMEM_0 : List Fld :=
  [MEM_CTRL_SCRUB_EN, MEM_CTRL_WB_EN, MEM_SCRUB_CFG_PER, MEM_SCRUB_STAT_REGION,
   MEM_SCRUB_STAT_LINE, MEM_SCRUB_PASS_CNT, MEM_FLAGS_CE, MEM_FLAGS_UE,
   MEM_FLAGS_POISON_READ, MEM_FLAGS_SCRUB_LATE, MEM_CE_THR_THR, MEM_POISONED_N,
   MEM_UE_CNT_CNT, MEM_POISON_READ_CNT_CNT, MEM_LAST_ADDR_ADDR, MEM_LAST_INFO_REGION,
   MEM_LAST_INFO_SOURCE, MEM_LAST_INFO_PORT, MEM_LAST_INFO_BIT0, MEM_LAST_INFO_BIT1,
   MEM_CE_CNT_CNT]
/-- Every field of block MEM. -/
def fieldsMEM : List Fld := fieldsMEM_0

/-- R677. -/
def TEST_KEY_KEY : Fld := { blk := 16, off := 0x0000, lsb := 0, w := 32, acc := .wo }
/-- R677. -/
def TEST_STAT_UNLOCK : Fld := { blk := 16, off := 0x0004, lsb := 0, w := 2, acc := .ro }
/-- R677. -/
def TEST_STAT_ACTIVE : Fld := { blk := 16, off := 0x0004, lsb := 2, w := 7, acc := .ro }
/-- R677. -/
def TEST_CTRL_EN : Fld := { blk := 16, off := 0x0008, lsb := 0, w := 7, acc := .rw }
/-- R677. -/
def TEST_CTRL_LOCK : Fld := { blk := 16, off := 0x0008, lsb := 31, w := 1, acc := .wo }
/-- R677. -/
def TEST_FAB_DLY_DLY : Fld := { blk := 16, off := 0x0040, lsb := 0, w := 8, acc := .rwIdle, stride := 0x4, n := 13 }
/-- R677. -/
def TEST_LDL_ITEM_ITEM : Fld := { blk := 16, off := 0x0080, lsb := 0, w := 16, acc := .rwIdle, reset := 65535 }
/-- R677. -/
def TEST_LDL_DLY_DLY : Fld := { blk := 16, off := 0x0084, lsb := 0, w := 16, acc := .rwIdle }
/-- R677. -/
def TEST_TWI_CFG_SRC : Fld := { blk := 16, off := 0x00C0, lsb := 0, w := 1, acc := .rwIdle }
/-- R677. -/
def TEST_TWI_CFG_ACT : Fld := { blk := 16, off := 0x00C0, lsb := 1, w := 1, acc := .rwIdle }
/-- R677. -/
def TEST_TWI_CFG_HANDLE : Fld := { blk := 16, off := 0x00C0, lsb := 2, w := 11, acc := .rwIdle }
/-- R677. -/
def TEST_TWI_CFG_PORT : Fld := { blk := 16, off := 0x00C0, lsb := 13, w := 3, acc := .rwIdle }
/-- R677. -/
def TEST_TWI_DLY_DLY : Fld := { blk := 16, off := 0x00C4, lsb := 0, w := 12, acc := .rwIdle }
/-- R677. -/
def TEST_ENC_CFG_PORT : Fld := { blk := 16, off := 0x0100, lsb := 0, w := 4, acc := .rwIdle }
/-- R677. -/
def TEST_ENC_MASK_LO_MASK : Fld := { blk := 16, off := 0x0104, lsb := 0, w := 32, acc := .rwIdle }
/-- R677. -/
def TEST_ENC_MASK_HI_MASK : Fld := { blk := 16, off := 0x0108, lsb := 0, w := 16, acc := .rwIdle }
/-- R677. -/
def TEST_TIME_STEP_STEP : Fld := { blk := 16, off := 0x0140, lsb := 0, w := 12, acc := .rwIdle, chk := .srange (-800) 800 }
/-- R677. -/
def TEST_TIME_RATE_RATE : Fld := { blk := 16, off := 0x0144, lsb := 0, w := 32, acc := .rwIdle, chk := .srange (-858993) 858993 }
/-- R677. -/
def TEST_TWI_CNT_EVERY : Fld := { blk := 16, off := 0x00C8, lsb := 0, w := 16, acc := .rwIdle }
/-- R677. -/
def TEST_ENC_CNT_EVERY : Fld := { blk := 16, off := 0x010C, lsb := 0, w := 16, acc := .rwIdle }
/-- R677. -/
def TEST_TIME_CNT_EVERY : Fld := { blk := 16, off := 0x0148, lsb := 0, w := 16, acc := .rwIdle }
/-- R677. -/
def TEST_PCIE_CNT_EVERY : Fld := { blk := 16, off := 0x01C4, lsb := 0, w := 16, acc := .rwIdle }
/-- R677. -/
def TEST_TWI_CNT_COUNT : Fld := { blk := 16, off := 0x00C8, lsb := 16, w := 16, acc := .rwIdle }
/-- R677. -/
def TEST_ENC_CNT_COUNT : Fld := { blk := 16, off := 0x010C, lsb := 16, w := 16, acc := .rwIdle }
/-- R677. -/
def TEST_TIME_CNT_COUNT : Fld := { blk := 16, off := 0x0148, lsb := 16, w := 16, acc := .rwIdle }
/-- R677. -/
def TEST_PCIE_CNT_COUNT : Fld := { blk := 16, off := 0x01C4, lsb := 16, w := 16, acc := .rwIdle }
/-- R677. -/
def TEST_ECC_ADDR_ADDR : Fld := { blk := 16, off := 0x0180, lsb := 0, w := 32, acc := .rwIdle }
/-- R677. -/
def TEST_ECC_CFG_REGION : Fld := { blk := 16, off := 0x0184, lsb := 0, w := 3, acc := .rwIdle }
/-- R677. -/
def TEST_ECC_CFG_NBITS : Fld := { blk := 16, off := 0x0184, lsb := 3, w := 2, acc := .rwIdle }
/-- R677. -/
def TEST_ECC_CFG_BITS : Fld := { blk := 16, off := 0x0184, lsb := 8, w := 24, acc := .rwIdle }
/-- R677. -/
def TEST_PCIE_STALL_STALL : Fld := { blk := 16, off := 0x01C0, lsb := 0, w := 10, acc := .rwIdle, chk := .range 0 1000 }
/-- R677. -/
def TEST_HIT_CNT : Fld := { blk := 16, off := 0x0200, lsb := 0, w := 16, acc := .cnt, stride := 0x4, n := 7 }

/-- Fields of block TEST, part 0. -/
def fieldsTEST_0 : List Fld :=
  [TEST_KEY_KEY, TEST_STAT_UNLOCK, TEST_STAT_ACTIVE, TEST_CTRL_EN,
   TEST_CTRL_LOCK, TEST_FAB_DLY_DLY, TEST_LDL_ITEM_ITEM, TEST_LDL_DLY_DLY,
   TEST_TWI_CFG_SRC, TEST_TWI_CFG_ACT, TEST_TWI_CFG_HANDLE, TEST_TWI_CFG_PORT,
   TEST_TWI_DLY_DLY, TEST_ENC_CFG_PORT, TEST_ENC_MASK_LO_MASK, TEST_ENC_MASK_HI_MASK,
   TEST_TIME_STEP_STEP, TEST_TIME_RATE_RATE, TEST_TWI_CNT_EVERY, TEST_ENC_CNT_EVERY,
   TEST_TIME_CNT_EVERY, TEST_PCIE_CNT_EVERY, TEST_TWI_CNT_COUNT, TEST_ENC_CNT_COUNT,
   TEST_TIME_CNT_COUNT, TEST_PCIE_CNT_COUNT, TEST_ECC_ADDR_ADDR, TEST_ECC_CFG_REGION,
   TEST_ECC_CFG_NBITS, TEST_ECC_CFG_BITS, TEST_PCIE_STALL_STALL, TEST_HIT_CNT]
/-- Every field of block TEST. -/
def fieldsTEST : List Fld := fieldsTEST_0

end Sys2Proof.Machine
end

