-- ==== Sys2Proof/Machine/RegsSys.lean ====
section
/-! DEFINITION. The register fields of the blocks SYS, HIF, INTC, LADLE, CORE, one definition a field, from the register tables of
spec/ (the rule that gives each table stands with the field). -/

namespace Sys2Proof.Machine

/-- R640. -/
def SYS_CHIP_ID_METAL : Fld := { blk := 0, off := 0x0000, lsb := 0, w := 4, acc := .ro }
/-- R640. -/
def SYS_CHIP_ID_BASE : Fld := { blk := 0, off := 0x0000, lsb := 4, w := 4, acc := .ro, reset := 1 }
/-- R640. -/
def SYS_CHIP_ID_PART : Fld := { blk := 0, off := 0x0000, lsb := 8, w := 16, acc := .ro, reset := 598 }
/-- R640. -/
def SYS_CHIP_ID_GRADE : Fld := { blk := 0, off := 0x0000, lsb := 24, w := 4, acc := .ro }
/-- R640. -/
def SYS_CHIP_ID_FAMILY : Fld := { blk := 0, off := 0x0000, lsb := 28, w := 4, acc := .ro, reset := 1 }
/-- R640. -/
def SYS_STRAP_NODE_ID : Fld := { blk := 0, off := 0x0004, lsb := 0, w := 6, acc := .ro }
/-- R640. -/
def SYS_STRAP_ROLE : Fld := { blk := 0, off := 0x0004, lsb := 6, w := 1, acc := .ro }
/-- R640. -/
def SYS_STRAP_TEST_EN : Fld := { blk := 0, off := 0x0004, lsb := 7, w := 1, acc := .ro }
/-- R640. -/
def SYS_STRAP_BOOT_SRC : Fld := { blk := 0, off := 0x0004, lsb := 8, w := 2, acc := .ro }
/-- R640. -/
def SYS_STRAP_VALID : Fld := { blk := 0, off := 0x0004, lsb := 10, w := 1, acc := .ro }
/-- R640. -/
def SYS_STRAP_PCIE_CLK : Fld := { blk := 0, off := 0x0004, lsb := 11, w := 1, acc := .ro }
/-- R640. -/
def SYS_UID_LO_UID : Fld := { blk := 0, off := 0x0008, lsb := 0, w := 32, acc := .ro }
/-- R640. -/
def SYS_UID_HI_UID : Fld := { blk := 0, off := 0x000C, lsb := 0, w := 32, acc := .ro }
/-- R640. -/
def SYS_LOCK_CFG_LOCK : Fld := { blk := 0, off := 0x0010, lsb := 0, w := 1, acc := .w1s }
/-- R640. -/
def SYS_LOCK_LIMIT_LOCK : Fld := { blk := 0, off := 0x0010, lsb := 1, w := 1, acc := .w1s }
/-- R640. -/
def SYS_LOCK_SCHED_LOCK : Fld := { blk := 0, off := 0x0010, lsb := 2, w := 1, acc := .w1s }
/-- R640. -/
def SYS_FLAGS_LOCK_VIOLATION : Fld := { blk := 0, off := 0x0014, lsb := 0, w := 1, acc := .w1c }
/-- R640. -/
def SYS_FLAGS_DOMAIN_OFF : Fld := { blk := 0, off := 0x0014, lsb := 1, w := 1, acc := .w1c }
/-- R640. -/
def SYS_FLAGS_ACCESS_DENIED : Fld := { blk := 0, off := 0x0014, lsb := 2, w := 1, acc := .w1c }
/-- R640. -/
def SYS_FLAGS_CLOCK : Fld := { blk := 0, off := 0x0014, lsb := 3, w := 1, acc := .w1c }
/-- R640. -/
def SYS_FLAGS_SUP_STOPPED : Fld := { blk := 0, off := 0x0014, lsb := 4, w := 1, acc := .ro }
/-- R640. -/
def SYS_FLAGS_MGR_LOST : Fld := { blk := 0, off := 0x0014, lsb := 5, w := 1, acc := .w1c }
/-- R640. -/
def SYS_RST_CAUSE_POR : Fld := { blk := 0, off := 0x0018, lsb := 0, w := 1, acc := .ro, reset := 1 }
/-- R640. -/
def SYS_RST_CAUSE_SOFT : Fld := { blk := 0, off := 0x0018, lsb := 1, w := 1, acc := .ro }
/-- R640. -/
def SYS_RST_CAUSE_WDT : Fld := { blk := 0, off := 0x0018, lsb := 2, w := 1, acc := .ro }
/-- R640. -/
def SYS_RST_CAUSE_LOCKSTEP : Fld := { blk := 0, off := 0x0018, lsb := 3, w := 1, acc := .ro }
/-- R640. -/
def SYS_RST_CAUSE_DOUBLE : Fld := { blk := 0, off := 0x0018, lsb := 4, w := 1, acc := .ro }
/-- R640. -/
def SYS_RST_CAUSE_CLOCK : Fld := { blk := 0, off := 0x0018, lsb := 5, w := 1, acc := .ro }
/-- R640. -/
def SYS_RST_CAUSE_COUNT : Fld := { blk := 0, off := 0x0018, lsb := 8, w := 8, acc := .ro }
/-- R640. -/
def SYS_CTRL_CHIP_RST : Fld := { blk := 0, off := 0x001C, lsb := 0, w := 1, acc := .wo }
/-- R640. -/
def SYS_CTRL_KEY : Fld := { blk := 0, off := 0x001C, lsb := 8, w := 8, acc := .wo }
/-- R640. -/
def SYS_CTRL_RECOVER_MS : Fld := { blk := 0, off := 0x001C, lsb := 16, w := 16, acc := .rwlCfg, reset := 10 }
/-- R640. -/
def SYS_BOOT_STAT_PHASE : Fld := { blk := 0, off := 0x0020, lsb := 0, w := 3, acc := .ro }
/-- R640. -/
def SYS_BOOT_STAT_COPY : Fld := { blk := 0, off := 0x0020, lsb := 3, w := 2, acc := .ro }
/-- R640. -/
def SYS_BOOT_STAT_MODE : Fld := { blk := 0, off := 0x0020, lsb := 5, w := 2, acc := .ro }
/-- R640. -/
def SYS_BOOT_STAT_FAIL : Fld := { blk := 0, off := 0x0020, lsb := 8, w := 8, acc := .ro }
/-- R640. -/
def SYS_BOOT_STAT_BOOT_MS : Fld := { blk := 0, off := 0x0020, lsb := 16, w := 16, acc := .ro }
/-- R640. -/
def SYS_FW_VER_VERSION : Fld := { blk := 0, off := 0x0024, lsb := 0, w := 32, acc := .ro }
/-- R640. -/
def SYS_FUSE_KEY_VALID : Fld := { blk := 0, off := 0x0028, lsb := 0, w := 2, acc := .ro }
/-- R640. -/
def SYS_FUSE_REVOKED : Fld := { blk := 0, off := 0x0028, lsb := 2, w := 2, acc := .ro }
/-- R640. -/
def SYS_FUSE_SVN_MIN : Fld := { blk := 0, off := 0x0028, lsb := 8, w := 6, acc := .ro }
/-- R640. -/
def SYS_BOOT_LEN_LEN : Fld := { blk := 0, off := 0x002C, lsb := 0, w := 22, acc := .rwBoot }
/-- R640. -/
def SYS_PWR_CTRL_ON : Fld := { blk := 0, off := 0x0030, lsb := 0, w := 14, acc := .rw }
/-- R640. -/
def SYS_PWR_STAT_ON : Fld := { blk := 0, off := 0x0034, lsb := 0, w := 14, acc := .ro }
/-- R640. -/
def SYS_PWR_STAT_TRANS : Fld := { blk := 0, off := 0x0034, lsb := 16, w := 14, acc := .ro }
/-- R640. -/
def SYS_CLK_STAT_REF_OK : Fld := { blk := 0, off := 0x0038, lsb := 0, w := 1, acc := .ro }
/-- R640. -/
def SYS_CLK_STAT_ROOT_LOCK : Fld := { blk := 0, off := 0x0038, lsb := 1, w := 1, acc := .ro }
/-- R640. -/
def SYS_CLK_STAT_TWI_LOCK : Fld := { blk := 0, off := 0x0038, lsb := 2, w := 1, acc := .ro }
/-- R640. -/
def SYS_CLK_STAT_PAIR_LOCK : Fld := { blk := 0, off := 0x0038, lsb := 3, w := 1, acc := .ro }
/-- R640. -/
def SYS_CLK_STAT_PCIE_REF : Fld := { blk := 0, off := 0x0038, lsb := 4, w := 1, acc := .ro }
/-- R640. -/
def SYS_WDT_CFG_PER : Fld := { blk := 0, off := 0x0040, lsb := 0, w := 10, acc := .rwOnce, reset := 1000, chk := .range 1 1000 }
/-- R640. -/
def SYS_WDT_KICK_KICK : Fld := { blk := 0, off := 0x0044, lsb := 0, w := 32, acc := .wo }
/-- R640. -/
def SYS_MGR_CFG_SCOPE : Fld := { blk := 0, off := 0x0048, lsb := 0, w := 1, acc := .rwlCfg }
/-- R640. -/
def SYS_MGR_STAT_MISS_RUN : Fld := { blk := 0, off := 0x004C, lsb := 0, w := 2, acc := .ro }
/-- R640. -/
def SYS_MGR_STAT_LOST : Fld := { blk := 0, off := 0x004C, lsb := 2, w := 1, acc := .ro }
/-- R640. -/
def SYS_FLOG_CNT_N : Fld := { blk := 0, off := 0x0050, lsb := 0, w := 9, acc := .ro }
/-- R640. -/
def SYS_FLOG_CNT_OVERWRITTEN : Fld := { blk := 0, off := 0x0050, lsb := 16, w := 16, acc := .ro }

/-- Fields of block SYS, part 0. -/
def fieldsSYS_0 : List Fld :=
  [SYS_CHIP_ID_METAL, SYS_CHIP_ID_BASE, SYS_CHIP_ID_PART, SYS_CHIP_ID_GRADE,
   SYS_CHIP_ID_FAMILY, SYS_STRAP_NODE_ID, SYS_STRAP_ROLE, SYS_STRAP_TEST_EN,
   SYS_STRAP_BOOT_SRC, SYS_STRAP_VALID, SYS_STRAP_PCIE_CLK, SYS_UID_LO_UID,
   SYS_UID_HI_UID, SYS_LOCK_CFG_LOCK, SYS_LOCK_LIMIT_LOCK, SYS_LOCK_SCHED_LOCK,
   SYS_FLAGS_LOCK_VIOLATION, SYS_FLAGS_DOMAIN_OFF, SYS_FLAGS_ACCESS_DENIED, SYS_FLAGS_CLOCK,
   SYS_FLAGS_SUP_STOPPED, SYS_FLAGS_MGR_LOST, SYS_RST_CAUSE_POR, SYS_RST_CAUSE_SOFT,
   SYS_RST_CAUSE_WDT, SYS_RST_CAUSE_LOCKSTEP, SYS_RST_CAUSE_DOUBLE, SYS_RST_CAUSE_CLOCK,
   SYS_RST_CAUSE_COUNT, SYS_CTRL_CHIP_RST, SYS_CTRL_KEY, SYS_CTRL_RECOVER_MS,
   SYS_BOOT_STAT_PHASE, SYS_BOOT_STAT_COPY, SYS_BOOT_STAT_MODE, SYS_BOOT_STAT_FAIL,
   SYS_BOOT_STAT_BOOT_MS, SYS_FW_VER_VERSION, SYS_FUSE_KEY_VALID, SYS_FUSE_REVOKED]
/-- Fields of block SYS, part 1. -/
def fieldsSYS_1 : List Fld :=
  [SYS_FUSE_SVN_MIN, SYS_BOOT_LEN_LEN, SYS_PWR_CTRL_ON, SYS_PWR_STAT_ON,
   SYS_PWR_STAT_TRANS, SYS_CLK_STAT_REF_OK, SYS_CLK_STAT_ROOT_LOCK, SYS_CLK_STAT_TWI_LOCK,
   SYS_CLK_STAT_PAIR_LOCK, SYS_CLK_STAT_PCIE_REF, SYS_WDT_CFG_PER, SYS_WDT_KICK_KICK,
   SYS_MGR_CFG_SCOPE, SYS_MGR_STAT_MISS_RUN, SYS_MGR_STAT_LOST, SYS_FLOG_CNT_N,
   SYS_FLOG_CNT_OVERWRITTEN]
/-- Every field of block SYS. -/
def fieldsSYS : List Fld := fieldsSYS_0 ++ fieldsSYS_1

/-- R114. -/
def HIF_STATUS_READY : Fld := { blk := 1, off := 0x0000, lsb := 0, w := 1, acc := .ro }
/-- R114. -/
def HIF_STATUS_LINK_UP : Fld := { blk := 1, off := 0x0000, lsb := 1, w := 1, acc := .ro }
/-- R114. -/
def HIF_STATUS_LINK_SPEED : Fld := { blk := 1, off := 0x0000, lsb := 2, w := 3, acc := .ro }
/-- R114. -/
def HIF_STATUS_LINK_WIDTH : Fld := { blk := 1, off := 0x0000, lsb := 5, w := 3, acc := .ro }
/-- R114. -/
def HIF_STATUS_FLR_SEEN : Fld := { blk := 1, off := 0x0000, lsb := 8, w := 1, acc := .w1c }
/-- R114. -/
def HIF_STATUS_LINK_DOWN_SEEN : Fld := { blk := 1, off := 0x0000, lsb := 9, w := 1, acc := .w1c }
/-- R114. -/
def HIF_STATUS_DMA_DENIED : Fld := { blk := 1, off := 0x0000, lsb := 10, w := 1, acc := .w1c }
/-- R114. -/
def HIF_DMA_DENIED_CNT_CNT : Fld := { blk := 1, off := 0x0008, lsb := 0, w := 16, acc := .cnt }
/-- R114. -/
def HIF_DB_BAD_CNT_CNT : Fld := { blk := 1, off := 0x000C, lsb := 0, w := 16, acc := .cnt }
/-- R114. -/
def HIF_FEAT_DEV_DEV : Fld := { blk := 1, off := 0x0010, lsb := 0, w := 32, acc := .ro, stride := 0x4, n := 4 }
/-- R114. -/
def HIF_FEAT_DRV_DRV : Fld := { blk := 1, off := 0x0020, lsb := 0, w := 32, acc := .rwGo, stride := 0x4, n := 4 }
/-- R114. -/
def HIF_FEAT_ACK_DONE : Fld := { blk := 1, off := 0x0030, lsb := 0, w := 1, acc := .ro }
/-- R114. -/
def HIF_FEAT_ACK_FAILED : Fld := { blk := 1, off := 0x0030, lsb := 1, w := 1, acc := .ro }
/-- R114. -/
def HIF_FEAT_ACK_CONFLICT : Fld := { blk := 1, off := 0x0030, lsb := 2, w := 1, acc := .ro }
/-- R114. -/
def HIF_FEAT_ACK_UNKNOWN : Fld := { blk := 1, off := 0x0030, lsb := 3, w := 1, acc := .ro }
/-- R114. -/
def HIF_FEAT_ACK_GO : Fld := { blk := 1, off := 0x0030, lsb := 31, w := 1, acc := .wo }
/-- R114. -/
def HIF_EVT_ROUTE_RING : Fld := { blk := 1, off := 0x0040, lsb := 0, w := 2, acc := .rw, stride := 0x4, n := 17 }
/-- R114. -/
def HIF_EVT_ROUTE_NOTICES : Fld := { blk := 1, off := 0x0040, lsb := 2, w := 1, acc := .rw, stride := 0x4, n := 17, reset := 1 }
/-- R114. -/
def HIF_DMAW_BASE_LO_ADDR : Fld := { blk := 1, off := 0x0100, lsb := 12, w := 20, acc := .rwlLim, stride := 0x20, n := 16 }
/-- R114. -/
def HIF_DMAW_END_LO_ADDR : Fld := { blk := 1, off := 0x0108, lsb := 12, w := 20, acc := .rwlLim, stride := 0x20, n := 16 }
/-- R114. -/
def HIF_DMAW_BASE_HI_ADDR : Fld := { blk := 1, off := 0x0104, lsb := 0, w := 32, acc := .rwlLim, stride := 0x20, n := 16 }
/-- R114. -/
def HIF_DMAW_END_HI_ADDR : Fld := { blk := 1, off := 0x010C, lsb := 0, w := 32, acc := .rwlLim, stride := 0x20, n := 16 }
/-- R114. -/
def HIF_DMAW_CTRL_EN : Fld := { blk := 1, off := 0x0110, lsb := 0, w := 1, acc := .rwlLim, stride := 0x20, n := 16 }
/-- R114. -/
def HIF_DMAW_CTRL_RD : Fld := { blk := 1, off := 0x0110, lsb := 1, w := 1, acc := .rwlLim, stride := 0x20, n := 16 }
/-- R114. -/
def HIF_DMAW_CTRL_WR : Fld := { blk := 1, off := 0x0110, lsb := 2, w := 1, acc := .rwlLim, stride := 0x20, n := 16 }
/-- R114. -/
def HIF_CMD_BASE_LO_ADDR : Fld := { blk := 1, off := 0x0400, lsb := 12, w := 20, acc := .rwIdle, stride := 0x40, n := 16 }
/-- R114. -/
def HIF_CPL_BASE_LO_ADDR : Fld := { blk := 1, off := 0x0800, lsb := 12, w := 20, acc := .rwIdle, stride := 0x40, n := 16 }
/-- R114. -/
def HIF_EVT_BASE_LO_ADDR : Fld := { blk := 1, off := 0x0C00, lsb := 12, w := 20, acc := .rwIdle, stride := 0x40, n := 4 }
/-- R114. -/
def HIF_STR_BASE_LO_ADDR : Fld := { blk := 1, off := 0x1000, lsb := 12, w := 20, acc := .rwIdle, stride := 0x40, n := 32 }
/-- R114. -/
def HIF_CMD_BASE_HI_ADDR : Fld := { blk := 1, off := 0x0404, lsb := 0, w := 32, acc := .rwIdle, stride := 0x40, n := 16 }
/-- R114. -/
def HIF_CPL_BASE_HI_ADDR : Fld := { blk := 1, off := 0x0804, lsb := 0, w := 32, acc := .rwIdle, stride := 0x40, n := 16 }
/-- R114. -/
def HIF_EVT_BASE_HI_ADDR : Fld := { blk := 1, off := 0x0C04, lsb := 0, w := 32, acc := .rwIdle, stride := 0x40, n := 4 }
/-- R114. -/
def HIF_STR_BASE_HI_ADDR : Fld := { blk := 1, off := 0x1004, lsb := 0, w := 32, acc := .rwIdle, stride := 0x40, n := 32 }
/-- R114. -/
def HIF_CMD_CFG_LOG2_SIZE : Fld := { blk := 1, off := 0x0408, lsb := 0, w := 5, acc := .rwIdle, stride := 0x40, n := 16, reset := 6 }
/-- R114. -/
def HIF_CPL_CFG_LOG2_SIZE : Fld := { blk := 1, off := 0x0808, lsb := 0, w := 5, acc := .rwIdle, stride := 0x40, n := 16, reset := 6 }
/-- R114. -/
def HIF_EVT_CFG_LOG2_SIZE : Fld := { blk := 1, off := 0x0C08, lsb := 0, w := 5, acc := .rwIdle, stride := 0x40, n := 4, reset := 6 }
/-- R114. -/
def HIF_STR_CFG_LOG2_SIZE : Fld := { blk := 1, off := 0x1008, lsb := 0, w := 5, acc := .rwIdle, stride := 0x40, n := 32, reset := 6 }
/-- R114. -/
def HIF_CMD_CFG_VECTOR : Fld := { blk := 1, off := 0x0408, lsb := 8, w := 6, acc := .rwIdle, stride := 0x40, n := 16 }
/-- R114. -/
def HIF_CPL_CFG_VECTOR : Fld := { blk := 1, off := 0x0808, lsb := 8, w := 6, acc := .rwIdle, stride := 0x40, n := 16, rstep := 1 }
/-- R114. -/
def HIF_EVT_CFG_VECTOR : Fld := { blk := 1, off := 0x0C08, lsb := 8, w := 6, acc := .rwIdle, stride := 0x40, n := 4, reset := 16, rstep := 1 }
/-- R114. -/
def HIF_STR_CFG_VECTOR : Fld := { blk := 1, off := 0x1008, lsb := 8, w := 6, acc := .rwIdle, stride := 0x40, n := 32, reset := 20, rstep := 1 }
/-- R114. -/
def HIF_CMD_CFG_CQ : Fld := { blk := 1, off := 0x0408, lsb := 16, w := 4, acc := .rwIdle, stride := 0x40, n := 16 }
/-- R114. -/
def HIF_CPL_CFG_CQ : Fld := { blk := 1, off := 0x0808, lsb := 16, w := 4, acc := .rwIdle, stride := 0x40, n := 16 }
/-- R114. -/
def HIF_EVT_CFG_CQ : Fld := { blk := 1, off := 0x0C08, lsb := 16, w := 4, acc := .rwIdle, stride := 0x40, n := 4 }
/-- R114. -/
def HIF_STR_CFG_CQ : Fld := { blk := 1, off := 0x1008, lsb := 16, w := 4, acc := .rwIdle, stride := 0x40, n := 32 }
/-- R114. -/
def HIF_CMD_CFG_PRIO : Fld := { blk := 1, off := 0x0408, lsb := 20, w := 2, acc := .rwIdle, stride := 0x40, n := 16 }
/-- R114. -/
def HIF_CPL_CFG_PRIO : Fld := { blk := 1, off := 0x0808, lsb := 20, w := 2, acc := .rwIdle, stride := 0x40, n := 16 }
/-- R114. -/
def HIF_EVT_CFG_PRIO : Fld := { blk := 1, off := 0x0C08, lsb := 20, w := 2, acc := .rwIdle, stride := 0x40, n := 4 }
/-- R114. -/
def HIF_STR_CFG_PRIO : Fld := { blk := 1, off := 0x1008, lsb := 20, w := 2, acc := .rwIdle, stride := 0x40, n := 32 }
/-- R114. -/
def HIF_CMD_CFG_DIR : Fld := { blk := 1, off := 0x0408, lsb := 24, w := 1, acc := .rwIdle, stride := 0x40, n := 16 }
/-- R114. -/
def HIF_CPL_CFG_DIR : Fld := { blk := 1, off := 0x0808, lsb := 24, w := 1, acc := .rwIdle, stride := 0x40, n := 16 }
/-- R114. -/
def HIF_EVT_CFG_DIR : Fld := { blk := 1, off := 0x0C08, lsb := 24, w := 1, acc := .rwIdle, stride := 0x40, n := 4 }
/-- R114. -/
def HIF_STR_CFG_DIR : Fld := { blk := 1, off := 0x1008, lsb := 24, w := 1, acc := .rwIdle, stride := 0x40, n := 32 }
/-- R114. -/
def HIF_CMD_CFG_SRC : Fld := { blk := 1, off := 0x0408, lsb := 25, w := 2, acc := .rwIdle, stride := 0x40, n := 16 }
/-- R114. -/
def HIF_CPL_CFG_SRC : Fld := { blk := 1, off := 0x0808, lsb := 25, w := 2, acc := .rwIdle, stride := 0x40, n := 16 }
/-- R114. -/
def HIF_EVT_CFG_SRC : Fld := { blk := 1, off := 0x0C08, lsb := 25, w := 2, acc := .rwIdle, stride := 0x40, n := 4 }
/-- R114. -/
def HIF_STR_CFG_SRC : Fld := { blk := 1, off := 0x1008, lsb := 25, w := 2, acc := .rwIdle, stride := 0x40, n := 32 }
/-- R114. -/
def HIF_CMD_CFG_ESIZE : Fld := { blk := 1, off := 0x0408, lsb := 28, w := 4, acc := .rwIdle, stride := 0x40, n := 16, reset := 4 }
/-- R114. -/
def HIF_CPL_CFG_ESIZE : Fld := { blk := 1, off := 0x0808, lsb := 28, w := 4, acc := .rwIdle, stride := 0x40, n := 16, reset := 4 }
/-- R114. -/
def HIF_EVT_CFG_ESIZE : Fld := { blk := 1, off := 0x0C08, lsb := 28, w := 4, acc := .rwIdle, stride := 0x40, n := 4, reset := 4 }
/-- R114. -/
def HIF_STR_CFG_ESIZE : Fld := { blk := 1, off := 0x1008, lsb := 28, w := 4, acc := .rwIdle, stride := 0x40, n := 32, reset := 4 }
/-- R114. -/
def HIF_CMD_CTRL_ENABLE : Fld := { blk := 1, off := 0x040C, lsb := 0, w := 1, acc := .rw, stride := 0x40, n := 16 }
/-- R114. -/
def HIF_CPL_CTRL_ENABLE : Fld := { blk := 1, off := 0x080C, lsb := 0, w := 1, acc := .rw, stride := 0x40, n := 16 }
/-- R114. -/
def HIF_EVT_CTRL_ENABLE : Fld := { blk := 1, off := 0x0C0C, lsb := 0, w := 1, acc := .rw, stride := 0x40, n := 4 }
/-- R114. -/
def HIF_STR_CTRL_ENABLE : Fld := { blk := 1, off := 0x100C, lsb := 0, w := 1, acc := .rw, stride := 0x40, n := 32 }
/-- R114. -/
def HIF_CMD_CTRL_STATE : Fld := { blk := 1, off := 0x040C, lsb := 1, w := 2, acc := .ro, stride := 0x40, n := 16 }
/-- R114. -/
def HIF_CPL_CTRL_STATE : Fld := { blk := 1, off := 0x080C, lsb := 1, w := 2, acc := .ro, stride := 0x40, n := 16 }
/-- R114. -/
def HIF_EVT_CTRL_STATE : Fld := { blk := 1, off := 0x0C0C, lsb := 1, w := 2, acc := .ro, stride := 0x40, n := 4 }
/-- R114. -/
def HIF_STR_CTRL_STATE : Fld := { blk := 1, off := 0x100C, lsb := 1, w := 2, acc := .ro, stride := 0x40, n := 32 }
/-- R114. -/
def HIF_CMD_HEAD_INDEX : Fld := { blk := 1, off := 0x0410, lsb := 0, w := 16, acc := .ro, stride := 0x40, n := 16 }
/-- R114. -/
def HIF_CPL_HEAD_INDEX : Fld := { blk := 1, off := 0x0810, lsb := 0, w := 16, acc := .ro, stride := 0x40, n := 16 }
/-- R114. -/
def HIF_EVT_HEAD_INDEX : Fld := { blk := 1, off := 0x0C10, lsb := 0, w := 16, acc := .ro, stride := 0x40, n := 4 }
/-- R114. -/
def HIF_STR_HEAD_INDEX : Fld := { blk := 1, off := 0x1010, lsb := 0, w := 16, acc := .ro, stride := 0x40, n := 32 }
/-- R114. -/
def HIF_CMD_TAIL_INDEX : Fld := { blk := 1, off := 0x0414, lsb := 0, w := 16, acc := .ro, stride := 0x40, n := 16 }
/-- R114. -/
def HIF_CPL_TAIL_INDEX : Fld := { blk := 1, off := 0x0814, lsb := 0, w := 16, acc := .ro, stride := 0x40, n := 16 }
/-- R114. -/
def HIF_EVT_TAIL_INDEX : Fld := { blk := 1, off := 0x0C14, lsb := 0, w := 16, acc := .ro, stride := 0x40, n := 4 }
/-- R114. -/
def HIF_STR_TAIL_INDEX : Fld := { blk := 1, off := 0x1014, lsb := 0, w := 16, acc := .ro, stride := 0x40, n := 32 }
/-- R114. -/
def HIF_CMD_WB_LO_ADDR : Fld := { blk := 1, off := 0x0418, lsb := 3, w := 29, acc := .rwIdle, stride := 0x40, n := 16 }
/-- R114. -/
def HIF_CPL_WB_LO_ADDR : Fld := { blk := 1, off := 0x0818, lsb := 3, w := 29, acc := .rwIdle, stride := 0x40, n := 16 }
/-- R114. -/
def HIF_EVT_WB_LO_ADDR : Fld := { blk := 1, off := 0x0C18, lsb := 3, w := 29, acc := .rwIdle, stride := 0x40, n := 4 }
/-- R114. -/
def HIF_STR_WB_LO_ADDR : Fld := { blk := 1, off := 0x1018, lsb := 3, w := 29, acc := .rwIdle, stride := 0x40, n := 32 }
/-- R114. -/
def HIF_CMD_WB_HI_ADDR : Fld := { blk := 1, off := 0x041C, lsb := 0, w := 32, acc := .rwIdle, stride := 0x40, n := 16 }
/-- R114. -/
def HIF_CPL_WB_HI_ADDR : Fld := { blk := 1, off := 0x081C, lsb := 0, w := 32, acc := .rwIdle, stride := 0x40, n := 16 }
/-- R114. -/
def HIF_EVT_WB_HI_ADDR : Fld := { blk := 1, off := 0x0C1C, lsb := 0, w := 32, acc := .rwIdle, stride := 0x40, n := 4 }
/-- R114. -/
def HIF_STR_WB_HI_ADDR : Fld := { blk := 1, off := 0x101C, lsb := 0, w := 32, acc := .rwIdle, stride := 0x40, n := 32 }
/-- R114. -/
def HIF_CMD_AUX_GROUP : Fld := { blk := 1, off := 0x0420, lsb := 0, w := 5, acc := .rwIdle, stride := 0x40, n := 16 }
/-- R114. -/
def HIF_CPL_AUX_GROUP : Fld := { blk := 1, off := 0x0820, lsb := 0, w := 5, acc := .rwIdle, stride := 0x40, n := 16 }
/-- R114. -/
def HIF_EVT_AUX_GROUP : Fld := { blk := 1, off := 0x0C20, lsb := 0, w := 5, acc := .rwIdle, stride := 0x40, n := 4 }
/-- R114. -/
def HIF_STR_AUX_GROUP : Fld := { blk := 1, off := 0x1020, lsb := 0, w := 5, acc := .rwIdle, stride := 0x40, n := 32 }
/-- R114. -/
def HIF_CMD_AUX_DECIM : Fld := { blk := 1, off := 0x0420, lsb := 8, w := 3, acc := .rwIdle, stride := 0x40, n := 16 }
/-- R114. -/
def HIF_CPL_AUX_DECIM : Fld := { blk := 1, off := 0x0820, lsb := 8, w := 3, acc := .rwIdle, stride := 0x40, n := 16 }
/-- R114. -/
def HIF_EVT_AUX_DECIM : Fld := { blk := 1, off := 0x0C20, lsb := 8, w := 3, acc := .rwIdle, stride := 0x40, n := 4 }
/-- R114. -/
def HIF_STR_AUX_DECIM : Fld := { blk := 1, off := 0x1020, lsb := 8, w := 3, acc := .rwIdle, stride := 0x40, n := 32 }
/-- R114. -/
def HIF_CMD_DROP_CNT : Fld := { blk := 1, off := 0x0424, lsb := 0, w := 16, acc := .cnt, stride := 0x40, n := 16 }
/-- R114. -/
def HIF_CPL_DROP_CNT : Fld := { blk := 1, off := 0x0824, lsb := 0, w := 16, acc := .cnt, stride := 0x40, n := 16 }
/-- R114. -/
def HIF_EVT_DROP_CNT : Fld := { blk := 1, off := 0x0C24, lsb := 0, w := 16, acc := .cnt, stride := 0x40, n := 4 }
/-- R114. -/
def HIF_STR_DROP_CNT : Fld := { blk := 1, off := 0x1024, lsb := 0, w := 16, acc := .cnt, stride := 0x40, n := 32 }
/-- R114. -/
def HIF_TMASK_AXES : Fld := { blk := 1, off := 0x1800, lsb := 0, w := 32, acc := .rw, stride := 0x4, n := 256 }
/-- R114. -/
def HIF_COAL_COUNT : Fld := { blk := 1, off := 0x2000, lsb := 0, w := 8, acc := .rw, stride := 0x4, n := 64 }
/-- R114. -/
def HIF_COAL_TIME : Fld := { blk := 1, off := 0x2000, lsb := 8, w := 16, acc := .rw, stride := 0x4, n := 64 }

/-- Fields of block HIF, part 0. -/
def fieldsHIF_0 : List Fld :=
  [HIF_STATUS_READY, HIF_STATUS_LINK_UP, HIF_STATUS_LINK_SPEED, HIF_STATUS_LINK_WIDTH,
   HIF_STATUS_FLR_SEEN, HIF_STATUS_LINK_DOWN_SEEN, HIF_STATUS_DMA_DENIED, HIF_DMA_DENIED_CNT_CNT,
   HIF_DB_BAD_CNT_CNT, HIF_FEAT_DEV_DEV, HIF_FEAT_DRV_DRV, HIF_FEAT_ACK_DONE,
   HIF_FEAT_ACK_FAILED, HIF_FEAT_ACK_CONFLICT, HIF_FEAT_ACK_UNKNOWN, HIF_FEAT_ACK_GO,
   HIF_EVT_ROUTE_RING, HIF_EVT_ROUTE_NOTICES, HIF_DMAW_BASE_LO_ADDR, HIF_DMAW_END_LO_ADDR,
   HIF_DMAW_BASE_HI_ADDR, HIF_DMAW_END_HI_ADDR, HIF_DMAW_CTRL_EN, HIF_DMAW_CTRL_RD,
   HIF_DMAW_CTRL_WR, HIF_CMD_BASE_LO_ADDR, HIF_CPL_BASE_LO_ADDR, HIF_EVT_BASE_LO_ADDR,
   HIF_STR_BASE_LO_ADDR, HIF_CMD_BASE_HI_ADDR, HIF_CPL_BASE_HI_ADDR, HIF_EVT_BASE_HI_ADDR,
   HIF_STR_BASE_HI_ADDR, HIF_CMD_CFG_LOG2_SIZE, HIF_CPL_CFG_LOG2_SIZE, HIF_EVT_CFG_LOG2_SIZE,
   HIF_STR_CFG_LOG2_SIZE, HIF_CMD_CFG_VECTOR, HIF_CPL_CFG_VECTOR, HIF_EVT_CFG_VECTOR]
/-- Fields of block HIF, part 1. -/
def fieldsHIF_1 : List Fld :=
  [HIF_STR_CFG_VECTOR, HIF_CMD_CFG_CQ, HIF_CPL_CFG_CQ, HIF_EVT_CFG_CQ,
   HIF_STR_CFG_CQ, HIF_CMD_CFG_PRIO, HIF_CPL_CFG_PRIO, HIF_EVT_CFG_PRIO,
   HIF_STR_CFG_PRIO, HIF_CMD_CFG_DIR, HIF_CPL_CFG_DIR, HIF_EVT_CFG_DIR,
   HIF_STR_CFG_DIR, HIF_CMD_CFG_SRC, HIF_CPL_CFG_SRC, HIF_EVT_CFG_SRC,
   HIF_STR_CFG_SRC, HIF_CMD_CFG_ESIZE, HIF_CPL_CFG_ESIZE, HIF_EVT_CFG_ESIZE,
   HIF_STR_CFG_ESIZE, HIF_CMD_CTRL_ENABLE, HIF_CPL_CTRL_ENABLE, HIF_EVT_CTRL_ENABLE,
   HIF_STR_CTRL_ENABLE, HIF_CMD_CTRL_STATE, HIF_CPL_CTRL_STATE, HIF_EVT_CTRL_STATE,
   HIF_STR_CTRL_STATE, HIF_CMD_HEAD_INDEX, HIF_CPL_HEAD_INDEX, HIF_EVT_HEAD_INDEX,
   HIF_STR_HEAD_INDEX, HIF_CMD_TAIL_INDEX, HIF_CPL_TAIL_INDEX, HIF_EVT_TAIL_INDEX,
   HIF_STR_TAIL_INDEX, HIF_CMD_WB_LO_ADDR, HIF_CPL_WB_LO_ADDR, HIF_EVT_WB_LO_ADDR]
/-- Fields of block HIF, part 2. -/
def fieldsHIF_2 : List Fld :=
  [HIF_STR_WB_LO_ADDR, HIF_CMD_WB_HI_ADDR, HIF_CPL_WB_HI_ADDR, HIF_EVT_WB_HI_ADDR,
   HIF_STR_WB_HI_ADDR, HIF_CMD_AUX_GROUP, HIF_CPL_AUX_GROUP, HIF_EVT_AUX_GROUP,
   HIF_STR_AUX_GROUP, HIF_CMD_AUX_DECIM, HIF_CPL_AUX_DECIM, HIF_EVT_AUX_DECIM,
   HIF_STR_AUX_DECIM, HIF_CMD_DROP_CNT, HIF_CPL_DROP_CNT, HIF_EVT_DROP_CNT,
   HIF_STR_DROP_CNT, HIF_TMASK_AXES, HIF_COAL_COUNT, HIF_COAL_TIME]
/-- Every field of block HIF. -/
def fieldsHIF : List Fld := fieldsHIF_0 ++ fieldsHIF_1 ++ fieldsHIF_2

/-- R601. -/
def INTC_CLAIM_N_NUM : Fld := { blk := 2, off := 0x0000, lsb := 0, w := 9, acc := .ro }
/-- R601. -/
def INTC_CLAIM_F_NUM : Fld := { blk := 2, off := 0x0004, lsb := 0, w := 9, acc := .ro }
/-- R601. -/
def INTC_COMPLETE_NUM : Fld := { blk := 2, off := 0x0008, lsb := 0, w := 9, acc := .wo }
/-- R601. -/
def INTC_STATUS_INSVC_N : Fld := { blk := 2, off := 0x0010, lsb := 0, w := 9, acc := .ro }
/-- R601. -/
def INTC_STATUS_REQ_N : Fld := { blk := 2, off := 0x0010, lsb := 9, w := 1, acc := .ro }
/-- R601. -/
def INTC_STATUS_INSVC_F : Fld := { blk := 2, off := 0x0010, lsb := 16, w := 9, acc := .ro }
/-- R601. -/
def INTC_STATUS_REQ_F : Fld := { blk := 2, off := 0x0010, lsb := 25, w := 1, acc := .ro }
/-- R601. -/
def INTC_FLAGS_BAD_COMPLETE : Fld := { blk := 2, off := 0x0014, lsb := 0, w := 1, acc := .w1c }
/-- R601. -/
def INTC_FLAGS_MERGED : Fld := { blk := 2, off := 0x0014, lsb := 1, w := 1, acc := .w1c }
/-- R601. -/
def INTC_MERGE_CNT_CNT : Fld := { blk := 2, off := 0x0018, lsb := 0, w := 16, acc := .cnt }
/-- R601. -/
def INTC_BAD_CNT_CNT : Fld := { blk := 2, off := 0x001C, lsb := 0, w := 16, acc := .cnt }
/-- R601. -/
def INTC_PEND_PEND : Fld := { blk := 2, off := 0x0100, lsb := 0, w := 32, acc := .ro, stride := 0x4, n := 16 }
/-- R601. -/
def INTC_PEND_SET_SET : Fld := { blk := 2, off := 0x0140, lsb := 0, w := 32, acc := .w1s, stride := 0x4, n := 16 }
/-- R601. -/
def INTC_PEND_CLR_CLR : Fld := { blk := 2, off := 0x0180, lsb := 0, w := 32, acc := .w1c, stride := 0x4, n := 16 }
/-- R601. -/
def INTC_SRC_EN : Fld := { blk := 2, off := 0x1000, lsb := 0, w := 1, acc := .rw, stride := 0x4, n := 512 }
/-- R601. -/
def INTC_SRC_CLASS : Fld := { blk := 2, off := 0x1000, lsb := 1, w := 1, acc := .rw, stride := 0x4, n := 512 }
/-- R601. -/
def INTC_SRC_TYPE : Fld := { blk := 2, off := 0x1000, lsb := 2, w := 1, acc := .rwExt, stride := 0x4, n := 512 }
/-- R601. -/
def INTC_SRC_POL : Fld := { blk := 2, off := 0x1000, lsb := 3, w := 1, acc := .rwExt, stride := 0x4, n := 512 }
/-- R601. -/
def INTC_SRC_FILT : Fld := { blk := 2, off := 0x1000, lsb := 4, w := 8, acc := .rwExt, stride := 0x4, n := 512, reset := 3 }
/-- R601. -/
def INTC_SRC_PEND : Fld := { blk := 2, off := 0x1000, lsb := 16, w := 1, acc := .ro, stride := 0x4, n := 512 }
/-- R601. -/
def INTC_SRC_INSVC : Fld := { blk := 2, off := 0x1000, lsb := 17, w := 1, acc := .ro, stride := 0x4, n := 512 }
/-- R601. -/
def INTC_SRC_EXT : Fld := { blk := 2, off := 0x1000, lsb := 18, w := 1, acc := .ro, stride := 0x4, n := 512 }

/-- Fields of block INTC, part 0. -/
def fieldsINTC_0 : List Fld :=
  [INTC_CLAIM_N_NUM, INTC_CLAIM_F_NUM, INTC_COMPLETE_NUM, INTC_STATUS_INSVC_N,
   INTC_STATUS_REQ_N, INTC_STATUS_INSVC_F, INTC_STATUS_REQ_F, INTC_FLAGS_BAD_COMPLETE,
   INTC_FLAGS_MERGED, INTC_MERGE_CNT_CNT, INTC_BAD_CNT_CNT, INTC_PEND_PEND,
   INTC_PEND_SET_SET, INTC_PEND_CLR_CLR, INTC_SRC_EN, INTC_SRC_CLASS,
   INTC_SRC_TYPE, INTC_SRC_POL, INTC_SRC_FILT, INTC_SRC_PEND,
   INTC_SRC_INSVC, INTC_SRC_EXT]
/-- Every field of block INTC. -/
def fieldsINTC : List Fld := fieldsINTC_0

/-- R532. -/
def LADLE_CTRL_EN : Fld := { blk := 3, off := 0x0000, lsb := 0, w := 1, acc := .rw }
/-- R532. -/
def LADLE_CTRL_MODE : Fld := { blk := 3, off := 0x0000, lsb := 1, w := 2, acc := .ro, reset := 2 }
/-- R532. -/
def LADLE_STATUS_INFLIGHT : Fld := { blk := 3, off := 0x0004, lsb := 0, w := 9, acc := .ro }
/-- R532. -/
def LADLE_STATUS_READY : Fld := { blk := 3, off := 0x0004, lsb := 16, w := 9, acc := .ro }
/-- R532. -/
def LADLE_STATUS_OPEN : Fld := { blk := 3, off := 0x0004, lsb := 25, w := 1, acc := .ro }
/-- R532. -/
def LADLE_FLAGS_FAULT : Fld := { blk := 3, off := 0x0008, lsb := 0, w := 1, acc := .w1c }
/-- R532. -/
def LADLE_FLAGS_OVERRUN : Fld := { blk := 3, off := 0x0008, lsb := 1, w := 1, acc := .w1c }
/-- R532. -/
def LADLE_FLAGS_DEADLINE : Fld := { blk := 3, off := 0x0008, lsb := 2, w := 1, acc := .w1c }
/-- R532. -/
def LADLE_FLAGS_GRAPH_LATE : Fld := { blk := 3, off := 0x0008, lsb := 3, w := 1, acc := .w1c }
/-- R532. -/
def LADLE_FLAGS_UNDERFLOW : Fld := { blk := 3, off := 0x0008, lsb := 4, w := 1, acc := .w1c }
/-- R532. -/
def LADLE_FLAGS_FULL : Fld := { blk := 3, off := 0x0008, lsb := 5, w := 1, acc := .w1c }
/-- R532. -/
def LADLE_FLAGS_LONG_WAIT : Fld := { blk := 3, off := 0x0008, lsb := 6, w := 1, acc := .w1c }
/-- R532. -/
def LADLE_CFG_BE_LIM : Fld := { blk := 3, off := 0x000C, lsb := 0, w := 24, acc := .rwlCfg, reset := 25600, chk := .range 1 16777215 }
/-- R532. -/
def LADLE_LOAD_LOAD : Fld := { blk := 3, off := 0x0010, lsb := 0, w := 16, acc := .ro }
/-- R532. -/
def LADLE_TPL_ADDR_ADDR : Fld := { blk := 3, off := 0x0014, lsb := 0, w := 32, acc := .ro }
/-- R532. -/
def LADLE_STAT_ADDR_ADDR : Fld := { blk := 3, off := 0x0018, lsb := 0, w := 32, acc := .ro }
/-- R532. -/
def LADLE_GRAPH_NITEMS : Fld := { blk := 3, off := 0x001C, lsb := 0, w := 9, acc := .ro }
/-- R532. -/
def LADLE_GRAPH_NCNT : Fld := { blk := 3, off := 0x001C, lsb := 16, w := 13, acc := .ro }
/-- R532. -/
def LADLE_GRAPH_CYC_CYC : Fld := { blk := 3, off := 0x0020, lsb := 0, w := 32, acc := .ro }
/-- R532. -/
def LADLE_FAULT_CNT_CNT : Fld := { blk := 3, off := 0x0024, lsb := 0, w := 16, acc := .cnt }
/-- R532. -/
def LADLE_LATE_CNT_CNT : Fld := { blk := 3, off := 0x0028, lsb := 0, w := 16, acc := .cnt }
/-- R532. -/
def LADLE_UNDER_CNT_CNT : Fld := { blk := 3, off := 0x002C, lsb := 0, w := 16, acc := .cnt }
/-- R532. -/
def LADLE_FULL_CNT_CNT : Fld := { blk := 3, off := 0x0030, lsb := 0, w := 16, acc := .cnt }
/-- R532. -/
def LADLE_SUB_STAT_SEQ : Fld := { blk := 3, off := 0x0120, lsb := 0, w := 8, acc := .ro }
/-- R532. -/
def LADLE_SUB_STAT_RESULT : Fld := { blk := 3, off := 0x0120, lsb := 8, w := 3, acc := .ro }
/-- R532. -/
def LADLE_CNT_IDX_IDX : Fld := { blk := 3, off := 0x0200, lsb := 0, w := 12, acc := .rw }
/-- R532. -/
def LADLE_CNT_VAL_VAL : Fld := { blk := 3, off := 0x0204, lsb := 0, w := 16, acc := .rw }
/-- R532. -/
def LADLE_CNT_DEC_N : Fld := { blk := 3, off := 0x0208, lsb := 0, w := 16, acc := .wo }
/-- R532. -/
def LADLE_CORE_DEPTH_DEPTH : Fld := { blk := 3, off := 0x1000, lsb := 0, w := 9, acc := .ro, stride := 0x20, n := 32 }
/-- R532. -/
def LADLE_CORE_LOAD_LOAD : Fld := { blk := 3, off := 0x1004, lsb := 0, w := 16, acc := .ro, stride := 0x20, n := 32 }
/-- R532. -/
def LADLE_CORE_BUSY_ITEM : Fld := { blk := 3, off := 0x1008, lsb := 0, w := 16, acc := .ro, stride := 0x20, n := 32, reset := 65535 }
/-- R532. -/
def LADLE_CORE_BUSY_RSV : Fld := { blk := 3, off := 0x1008, lsb := 16, w := 1, acc := .ro, stride := 0x20, n := 32 }
/-- R532. -/
def LADLE_CORE_LONG_CNT_CNT : Fld := { blk := 3, off := 0x100C, lsb := 0, w := 16, acc := .cnt, stride := 0x20, n := 32 }
/-- R532. -/
def LADLE_CORE_DISP_CNT_CNT : Fld := { blk := 3, off := 0x1010, lsb := 0, w := 32, acc := .cnt, stride := 0x20, n := 32 }
/-- R532. -/
def LADLE_CORE_WAIT_MAX_MAX : Fld := { blk := 3, off := 0x1014, lsb := 0, w := 24, acc := .cnt, stride := 0x20, n := 32 }
/-- R532. -/
def LADLE_HIST_CNT : Fld := { blk := 3, off := 0x2000, lsb := 0, w := 32, acc := .cnt, stride := 0x4, n := 512 }

/-- Fields of block LADLE, part 0. -/
def fieldsLADLE_0 : List Fld :=
  [LADLE_CTRL_EN, LADLE_CTRL_MODE, LADLE_STATUS_INFLIGHT, LADLE_STATUS_READY,
   LADLE_STATUS_OPEN, LADLE_FLAGS_FAULT, LADLE_FLAGS_OVERRUN, LADLE_FLAGS_DEADLINE,
   LADLE_FLAGS_GRAPH_LATE, LADLE_FLAGS_UNDERFLOW, LADLE_FLAGS_FULL, LADLE_FLAGS_LONG_WAIT,
   LADLE_CFG_BE_LIM, LADLE_LOAD_LOAD, LADLE_TPL_ADDR_ADDR, LADLE_STAT_ADDR_ADDR,
   LADLE_GRAPH_NITEMS, LADLE_GRAPH_NCNT, LADLE_GRAPH_CYC_CYC, LADLE_FAULT_CNT_CNT,
   LADLE_LATE_CNT_CNT, LADLE_UNDER_CNT_CNT, LADLE_FULL_CNT_CNT, LADLE_SUB_STAT_SEQ,
   LADLE_SUB_STAT_RESULT, LADLE_CNT_IDX_IDX, LADLE_CNT_VAL_VAL, LADLE_CNT_DEC_N,
   LADLE_CORE_DEPTH_DEPTH, LADLE_CORE_LOAD_LOAD, LADLE_CORE_BUSY_ITEM, LADLE_CORE_BUSY_RSV,
   LADLE_CORE_LONG_CNT_CNT, LADLE_CORE_DISP_CNT_CNT, LADLE_CORE_WAIT_MAX_MAX, LADLE_HIST_CNT]
/-- Every field of block LADLE. -/
def fieldsLADLE : List Fld := fieldsLADLE_0

/-- R561. -/
def CORE_KTAB_ADDR_ADDR : Fld := { blk := 4, off := 0x0000, lsb := 5, w := 27, acc := .rwlCfg }
/-- R561. -/
def CORE_RUN_RUN : Fld := { blk := 4, off := 0x0004, lsb := 0, w := 32, acc := .ro }
/-- R561. -/
def CORE_FLAGS_FAULT : Fld := { blk := 4, off := 0x0008, lsb := 0, w := 1, acc := .w1c }
/-- R561. -/
def CORE_FLAGS_DOUBLE : Fld := { blk := 4, off := 0x0008, lsb := 1, w := 1, acc := .w1c }
/-- R561. -/
def CORE_FAULT_CNT_CNT : Fld := { blk := 4, off := 0x000C, lsb := 0, w := 16, acc := .cnt }
/-- R561. -/
def CORE_FSTAT_CAUSE : Fld := { blk := 4, off := 0x0100, lsb := 0, w := 3, acc := .ro, stride := 0x10, n := 32 }
/-- R561. -/
def CORE_FSTAT_KERNEL : Fld := { blk := 4, off := 0x0100, lsb := 16, w := 10, acc := .ro, stride := 0x10, n := 32 }
/-- R561. -/
def CORE_FPC_PC : Fld := { blk := 4, off := 0x0104, lsb := 0, w := 15, acc := .ro, stride := 0x10, n := 32 }
/-- R561. -/
def CORE_FADDR_ADDR : Fld := { blk := 4, off := 0x0108, lsb := 0, w := 32, acc := .ro, stride := 0x10, n := 32 }

/-- Fields of block CORE, part 0. -/
def fieldsCORE_0 : List Fld :=
  [CORE_KTAB_ADDR_ADDR, CORE_RUN_RUN, CORE_FLAGS_FAULT, CORE_FLAGS_DOUBLE,
   CORE_FAULT_CNT_CNT, CORE_FSTAT_CAUSE, CORE_FSTAT_KERNEL, CORE_FPC_PC,
   CORE_FADDR_ADDR]
/-- Every field of block CORE. -/
def fieldsCORE : List Fld := fieldsCORE_0

end Sys2Proof.Machine
end

