-- ==== Sys2Proof/Machine/State.lean ====
section
/-! DEFINITION. The state of the block as plain data: the register file, memory, and block by block what the spec gives it
beside its registers; the queue of waiting commands; the state after reset; the reasons of a stop. -/

namespace Sys2Proof.Machine

/-- The lock bits of SYS_LOCK (00 R18). They stand apart from the register file: no register write reaches them. -/
structure Locks where
  cfg : Bool := false
  lim : Bool := false
  sch : Bool := false
  deriving DecidableEq, Repr

/-- An event (03 R93) without the bits that its ring position gives. -/
structure Ev where
  code : Nat := 0
  kind : Nat := 0
  id : Nat := 0
  detail : Nat := 0
  cycle : Nat := 0
  offset : Nat := 0
  cls : Nat := 0
  deriving DecidableEq, Repr

/-- A reaction requested by a fault source (00 R22, R23): class, scope kind and scope. A `late` one, of an axis fault, is
executed by the Runner from its next snapshot on (09 R290). -/
structure React where
  cls : Nat := 0
  kind : Nat := 0
  id : Nat := 0
  late : Bool := false
  deriving DecidableEq, Repr

/-- A finished job whose completion entry is not written yet (03 R90). `effect` is the cycle whose commit the entry waits
for (03 R103); a quiet one has no entry on success (NO_COMPL). -/
structure Compl where
  ring : Nat := 0
  head : Nat := 0
  tag : Nat := 0
  /-- Number and target block of the job (R88). -/
  num : Nat := 0
  blk : Nat := 0
  result : Nat := 0
  status : Nat := 0
  effect : Option Nat := none
  quiet : Bool := false
  /-- DETAIL that a table of codes gives a failure; the 16 B entry has no place for it (entry 88). -/
  detail : Nat := 0
  deriving DecidableEq, Repr

/-- An in-stream block in the working store (03 R97). -/
structure InBlock where
  ring : Nat := 0
  cycle : Nat := 0
  els : List StreamEl := []
  deriving DecidableEq, Repr

/-- HIF (03) beside its registers. -/
structure HifSt where
  cfgLoaded : Bool := false
  /-- MSI-X table word d of vector v under key 4 v + d; the mask word reads 1 after reset. -/
  msix : Sparse Nat := []
  /-- Pending-bit array, bit v for vector v. -/
  pba : Nat := 0
  /-- Entries pending per vector (R102). -/
  pend : Sparse Nat := []
  /-- Rings on an odd pass: PHASE 0 (R91); key 64 kind + ring. -/
  phase0 : List Nat := []
  /-- Event rings whose next entry has LOST (R95). -/
  lost : List Nat := []
  held : List (Nat × Ev) := []
  inflight : List Job := []
  compl : List Compl := []
  /-- DELETE_RING jobs waiting for the last job of their command ring (R107): ring and completion. -/
  deleting : List (Nat × Compl) := []
  lostCycles : Sparse Nat := []
  blocks : List InBlock := []
  /-- Newest cycle that a snapshot has taken (02 R63). -/
  snapped : Option Nat := none
  latched : List Nat := []
  gone : Bool := false
  /-- Command ring served last in each PRIO, 15 where none has been (R89). -/
  lastRing : Sparse Nat := []
  /-- Descriptors fetched so far: the number of the next job. -/
  num : Nat := 0
  /-- PERST# is asserted; the function is in D3hot; Max_Payload_Size and Max_Read_Request_Size codes as the host has set them (R78). -/
  perstLow : Bool := false
  d3 : Bool := false
  mps : Nat := 0
  mrrs : Nat := 2
  /-- Command register: bit 1 memory space, bit 2 bus master; MSI-X message control: bit 15 enable, bit 14 function mask; the registers of
  Advanced Error Reporting that hold something else than after a fundamental reset (R78, entry 79). -/
  cmd : Nat := 0
  msixCtl : Nat := 0
  aer : Sparse Nat := []
  deriving DecidableEq, Repr

/-- A PTP message that leaves an Ethernet port (14 R413): its type, domain number and sequence number, its time value in 2^-16 ns, and the
priority vector of an Announce. -/
structure PtpMsg where
  port : Nat := 0
  typ : Nat := 0
  domain : Nat := 0
  seq : Nat := 0
  time : Int := 0
  vec : List Nat := []
  deriving DecidableEq, Repr

/-- What leaves the block: writes to host memory (address, bytes), MSI-X messages (vector, address, data), sideband
records, frames, pulses. -/
structure Outs where
  host : List (Nat × List Nat) := []
  msgs : List (Nat × Nat × Nat) := []
  sideband : List (List Nat) := []
  /-- Twira and pair-link frames: port and code-groups after /S/ to the last CRC byte. A frame that a node has cut goes on with its end:
  the control code-groups /V/, /T/, /R/, /R/, each 256 above its octet. -/
  frames : List (Nat × List Nat) := []
  /-- Content of asynchronous slots: handle, requests, answers. -/
  async : List (Nat × List AsyncReq × List AsyncAns) := []
  ptp : List PtpMsg := []
  /-- Pulses of timed outputs and of the Tap: output, first edge, last edge. -/
  pulses : List (Nat × Nat × Nat) := []
  /-- What the last read of a register or of a BAR answered, with the poison marker; the answer to the last configuration request,
  none for Configuration Request Retry Status. -/
  answer : Nat × Bool := (0, false)
  cfgAnswer : Option Nat := none
  deriving DecidableEq, Repr

/-- INTC (21) beside its registers: pending sources, the source in service of each class, external lines whose
accepted level is high (R589). -/
structure IntcSt where
  pend : List Nat := []
  insvN : Nat := 0
  insvF : Nat := 0
  extHigh : List Nat := []
  deriving DecidableEq, Repr

/-- A work item (18 R514); `succs` holds the successors of its EXT entries too. -/
structure Item where
  kind : Nat := 0
  rsv : Bool := false
  prio : Nat := 0
  target : Nat := 0
  affinity : Nat := 0
  cnt : Option Nat := none
  init : Option Nat := none
  succs : List Nat := []
  arg : Nat := 0
  runLim : Nat := 0
  dl : Nat := 0
  home : Nat := 0
  deriving DecidableEq, Repr

/-- Where an item in flight stands. -/
inductive ItemAt where
  | waiting
  /-- Ready, with the order number and the tick of its becoming ready. -/
  | ready (ord tick : Nat)
  /-- Handed to the Crucible or the Runner. -/
  | handed
  /-- Running on a core since a tick. -/
  | running (core since : Nat)
  deriving DecidableEq, Repr

/-- An item in flight (18 R527): its graph index or 0xFFFE, the cycle of its instance or acceptance, whether it belongs to
a graph instance, the instant of its deadline, whether its dispatch was an unbounded one (R76), and a number of its own. -/
structure Flight where
  num : Nat := 0
  idx : Nat := 0
  it : Item := {}
  graph : Bool := false
  cycle : Nat := 0
  dlAt : Option Nat := none
  st : ItemAt := .waiting
  unb : Bool := false
  deriving DecidableEq, Repr

/-- LADLE (18) beside its registers. -/
structure LadleSt where
  tpl : List Item := []
  sub : List Item := []
  cnt : Sparse Nat := []
  isOpen : Bool := false
  cycle : Nat := 0
  items : List Flight := []
  ord : Nat := 0
  num : Nat := 0
  /-- The instance of the current cycle has opened; a long wait has been reported in it. -/
  opened : Bool := false
  longSaid : Bool := false
  /-- Busy ticks of each core in the current cycle and in the last 64 cycles. -/
  busyNow : Sparse Nat := []
  busyPast : Sparse (List Nat) := []
  deriving DecidableEq, Repr

/-- A complex accumulator (19 R535), each part in the signed 80-bit range. -/
structure AccV where
  re : Int := 0
  im : Int := 0
  deriving DecidableEq, Repr

/-- The registers that the fast class banks (19 R555); every unlisted register holds 0. -/
structure Bank where
  x : Sparse (BitVec 64) := []
  p : Sparse (BitVec 32) := []
  m : Sparse (BitVec 32) := []
  s : Sparse (BitVec 6) := []
  ovf : Bool := false
  aovf : Bool := false
  lc : BitVec 32 := 0
  ls : BitVec 32 := 0
  le : BitVec 32 := 0
  deriving DecidableEq, Repr

/-- A core (19 R535): the registers, the program counter, whether an item runs on it with what its kernel entry gives (USER flag and
write windows) and number, and the other bank (supervisor only). -/
structure CoreSt where
  b : Bank := {}
  acc : Sparse AccV := []
  pc : BitVec 32 := 0
  busy : Bool := false
  item : Nat := 0xFFFF
  user : Bool := false
  win : List (Nat × Nat) := []
  deriving DecidableEq, Repr

/-- The supervisor's privileged state (19 R554). -/
structure SupSt where
  userMode : Bool := false
  pUser : Bool := false
  nie : Bool := false
  fie : Bool := false
  inN : Bool := false
  inF : Bool := false
  xcause : Nat := 0
  xdata : BitVec 32 := 0
  xbase : BitVec 32 := 0
  nra : BitVec 32 := 0
  fra : BitVec 32 := 0
  /-- UREG_BASE_k at 2 k, UREG_LIM_k at 2 k + 1. -/
  ureg : Sparse (BitVec 32) := []
  /-- The bank not in use (R555). -/
  other : Bank := {}
  /-- Stalled by IDLE (21 R598). -/
  idle : Bool := false
  /-- Cell time of the reset, in core cycles (R553). -/
  t0 : Nat := 0
  deriving DecidableEq, Repr

/-- MEM (22) beside its registers. Words are named by key: their address, or 2^40 plus the offset for region 5. Poisoned
words, words with bits in error and their positions, the error log of 16 B records, write-backs due, the regions whose
threshold notice stands; a scrub pass late, a pass ended that waits for its period. -/
structure MemSt where
  poison : List Nat := []
  flips : List (Nat × List Nat) := []
  log : List (List Nat) := []
  due : List Nat := []
  thrSaid : List Nat := []
  late : Bool := false
  ended : Bool := false
  /-- Words of the schedule memory whose data is not what was written, by key: the bits that differ (12 R364). -/
  xor : Sparse Nat := []
  deriving DecidableEq, Repr

/-- TEST (25) beside its registers: the key sequence (writes taken, port and instant of the last), the units in effect,
events seen and actions made by each unit since its start, an ECC error waiting for the next word of a port. -/
structure TestSt where
  step : Nat := 0
  port : Nat := 0
  at_ : Nat := 0
  seen : Sparse Nat := []
  acts : Sparse Nat := []
  fab : List (Nat × List Nat) := []
  /-- The rate offset that unit TIME adds to y, in 2^-32 (R671). -/
  rate : Int := 0
  deriving DecidableEq, Repr

/-- JTAG instructions (24 R660). -/
inductive Jtag where
  | bypass | idcode | samplePreload | extest
  deriving DecidableEq, Repr

/-- JTAG (24 R660): the instruction in force, the data register last captured, the boundary-scan cells. -/
structure JtagSt where
  ins : Jtag := .bypass
  dr : Nat := 0
  cells : List JPin := []
  deriving DecidableEq, Repr

/-- SYS beside its registers (23): fault log, watchdog, stop, resets and recovery pending, outputs held, domains in
transition and their direction, block under reset and its job, boot. -/
structure SysSt where
  flog : List Ev := []
  wdtOn : Bool := false
  /-- Cell time at which the watchdog period in progress began. -/
  wdtAt : Nat := 0
  /-- PER has been written by base firmware (R634). -/
  wdtSet : Bool := false
  stopped : Option Nat := none
  chipRst : Option Nat := none
  inReset : Bool := true
  /-- Gate outputs and Twira and pair-link ports held by SYS (R618, R633). -/
  clamp : Bool := true
  alert : Bool := false
  sideCode : Nat := 0
  sideDetail : Nat := 0
  trans : List (Nat × Bool) := []
  resetting : List (Nat × Compl) := []
  /-- Firmware copy to try next: 0 A, 1 B, 2 none left; waiting for the image over PCIe (R628). -/
  bootTries : Nat := 0
  pcie : Bool := false
  /-- Key hashes of the fuses by slot (R627). -/
  hash : List (List Nat) := []
  /-- No insertion by this node after a supervisor stop (R635). -/
  mute : Bool := false
  deriving DecidableEq, Repr

/-- Cell time and the cell cycle (02): cell time in ticks, the cycle number, the tick of its t = 0, the length code in force
and a change agreed, whether the custom phase plan governs, whether the snapshot of the cycle has been taken and its
commit has been made, whether a step of cell time has truncated it. -/
structure CycSt where
  now : Nat := 0
  n : Nat := 0
  start : Nat := 0
  lenCode : Nat := 1
  custom : Bool := false
  snapped : Bool := false
  committed : Bool := false
  skip : Bool := false
  /-- A worker of a network has integrated: its cycle machinery, stopped since reset, runs (13 R394). -/
  started : Bool := false
  /-- Custom phase starts in force; the new length has been taken and the other actions of its boundary are due (02 R678). -/
  starts : List Nat := []
  pre : Bool := false
  deriving DecidableEq, Repr

/-- A cell axis (04 R127). -/
structure AxisRec where
  axis : Nat := 0
  node : Nat := 0
  slot : Nat := 0
  feedback : Nat := 0
  num : Int := 0
  den : Nat := 1
  shift : Int := 0
  group : Nat := 0
  kind : Nat := 0
  home : Int := 0
  deriving DecidableEq, Repr

/-- A motion group (04 R119). -/
structure GroupRec where
  group : Nat := 0
  kind : Nat := 0
  chain : Nat := 0xFF
  set : Nat := 0xFF
  axes : Nat := 0
  cfg : Nat := 0
  kt : Nat := 0
  ovr : Nat := 0
  toolOrigin : List Int := []
  toolRot : List Int := []
  deriving DecidableEq, Repr

/-- A coupled set (04 R119). -/
structure SetRec where
  lead : Nat := 0
  omask : Nat := 0
  gmask : Nat := 0
  deriving DecidableEq, Repr

/-- Limits of a cell axis (04 R119). -/
structure AxLim where
  axis : Nat := 0
  vmax : Nat := 0
  amax : Nat := 0
  jmax : Nat := 0
  deriving DecidableEq, Repr

/-- A reaction record (04 R122). -/
structure ReacRec where
  code : Nat := 0
  cls : Nat := 0
  scope : Nat := 0
  index : Nat := 0
  groups : Nat := 0
  deriving DecidableEq, Repr

/-- An entry of the ownership map (04 R123, R145): a static one, or a dynamic claim. -/
structure OwnRec where
  kind : Nat := 0
  inst : Nat := 0
  node : Nat := 0
  func : Nat := 0
  arg : Nat := 0
  setup : List Nat := []
  deriving DecidableEq, Repr

/-- A node of the cell (04 R118). -/
structure NodeRec where
  node : Nat := 0
  role : Nat := 0
  lines : Nat := 0
  pos : Nat := 0
  flags : Nat := 0
  partLen : Nat := 0
  partCrc : Nat := 0
  deriving DecidableEq, Repr

/-- A joint (04 R131): type, parent, cell axis, travel. The other bytes stay in the image. -/
structure JointRec where
  chain : Nat := 0
  typ : Nat := 0
  parent : Nat := 0
  axis : Nat := 0
  qMin : Int := 0
  qMax : Int := 0
  deriving DecidableEq, Repr

/-- A format entry (04 R134). -/
structure FmtRec where
  var : Nat := 0
  shift : Nat := 0
  lo : Int := 0
  hi : Int := 0
  deriving DecidableEq, Repr

/-- A limit input of the model (04 R119). -/
structure LimRec where
  node : Nat := 0
  slot : Nat := 0
  cfg : Nat := 0
  margin : Nat := 0
  deriving DecidableEq, Repr

/-- A slot entry of the Twira schedule (12 R363); bit k of `rx` says that node k stores the frame. -/
structure SchedEnt where
  mode : Nat := 0
  line : Nat := 0
  ch : Nat := 0
  slot : Nat := 0
  kind : Nat := 0
  gev : Nat := 0
  start : Nat := 0
  plen : Nat := 0
  owner : Nat := 0
  rx : Nat := 0
  deriving DecidableEq, Repr

/-- The Mould (04): the model in force, parsed at load, and the ownership map with its dynamic claims. The stored image
itself is memory from 0x1000_0000. -/
structure MouldSt where
  loaded : Bool := false
  image : List Nat := []
  modelId : Nat := 0
  config : Nat := 0
  cellLen : Nat := 1
  features : Nat := 0
  nodes : List NodeRec := []
  axes : List AxisRec := []
  groups : List GroupRec := []
  sets : List SetRec := []
  axLims : List AxLim := []
  joints : List JointRec := []
  formats : List FmtRec := []
  reacs : List ReacRec := []
  setMap : List Nat := []
  owners : List OwnRec := []
  claims : List OwnRec := []
  lims : List LimRec := []
  linkDlyMax : List Nat := []
  /-- Base pose of each chain: ORIGIN, then ROT. -/
  bases : List (List Int) := []
  /-- The loader's report of R70: each cell axis whose encoder transfer exceeds 9.400 µs, with the resulting bound in ticks. -/
  latency : List (Nat × Nat) := []
  deriving DecidableEq, Repr

/-- A domain instance (14 R416): the grandmaster selected with its priority vector, the last 16 Sync as (cell time, REF_CLK
time in 2^-32 ticks, PTP time in 2^-16 ns), Sync within LOCK_THR in a row, Sync at which the Y_MAX clamp acted in a row, O_d in 2^-16 ns and r_d - 1 in 2^-32,
a Sync waiting for its Follow_Up as (sequence, stamp, REF_CLK time of the stamp). -/
structure DomSt where
  gm : Option Nat := none
  vec : List Nat := []
  samples : List (Int × Int × Int) := []
  good : Nat := 0
  clamped : Nat := 0
  ofs : Int := 0
  rate : Int := 0
  wait : Option (Nat × Int × Int) := none
  deriving DecidableEq, Repr

/-- A timed output's set-up (14 R423). -/
structure OutSet where
  mode : Nat := 0
  pol : Bool := false
  group : Nat := 0
  order : Nat := 0xFF
  start : Int := 0
  period : Nat := 0
  width : Nat := 0
  count : Nat := 0
  deriving DecidableEq, Repr

/-- A timed output (14): the set-up in force and the one that waits for its instant, the pulses due as (start, width), the
pulses left of a counted train, the last edge, the end of the pulse in progress, whether it is released after it, whether its level at
rest is high. -/
structure OutSt where
  set : OutSet := {}
  next : Option (OutSet × Nat) := none
  due : List (Nat × Nat) := []
  left : Nat := 0
  lastEdge : Option Nat := none
  ending : Bool := false
  rest : Bool := false
  deriving DecidableEq, Repr

/-- TIME (14) beside its registers. -/
structure TimeSt where
  doms : Sparse DomSt := []
  /-- Rate set by the servo for the next boundary, and the last 16 rates applied. -/
  yNext : Option Int := none
  yHist : List Int := []
  target : Option Nat := none
  /-- Cell time has been loaded (networked worker). -/
  valid : Bool := false
  /-- No time-reference marker before this instant (R431). -/
  markerFrom : Nat := 0
  outs : Sparse OutSt := []
  /-- Capture queues, head first: stamp and falling edge; inputs in a run of drops. -/
  caps : Sparse (List (Nat × Bool)) := []
  dropping : List Nat := []
  /-- Peer delay measurement per Ethernet port: sequence and departure of the request, mean link delay in 2^-16 ns. -/
  req : Sparse (Nat × Int) := []
  delay : Sparse Int := []
  /-- The peer's departure and the arrival here of the last answered request, per Ethernet port, in 2^-16 ns (R413). -/
  nbr : Sparse (Option (Int × Int)) := []
  seq : Nat := 0
  /-- Cell time less REF_CLK time at the start of the cycle, in 2^-32 ticks. -/
  yInt : Int := 0
  /-- DOMAIN_SELECT jobs that wait for the switch (R420). -/
  jobs : List Compl := []
  deriving DecidableEq, Repr

/-- A slot's buffers (12 R375, R378): `cur` the VIEW, or the buffer being sent; `nxt` LAST, or PUB; whether `nxt` is newer
than `cur`; header CYCLE, AGE and STALE of both; whether the last view was fresh; the AGE last sent; the occurrence up to which misses
have been counted, and the frames stored since. -/
structure SlotSt where
  cur : Option Nat := none
  nxt : Option Nat := none
  isNew : Bool := false
  nxtHdr : Nat × Nat × Bool := (0, 0, false)
  curHdr : Nat × Nat × Bool := (0, 0, false)
  wasFresh : Bool := false
  sentAge : Nat := 0
  acct : Option Nat := none
  got : Nat := 0
  /-- The slot has been sent in the current cycle. -/
  sent : Option Nat := none
  deriving DecidableEq, Repr

/-- A Twira port (13 R383 to R386): LINK frames passed in a row, delay samples in 1/4 ticks, T_TX and arrival of the last
LINK frame, the refusal reported, the /S/ of the last frame forwarded in LISTEN (R389), a link lost before, a link that must not yet carry traffic
(R407). -/
structure PortSt where
  run : Nat := 0
  samples : List Int := []
  echoTx : Nat := 0
  echoRx : Nat := 0
  refused : Nat := 0
  lastFwd : Option Nat := none
  again : Bool := false
  blocked : Bool := false
  deriving DecidableEq, Repr

/-- A mode exchange of the active manager (12 R367, 13 R404): target, switch cycle, cycle a, acknowledgements, COMMIT or ABORT
decided, whether it is the switch of R404, its job. -/
structure Exch where
  m : Nat := 0
  s : Nat := 0
  a : Nat := 0
  acks : List Nat := []
  op : Nat := 1
  start : Bool := false
  job : Option Compl := none
  deriving DecidableEq, Repr

/-- A node found by the walk of a line (13 R399). -/
structure Found where
  node : Nat := 0
  near : Nat := 0xFF
  far : Nat := 0xFF
  dNear : Nat := 0
  dFar : Nat := 0
  ok : Bool := false
  deriving DecidableEq, Repr

/-- Discovery and download of one line on the active manager (13 R399 to R403): 0 not begun, 1 walking, 2 line table due,
3 download, 4 done; the next target, the nodes found, the workers still to download, the segment due, workers locked and
failed, the node named in CFG or POLL of the cycle. -/
structure LineSt where
  step : Nat := 0
  target : Nat := 0xFF
  found : List Found := []
  queue : List Nat := []
  seg : Nat := 0
  locked : List Nat := []
  failed : List Nat := []
  cfgNode : Option Nat := none
  pollNode : Option Nat := none
  since : Nat := 0
  deriving DecidableEq, Repr

/-- The configuration part that a worker receives (13 R403): length and CRC announced, segments held, STATE, status code and
DETAIL, CFG_ACK due. -/
structure PartSt where
  total : Nat := 0
  crc : Nat := 0
  bytes : List Nat := []
  st : Nat := 0
  code : Nat := 0
  detail : Nat := 0
  deriving DecidableEq, Repr

/-- A request of the manager to workers in its ASYNC slots (09 R284): 1 enable, 2 disable, 3 injection, 4 timed output, 5 Tap;
the job, the nodes whose answers are missing, the cycle named, the cell axes, the data, whether it has been sent. -/
structure NetReq where
  kind : Nat := 0
  job : Compl := {}
  nodes : List Nat := []
  cycle : Nat := 0
  axes : Nat := 0
  data : List Nat := []
  sent : Bool := false
  deriving DecidableEq, Repr

/-- TWI (12, 13) beside its registers. -/
structure TwiSt where
  slots : Sparse SlotSt := []
  ports : Sparse PortSt := []
  /-- Slots used up at a receive port in the cycle, as port * 2048 + handle (R371). -/
  used : List Nat := []
  /-- Own insertions of the cycle: port, first and last tick. -/
  own : List (Nat × Nat × Nat) := []
  /-- Forwarded frames cut in the cycle, as in `used`, and whether by an own insertion (R372, R373). -/
  cuts : List (Nat × Bool) := []
  /-- The node has lost its mode or its reference and waits to integrate again: it forwards nothing (R369, R398). -/
  silent : Bool := false
  /-- Links carry traffic only once both ends are synchronised (R407). -/
  listenEnd : Option Nat := none
  /-- Cycle of the cold-start attempt (R392). -/
  cold : Option Nat := none
  /-- A POLL has been sent by this node (R393). -/
  polled : Bool := false
  confirms : Nat := 0
  /-- SYNC content used in this cycle: 0 none, 1 of the standby, 2 of the active manager. -/
  meas : Nat := 0
  phi : Int := 0
  rate : Int := 0
  missMeas : Nat := 0
  good : Nat := 0
  /-- Line tables stored: node IDs by position, by local line (R401); the line of a worker; the active manager a worker goes
  by and a change agreed, node and cycle (17 R504); managers seen, as the SEEN byte of 17 R505. -/
  tables : Sparse (List Nat) := []
  lineNo : Nat := 0
  activeNode : Nat := 0
  nextActive : Option (Nat × Nat) := none
  seen : Nat := 0
  outSince : Option Nat := none
  exch : Option Exch := none
  /-- ANNOUNCE received: mode and switch cycle; acknowledged; the last COMMIT or ABORT and its cycle (R369). -/
  ann : Option (Nat × Nat) := none
  acked : Bool := false
  decided : Option (Nat × Nat) := none
  lines : Sparse LineSt := []
  part : PartSt := {}
  netJob : Option Compl := none
  /-- NET_START given; waiting for PTP first lock (14 R418). -/
  started : Bool := false
  waiting : Bool := false
  reqs : List NetReq := []
  /-- Answers due of this node; δ in 1/4 ticks and RATE of the standby's SYNC frame of the cycle; a manager frame passed steps 1 to
  5 in the cycle (23 R636). -/
  answers : List AsyncAns := []
  alt : Option (Int × Int) := none
  mgrSeen : Bool := false
  /-- The AXIS_STATE payload of a cycle, assembled 160 ticks before the slot starts (12 R360). -/
  early : Option (Nat × List Nat) := none
  deriving DecidableEq, Repr

/-- An encoder port (11): the last position word, whether a valid word has come since enable, the transfer in progress as
(request tick, evaluation), the direction extreme, the valid words since the window restarted as (C, t), oldest first, the
previous valid word, whether it was changed, the last changed word, words for which REVERSAL_RECENT stays. -/
structure EncSt where
  wp : Nat := 0
  seen : Bool := false
  busy : Option (Nat × Nat) := none
  ext : Nat := 0
  hist : List (Nat × Nat) := []
  prev : Nat × Nat := (0, 0)
  prevCh : Bool := false
  lastCh : Nat × Nat := (0, 0)
  revLeft : Nat := 0
  /-- The last word of evaluation 0 failed (R360). -/
  badAt0 : Bool := false
  /-- Stamp of the word latched in SAMP; XPOS has been accepted for it (R343, 12 R360). -/
  sampT : Nat := 0
  xposOk : Bool := false
  deriving DecidableEq, Repr

/-- An axis loop engine (09): the entry taken at t = 0 with its age, a run of stale cycles; references
and measurement of the last position evaluation; the exact velocity-law output; the injection output u; the integrators of the
current law; the mechanical count with its counter and the instant of the pass; runs of supervision; requests for a coming t = 0
(enable; disable and its cause; injection); the cause of a disable in progress, that of a local stop in progress; injector phase
and shift register; faults since the last axis state record. -/
structure AxlSt where
  pos : Int := 0
  vff : Int := 0
  aff : Int := 0
  tff : Int := 0
  age : Nat := 0
  stale : Bool := false
  pRef : Int := 0
  vRef : Int := 0
  vMeas : Int := 0
  accIq : Int := 0
  u : Int := 0
  cd : Int := 0
  cq : Int := 0
  r : Nat := 0
  lastC : Nat := 0
  passT : Nat := 0
  follow : Nat := 0
  miss : Nat := 0
  enAt : Option Nat := none
  disAt : Option (Nat × Nat) := none
  ending : Option Nat := none
  stop : Option Nat := none
  injAt : Option Nat := none
  phi : Nat := 0
  lfsr : Nat := 0
  recFlags : Nat := 0
  deriving DecidableEq, Repr

/-- The limit inputs of a slot (08 R260 to R263): the clamps for LIM_P and LIM_N, the raw levels, whether the clamp's being
reached has been reported, the clamp while both are active. -/
structure LimSt where
  pos : Option Int := none
  neg : Option Int := none
  rawP : Bool := false
  rawN : Bool := false
  said : Bool := false
  both : Option Int := none
  deriving DecidableEq, Repr

/-- A gate pair (10): residue; dead-time states of the rising and the falling transition in 1/16 ticks and the applied dead
times in ticks; the commanded pulse of the period as its rise and fall ticks; the instants from which trips of action LOW and
OFF cut it; the gate transitions of the period before; runs of late transitions at the ceiling; the boundary at which its duty
transferred; the newest fast sample; the tick from which its low side may be on after the last fall; the tick at which a chopped high side
ends because the reference has changed sign (R327). -/
structure PairSt where
  res : Int := 0
  dtR : Int := 0
  dtF : Int := 0
  apR : Nat := 0
  apF : Nat := 0
  pulse : Option (Nat × Nat) := none
  lowAt : Option Nat := none
  offAt : Option Nat := none
  edges : List Nat := []
  lateR : Bool := false
  lateF : Bool := false
  dutyAt : Nat := 0
  fast : Int := 0
  /-- Chopper (R325, R326): the reference, whether the high side is commanded on, the last transition, the instant until which
  the pair keeps its state, the high-side time of the period up to `onFrom`, whether the limit has been reached, the extremes
  of the chopper cycle, whether one has begun, the reference at its start. The offset is in CHOP_OFF. -/
  ref : Int := 0
  high : Bool := false
  lastTr : Nat := 0
  hold : Nat := 0
  onTime : Nat := 0
  onFrom : Nat := 0
  limited : Bool := false
  ext : Option (Int × Int) := none
  inCyc : Bool := false
  r0 : Int := 0
  lowFrom : Nat := 0
  endAt : Option Nat := none
  deriving DecidableEq, Repr

/-- A power-stage slot (10): the cycle, index and tick of the last carrier boundary; boundaries counted; transfers that wait
(PER written, GO, duties written); the boundary at which PER transferred; a run of partial updates; the three pairs; the trip
inputs accepted and cutting in the period and their runs; gates released from the next boundary on; the prescaler's count; the
sign of the reference in force of a DC chopper; the last SYNC event whose main filter output has not come (R323); the current channels
that have failed (R324). -/
structure PwrSt where
  cyc : Option Nat := none
  idx : Nat := 0
  tick : Nat := 0
  count : Nat := 0
  perPend : Bool := false
  goPend : Bool := false
  dutyPend : Nat := 0
  perAt : Nat := 0
  partialRun : Bool := false
  pairs : Sparse PairSt := []
  acc : Nat := 0
  cutNow : Nat := 0
  runs : Sparse Nat := []
  arming : Option Nat := none
  presc : Nat := 0
  neg : Bool := false
  /-- The PER under which the carrier runs its last period, after a PER of 0 has transferred (R303). -/
  last : Option Nat := none
  /-- Last interval in which each trip input was asserted. -/
  trips : Sparse (Nat × Nat) := []
  sync : Option Nat := none
  sdFail : Nat := 0
  deriving DecidableEq, Repr

/-- An enforced fraction in steps of 1 / (65535 * 10^9) (16 R483): its value, the newest FQ, the µs at which a lower one was
taken, whether it falls and the µs up to which its fall is accounted. -/
structure FracSt where
  fe : Nat := 0
  fq : Nat := 0
  low : Option Nat := none
  falling : Bool := false
  upTo : Nat := 0
  deriving DecidableEq, Repr

/-- An axis set (15 R446 to R448, 16 R481 to R483): state code, lock-out, safety cycles since the stop began, the speeds
latched at the demand as count difference over ticks, the positions of standstill by AXES record; a worker's enforced fraction;
a manager's target FQ, its model of the worker's fraction, the FQs sent lately (newest first), the stop demanded by separation. -/
structure SetSt where
  st : Nat := 0
  lock : Bool := false
  t : Nat := 0
  v0 : Sparse (Nat × Nat) := []
  p0 : Sparse Int := []
  frac : FracSt := {}
  fq : Nat := 65535
  mdl : FracSt := {}
  sent : List Nat := []
  sep : Bool := false
  deriving DecidableEq, Repr

/-- An encoder port as the island's own receiver sees it (15 R449): last word, whether one has come, valid words of the last
cycles as (extended position, stamp), newest first, and those of them that the last cycle start froze (R438); whether one came since
then; cycles without one; a fault standing. -/
structure ObsSt where
  wp : Nat := 0
  seen : Bool := false
  words : List (Int × Int) := []
  held : List (Int × Int) := []
  new : Bool := false
  miss : Nat := 0
  bad : Bool := false
  deriving DecidableEq, Repr

/-- A receive connection (15 R452): the frame content last used, consecutive misses, whether a valid frame has come. -/
structure ConnSt where
  used : List Nat := []
  miss : Nat := 0
  ever : Bool := false
  said : Bool := false
  late : Nat := 0
  deriving DecidableEq, Repr

/-- A Helanane port (16 R477): frames arrived (first byte's instant and bytes), the points taken in cell frame with their
uncertainty, the last SEQ used, cycles without a frame, whether it is lost, a bad frame since the last good one, frames with STATE 1
and frames missed by gaps in SEQ. -/
structure SensSt where
  rx : List (Nat × List Nat) := []
  pts : List (List Int × Nat) := []
  seq : Option Nat := none
  miss : Nat := 0
  lost : Bool := false
  badRx : Bool := false
  warns : Nat := 0
  gaps : Nat := 0
  deriving DecidableEq, Repr

/-- SAFE on the main side and the island (15, 16). -/
structure SafeSt where
  /-- The mirror as published (R463), the instant of its publication, the copy latched by each fabric port (R464). -/
  mir : List Nat := []
  pubAt : Option Nat := none
  latch : Sparse (List Nat) := []
  /-- The mailbox buffer by byte (R468); the SAFE_CONFIG job that waits for DONE. -/
  mbox : Sparse Nat := []
  job : Option Compl := none
  /-- Island state: 0 in reset, then as in the mirror (R437, R463); the state that a lock-out left; outputs held off until a
  reset after COMMISSION. -/
  st : Nat := 0
  was : Nat := 0
  hold : Bool := false
  /-- Safety cycle in progress, cell-time instant of its start, whether a cycle has begun; cycles since the last marker. -/
  k : Nat := 0
  start : Int := 0
  begun : Bool := false
  markAge : Nat := 0
  markLost : Bool := false
  /-- Cell time has been stepped: 1 no marker has come since, 2 one has come and the next cycle takes its number anew (02 R73). -/
  anew : Nat := 0
  /-- The running configuration: the frame, its digest, SET_V of each set (16 R480). One-time-programmable: the key hash and the
  seals, oldest first (R460). -/
  cfg : List Nat := []
  digest : List Nat := []
  setV : List Nat := []
  key : List Nat := []
  seals : List (List Nat) := []
  /-- A frame taken and accepted whose effect is due; an operation that waits for a press: OP, bytes, confirmed. -/
  taken : Option (List Nat) := none
  confirm : Option (Nat × List Nat × Bool) := none
  /-- Result of the last frame, its sequence (mirror MBX) and its DETAIL, whether it awaits publication. -/
  mbx : Nat := 0
  mbxSeq : Nat := 0
  mbxDet : Nat := 0
  mbxDue : Bool := false
  /-- Inputs: filtered and newest raw levels of channels A and B, samples in a row at the other level (key 2 input + channel, R439);
  faults, waits for a reset (masks), as frozen at the cycle start. -/
  lvA : Nat := 0
  lvB : Nat := 0
  rawA : Nat := 0
  rawB : Nat := 0
  filt : Sparse Nat := []
  inFault : Nat := 0
  inWait : Nat := 0
  inRun : Nat := 0
  /-- Outputs in force and computed for the next cycle, faults; STO likewise; EDM inputs that read released and read-backs that
  differ, as frozen; EDM faults. -/
  out : Nat := 0
  outNext : Nat := 0
  outFault : Nat := 0
  sto : Nat := 0
  stoNext : Nat := 0
  stoFault : Nat := 0
  edm : Nat := 0
  mism : Nat := 0
  edmFault : Nat := 0
  /-- Reset input: a press held while the island left START, valid presses since the last cycle start, RESET_STUCK. -/
  oldPress : Bool := false
  presses : Nat := 0
  stuck : Bool := false
  cause : Nat := 0
  /-- The 16 counters of the mirror. -/
  cnt : Sparse Nat := []
  sets : Sparse SetSt := []
  obs : Sparse ObsSt := []
  conns : Sparse ConnSt := []
  /-- Safety frames that TWI received, oldest first, and how many of them a cycle start has seen; frames handed to TWI as (slot handle, cycle, payload). -/
  rx : List (List Nat) := []
  rxSeen : Nat := 0
  tx : List (Nat × Nat × List Nat) := []
  sens : Sparse SensSt := []
  /-- Position sources invalid in the last cycle (node * 16 + slot); the requests sent to sensors at the cycle start. -/
  posBad : List Nat := []
  req : List (Nat × List Nat) := []
  /-- What the next mirror makes the main side report: code, class, kind, number, DETAIL (R467). -/
  news : List (Nat × Nat × Nat × Nat × Nat) := []
  deriving DecidableEq, Repr

/-- A program running on its lane groups (05 R156, R170): slot, start tick, cycle, the registers latched at the start, the
starting iterate and whether it is a cold one. -/
structure CrucRun where
  slot : Nat := 0
  start : Nat := 0
  cycle : Nat := 0
  latch : List Nat := []
  q0 : List Int := []
  cold : Bool := false
  deriving DecidableEq, Repr

/-- CRUC (05, 06) beside its registers: the window, the cycle whose window has opened, its start and CTRL.EN as it opened, ready programs in order (slot, tick,
behind a busy group), programs that became ready outside the window with the cycle, running ones, slots complete or aborted in this
window, the tick of the last end, pairs below the threshold in the last run of each DIST instance, the iterate of a stopped IK_DLS run in
the scratch of each lane group (R193). -/
structure CrucSt where
  isOpen : Bool := false
  cycle : Option Nat := none
  winStart : Nat := 0
  en : Bool := false
  wait : List (Nat × Nat × Bool) := []
  outside : List (Nat × Nat) := []
  run : List CrucRun := []
  fin : List Nat := []
  lastEnd : Nat := 0
  near : Sparse (List Nat) := []
  keep : Sparse (List Int) := []
  deriving DecidableEq, Repr

/-- A group of the Runner (07): committed plan, plan of the entry next to be committed and of the entry after it, frontier,
pending cause bits, rollback state, k_lim as a fraction, a gear pending at the shared start, whether its
axes' disable has been requested or cut; the causes of the rollback at this snapshot; the cell axes that the snapshot found enabled;
what this snapshot found due (bit 0 a stream stop, bit 1 a lost master); whether an axis has been found disabled since a RAMP or CUT; the
GEAR_SET job whose gear waits to be armed; the speed limit of the last snapshot; whether a read for the entry being committed met
poison (22 R609); whether the window is being refilled (07 R228). -/
structure GrpSt where
  com : Dyn := {}
  cur : Option Dyn := none
  front : Dyn := {}
  depth : Nat := 0
  pend : Nat := 0
  rb : Nat := 0
  limNum : Nat := 1
  limDen : Nat := 1
  gearWait : Option Dyn := none
  ending : Bool := false
  rolled : Nat := 0
  enabled : List Nat := []
  due : Nat := 0
  off : Bool := false
  gearJob : Option Compl := none
  lim : Option Nat := none
  stuck : Bool := false
  fill : Bool := false
  deriving DecidableEq, Repr

/-- What an accepted motion job asks of the next snapshot: kind (1 move, 2 feed hold, 3 resume, 4 override, 5 stop, 6 stream, 7
gear, 8 gear change, 9 shared start, 10 release), group, numbers, segments, the job where its status is decided at the
snapshot, a gear's plan, armed changes. -/
structure Act where
  kind : Nat := 0
  grp : Nat := 0
  data : List Int := []
  segs : List Seg := []
  job : Option Compl := none
  gear : Option Dyn := none
  change : Option Change := none
  deriving DecidableEq, Repr

/-- The shared start (08 R255 to R259): groups armed, whether a line was claimed, the tick of arming and that of the line's last
fall, the start instant with whether it was moved, whether the arming waits for the first snapshot after it. -/
structure StartSt where
  groups : List Nat := []
  line : Bool := false
  armTick : Nat := 0
  lowSince : Option Nat := none
  ts : Option Nat := none
  moved : Bool := false
  atSnap : Bool := false
  deriving DecidableEq, Repr

/-- RUN (07, 08) beside its registers: groups; the cycle of the snapshot and the stage of its commit (0 none, 1 snapshot, 2
targets, 3 prepared, 4 committed); what waits for a snapshot; flange targets by chain and object motion by object, as (cycle,
position, rotation, linear and angular velocity, linear and angular acceleration); prepared entries by cell axis as (POS, VEL_FF,
ACC_FF, TFF, FLAGS, SEG_ID); measured positions of disabled axes and limit states of the snapshot; the shared start; gear event
records of the last commit; rings whose stream has been unbound; valid samples of gear master ports, newest first, by node x 16 + port,
as (cycle, position, PRED 0). -/
structure RunSt where
  grps : Sparse GrpSt := []
  snap : Nat := 0
  stage : Nat := 0
  acts : List Act := []
  flange : Sparse (Nat × List Int) := []
  objs : Sparse (Nat × List Int) := []
  ents : Sparse (List Int) := []
  meas : Sparse Int := []
  limit : Sparse Nat := []
  blocks : List InBlock := []
  start : StartSt := {}
  gev : List (Nat × Nat × Nat × Nat) := []
  unbound : List Nat := []
  mports : Sparse (List (Nat × Int × Bool)) := []
  deriving DecidableEq, Repr

/-- An input on the pair link (17 R494): its SEQ, the job, or the in-stream block. -/
structure DuoIn where
  seq : Nat := 0
  job : Option Job := none
  block : Option InBlock := none
  deriving DecidableEq, Repr

/-- PAIR (17) beside its registers. -/
structure DuoSt where
  /-- Valid HEARTBEAT frames in a row; SEQ of the last frame sent; SEQ of the newest INPUT or BULK frame that this node received. -/
  run : Nat := 0
  seq : Nat := 0
  got : Nat := 0
  /-- Active: inputs not acknowledged. Standby: inputs received and not yet taken into a snapshot. Oldest first. -/
  ins : List DuoIn := []
  inbox : List DuoIn := []
  /-- Standby: speed limits, M_p and master samples of the SNAPSHOT frame; whether the MIRROR frame of the cycle has come. -/
  limits : Option (List Nat) := none
  mps : List (Nat × Int) := []
  samples : Sparse (List (Nat × Int × Bool)) := []
  mirGot : Bool := false
  /-- Classes of the last 64 cycles, newest first; DIVERGED cycles in a row. -/
  hist : List Nat := []
  divRun : Nat := 0
  /-- Pair-link heartbeat at the last two evaluations; evaluations without Twira heartbeat in a row, and those in which fewer
  workers saw this manager than the partner. -/
  hbWas : List Bool := []
  twMiss : Nat := 0
  fewer : Nat := 0
  /-- First evaluation of a vote and the role before it; its decision and the cycle at whose t = 0 it takes effect. -/
  vote : Option Nat := none
  voteRole : Nat := 0
  outcome : Option (Bool × Nat) := none
  /-- Swap: cycle of acceptance, confirmed by the standby, asked of the partner, its job; a period that waits since a cycle. -/
  swapA : Option Nat := none
  confirmed : Bool := false
  want : Bool := false
  job : Option Compl := none
  deferred : Option Nat := none
  /-- Cycle in which RESYNC began, and phase 6; BULK content received: image bytes by offset, lock state. -/
  since : Nat := 0
  since6 : Nat := 0
  bulk : List (Nat × List Nat) := []
  bulkLocks : Nat := 0
  /-- Active: a DIGEST has come in this cycle; cycles without in a row. -/
  digGot : Bool := false
  digMiss : Nat := 0
  /-- Link delay in 1/4 ticks (R498); departure and arrival of the last HEARTBEAT frame received; electorate mask. -/
  dly : Int := 0
  echo : Nat × Nat := (0, 0)
  elect : Nat := 0
  /-- Cell time has been taken from the pair link (R57); length of the image that BULK frames carry. -/
  aligned : Bool := false
  /-- MIRROR frame that came before this manager's own commit. -/
  mir : Option MirrorFrame := none
  bulkTotal : Nat := 0
  /-- Active: SEQ of the newest input acknowledged; what the partner has been fed: 0 nothing, 1 the Mould and locks, 2 state, 3 the
  group-state frame. -/
  acked : Nat := 0
  fed : Nat := 0
  fedLocks : Nat := 0
  /-- Frames with ACTIVE = 1 of the other manager have come (R493); y of the last SNAPSHOT frame (R498); what the Crucible has
  published in this cycle, by address (R496). -/
  heard : Bool := false
  baseY : Int := 0
  secs : List (Nat × List Nat) := []
  /-- Frames sent: SEQ, cycle, content. -/
  tx : List (Nat × Nat × DuoFrame) := []
  deriving DecidableEq, Repr

/-- A record of the Tap: sequence number, tick, slot index and the probe fields in probe order. -/
structure TapRec where
  seq : Nat := 0
  tick : Nat := 0
  slot : Nat := 0
  vals : List Nat := []
  deriving DecidableEq, Repr

/-- A trigger found (20 R573): its sample, the state of its final transition, and how it came; the records before its sample
that were present. -/
structure TapTrig where
  seq : Nat := 0
  tick : Nat := 0
  src : Nat := 0
  event : Bool := false
  early : Bool := false
  forced : Bool := false
  validPre : Nat := 0
  deriving DecidableEq, Repr

/-- What waits for the drain (20 R578): a record by its sequence number and address, or a marker of 64 B. -/
structure TapItem where
  seq : Nat := 0
  addr : Nat := 0
  mark : List Nat := []
  deriving DecidableEq, Repr

/-- Tap (20) beside its registers: the count and entry tick of the sequencer state, the next sequence number, the values of
the previous sample, the records present (oldest first), the next slot, the records written in the segment, the tick of the
last record and that of the last sample no longer present, the events known whose sample has not come (term and time), the trigger found, what the counters gained since
the last header and in the re-arm, segments completed, what waits for the drain, records lost in the gap, jobs that wait for
the stop, whether the set-up is that of an injection (R295). -/
structure TapSt where
  cnt : Nat := 0
  entry : Nat := 0
  seq : Nat := 0
  prev : List Nat := []
  recs : List TapRec := []
  wr : Nat := 0
  nrec : Nat := 0
  lastTick : Option Nat := none
  dropTick : Option Nat := none
  armTick : Nat := 0
  evs : List (Nat × Nat) := []
  trig : Option TapTrig := none
  missed : Nat := 0
  missedHdr : Nat := 0
  earlyHdr : Nat := 0
  segs : Nat := 0
  items : List TapItem := []
  gap : Nat := 0
  jobs : List Compl := []
  stopping : Bool := false
  inj : Bool := false
  deriving DecidableEq, Repr


/-- All of the block but the command queue. -/
structure Mach where
  locks : Locks := {}
  /-- Register fields by key; an unlisted field holds its reset value. -/
  regs : Sparse Nat := []
  /-- Memory of the internal map (01 R43) in canonical form; an unlisted byte reads 0 (entry 3). -/
  mem : List Host.Cell := []
  free : Nat := 0
  reacts : List React := []
  /-- Latched _HI halves and last written _LO halves of register pairs, by address (00 R13). -/
  hiLatch : Sparse Nat := []
  loHeld : Sparse Nat := []
  out : Outs := {}
  sys : SysSt := {}
  hif : HifSt := {}
  intc : IntcSt := {}
  ladle : LadleSt := {}
  cores : Sparse CoreSt := []
  sup : SupSt := {}
  memb : MemSt := {}
  test : TestSt := {}
  jtag : JtagSt := {}
  cyc : CycSt := {}
  mould : MouldSt := {}
  /-- Values in force of shadowed fields, by key. -/
  force : Sparse Nat := []
  /-- The schedule memory of TWI (12 R364): the entries of the node's own lines. -/
  sched : List SchedEnt := []
  /-- Entries of the schedule memory that are not in use (VALID 0) but hold something. -/
  schedOff : List SchedEnt := []
  /-- Section offset of each program slot in a solution buffer, known from its first run (05 R163). -/
  crucSecs : Sparse Nat := []
  time : TimeSt := {}
  twi : TwiSt := {}
  enc : Sparse EncSt := []
  axl : Sparse AxlSt := []
  pwr : Sparse PwrSt := []
  lims : Sparse LimSt := []
  /-- Trigger bus lines held low from outside, one bit per line. -/
  busLow : Nat := 0
  safe : SafeSt := {}
  cruc : CrucSt := {}
  run : RunSt := {}
  duo : DuoSt := {}
  tap : TapSt := {}
  deriving DecidableEq, Repr

/-- The state: the block and its waiting commands, first in, first out. -/
structure State where
  m : Mach := {}
  pending : List Instr := []
  deriving DecidableEq, Repr

/-- Faults. The spec gives the block no stop: what goes wrong is an event, a flag or a status, which a command's next state
holds. -/
inductive Fault where
  /-- Raised by nobody (safe): it only inhabits the type. -/
  | none
  deriving DecidableEq, Repr

/-- Refusals. -/
inductive Refusal where
  /-- Raised by the dispatch for a command that has no meaning yet (safe: the machine stops). -/
  | notModelled (mnemonic : String)
  deriving DecidableEq, Repr

/-- The block right after a power-on reset, before its release (entry 2): every field at its reset value, memory with
nothing listed, no command waiting. -/
def State.reset : State := {}

end Sys2Proof.Machine
end

