-- ==== Sys2Proof/Machine/Ops.lean ====
section
/-! DEFINITION. The named operations over registers, memory, events, interrupt sources, resources and jobs: every meaning
is written over them. A supervisor exception is taken and returned from in Machine/Supervisor.lean over the banks here. -/

namespace Sys2Proof.Machine

/-- The outcome type of a command. -/
abbrev Out := Host.Outcome State Fault Refusal

/-- Runs an effect on everything but the queue. -/
def done (f : Mach → Mach) (s : State) : Out := .next { s with m := f s.m }

/-! ## Register fields -/

/-- The value a field holds: no more bits than it has. -/
def getF (m : Mach) (f : Fld) (i : Nat := 0) : Nat := sget m.regs (f.key i) (f.rst i) % 2 ^ f.w

/-- Whether a one-bit field holds 1. -/
def onF (m : Mach) (f : Fld) (i : Nat := 0) : Bool := getF m f i == 1

/-- The value a field holds, as a signed number. -/
def getS (m : Mach) (f : Fld) (i : Nat := 0) : Int := sgn f.w (getF m f i)

/-- Sets a field to the low bits of `v`. -/
def setF (m : Mach) (f : Fld) (i v : Nat) : Mach :=
  { m with regs := sput m.regs (f.key i) (v % 2 ^ f.w) (f.rst i) }

/-- Sets a field to a signed value. -/
def setS (m : Mach) (f : Fld) (i : Nat) (v : Int) : Mach := setF m f i (unsg f.w v)

/-- Sets a flag, or clears it. -/
def setB (m : Mach) (f : Fld) (i : Nat) (b : Bool) : Mach := setF m f i (b2n b)

/-- Sets a flag (00 R15). -/
def flag (m : Mach) (f : Fld) (i : Nat := 0) : Mach := setF m f i 1

/-- Counts `n` events, saturating at all ones (00 R16). -/
def incF (m : Mach) (f : Fld) (i n : Nat) : Mach := setF m f i (satAdd (2 ^ f.w - 1) (getF m f i) n)

/-- The 64-bit quantity of a _LO and _HI pair. -/
def get64 (m : Mach) (lo hi : Fld) (i : Nat := 0) : Nat := getF m lo i + 2 ^ lo.w * getF m hi i

/-- Sets the quantity of a _LO and _HI pair. -/
def set64 (m : Mach) (lo hi : Fld) (i v : Nat) : Mach := setF (setF m lo i v) hi i (v / 2 ^ lo.w)

/-- Puts a field back to its reset value. -/
def resetF (m : Mach) (f : Fld) : Mach :=
  { m with regs := (List.range f.n).foldl (fun r i => sdel r (f.key i)) m.regs }

/-- Puts the fields of a block back to their reset values. -/
def resetFields (m : Mach) (l : List Fld) : Mach := l.foldl resetF m

/-- The fields of a block (01 R29). -/
def fieldsOf (blk : Nat) : List Fld :=
  match blk with
  | 0 => fieldsSYS | 1 => fieldsHIF | 2 => fieldsINTC | 3 => fieldsLADLE | 4 => fieldsCORE | 5 => fieldsCRUC
  | 6 => fieldsRUN | 7 => fieldsAXL | 8 => fieldsPWR | 9 => fieldsENC | 10 => fieldsTWI | 11 => fieldsTIME
  | 12 => fieldsTAP | 13 => fieldsSAFE | 14 => fieldsPAIR | 15 => fieldsMEM | 16 => fieldsTEST | _ => []

/-- The instance of the field that the register at offset `off` of its block holds. -/
def Fld.instAt (f : Fld) (off : Nat) : Option Nat :=
  if f.off ≤ off ∧ (off - f.off) % f.stride = 0 ∧ (off - f.off) / f.stride < f.n then some ((off - f.off) / f.stride) else none

/-- The fields of the register at an offset, with the instance. -/
def fieldsAt (blk off : Nat) : List (Fld × Nat) :=
  if blk = 2 ∧ off = 0x1000 then [] else (fieldsOf blk).filterMap (fun f => (f.instAt off).map (fun i => (f, i)))

/-- Puts the fields of a register at a block offset to the bits of a value. -/
def putReg (m : Mach) (blk off v : Nat) : Mach :=
  (fieldsAt blk off).foldl (fun m x => setF m x.1 x.2 (bits v x.1.lsb x.1.w)) m

/-- The register at a block offset as one value, from the register file. -/
def regWord (m : Mach) (blk off : Nat) : Nat :=
  (fieldsAt blk off).foldl (fun v x => v + getF m x.1 x.2 * 2 ^ x.1.lsb) 0

/-! ## Shadowed fields: the register file holds the value written, `force` the value in force -/

/-- The value in force of a shadowed field. -/
def getV (m : Mach) (f : Fld) (i : Nat := 0) : Nat := sget m.force (f.key i) (f.rst i) % 2 ^ f.w

/-- The value in force as a signed number. -/
def getVS (m : Mach) (f : Fld) (i : Nat := 0) : Int := sgn f.w (getV m f i)

/-- Puts the value written of a shadowed field into force. -/
def enforce (m : Mach) (f : Fld) (i : Nat) : Mach := { m with force := sput m.force (f.key i) (getF m f i) (f.rst i) }

/-- Puts every shadowed field of a register at a block offset into force. -/
def enforceReg (m : Mach) (blk off : Nat) : Mach :=
  (fieldsAt blk off).foldl (fun m x => if x.1.acc = .shadow then enforce m x.1 x.2 else m) m

/-! ## Node, role, features, domains -/

/-- The node ID of the straps (00 R4). -/
def nodeId (m : Mach) : Nat := getF m SYS_STRAP_NODE_ID
/-- Whether the node is a manager. -/
def isManager (m : Mach) : Bool := onF m SYS_STRAP_ROLE
/-- Whether the node is a manager of a pair: by its model, before a model is loaded by its role (17 R492). -/
def inPair (m : Mach) : Bool := isManager m && (if m.mould.loaded then m.mould.config == 3 else getF m PAIR_STAT_ROLE != 0)
/-- The role of a manager in a pair; in VOTE the one before the vote (17 R492, R507). -/
def pairRole (m : Mach) : Nat := if getF m PAIR_STAT_ROLE = 5 then m.duo.voteRole else getF m PAIR_STAT_ROLE
/-- Whether the manager is the standby of a pair (17 R492). -/
def isStandby (m : Mach) : Bool := inPair m && pairRole m == 2
/-- Whether the manager's results leave the cell: ACTIVE or SOLO, or a manager without a pair (17 R492). -/
def isActive (m : Mach) : Bool := isManager m && (!inPair m || pairRole m == 1 || pairRole m == 3)

/-- Whether the manager computes from the active manager's snapshot: STANDBY, or RESYNC in phase 6 (17 R492, R495, R511). -/
def followsPartner (m : Mach) : Bool :=
  inPair m && (pairRole m == 2 || (pairRole m == 7 && getF m PAIR_STAT_RESYNC_PHASE == 6))

/-- Whether the node computes from its own snapshot: not the other managers of a pair, which compute with their partner or not at
all (17 R492). -/
def computesAlone (m : Mach) : Bool := !inPair m || pairRole m == 1 || pairRole m == 3

/-- Whether feature `b` is in the accepted set (03 R110): negotiation is done without failure and the bit stands. -/
def feature (m : Mach) (b : Nat) : Bool :=
  onF m HIF_FEAT_ACK_DONE && !onF m HIF_FEAT_ACK_FAILED && (getF m HIF_FEAT_DRV_DRV 0).testBit b

/-- Power domains in the bit order of 23 R640. -/
def dAON : Nat := 0
/-- Domain HIF. -/
def dHIF : Nat := 3
/-- Domain POOL_A. -/
def dPOOLA : Nat := 5
/-- Domain POOL_B. -/
def dPOOLB : Nat := 6
/-- Domain CRUC. -/
def dCRUC : Nat := 7
/-- Domain RUN. -/
def dRUN : Nat := 8
/-- Domain AXIS. -/
def dAXIS : Nat := 9
/-- Domain TWI. -/
def dTWI : Nat := 10
/-- Domain TIME. -/
def dTIME : Nat := 11
/-- Domain TAP. -/
def dTAP : Nat := 12
/-- Domain PAIR. -/
def dPAIR : Nat := 13

/-- The power domain of a block (01 R29). R29 gives CORE three domains, SUP, POOL_A and POOL_B, and does not say which of them being off
closes its window: the model takes SUP, the one that is never off alone (DESIGN CHOICE, entry 128). -/
def domOf (blk : Nat) : Nat :=
  match blk with
  | 1 => 3 | 2 => 2 | 3 => 8 | 4 => 2 | 5 => 7 | 6 => 8 | 7 => 9 | 8 => 9 | 9 => 9 | 10 => 10 | 11 => 11 | 12 => 12
  | 13 => 1 | 14 => 13 | 15 => 4 | _ => 0

/-- Whether a domain is on and in no transition (23 R630). -/
def domOn (m : Mach) (d : Nat) : Bool := (getF m SYS_PWR_STAT_ON).testBit d && !(getF m SYS_PWR_STAT_TRANS).testBit d

/-- The table of 01 R47: for each domain the columns manager in a pair, single manager, networked worker, standalone
worker; 0 off, 1 on, 2 configurable. -/
def domTable (d : Nat) : List Nat :=
  match d with
  | 3 => [1, 1, 2, 2] | 6 => [1, 1, 2, 2] | 7 => [1, 1, 0, 0] | 9 => [0, 2, 1, 1] | 10 => [1, 2, 1, 0] | 12 => [2, 2, 2, 2]
  | 13 => [1, 0, 0, 0] | _ => [1, 1, 1, 1]

/-- The columns of 01 R47 that the node may still have (23 R679). -/
def domCols (m : Mach) : List Nat :=
  if m.mould.loaded then
    (if isManager m then (if m.mould.config = 3 then [0] else [1]) else (if m.mould.config = 0 then [3] else [2]))
  else if isManager m then [0, 1] else [2, 3]

/-- Whether a domain counts as Off for the node (23 R679). -/
def domOff (m : Mach) (d : Nat) : Bool := (domCols m).all (fun c => nth (domTable d) c == 0)

/-- Whether the clock that a domain needs is there: a worker powers HIF only if it saw the PCIe clock at reset release (01 R48). -/
def clocked (m : Mach) (d : Nat) : Bool := d != dHIF || isManager m || onF m SYS_STRAP_PCIE_CLK

/-- SYS begins to switch a domain on or off (23 R630); nothing to do where it is in that state or on its way there. -/
def switchDom (m : Mach) (d : Nat) (on : Bool) : Mach :=
  let cur := match m.sys.trans.find? (fun x => x.1 == d) with | some x => x.2 | none => (getF m SYS_PWR_STAT_ON).testBit d
  let put (v : Nat) (b : Bool) : Nat := if b then v ||| 2 ^ d else andNot v (2 ^ d)
  let m := setF m SYS_PWR_CTRL_ON 0 (put (getF m SYS_PWR_CTRL_ON) on)
  if cur = on then m
  else
    { setF m SYS_PWR_STAT_TRANS 0 (put (getF m SYS_PWR_STAT_TRANS) true) with
      sys := { m.sys with trans := (d, on) :: m.sys.trans.filter (fun x => x.1 != d) } }

/-! ## Interrupt sources (21 R590 to R592) -/

/-- An event of an edge source: sets its pending bit; a further event while the bit is set is merged and counted. -/
def irq (m : Mach) (n : Nat) : Mach :=
  if n ∈ m.intc.pend then incF (flag m INTC_FLAGS_MERGED) INTC_MERGE_CNT_CNT 0 1
  else { m with intc := { m.intc with pend := insNat n m.intc.pend } }

/-! ## Events and reactions (00 R20 to R24, 03 R93 to R95) -/

/-- An event held for event ring `k`: one that finds the holding store of 64 full is dropped and counted (03 R95). -/
def holdEv (m : Mach) (k : Nat) (e : Ev) : Mach :=
  if 64 ≤ (m.hif.held.filter (fun x => x.1 == k)).length then
    let m := incF m HIF_EVT_DROP_CNT k 1
    { m with hif := { m.hif with lost := insNat k m.hif.lost } }
  else { m with hif := { m.hif with held := m.hif.held ++ [(k, e)] } }

/-- The fault log keeps the last 256 errors (23 R638). -/
def logEv (m : Mach) (e : Ev) : Mach :=
  let l := m.sys.flog ++ [e]
  let m := if 256 < l.length then incF m SYS_FLOG_CNT_OVERWRITTEN 0 1 else m
  let m := { m with sys := { m.sys with flog := lastN 256 l } }
  setF m SYS_FLOG_CNT_N 0 (lastN 256 l).length

/-- Whether a code is an error (00 R20). -/
def isError (code : Nat) : Bool := decide (0 < code % 256 ∧ code % 256 < 128)

/-- The REACTIONS record that governs a source and its instance (04 R122). Outside E_CRUC_DEADLINE (06 R195) the spec does not say which
of a record for the instance and one for every instance applies: the first in the section's order does (DESIGN CHOICE, entry 77). -/
def reacOf (m : Mach) (code index : Nat) : Option ReacRec :=
  m.mould.reacs.find? (fun r => r.code == code && (r.index == index || r.index == 0xFFFF))

/-- The class that REACTIONS gives a code and instance, or the default of its chapter (04 R122). -/
def reacClass (m : Mach) (code index dflt : Nat) : Nat :=
  match reacOf m code index with
  | some r => r.cls
  | none => dflt

/-- The scopes of the reaction of a source and instance (00 R22, 04 R122): its own scope where no record names it; the axis, the group
(that of the axis, or those of the record where the source names none) or the cell as the record says. -/
def reactScope (m : Mach) (code index kind id : Nat) : List (Nat × Nat) :=
  match reacOf m code index with
  | none => if kind = 2 ∨ kind = 3 then [(kind, id)] else [(0, 0)]
  | some r =>
    if r.scope = 2 then [(0, 0)]
    else if kind = 2 then [(2, id)]
    else if kind = 3 then
      if r.scope = 0 then [(3, id)]
      else ((m.mould.axes.find? (fun a => a.axis == id)).map (fun a => [(2, a.group)])).getD [(0, 0)]
    else if r.groups = 0 then [(0, 0)] else (bitsOf 32 r.groups).map (fun g => (2, g))

/-- Reports an event: it goes to the event ring of its block's route, a notice only where the route takes notices; an error
goes to the fault log; a class above LOG is a requested reaction (00 R22), with the scope of the source's instance `index`. -/
def report (m : Mach) (code cls kind id detail : Nat) (index : Nat := 0xFFFF) : Mach :=
  let e : Ev := { code := code, kind := kind, id := id, detail := detail % 2 ^ 32, cycle := m.cyc.n % 2 ^ 32,
                  offset := (m.cyc.now - m.cyc.start) % 2 ^ 20, cls := if isError code then cls else 7 }
  let b := code / 256
  let m := if isError code || onF m HIF_EVT_ROUTE_NOTICES b then holdEv m (getF m HIF_EVT_ROUTE_RING b) e else m
  let m := if isError code then logEv m e else m
  if isError code && decide (0 < cls) then { m with reacts := m.reacts ++ (reactScope m code index kind id).map (fun x => { cls := cls, kind := x.1, id := x.2, late := kind == 3 && cls == 1 }) }
  else m

/-- An error of class LOG with node scope. -/
def logNode (m : Mach) (code detail : Nat) : Mach := report m code 0 1 (nodeId m) detail
/-- A notice with node scope. -/
def notice (m : Mach) (code detail : Nat) : Mach := report m code 7 1 (nodeId m) detail

/-- The BAD_CFG code of a block (00 R681). -/
def badCfgCode (blk : Nat) : Nat :=
  match blk with
  | 2 => E_INTC_BAD_CFG | 3 => E_LADLE_BAD_CFG | 4 => E_CORE_BAD_CFG | 5 => E_CRUC_BAD_CFG | 6 => E_RUN_BAD_CFG
  | 7 => E_AXL_BAD_CFG | 8 => E_PWR_BAD_CFG | 9 => E_ENC_BAD_CFG | 10 => E_TWI_BAD_CFG | 11 => E_TIME_BAD_CFG
  | 12 => E_TAP_BAD_CFG | 14 => E_PAIR_BAD_CFG | 15 => E_MEM_BAD_CFG | 16 => E_TEST_BAD_CFG | _ => E_SYS_BAD_CFG

/-! ## Axes and groups of the model -/

/-- The axes of a group in index order (04 R129). -/
def groupAxes (m : Mach) (g : Nat) : List AxisRec := m.mould.axes.filter (fun a => a.group == g)

/-- The record of a cell axis. -/
def axisRec (m : Mach) (a : Nat) : Option AxisRec := m.mould.axes.find? (fun r => r.axis == a)

/-- The record of a group. -/
def groupRec (m : Mach) (g : Nat) : Option GroupRec := m.mould.groups.find? (fun r => r.group == g)

/-- The local slot's cell axis on this node. -/
def slotAxis (m : Mach) (s : Nat) : Option AxisRec := m.mould.axes.find? (fun r => r.node == nodeId m && r.slot == s)

/-- The motion group of a chain: that of its actuated joints. -/
def chainGroup (m : Mach) (c : Nat) : Option GroupRec :=
  match m.mould.groups.find? (fun g => g.kind == 1 && g.chain == c) with
  | some g => some g
  | none => ((m.mould.joints.find? (fun j => j.chain == c && decide (j.typ < 2))).bind (fun j => axisRec m j.axis)).bind (fun a => groupRec m a.group)

/-- SCOPE_KIND, SCOPE_ID and DETAIL of a BAD_CFG event: for an IK register of the Crucible the group of its chain, else the cell (05 R173);
for a slot register of AXL or PWR the cell axis, without one the node, with the slot in DETAIL for PWR (09 R298, 10 R330); else kind 5 and
the block. -/
def cfgScope (m : Mach) (blk off : Nat) : Nat × Nat × Nat :=
  -- the injector registers of AXL lie 0x40 apart (09 R299)
  let s := if blk = 7 ∧ 0x2000 ≤ off then (off - 0x2000) / 0x40 else (off - 0x1000) / 0x100
  if blk = 5 then
    match (if 0x400 ≤ off ∧ off < 0x600 then chainGroup m ((off - 0x400) / 0x20) else none) with
    | some g => (2, g.group, off)
    | none => (0, 0, off)
  else if blk = 7 ∨ blk = 8 then
    match (if 0x1000 ≤ off then slotAxis m s else none) with
    | some a => (3, a.axis, off)
    | none => (1, nodeId m, if blk = 8 ∧ 0x1000 ≤ off then off % 2 ^ 28 + s % 16 * 2 ^ 28 else off)
  else (5, blk, off)

/-- Reports a refused register value (00 R681): the register offset in DETAIL. -/
def badCfg (m : Mach) (blk off : Nat) : Mach := let x := cfgScope m blk off; report m (badCfgCode blk) 0 x.1 x.2.1 x.2.2

/-- Reports a lock violation (00 R19). -/
def lockViolation (m : Mach) (blk off : Nat) : Mach :=
  irq (report (flag m SYS_FLAGS_LOCK_VIOLATION) E_SYS_LOCK_WRITE 0 5 blk off) 256

/-- Reports a denied access (01 R44). -/
def accessDenied (m : Mach) (port addr : Nat) : Mach :=
  irq (logNode (flag m SYS_FLAGS_ACCESS_DENIED) E_SYS_ACCESS_DENIED (addr % 2 ^ 28 + port % 16 * 2 ^ 28)) 256

/-- A write to a register window whose power domain is off is ignored and reported (01 R31). -/
def domainOffWrite (m : Mach) (blk off : Nat) : Mach :=
  irq (report (flag m SYS_FLAGS_DOMAIN_OFF) E_SYS_DOMAIN_OFF 0 5 blk off) 256

/-- Whether a block takes accesses: the device is out of reset and the block's domain is on. -/
def blockOn (m : Mach) (blk : Nat) : Bool := !m.sys.inReset && domOn m (domOf blk)

/-- Whether the host reaches the block through its BARs: the HIF is up, the function is in D0 and its memory space is enabled (03 R78,
entry 79). -/
def hostSees (m : Mach) : Bool := blockOn m 1 && !m.hif.d3 && m.hif.cmd.testBit 1

/-- A command that is a write of the register at a block offset acts only while the block's domain is on (01 R31). -/
def domWrite (blk off : Nat) (f : Mach → Mach) (m : Mach) : Mach :=
  if blockOn m blk then f m else if m.sys.inReset then m else domainOffWrite m blk off

/-- Whether the isolation cells pass what a block sends to the safety island: its domain is on, and it is not in reset (01 R34). -/
def crosses (m : Mach) (blk : Nat) : Bool := blockOn m blk && m.sys.resetting.all (fun x => x.1 != blk)

/-! ## Memory of the internal map (01 R43) -/

/-- Reads one byte; an unlisted byte reads 0 (entry 3). -/
def rdByte (m : Mach) (a : Nat) : Nat := (sget m.mem a 0).toNat

/-- Writes one byte, keeping the canonical form. -/
def wrByte (m : Mach) (a v : Nat) : Mach := { m with mem := sput m.mem a (BitVec.ofNat 8 v) 0 }

/-- Reads `n` bytes. -/
def rdBytes (m : Mach) (a n : Nat) : List Nat := (List.range n).map (fun i => rdByte m (a + i))

/-- Reads an `n`-byte little-endian value. -/
def rdVal (m : Mach) (a n : Nat) : Nat := leNat (rdBytes m a n)

/-- The regions of the internal map (01 R43). -/
inductive Region where
  | supervisor | store | capture | crucible | registers
  | local_ (core : Nat)
  | none
  deriving DecidableEq, Repr

/-- The region of an address. -/
def regionOf (a : Nat) : Region :=
  if a < 0x100000 then .supervisor
  else if 0x10000000 ≤ a ∧ a < 0x11800000 then .store
  else if 0x20000000 ≤ a ∧ a < 0x21000000 then .capture
  else if 0x30000000 ≤ a ∧ a < 0x30400000 then .crucible
  else if 0x40000000 ≤ a ∧ a < 0x40200000 then .registers
  else if 0x50000000 ≤ a ∧ a < 0x50200000 then .local_ ((a - 0x50000000) / 0x10000)
  else .none

/-- Whether a fabric port may read an address (01 R43). A pool core's own local memory is not reached over a port. -/
def portReads (port a : Nat) : Bool :=
  match regionOf a with
  | .supervisor => port == 0
  | .store => true
  | .capture => port == 0 || port == 10
  | .crucible => port == 0 || port == 4 || port == 5 || port == 6
  | .registers => port == 0 || port == 1 || port == 5 || port == 6 || (port == 3 && a / 0x10000 == 0x400D)
  | .local_ _ => port == 0
  | .none => false

/-- Whether a fabric port may write the region of an address (01 R43). -/
def portWrites (port a : Nat) : Bool :=
  match regionOf a with
  | .supervisor => port == 0
  | .store => true
  | .capture => false
  | .crucible => port == 0 || port == 4
  | .registers => port == 0 || port == 1
  | .local_ _ => port == 0
  | .none => false

/-! ## Resources (04 R143 to R149) -/

/-- The owner of an instance on this node: a static entry, a claim, or the owner if unclaimed (04 R143). -/
def ownerOf (m : Mach) (kind inst : Nat) : Option Nat :=
  match m.mould.claims.find? (fun o => o.kind == kind && o.inst == inst) with
  | some o => some o.func
  | none =>
    match m.mould.owners.find? (fun o => o.kind == kind && o.inst == inst && o.node == nodeId m) with
    | some o => some o.func
    | none => if kind = 5 then some 7 else if kind = 6 then some 10 else none

/-- The owner that makes a dynamic claim of the instance fail: the unclaimed owner of a static kind does not count. -/
def busyOwner (m : Mach) (kind inst : Nat) : Option Nat := if kind = 5 ∨ kind = 6 then none else ownerOf m kind inst

/-- The DETAIL of a failed claim (04 R145). -/
def busyDetail (m : Mach) (kind inst func : Nat) : Nat := kind * 2 ^ 24 + inst % 256 * 2 ^ 16 + func % 256 * 2 ^ 8 + nodeId m

/-- The first of the instances that has an owner, as DETAIL. -/
def firstBusy (m : Mach) : List (Nat × Nat) → Option Nat
  | [] => none
  | (k, i) :: r => match busyOwner m k i with
    | some f => some (busyDetail m k i f)
    | none => firstBusy m r

/-- Claims instances for a function: all of them or none (04 R145). -/
def claim (m : Mach) (func : Nat) (l : List (Nat × Nat)) : Mach :=
  { m with mould := { m.mould with
      claims := m.mould.claims ++ l.map (fun x => { kind := x.1, inst := x.2, node := nodeId m, func := func }) } }

/-- A function that stops releases an instance that it owns; another owner's claim stays (04 R148). -/
def release (m : Mach) (func kind inst : Nat) : Mach :=
  { m with mould := { m.mould with claims := m.mould.claims.filter (fun o => !(o.kind == kind && o.inst == inst && o.func == func)) } }

/-- A function that stops releases every instance of a kind that it owns (04 R148). -/
def releaseAll (m : Mach) (func kind : Nat) : Mach :=
  { m with mould := { m.mould with claims := m.mould.claims.filter (fun o => !(o.kind == kind && o.func == func)) } }

/-! ## Free values (entry 6) -/

/-- A fresh open value of `w` bits, and the state that has used it up. -/
def fresh (m : Mach) (w : Nat) : Nat × Mach := (Config.freeValue m.free % 2 ^ w, { m with free := m.free + 1 })

/-! ## Host memory and messages (03) -/

/-- The DMA window that holds [a, a + n) whole with the permission (03 R83): RD for a read, WR for a write. -/
def dmaOk (m : Mach) (write : Bool) (a n : Nat) : Bool :=
  (List.range 16).any (fun i =>
    let base := getF m HIF_DMAW_BASE_LO_ADDR i * 4096 + getF m HIF_DMAW_BASE_HI_ADDR i * 2 ^ 32
    let end_ := getF m HIF_DMAW_END_LO_ADDR i * 4096 + getF m HIF_DMAW_END_HI_ADDR i * 2 ^ 32
    onF m HIF_DMAW_CTRL_EN i && (if write then onF m HIF_DMAW_CTRL_WR i else onF m HIF_DMAW_CTRL_RD i)
      && decide (base ≤ a ∧ a + n ≤ end_))

/-- A denied host access is counted, flagged and reported (03 R84). -/
def dmaDenied (m : Mach) (a : Nat) : Mach :=
  logNode (flag (incF m HIF_DMA_DENIED_CNT_CNT 0 1) HIF_STATUS_DMA_DENIED) E_HIF_DMA_DENIED a

/-- A write to host memory leaves the block. -/
def hostWrite (m : Mach) (a : Nat) (l : List Nat) : Mach := { m with out := { m.out with host := m.out.host ++ [(a, l)] } }

/-- A job's data out (03 R680): at most DATA_LEN bytes of `l`; the result is how many. -/
def dataOut (m : Mach) (d : Desc) (l : List Nat) : Mach × Nat :=
  let x := l.take d.dataLen
  if d.dataLen = 0 then (m, 0) else (hostWrite m d.dataAddr x, x.length)

/-- Whether the host has let the function issue requests: it is in D0 with bus mastering on (03 R78, entry 79). -/
def busMaster (m : Mach) : Bool := !m.hif.d3 && m.hif.cmd.testBit 2

/-- Whether MSI-X messages leave the function: it is enabled, not masked as a whole, and the function is a bus master (entry 79). -/
def msixOn (m : Mach) : Bool := m.hif.msixCtl.testBit 15 && !m.hif.msixCtl.testBit 14 && busMaster m

/-- Sends the message of a vector, or sets its pending bit while it is masked (03 R102). -/
def sendMsg (m : Mach) (v : Nat) : Mach :=
  if sget m.hif.msix (4 * v + 3) 1 % 2 = 1 ∨ msixOn m = false then { m with hif := { m.hif with pba := m.hif.pba ||| 2 ^ v } }
  else { m with out := { m.out with msgs := m.out.msgs ++
      [(v, sget m.hif.msix (4 * v) 0 + 2 ^ 32 * sget m.hif.msix (4 * v + 1) 0, sget m.hif.msix (4 * v + 2) 0)] } }

/-- An entry for a vector has been written: the message goes when COUNT is reached (03 R102). -/
def pendVec (m : Mach) (v : Nat) : Mach :=
  let c := sget m.hif.pend v 0 + 1
  if getF m HIF_COAL_COUNT v ≤ 1 ∨ getF m HIF_COAL_COUNT v ≤ c then
    sendMsg { m with hif := { m.hif with pend := sput m.hif.pend v 0 0 } } v
  else { m with hif := { m.hif with pend := sput m.hif.pend v c 0 } }

/-! ## Cycle arithmetic (02) -/

/-- Ticks of a length code (02 R58). -/
def lenTicks (code : Nat) : Nat := 50000 * 2 ^ code
/-- Ticks of the cycle length in force. -/
def cycLen (m : Mach) : Nat := lenTicks m.cyc.lenCode

/-- Whether the node is a networked worker: one that has its part of a model, or has begun to train without it yet. -/
def networked (m : Mach) : Bool := !isManager m && (m.mould.config != 0 || m.twi.started)

/-- Whether a worker waits for its first integration into a network: its cycle machinery has been stopped since reset (13 R394). -/
def cycleStopped (m : Mach) : Bool := networked m && !m.cyc.started

/-- The default phase starts in ticks (02 R60): P1 to P4. -/
def defaultPlan (code : Nat) : List Nat :=
  match code with
  | 0 => [4000, 18000, 37600, 48000]
  | 1 => [4000, 32000, 76000, 96000]
  | 2 => [4000, 32000, 172000, 192000]
  | 3 => [4000, 32000, 372000, 392000]
  | _ => [4000, 32000, 772000, 792000]

/-- The phase starts in force (02 R61). -/
def plan (m : Mach) : List Nat :=
  if m.cyc.custom then m.cyc.starts else defaultPlan m.cyc.lenCode

/-- The start of phase `k`, 1 to 4, as TIME_PHASE_k reads (02 R77): the value written with PLAN_CUSTOM, else the default start for
the length in force. -/
def phaseShown (m : Mach) (k : Nat) : Nat :=
  if onF m TIME_CYCLE_CFG_PLAN_CUSTOM then
    [getF m TIME_PHASE_1_START, getF m TIME_PHASE_2_START, getF m TIME_PHASE_3_START, getF m TIME_PHASE_4_START].getD (k - 1) 0
  else (defaultPlan m.cyc.lenCode).getD (k - 1) 0

/-- TIME_CYCLE_CFG and TIME_PHASE_1 to TIME_PHASE_4 as they read, 20 B: what a discovery reply reports and what a worker's part and
MODEL_READ carry (02 R59, R77, 04 R117). -/
def planBytes (m : Mach) : List Nat := leBytes 4 (regWord m 11 0x200) ++ (List.range 4).flatMap (fun j => leBytes 4 (phaseShown m (j + 1)))

/-- Whether the node plans for itself: managers and a standalone worker (02 R62, 04 R115). -/
def runsRunner (m : Mach) : Bool := isManager m || m.mould.config == 0

/-- The cycle of effect of a job accepted now (03 R104). -/
def effectCycle (m : Mach) : Nat := if m.cyc.snapped then m.cyc.n + 2 else m.cyc.n + 1

/-- Cell time at the instant a command names: it never runs backward (entry 5). -/
def at' (m : Mach) (t : Nat) : Mach := { m with cyc := { m.cyc with now := max m.cyc.now t } }

/-- Whether an axis of the node is enabled. -/
def anyEnabled (m : Mach) : Bool := getF m AXL_SUMMARY_ENABLED != 0

/-- Lane groups of a program slot (05 R155). -/
def slotGroups (m : Mach) (k : Nat) : Nat := getF m CRUC_PROG_CFG_GROUPS k

/-- Sets BUSY, QDEPTH and WINDOW of CRUC_STATUS (05 R174). -/
def crucSync (m : Mach) : Mach :=
  let busy := m.cruc.run.foldl (fun b r => b ||| slotGroups m r.slot) 0
  setB (setF (setF m CRUC_STATUS_BUSY 0 busy) CRUC_STATUS_QDEPTH 0 (m.cruc.wait.filter (fun w => w.2.2)).length)
    CRUC_STATUS_WINDOW 0 m.cruc.isOpen

end Sys2Proof.Machine
end

