-- ==== Sys2Proof/Machine/Intc.lean ====
section
/-! DEFINITION. The interrupt controller (21): level sources, request lines, claim, complete, pending writes and external
lines. Edge events are `irq` of Ops. -/

namespace Sys2Proof.Machine

/-- The sources that R587 leaves reserved. -/
def reservedSource (n : Nat) : Bool :=
  !(decide (1 ≤ n ∧ n ≤ 25) || decide (32 ≤ n ∧ n ≤ 101) || decide (104 ≤ n ∧ n ≤ 106) || decide (108 ≤ n ∧ n ≤ 110)
    || decide (112 ≤ n ∧ n ≤ 225) || decide (232 ≤ n ∧ n ≤ 234) || decide (240 ≤ n ∧ n ≤ 245) || decide (248 ≤ n ∧ n ≤ 250)
    || n == 252 || n == 253 || n == 256 || decide (320 ≤ n ∧ n ≤ 386))

/-- External sources (R587). -/
def externalSource (n : Nat) : Bool := decide (320 ≤ n ∧ n ≤ 386)

/-- Whether level source `n` is asserted (R587, R589, R592). -/
def asserted (m : Mach) (n : Nat) : Bool :=
  if n = 24 then onF m SAFE_MIR_STAT_MIRROR_STALE
  else if 208 ≤ n ∧ n ≤ 215 then getF m TIME_CAP_STAT_COUNT (n - 208) != 0
  else externalSource n && onF m INTC_SRC_TYPE n && m.intc.extHigh.contains n != onF m INTC_SRC_POL n

/-- Whether either class holds source `n` in service. -/
def inService (m : Mach) (n : Nat) : Bool := n != 0 && (m.intc.insvN == n || m.intc.insvF == n)

/-- The numbers that may be level sources. -/
def levelNumbers : List Nat := 24 :: ((List.range 8).map (· + 208) ++ (List.range 67).map (· + 320))

/-- Every asserted level source that is not in service has its pending bit set (R592). -/
def levels (m : Mach) : Mach :=
  let l := levelNumbers.filter (fun n => asserted m n && !inService m n)
  { m with intc := { m.intc with pend := l.foldl (fun p n => insNat n p) m.intc.pend } }

/-- The class of a source: 0 normal, 1 fast. -/
def srcClass (m : Mach) (n : Nat) : Nat := getF m INTC_SRC_CLASS n

/-- The source that a claim of a class returns: the highest enabled pending one that is not in service (R588). -/
def topSource (m : Mach) (cls : Nat) : Option Nat :=
  ((m.intc.pend.filter (fun n => onF m INTC_SRC_EN n && srcClass m n == cls && !inService m n)).reverse).head?

/-- The source that a class holds in service, 0 for none. -/
def classHolds (m : Mach) (cls : Nat) : Nat := if cls = 0 then m.intc.insvN else m.intc.insvF

/-- The request line of a class (R590). -/
def reqLine (m : Mach) (cls : Nat) : Bool := classHolds m cls == 0 && (topSource m cls).isSome

/-- A claim read by a port (R593): the number, and the state after it. -/
def claimRead (port cls : Nat) (m : Mach) : Nat × Mach :=
  let m := levels m
  if port ≠ 0 ∨ classHolds m cls ≠ 0 then (0, m)
  else match topSource m cls with
    | none => (0, m)
    | some n =>
      let i := { m.intc with pend := m.intc.pend.filter (· != n) }
      (n, { m with intc := if cls = 0 then { i with insvN := n } else { i with insvF := n } })

/-- A claim read whose number leaves the block. -/
def claimAnswer (port cls : Nat) (m : Mach) : Mach :=
  let r := claimRead port cls m
  { r.2 with out := { r.2.out with answer := (r.1, false) } }

/-- INTC_CLAIM_NORMAL (R593). -/
def execIntcClaimNormal (port : Nat) (s : State) : Out := done (claimAnswer port 0) s
/-- INTC_CLAIM_FAST (R593). -/
def execIntcClaimFast (port : Nat) (s : State) : Out := done (claimAnswer port 1) s

/-- A write of INTC_COMPLETE by a port (R594). -/
def intcComplete (port x : Nat) (m : Mach) : Mach :=
  let n := x % 512
  if port ≠ 0 then m
  else if n ≠ 0 ∧ m.intc.insvN = n then levels { m with intc := { m.intc with insvN := 0 } }
  else if n ≠ 0 ∧ m.intc.insvF = n then levels { m with intc := { m.intc with insvF := 0 } }
  else report (incF (flag m INTC_FLAGS_BAD_COMPLETE) INTC_BAD_CNT_CNT 0 1) E_INTC_BAD_COMPLETE 0 5 2 n

/-- INTC_COMPLETE (R594). -/
def execIntcComplete (port x : Nat) (s : State) : Out := done (intcComplete port x) s

/-- The source numbers of the bits set in word `w` of a pending register; source 0 does not exist. -/
def wordSources (w x : Nat) : List Nat := ((bitsOf 32 x).map (fun b => 32 * w + b)).filter (· != 0)

/-- A write of INTC_PEND_SET_w (R591). -/
def intcPendSet (w x : Nat) (m : Mach) : Mach :=
  if 16 ≤ w then m
  else { m with intc := { m.intc with pend := (wordSources w x).foldl (fun p n => insNat n p) m.intc.pend } }

/-- A write of INTC_PEND_CLR_w (R591, R592): a level source that is still asserted is pending again. -/
def intcPendClr (w x : Nat) (m : Mach) : Mach :=
  if 16 ≤ w then m
  else levels { m with intc := { m.intc with pend := m.intc.pend.filter (fun n => !(wordSources w x).contains n) } }

/-- INTC_PEND_SET (R591). -/
def execIntcPendSet (w x : Nat) (s : State) : Out := done (intcPendSet w x) s
/-- INTC_PEND_CLR (R591). -/
def execIntcPendClr (w x : Nat) (s : State) : Out := done (intcPendClr w x) s

/-- EXTERNAL_LINE_EVENT (R589): the line of source `n` shows a level in a run of consecutive samples; it is accepted once
FILT + 1 of them agree. -/
def externalLine (n : Nat) (level : Bool) (samples : Nat) (m : Mach) : Mach :=
  if !externalSource n || decide (samples < getF m INTC_SRC_FILT n + 1) then m
  else
    let act := level != onF m INTC_SRC_POL n
    let was := m.intc.extHigh.contains n
    let m := { m with intc := { m.intc with extHigh := if level then insNat n m.intc.extHigh else m.intc.extHigh.filter (· != n) } }
    if onF m INTC_SRC_TYPE n then levels m else if act && level != was then irq m n else m

/-- EXTERNAL_LINE_EVENT. -/
def execExternalLineEvent (n : Nat) (level : Bool) (samples : Nat) (s : State) : Out := done (externalLine n level samples) s

/-- The computed value of a read-only INTC register field, or none where the register file holds it (R601). -/
def intcField (m : Mach) (f : Fld) (i : Nat) : Option Nat :=
  let word (w : Nat) := maskOf ((m.intc.pend.filter (fun n => n / 32 == w)).map (· % 32))
  if f = INTC_STATUS_INSVC_N then some m.intc.insvN
  else if f = INTC_STATUS_REQ_N then some (b2n (reqLine m 0))
  else if f = INTC_STATUS_INSVC_F then some m.intc.insvF
  else if f = INTC_STATUS_REQ_F then some (b2n (reqLine m 1))
  else if f = INTC_PEND_PEND ∨ f = INTC_PEND_SET_SET ∨ f = INTC_PEND_CLR_CLR then some (word i)
  else if f = INTC_SRC_PEND then some (b2n (m.intc.pend.contains i))
  else if f = INTC_SRC_EXT then some (b2n (externalSource i))
  else if f = INTC_SRC_TYPE ∧ !externalSource i then some (b2n (levelNumbers.contains i))
  else if f = INTC_SRC_INSVC then some (b2n (inService m i))
  else none

end Sys2Proof.Machine
end

