-- ==== Sys2Proof/Machine/Jobs.lean ====
section
/-! DEFINITION. Jobs: the catalogue (03 R103), the nine checks of a descriptor (03 R87), and the completion of a job
(03 R90). -/

namespace Sys2Proof

/-- Parameter i of a descriptor. -/
def Desc.par (d : Desc) (i : Nat) : Nat := Machine.nth d.params i % 2 ^ 32

/-- FENCE (03 R86). -/
def Desc.fence (d : Desc) : Bool := d.flags.testBit 0
/-- NO_COMPL (03 R86). -/
def Desc.noCompl (d : Desc) : Bool := d.flags.testBit 1

end Sys2Proof

namespace Sys2Proof.Machine

/-- A row of the job catalogue (03 R103): opcode, feature, refused on a standby, data out, the bits that each parameter may
carry, whether it switches its domain on. -/
structure JobInfo where
  opc : Nat
  feat : Option Nat := none
  std : Bool := false
  out : Bool := false
  masks : List Nat := []
  powers : Bool := false
  deriving DecidableEq, Repr

/-- All bits of a parameter. -/
def allBits : Nat := 0xFFFFFFFF

/-- The job catalogue of 03 R103 in its order. -/
def jobTableA : List JobInfo :=
  [{ opc := 0x0001, out := true }, { opc := 0x0002, masks := [7] }, { opc := 0x0003, out := true, masks := [allBits] },
   { opc := 0x0004, std := true, masks := [allBits] }, { opc := 0x0010, std := true },
   { opc := 0x0011, out := true, masks := [allBits] },
   { opc := 0x0101, masks := [0x1F03, allBits, 0xFFFFF000, allBits, 0xFFFFFFF8, allBits, allBits] },
   { opc := 0x0102, masks := [0x1F03] }, { opc := 0x0103, masks := [allBits, 7] }, { opc := 0x0104, masks := [allBits, 0xFFFFFF] },
   { opc := 0x0105, masks := [allBits, 0xFFFFF000, allBits, 0xFFFFF000, allBits, 7] },
   { opc := 0x0301, out := true }, { opc := 0x0501, out := true },
   { opc := 0x0601, std := true, masks := [allBits, allBits, allBits, allBits] }, { opc := 0x0602, std := true, masks := [allBits, allBits] },
   { opc := 0x0603, std := true, masks := [allBits, allBits, allBits] }, { opc := 0x0604, std := true, masks := [allBits, allBits] },
   { opc := 0x0605, std := true, masks := [allBits] }, { opc := 0x0606, std := true, masks := [allBits] },
   { opc := 0x0607, std := true, masks := [allBits, allBits] }, { opc := 0x0608, std := true, masks := [allBits] }]

/-- The job catalogue, second part. -/
def jobTableB : List JobInfo :=
  [{ opc := 0x0609, feat := some 5, std := true, masks := [allBits] },
   { opc := 0x060A, feat := some 5, std := true, masks := [allBits] },
   { opc := 0x060B, std := true, masks := [allBits, allBits, allBits] },
   { opc := 0x0701, std := true, masks := List.replicate 8 allBits },
   { opc := 0x0702, std := true, masks := List.replicate 8 allBits },
   { opc := 0x0703, std := true, masks := [0xFF] }, { opc := 0x0A01 }, { opc := 0x0A02, std := true, masks := [allBits] },
   { opc := 0x0A03, out := true }, { opc := 0x0B01, std := true, masks := [allBits] },
   { opc := 0x0B02, feat := some 9, std := true, masks := [allBits] },
   { opc := 0x0C01, masks := [0x3F], powers := true }, { opc := 0x0C02, masks := [0x3F] }, { opc := 0x0D01 },
   { opc := 0x0D02, out := true }, { opc := 0x0E01, feat := some 6 }, { opc := 0x0E02, feat := some 6, out := true },
   { opc := 0x0F01, out := true }, { opc := 0x1001, feat := some 13, std := true }]

/-- The job catalogue (03 R103). -/
def jobTable : List JobInfo := jobTableA ++ jobTableB

/-- The catalogue row of an opcode. -/
def jobInfo (opc : Nat) : Option JobInfo := jobTable.find? (fun i => i.opc == opc)

/-- The bytes of a command descriptor taken apart (03 R86). -/
def descOf (l : List Nat) : Desc :=
  { opcode := field l 0 2, flags := field l 2 1, version := field l 3 1, tag := field l 4 4, dataAddr := field l 8 8, dataLen := field l 16 4,
    rsv := field l 20 4, params := (List.range 10).map (fun i => field l (24 + 4 * i) 4) }

/-! ## Ring registers: kind 0 command, 1 completion, 2 event, 3 stream (03 R105) -/

/-- The field of a ring register set. -/
def ringFld (kind : Nat) (a b c d : Fld) : Fld := match kind with | 0 => a | 1 => b | 2 => c | _ => d
/-- STATE. -/
def rState (k : Nat) : Fld := ringFld k HIF_CMD_CTRL_STATE HIF_CPL_CTRL_STATE HIF_EVT_CTRL_STATE HIF_STR_CTRL_STATE
/-- How many rings a kind has. -/
def rCount (k : Nat) : Nat := match k with | 0 => 16 | 1 => 16 | 2 => 4 | _ => 32
/-- Whether a ring is enabled. -/
def ringOn (m : Mach) (kind k : Nat) : Bool := decide (k < rCount kind) && getF m (rState kind) k == 1
/-- Whether the device accesses a ring: it is enabled, and the function may issue requests (entry 79). -/
def ringUp (m : Mach) (kind k : Nat) : Bool := ringOn m kind k && busMaster m

/-- Whether the fields of a ring's CFG value lie in range (03 R106): for kind and value. -/
def cfgValid (m : Mach) (kind cfg : Nat) : Bool :=
  let lg := bits cfg 0 5
  decide (6 ≤ lg ∧ lg ≤ 16) &&
  (match kind with
   | 0 => ringOn m 1 (bits cfg 16 4)
   | 3 => decide (4 ≤ bits cfg 28 4 ∧ bits cfg 28 4 ≤ 9) &&
          (if cfg.testBit 24 then decide (bits cfg 25 2 ≤ 1) && (bits cfg 25 2 != 0 || bits cfg 28 4 == 5) else bits cfg 28 4 == 4)
   | _ => true)

/-! ## The checks of a descriptor (03 R86, R87) -/

/-- Whether a parameter lies in the range that its job states for it, where a violation is E_HIF_BAD_PARAM (R87 step 8). -/
def paramIn (m : Mach) (d : Desc) (k : Nat) : Bool :=
  let x := d.par k
  let ring := decide (bits x 8 5 < rCount (x % 4)) && !(bits x 8 5 == 0 && decide (x % 4 < 3))
  let out := d.par 0 % 4 == 3 && (d.par 1).testBit 24
  match d.opcode, k with
  | 0x0004, 0 => [3, 5, 6, 7, 8, 9, 10, 11, 12, 14, 16].contains x
  | 0x0011, 0 => decide (0 < x ∧ x ≤ 14)
  | 0x0101, 0 | 0x0102, 0 => ring
  | 0x0101, 1 => andNot x 0xF73F3F1F == 0 && cfgValid m (d.par 0 % 4) x
  | 0x0101, 4 | 0x0101, 5 => out || x == 0
  | 0x0101, 6 => andNot x 0x71F == 0 && (d.par 0 % 4 != 3 || decide (bits x 8 3 ≤ 6))
  | 0x0103, 0 => decide (x < 17)
  | 0x0104, 0 => decide (x < 64)
  | 0x0105, 0 => decide (x < 16)
  | 0x0601, 0 | 0x0602, 0 | 0x0603, 0 | 0x0604, 0 | 0x0607, 0 | 0x0609, 0 | 0x060A, 0 => (groupRec m x).isSome
  | 0x0605, 0 | 0x0606, 0 | 0x0608, 0 | 0x060B, 0 => (bitsOf 32 x).all (fun g => (groupRec m g).isSome)
  | 0x0701, _ | 0x0702, _ => (bitsOf 32 x).all (fun b => (axisRec m (32 * k + b)).isSome)
  | 0x0703, 0 => (axisRec m x).isSome
  | 0x0601, 1 | 0x0602, 1 | 0x0603, 1 => decide (x % 4 < 2 ∧ bits x 3 13 = 0)
  | 0x0601, 2 | 0x0601, 3 | 0x0607, 1 => decide (x ≤ 2 ^ 30)
  | 0x0602, 2 => x == 0
  | 0x0603, 2 => decide (0 < x ∧ x < 65536)
  | 0x0604, 1 => decide (x < 32) && getF m HIF_STR_CTRL_STATE x == 1 && !onF m HIF_STR_CFG_DIR x && getF m HIF_STR_AUX_GROUP x == d.par 0
  | 0x0A02, 0 => decide (0 < x ∧ x < 8)
  | 0x0B02, 0 => decide (x < 2)
  | _, _ => true

/-- The first parameter at fault (03 R87 step 8): one that carries a bit its job leaves undefined (03 R86), or whose value is out of
range. -/
def badParam (m : Mach) (i : JobInfo) (d : Desc) : Option Nat :=
  (List.range 10).find? (fun k => andNot (d.par k) (nth i.masks k) != 0 || !paramIn m d k)

/-- RESULT of a failure with no parameter at fault (03 R90). -/
def noParam : Nat := 0xFFFFFFFF

/-- Whether a job needs a feature beside that of its row (03 R103): CREATE_RING of a Tap drain stream needs TAP_DRAIN. -/
def extraFeature (d : Desc) : Option Nat :=
  if d.opcode = 0x0101 ∧ d.par 0 % 4 = 3 ∧ (d.par 1).testBit 24 ∧ bits (d.par 1) 25 2 = 1 then some 8 else none

/-- Whether an AXL job names an axis that is not on this node: the block that it targets is then on another node (09 R284, R291), or the axis
is not configured, which check 8 finds. -/
def farAxis (m : Mach) (d : Desc) : Bool :=
  let far (a : Nat) : Bool := (axisRec m a).all (fun r => r.node != nodeId m)
  match d.opcode with
  | 0x0701 | 0x0702 => (List.range 8).any (fun k => (bitsOf 32 (d.par k)).any (fun b => far (32 * k + b)))
  | 0x0703 => far (d.par 0)
  | _ => false

/-- Checks 1 to 7 of 03 R87, made at the fetch: the status and result of the first that fails. -/
def fetchCheck (m : Mach) (d : Desc) : Option (Nat × Nat) :=
  if d.version ≠ 2 ∨ d.rsv ≠ 0 ∨ 4 ≤ d.flags ∨ 2 ^ 24 < d.dataLen then some (E_HIF_BAD_DESC, noParam)
  else match jobInfo d.opcode with
    | none => some (E_HIF_BAD_OPCODE, noParam)
    | some i =>
      if d.opcode ≠ 1 ∧ !(onF m HIF_FEAT_ACK_DONE && !onF m HIF_FEAT_ACK_FAILED) then some (E_HIF_NOT_NEGOTIATED, noParam)
      else if (i.feat.any (fun f => !feature m f) && !(d.opcode == 0x1001 && getF m TEST_STAT_UNLOCK == 2))
          || (extraFeature d).any (fun f => !feature m f) then some (E_HIF_FEATURE_OFF, noParam)
      else if domOff m (domOf (d.opcode / 256)) && !farAxis m d then some (E_SYS_ROLE_UNSUPPORTED, noParam)
      else if i.std && isStandby m then some (E_HIF_STANDBY, noParam)
      else if d.dataLen ≠ 0 ∧ !dmaOk m i.out d.dataAddr d.dataLen then some (E_HIF_DMA_DENIED, noParam)
      else none

/-- Checks 1 to 8 of 03 R87 as far as they hold for every job: the status and result of the first that fails when the job executes. -/
def descCheck (m : Mach) (d : Desc) : Option (Nat × Nat) :=
  match fetchCheck m d with
  | some r => some r
  | none => match jobInfo d.opcode with
    | none => none
    | some i =>
      let dom := domOf (d.opcode / 256)
      match badParam m i d with
      | some k => some (E_HIF_BAD_PARAM, k)
      | none => if !domOn m dom && !i.powers && dom != 1 && !farAxis m d then some (E_SYS_DOMAIN_OFF, noParam) else none

/-- What a job that passed its checks does: the state, its status and result, the cycle whose commit its completion waits
for, and whether it completes only later. -/
structure JobRes where
  m : Mach
  status : Nat := 0
  result : Nat := 0
  /-- DETAIL of a failure. -/
  detail : Nat := 0
  effect : Option Nat := none
  later : Bool := false

/-- A job that fails at step 8 or 9 (03 R87): nothing of it has executed. -/
def jobFail (m : Mach) (status : Nat) (result : Nat := noParam) : JobRes := { m := m, status := status, result := result }

/-- A job that fails with no parameter at fault and with the DETAIL that the table of codes gives (03 R90, entry 88). -/
def jobDetail (m : Mach) (status detail : Nat) : JobRes := { m := m, status := status, result := noParam, detail := detail % 2 ^ 32 }

/-- A job whose data out the spec does not describe (03 R103: CRUC_STATUS, NET_STATUS, PAIR_STATUS): as many bytes as it writes,
at most DATA_LEN, and their content are open values (entry 41). -/
def freeOut (j : Job) (m : Mach) : JobRes :=
  let n := fresh m 25
  let len := n.1 % (j.desc.dataLen + 1)
  let x := fresh n.2 (8 * len)
  let r := dataOut x.2 j.desc (leBytes len x.1)
  { m := r.1, result := r.2 }

/-- A finished completion for a job. -/
def jcompl (j : Job) (status result : Nat) (effect : Option Nat) (detail : Nat := 0) : Compl :=
  { ring := j.ring, head := j.head, tag := j.desc.tag, num := j.num, blk := j.desc.opcode / 256, result := result % 2 ^ 32, status := status,
    effect := effect, quiet := j.desc.noCompl, detail := detail }

/-- A completion of a failure that a unit found after the job had started: no parameter is at fault (03 R90, entry 88). -/
def failCompl (c : Compl) (status detail : Nat) : Compl := { c with status := status, result := noParam, detail := detail % 2 ^ 32 }

/-- A completion joins those that wait to be written (03 R92); a ring number of 16 or more marks a job whose completions a
HIF reset has discarded (03 R111), and a job with NO_COMPL leaves none on success (03 R86). -/
def addCompl (m : Mach) (c : Compl) : Mach :=
  if 16 ≤ c.ring ∨ (c.quiet ∧ c.status = E_OK) then m else { m with hif := { m.hif with compl := m.hif.compl ++ [c] } }

/-- The jobs that have started and not completed, but for DELETE_RING jobs: what each unit keeps of a job until it can complete it. -/
def heldJobs (m : Mach) : List Compl :=
  m.sys.resetting.map (·.2) ++ m.time.jobs ++ (m.twi.exch.bind (·.job)).toList ++ m.twi.netJob.toList ++ m.twi.reqs.map (·.job)
    ++ m.safe.job.toList ++ m.run.acts.filterMap (·.job) ++ m.run.grps.filterMap (·.2.gearJob) ++ m.duo.ins.filterMap (fun x => x.job.map (fun j => jcompl j 0 0 none))
    ++ m.duo.job.toList ++ m.tap.jobs

/-- The jobs of command ring `k` that have started and not completed, the DELETE_RING of another ring among them. -/
def openJobs (m : Mach) (k : Nat) : List Compl :=
  (heldJobs m).filter (fun c => c.ring == k) ++ (m.hif.deleting.filter (fun x => x.1 != k && x.2.ring == k)).map (·.2)

/-- Whether jobs fetched from command ring k have not completed (03 R107). -/
def ringBusy (m : Mach) (k : Nat) : Bool :=
  m.hif.inflight.any (fun j => j.ring == k) || m.hif.compl.any (fun c => c.ring == k) || openJobs m k != []

/-- The jobs in flight (03 R88): from the fetch to the write of the completion entry. -/
def jobsInFlight (m : Mach) : Nat :=
  m.hif.inflight.length + m.hif.compl.length + ((heldJobs m).filter (fun c => decide (c.ring < 16))).length + m.hif.deleting.length

/-- Jobs in progress lose their ring: a HIF reset discards their completions (03 R111). -/
def detachJobs (m : Mach) : Mach :=
  let cut (c : Compl) : Compl := { c with ring := 16 + c.ring % 16 }
  let cutJob (j : Job) : Job := { j with ring := 16 + j.ring % 16 }
  { m with
    hif := { m.hif with inflight := m.hif.inflight.map cutJob, compl := [], deleting := [] }
    sys := { m.sys with resetting := m.sys.resetting.map (fun x => (x.1, cut x.2)) }
    time := { m.time with jobs := m.time.jobs.map cut }
    twi := { m.twi with exch := m.twi.exch.map (fun e => { e with job := e.job.map cut }), netJob := m.twi.netJob.map cut,
                        reqs := m.twi.reqs.map (fun q => { q with job := cut q.job }) }
    safe := { m.safe with job := m.safe.job.map cut }
    run := { m.run with acts := m.run.acts.map (fun a => { a with job := a.job.map cut }),
                        grps := m.run.grps.map (fun g => (g.1, { g.2 with gearJob := g.2.gearJob.map cut })) }
    duo := { m.duo with ins := m.duo.ins.map (fun x => { x with job := x.job.map cutJob }), job := m.duo.job.map cut }
    tap := { m.tap with jobs := m.tap.jobs.map cut } }

/-- DELETE_RING of a command ring completes after the last job fetched from it (03 R107). -/
def settleDeletes (m : Mach) : Mach :=
  let go := m.hif.deleting.filter (fun x => !ringBusy m x.1)
  let m := { m with hif := { m.hif with deleting := m.hif.deleting.filter (fun x => ringBusy m x.1) } }
  go.foldl (fun m x => addCompl (setF m HIF_CMD_CTRL_STATE x.1 0) x.2) m

/-- Whether a job in flight and not yet started is this one. -/
def sameJob (j x : Job) : Bool := x.ring == j.ring && x.head == j.head && x.num == j.num && x.desc.tag == j.desc.tag

/-- Drops a job from those in flight and not yet started. -/
def dropFlight (m : Mach) (j : Job) : Mach :=
  { m with hif := { m.hif with inflight := m.hif.inflight.filter (fun x => !sameJob j x) } }

/-- Ends a job with its status: its completion entry waits to be written. -/
def finishJob (m : Mach) (j : Job) (status result : Nat) (effect : Option Nat) (detail : Nat := 0) : Mach :=
  let m := dropFlight m j
  settleDeletes (addCompl m (jcompl j status result effect detail))

/-- Whether a job must still wait (03 R88): an earlier job of its ring has not started; with FENCE, SET_LOCK or RESET_BLOCK
an earlier job of its ring has not completed. -/
def jobWaits (m : Mach) (j : Job) : Bool :=
  let earlier := m.hif.inflight.takeWhile (fun x => !sameJob j x)
  let known := m.hif.inflight.any (sameJob j)
  known && (earlier.any (fun x => x.ring == j.ring)
    || ((j.desc.fence || j.desc.opcode == 0x0002 || j.desc.opcode == 0x0004)
        && (m.hif.compl.any (fun c => c.ring == j.ring && c.effect.isSome) || openJobs m j.ring != [])))

/-- Whether a completion must wait for an earlier job of its ring that targets the same block (03 R88). -/
def complWaits (m : Mach) (c : Compl) : Bool :=
  c.effect.isSome
    || m.hif.inflight.any (fun j => j.ring == c.ring && j.desc.opcode / 256 == c.blk && decide (j.num < c.num))
    || (m.hif.compl ++ openJobs m c.ring).any (fun x => x.ring == c.ring && x.blk == c.blk && decide (x.num < c.num))

/-- Whether an input counts only once the partner has acknowledged it: a standby, or a unit from phase 5 of RESYNC on (17 R494,
R511). -/
def mirrors (m : Mach) : Bool :=
  inPair m && getF m PAIR_STAT_ROLE == 1 && onF m PAIR_STAT_LINK_UP
    && (getF m PAIR_STAT_PARTNER == 2 || (getF m PAIR_STAT_PARTNER == 7 && decide (2 ≤ m.duo.fed)))

/-- A frame leaves on the pair link (17 R490): its SEQ is one higher than the last. -/
def duoSend (m : Mach) (f : DuoFrame) : Mach :=
  let q := (m.duo.seq + 1) % 2 ^ 32
  { m with duo := { m.duo with seq := q, tx := m.duo.tx ++ [(q, m.cyc.n % 2 ^ 32, f)] } }

/-- Forwards an input in an INPUT frame; it waits for the acknowledgement. -/
def forwardInput (m : Mach) (x : DuoIn) (p : PairInput) : Mach :=
  let m := duoSend m (.input p)
  { m with duo := { m.duo with ins := m.duo.ins ++ [{ x with seq := m.duo.seq }] } }

/-- Runs a job of the given catalogue opcode: its checks, then its effect, then its completion. A job whose turn has not
come leaves the state as it is; on the active manager of a pair one marked S takes effect with its acknowledgement, but for
TEST_PERTURB, which is never mirrored (25 R674). -/
def runJob (opc : Nat) (eff : Job → Mach → JobRes) (j : Job) (m : Mach) : Mach :=
  let j := { j with desc := { j.desc with opcode := opc } }
  if jobWaits m j then m
  else match descCheck m j.desc with
    | some (st, r) => finishJob (if st = E_HIF_DMA_DENIED then dmaDenied m j.desc.dataAddr else m) j st r none
    | none =>
      let r := eff j m
      if (r.later || r.status == 0) && (jobInfo opc).any (·.std) && opc != 0x1001 && mirrors m then
        forwardInput (dropFlight m j) { job := some j } (.job j)
      else if r.later then dropFlight r.m j else finishJob r.m j r.status r.result r.effect r.detail

/-- Completions that wait for the commit of a cycle become ready with it (03 R103). -/
def releaseEffects (m : Mach) (cycle : Nat) : Mach :=
  { m with hif := { m.hif with compl := m.hif.compl.map (fun c =>
      if c.effect.any (fun e => decide (e ≤ cycle)) then { c with effect := none } else c) } }

end Sys2Proof.Machine
end

