-- ==== Sys2Proof/Machine/Mem.lean ====
section
/-! DEFINITION. The memory system and its error correction (22): decoding of a word with bits in error, poison and its
owner, writes, the scrubber, the error log. -/

namespace Sys2Proof.Machine

/-- Sizes in KiB of the buffers of the working-store allocation (01 R52) in table order; a networked worker's Twira buffers take
1,560 KiB. -/
def allocUsed (m : Mach) : List Nat := [2048, 1024, 1024, if isManager m then 6240 else 1560, 512, 256, 512, 321, 4096]

/-- Sizes in KiB of the rows of the allocation, the free area last. The order in memory is the table's (entry 21). -/
def allocSizes (m : Mach) : List Nat := allocUsed m ++ [24576 - (allocUsed m).foldl (· + ·) 0]

/-- Base address of row `r` of the allocation. -/
def allocBase (m : Mach) (r : Nat) : Nat := 0x10000000 + 1024 * ((allocSizes m).take r).foldl (· + ·) 0

/-- The row of the allocation that holds a working-store address. -/
def allocRow (m : Mach) (a : Nat) : Nat := ((List.range 10).filter (fun r => decide (allocBase m r ≤ a))).length - 1

/-- Whether a buffer of the ownership map holds a working-store address (01 R43, 04 R143): a row of the allocation that an entry of kind 10
assigns on this node, INST being the row's number in the order of R608; the firmware reservation and the area that 01 R52 leaves free for
user buffers need no entry (entry 80). -/
def storeAssigned (m : Mach) (a : Nat) : Bool :=
  let r := allocRow m a
  decide (8 ≤ r) || m.mould.owners.any (fun o => o.kind == 10 && o.inst == r && o.node == nodeId m)

/-- Whether a fabric port may write an address, the buffers of the working store included (01 R43). -/
def portMayWrite (m : Mach) (p a : Nat) : Bool := portWrites p a && (regionOf a != .store || storeAssigned m a)

/-- REGION code of an address of the internal map (R602). -/
def regionCode (a : Nat) : Nat :=
  match regionOf a with
  | .store => 0 | .capture => 1 | .crucible => 2 | .local_ _ => 3 | .supervisor => 4 | _ => 5

/-- The key of the word that holds the byte at an address or, for region 5, an offset. -/
def wordKey (region a : Nat) : Nat := if region = 5 then 2 ^ 40 + a / 8 * 8 else a / 8 * 8

/-- The region of a word's key. -/
def keyRegion (k : Nat) : Nat := if 2 ^ 40 ≤ k then 5 else regionCode k

/-- The program slot whose section holds an offset into a solution buffer: the slot with the highest section offset not
above it (05 R163). -/
def sectionSlot (m : Mach) (off : Nat) : Nat :=
  (m.crucSecs.foldl (fun (best : Nat × Nat) e => if decide (e.2 ≤ off) && decide (best.2 ≤ e.2) then (e.1, e.2) else best) (0, 0)).1

/-- OWNER_KIND and OWNER_ID of a word in a region (R608). -/
def ownerInfo (m : Mach) (region k : Nat) : Nat × Nat :=
  let a := k % 2 ^ 40
  match region with
  | 0 =>
    let r := allocRow m a
    let o := a - allocBase m r
    let sub := match r with
      | 1 => o / 4096 | 2 => o / 32768 | 3 => o / 3120
      | 7 => if o < 1024 then o / 16 else sectionSlot m ((o - 1024) % (160 * 1024))
      | _ => 0
    (10, r * 4096 + sub % 4096)
  | 1 =>
    let seg := 2 ^ (24 - getF m TAP_CFG_NSEG_LOG2)
    (8, if onF m TAP_CFG_CONT then 0xFFF else (a - 0x20000000) / seg)
  | 2 =>
    (0x21, if a < 0x30200000 then 0 else if a < 0x30380000 then 4096 + (a - 0x30200000) / 0x18000 else 8192)
  | 3 => (0x22, (a - 0x50000000) / 0x10000)
  | 4 => (0x20, 0)
  | 5 => (0x24, if a < 0x10000 then a / 0x4000 else 4096)
  | _ => (0x25, a)

/-- A corrected error (R606): counted, positions latched, the threshold notice once. -/
def corrected (m : Mach) (region : Nat) (pos : List Nat) : Mach :=
  let m := incF (flag m MEM_FLAGS_CE) MEM_CE_CNT_CNT region 1
  let lo := pos.foldl min 0x7F
  let hi := if pos.length < 2 then 0x7F else pos.foldl max 0
  let m := setF (setF m MEM_LAST_INFO_BIT0 0 lo) MEM_LAST_INFO_BIT1 0 hi
  let thr := getF m MEM_CE_THR_THR
  if thr != 0 && decide (thr ≤ getF m MEM_CE_CNT_CNT region) && !m.memb.thrSaid.contains region then
    let m := irq (notice m E_MEM_CE_THRESHOLD region) 252
    { m with memb := { m.memb with thrSaid := insNat region m.memb.thrSaid } }
  else m

/-- The 16 B record of an uncorrectable word (R611). -/
def errRecord (m : Mach) (addr region source port : Nat) (own : Nat × Nat) : List Nat :=
  leBytes 4 addr ++ leBytes 1 region ++ leBytes 1 source ++ leBytes 1 port ++ leBytes 1 own.1 ++ leBytes 2 own.2
    ++ leBytes 2 0 ++ leBytes 4 m.cyc.n

/-- First detection of an uncorrectable word (R607): counted, latched, logged, reported. -/
def uncorrectable (m : Mach) (k region source port : Nat) : Mach :=
  let own := if region = 6 then (0x25, port) else ownerInfo m region k
  let m := incF (flag m MEM_FLAGS_UE) MEM_UE_CNT_CNT 0 1
  let m := setF (setF (setF (setF m MEM_LAST_ADDR_ADDR 0 k) MEM_LAST_INFO_REGION 0 region) MEM_LAST_INFO_SOURCE 0 source)
    MEM_LAST_INFO_PORT 0 port
  let m := { m with memb := { m.memb with log := lastN 64 (m.memb.log ++ [errRecord m (k % 2 ^ 32) region source port own]) } }
  logNode (irq m 253) E_MEM_UNCORR (own.2 + own.1 * 2 ^ 16 + region * 2 ^ 24 + source * 2 ^ 27)

/-- The stored bits in error of a word. -/
def flipsOf (m : Mach) (k : Nat) : List Nat := ((m.memb.flips.find? (fun e => e.1 == k)).map (·.2)).getD []

/-- Bits in error after `pos` have flipped as well: a position flipped twice is right again. -/
def xorPos (l pos : List Nat) : List Nat := pos.foldl (fun l p => if l.contains p then l.filter (· != p) else insNat p l) l

/-- Sets the bits in error of a word. -/
def setFlips (m : Mach) (k : Nat) (l : List Nat) : Mach :=
  let rest := m.memb.flips.filter (fun e => e.1 != k)
  { m with memb := { m.memb with flips := if l = [] then rest else rest ++ [(k, l)] } }

/-- The key of the word of the schedule memory that holds an entry: each line has 16 KiB of region 5; which word of it is open (12 R364,
22 R608, entry 143). -/
def schedKey (e : SchedEnt) : Nat :=
  2 ^ 40 + 0x4000 * (e.line % 4) + 8 * (Config.schedPlace ((e.mode * 2 + e.ch) * 256 + e.slot) % 2048)

/-- The bits in which the word of the schedule memory at a key differs from what was written. -/
def setXor (m : Mach) (k x : Nat) : Mach := { m with memb := { m.memb with xor := sput m.memb.xor k x 0 } }

/-- An entry as its word holds it, SCH_DATA_0 and then SCH_DATA_1 (12 R381); none where VALID reads 0. -/
def damaged (m : Mach) (e : SchedEnt) : Option SchedEnt :=
  let x := sget m.memb.xor (schedKey e) 0
  let e' : SchedEnt := { e with
    start := e.start ^^^ bits x 0 20, owner := e.owner ^^^ bits x 32 6, kind := e.kind ^^^ bits x 38 3, gev := e.gev ^^^ bits x 42 3,
    rx := if x.testBit 41 then e.rx ^^^ 2 ^ nodeId m else e.rx, plen := 4 * (e.plen / 4 ^^^ bits x 48 9) }
  if x = 0 then some e else if x.testBit 45 then none else some e'

/-- The entries of the schedule memory as TWI reads them. -/
def schedNow (m : Mach) : List SchedEnt := if m.memb.xor = [] then m.sched else m.sched.filterMap (damaged m)

/-- Flips data bits of the word stored at a key. -/
def flipData (m : Mach) (k : Nat) (l : List Nat) : Mach :=
  if 2 ^ 40 ≤ k then setXor m k (sget m.memb.xor k 0 ^^^ maskOf (l.filter (· < 64)))
  else (l.filter (· < 64)).foldl (fun m p => wrByte m (k + p / 8) (rdByte m (k + p / 8) ^^^ 2 ^ (p % 8))) m

/-- Marks a word as poisoned, with its data as read (R607). -/
def poisonWord (m : Mach) (k : Nat) (l : List Nat) : Mach :=
  let m := flipData (setFlips m k []) k l
  { m with memb := { m.memb with poison := insNat k m.memb.poison, due := m.memb.due.filter (· != k) } }

/-- Decodes the stored word `k` for a reader (R604): up to two bits are corrected, three make it uncorrectable, four or more
have an open outcome. -/
def decodeWord (m : Mach) (k source port : Nat) : Mach :=
  let l := flipsOf m k
  let region := keyRegion k
  if l = [] then m
  else if l.length ≤ 2 then
    let m := corrected m region l
    if onF m MEM_CTRL_WB_EN then { m with memb := { m.memb with due := insNat k m.memb.due } } else m
  else if l.length = 3 then poisonWord (uncorrectable m k region source port) k l
  else
    let r := fresh m 1
    if r.1 = 0 then poisonWord (uncorrectable r.2 k region source port) k l
    else
      let v := fresh r.2 64
      let m := setFlips v.2 k []
      if 2 ^ 40 ≤ k then setXor m k v.1 else (List.range 8).foldl (fun m i => wrByte m (k + i) (bits v.1 (8 * i) 8)) m

/-- A write of half `h` of the word of an entry (22 R605): it is decoded first, and stays poisoned where it was. -/
def schedPartial (m : Mach) (e : SchedEnt) (h port : Nat) : Mach :=
  let k := schedKey e
  let m := decodeWord m k 4 port
  let m := setFlips { m with memb := { m.memb with due := m.memb.due.filter (· != k) } } k []
  setXor m k (let x := sget m.memb.xor k 0; if h = 0 then x / 2 ^ 32 * 2 ^ 32 else x % 2 ^ 32)

/-- The schedule memory is written whole: every word of it is fresh. -/
def schedFresh (m : Mach) : Mach :=
  let out (k : Nat) : Bool := decide (k < 2 ^ 40 ∨ 2 ^ 40 + 0x10000 ≤ k)
  { m with memb := { m.memb with xor := [], poison := m.memb.poison.filter out, due := m.memb.due.filter out,
                                 flips := m.memb.flips.filter (fun e => out e.1) } }

/-- The keys of the words that hold [a, a + n). -/
def wordsIn (a n : Nat) : List Nat := (List.range ((a + n + 7) / 8 - a / 8)).map (fun i => 8 * (a / 8 + i))

/-- Whether a read of `n` bytes at `a` meets a poisoned word. -/
def poisoned (m : Mach) (a n : Nat) : Bool := (wordsIn a n).any (fun k => m.memb.poison.contains k)

/-- A read of `n` bytes at `a` by a port (R604 to R607): the state after it and whether poison was met. A word that was
poisoned before is counted. -/
def eccRead (m : Mach) (a n port : Nat) : Mach × Bool :=
  let old := poisoned m a n
  let m := (wordsIn a n).foldl (fun m k => decodeWord m k 0 port) m
  let m := if old then incF (flag m MEM_FLAGS_POISON_READ) MEM_POISON_READ_CNT_CNT 0 1 else m
  (m, poisoned m a n)

/-- Writes bytes from address `a` on (R605): a word written whole is fresh, a word written in part is decoded first and a
poisoned one stays poisoned. -/
def wrBytes (m : Mach) (a : Nat) (l : List Nat) (port : Nat := 0) : Mach :=
  let whole (k : Nat) : Bool := decide (a ≤ k ∧ k + 8 ≤ a + l.length)
  let ks := wordsIn a l.length
  let m := (ks.filter (fun k => !whole k)).foldl (fun m k =>
    let m := decodeWord m k 4 port
    setFlips { m with memb := { m.memb with due := m.memb.due.filter (· != k) } } k []) m
  let keep (k : Nat) : Bool := !(ks.contains k && whole k)
  let m := { m with memb := { m.memb with poison := m.memb.poison.filter keep, due := m.memb.due.filter keep,
                                          flips := m.memb.flips.filter (fun e => keep e.1) } }
  (l.zipIdx a).foldl (fun m x => wrByte m x.2 x.1) m

/-- Writes an `n`-byte little-endian value. -/
def wrVal (m : Mach) (a n v : Nat) (port : Nat := 0) : Mach := wrBytes m a (leBytes n v) port

/-- CORRECTED_WRITE_BACK (R606): the corrected codeword goes back unless a write has replaced the word. -/
def correctedWriteBack (k : Nat) (m : Mach) : Mach :=
  if !m.memb.due.contains k then m
  else setFlips { m with memb := { m.memb with due := m.memb.due.filter (· != k) } } k []

/-- CORRECTED_WRITE_BACK. -/
def execCorrectedWriteBack (k : Nat) (s : State) : Out := done (correctedWriteBack k) s

/-! ## The scrubber (R610) -/

/-- Lines of 32 B of a region (R602). -/
def scrubLines (region : Nat) : Nat := match region with | 0 => 786432 | 1 => 524288 | 2 => 131072 | 3 => 65536 | 4 => 32768 | _ => 3072

/-- Address, or for region 5 the offset, of a scrub line. -/
def scrubAddr (region line : Nat) : Nat :=
  (match region with | 0 => 0x10000000 | 1 => 0x20000000 | 2 => 0x30000000 | 3 => 0x50000000 | _ => 0) + 32 * line

/-- The scrubber's next line; at the end of region 5 the pass ends. -/
def scrubAdvance (m : Mach) : Mach :=
  let r := getF m MEM_SCRUB_STAT_REGION
  let l := getF m MEM_SCRUB_STAT_LINE
  if l + 1 < scrubLines r then setF m MEM_SCRUB_STAT_LINE 0 (l + 1)
  else if r < 5 then setF (setF m MEM_SCRUB_STAT_LINE 0 0) MEM_SCRUB_STAT_REGION 0 (r + 1)
  else
    let m := incF (setF (setF m MEM_SCRUB_STAT_LINE 0 0) MEM_SCRUB_STAT_REGION 0 0) MEM_SCRUB_PASS_CNT 0 1
    { m with memb := { m.memb with ended := !m.memb.late, late := false } }

/-- SCRUB_READ (R610): the scrubber reads its next line. `upsets` gives, for words 0 to 3 of the line, bits that have
flipped since they were last read. Crucible memory waits for the Crucible window to close. -/
def scrubRead (upsets : List (Nat × List Nat)) (m : Mach) : Mach :=
  let r := getF m MEM_SCRUB_STAT_REGION
  if !onF m MEM_CTRL_SCRUB_EN || m.memb.ended || (r == 2 && onF m CRUC_STATUS_WINDOW) then m
  else
    let base := wordKey r (scrubAddr r (getF m MEM_SCRUB_STAT_LINE))
    let m := upsets.foldl (fun m u =>
      if 4 ≤ u.1 then m
      else
        let k := base + 8 * u.1
        if m.memb.poison.contains k then m else setFlips m k (xorPos (flipsOf m k) (u.2.filter (· < 80)))) m
    scrubAdvance ((List.range 4).foldl (fun m i => decodeWord m (base + 8 * i) 1 0xFF) m)

/-- SCRUB_READ. -/
def execScrubRead (upsets : List (Nat × List Nat)) (s : State) : Out := done (scrubRead upsets) s

/-- SCRUB_PERIOD_EXPIRY (R610): a pass that has not ended is late; one that has ended is followed by the next. -/
def scrubPeriod (m : Mach) : Mach :=
  if !onF m MEM_CTRL_SCRUB_EN then m
  else if m.memb.ended then { m with memb := { m.memb with ended := false } }
  else
    let m := { m with memb := { m.memb with late := true } }
    logNode (flag m MEM_FLAGS_SCRUB_LATE) E_MEM_SCRUB_LATE (getF m MEM_SCRUB_STAT_REGION)

/-- SCRUB_PERIOD_EXPIRY. -/
def execScrubPeriodExpiry (s : State) : Out := done scrubPeriod s

/-- MEM_ERR_LOG (R611): whole records, oldest first. -/
def execMemErrLog (j : Job) (s : State) : Out :=
  done (runJob 0x0F01 (fun j m =>
    let r := dataOut m j.desc ((m.memb.log.take (j.desc.dataLen / 16)).flatMap id)
    { m := r.1, result := r.2 }) j) s

/-- The poison reaction of a reader that reports it with class LOG (R609). -/
def poisonLog (m : Mach) (a : Nat) : Mach := logNode m E_MEM_POISON_READ (a % 2 ^ 28 + regionCode a * 2 ^ 28)

/-- The address of the first poisoned word of [a, a + n). -/
def poisonAt (m : Mach) (a n : Nat) : Nat := ((wordsIn a n).find? (fun k => m.memb.poison.contains k)).getD a

/-- A read by a reader that reports poison with class LOG (R609): the state after it and whether poison was met. -/
def logRead (a n port : Nat) (m : Mach) : Mach × Bool :=
  let r := eccRead m a n port
  (if r.2 then poisonLog r.1 (poisonAt r.1 a n) else r.1, r.2)

end Sys2Proof.Machine
end

