-- ==== Sys2Proof/Machine/Image.lean ====
section
/-! DEFINITION. The model image (04 R115 to R135): its sections as records, and the checks of R124 that need only the
image, the node and the registers. Every check answers none or the code with the section ID and the entry at fault. -/

namespace Sys2Proof.Machine

/-- A failed check: code, section ID, entry. -/
abbrev Fail := Nat × Nat × Nat

/-- Fails where `b` is false. -/
def need (b : Bool) (code sec idx : Nat) : Option Fail := if b then none else some (code, sec, idx)

/-- The first failure of a list of checks. -/
def firstFail (l : List (Option Fail)) : Option Fail := l.findSome? id

/-- The first failure of a check over the elements of a list with their index. -/
def failAt {α : Type} (l : List α) (f : α → Nat → Option Fail) : Option Fail := (l.zipIdx).findSome? (fun x => f x.1 x.2)

/-- The index of the first number that is not above the one before it. -/
def firstDrop (l : List Nat) : Option Nat := (((l.zip (l.drop 1)).findIdx? (fun p => decide (p.2 ≤ p.1))).map (· + 1))

/-- Fails at the first number of a list that is not above the one before it. -/
def needRising (l : List Nat) (code sec : Nat) : Option Fail := (firstDrop l).map (fun i => (code, sec, i))

/-- Fails at the first element with which the sum of a list's weights exceeds a limit. -/
def needSum {α : Type} (l : List α) (w : α → Nat) (limit code sec : Nat) : Option Fail :=
  failAt l (fun _ i => need (decide ((l.take (i + 1)).foldl (fun n x => n + w x) 0 ≤ limit)) code sec i)

/-- Fails at the first element of a list beyond a count. -/
def needCount {α : Type} (l : List α) (limit code sec : Nat) : Option Fail := need (decide (l.length ≤ limit)) code sec limit

/-- Whether `n` bytes from offset `o` are 0. -/
def zeros (l : List Nat) (o n : Nat) : Bool := ((l.drop o).take n).all (· == 0)

/-- The records of `n` bytes that follow `hdr` bytes, at most `cnt` of them. -/
def records (l : List Nat) (hdr n cnt : Nat) : List (List Nat) := (List.range cnt).map (fun i => (l.drop (hdr + n * i)).take n)

/-- A signed 32-bit field. -/
def s32 (l : List Nat) (o : Nat) : Int := sgn 32 (field l o 4)

/-- One byte into the reflected CRC-32 (12 R357). -/
def crcByte (c b : Nat) : Nat :=
  (List.range 8).foldl (fun c _ => if c % 2 = 1 then (c / 2) ^^^ 0xEDB88320 else c / 2) (c ^^^ (b % 256))

/-- CRC-32 with the IEEE 802.3 polynomial: reflected, initial value all ones, complemented (12 R357). -/
def crc32 (l : List Nat) : Nat := foldNat crcByte l 0xFFFFFFFF ^^^ 0xFFFFFFFF

/-! ## Sections (R115, R116) -/

/-- A section-table entry. -/
structure SecEnt where
  id : Nat
  flags : Nat
  off : Nat
  len : Nat
  crc : Nat
  deriving DecidableEq, Repr

/-- The section table. -/
def secTable (img : List Nat) : List SecEnt :=
  (records img 64 16 (field img 6 2)).map (fun r => { id := field r 0 2, flags := field r 2 2, off := field r 4 4, len := field r 8 4, crc := field r 12 4 })

/-- A section's bytes, if the image holds it. -/
def secOf (img : List Nat) (id : Nat) : Option (List Nat) :=
  ((secTable img).find? (fun e => e.id == id)).map (fun e => (img.drop e.off).take e.len)

/-- A section's bytes, empty where the image does not hold it. -/
def sec (img : List Nat) (id : Nat) : List Nat := (secOf img id).getD []

/-- Node records (R118). -/
def nodesOf (img : List Nat) : List NodeRec :=
  let s := sec img 1
  (records s 16 16 (field s 0 1)).map (fun r =>
    { node := field r 0 1, role := field r 1 1, lines := field r 2 1, pos := field r 3 1, flags := field r 4 1,
      partLen := field r 8 4, partCrc := field r 12 4 })

/-- Axis records (R127). -/
def axesOf (img : List Nat) : List AxisRec :=
  let s := sec img 2
  (records s 0 32 (s.length / 32)).map (fun r =>
    { axis := field r 0 1, node := field r 1 1, slot := field r 2 1, feedback := field r 3 1, num := s32 r 4, den := field r 8 4,
      shift := sgn 8 (field r 12 1), group := field r 13 1, kind := field r 14 1, home := sgn 64 (field r 16 8) })

/-- Counts of the GROUPS header: NGRP, NSET, NAX, NLIM (R119). -/
def grpCounts (img : List Nat) : Nat × Nat × Nat × Nat :=
  let s := sec img 3
  (field s 0 1, field s 1 1, field s 2 2, field s 4 2)

/-- Group records (R119). -/
def groupsOf (img : List Nat) : List GroupRec :=
  let s := sec img 3
  (records s 16 96 (grpCounts img).1).map (fun r =>
    { group := field r 0 1, kind := field r 1 1, chain := field r 2 1, set := field r 3 1, axes := field r 4 1, cfg := field r 8 4,
      kt := field r 12 4, ovr := field r 16 4, toolOrigin := (List.range 3).map (fun i => s32 r (20 + 4 * i)),
      toolRot := (List.range 9).map (fun i => s32 r (32 + 4 * i)) })

/-- Coupled-set records (R119). -/
def setsOf (img : List Nat) : List SetRec :=
  let s := sec img 3
  let c := grpCounts img
  (records s (16 + 96 * c.1) 16 c.2.1).map (fun r => { lead := field r 0 1, omask := field r 1 1, gmask := field r 4 4 })

/-- Axis limit records (R119). -/
def axLimsOf (img : List Nat) : List AxLim :=
  let s := sec img 3
  let c := grpCounts img
  (records s (16 + 96 * c.1 + 16 * c.2.1) 16 c.2.2.1).map (fun r =>
    { axis := field r 0 1, vmax := field r 4 4, amax := field r 8 4, jmax := field r 12 4 })

/-- Limit-input records (R119). -/
def limsOf (img : List Nat) : List LimRec :=
  let s := sec img 3
  let c := grpCounts img
  (records s (16 + 96 * c.1 + 16 * (c.2.1 + c.2.2.1)) 16 c.2.2.2).map (fun r =>
    { node := field r 0 1, slot := field r 1 1, cfg := field r 4 4, margin := field r 8 4 })

/-- Numbers joint records by chain. A record whose PARENT is the chain base begins a chain; the base poses, 48 B each, follow
the joint records (entry 22). -/
def chainNumbers (c : Nat) : List (List Nat) → List (Nat × List Nat)
  | [] => []
  | r :: t => if field r 1 1 = 0xFF then (c, r) :: chainNumbers (c + 1) t else (c - 1, r) :: chainNumbers c t

/-- Joint records and chain count of CHAINS: `j` joints and `c` chains with 128 j + 48 c bytes, at least one joint a chain. -/
def chainCounts (s : List Nat) : Option (Nat × Nat) :=
  (List.range (s.length / 176 + 1)).findSome? (fun c =>
    let n := s.length - 48 * c
    if 48 * c ≤ s.length ∧ n % 128 = 0 ∧ ((records s 0 128 (n / 128)).filter (fun r => field r 1 1 == 0xFF)).length = c
    then some (n / 128, c) else none)

/-- The joint records with their chain. -/
def jointRaw (img : List Nat) : List (Nat × List Nat) :=
  let s := sec img 4
  match chainCounts s with
  | none => []
  | some (j, _) => chainNumbers 0 (records s 0 128 j)

/-- Joint records (R131). -/
def jointsOf (img : List Nat) : List JointRec :=
  (jointRaw img).map (fun x =>
    { chain := x.1, typ := field x.2 0 1, parent := field x.2 1 1, axis := field x.2 2 2,
      qMin := s32 x.2 104, qMax := s32 x.2 108 })

/-- Chain count. -/
def nChains (img : List Nat) : Nat := ((chainCounts (sec img 4)).map (·.2)).getD 0

/-- Base poses of the chains. -/
def basesOf (img : List Nat) : List (List Int) :=
  let s := sec img 4
  match chainCounts s with
  | none => []
  | some (j, c) => (records s (128 * j) 48 c).map (fun r => (List.range 12).map (fun i => s32 r (4 * i)))

/-- Object records of HELD with their grasp records (R120). -/
def heldOf : Nat → List Nat → List (List Nat × List (List Nat))
  | 0, _ => []
  | k + 1, l =>
    let g := field l 1 1
    (l.take 96, records l 96 256 g) :: heldOf k (l.drop (96 + 256 * g))

/-- The objects of an image. -/
def objectsOf (img : List Nat) : List (List Nat × List (List Nat)) := heldOf (field (sec img 5) 0 1) ((sec img 5).drop 16)

/-- Capsule records (R121). -/
def capsOf (img : List Nat) : List (List Nat) := records (sec img 6) 16 32 (field (sec img 6) 0 2)

/-- Pair lists of CAPSULES: slot, threshold and pairs (R121); the last component is what is left of the section. -/
def pairLists : Nat → List Nat → List (List Nat × List (List Nat)) × List Nat
  | 0, l => ([], l)
  | k + 1, l =>
    let n := field l 2 2
    let r := pairLists k (l.drop (8 + 4 * n))
    ((l.take 8, records l 8 4 n) :: r.1, r.2)

/-- The DIST pair lists of an image, with the rest of the section. -/
def distOf (img : List Nat) : List (List Nat × List (List Nat)) × List Nat :=
  let s := sec img 6
  pairLists (field s 2 1) (s.drop (16 + 32 * field s 0 2))

/-- Format entries (R134). -/
def formatsOf (img : List Nat) : List FmtRec :=
  let s := sec img 7
  (records s 0 16 (s.length / 16)).map (fun r => { var := field r 0 4, shift := field r 4 1, lo := s32 r 8, hi := s32 r 12 })

/-- The template entries of GRAPH as raw descriptors (18 R516). -/
def graphRaw (img : List Nat) : List (List Nat) := records (sec img 9) 32 32 (field (sec img 9) 8 4)

/-- A counter field, none for 0xFFFF. -/
def cntField (x : Nat) : Option Nat := if x = 0xFFFF then none else some x

/-- A work item from its descriptor and the EXT entries after it (18 R514, R515). -/
def itemOf (d : List Nat) (ext : List (List Nat)) : Item :=
  { kind := field d 0 1, rsv := (field d 1 1).testBit 0, prio := bits (field d 1 1) 1 3, target := field d 2 2, affinity := field d 4 4,
    cnt := cntField (field d 8 2), init := cntField (field d 10 2),
    succs := ((List.range 4).map (fun i => field d (12 + 2 * i) 2) ++
      ext.flatMap (fun e => (List.range (field e 1 1)).map (fun i => field e (4 + 2 * i) 2))).filter (· != 0xFFFF),
    arg := field d 20 4, runLim := field d 24 4, dl := field d 28 2, home := field d 30 1 }

/-- The items among template entries: each entry that is not EXT, with the EXT entries after it. -/
def itemsOf : List (List Nat) → List Item
  | [] => []
  | d :: r => if field d 0 1 = 4 then itemsOf r else itemOf d (r.takeWhile (fun e => field e 0 1 == 4)) :: itemsOf r

/-- The items of the cycle graph. -/
def graphItems (img : List Nat) : List Item := itemsOf ((graphRaw img).take (field (sec img 9) 4 4))

/-- Reaction records (R122). -/
def reacsOf (img : List Nat) : List ReacRec :=
  let s := sec img 10
  (records s 16 16 (field s 0 2)).map (fun r =>
    { code := field r 0 2, cls := field r 2 1, scope := field r 3 1, index := field r 4 2, groups := field r 8 4 })

/-- Groups of the 32 safety axis sets (R122). -/
def setMapOf (img : List Nat) : List Nat :=
  let s := sec img 10
  (records s (16 + 16 * field s 0 2) 8 32).map (fun r => field r 0 4)

/-- Static ownership entries (R123). -/
def ownersOf (img : List Nat) : List OwnRec :=
  let s := sec img 11
  (records s 16 48 (field s 0 2)).map (fun r =>
    { kind := field r 0 1, inst := field r 1 1, node := field r 2 1, func := field r 3 1, arg := field r 4 4,
      setup := (List.range 8).map (fun i => field r (16 + 4 * i) 4) })

/-- Power-stage records of LIMITS (10 R329). -/
def limitsRaw (img : List Nat) : List (List Nat) := records (sec img 12) 0 64 ((sec img 12).length / 64)

/-- Loop records (09 R297). -/
def loopsRaw (img : List Nat) : List (List Nat) := records (sec img 14) 0 128 ((sec img 14).length / 128)

/-- Raw slot entries of SCHEDULE (12 R363). -/
def schedRaw (img : List Nat) : List (List Nat) := records (sec img 13) 96 24 (field (sec img 13) 0 4)

/-- A slot entry. -/
def schedEnt (r : List Nat) : SchedEnt :=
  { mode := field r 0 1 % 8, line := field r 1 1 % 4, ch := field r 1 1 / 4 % 2, slot := field r 2 1, kind := field r 3 1 % 8,
    gev := field r 3 1 / 8 % 8, start := field r 4 4 % 2 ^ 20, plen := field r 8 2, owner := field r 10 1 % 64, rx := field r 16 8 }

/-! ## Step 1: format (R115, R116, R118 to R123, 12 R364) -/

/-- Header and section table. -/
def step1Header (img : List Nat) : Option Fail :=
  let t := secTable img
  firstFail
    [need (field img 0 4 == 0x4D4C4455 && field img 4 2 == 2) E_SYS_MODEL_FORMAT 0 0,
     need (field img 8 4 == img.length && decide (128 ≤ img.length ∧ img.length ≤ 2097152)) E_SYS_MODEL_FORMAT 0 0,
     need (decide (field img 16 2 ≤ 4)) E_SYS_MODEL_FORMAT 0 0,
     need (decide (1 ≤ field img 6 2 ∧ field img 6 2 < 32)) E_SYS_MODEL_FORMAT 0 0,
     need (zeros img 32 32) E_SYS_MODEL_FORMAT 0 0,
     need (field img 28 4 == crc32 (img.take 28 ++ [0, 0, 0, 0] ++ img.drop 32)) E_SYS_MODEL_FORMAT 0 0,
     failAt t (fun e i => need (e.flags == 0 && e.off % 16 == 0 && decide (64 + 16 * t.length ≤ e.off ∧ e.off + e.len ≤ img.length)
       && decide (1 ≤ e.id ∧ e.id ≤ 14) && crc32 ((img.drop e.off).take e.len) == e.crc) E_SYS_MODEL_FORMAT e.id i),
     failAt t (fun e i => need ((t.zipIdx).all (fun f => f.2 == i ||
       (f.1.id != e.id && (decide (f.1.off + f.1.len ≤ e.off) || decide (e.off + e.len ≤ f.1.off))))) E_SYS_MODEL_FORMAT e.id i)]

/-- Whether an image holds the whole model: on a manager and with CONFIG 0 or 1. A networked worker gets its part, the node's own
records, and the checks that take the records of other nodes or sections for managers only do not apply there (R126, entry 86). -/
def wholeModel (m : Mach) (img : List Nat) : Bool := isManager m || decide (field img 18 2 < 2)

/-- Required sections for the CONFIG (R116, entry 23); those for managers only are not part of a worker's part. -/
def step1Required (whole : Bool) (img : List Nat) : Option Fail :=
  let cfg := field img 18 2
  let has (id : Nat) : Bool := (secOf img id).isSome
  let req := [2, 3, 9, 10, 11, 12] ++ (if cfg = 0 ∨ !whole then [] else [6, 7, 8]) ++ (if cfg = 2 ∨ cfg = 3 then [1, 13] else [])
    ++ (if (groupsOf img).any (fun g => g.kind == 1) then [4] else []) ++ (if (setsOf img).any (fun s => s.omask != 0) then [5] else [])
    ++ (if (axesOf img).isEmpty then [] else [14])
  if 4 ≤ cfg then none else failAt req (fun id _ => need (has id) E_SYS_MODEL_FORMAT id 0)

/-- Section headers, lengths and counts. -/
def step1Lengths (img : List Nat) : Option Fail :=
  let f (id : Nat) (b : List Nat → Bool) : Option Fail :=
    match secOf img id with
    | none => none
    | some s => need (b s) E_SYS_MODEL_FORMAT id 0
  let c := grpCounts img
  firstFail
    [f 1 (fun s => decide (1 ≤ field s 0 1 ∧ field s 0 1 ≤ 34) && s.length == 16 + 16 * field s 0 1 && zeros s 1 15),
     f 2 (fun s => s.length % 32 == 0),
     f 3 (fun s => decide (1 ≤ c.1 ∧ c.1 ≤ 32 ∧ c.2.1 ≤ 8 ∧ c.2.2.1 ≤ 256 ∧ c.2.2.2 ≤ 512) && zeros s 6 10
       && s.length == 16 + 96 * c.1 + 16 * (c.2.1 + c.2.2.1 + c.2.2.2)),
     f 4 (fun s => (chainCounts s).isSome),
     f 5 (fun s => decide (field s 0 1 ≤ 8) && zeros s 1 15
       && s.length == 16 + (objectsOf img).foldl (fun n o => n + 96 + 256 * field o.1 1 1) 0),
     f 6 (fun s => decide (field s 0 2 ≤ 256) && zeros s 3 13 && (distOf img).2.isEmpty
       && (distOf img).1.all (fun p => p.1.length == 8 && p.2.all (fun e => e.length == 4))),
     f 7 (fun s => s.length % 16 == 0),
     f 9 (fun s => decide (1 ≤ field s 0 2 ∧ field s 0 2 ≤ 224 ∧ field s 2 2 ≤ 4096 ∧ field s 4 4 ≤ field s 8 4 ∧ field s 8 4 ≤ 16384)
       && zeros s 16 16 && s.length == 32 + 32 * field s 8 4
       && (itemsOf ((graphRaw img).take (field s 4 4))).length == field s 0 2),
     f 10 (fun s => decide (field s 0 2 ≤ 256 ∧ 1 ≤ field s 2 1 ∧ field s 2 1 ≤ 15) && zeros s 3 13
       && s.length == 16 + 16 * field s 0 2 + 256),
     f 11 (fun s => decide (field s 0 2 ≤ 1024) && zeros s 2 14 && s.length == 16 + 48 * field s 0 2),
     f 12 (fun s => s.length % 64 == 0),
     f 13 (fun s => zeros s 11 1 && zeros s 72 24 && s.length == 96 + 24 * field s 0 4),
     f 14 (fun s => s.length % 128 == 0)]

/-- Reserved bytes of the records. -/
def step1Reserved (img : List Nat) : Option Fail :=
  let c := grpCounts img
  let g (id hdr n cnt : Nat) (b : List Nat → Bool) : Option Fail :=
    failAt (records (sec img id) hdr n cnt) (fun r i => need (b r) E_SYS_MODEL_FORMAT id i)
  firstFail
    [g 1 16 16 (nodesOf img).length (fun r => zeros r 5 3 && decide (field r 4 1 < 4)),
     g 2 0 32 (axesOf img).length (fun r => zeros r 15 1 && zeros r 24 8 && bits (field r 3 1) 4 3 == 0),
     g 3 16 96 c.1 (fun r => zeros r 5 3 && zeros r 68 28),
     g 3 (16 + 96 * c.1) 16 c.2.1 (fun r => zeros r 2 2 && zeros r 8 8),
     g 3 (16 + 96 * c.1 + 16 * c.2.1) 16 c.2.2.1 (fun r => zeros r 1 3),
     g 3 (16 + 96 * c.1 + 16 * (c.2.1 + c.2.2.1)) 16 c.2.2.2 (fun r => zeros r 2 2 && zeros r 12 4),
     failAt (jointRaw img) (fun x i => need (zeros x.2 116 12) E_SYS_MODEL_FORMAT 4 i),
     failAt (objectsOf img) (fun o i => need (zeros o.1 69 27 && o.2.all (fun r => zeros r 3 1 && zeros r 228 28)) E_SYS_MODEL_FORMAT 5 i),
     failAt (capsOf img) (fun r i => need (zeros r 2 2) E_SYS_MODEL_FORMAT 6 i),
     failAt (distOf img).1 (fun p i => need (zeros p.1 1 1) E_SYS_MODEL_FORMAT 6 i),
     g 7 0 16 (formatsOf img).length (fun r => zeros r 5 3),
     failAt (graphRaw img) (fun r i => need (if field r 0 1 = 4 then zeros r 2 2 else decide (field r 1 1 < 16)) E_SYS_MODEL_FORMAT 9 i),
     g 10 16 16 (reacsOf img).length (fun r => zeros r 6 2 && zeros r 12 4),
     g 10 (16 + 16 * (reacsOf img).length) 8 32 (fun r => zeros r 4 4),
     g 11 16 48 (ownersOf img).length (fun r => zeros r 8 8 && (field r 0 1 == 5 || zeros r 16 32)),
     failAt (limitsRaw img) (fun r i => need (zeros r 2 2 && zeros r 56 8) E_SYS_MODEL_FORMAT 12 i),
     failAt (schedRaw img) (fun r i => need (decide (field r 0 1 < 8 ∧ field r 1 1 < 8 ∧ field r 3 1 < 64 ∧ field r 4 4 < 2 ^ 20 ∧
       field r 10 1 < 64) && zeros r 11 5) E_SYS_MODEL_FORMAT 13 i),
     failAt (loopsRaw img) (fun r i => need (zeros r 2 2 && zeros r 120 8) E_SYS_MODEL_FORMAT 14 i)]

/-- TAG_m is the CRC of the entries of mode m (12 R364). -/
def step1Tags (img : List Nat) : Option Fail :=
  match secOf img 13 with
  | none => none
  | some s => failAt (List.range 7) (fun k i =>
      let es := (schedRaw img).filter (fun r => field r 0 1 == k + 1)
      need (field s (12 + 4 * k) 4 == crc32 (es.flatMap id)) E_SYS_MODEL_FORMAT 13 i)

/-- Step 1 of R124. -/
def step1 (whole : Bool) (img : List Nat) : Option Fail :=
  firstFail [step1Header img, step1Required whole img, step1Lengths img, step1Reserved img, step1Tags img]

/-! ## Steps 2 to 4 -/

/-- Step 2: CONFIG, node IDs and straps, the managers, workers and lines of the configuration (00 R4 to R6). With CONFIG 0 or 1 the cell is
the loading node alone and has no network, so NODES, where the image holds it, names no other node and no line (entry 129). -/
def step2 (m : Mach) (img : List Nat) : Option Fail :=
  let cfg := field img 18 2
  let me := nodeId m
  let own (n : Nat) : Bool := !(cfg == 0 || cfg == 1) || n == me
  let mgrs := (nodesOf img).filter (fun n => n.role == 1)
  let lines (n : NodeRec) : Nat := (bitsOf 8 n.lines).length
  firstFail
    [need (decide (cfg < 4)) E_SYS_MODEL_ROLE 0 0,
     need (if cfg = 0 then !isManager m else if cfg = 1 then isManager m else true) E_SYS_MODEL_ROLE 0 0,
     failAt (nodesOf img) (fun n i => need (decide (n.node < 34) && (n.role == 1) == decide (n.node < 2) && decide (n.role < 2)) E_SYS_MODEL_ROLE 1 i),
     failAt (nodesOf img) (fun n i => need (2 ≤ cfg || (n.node == me && n.lines == 0)) E_SYS_MODEL_ROLE 1 i),
     need (cfg < 2 || (nodesOf img).any (fun n => n.node == me && (n.role == 1) == isManager m)) E_SYS_MODEL_ROLE 1 0,
     need (cfg != 2 || mgrs.length == 1 || !isManager m) E_SYS_MODEL_ROLE 1 0,
     need (cfg != 3 || mgrs.length == 2 || !isManager m) E_SYS_MODEL_ROLE 1 0,
     failAt (nodesOf img) (fun n i => need (cfg < 2 || decide (1 ≤ lines n ∧ lines n ≤ 4)) E_SYS_MODEL_ROLE 1 i),
     failAt (axesOf img) (fun a i => need (own a.node && !(cfg == 3 && decide (a.node < 2))) E_SYS_MODEL_ROLE 2 i),
     failAt (ownersOf img) (fun o i => need (own o.node) E_SYS_MODEL_ROLE 11 i),
     failAt (limitsRaw img) (fun r i => need (own (field r 0 1)) E_SYS_MODEL_ROLE 12 i),
     failAt (loopsRaw img) (fun r i => need (own (field r 0 1)) E_SYS_MODEL_ROLE 14 i)]

/-- Step 3: features (02 R58); held objects need CLOSED_CHAIN (03 R103). A worker's part has been judged on the manager. -/
def step3 (whole : Bool) (acc : Nat) (img : List Nat) : Option Fail :=
  if !whole then none
  else firstFail [need (andNot (field img 20 4) acc == 0) E_HIF_FEATURE_OFF 0 0,
             need (field img 16 2 != 0 || acc.testBit 15) E_HIF_FEATURE_OFF 0 0,
             need (field (sec img 5) 0 1 == 0 || acc.testBit 3) E_HIF_FEATURE_OFF 5 0]

/-- Constraint rows of an object (R132). -/
def objectRows (o : List Nat × List (List Nat)) : Nat := o.2.foldl (fun n g => n + (if field g 1 1 = 0 then 6 else 3)) 0

/-- Phase starts that a model's header and plan give: the default plan of its length, or the custom starts (02 R60, R61). -/
def planOf (img : List Nat) : List Nat :=
  let s := sec img 13
  if (field s 48 4).testBit 8 then (List.range 4).map (fun i => field s (52 + 4 * i) 4 % 2 ^ 20) else defaultPlan (field img 16 2)

/-- Step 4: capacities (R125, 01 R51, 06 R186, 13 R403, 18 R523). -/
def step4 (acc : Nat) (img : List Nat) : Option Fail :=
  let short := field img 16 2 == 0
  let p := planOf img
  let p2 := (nth p 2 - nth p 1) * 2
  firstFail
    [needCount (axesOf img) 256 E_SYS_MODEL_CAPACITY 2,
     needCount (groupsOf img) 32 E_SYS_MODEL_CAPACITY 3,
     needCount (List.range (nChains img)) 16 E_SYS_MODEL_CAPACITY 4,
     failAt (jointRaw img) (fun x i => need (decide ((((jointRaw img).take (i + 1)).filter (fun y => y.1 == x.1)).length ≤ 32)) E_SYS_MODEL_CAPACITY 4 i),
     needCount (jointRaw img) (if short then 96 else 192) E_SYS_MODEL_CAPACITY 4,
     needCount (objectsOf img) 8 E_SYS_MODEL_CAPACITY 5,
     failAt (objectsOf img) (fun o i => need (decide (2 ≤ o.2.length ∧ o.2.length ≤ 4)) E_SYS_MODEL_CAPACITY 5 i),
     needSum (objectsOf img) objectRows 96 E_SYS_MODEL_CAPACITY 5,
     needCount (capsOf img) 256 E_SYS_MODEL_CAPACITY 6,
     failAt (capsOf img) (fun r i => need (field r 0 1 == 0xFF ||
       decide ((((capsOf img).take (i + 1)).filter (fun q => field q 0 1 == field r 0 1)).length ≤ 16)) E_SYS_MODEL_CAPACITY 6 i),
     failAt (nodesOf img) (fun _ i =>
       need (decide ((bitsOf 8 (maskOf (((nodesOf img).take (i + 1)).flatMap (fun n => bitsOf 8 n.lines)))).length ≤ if acc.testBit 14 && !short then 4 else 2))
         E_SYS_MODEL_CAPACITY 1 i),
     needSum (nodesOf img) (fun n => if n.role = 0 then 1 else 0) 32 E_SYS_MODEL_CAPACITY 1,
     failAt (nodesOf img) (fun n i => need (decide (n.partLen ≤ 32768)) E_SYS_MODEL_CAPACITY 1 i),
     needCount (List.range (field (sec img 6) 2 1)) 8 E_SYS_MODEL_CAPACITY 6,
     failAt (distOf img).1 (fun p i => need (decide (field p.1 2 2 ≤ 4096)) E_SYS_MODEL_CAPACITY 6 i),
     failAt (nodesOf img) (fun n i => need (n.role != 0 || (bitsOf 8 n.lines).all (fun l =>
       decide ((((nodesOf img).take (i + 1)).filter (fun x => x.role == 0 && x.lines.testBit l)).length ≤ 8))) E_SYS_MODEL_CAPACITY 1 i),
     failAt (graphItems img) (fun it i => need (it.kind != 0 || !it.rsv ||
       (it.runLim != 0 && decide (4 * ((graphItems img).filter (fun x => x.kind == 0 && x.rsv && x.home == it.home)).foldl (fun n x => n + x.runLim) 0 ≤ 3 * p2)))
       E_SYS_MODEL_CAPACITY 9 i)]

/-! ## The Crucible's programs (05 R155, R163, R171; 06 R182, R186, R190, R191) -/

/-- Joint records and actuated joints of a chain. -/
def chainSize (img : List Nat) (c : Nat) : Nat × Nat :=
  let l := (jointsOf img).filter (fun j => j.chain == c)
  (l.length, (l.filter (fun j => decide (j.typ < 2))).length)

/-- The program slots in use. -/
def progSlots (m : Mach) : List Nat := (List.range 64).filter (fun k => onF m CRUC_PROG_CFG_VALID k)

/-- The slots of a kind, ascending: their position is the instance number. -/
def slotsOfKind (m : Mach) (kind : Nat) : List Nat := (progSlots m).filter (fun k => getF m CRUC_PROG_CFG_KIND k == kind)

/-- Rows, actuated joints and objects of a CLOSED instance. -/
def closedSize (img : List Nat) (j : Nat) : Nat × Nat × Nat :=
  let os := (objectsOf img).filter (fun o => field o.1 68 1 == j)
  (os.foldl (fun n o => n + objectRows o) 0, (os.flatMap (fun o => o.2)).foldl (fun n g => n + field g 2 1) 0, os.length)

/-- Pairs, capsules and joint records of a DIST slot. Whether capsules fixed in the cell frame are among the capsules transformed of R190
the spec does not say: they count (DESIGN CHOICE, entry 95). -/
def distSize (img : List Nat) (k : Nat) : Nat × Nat × Nat :=
  let ps := (((distOf img).1.find? (fun p => field p.1 0 1 == k)).map (·.2)).getD []
  let cs := (ps.flatMap (fun p => [field p 0 2, field p 2 2])).dedup
  let ch := ((cs.map (fun c => field ((capsOf img).getD c []) 0 1)).filter (· != 0xFF)).dedup
  (ps.length, cs.length, ch.foldl (fun n c => n + (chainSize img c).1) 0)

/-- Whether a chain belongs to a chain group. -/
def inChainGroup (img : List Nat) (c : Nat) : Bool := (groupsOf img).any (fun g => g.kind == 1 && g.chain == c)

/-- The bound of a slot's run in Crucible cycles and its section in bytes (R168, R171, R188, R190). -/
def progCost (m : Mach) (img : List Nat) (k : Nat) : Nat × Nat :=
  let c := getF m CRUC_PROG_CFG_CHAIN k
  let n := (chainSize img c).1
  let a := (chainSize img c).2
  match getF m CRUC_PROG_CFG_KIND k with
  | 1 => (26 * n + 144, 32 + 48 * n)
  | 2 => (42 * n + 144, 80 + 24 * a)
  | 3 => (getF m CRUC_IK_CFG_MAX_ITER (c % 16) * (50 * n + 252) + 26 * n + 168, 80 + 28 * a)
  | 0x10 => if inChainGroup img c then (136 * n + 368, 32 + 12 * a) else (106 * n + 168, 32 + 4 * a)
  | 0x11 => (13 * (a * (a + 1) / 2) + 56 * n + 144, 32 + 2 * (a * (a + 1)))
  | 0x12 =>
    let z := closedSize img ((slotsOfKind m 0x12).idxOf k)
    let r := z.1
    (ceilDiv (r * r * r) 96 + ceilDiv (r * r) 4 + ceilDiv (r * r) 8 + 69 * r + 26 * z.2.1 + 160, 32 + 4 * (z.2.1 + r + 6 * z.2.2))
  | 0x20 => let z := distSize img k; (5 * z.1 + 8 * z.2.1 + 24 * z.2.2 + 128, 32 + 4 * (z.1 + ceilDiv z.1 32))
  | _ => (0, 0)

/-- Each lane group's programs fit its window (R191); at most 8 CLOSED and 8 DIST programs. -/
def step4Cruc (m : Mach) (img : List Nat) : Option Fail :=
  let p := planOf img
  let cap := nth p 2 - 1600 - nth p 1
  firstFail
    [failAt (List.range 64) (fun k i => need (!onF m CRUC_PROG_CFG_VALID k || ([0x12, 0x20] : List Nat).all (fun kind =>
       decide (((slotsOfKind m kind).filter (fun x => decide (x ≤ k))).length ≤ 8))) E_SYS_MODEL_CAPACITY 8 i),
     failAt (List.range 64) (fun k i => need (!onF m CRUC_PROG_CFG_VALID k || (bitsOf 16 (getF m CRUC_PROG_CFG_GROUPS k)).all (fun g =>
       decide (((progSlots m).filter (fun x => decide (x ≤ k) && (getF m CRUC_PROG_CFG_GROUPS x).testBit g)).foldl
         (fun n x => n + (progCost m img x).1) 800 ≤ max 800 cap))) E_SYS_MODEL_CAPACITY 8 i)]

/-- Lane groups of the programs, pair lists of the DIST slots (R155, R174, 04 R121). -/
def step5Cruc (m : Mach) (img : List Nat) : Option Fail :=
  firstFail
    [failAt (progSlots m) (fun k _ => need (andNot (getF m CRUC_PROG_CFG_GROUPS k) (getF m CRUC_CTRL_GROUP_EN) == 0
       && (decide (3 < getF m CRUC_PROG_CFG_KIND k) || (bitsOf 16 (getF m CRUC_PROG_CFG_GROUPS k)).length == 1)) E_SYS_MODEL_REF 8 k),
     failAt (distOf img).1 (fun p i => need ((slotsOfKind m 0x20).contains (field p.1 0 1)) E_SYS_MODEL_REF 6 i)]

/-- Runner steps of the graph: exactly one COMMIT, at most one of each other step (07 R224). -/
def step5Run (m : Mach) (img : List Nat) : Option Fail :=
  if !wholeModel m img then none else
  let ts := ((graphItems img).filter (fun it => it.kind == 2)).map (·.target)
  let one (t : Nat) : Nat := (ts.filter (· == t)).length
  firstFail
    [failAt (graphItems img) (fun it i => need (it.kind != 2 || decide (1 ≤ it.target ∧ it.target ≤ 3)) E_SYS_MODEL_REF 9 i),
     failAt (graphItems img) (fun it i => need (it.kind != 2 || ((graphItems img).take i).all (fun x => x.kind != 2 || x.target != it.target)) E_SYS_MODEL_REF 9 i),
     need (one 3 == 1) E_SYS_MODEL_REF 9 0]

/-- Step 9: the allocation fits 24 MiB (01 R52), and the sections of the solutions their buffer (05 R163). -/
def step9 (m : Mach) (img : List Nat) : Option Fail :=
  if 24576 < (allocUsed m).foldl (· + ·) 0 then some (E_SYS_MODEL_MEMORY, 0, 0)
  else failAt (List.range 64) (fun k i => need (decide (((progSlots m).filter (fun x => decide (x ≤ k))).foldl (fun n x => n + (progCost m img x).2) 0 ≤ 163840))
    E_SYS_MODEL_MEMORY 8 i)

/-! ## Step 5: references -/

/-- The classes that a reaction record may give a code at an instance (step 11), none where the code is no fault source
(R122): a notice, a code for completion entries only (03 R113, R126) or for the sideband, or an unassigned value. -/
def permitted (code index : Nat) : Option (List Nat) :=
  if !(allCodes.contains code) || !isError code then none
  else if [E_SYS_STRAP_INVALID, E_SYS_BOOT_FLASH, E_SYS_MODEL_BUSY, E_HIF_BAD_DESC, E_HIF_BAD_OPCODE, E_HIF_NOT_NEGOTIATED,
      E_HIF_FEATURE_OFF, E_HIF_STANDBY, E_HIF_BAD_PARAM, E_HIF_RING_IN_USE, E_RUN_BAD_KIND, E_RUN_COUPLED, E_RUN_QUEUE_FULL, E_RUN_BAD_DATA, E_RUN_GROUP_BUSY,
      E_RUN_RAMP_ACTIVE, E_RUN_GEAR_SOURCE, E_RUN_GEAR_PASSED, E_RUN_GEAR_ORDER, E_RUN_GEAR_NOT_ENGAGED, E_AXL_MODE, E_AXL_NOT_ENABLED,
      E_AXL_ENABLE_LATE, E_TWI_MODE_ABORT, E_TWI_MODE_BUSY, E_TIME_OUT_PAST, E_TIME_DOMAIN_NOT_LOCKED, E_TIME_ROLE, E_TAP_POST_EXCEEDS,
      E_TAP_BANDWIDTH, E_TAP_PROBE, E_TAP_BAD_SETUP, E_SAFE_CFG_FORMAT, E_SAFE_CFG_AUTH, E_SAFE_CFG_SEAL, E_SAFE_CFG_STATE,
      E_SAFE_SEAL_FULL, E_SAFE_MBX_BUSY, E_SAFE_SEP_CAPACITY, E_PAIR_SWAP_BUSY, E_PAIR_NOT_MIRRORED, E_LADLE_NO_SHARE].contains code then none
  else if [E_CRUC_PROG_FAULT, E_CRUC_POISON, E_MEM_POISON_READ].contains code then some [1, 2, 3]
  else if code = E_CRUC_DEADLINE then
    some (if index = 0xFFFF then [1, 2] else if index = 0x11 ∨ index = 0x20 then [0, 1, 2] else [1, 2, 3])
  else if [E_LADLE_OVERRUN, E_LADLE_ITEM_FAULT].contains code then some [0, 1, 2, 3]
  else if [E_RUN_GEAR_MASTER_LOST, E_RUN_GEAR_LIMIT, E_PWR_TRIP_PERSIST].contains code then some [2, 3]
  else if code = E_RUN_LIMIT_BOTH then some [1, 2, 3]
  else if code = E_RUN_POLICY then some [1, 2]
  else if [E_AXL_FOLLOWING, E_AXL_OVERSPEED, E_AXL_FEEDBACK].contains code then some (if code = E_AXL_FOLLOWING then [1, 2, 3] else if code = E_AXL_OVERSPEED then [2, 3] else [3])
  else if [E_SYS_MANAGER_LOST, E_AXL_LOCAL_STOP].contains code then some [2]
  else if [E_SYS_WDT, E_CORE_DOUBLE_FAULT, E_CORE_LOCKSTEP, E_PWR_OVERCURRENT, E_PWR_SD_FAULT, E_SAFE_CFG_CHANGED, E_SAFE_DISCREPANCY,
      E_SAFE_TESTPULSE, E_SAFE_EDM, E_SAFE_READBACK, E_SAFE_ENC_OBS, E_SAFE_SLS, E_SAFE_ENVELOPE, E_SAFE_SOS, E_SAFE_HALT].contains code then some [3]
  else if code = E_SAFE_CONN_LOST then some [0, 3]
  else some [0]

/-- Positions of the workers of each line are distinct and contiguous from 1 (R118). -/
def linePositions (img : List Nat) : Option Fail :=
  let ns := nodesOf img
  let on (l : Nat) (x : List NodeRec) : List NodeRec := x.filter (fun n => n.role == 0 && n.lines.testBit l)
  failAt ns (fun n i => need (n.role != 0 || (bitsOf 4 n.lines).all (fun l =>
    decide (1 ≤ n.pos ∧ n.pos ≤ (on l ns).length) && (on l (ns.take i)).all (fun x => x.pos != n.pos))) E_SYS_MODEL_REF 1 i)

/-- Whether a node is one of the model's: a record of NODES, or the loading node with CONFIG 0 or 1. -/
def namesNode (m : Mach) (img : List Nat) (n : Nat) : Bool :=
  if field img 18 2 < 2 then n == nodeId m else (nodesOf img).any (fun r => r.node == n)

/-- References of NODES and AXES. -/
def step5Axes (m : Mach) (img : List Nat) : Option Fail :=
  let ns := nodesOf img
  let as := axesOf img
  firstFail
    [needRising (ns.map (·.node)) E_SYS_MODEL_REF 1, if wholeModel m img then linePositions img else none,
     failAt ns (fun n i => need (decide (n.lines < 16) && (if n.role = 0 then (bitsOf 4 n.lines).length == (if field img 18 2 = 0 then 0 else 1) && decide (1 ≤ n.pos ∧ n.pos < 9)
       else n.pos == 0xFF)) E_SYS_MODEL_REF 1 i),
     needRising (as.map (·.axis)) E_SYS_MODEL_REF 2,
     failAt as (fun a i => need (decide (a.slot < 16 ∧ a.kind ≤ 2) && (groupsOf img).any (fun g => g.group == a.group)
       && namesNode m img a.node
       && (as.zipIdx).all (fun b => b.2 == i || b.1.node != a.node || b.1.slot != a.slot)) E_SYS_MODEL_REF 2 i)]

/-- References of GROUPS. What takes the axes of other nodes is not checked on a worker's part. -/
def step5Groups (m : Mach) (img : List Nat) : Option Fail :=
  let gs := groupsOf img
  let as := axesOf img
  let ss := setsOf img
  let part := !wholeModel m img
  firstFail
    [needRising (gs.map (·.group)) E_SYS_MODEL_REF 3,
     failAt gs (fun g i => need (decide (g.group < 32 ∧ g.kind ≤ 3) && (part || g.axes == (as.filter (fun a => a.group == g.group)).length)
       && (if g.kind = 1 then decide (g.chain < nChains img) else g.chain == 0xFF) && (g.set == 0xFF || decide (g.set < ss.length))
       && (part || g.kind != 1 || ((jointsOf img).filter (fun j => j.chain == g.chain && decide (j.typ < 2))).all (fun j => as.any (fun a => a.axis == j.axis && a.group == g.group)))
       && (g.kind != 1 || (as.filter (fun a => a.group == g.group)).all (fun a => a.kind == 0 && (jointsOf img).any (fun j => j.chain == g.chain && j.axis == a.axis))))
       E_SYS_MODEL_REF 3 i),
     needRising (ss.map (·.lead)) E_SYS_MODEL_REF 3,
     failAt ss (fun s i => need ((bitsOf 32 s.gmask).all (fun g => gs.any (fun r => r.group == g)) && (bitsOf 32 s.gmask).head? == some s.lead
       && (bitsOf 8 s.omask).all (fun o => decide (o < (objectsOf img).length))) E_SYS_MODEL_REF 3 i),
     failAt (List.range (max (axLimsOf img).length as.length)) (fun k i => need (((axLimsOf img)[k]?).map (·.axis) == (as[k]?).map (·.axis)) E_SYS_MODEL_REF 3 i),
     failAt (limsOf img) (fun l i => need (decide (l.slot < 16) && namesNode m img l.node) E_SYS_MODEL_REF 3 i),
     needRising ((limsOf img).map (fun l => l.node * 16 + l.slot)) E_SYS_MODEL_REF 3]

/-- References of CHAINS, HELD and CAPSULES. What takes the axes of other nodes or the Crucible's slots is not checked on a worker's
part. -/
def step5Chains (m : Mach) (img : List Nat) : Option Fail :=
  let js := jointsOf img
  let part := !wholeModel m img
  let closed := (slotsOfKind m 0x12).length
  firstFail
    [failAt js (fun j i => need ((j.parent == 0xFF || decide (j.parent < ((js.take i).filter (fun x => x.chain == j.chain)).length)) && decide (j.typ ≤ 2)
       && (if j.typ = 2 then j.axis == 0xFFFF else part || (axesOf img).any (fun a => a.axis == j.axis && a.kind == 0))) E_SYS_MODEL_REF 4 i),
     failAt (objectsOf img) (fun o i => need (field o.1 0 1 == i && (part || decide (field o.1 68 1 < closed)) && o.2.all (fun g =>
       decide (field g 0 1 < nChains img ∧ field g 1 1 ≤ 1) && field g 2 1 == (js.filter (fun j => j.chain == field g 0 1 && decide (j.typ < 2))).length)) E_SYS_MODEL_REF 5 i),
     failAt (objectsOf img) (fun o i => need (o.2.all (fun g => ((objectsOf img).take i).all (fun x => x.2.all (fun h => field h 0 1 != field g 0 1)))) E_SYS_MODEL_REF 5 i),
     failAt (capsOf img) (fun r i => need (if field r 0 1 = 0xFF then field r 1 1 == 0 else decide (field r 1 1 < (js.filter (fun j => j.chain == field r 0 1)).length)) E_SYS_MODEL_REF 6 i),
     needRising ((distOf img).1.map (fun p => field p.1 0 1)) E_SYS_MODEL_REF 6,
     failAt (distOf img).1 (fun p i => need (p.2.all (fun e => field e 0 2 != field e 2 2 && decide (field e 0 2 < (capsOf img).length ∧ field e 2 2 < (capsOf img).length))) E_SYS_MODEL_REF 6 i)]

/-- Whether the ARG of a static entry names what there is: the group of a gear master source, the axis of axis feedback, the item of a
reserved share, the slot of a Twira slot (R123). -/
def ownerArgOk (img : List Nat) (o : OwnRec) : Bool :=
  if o.kind = 5 ∧ o.func = 9 then (groupsOf img).any (fun g => g.group == o.arg)
  else if o.kind = 5 ∧ o.func = 7 then (axesOf img).any (fun a => a.axis == o.arg && a.node == o.node)
  else if o.kind = 11 then decide (o.arg < (graphItems img).length)
  else if o.kind = 9 then ((schedRaw img).map schedEnt).any (fun e => ((if o.node < 2 then e.line else 0) * 2 + e.ch) * 256 + e.slot == o.arg)
  else true

/-- References of REACTIONS and OWNERS. -/
def step5Tables (m : Mach) (img : List Nat) : Option Fail :=
  let rs := reacsOf img
  let groups (mask : Nat) : Bool := (bitsOf 32 mask).all (fun g => (groupsOf img).any (fun r => r.group == g))
  firstFail
    [failAt rs (fun r i => need ((permitted r.code r.index).isSome && (rs.zipIdx).all (fun x => x.2 == i || x.1.code != r.code || x.1.index != r.index)
       && groups r.groups) E_SYS_MODEL_REF 10 i),
     failAt (setMapOf img) (fun g i => need (groups g) E_SYS_MODEL_REF 10 i),
     failAt (ownersOf img) (fun o i => need ([1, 5, 6, 9, 10, 11].contains o.kind && namesNode m img o.node
       && (!(o.kind == 5 || o.kind == 6) || decide (o.inst < 16)) && ownerArgOk img o) E_SYS_MODEL_REF 11 i)]

/-- The items, with their index, that wait over counters for one another in a circle: what is left once those that depend on nothing
still waiting have been removed round by round. -/
def circular : Nat → List (Item × Nat) → List (Item × Nat)
  | 0, l => l
  | k + 1, l =>
    let waits (x : Item × Nat) : Bool := match x.1.cnt with
      | none => false
      | some c => l.any (fun y => y.1.succs.contains c)
    circular k (l.filter waits)

/-- The kernel table entry of an index (19 R557): FLAGS, ENTRY and CORES, from memory. -/
def kernelEntry (m : Mach) (i : Nat) : List Nat := rdBytes m (getF m CORE_KTAB_ADDR_ADDR * 32 + 32 * i) 32

/-- Whether a kernel entry serves every core of an affinity mask (19 R558). -/
def kernelServes (e : List Nat) (affinity : Nat) : Bool := (field e 2 1).testBit 0 && andNot affinity (field e 4 4) == 0

/-- References of GRAPH (18 R516, 05 R155, 19 R558); the graph in a worker's part is the manager's and is not checked there. -/
def step5Graph (m : Mach) (img : List Nat) : Option Fail :=
  if !wholeModel m img then none else
  let s := sec img 9
  let ncnt := field s 2 2
  let its := graphItems img
  let powered := (if domOff m dPOOLB then 0xFFFF else 0xFFFFFFFF)
  let crucs := (its.filter (fun it => it.kind == 1)).map (·.target)
  firstFail
    [failAt its (fun it i => need (decide (it.kind ≤ 3) && it.succs.all (fun c => decide (c < ncnt)) && (match it.cnt with
        | none => true
        | some c => decide (c < ncnt) && its.all (fun x => x.cnt != some c || x.init == it.init) &&
            (it.init == some 0 || its.any (fun x => x.succs.contains c)))) E_SYS_MODEL_REF 9 i),
     failAt its (fun it i => need (it.kind != 0 || (it.affinity != 0 && andNot it.affinity powered == 0 && it.affinity.testBit it.home
        && kernelServes (kernelEntry m it.target) it.affinity && (field (kernelEntry m it.target) 2 1).testBit 1 == decide (512 ≤ it.target))) E_SYS_MODEL_REF 9 i),
     ((circular 225 its.zipIdx).head?).map (fun x => (E_SYS_MODEL_REF, 9, x.2)),
     failAt its (fun it i => need (it.kind != 1 || (decide (it.target < 64) && onF m CRUC_PROG_CFG_VALID it.target && (crucs.filter (· == it.target)).length == 1)) E_SYS_MODEL_REF 9 i),
     failAt (List.range 64) (fun k i => need (!onF m CRUC_PROG_CFG_VALID k ||
        [1, 2, 3, 0x10, 0x11, 0x12, 0x20].contains (getF m CRUC_PROG_CFG_KIND k)) E_SYS_MODEL_REF 8 i),
     failAt its (fun it i => need (it.kind != 1 || decide (((its.take (i + 1)).filter (fun x => x.kind == 1)).length ≤ 32)) E_SYS_MODEL_REF 9 i)]

/-- Step 5 of R124. -/
def step5 (m : Mach) (img : List Nat) : Option Fail :=
  firstFail [step5Axes m img, step5Groups m img, step5Chains m img, step5Tables m img, step5Graph m img, step5Run m img, step5Cruc m img]

/-! ## Steps 6 to 11 -/

/-- The shift relation of R135 in stored units. -/
def shiftOk (b : Int) (shift : Nat) : Bool := decide (b ≤ 2 ^ 30) && (shift == 31 || decide ((2 : Int) ^ 29 < b)) && decide (shift ≤ 31)

/-- The largest magnitude of a list. -/
def magn (l : List Int) : Int := l.foldl (fun a x => if a < absI x then absI x else a) 0

/-- Signed 32-bit fields from an offset. -/
def s32s (l : List Nat) (o n : Nat) : List Int := (List.range n).map (fun i => s32 l (o + 4 * i))

/-- Fixed-format values leave one bit of headroom (R135). -/
def fits (l : List Int) : Bool := decide (magn l ≤ 2 ^ 30)

/-- The ENC set-up of an ownership entry lies in its ranges (11 R333, R338, R341, R350). -/
def encSetupOk (w : List Nat) : Bool :=
  let fr := nth w 1
  let ck := nth w 2
  let len := bits fr 0 6
  let pos := bits fr 16 6
  let cl := bits ck 4 4
  let typ := bits ck 0 2
  let sp := nth w 5
  let still := bits sp 16 16
  decide (bits (nth w 0) 4 2 ≤ 2) && decide (8 ≤ len ∧ len ≤ 48 ∧ 8 ≤ pos ∧ pos ≤ 40)
    && bits fr 8 2 + pos + bits fr 24 4 + cl == len && decide (bits fr 24 4 ≤ 8)
    && (if typ = 0 then cl == 0 else if typ = 3 then decide (3 ≤ cl ∧ cl ≤ 8) else cl == 1)
    && decide (25 ≤ bits (nth w 3) 0 10 ∧ bits (nth w 3) 0 10 ≤ 800 ∧ bits (nth w 3) 16 10 ≤ 800)
    && decide (-8 ≤ sgn 5 (bits sp 0 5) ∧ sgn 5 (bits sp 0 5) ≤ 8) && decide (bits sp 8 3 ≤ 5 ∧ 1 ≤ still)
    && decide (bits (nth w 6) 16 8 < bits (nth w 6) 0 16)

/-- Whether a shift is that of the FORMATS entry of a joint's torque or velocity (R135); the variable IDs are Yunalet's (entry 87). -/
def jointShiftOk (img : List Nat) (joint : Nat) (rate : Bool) (shift : Nat) : Bool :=
  ((formatsOf img).find? (fun f => f.var == Config.jointVar (field img 12 4) joint rate)).any (fun f => f.shift == shift)

/-- Step 6: formats, ranges and run limits (R119, R133 to R135, 18 R516). TORQUE_SHIFT and RATE_SHIFT of an actuated joint are those
of its own entries of FORMATS. -/
def step6 (whole : Bool) (img : List Nat) : Option Fail :=
  let p := planOf img
  let l := lenTicks (field img 16 2)
  let room := 2 * (l - (nth p 2 - 800) + nth p 1)
  firstFail
    [failAt (formatsOf img) (fun f i => need (decide (f.lo ≤ f.hi) && shiftOk (magn [f.lo, f.hi]) f.shift) E_SYS_MODEL_RANGE 7 i),
     failAt (jointRaw img) (fun x i =>
       let r := x.2
       need (shiftOk (magn [s32 r 64]) (field r 112 1) && shiftOk (magn (s32s r 80 6)) (field r 113 1) && decide (field r 114 1 ≤ 31 ∧ field r 115 1 ≤ 31)
         && (!whole || field r 0 1 == 2 || (jointShiftOk img i false (field r 114 1) && jointShiftOk img i true (field r 115 1)))
         && fits (s32s r 4 3 ++ s32s r 16 9 ++ s32s r 52 3 ++ s32s r 68 3 ++ s32s r 104 2)) E_SYS_MODEL_RANGE 4 i),
     failAt (basesOf img) (fun b i => need (fits b) E_SYS_MODEL_RANGE 4 i),
     failAt (objectsOf img) (fun o i => need (shiftOk (magn [s32 o.1 4]) (field o.1 2 1) && shiftOk (magn (s32s o.1 20 6)) (field o.1 3 1)
       && fits (s32s o.1 8 3) && o.2.all (fun g => fits (s32s g 4 12))) E_SYS_MODEL_RANGE 5 i),
     failAt (capsOf img) (fun r i => need (fits (s32s r 4 7) && decide (0 ≤ s32 r 28)) E_SYS_MODEL_RANGE 6 i),
     failAt (distOf img).1 (fun p i => need (fits [s32 p.1 4]) E_SYS_MODEL_RANGE 6 i),
     failAt (axesOf img) (fun a i => need (a.den != 0 && decide (-8 ≤ a.shift ∧ a.shift ≤ 8)) E_SYS_MODEL_RANGE 2 i),
     failAt (groupsOf img) (fun g i => need (fits (g.toolOrigin ++ g.toolRot)) E_SYS_MODEL_RANGE 3 i),
     failAt (axLimsOf img) (fun a i => need (a.vmax != 0 && a.amax != 0 && a.jmax != 0) E_SYS_MODEL_RANGE 3 i),
     failAt (ownersOf img) (fun o i => need (o.kind != 5 || encSetupOk o.setup) E_SYS_MODEL_RANGE 11 i),
     failAt (graphItems img) (fun it i => need (it.kind != 0 || decide (it.runLim ≤ room)) E_SYS_MODEL_RANGE 9 i)]

/-- Step 7: carriers (02 R66, 10 R301, R329). -/
def step7 (img : List Nat) : Option Fail :=
  let l := lenTicks (field img 16 2)
  failAt (limitsRaw img) (fun r i =>
    let per := field r 8 4 % 2 ^ 24
    need (per == 0 || 16 * l % per == 0) E_SYS_MODEL_CARRIER 12 i)

/-- Step 8: one owner per instance; an axis does not take an encoder port that an entry gives to a gear master (R144). -/
def step8 (img : List Nat) : Option Fail :=
  let os := ownersOf img
  failAt os (fun o i => need ((os.zipIdx).all (fun x => x.2 == i || x.1.kind != o.kind || x.1.inst != o.inst || x.1.node != o.node)
    && (!(o.kind == 5 && o.func == 9) || (axesOf img).all (fun a => a.node != o.node || a.feedback.testBit 7 || a.feedback % 16 != o.inst)))
    E_RESOURCE_BUSY 11 i)

/-- Whether reserved item `j` of the graph goes before item `i` in the order of 18 R521: by DL, 0 last, and for one DL in graph order, since
the instants of readiness are not known at load (entry 24). -/
def rsvBefore (x : Item) (j : Nat) (it : Item) (i : Nat) : Bool :=
  let key (y : Item) : Nat := if y.dl = 0 then 65536 else y.dl
  decide (key x < key it) || (key x == key it && decide (j < i))

/-- The worst wait of a reserved item in core cycles (18 R524): 40 ns, BE_LIM and the reserved items before it whose
affinity meets its own. -/
def rsvWait (beLim : Nat) (its : List Item) (i : Nat) (it : Item) : Nat :=
  64 + beLim + (its.zipIdx.filter (fun x => x.1.kind == 0 && x.1.rsv && rsvBefore x.1 x.2 it i && (x.1.affinity &&& it.affinity) != 0)).foldl
    (fun n x => n + x.1.runLim) 0

/-- The latest end of item `i` in core cycles after the start of P2, along the longest chain of predecessors. -/
def latestEnd (beLim : Nat) (its : List Item) : Nat → Nat → Nat
  | 0, _ => 0
  | k + 1, i =>
    match its[i]? with
    | none => 0
    | some it =>
      let preds := match it.cnt with
        | none => []
        | some c => ((its.zipIdx).filter (fun (x : Item × Nat) => x.1.succs.contains c)).map (fun (x : Item × Nat) => x.2)
      let start := (preds.map (latestEnd beLim its k)).foldl max 0
      if it.kind = 0 then start + rsvWait beLim its i it + it.runLim else start

/-- The items that a Runner step waits for, over counters. -/
def commitNeeds : Nat → List Item → List Nat → List Nat
  | 0, _, l => l
  | k + 1, its, l =>
    let cnts := l.filterMap (fun i => (its[i]?).bind (·.cnt))
    let more := ((its.zipIdx).filter (fun x => x.1.succs.any (fun c => cnts.contains c) && !l.contains x.2)).map (·.2)
    if more.isEmpty then l else commitNeeds k its (l ++ more)

/-- Step 10: reserved shares (02 R76, 18 R524). -/
def step10 (img : List Nat) : Option Fail :=
  let its := graphItems img
  let p := planOf img
  let be := field (sec img 9) 12 4 % 2 ^ 24
  let span := 2 * (nth p 2 - 800 - nth p 1)
  let roots := ((its.zipIdx).filter (fun x => x.1.kind == 2)).map (·.2)
  let needs := commitNeeds 225 its roots
  failAt its (fun it i => firstFail
    [need (!(needs.contains i) || it.kind != 0 || it.rsv) E_LADLE_NO_SHARE 9 i,
     need (it.kind != 0 || !it.rsv || decide (latestEnd be its its.length i ≤ span)) E_LADLE_NO_SHARE 9 i])

/-- Step 11: reaction classes. -/
def step11 (img : List Nat) : Option Fail :=
  failAt (reacsOf img) (fun r i => need (((permitted r.code r.index).getD []).contains r.cls) E_SYS_MODEL_REACTION 10 i)

/-- The checks of R124 in order. -/
def imageFail (m : Mach) (acc : Nat) (img : List Nat) : Option Fail :=
  (step1 (wholeModel m img) img).orElse fun _ => (step2 m img).orElse fun _ => (step3 (wholeModel m img) acc img).orElse fun _ => (step4 acc img).orElse fun _ =>
  (step4Cruc m img).orElse fun _ => (step5 m img).orElse fun _ => (step6 (wholeModel m img) img).orElse fun _ => (step7 img).orElse fun _ => (step8 img).orElse fun _ =>
  (step9 m img).orElse fun _ => (step10 img).orElse fun _ => step11 img

end Sys2Proof.Machine
end

