-- ==== Sys2Proof/Machine/Mould.lean ====
section
/-! DEFINITION. Loading, reading and discarding the cell model (04 R115 to R126), and what of it becomes register content
(04 R117). -/

namespace Sys2Proof.Machine

/-- The block registers that LIMITS, SCHEDULE and LOOPS fill (R117): the power-stage records in record order. -/
def pwrRecordOffs : List Nat := [0x00, 0x04, 0x20, 0x24, 0x28, 0x2C, 0x30, 0x34, 0x38, 0x3C, 0x40, 0x44, 0x48]

/-- The loop registers in record order (09 R297). -/
def axlRecordOffs : List Nat := 0x00 :: (List.range 28).map (fun i => 0x10 + 4 * i)

/-- Writes a register of a slot and puts its shadowed fields into force at once (10 R329, 09 R297). -/
def loadReg (m : Mach) (blk off v : Nat) : Mach := enforceReg (putReg m blk off v) blk off

/-- Puts the registers at the given slot offsets back to their reset values, those in force too. -/
def unloadReg (m : Mach) (blk off : Nat) : Mach :=
  (fieldsAt blk off).foldl (fun m x =>
    { m with regs := sdel m.regs (x.1.key x.2), force := sdel m.force (x.1.key x.2) }) m

/-- The TWI and TIME registers that SCHEDULE fills. -/
def schedRegs : List (Nat × Nat) :=
  (10, 0x10) :: (10, 0x800) :: ((List.range 7).map (fun i => (10, 0x14 + 4 * i)) ++ (List.range 5).map (fun i => (11, 0x200 + 4 * i)))

/-- Discards the model in force (R126): its owners are released, the registers of R117 return to reset, and what runs on it
ends but for items on a core. -/
def discardModel (m : Mach) : Mach :=
  let l := m.ladle
  let m := crucSync { m with
    mould := { claims := m.mould.claims }, sched := [], run := {}, cruc := {}, crucSecs := [],
    ladle := { l with tpl := [], sub := [], isOpen := false, items := l.items.filter (fun f => !f.graph || (match f.st with | .running _ _ => true | _ => false)) } }
  let m := (List.range 16).foldl (fun m s => pwrRecordOffs.foldl (fun m o => unloadReg m 8 (0x1000 + 0x100 * s + o)) m) m
  let m := (List.range 16).foldl (fun m s => axlRecordOffs.foldl (fun m o => unloadReg m 7 (0x1000 + 0x100 * s + o)) m) m
  let m := schedRegs.foldl (fun m x => unloadReg m x.1 x.2) m
  resetFields m [ENC_CFG_OWNER, CRUC_CL_CFG_SLOT, CRUC_CL_CFG_VALID]

/-- The lines that the node is on, as a bit mask. -/
def myLines (m : Mach) (img : List Nat) : Nat :=
  (((nodesOf img).find? (fun n => n.node == nodeId m)).map (·.lines)).getD 0

/-- The local number of a line: a worker has one line, 0 locally (12 R374). -/
def localLine (m : Mach) (l : Nat) : Nat := if isManager m then l else 0

/-- Writes the LIMITS records of the node (10 R329). -/
def loadLimits (m : Mach) (img : List Nat) : Mach :=
  ((limitsRaw img).filter (fun r => field r 0 1 == nodeId m)).foldl (fun m r =>
    (pwrRecordOffs.zipIdx).foldl (fun m x => loadReg m 8 (0x1000 + 0x100 * (field r 1 1 % 16) + x.1) (field r (4 + 4 * x.2) 4)) m) m

/-- Writes the LOOPS records of the node (09 R297). -/
def loadLoops (m : Mach) (img : List Nat) : Mach :=
  ((loopsRaw img).filter (fun r => field r 0 1 == nodeId m)).foldl (fun m r =>
    (axlRecordOffs.zipIdx).foldl (fun m x => loadReg m 7 (0x1000 + 0x100 * (field r 1 1 % 16) + x.1) (field r (4 + 4 * x.2) 4)) m) m

/-- Writes the SCHEDULE section: entries of the node's own lines, classes, tags, plan and start-up set-up (12 R362, R364). -/
def loadSchedule (m : Mach) (img : List Nat) : Mach :=
  match secOf img 13 with
  | none => putReg m 11 0x200 (field img 16 2)
  | some s =>
    let mine := myLines m img
    let m := { schedFresh m with sched := ((schedRaw img).map schedEnt).filter (fun e => mine.testBit e.line) }
    let cls := (List.range 7).foldl (fun v i => v + field s (4 + i) 1 % 4 * 4 ^ i) 0
    let m := putReg (putReg m 10 0x10 cls) 10 0x800 (field s 68 4)
    let m := (List.range 7).foldl (fun m i => putReg m 10 (0x14 + 4 * i) (field s (12 + 4 * i) 4)) m
    let m := (List.range 4).foldl (fun m i => putReg m 11 (0x204 + 4 * i) (field s (52 + 4 * i) 4)) m
    putReg m 11 0x200 (field s 48 4)

/-- Writes the group and limit-input registers (R119, 07 R236, 08 R266). -/
def loadGroups (m : Mach) (img : List Nat) : Mach :=
  let m := (groupsOf img).foldl (fun m g =>
    let o := 0x100 + 0x20 * (g.group % 32)
    putReg (putReg (putReg m 6 o g.cfg) 6 (o + 4) g.kt) 6 (o + 8) g.ovr) m
  ((limsOf img).filter (fun l => l.node == nodeId m)).foldl (fun m l =>
    putReg (putReg m 6 (0xB00 + 4 * (l.slot % 16)) l.cfg) 6 (0xB40 + 4 * (l.slot % 16)) l.margin) m

/-- Writes the line registers of TWI (12 R351, R381). A configuration without a network serves no line (00 R5). -/
def loadLines (m : Mach) (img : List Nat) : Mach :=
  let ns := nodesOf img
  (List.range 4).foldl (fun m l =>
    let on := ns.filter (fun n => n.lines.testBit l && decide (2 ≤ field img 18 2))
    let ll := localLine m l
    match on.find? (fun n => n.node == nodeId m) with
    | none => if isManager m then setF (setF (setF m TWI_LINE_CFG_EN l 0) TWI_LINE_CFG_NODES l 0) TWI_LINE_CFG_POS l 0 else m
    | some me =>
      let pos := if me.role = 0 then me.pos else if me.node = 0 then 0 else (on.filter (fun n => n.role == 0)).length + 1
      setF (setF (setF m TWI_LINE_CFG_EN ll 1) TWI_LINE_CFG_NODES ll on.length) TWI_LINE_CFG_POS ll pos) m

/-- SUMMARY.ENABLED shows CFG.EN of port `k` (11 R350). -/
def showEnabled (m : Mach) (k : Nat) : Mach :=
  setF m ENC_SUMMARY_ENABLED 0 (setBits (getF m ENC_SUMMARY_ENABLED) k 1 (getF m ENC_CFG_EN k))

/-- A port that becomes enabled starts without a valid word (11 R339, R341). -/
def freshPort (m : Mach) (k : Nat) : Mach :=
  showEnabled (setF (setF { m with enc := sdel m.enc k } ENC_STAT_FAIL_RUN k 0) ENC_STAT_VALID k 0) k

/-- Writes the set-up and the owner of the encoder ports that kind 5 entries own, and the owner and speed format of the
ports that axes use (11 R341, R350, 04 R127, R143). -/
def loadPorts (m : Mach) (img : List Nat) : Mach :=
  let m := ((ownersOf img).filter (fun o => o.kind == 5 && o.node == nodeId m)).foldl (fun m o =>
    let k := o.inst % 16
    let m := (o.setup.zipIdx).foldl (fun m x => putReg m 9 (0x1000 + 0x80 * k + 4 * x.2) x.1) m
    let m := setF m ENC_CFG_OWNER k (if o.func = 9 then 2 else 1)
    if onF m ENC_CFG_EN k then freshPort m k else showEnabled m k) m
  ((axesOf img).filter (fun a => a.node == nodeId m && !a.feedback.testBit 7)).foldl (fun m a =>
    setF (setS m ENC_SPD_CFG_SHIFT (a.feedback % 16) a.shift) ENC_CFG_OWNER (a.feedback % 16) 1) m

/-- Writes the Ladle's graph (18 R516). -/
def loadGraph (m : Mach) (img : List Nat) : Mach :=
  let s := sec img 9
  let raw := graphRaw img
  let be := field s 12 4 % 2 ^ 24
  let m := setF (setF m LADLE_GRAPH_NITEMS 0 (field s 0 2)) LADLE_GRAPH_NCNT 0 (field s 2 2)
  let m := if be = 0 then m else setF m LADLE_CFG_BE_LIM 0 be
  let m := setF (setF m LADLE_TPL_ADDR_ADDR 0 (allocBase m 4)) LADLE_STAT_ADDR_ADDR 0 (allocBase m 8)
  let m := wrBytes m (allocBase m 4) (raw.flatMap id)
  { m with ladle := { m.ladle with tpl := graphItems img, sub := itemsOf (raw.drop (field s 4 4)) } }

/-- Writes what an accepted image holds for registers and for the blocks' own stores (R117). -/
def modelRegs (m : Mach) (img : List Nat) : Mach :=
  let m := setF (setF (setF m RUN_RING_ADDR_ADDR 0 (allocBase m 1)) TWI_BUF_BASE_ADDR 0 (allocBase m 3)) CRUC_PUB_ADDR_ADDR 0 (allocBase m 7)
  let m := setF (setF m RUN_SEG_ADDR_ADDR 0 (allocBase m 2)) CRUC_DL_CFG_N_MISS 0 (field (sec img 10) 2 1)
  let m := ((distOf img).1.zipIdx).foldl (fun m x => setF m CRUC_DIST_THR_THR x.2 (field x.1.1 4 4)) m
  let m := setF (setF (setF m CRUC_CTRL_EN 0 1) LADLE_CTRL_EN 0 1) RUN_CTRL_EN 0 1
  -- nothing is published yet: the first runs start cold (05 R169)
  let m := wrBytes m (allocBase m 7) (List.replicate 1024 0)
  let m := ((slotsOfKind m 0x12).zipIdx).foldl (fun m x => setF (setF m CRUC_CL_CFG_SLOT x.2 x.1) CRUC_CL_CFG_VALID x.2 1) m
  loadGraph (loadPorts (loadLines (loadGroups (loadSchedule (loadLoops (loadLimits m img) img) img) img) img) img) img

/-- Carriers whose PER is in force from outside a boundary run from the next cycle boundary (10 R301, R303). -/
def carriersWait (m : Mach) : Mach :=
  { m with pwr := (List.range 16).foldl (fun t s => sput t s { sget t s {} with cyc := some m.cyc.n, idx := 16 * cycLen m } {}) m.pwr }

/-- FRAME.LEN × T + Dmax of an axis's encoder port, in ticks, from the set-up of the port's ownership entry, else from the reset
values of its registers (11 R333, R334, R341). -/
def transferOf (img : List Nat) (a : AxisRec) : Nat :=
  let w := match (ownersOf img).find? (fun o => o.kind == 5 && o.node == a.node && o.inst % 16 == a.feedback % 16) with
    | some o => o.setup
    | none => [0, ENC_FRAME_LEN.reset, 0, ENC_CLK_CLKDIV.reset]
  bits (nth w 1) 0 6 * 2 * bits (nth w 3) 0 10 + (if (nth w 0).testBit 3 then bits (nth w 3) 16 10 else 800)

/-- The figures that the loader reports per axis (02 R70): 10 µs, and what a transfer exceeds 9.400 µs by (log entry 85). -/
def latencyReport (img : List Nat) : List (Nat × Nat) :=
  (axesOf img).filterMap (fun a =>
    let t := transferOf img a
    if a.feedback.testBit 7 || decide (t ≤ 7520) then none else some (a.axis, 8000 + t - 7520))

/-- Puts an accepted image into force (R117, R126). -/
def applyModel (m : Mach) (img : List Nat) : Mach :=
  let s := sec img 13
  let mould : MouldSt :=
    { claims := m.mould.claims, loaded := true, image := img, modelId := field img 12 4, config := field img 18 2,
      cellLen := field img 16 2, features := field img 20 4, nodes := nodesOf img, axes := axesOf img, groups := groupsOf img,
      sets := setsOf img, axLims := axLimsOf img, joints := jointsOf img, formats := formatsOf img, reacs := reacsOf img,
      setMap := setMapOf img, owners := ownersOf img, lims := limsOf img,
      linkDlyMax := (List.range 4).map (fun l => field s (40 + 2 * l) 2), bases := basesOf img, latency := latencyReport img }
  let m := { m with mould := mould }
  let m := wrBytes (wrBytes m 0x10000000 img) 0x30000000 (sec img 8)
  carriersWait (modelRegs m img)

/-- Whether the model uses the function of a domain that 01 R47 marks configurable. -/
def usesDom (m : Mach) (d : Nat) : Bool :=
  let me := nodeId m
  if d = dPOOLB then m.ladle.tpl.any (fun i => i.kind == 0 && decide (65536 ≤ i.affinity))
  else if d = dAXIS then m.mould.axes.any (fun a => a.node == me) || m.mould.owners.any (fun o => o.kind == 5 && o.node == me)
  else if d = dTWI then m.mould.config == 2
  else (getF m SYS_PWR_CTRL_ON).testBit d

/-- The load fixes the column of 01 R47: domains marked Off are switched off, configurable ones follow the model (23 R679). -/
def modelDomains (m : Mach) : Mach :=
  [dHIF, dPOOLB, dCRUC, dAXIS, dTWI, dTAP, dPAIR].foldl (fun m d =>
    if domOff m d || !clocked m d then switchDom m d false
    else if (domCols m).any (fun c => nth (domTable d) c == 1) then switchDom m d true
    else switchDom m d (usesDom m d)) m

/-- A load that has started (R126): the old model is discarded; the failing check is reported; the image is put into force. -/
def loadImage (acc : Nat) (img : List Nat) (m : Mach) : Mach × Option Nat :=
  let m := discardModel m
  match imageFail m acc img with
  | some (code, sc, idx) => (logNode m code (idx % 2 ^ 24 + sc % 256 * 2 ^ 24), some code)
  | none => (notice (modelDomains (applyModel m img)) E_SYS_MODEL_LOADED (field img 12 4), none)

/-- The accepted set of features (03 R110). -/
def acceptedSet (m : Mach) : Nat :=
  if onF m HIF_FEAT_ACK_DONE && !onF m HIF_FEAT_ACK_FAILED then getF m HIF_FEAT_DRV_DRV 0 else 0

/-- MODEL_LOAD (R124, R126). -/
def modelLoad (j : Job) (m : Mach) : JobRes :=
  if m.locks.cfg || anyEnabled m || getF m TWI_STATUS_MODE != 0 then jobFail m E_SYS_MODEL_BUSY
  else
    let img := padTo j.desc.dataLen j.data
    match loadImage (acceptedSet m) img m with
    | (m, some code) => jobFail m code
    | (m, none) => { m := m, result := field img 12 4 }

/-- MODEL_LOAD. -/
def execModelLoad (j : Job) (s : State) : Out := done (runJob 0x0010 modelLoad j) s

/-- The value in force of a register of a slot. -/
def regInForce (m : Mach) (blk off : Nat) : Nat :=
  (fieldsAt blk off).foldl (fun v x => v + (if x.1.acc = .shadow then getV m x.1 x.2 else getF m x.1 x.2) * 2 ^ x.1.lsb) 0

/-- A record of LIMITS or LOOPS with the register values in force on this node (R117). -/
def recInForce (m : Mach) (blk : Nat) (offs : List Nat) (r : List Nat) : List Nat :=
  if field r 0 1 ≠ nodeId m then r
  else r.take 4 ++ offs.flatMap (fun o => leBytes 4 (regInForce m blk (0x1000 + 0x100 * (field r 1 1 % 16) + o))) ++ r.drop (4 + 4 * offs.length)

/-- The bytes of a slot entry (12 R363). -/
def schedBytes (e : SchedEnt) : List Nat :=
  [e.mode, e.line + 4 * e.ch, e.slot, e.kind + 8 * e.gev] ++ leBytes 4 e.start ++ leBytes 2 e.plen ++ [e.owner, 0, 0, 0, 0, 0] ++ leBytes 8 e.rx

/-- SCHEDULE from the registers and the schedule memory in force (R117). -/
def schedInForce (m : Mach) (img : List Nat) : List Nat :=
  let s := sec img 13
  let others := ((schedRaw img).map schedEnt).filter (fun e => !(myLines m img).testBit e.line)
  let key (e : SchedEnt) : Nat := ((e.mode * 4 + e.line) * 2 + e.ch) * 2 ^ 20 + e.start
  let es := (others ++ m.sched).mergeSort (fun a b => decide (key a ≤ key b))
  leBytes 4 es.length ++ (List.range 7).map (fun i => getF m TWI_MODE_CLASS_CLASS / 4 ^ i % 4) ++ [0]
    ++ (List.range 7).flatMap (fun i => leBytes 4 (getF m TWI_TAG_TAG i)) ++ (s.drop 40).take 8
    ++ planBytes m ++ leBytes 4 (regWord m 10 0x800)
    ++ List.replicate 24 0 ++ es.flatMap schedBytes

/-- MODEL_READ (R117); data that reads poisoned is not written to the host (22 R609). -/
def modelRead (j : Job) (m : Mach) : JobRes :=
  let id := j.desc.par 0
  if id = 0 ∨ 14 < id then jobFail m E_HIF_BAD_PARAM 0
  else if !m.mould.loaded then jobFail m E_SYS_NO_MODEL
  else match secOf m.mould.image id with
    | none => { m := m }
    | some _ =>
      let img := m.mould.image
      let put (m : Mach) (l : List Nat) : JobRes := let r := dataOut m j.desc l; { m := r.1, result := r.2 }
      match id with
      | 12 => put m ((limitsRaw img).flatMap (recInForce m 8 pwrRecordOffs))
      | 13 => put m (schedInForce m img)
      | 14 => put m ((loopsRaw img).flatMap (recInForce m 7 axlRecordOffs))
      | _ => match (secTable img).find? (fun e => e.id == id) with
        | some e =>
          let n := min e.len j.desc.dataLen
          let r := logRead (0x10000000 + e.off) n 1 m
          if r.2 then jobDetail r.1 E_MEM_POISON_READ (poisonAt r.1 (0x10000000 + e.off) n) else put r.1 (rdBytes r.1 (0x10000000 + e.off) n)
        | none => put m []

/-- MODEL_READ. -/
def execModelRead (j : Job) (s : State) : Out := done (runJob 0x0011 modelRead j) s

end Sys2Proof.Machine
end

