-- ==== Sys2Proof/Machine/Crypto.lean ====
section
/-! DEFINITION. SHA-384 and ECDSA over P-384 as the safety island checks its configuration frames with them (15 R458 to R460).
The spec names the algorithms and leaves them to their standards; byte strings are big-endian there (entry 50). -/

namespace Sys2Proof.Machine

/-- The largest x with x^k at most n, below 2^(bits). -/
def rootFrom (k n : Nat) : Nat → Nat → Nat
  | 0, x => x
  | b + 1, x => rootFrom k n b (if (x + 2 ^ b) ^ k ≤ n then x + 2 ^ b else x)

/-- The first `n` primes. -/
def primes (n : Nat) : List Nat :=
  ((List.range 410).filter (fun p => 2 ≤ p && (List.range 21).all (fun d => d < 2 || p ≤ d || p % d != 0))).take n

/-- Round constants: 64 bits of the fractions of the cube roots of the first 80 primes. -/
def shaK : List Nat := (primes 80).map (fun p => rootFrom 3 (p * 2 ^ 192) 72 0 % 2 ^ 64)
/-- Initial hash of SHA-384: of the square roots of the ninth to the sixteenth prime. -/
def shaInit : List Nat := ((primes 16).drop 8).map (fun p => rootFrom 2 (p * 2 ^ 128) 72 0 % 2 ^ 64)

/-- Rotation of a 64-bit word to the right. -/
def rotr (n x : Nat) : Nat := x / 2 ^ n + (x % 2 ^ n) * 2 ^ (64 - n)
/-- Sum of 64-bit words. -/
def add64 (l : List Nat) : Nat := l.foldl (· + ·) 0 % 2 ^ 64
/-- The big-endian value of a list of bytes. -/
def beNat (l : List Nat) : Nat := l.foldl (fun a b => a * 256 + b % 256) 0
/-- The `n` big-endian bytes of `x`. -/
def beBytes (n x : Nat) : List Nat := (leBytes n x).reverse

/-- The message schedule of a block, newest word first. -/
def shaExpand : Nat → List Nat → List Nat
  | 0, w => w
  | n + 1, w =>
    let s0 (x : Nat) : Nat := rotr 1 x ^^^ rotr 8 x ^^^ (x / 2 ^ 7)
    let s1 (x : Nat) : Nat := rotr 19 x ^^^ rotr 61 x ^^^ (x / 2 ^ 6)
    shaExpand n (add64 [s1 (nth w 1), nth w 6, s0 (nth w 14), nth w 15] :: w)

/-- One round on the eight working words. -/
def shaRound (v : List Nat) (kw : Nat × Nat) : List Nat :=
  let a := nth v 0
  let e := nth v 4
  let t1 := add64 [nth v 7, rotr 14 e ^^^ rotr 18 e ^^^ rotr 41 e, (e &&& nth v 5) ^^^ ((2 ^ 64 - 1 - e) &&& nth v 6), kw.1, kw.2]
  let t2 := (rotr 28 a ^^^ rotr 34 a ^^^ rotr 39 a) + ((a &&& nth v 1) ^^^ (a &&& nth v 2) ^^^ (nth v 1 &&& nth v 2))
  [add64 [t1, t2], a, nth v 1, nth v 2, add64 [nth v 3, t1], e, nth v 5, nth v 6]

/-- One block of 128 bytes. -/
def shaBlock (h : List Nat) (blk : List Nat) : List Nat :=
  let w := (List.range 16).map (fun i => beNat ((blk.drop (8 * i)).take 8))
  let v := (shaK.zip (shaExpand 64 w.reverse).reverse).foldl shaRound h
  List.zipWith (fun a b => (a + b) % 2 ^ 64) h v

/-- Blocks of a padded message. -/
def shaBlocks : Nat → List Nat → List Nat → List Nat
  | 0, _, h => h
  | n + 1, l, h => shaBlocks n (l.drop 128) (shaBlock h (l.take 128))

/-- SHA-384 of a list of bytes. -/
def sha384 (l : List Nat) : List Nat :=
  let z := (239 - l.length % 128) % 128
  let msg := l ++ 0x80 :: (List.replicate z 0 ++ beBytes 16 (8 * l.length))
  ((shaBlocks (msg.length / 128) msg shaInit).take 6).flatMap (beBytes 8)

/-- The field of P-384. -/
def p384 : Nat := 2 ^ 384 - 2 ^ 128 - 2 ^ 96 + 2 ^ 32 - 1
/-- The order of the base point. -/
def n384 : Nat := 0xffffffffffffffffffffffffffffffffffffffffffffffffc7634d81f4372ddf581a0db248b0a77aecec196accc52973
/-- The coefficient b of the curve; a is -3. -/
def b384 : Nat := 0xb3312fa7e23ee7e4988e056be3f82d19181d9c6efe8141120314088f5013875ac656398d8a2ed19d2a85c8edd3ec2aef
/-- The base point. -/
def g384 : Nat × Nat :=
  (0xaa87ca22be8b05378eb1c71ef320ad746e1d3b628ba79b9859f741e082542a385502f25dbf55296c3a545e3872760ab7,
   0x3617de4a96262c6f5d9e98bf9292dc29f8f41dbd289a147ce9da3113b5f0b8c00a60b1ce1d7e819d7a431d7c90ea0e5f)

/-- Power modulo `q` of `x` to an exponent below 2^n. -/
def powMod (q x e : Nat) : Nat → Nat
  | 0 => 1
  | n + 1 => let y := powMod q (x * x % q) (e / 2) n; if e % 2 = 1 then x * y % q else y

/-- A point in Jacobian coordinates; z = 0 is the point at infinity. -/
abbrev EcPt := Nat × Nat × Nat

/-- Difference in the field. -/
def fsub (a b : Nat) : Nat := (a + p384 - b) % p384

/-- Doubling. -/
def ecDbl (p : EcPt) : EcPt :=
  let x := p.1
  let y := p.2.1
  let z := p.2.2
  let q := p384
  let d := z * z % q
  let g := y * y % q
  let b := x * g % q
  let al := 3 * fsub x d * ((x + d) % q) % q
  let x3 := fsub (al * al % q) (8 * b % q)
  (x3, fsub (al * fsub (4 * b % q) x3 % q) (8 * g * g % q), 2 * y * z % q)

/-- Addition. -/
def ecAdd (a b : EcPt) : EcPt :=
  if a.2.2 = 0 then b
  else if b.2.2 = 0 then a
  else
    let q := p384
    let za := a.2.2 * a.2.2 % q
    let zb := b.2.2 * b.2.2 % q
    let u1 := a.1 * zb % q
    let u2 := b.1 * za % q
    let s1 := a.2.1 * zb * b.2.2 % q
    let s2 := b.2.1 * za * a.2.2 % q
    if u1 = u2 then (if s1 = s2 then ecDbl a else (1, 1, 0))
    else
      let h := fsub u2 u1
      let r := fsub s2 s1
      let h2 := h * h % q
      let h3 := h2 * h % q
      let v := u1 * h2 % q
      let x3 := fsub (fsub (r * r % q) h3) (2 * v % q)
      (x3, fsub (r * fsub v x3 % q) (s1 * h3 % q), h * a.2.2 * b.2.2 % q)

/-- Multiple of a point by the low `n` bits of `k`. -/
def ecMul (p : EcPt) (k : Nat) : Nat → EcPt
  | 0 => (1, 1, 0)
  | n + 1 => let r := ecMul (ecDbl p) (k / 2) n; if k % 2 = 1 then ecAdd p r else r

/-- Whether a point lies on the curve. -/
def onCurve (x y : Nat) : Bool :=
  decide (x < p384 ∧ y < p384) && y * y % p384 == (x * x * x + 3 * (p384 - x) + b384) % p384

/-- ECDSA verification: key x then y, signature r then s, 48 bytes each, over the digest of the message. -/
def ecdsaOk (pub sig msg : List Nat) : Bool :=
  let x := beNat (pub.take 48)
  let y := beNat ((pub.drop 48).take 48)
  let r := beNat (sig.take 48)
  let s := beNat ((sig.drop 48).take 48)
  if r = 0 || s = 0 || decide (n384 ≤ r) || decide (n384 ≤ s) || !onCurve x y then false
  else
    let w := powMod n384 s (n384 - 2) 384
    let e := beNat (sha384 msg)
    let t := ecAdd (ecMul (g384.1, g384.2, 1) (e * w % n384) 384) (ecMul (x, y, 1) (r * w % n384) 384)
    if t.2.2 = 0 then false
    else
      let zi := powMod p384 t.2.2 (p384 - 2) 384
      (t.1 * zi * zi % p384) % n384 == r

end Sys2Proof.Machine
end

