-- ==== Sys2Proof/Machine/Trig.lean ====
section
/-! DEFINITION. Sine, square root, logarithm and power in fixed point, far finer than any value the block stores: 96 fraction
bits. Where the spec bounds an error, the result differs from these by an open value (entry 6). -/

namespace Sys2Proof.Machine

/-- 2^96. -/
def one96 : Nat := 2 ^ 96
/-- pi / 2 in units of 2^-96. -/
def halfPi96 : Nat := 124451306656115542615260972311
/-- ln 2 in units of 2^-96. -/
def ln2_96 : Nat := 54916777467707473351141471128

/-- The terms of the alternating series of sine (`k` = 1) or cosine (`k` = 0) from term `t` on, for `x2` = x squared. -/
def trigSeries (x2 : Int) : Nat → Int → Nat → Int
  | 0, _, _ => 0
  | n + 1, t, k => t + trigSeries x2 n (-(t * x2 / (one96 : Int) / (((k + 1) * (k + 2) : Nat) : Int))) (k + 2)

/-- sin of `f` / 2^30 quarter turns, f in [0, 2^30], in units of 2^-96. -/
def sinQuarter (f : Nat) : Int :=
  let x : Int := ((f * halfPi96 / 2 ^ 30 : Nat) : Int)
  trigSeries (x * x / (one96 : Int)) 26 x 1

/-- sin of `th` / 2^32 turns, in units of 2^-96. -/
def sin96 (th : Nat) : Int :=
  let q := th / 2 ^ 30 % 4
  let f := th % 2 ^ 30
  match q with
  | 0 => sinQuarter f
  | 1 => sinQuarter (2 ^ 30 - f)
  | 2 => -sinQuarter f
  | _ => -sinQuarter (2 ^ 30 - f)

/-- cos of `th` / 2^32 turns, in units of 2^-96. -/
def cos96 (th : Nat) : Int := sin96 (th + 2 ^ 30)

/-- One Q1.30 value within 2^-29 of the exact one (09 R280): the open value `e` says which. -/
def within29 (x : Int) (e : Nat) : Int := x / (2 : Int) ^ 66 - 1 + ((e % 4 : Nat) : Int)

/-- SINCOS of the current law: sine and cosine of an electrical angle in Q1.30 (09 R280). -/
def sincos (th : Nat) : Int × Int :=
  (within29 (sin96 (th % 2 ^ 32)) (Config.sinError (th % 2 ^ 32)), within29 (cos96 (th % 2 ^ 32)) (Config.cosError (th % 2 ^ 32)))

/-- The integer square root, bit by bit from bit `b`. -/
def isqrtFrom (n : Nat) : Nat → Nat → Nat
  | 0, r => r
  | b + 1, r => isqrtFrom n b (if (r + 2 ^ b) * (r + 2 ^ b) ≤ n then r + 2 ^ b else r)

/-- floor(sqrt n), for n below 2^256. -/
def isqrt (n : Nat) : Nat := isqrtFrom n 128 0

/-- The fraction bits of a base-2 logarithm of the mantissa `x` in [2^96, 2^97). -/
def log2Bits : Nat → Nat → Nat → Nat
  | 0, _, a => a
  | n + 1, x, a =>
    let y := x * x / one96
    if 2 * one96 ≤ y then log2Bits n (y / 2) (2 * a + 1) else log2Bits n y (2 * a)

/-- log2 of `a` / `b` in units of 2^-64, for positive a and b below 2^64. -/
def log2Ratio (a b : Nat) : Int :=
  let x := a * 2 ^ 160 / max 1 b
  let e := Nat.log2 x
  let mant := if 96 ≤ e then x / 2 ^ (e - 96) else x * 2 ^ (96 - e)
  ((e : Int) - 160) * 2 ^ 64 + (log2Bits 64 mant 0 : Nat)

/-- The terms of the exponential series. -/
def expSeries (x : Int) : Nat → Int → Nat → Int
  | 0, _, _ => 0
  | n + 1, t, k => t + expSeries x n (t * x / (one96 : Int) / ((k + 1 : Nat) : Int)) (k + 1)

/-- 2^(y / 2^64) in units of 2^-96. -/
def exp2 (y : Int) : Nat :=
  let i := y / 2 ^ 64
  let f := y - i * 2 ^ 64
  let v := (expSeries (f * ln2_96 / 2 ^ 64) 32 one96 0).toNat
  if 0 ≤ i then v * 2 ^ i.toNat else v / 2 ^ (-i).toNat

end Sys2Proof.Machine
end

