-- ==== Sys2Proof/Machine/Vec.lean ====
section
/-! DEFINITION. Vectors, matrices and rotations in fixed point with 64 fraction bits, far finer than any stored
format; a value is rounded to its format where the spec writes it back (entry 40). -/

namespace Sys2Proof.Machine

/-- A number with 64 fraction bits. -/
abbrev Fx := Int

/-- 1. -/
def fx1 : Fx := 2 ^ 64
/-- A stored value with `f` fraction bits. -/
def ofFmt (f : Nat) (v : Int) : Fx := if f ≤ 64 then v * 2 ^ (64 - f) else roundShift v (f - 64)
/-- Convergent rounding to `f` fraction bits. -/
def toFmt (f : Nat) (x : Fx) : Int := if f ≤ 64 then roundShift x (64 - f) else x * 2 ^ (f - 64)
/-- A value as its format holds it. -/
def wb (f : Nat) (x : Fx) : Fx := ofFmt f (toFmt f x)
/-- Product. -/
def fmul (a b : Fx) : Fx := roundShift (a * b) 64
/-- Quotient; 0 for a divisor of 0. -/
def fdiv (a b : Fx) : Fx :=
  if b = 0 then 0 else if b < 0 then roundDiv (-a * 2 ^ 64) (-b).toNat else roundDiv (a * 2 ^ 64) b.toNat
/-- Square root of a value that is not negative. -/
def fsqrt (a : Fx) : Fx := if a ≤ 0 then 0 else (isqrt (a.toNat * 2 ^ 64) : Nat)

/-- Sum of two vectors. -/
def vadd (a b : List Int) : List Int := List.zipWith (· + ·) a b
/-- Difference of two vectors. -/
def vsub (a b : List Int) : List Int := List.zipWith (· - ·) a b
/-- A vector times a number. -/
def vscale (k : Fx) (a : List Fx) : List Fx := a.map (fmul k)
/-- The negative of a vector. -/
def vneg (a : List Int) : List Int := a.map (fun x => -x)
/-- Scalar product, exact and rounded once. -/
def vdot (a b : List Fx) : Fx := roundShift ((List.zipWith (· * ·) a b).foldl (· + ·) 0) 64
/-- Vector product. -/
def vcross (a b : List Fx) : List Fx :=
  let x (l : List Fx) (i : Nat) : Fx := nthI l i
  let c (i j : Nat) : Fx := roundShift (x a i * x b j - x a j * x b i) 64
  [c 1 2, c 2 0, c 0 1]
/-- Length of a vector. -/
def vnorm (a : List Fx) : Fx := fsqrt (vdot a a)
/-- The zero vector. -/
def v0 : List Int := [0, 0, 0]
/-- Rounds every element to `f` fraction bits. -/
def vwb (f : Nat) (a : List Fx) : List Fx := a.map (wb f)

/-- Row `i` of a matrix of rows of length `n`. -/
def mrow (n : Nat) (a : List Int) (i : Nat) : List Int := (a.drop (n * i)).take n
/-- Transpose of a 3 x 3 matrix, row-major. -/
def mT (a : List Int) : List Int := [0, 3, 6, 1, 4, 7, 2, 5, 8].map (nthI a)
/-- 3 x 3 matrix times vector. -/
def mV (a v : List Fx) : List Fx := (List.range 3).map (fun i => vdot (mrow 3 a i) v)
/-- Product of 3 x 3 matrices. -/
def mM (a b : List Fx) : List Fx :=
  let t := mT b
  (List.range 3).flatMap (fun i => (List.range 3).map (fun j => vdot (mrow 3 a i) (mrow 3 t j)))
/-- The unit matrix. -/
def m1 : List Fx := [fx1, 0, 0, 0, fx1, 0, 0, 0, fx1]
/-- The matrix of the vector product with `a`. -/
def skew (a : List Int) : List Int :=
  let x := nthI a 0
  let y := nthI a 1
  let z := nthI a 2
  [0, -z, y, z, 0, -x, -y, x, 0]

/-- sin of an angle in radians, |x| below 8. -/
def sinR (x : Fx) : Fx := let y := x * 2 ^ 32; roundShift (trigSeries (y * y / (one96 : Int)) 36 y 1) 32
/-- cos of an angle in radians. -/
def cosR (x : Fx) : Fx := let y := x * 2 ^ 32; roundShift (trigSeries (y * y / (one96 : Int)) 36 (one96 : Int) 0) 32
/-- pi. -/
def piFx : Fx := ((2 * halfPi96 / 2 ^ 32 : Nat) : Int)

/-- Refines the angle `a` of the direction (c, s). -/
def angStep (c s a : Fx) : Fx := a + (fmul s (cosR a) - fmul c (sinR a))

/-- The angle in (-pi, pi] of the direction (x, y). -/
def atan2Fx (y x : Fx) : Fx :=
  let n := vnorm [x, y, 0]
  if n = 0 then 0
  else
    let c := fdiv x n
    let s := fdiv y n
    let a0 := if absI y ≤ absI x then (if 0 ≤ x then 0 else if 0 ≤ y then piFx else -piFx) else if 0 ≤ y then piFx / 2 else -(piFx / 2)
    angStep c s (angStep c s (angStep c s (angStep c s (angStep c s a0))))

/-- Product of quaternions w, x, y, z. -/
def qmul (a b : List Fx) : List Fx :=
  let u := a.drop 1
  let v := b.drop 1
  let w := fmul (nthI a 0) (nthI b 0) - vdot u v
  w :: vadd (vadd (vscale (nthI a 0) v) (vscale (nthI b 0) u)) (vcross u v)
/-- The conjugate. -/
def qconj (a : List Int) : List Int := nthI a 0 :: vneg (a.drop 1)
/-- Unit length. -/
def qunit (a : List Fx) : List Fx := let n := vnorm a; a.map (fun x => fdiv x n)
/-- Rotation matrix of a unit quaternion. -/
def qmat (q : List Fx) : List Fx :=
  let w := nthI q 0
  let v := q.drop 1
  let k := skew v
  vadd (vadd m1 (vscale (2 * w) k)) (vscale (2 * fx1) (mM k k))
/-- The rotation angle in [0, pi] and axis of a unit quaternion. -/
def qaxis (q : List Fx) : Fx × List Fx :=
  let q := if nthI q 0 < 0 then vneg q else q
  let v := q.drop 1
  let n := vnorm v
  if n = 0 then (0, v0) else (2 * atan2Fx n (nthI q 0), v.map (fun x => fdiv x n))
/-- The quaternion of a rotation by `a` about a unit axis. -/
def qrot (a : Fx) (ax : List Fx) : List Fx := cosR (a / 2) :: vscale (sinR (a / 2)) ax
/-- The unit quaternion of a rotation matrix. -/
def matq (r : List Fx) : List Fx :=
  let a (i : Nat) : Fx := nthI r i
  let t := a 0 + a 4 + a 8
  if 0 < t then qunit [fx1 + t, a 7 - a 5, a 2 - a 6, a 3 - a 1]
  else if a 4 ≤ a 0 ∧ a 8 ≤ a 0 then qunit [a 7 - a 5, fx1 + a 0 - a 4 - a 8, a 1 + a 3, a 2 + a 6]
  else if a 8 ≤ a 4 then qunit [a 2 - a 6, a 1 + a 3, fx1 + a 4 - a 0 - a 8, a 5 + a 7]
  else qunit [a 3 - a 1, a 2 + a 6, a 5 + a 7, fx1 + a 8 - a 0 - a 4]

end Sys2Proof.Machine
end

