-- ==== Sys2Proof/Machine/Kin.lean ====
section
/-! DEFINITION. Chains and capsules of the model, with forward kinematics, Jacobian and distances with 64 fraction bits, for the
Runner's own geometry, the island and the free error of a distance (04 R131, 05 R166, R167, 06 R186). -/

namespace Sys2Proof.Machine

/-- A joint record (04 R131). -/
structure Link where
  typ : Nat := 0
  parent : Nat := 0
  axis : Nat := 0
  org : List Fx := []
  rot : List Fx := []
  ax : List Fx := []
  mass : Fx := 0
  com : List Fx := []
  inertia : List Fx := []
  qMin : Int := 0
  qMax : Int := 0
  msh : Nat := 0
  ish : Nat := 0
  tsh : Nat := 0
  rsh : Nat := 0
  deriving DecidableEq, Repr

/-- The symmetric matrix of Ixx, Iyy, Izz, Ixy, Ixz, Iyz. -/
def symm (l : List Int) : List Int := [0, 3, 4, 3, 1, 5, 4, 5, 2].map (nthI l)

/-- A joint record from its bytes. -/
def linkOf (r : List Nat) : Link :=
  { typ := field r 0 1, parent := field r 1 1, axis := field r 2 2, org := (s32s r 4 3).map (ofFmt 23), rot := (s32s r 16 9).map (ofFmt 30),
    ax := (s32s r 52 3).map (ofFmt 30), mass := ofFmt (field r 112 1) (s32 r 64), com := (s32s r 68 3).map (ofFmt 23),
    inertia := symm ((s32s r 80 6).map (ofFmt (field r 113 1))), qMin := s32 r 104, qMax := s32 r 108, msh := field r 112 1, ish := field r 113 1, tsh := field r 114 1, rsh := field r 115 1 }

/-- The joint records of a chain. -/
def linksOf (img : List Nat) (c : Nat) : List Link := ((jointRaw img).filter (fun x => x.1 == c)).map (fun x => linkOf x.2)

/-- Fraction bits of a joint position's class. -/
def qFmt (l : Link) : Nat := if l.typ = 1 then 23 else 28

/-- Spreads values of the actuated joints over the joint records, 0 for fixed ones. -/
def spread : List Link → List Int → List Int
  | [], _ => []
  | l :: r, q => if l.typ = 2 then 0 :: spread r q else q.headD 0 :: spread r (q.drop 1)

/-- Keeps the values of the actuated joints. -/
def actuated (ls : List Link) (v : List Int) : List Int := ((ls.zip v).filter (fun x => x.1.typ != 2)).map (·.2)

/-- A joint frame: rotation, origin, axis in the cell frame. -/
structure Frame where
  r : List Fx := []
  p : List Fx := []
  z : List Fx := []
  deriving DecidableEq, Repr

/-- SINCOS of the Crucible (R159). -/
def crucSincos (q : Int) : Fx × Fx :=
  let a := ofFmt 28 q
  (ofFmt 30 (sinR a / (2 : Int) ^ 34 - 1 + (Config.crucSin (unsg 32 q) % 4 : Nat)),
   ofFmt 30 (cosR a / (2 : Int) ^ 34 - 1 + (Config.crucCos (unsg 32 q) % 4 : Nat)))

/-- The frame of the base of a chain. -/
def baseFrame (b : List Int) : Frame := { p := (b.take 3).map (ofFmt 23), r := (b.drop 3).map (ofFmt 30) }

/-- The frame of the parent of a joint. -/
def parentOf (base : Frame) (fs : List Frame) (l : Link) : Frame := if l.parent = 0xFF then base else fs.getD l.parent base

/-- The frame of a joint at position q (R166). -/
def fkJoint (base : Frame) (fs : List Frame) (l : Link) (q : Int) : Frame :=
  let up := parentOf base fs l
  let ro := vwb 30 (mM up.r l.rot)
  let po := vwb 23 (vadd up.p (mV up.r l.org))
  let z := vwb 30 (mV ro l.ax)
  match l.typ with
  | 0 =>
    let sc := crucSincos q
    let k := skew l.ax
    let kk := vwb 30 (mM k k)
    let e := vwb 30 (vadd (vadd m1 (vscale sc.1 k)) (vscale (fx1 - sc.2) kk))
    { r := vwb 30 (mM ro e), p := po, z := z }
  | 1 => { r := ro, p := vwb 23 (vadd po (vscale (ofFmt 23 q) z)), z := z }
  | _ => { r := ro, p := po, z := z }

/-- Forward kinematics: the frames of the joint records in order (R166). -/
def fk (base : Frame) (ls : List Link) (q : List Int) : List Frame :=
  (ls.zip (spread ls q)).foldl (fun fs x => fs ++ [fkJoint base fs x.1 x.2]) []

/-- The flange frame. -/
def flange (base : Frame) (fs : List Frame) : Frame := fs.getLastD base

/-- The joint records on the way from the last one to the base. -/
def ancestors (ls : List Link) : Nat → Nat → List Nat
  | 0, _ => []
  | n + 1, i => match ls[i]? with
    | none => []
    | some l => i :: (if l.parent = 0xFF then [] else ancestors ls n l.parent)

/-- The column of a joint at a point (R167). -/
def jacCol (l : Link) (f : Frame) (pf : List Fx) : List Fx :=
  if l.typ = 0 then vwb 23 (vcross f.z (vsub pf f.p)) ++ f.z else f.z ++ v0

/-- The Jacobian at the flange origin, one column per actuated joint (R167). -/
def jacobian (base : Frame) (ls : List Link) (fs : List Frame) : List (List Fx) :=
  let anc := ancestors ls (ls.length + 1) (ls.length - 1)
  let pf := (flange base fs).p
  ((ls.zip fs).zipIdx.filter (fun x => x.1.1.typ != 2)).map (fun x =>
    if anc.contains x.2 then jacCol x.1.1 x.1.2 pf else [0, 0, 0, 0, 0, 0])

/-! ## Motion of the links -/

/-- Motion of a link: angular velocity, angular acceleration, acceleration of its origin. -/
structure Motion where
  w : List Fx := [0, 0, 0]
  wd : List Fx := [0, 0, 0]
  a : List Fx := [0, 0, 0]
  deriving DecidableEq, Repr

/-- Forward pass of one link (R178). -/
def fwdLink (base : Frame) (g : List Fx) (fs : List Frame) (ms : List Motion) (l : Link) (f : Frame) (qd qdd : Fx) : Motion :=
  let up := if l.parent = 0xFF then { a := vneg g } else ms.getD l.parent {}
  let pp := if l.parent = 0xFF then base.p else (fs.getD l.parent base).p
  let d := vsub f.p pp
  let a := vadd (vadd up.a (vcross up.wd d)) (vcross up.w (vcross up.w d))
  let zd := vscale qd f.z
  match l.typ with
  | 0 => { w := vadd up.w zd, wd := vadd (vadd up.wd (vscale qdd f.z)) (vcross up.w zd), a := a }
  | 1 => { w := up.w, wd := up.wd, a := vadd (vadd a (vscale qdd f.z)) (vscale (2 * fx1) (vcross up.w zd)) }
  | _ => { w := up.w, wd := up.wd, a := a }

/-- Forward pass over a chain (R178). -/
def fwdPass (base : Frame) (g : List Fx) (ls : List Link) (fs : List Frame) (qd qdd : List Fx) : List Motion :=
  ((ls.zip fs).zip (qd.zip qdd)).foldl (fun ms x => ms ++ [fwdLink base g fs ms x.1.1 x.1.2 x.2.1 x.2.2]) []

/-- The largest magnitude of a vector. -/
def maxAbs (l : List Int) : Nat := (magn l).toNat

/-! ## Distances (06 R186) -/

/-- Squared distance of two points. -/
def dist2 (a b : List Fx) : Fx := let d := vsub a b; vdot d d

/-- The point at fraction `s` between two points. -/
def along (a b : List Fx) (s : Fx) : List Fx := vadd a (vscale s (vsub b a))

/-- The fraction in [0, 1] of the point of a segment nearest to `p`. -/
def nearestOn (a b p : List Fx) : Fx :=
  let u := vsub b a
  clampI 0 fx1 (fdiv (vdot (vsub p a) u) (vdot u u))

/-- Smallest squared distance of two segments: an inner stationary point, or one with an end point. -/
def segDist2 (a b c d : List Fx) : Fx :=
  let u := vsub b a
  let v := vsub d c
  let w := vsub a c
  let uu := vdot u u
  let vv := vdot v v
  let uv := vdot u v
  let det := fmul uu vv - fmul uv uv
  let s := fdiv (fmul uv (vdot v w) - fmul vv (vdot u w)) det
  let t := fdiv (fmul uu (vdot v w) - fmul uv (vdot u w)) det
  let ends := [dist2 a (along c d (nearestOn c d a)), dist2 b (along c d (nearestOn c d b)), dist2 c (along a b (nearestOn a b c)),
    dist2 d (along a b (nearestOn a b d))]
  let inner := if 0 < det ∧ 0 ≤ s ∧ s ≤ fx1 ∧ 0 ≤ t ∧ t ≤ fx1 then [dist2 (along a b s) (along c d t)] else []
  (inner ++ ends.drop 1).foldl min (nthI ends 0)

/-- A capsule in the cell frame: end points and radius; `frame` gives the frame of a chain's joint. -/
def capsuleAt (frame : Nat → Nat → Frame) (r : List Nat) : List Fx × List Fx × Fx :=
  let a := (s32s r 4 3).map (ofFmt 23)
  let b := (s32s r 16 3).map (ofFmt 23)
  let rad := ofFmt 23 (s32 r 28)
  if field r 0 1 = 0xFF then (a, b, rad)
  else
    let f := frame (field r 0 1) (field r 1 1)
    let x (p : List Fx) : List Fx := vwb 23 (vadd f.p (mV f.r p))
    (x a, x b, rad)

/-- The distance of two capsules in Length (R186), within 32 LSB of the exact one. -/
def capsuleDist (x y : List Fx × List Fx × Fx) : Int :=
  let d := fsqrt (segDist2 x.1 x.2.1 y.1 y.2.1) - x.2.2 - y.2.2
  d / (2 : Int) ^ 41 - 31 + (Config.distError (unsg 72 d) % 64 : Nat)

end Sys2Proof.Machine
end

