-- ==== Sys2Proof/Machine/SafeCfg.lean ====
section
/-! DEFINITION. Safety configuration frames: their layout, the records of their sections, and the checks of steps 1 and 4
(15 R458 to R462; 16 R470, R473, R480, R486). -/

namespace Sys2Proof.Machine

/-! ## The frame and its sections (R458, R461) -/

/-- The length that a frame states. -/
def cfgLen (f : List Nat) : Nat := field f 8 4
/-- The bytes that SIG covers; the digest of a LOAD frame is taken over them too. -/
def cfgSigned (f : List Nat) : List Nat := f.take (cfgLen f - 96)
/-- PUBKEY. -/
def cfgPub (f : List Nat) : List Nat := (f.drop 64).take 96
/-- SIG. -/
def cfgSig (f : List Nat) : List Nat := (f.drop (cfgLen f - 96)).take 96
/-- BODY. -/
def cfgBody (f : List Nat) : List Nat := (f.drop 160).take (cfgLen f - 256)

/-- The sections of a body as (byte offset in the frame, ID, bytes); the second part says whether they fill it. -/
def bodySections : Nat → Nat → List Nat → List (Nat × Nat × List Nat) × Bool
  | 0, _, l => ([], l == [])
  | n + 1, o, l =>
    if l = [] then ([], true)
    else
      let len := field l 2 2
      if l.length < 4 + len then ([], false)
      else
        let r := bodySections n (o + 4 + len) (l.drop (4 + len))
        ((o, field l 0 1, (l.drop 4).take len) :: r.1, r.2)

/-- The sections of a frame. -/
def cfgSections (f : List Nat) : List (Nat × Nat × List Nat) := (bodySections 8192 160 (cfgBody f)).1

/-- The bytes of a section, none where the frame does not hold it: its records are then unused. -/
def cfgSec (f : List Nat) (id : Nat) : List Nat := ((cfgSections f).find? (fun s => s.2.1 == id)).elim [] (·.2.2)

/-- Record `i` of a section. -/
def cfgRec (f : List Nat) (id size i : Nat) : List Nat := padTo size ((cfgSec f id).drop (size * i) |>.take size)

/-- PORTS record. -/
def portRec (f : List Nat) (i : Nat) : List Nat := cfgRec f 1 8 i
/-- INPUTS record. -/
def inRec (f : List Nat) (i : Nat) : List Nat := cfgRec f 2 16 i
/-- OUTPUTS record. -/
def outRec (f : List Nat) (i : Nat) : List Nat := cfgRec f 3 16 i
/-- STO record. -/
def stoRec (f : List Nat) (i : Nat) : List Nat := cfgRec f 4 8 i
/-- SETS record. -/
def setRec (f : List Nat) (i : Nat) : List Nat := cfgRec f 5 32 i
/-- AXES record. A frame without the section observes no port. -/
def obsRec (f : List Nat) (i : Nat) : List Nat :=
  if cfgSec f 6 = [] then 0xFF :: List.replicate 31 0 else cfgRec f 6 32 i
/-- CONNS record. -/
def connRec (f : List Nat) (i : Nat) : List Nat := cfgRec f 7 16 i

/-- Whether a CONNS record names a connection: an unused one is all 0, but for DIR. -/
def connUsed (r : List Nat) : Bool := r.zipIdx.any (fun x => x.1 != 0 && x.2 != 1)
/-- The receive connections. -/
def recvConns (f : List Nat) : List Nat := (List.range 32).filter (fun i => connUsed (connRec f i) && field (connRec f i) 1 1 == 0)
/-- The send connections. -/
def sendConns (f : List Nat) : List Nat := (List.range 32).filter (fun i => connUsed (connRec f i) && field (connRec f i) 1 1 == 1)
/-- The AXES records in use. -/
def obsUsed (f : List Nat) : List Nat := (List.range 16).filter (fun i => field (obsRec f i) 0 1 != 0xFF)
/-- The axis set of a slot. -/
def setOfSlot (f : List Nat) (s : Nat) : Option Nat := (List.range 32).find? (fun i => (field (setRec f i) 0 2).testBit s)
/-- The AXES records of the slots of a set. -/
def setObs (f : List Nat) (s : Nat) : List Nat :=
  (obsUsed f).filter (fun i => (field (setRec f s) 0 2).testBit (field (obsRec f i) 2 1))

/-! ## SEPARATION (16 R473) -/

/-- The parts of a SEPARATION section. -/
structure SepCfg where
  chains : List (List Nat) := []
  joints : List (Nat × List Nat) := []
  caps : List (List Nat) := []
  sens : List (List Nat) := []
  sets : List (List Nat) := []
  groups : List (List Nat) := []
  srcs : List (List Nat) := []
  vh : Nat := 0
  c : Nat := 0
  zd : Nat := 0
  zr : Nat := 0
  grace : Nat := 0
  look : Nat := 0
  fdec : Nat := 1
  tpx : Nat := 0

/-- The joints of the chains in order, each with its chain. -/
def sepJoints : Nat → List (List Nat) → List Nat → List (Nat × List Nat) × List Nat
  | _, [], l => ([], l)
  | c, h :: t, l =>
    let n := field h 48 1
    let r := sepJoints (c + 1) t (l.drop (80 * n))
    ((records l 0 80 n).map (fun j => (c, j)) ++ r.1, r.2)

/-- A SEPARATION section and its length; a section of position sources alone has no set records. -/
def sepCfg (s : List Nat) : SepCfg × Nat :=
  let nch := field s 0 1
  let ncap := field s 1 2
  let nsens := field s 3 1
  let nsrc := field s 4 1
  let ngrp := field s 5 1
  let mgr := nch + ncap + nsens + ngrp != 0 || (nsrc == 0 && decide (448 ≤ s.length))
  let chains := records s 64 64 nch
  let l := s.drop (64 + 64 * nch)
  let j := sepJoints 0 chains l
  let caps := records j.2 0 40 ncap
  let o := 40 * ncap
  let sens := records j.2 o 64 nsens
  let o := o + 64 * nsens
  let sets := if mgr then records j.2 o 12 32 else []
  let o := o + 12 * sets.length
  let groups := records j.2 o 12 ngrp
  let o := o + 12 * ngrp
  let srcs := records j.2 o 24 nsrc
  ({ chains := chains, joints := j.1, caps := caps, sens := sens, sets := sets, groups := groups, srcs := srcs, vh := field s 8 4,
     c := field s 12 4, zd := field s 16 4, zr := field s 20 4, grace := field s 24 4, look := field s 28 4, fdec := field s 32 4,
     tpx := field s 36 4 },
   64 + 64 * nch + 80 * j.1.length + o + 24 * nsrc)

/-- The SEPARATION part of a configuration. -/
def sepOf (f : List Nat) : Option SepCfg := if cfgSec f 8 = [] then none else some (sepCfg (cfgSec f 8)).1

/-- Whether the node computes separation (16 R469). -/
def sepRuns (f : List Nat) : Bool := (sepOf f).any (fun p => p.caps != [])

/-- The joints of a chain with their index in it. -/
def chainJoints (p : SepCfg) (c : Nat) : List (List Nat) := (p.joints.filter (fun j => j.1 == c)).map (·.2)

/-- The joint records of a chain as the forward kinematics takes them; bytes 2 and 3 name the position's source. -/
def sepLink (r : List Nat) : Link := linkOf (r.take 64)

/-- The joints that a joint of a chain hangs on, itself included. -/
def sepAnc (p : SepCfg) (c j : Nat) : List Nat := ancestors ((chainJoints p c).map sepLink) 33 j

/-- SET_V of a set (16 R480). -/
def sepSetV (p : SepCfg) (s : Nat) : Nat :=
  let caps := p.caps.filter (fun r => (field r 4 4).testBit s)
  let js := (caps.flatMap (fun r => (sepAnc p (field r 0 1) (field r 1 1)).map (fun j => (field r 0 1, j)))).dedup
  let part (x : Nat × Nat) : Nat :=
    let r := (chainJoints p x.1).getD x.2 []
    if field r 0 1 = 0 then field r 68 4 * field r 64 4 else if field r 0 1 = 1 then field r 68 4 * 2 ^ 23 else 0
  (roundShift ((js.map part).foldl (· + ·) 0 : Nat) 23).toNat

/-- Cycles of 400 MHz that the separation steps take (16 R486). -/
def sepCost (p : SepCfg) : Nat :=
  24000 + 100 * p.joints.length + 24 * p.caps.length + ceilDiv (2 * p.caps.length * 64 * p.sens.length) 32 + 160 * 32

/-- Whether the bytes of an unused record are 0, but for the ones listed. -/
def restZero (r : List Nat) (keep : List Nat) : Bool := r.zipIdx.all (fun x => x.1 == 0 || keep.contains x.2)

/-- Whether a SEPARATION section keeps the ranges and references of R473. Nodes 0 and 1 are the managers (00 R5): theirs holds no position
source, a worker's nothing else. A set record of zeros is that of an unused set. -/
def sepOk (node : Nat) (s : List Nat) : Bool :=
  let x := sepCfg s
  let p := x.1
  decide (64 ≤ s.length) && x.2 == s.length && decide (field s 0 1 ≤ 16 ∧ field s 1 2 ≤ 256 ∧ field s 3 1 ≤ 4 ∧ field s 4 1 ≤ 16 ∧ field s 5 1 ≤ 32)
    && (if node < 2 then field s 4 1 == 0 else zeros s 0 4 && field s 5 1 == 0)
    && zeros s 6 2 && zeros s 40 24 && decide (p.grace ≤ 1000000 ∧ p.look ≤ 1000000 ∧ 0 < p.fdec ∧ p.joints.length ≤ 192)
    && p.chains.all (fun r => decide (1 ≤ field r 48 1 ∧ field r 48 1 ≤ 32) && zeros r 49 15)
    && (List.range p.chains.length).all (fun c => (chainJoints p c).zipIdx.all (fun y =>
         decide (field y.1 0 1 ≤ 2) && (field y.1 1 1 == 0xFF || decide (field y.1 1 1 < y.2)) && decide (field y.1 3 1 < 16) && zeros y.1 72 8))
    && p.caps.all (fun r => decide (field r 1 1 < (chainJoints p (field r 0 1)).length) && zeros r 2 2 && zeros r 36 4)
    && p.sens.all (fun r => decide (field r 0 1 < 4 ∧ 1 ≤ field r 8 1 ∧ field r 8 1 ≤ 16) && zeros r 1 1 && zeros r 9 3 && zeros r 60 4)
    && (p.sens.map (fun r => field r 0 1)).Nodup
    && p.sets.all (fun r => decide (field r 0 1 < 16) && (field r 1 1 == 2 || field r 1 1 == 3 || restZero r []) && zeros r 2 2 && zeros r 4 8)
    && p.groups.all (fun r => decide (field r 0 1 < 32 ∧ field r 1 1 ≤ 1) && zeros r 2 2)
    && p.srcs.all (fun r => decide (field r 0 1 < 16 ∧ field r 1 1 < 16 ∧ field r 2 1 ≤ 1) && zeros r 3 1 && field r 8 4 != 0 && zeros r 20 4)

/-! ## Checks (R459 steps 1 and 4, R461, R462) -/

/-- Step 1: magic, format, length, reserved bytes, node. The byte offset of the first field that fails. -/
def cfgStep1 (node posted : Nat) (f : List Nat) : Option Nat :=
  if field f 0 4 ≠ 0x53464353 then some 0
  else if field f 4 2 ≠ 1 then some 4
  else if 3 < field f 6 1 then some 6
  else if !zeros f 7 1 then some 7
  else if cfgLen f ≠ posted ∨ cfgLen f < 256 ∨ 32768 < cfgLen f then some 8
  else if field f 12 1 ≠ node then some 12
  else if !zeros f 13 51 then some 13
  else none

/-- A value in a range. -/
def inRange (x lo hi : Nat) : Bool := decide (lo ≤ x ∧ x ≤ hi)

/-- PORTS: pulse width and period; no two blanked intervals meet (R440). -/
def okPort (r : List Nat) : Bool :=
  restZero r [] || (inRange (field r 0 2) 10 199 && inRange (field r 2 2) 10 10000 && zeros r 4 4
    && decide (2 * (10 * field r 0 2 + 100) < 1000 * field r 2 2))

/-- INPUTS. -/
def okInput (r : List Nat) : Bool :=
  if field r 0 1 = 0 then restZero r []
  else decide (field r 0 1 ≤ 2 ∧ field r 1 1 ≤ 3 ∧ field r 2 1 ≤ 1) && inRange (field r 3 1) 1 4 && inRange (field r 4 2) 1 10000
    && inRange (field r 6 2) 100 100000 && zeros r 12 4

/-- OUTPUTS; `used` is the mask of inputs in use. -/
def okOutput (used : Nat) (r : List Nat) : Bool :=
  if field r 2 1 = 0 then restZero r []
  else field r 2 1 == 1 && decide (field r 3 1 ≤ 1) && (field r 0 2 &&& used) == field r 0 2 && inRange (field r 4 2) 10 1000
    && inRange (field r 6 1) 1 50 && zeros r 7 1 && inRange (field r 8 2) 5 99 && inRange (field r 10 2) 100 60000 && zeros r 12 4

/-- STO. -/
def okSto (r : List Nat) : Bool :=
  if field r 0 1 = 0 then restZero r []
  else field r 0 1 == 1 && zeros r 1 1 && inRange (field r 2 2) 5 99 && inRange (field r 4 2) 100 60000 && zeros r 6 2

/-- SETS. -/
def okSet (r : List Nat) : Bool :=
  if field r 0 2 = 0 then restZero r [] else decide (field r 2 1 ≤ 1 ∧ field r 3 1 ≤ 1) && zeros r 28 4

/-- AXES. -/
def okAxis (r : List Nat) : Bool :=
  if field r 0 1 = 0xFF then restZero (r.drop 1) []
  else decide (field r 0 1 < 16 ∧ field r 2 1 < 16 ∧ field r 7 1 ≤ 1) && (field r 1 1 == 0xFF || decide (field r 1 1 < 16))
    && inRange (field r 3 1) 8 48 && inRange (field r 5 1) 8 40 && decide (field r 6 1 ≤ 8) && field r 8 1 / 4 % 4 == 0
    && field r 4 1 + field r 5 1 + field r 6 1 + field r 8 1 / 16 == field r 3 1
    && (match field r 8 1 % 4 with
        | 0 => field r 8 1 / 16 == 0
        | 3 => inRange (field r 8 1 / 16) 3 8
        | _ => field r 8 1 / 16 == 1)
    && decide (field r 10 1 ≤ 3) && inRange (field r 11 1) 1 8 && zeros r 16 16

/-- CONNS. -/
def okConn (node : Nat) (r : List Nat) : Bool :=
  if !connUsed r then decide (field r 1 1 ≤ 1)
  else if field r 1 1 = 1 then field r 0 1 == node && inRange (field r 7 1) 1 2 && zeros r 4 3 && zeros r 8 8
  else field r 1 1 == 0 && inRange (field r 4 1) 1 2 && decide (field r 5 1 ≤ 3 ∧ field r 6 1 ≤ 3) && inRange (field r 7 1) 1 2
    && zeros r 11 1 && (if field r 7 1 = 2 then zeros r 8 8 else field r 8 2 == 0 || inRange (field r 10 1) 1 4)

/-- The sections of R461 with their record size and number. -/
def cfgTable : List (Nat × Nat × Nat) := [(1, 8, 8), (2, 16, 16), (3, 16, 8), (4, 8, 16), (5, 32, 32), (6, 32, 16), (7, 16, 32)]

/-- Whether a record of a section keeps its ranges. -/
def okRec (node : Nat) (f : List Nat) (id : Nat) (r : List Nat) : Bool :=
  match id with
  | 1 => okPort r
  | 2 => okInput r
  | 3 => okOutput (maskOf ((List.range 16).filter (fun i => field (inRec f i) 0 1 != 0))) r
  | 4 => okSto r
  | 5 => okSet r
  | 6 => okAxis r
  | _ => okConn node r

/-- Step 4 on the content of a LOAD frame: the byte offset of the first thing wrong. -/
def cfgContent (node : Nat) (f : List Nat) : Option Nat :=
  let b := bodySections 8192 160 (cfgBody f)
  if !b.2 then some 160
  else b.1.findSome? (fun s =>
    if ((b.1.filter (fun x => x.2.1 == s.2.1)).length ≠ 1) ∨ field f (s.1 + 1) 1 ≠ 0 then some s.1
    else if s.2.1 = 8 then (if sepOk node s.2.2 then none else some s.1)
    else match cfgTable.find? (fun x => x.1 == s.2.1) with
      | none => some s.1
      | some x =>
        if s.2.2.length ≠ x.2.1 * x.2.2 then some s.1
        else ((List.range x.2.2).find? (fun i => !okRec node f x.1 (cfgRec f x.1 x.2.1 i))).map (fun i => s.1 + 4 + x.2.1 * i)) <|>
    -- a slot lies in one set, a port is observed once
    (if (List.range 16).any (fun s => decide (1 < ((List.range 32).filter (fun i => (field (setRec f i) 0 2).testBit s)).length))
        || !decide (((obsUsed f).map (fun i => field (obsRec f i) 0 1)).Nodup) then some 160 else none)

end Sys2Proof.Machine
end

