-- ==== Sys2Proof/Machine/Test.lean ====
section
/-! DEFINITION. Test registers and perturbation (25). The units act where the perturbed path is modelled; here are unlocking,
the enables, the count of events and the injection of errors. -/

namespace Sys2Proof.Machine

/-- Units (R670). -/
def uFAB : Nat := 0
/-- Unit LADLE. -/
def uLADLE : Nat := 1
/-- Unit TWI. -/
def uTWI : Nat := 2
/-- Unit ENC. -/
def uENC : Nat := 3
/-- Unit TIME. -/
def uTIME : Nat := 4
/-- Unit ECC. -/
def uECC : Nat := 5
/-- Unit PCIE. -/
def uPCIE : Nat := 6

/-- Whether a unit is in effect. -/
def unitOn (m : Mach) (u : Nat) : Bool := (getF m TEST_STAT_ACTIVE).testBit u
/-- Whether a unit's EN is set. -/
def unitEn (m : Mach) (u : Nat) : Bool := (getF m TEST_CTRL_EN).testBit u

/-- STATE of the island as the mirror shows it (15 R463). -/
def mirState (m : Mach) : Nat := field m.safe.mir 8 4 % 16
/-- Whether the mirror shows COMMISSIONING and is not stale. -/
def commissioning (m : Mach) : Bool := mirState m == 3 && !onF m SAFE_MIR_STAT_MIRROR_STALE

/-- Clears a unit's enable: it stops at once (R670). -/
def stopUnit (m : Mach) (u cause : Nat) : Mach :=
  if !unitEn m u then m
  else
    let m := setF (setF m TEST_CTRL_EN 0 (andNot (getF m TEST_CTRL_EN) (2 ^ u))) TEST_STAT_ACTIVE 0 (andNot (getF m TEST_STAT_ACTIVE) (2 ^ u))
    notice m E_TEST_END (u + 256 * cause)

/-- Every unit stops. -/
def stopUnits (m : Mach) (cause : Nat) : Mach :=
  if getF m TEST_CTRL_EN = 0 then m
  else notice (setF (setF m TEST_CTRL_EN 0 0) TEST_STAT_ACTIVE 0 0) E_TEST_END (7 + 256 * cause)

/-- A key-unlocked session ends (R668). -/
def endSession (m : Mach) : Mach :=
  let m := setF (setF (setF m TEST_CTRL_EN 0 0) TEST_STAT_ACTIVE 0 0) TEST_STAT_UNLOCK 0 0
  notice { m with test := { m.test with step := 0 } } E_TEST_END (7 + 512)

/-- A change of the mirror ends a session that needs COMMISSIONING (R668). -/
def sessionCheck (m : Mach) : Mach := if getF m TEST_STAT_UNLOCK = 2 ∧ commissioning m = false then endSession m else m

/-- The key values in order (R667). -/
def keyOf (i : Nat) : Nat := match i with | 0 => 0x7E57 | 1 => 0xC0DE | _ => 0x0A11

/-- TEST_KEY_WRITE (R667): a write to TEST_KEY by a port at cell time `t`; 1 ms is 800,000 ticks. -/
def testKey (port x t : Nat) (m : Mach) : Mach :=
  if (port ≠ 0 ∧ port ≠ 1) ∨ getF m TEST_STAT_UNLOCK ≠ 0 then m
  else
    let k := m.test
    let m := at' m t
    let follows := k.step == 0 || (k.port == port && decide (t ≤ k.at_ + 800000))
    let step := if follows then k.step else 0
    if x = keyOf step ∧ commissioning m = true then
      if step = 2 then setF { m with test := { m.test with step := 0 } } TEST_STAT_UNLOCK 0 2
      else { m with test := { m.test with step := step + 1, port := port, at_ := t } }
    else if x = keyOf 0 ∧ commissioning m = true then { m with test := { m.test with step := 1, port := port, at_ := t } }
    else { m with test := { m.test with step := 0 } }

/-- TEST_KEY_WRITE. -/
def execTestKeyWrite (port x t : Nat) (s : State) : Out := done (testKey port x t) s

/-! ## Counted events (R671) -/

/-- EVERY and COUNT of a unit that counts. -/
def unitCnt (m : Mach) (u : Nat) : Nat × Nat :=
  match u with
  | 2 => (getF m TEST_TWI_CNT_EVERY, getF m TEST_TWI_CNT_COUNT)
  | 3 => (getF m TEST_ENC_CNT_EVERY, getF m TEST_ENC_CNT_COUNT)
  | 4 => (getF m TEST_TIME_CNT_EVERY, getF m TEST_TIME_CNT_COUNT)
  | 6 => (getF m TEST_PCIE_CNT_EVERY, getF m TEST_PCIE_CNT_COUNT)
  | _ => (1, 0)

/-- One event of a unit in effect: whether it acts, and the state after it. -/
def testEvent (m : Mach) (u : Nat) : Bool × Mach :=
  if !unitOn m u then (false, m)
  else
    let c := unitCnt m u
    let n := sget m.test.seen u 0 + 1
    let m := { m with test := { m.test with seen := sput m.test.seen u n 0 } }
    if n % max 1 c.1 ≠ 0 then (false, m)
    else
      let a := sget m.test.acts u 0 + 1
      let m := incF { m with test := { m.test with acts := sput m.test.acts u a 0 } } TEST_HIT_CNT u 1
      (true, if c.2 ≠ 0 ∧ c.2 ≤ a then stopUnit m u 0 else m)

/-! ## Injection of errors (R670, R673) -/

/-- The positions of an injection. -/
def eccBits (m : Mach) : List Nat :=
  let b := getF m TEST_ECC_CFG_BITS
  let l := [bits b 0 7, bits b 7 7, bits b 14 7]
  (l ++ [bits b 14 7 + 1]).take (getF m TEST_ECC_CFG_NBITS + 1)

/-- Whether an injection is refused (R673). -/
def eccRefused (m : Mach) : Bool :=
  let r := getF m TEST_ECC_CFG_REGION
  let a := getF m TEST_ECC_ADDR_ADDR
  let inMould := r == 0 && decide (0x10000000 ≤ a ∧ a < 0x10200000)
  let place := match r with
    | 5 => decide (a < 98304)
    | 6 => decide (a % 16 < 13)
    | 7 => false
    | _ => regionOf a != .none && regionOf a != .registers && regionCode a == r
  (inMould && m.locks.cfg) || (r == 5 && decide (a < 0x10000) && m.locks.sch) || !place || (r != 6 && a % 8 != 0)
    || (eccBits m).any (fun p => decide (80 ≤ p))

/-- One injection: into a stored word, or the next word that a port issues. -/
def eccInject (m : Mach) : Mach :=
  let r := getF m TEST_ECC_CFG_REGION
  let a := getF m TEST_ECC_ADDR_ADDR
  if eccRefused m then report m E_TEST_BAD_CFG 0 5 16 0x180
  else
    let m := incF m TEST_HIT_CNT uECC 1
    if r = 6 then { m with test := { m.test with fab := m.test.fab ++ [(a % 16, eccBits m)] } }
    else setFlips m (wordKey r a) (xorPos (flipsOf m (wordKey r a)) (eccBits m))

/-! ## Enables (R670) -/

/-- Whether a unit's set-up lets it start: the TWI unit needs an owned slot. -/
def unitStartOk (m : Mach) (u : Nat) : Bool :=
  !(u == uTWI && getF m TEST_TWI_CFG_SRC == 0 && !onF m TWI_SLOT_STAT_OWNED (getF m TEST_TWI_CFG_HANDLE))

/-- TEST_UNIT_ENABLE: EN of unit `u` is set; it takes effect at the next boundary, an injection at once. -/
def unitEnable (u : Nat) (m : Mach) : Mach :=
  if 7 ≤ u ∨ getF m TEST_STAT_UNLOCK = 0 ∨ unitEn m u = true then m
  else if !unitStartOk m u then report m E_TEST_BAD_CFG 0 5 16 8
  else
    let m := notice m E_TEST_START (u + (if getF m TEST_STAT_UNLOCK = 2 then 256 else 0))
    if u = uECC then eccInject m
    else
      setF { m with test := { m.test with seen := sdel m.test.seen u, acts := sdel m.test.acts u } }
        TEST_CTRL_EN 0 (getF m TEST_CTRL_EN ||| 2 ^ u)

/-- TEST_UNIT_ENABLE. -/
def execTestUnitEnable (u : Nat) (s : State) : Out := done (unitEnable u) s

/-- TEST_UNIT_DISABLE. -/
def execTestUnitDisable (u : Nat) (s : State) : Out :=
  done (fun m => if getF m TEST_STAT_UNLOCK = 0 then m else stopUnit m u 1) s

/-- TEST_LOCK (R668): ends a key session; with the strap it only stops the units. -/
def testLock (m : Mach) : Mach :=
  if getF m TEST_STAT_UNLOCK = 2 then endSession m else if getF m TEST_STAT_UNLOCK = 1 then stopUnits m 1 else m

/-- TEST_LOCK. -/
def execTestLock (s : State) : Out := done testLock s

/-- Enabled units take effect at t = 0 (R670). -/
def testBoundary (m : Mach) : Mach := setF m TEST_STAT_ACTIVE 0 (getF m TEST_CTRL_EN)

/-- The register offsets of a unit's configuration (R675, R677). -/
def unitRegs (u : Nat) : List Nat :=
  match u with
  | 0 => (List.range 13).map (fun p => 0x40 + 4 * p)
  | 1 => [0x80, 0x84]
  | 2 => [0xC0, 0xC4, 0xC8]
  | 3 => [0x100, 0x104, 0x108, 0x10C]
  | 4 => [0x140, 0x144, 0x148]
  | 5 => [0x180, 0x184]
  | _ => [0x1C0, 0x1C4]

/-- Whether the fields of a register accept the bits of a value and leave no reserved bit set. -/
def regAccepts (blk off v : Nat) : Bool :=
  let l := fieldsAt blk off
  l.all (fun x => x.1.accepts (bits v x.1.lsb x.1.w)) && andNot v (l.foldl (fun a x => a + (2 ^ x.1.w - 1) * 2 ^ x.1.lsb) 0) == 0

/-- TEST_PERTURB (R669, R675). -/
def testPerturb (j : Job) (m : Mach) : JobRes :=
  let l := padTo 64 j.data
  let u := field l 0 1
  let op := field l 1 1
  let offs := (unitRegs u).zipIdx
  if getF m TEST_STAT_UNLOCK = 0 then jobFail m E_HIF_FEATURE_OFF
  else if j.desc.dataLen ≠ 64 ∨ 7 ≤ u ∨ 2 ≤ op ∨ field l 2 2 ≠ 0 then jobFail m E_HIF_BAD_PARAM
  else if op = 1 then { m := stopUnit m u 1, result := m.cyc.n }
  else if unitEn m u then jobDetail m E_TEST_BAD_CFG 8
  else match offs.find? (fun x => !regAccepts 16 x.1 (field l (4 + 4 * x.2) 4)) with
  | some x => jobDetail m E_TEST_BAD_CFG x.1
  | none =>
    let m' := offs.foldl (fun m x => putReg m 16 x.1 (field l (4 + 4 * x.2) 4)) m
    if !((l.drop (4 + 4 * offs.length)).all (· == 0)) then jobFail m E_TEST_BAD_CFG
    else if !unitStartOk m' u then jobDetail m E_TEST_BAD_CFG 8
    else if u == uECC && eccRefused m' then jobDetail m E_TEST_BAD_CFG 0x180
    else { m := unitEnable u m', result := if u = uECC then m.cyc.n else m.cyc.n + 1 }

/-- TEST_PERTURB. -/
def execTestPerturb (j : Job) (s : State) : Out := done (runJob 0x1001 testPerturb j) s

end Sys2Proof.Machine
end

