-- ==== Sys2Proof/Machine/Enc.lean ====
section
/-! DEFINITION. Position and speed feedback (11): the encoder ports, their words, counter, direction and speed; and the assembly of the
axis state records of a cycle (12 R360). -/

namespace Sys2Proof.Machine

/-- State of port `k`. -/
def encSt (m : Mach) (k : Nat) : EncSt := sget m.enc k {}
/-- Replaces the state of a port. -/
def setEnc (m : Mach) (k : Nat) (e : EncSt) : Mach := { m with enc := sput m.enc k e {} }

/-- Counter C of a port. -/
def encC (m : Mach) (k : Nat) : Nat := get64 m ENC_POS_LO_C ENC_POS_HI_C k

/-- The axis whose feedback is port `k` on this node (R143). -/
def portAxis (m : Mach) (k : Nat) : Option AxisRec :=
  m.mould.axes.find? (fun a => a.node == nodeId m && !a.feedback.testBit 7 && a.feedback % 16 == k)

/-- Whether a slot is disabled. -/
def slotDisabled (m : Mach) (s : Nat) : Bool := getF m AXL_STAT_STATE s == 0

/-- Whether a gear engaged to a port of this node is in force here: LOCAL, or REMOTE with this node's number (08 R237). -/
def geared (m : Mach) (k : Nat) : Bool :=
  m.run.grps.any (fun e => let d := e.2.com; d.engaged && d.master.port == k && (d.gsrc == 0 || (d.gsrc == 1 && d.master.node == nodeId m)))

/-- Whether a port is idle (R350). -/
def portIdle (m : Mach) (k : Nat) : Bool := (portAxis m k).all (fun a => slotDisabled m a.slot) && !geared m k

/-- Position evaluations per cycle of a port: of its axis, or of its RATE field (R332). -/
def portN (m : Mach) (k : Nat) : Nat :=
  match portAxis m k with
  | some a => 2 ^ getF m AXL_MODE_POS_RATE a.slot
  | none => 2 ^ getF m ENC_CFG_RATE k

/-- Reports an ENC code (R349): the cell axis, or the node with the port in DETAIL. -/
def encReport (m : Mach) (k code detail : Nat) : Mach :=
  match portAxis m k with
  | some a => report m code 0 3 a.axis detail
  | none => report m code 0 1 (nodeId m) (detail % 2 ^ 28 + k * 2 ^ 28)

/-- State of axis engine `s`. -/
def axlSt (m : Mach) (s : Nat) : AxlSt := sget m.axl s {}
/-- Replaces the state of an engine. -/
def setAxl (m : Mach) (s : Nat) (a : AxlSt) : Mach := { m with axl := sput m.axl s a {} }

/-! ## Layout (R333, R338) -/

/-- Whether a frame layout is complete and TYPE and CHK_LEN pair. -/
def layoutOk (len skip pos stat chk typ : Nat) : Bool :=
  skip + pos + stat + chk == len && (if typ = 0 then chk == 0 else if typ = 3 then decide (3 ≤ chk ∧ chk ≤ 8) else chk == 1)

/-- Whether the fields of FRAME lie in their ranges. -/
def frameOk (len pos stat : Nat) : Bool := decide (8 ≤ len ∧ len ≤ 48 ∧ 8 ≤ pos ∧ pos ≤ 40 ∧ stat ≤ 8)

/-- Whether the layout that the registers hold passes. -/
def portLayoutOk (m : Mach) (k : Nat) : Bool :=
  layoutOk (getF m ENC_FRAME_LEN k) (getF m ENC_FRAME_SKIP k) (getF m ENC_FRAME_POS_BITS k) (getF m ENC_FRAME_STAT_BITS k)
    (getF m ENC_CHK_CHK_LEN k) (getF m ENC_CHK_TYPE k)

/-- ENCODER_ENABLE: a write of CFG with EN = 1 (R333, R341, R350). -/
def encoderEnable (k x : Nat) (m : Mach) : Mach :=
  if 16 ≤ k then m
  else if !portIdle m k || !portLayoutOk m k || bits x 4 2 == 3 then badCfg m 9 (0x1000 + 0x80 * k)
  else
    let was := onF m ENC_CFG_EN k
    let m := setF (setF (setF m ENC_CFG_CODE k (bits x 1 1)) ENC_CFG_INV k (bits x 2 1)) ENC_CFG_LDC k (bits x 3 1)
    let m := setF (setF m ENC_CFG_RATE k (bits x 4 2)) ENC_CFG_EN k 1
    if was then m else freshPort m k

/-- ENCODER_ENABLE. -/
def execEncoderEnable (k x : Nat) (s : State) : Out := done (domWrite 9 (0x1000 + 0x80 * k) (encoderEnable k x)) s

/-! ## Records (12 R360) -/

/-- The signed 40-bit difference of two counters. -/
def diff40 (a b : Nat) : Int := sgn 40 ((a + 2 ^ 40 - b % 2 ^ 40) % 2 ^ 40)

/-- The position of a port as its records give it, and EXT_OLD: XPOS has not been accepted for the SAMP in force. -/
def recPos (m : Mach) (k : Nat) : Int × Bool :=
  let x := get64 m ENC_XPOS_LO_X ENC_XPOS_HI_X k
  (sgn 64 x + diff40 (get64 m ENC_SAMP_LO_SAMP ENC_SAMP_HI_SAMP k) x, !(encSt m k).xposOk)

/-- The axis state record of an axis, and the state after its faults have been reported. -/
def axisRecord (m : Mach) (a : AxisRec) : List Nat × Mach :=
  let s := a.slot
  let k := a.feedback % 16
  let has := !a.feedback.testBit 7
  let x := axlSt m s
  let p := if has then recPos m k else (0, false)
  let enc := if has then getF m ENC_STAT_DIR k + 2 * getF m ENC_STAT_STANDSTILL k + 4 * getF m ENC_STAT_SPEED_PROVISIONAL k
      + 8 * getF m ENC_STAT_REVERSAL_RECENT k + 16 * getF m ENC_STAT_VALID k else 0
  let bitN (f : Fld) : Nat := b2n ((getF m f).testBit s)
  let st := enc + 32 * bitN RUN_LIM_STAT_P_ACT + 64 * bitN RUN_LIM_STAT_N_ACT + 128 * bitN RUN_LIM_CLAMP_CLAMP
    + 256 * getF m AXL_STAT_STATE s + 1024 * (x.recFlags % 8) + 8192 * bitN PWR_SUMMARY_OC + 16384 * getF m AXL_STAT_REF_STALE s
    + 32768 * b2n x.stop.isSome + 65536 * b2n p.2 + 131072 * (x.recFlags / 8 % 2)
  (leBytes 8 (unsg 64 p.1) ++ leBytes 4 (if has then getF m ENC_SPD_V k else 0) ++ leBytes 4 (getF m AXL_IQ_VAL s)
    ++ leBytes 4 (getF m AXL_ID_VAL s) ++ leBytes 4 (if has then (encSt m k).sampT else 0) ++ leBytes 4 st
    ++ [a.axis, s, 0, 0], setAxl m s { x with recFlags := 0 })

/-- The master record of an encoder port (12 R360). -/
def masterRecord (m : Mach) (k : Nat) : List Nat :=
  let p := recPos m k
  let fl := getF m ENC_STAT_VALID k + 2 * getF m ENC_STAT_SPEED_PROVISIONAL k + 4 * getF m ENC_STAT_REVERSAL_RECENT k
    + 8 * b2n (encSt m k).badAt0 + 16 * b2n p.2
  leBytes 8 (unsg 64 p.1) ++ leBytes 4 (encSt m k).sampT ++ leBytes 4 (getF m ENC_SPD_V k) ++ [k, fl] ++ List.replicate 14 0

/-- The axes of a node in ascending slot order. -/
def nodeAxes (m : Mach) (node : Nat) : List AxisRec :=
  (List.range 16).filterMap (fun s => m.mould.axes.find? (fun a => a.node == node && a.slot == s))

/-- Whether a node's encoder port is owned by the gear master source (08 R237). -/
def gearPort (m : Mach) (node port : Nat) : Bool := m.mould.owners.any (fun o => o.kind == 5 && o.inst == port && o.node == node && o.func == 9)

/-- The gear master ports of a node in ascending order. -/
def gearPorts (m : Mach) (node : Nat) : List Nat := (List.range 16).filter (gearPort m node)

/-- AXIS_STATE (R360). -/
def statePayload (m : Mach) : List Nat × Mach :=
  let r := (nodeAxes m (nodeId m)).foldl (fun (x : List Nat × Mach) a =>
    let y := axisRecord x.2 a
    (x.1 ++ y.1, y.2)) ([], m)
  (r.1 ++ (gearPorts m (nodeId m)).flatMap (masterRecord m), r.2)

/-- Time passes to tick `t`; where it passes the instant 160 ticks before the start of the node's AXIS_STATE slot, the payload of the cycle
is assembled first, from the values in force before (12 R360). -/
def passTo (m : Mach) (t : Nat) : Mach :=
  match (schedNow m).find? (fun e => e.mode == getF m TWI_STATUS_MODE && e.kind == 0 && e.owner == nodeId m) with
  | some e =>
    if getF m TWI_STATUS_MODE ≠ 0 ∧ m.cyc.start + e.start - 160 ≤ t ∧ !m.twi.early.any (fun x => x.1 == m.cyc.n) then
      let r := statePayload m
      at' { r.2 with twi := { r.2.twi with early := some (m.cyc.n, r.1) } } t
    else at' m t
  | none => at' m t

/-! ## Requests and failed words (R332, R336, R339) -/

/-- A failed word: the run, the counter, the flag of the cause and its code once for each run. -/
def wordFailed (m : Mach) (k j : Nat) (fl : Fld) (code detail : Nat) : Mach :=
  let first := getF m ENC_STAT_FAIL_RUN k == 0
  let m := setF (incF (incF m ENC_STAT_FAIL_RUN k 1) ENC_ERR_CNT_CNT k 1) ENC_STAT_VALID k 0
  let m := flag m fl k
  let m := if j = 0 then setEnc m k { encSt m k with badAt0 := true } else m
  if first then irq (encReport m k code detail) (160 + k) else m

/-- ENCODER_REQUEST: port `k` reaches the request tick of evaluation `j`; `low` says that its data line is low. None goes out in the
rest of a truncated cycle (02 R57). -/
def encoderRequest (k j : Nat) (low : Bool) (m : Mach) : Mach :=
  if 16 ≤ k || m.cyc.skip || !blockOn m 9 || !onF m ENC_CFG_EN k || getF m ENC_CFG_OWNER k == 0 || decide (portN m k ≤ j) then m
  else
    let t := m.cyc.start + j * cycLen m / portN m k + getF m ENC_REQ_REQ k
    let m := passTo m t
    if (encSt m k).busy.isSome || low then
      wordFailed m k j ENC_FLAGS_NOT_IDLE E_ENC_NOT_IDLE (b2n (encSt m k).busy.isSome)
    else setEnc m k { encSt m k with busy := some (t, j) }

/-- ENCODER_REQUEST. -/
def execEncoderRequest (k j : Nat) (low : Bool) (s : State) : Out := done (encoderRequest k j low) s

/-! ## Word checks and decoding (R337, R338, R340) -/

/-- One bit of the CRC of width `w` (R338). -/
def crcStep (w poly c : Nat) (b : Bool) : Nat :=
  let f := c.testBit (w - 1) != b
  let c := c * 2 % 2 ^ w
  if f then c ^^^ poly % 2 ^ w else c

/-- The bits of an `n`-bit value, the most significant first. -/
def msbFirst (n x : Nat) : List Bool := ((List.range n).map (fun i => x.testBit i)).reverse

/-- Whether the check bits `c` suit the covered bits (R338). -/
def wordCheck (m : Mach) (k n cov c : Nat) : Bool :=
  let bs := msbFirst n cov
  let ones := (bs.filter id).length + c % 2
  match getF m ENC_CHK_TYPE k with
  | 0 => true
  | 1 => ones % 2 == 0
  | 2 => ones % 2 == 1
  | _ =>
    let w := getF m ENC_CHK_CHK_LEN k
    let r := bs.foldl (crcStep w (getF m ENC_CHK_POLY k)) 0
    (if onF m ENC_CHK_INV k then r ^^^ (2 ^ w - 1) else r) == c

/-- Gray to binary (R340). -/
def grayBin (n w : Nat) : Nat := (List.range n).foldl (fun a i => a ^^^ (w / 2 ^ i)) 0


/-! ## Direction and speed (R344 to R347) -/

/-- The direction update at counter `c` (R344): DIR, the extreme and whether a reversal took place. -/
def dirStep (h : Nat) (dir : Bool) (e c : Nat) : Bool × Nat × Bool :=
  let up := decide (0 < diff40 c e)
  let e := if dir then (if diff40 c e < 0 then c else e) else (if up then c else e)
  let rev := if dir then decide ((h : Int) ≤ diff40 c e) else decide (diff40 c e ≤ -(h : Int))
  if rev then (!dir, c, true) else (dir, e, false)

/-- The exact scaled speed of a span, rounded convergently, before saturation (R345). -/
def spanSpeed (shift dc : Int) (dt : Nat) : Int :=
  if 0 ≤ shift then roundDiv (dc * 800000000) (max 1 dt * 2 ^ shift.toNat)
  else roundDiv (dc * 800000000 * 2 ^ (-shift).toNat) (max 1 dt)

/-- Stores a speed estimate. -/
def putSpeed (m : Mach) (k : Nat) (v : Int) : Mach := setB (setS m ENC_SPD_V k (sat 32 v)) ENC_STAT_SPD_SAT k (satHit 32 v)

/-- The first row of the table of R345 that applies, at a valid word with counter `c` at instant `t`. -/
def speedStep (m : Mach) (k c t : Nat) (changed rev : Bool) : Mach :=
  let e := encSt m k
  let shift := getS m ENC_SPD_CFG_SHIFT k
  let still := getF m ENC_SPD_CFG_STILL_T k * 800
  let w := 2 ^ getF m ENC_SPD_CFG_WIN k
  let left := e.revLeft - 1
  let m := if e.revLeft = 1 then setF m ENC_STAT_REVERSAL_RECENT k 0 else m
  let e := { e with revLeft := left, prev := (c, t), prevCh := changed }
  if !changed then
    if e.lastCh.2 + still ≤ t then
      let m := setF (setF (setF m ENC_STAT_STANDSTILL k 1) ENC_STAT_SPEED_PROVISIONAL k 0) ENC_STAT_REVERSAL_RECENT k 0
      setEnc (putSpeed m k 0) k { e with hist := [], revLeft := 0 }
    else setEnc m k (if e.hist = [] then e else { e with hist := lastN (w + 1) (e.hist ++ [(c, t)]) })
  else
    let was := encSt m k
    let m := if was.prevCh then setF m ENC_STAT_SPEED_PROVISIONAL k 0 else m
    let e := { e with lastCh := (c, t), revLeft := if rev then w else e.revLeft }
    let m := if rev then setF m ENC_STAT_REVERSAL_RECENT k 1 else m
    if onF m ENC_STAT_STANDSTILL k then
      let m := setF (setF m ENC_STAT_STANDSTILL k 0) ENC_STAT_SPEED_PROVISIONAL k 1
      setEnc (putSpeed m k (spanSpeed shift (diff40 c was.lastCh.1) (min (t - was.lastCh.2) still))) k { e with hist := [(c, t)] }
    else if rev then
      setEnc (putSpeed m k (spanSpeed shift (diff40 c was.prev.1) (t - was.prev.2))) k { e with hist := [(c, t)] }
    else
      let h := lastN (w + 1) (was.hist ++ [(c, t)])
      let a := h.headD (c, t)
      setEnc (putSpeed m k (spanSpeed shift (diff40 c a.1) (t - a.2))) k { e with hist := h }

/-- What every valid word leaves: counter, stamp, status, and SAMP at evaluation 0 (R339, R340). -/
def storeWord (m : Mach) (k j c t status : Nat) : Mach :=
  let m := set64 m ENC_POS_LO_C ENC_POS_HI_C k c
  let m := setF (setF (setF (setF m ENC_TSTAMP_T k t) ENC_STAT_STATUS k status) ENC_STAT_VALID k 1) ENC_STAT_FAIL_RUN k 0
  if j = 0 then irq (setEnc (set64 m ENC_SAMP_LO_SAMP ENC_SAMP_HI_SAMP k c) k { encSt m k with badAt0 := false, sampT := t % 2 ^ 32, xposOk := false }) (128 + k) else m

/-- The first valid word since enable (R340, R341). -/
def firstWord (m : Mach) (k j w c t status : Nat) : Mach :=
  let m := storeWord m k j c t status
  let m := setF (setF (setF m ENC_STAT_STANDSTILL k 1) ENC_STAT_SPEED_PROVISIONAL k 0) ENC_STAT_REVERSAL_RECENT k 0
  let m := setF (putSpeed m k 0) ENC_STAT_DIR k 0
  let m := setEnc m k { encSt m k with wp := w, seen := true, ext := c, hist := [], prev := (c, t), prevCh := false,
                                       lastCh := (c, t), revLeft := 0 }
  setF m ENC_SUMMARY_STILL 0 (getF m ENC_SUMMARY_STILL ||| 2 ^ k)

/-- A later valid word (R340, R344, R345). -/
def laterWord (m : Mach) (k j w c t status : Nat) (delta : Int) : Mach :=
  let m := storeWord m k j c t status
  let d := dirStep (getF m ENC_DIR_CFG_HYST k) (onF m ENC_STAT_DIR k) (encSt m k).ext c
  let m := setEnc (setB m ENC_STAT_DIR k d.1) k { encSt m k with wp := w, ext := d.2.1 }
  let m := if d.2.2 then irq (flag (incF m ENC_REV_CNT_CNT k 1) ENC_FLAGS_REVERSAL k) (144 + k) else m
  let changed := decide ((getF m ENC_DIR_CFG_STILL_BAND k : Int) < absI delta)
  let m := speedStep m k c t changed d.2.2
  setF m ENC_SUMMARY_STILL 0 (setBits (getF m ENC_SUMMARY_STILL) k 1 (getF m ENC_STAT_STANDSTILL k))

/-- Steps 3 to 5 of R337 on the clocked bits of a word latched at `t`. -/
def wordBits (m : Mach) (k j t raw : Nat) : Mach :=
  let pos := getF m ENC_FRAME_POS_BITS k
  let stat := getF m ENC_FRAME_STAT_BITS k
  let cl := getF m ENC_CHK_CHK_LEN k
  let chk := bits raw 0 cl
  let status := bits raw cl stat
  if !wordCheck m k (pos + stat) (bits raw cl (pos + stat)) chk then wordFailed m k j ENC_FLAGS_CHECK E_ENC_CHECK chk
  else if (status ^^^ getF m ENC_CHK_ERR_VAL k) &&& getF m ENC_CHK_ERR_MASK k ≠ 0 then
    wordFailed m k j ENC_FLAGS_SENSOR_ERR E_ENC_SENSOR status
  else
    let w := bits raw (cl + stat) pos
    let w := if onF m ENC_CFG_CODE k then grayBin pos w % 2 ^ pos else w
    let s : Int := if onF m ENC_CFG_INV k then -1 else 1
    let e := encSt m k
    if !e.seen then firstWord m k j w (unsg 40 (s * w)) t status
    else
      let delta := s * sgn pos (w + 2 ^ pos - e.wp % 2 ^ pos)
      let mx := getF m ENC_JUMP_JUMP_MAX k
      if mx ≠ 0 ∧ (mx : Int) < absI delta then
        wordFailed m k j ENC_FLAGS_JUMP E_ENC_JUMP (min (absI delta).toNat (2 ^ 28 - 1))
      else laterWord m k j w (unsg 40 (encC m k + delta)) t status delta

/-! ## The island's own receiver (15 R449, 16 R470) -/

/-- The AXES record that gives the frame of a port: the one that observes it, else the one that names it as second port. -/
def obsLayout (f : List Nat) (k : Nat) : Option (List Nat) :=
  let l := (obsUsed f).map (obsRec f)
  (l.find? (fun r => field r 0 1 == k)) <|> l.find? (fun r => field r 1 1 == k)

/-- The position bits of a word that passes the record's check, decoded. -/
def obsDecode (r : List Nat) (raw : Nat) : Option Nat :=
  let cl := field r 8 1 / 16
  let pos := field r 5 1
  let stat := field r 6 1
  let bs := msbFirst (pos + stat) (bits raw cl (pos + stat))
  let ones := (bs.filter id).length + raw % 2
  let crc := bs.foldl (crcStep cl (field r 9 1)) 0
  let ok := match field r 8 1 % 4 with
    | 0 => true
    | 1 => ones % 2 == 0
    | 2 => ones % 2 == 1
    | _ => (if (field r 10 1).testBit 0 then crc ^^^ (2 ^ cl - 1) else crc) == bits raw 0 cl
  let w := bits raw (cl + stat) pos
  if ok then some (if field r 7 1 = 1 then grayBin pos w % 2 ^ pos else w) else none

/-- The words kept: those younger than one safety cycle and the next older one. -/
def obsTrim (t : Int) : List (Int × Int) → List (Int × Int)
  | [] => []
  | x :: l => if x.2 + 200000 ≤ t then [x] else x :: obsTrim t l

/-- Whether the frame fields of a record equal the set-up of the port; where they do not, every word fails the island's check (15 R449,
R462). -/
def obsAgrees (m : Mach) (k : Nat) (r : List Nat) : Bool :=
  field r 3 1 == getF m ENC_FRAME_LEN k && field r 4 1 == getF m ENC_FRAME_SKIP k && field r 5 1 == getF m ENC_FRAME_POS_BITS k
    && field r 6 1 == getF m ENC_FRAME_STAT_BITS k && field r 7 1 == getF m ENC_CFG_CODE k
    && field r 8 1 == getF m ENC_CHK_TYPE k + 16 * getF m ENC_CHK_CHK_LEN k && field r 9 1 == getF m ENC_CHK_POLY k
    && field r 10 1 == getF m ENC_CHK_INV k + 2 * getF m ENC_CFG_INV k

/-- A word on the lines of a port, requested at island tick `t`: the island extends it by the step rule of R340. It measures the delay of the line itself
(11 R348); where the data line has not fallen there is no delay to measure and the sampling instant is a free one (entry 142). -/
def obsWord (m : Mach) (k t : Nat) (fall : Option Nat) (raw : Nat) : Mach :=
  match obsLayout m.safe.cfg k with
  | none => m
  | some r =>
    match (if obsAgrees m k r then obsDecode r raw else none) with
    | none => m
    | some w =>
      let o := sget m.safe.obs k {}
      let s : Int := if (field r 10 1).testBit 1 then -1 else 1
      let pos := field r 5 1
      let p := match o.words with
        | x :: _ => if o.seen then x.1 + s * sgn pos (w + 2 ^ pos - o.wp % 2 ^ pos) else s * w
        | [] => s * w
      let d : Nat × Mach := match fall with
        | some d => (d, m)
        | none => let x := fresh m 10; (x.1, x.2)
      let t : Int := (t + d.1 / 2 : Nat)
      let o := { o with wp := w, seen := true, new := true, words := (p, t) :: obsTrim t o.words }
      { d.2 with safe := { d.2.safe with obs := sput d.2.safe.obs k o {} } }

/-- ENCODER_WORD: the transfer of port `k` ends. `fall` is the tick distance from the first falling clock edge to the first
falling data edge, if one came; `raw` holds the clocked bits, the first in bit LEN - 1. -/
def encoderWord (k : Nat) (fall : Option Nat) (raw : Nat) (m : Mach) : Mach :=
  match if blockOn m 9 then (encSt m k).busy else none with
  | none => m
  | some (t, j) =>
    let m := setEnc m k { encSt m k with busy := none }
    let m := obsWord m k t fall (raw % 2 ^ getF m ENC_FRAME_LEN k)
    let d := if onF m ENC_CFG_LDC k then some (getF m ENC_CLK_DLY k) else fall.filter (fun d => decide (d ≤ 800))
    match d with
    | none => wordFailed m k j ENC_FLAGS_NO_RESPONSE E_ENC_NO_RESPONSE 0
    | some d =>
      let len := getF m ENC_FRAME_LEN k
      let div := getF m ENC_CLK_CLKDIV k
      let m := passTo m (t + 2 * div * len - div + d)
      let raw := raw % 2 ^ len
      let m := set64 (setF m ENC_DELAY_D k d) ENC_RAW_LO_RAW ENC_RAW_HI_RAW k raw
      let x := if getF m TEST_ENC_CFG_PORT = k then testEvent m uENC else (false, m)
      let raw := if x.1 then raw ^^^ (get64 m TEST_ENC_MASK_LO_MASK TEST_ENC_MASK_HI_MASK % 2 ^ len) else raw
      wordBits x.2 k j (t + d / 2) raw

/-- ENCODER_WORD. -/
def execEncoderWord (k : Nat) (fall : Option Nat) (raw : Nat) (s : State) : Out := done (encoderWord k fall raw) s

/-! ## Extension (R343) -/

/-- XPOS_WRITE: the write of XPOS_HI that completes a 64-bit write `x`. -/
def xposWrite (k x : Nat) (m : Mach) : Mach :=
  let m := passTo m m.cyc.now
  if 16 ≤ k then m
  else if x % 2 ^ 40 = get64 m ENC_SAMP_LO_SAMP ENC_SAMP_HI_SAMP k then
    setEnc (set64 m ENC_XPOS_LO_X ENC_XPOS_HI_X k x) k { encSt m k with xposOk := true }
  else encReport (flag m ENC_FLAGS_EXT_MISMATCH k) k E_ENC_EXT_MISMATCH (x % 2 ^ 28)

/-- XPOS_WRITE. -/
def execXposWrite (k x : Nat) (s : State) : Out := done (domWrite 9 (0x103C + 0x80 * k) (xposWrite k x)) s

end Sys2Proof.Machine
end

