-- ==== Sys2Proof/Machine/Hif.lean ====
section
/-! DEFINITION. The host interface (03): rings, doorbells, entries, streams, MSI-X, feature negotiation, HIF resets, and the
jobs that HIF and SYS specify there. -/

namespace Sys2Proof.Machine

/-! ## Ring registers: kind 0 command, 1 completion, 2 event, 3 stream (03 R105) -/

/-- LOG2_SIZE. -/
def rLog (k : Nat) : Fld := ringFld k HIF_CMD_CFG_LOG2_SIZE HIF_CPL_CFG_LOG2_SIZE HIF_EVT_CFG_LOG2_SIZE HIF_STR_CFG_LOG2_SIZE
/-- VECTOR. -/
def rVec (k : Nat) : Fld := ringFld k HIF_CMD_CFG_VECTOR HIF_CPL_CFG_VECTOR HIF_EVT_CFG_VECTOR HIF_STR_CFG_VECTOR
/-- ENABLE. -/
def rEn (k : Nat) : Fld := ringFld k HIF_CMD_CTRL_ENABLE HIF_CPL_CTRL_ENABLE HIF_EVT_CTRL_ENABLE HIF_STR_CTRL_ENABLE
/-- HEAD, the consumer index. -/
def rHead (k : Nat) : Fld := ringFld k HIF_CMD_HEAD_INDEX HIF_CPL_HEAD_INDEX HIF_EVT_HEAD_INDEX HIF_STR_HEAD_INDEX
/-- TAIL, the producer index. -/
def rTail (k : Nat) : Fld := ringFld k HIF_CMD_TAIL_INDEX HIF_CPL_TAIL_INDEX HIF_EVT_TAIL_INDEX HIF_STR_TAIL_INDEX
/-- BASE_LO. -/
def rBaseLo (k : Nat) : Fld := ringFld k HIF_CMD_BASE_LO_ADDR HIF_CPL_BASE_LO_ADDR HIF_EVT_BASE_LO_ADDR HIF_STR_BASE_LO_ADDR
/-- BASE_HI. -/
def rBaseHi (k : Nat) : Fld := ringFld k HIF_CMD_BASE_HI_ADDR HIF_CPL_BASE_HI_ADDR HIF_EVT_BASE_HI_ADDR HIF_STR_BASE_HI_ADDR
/-- Ring size in entries (03 R82). -/
def ringSize (m : Mach) (kind k : Nat) : Nat := 2 ^ getF m (rLog kind) k
/-- Entry size in bytes. -/
def entrySize (m : Mach) (kind k : Nat) : Nat := match kind with | 0 => 64 | 1 => 16 | 2 => 16 | _ => 2 ^ getF m HIF_STR_CFG_ESIZE k
/-- Ring base in host memory. -/
def ringBase (m : Mach) (kind k : Nat) : Nat := getF m (rBaseLo kind) k * 4096 + getF m (rBaseHi kind) k * 2 ^ 32
/-- Entries between the consumer and the producer. -/
def ringUsed (m : Mach) (kind k : Nat) : Nat :=
  (getF m (rTail kind) k + ringSize m kind k - getF m (rHead kind) k) % ringSize m kind k
/-- Free entries: one entry always stays unused (03 R82). -/
def ringFree (m : Mach) (kind k : Nat) : Nat := ringSize m kind k - 1 - ringUsed m kind k
/-- An out-stream. -/
def isOut (m : Mach) (k : Nat) : Bool := onF m HIF_STR_CFG_DIR k

/-- A ring enters FAULT (03 R84, R108). -/
def ringFault (m : Mach) (kind k code : Nat) : Mach := report (setF m (rState kind) k 2) code 0 4 k kind

/-- A denied ring access: counted, reported, and the ring enters FAULT (03 R84). -/
def ringDenied (m : Mach) (kind k a : Nat) : Mach := ringFault (dmaDenied m a) kind k E_HIF_RING_FAULT

/-- PHASE of the next entry (03 R91). -/
def phaseBit (m : Mach) (kind k : Nat) : Nat := if (64 * kind + k) ∈ m.hif.phase0 then 0 else 1

/-- Advances the producer index of a device-written ring by `n`; PHASE inverts at each pass (03 R91). -/
def advTail (m : Mach) (kind k n : Nat) : Mach :=
  let t := getF m (rTail kind) k + n
  let m' := if ringSize m kind k ≤ t then
      let key := 64 * kind + k
      { m with hif := { m.hif with
          phase0 := if key ∈ m.hif.phase0 then m.hif.phase0.filter (· != key) else insNat key m.hif.phase0 } }
    else m
  setF m' (rTail kind) k (t % ringSize m kind k)

/-! ## Doorbells (03 R80 to R82) -/

/-- A bad doorbell write is ignored, counted and reported (03 R81, R113). -/
def doorbellBad (m : Mach) (off v : Nat) : Mach :=
  logNode (incF m HIF_DB_BAD_CNT_CNT 0 1) E_HIF_DOORBELL_BAD (off % 2 ^ 16 + v % 2 ^ 16 * 2 ^ 16)

/-- A producer doorbell of a ring that the host fills (03 R81). -/
def producerDoorbell (kind off k v src : Nat) (m : Mach) : Mach :=
  if 2 ^ 16 ≤ v ∨ !ringOn m kind k ∨ (kind = 3 ∧ isOut m k) ∨ ringSize m kind k ≤ v then doorbellBad m off v
  else if v = getF m (rTail kind) k then m
  else irq (setF m (rTail kind) k v) src

/-- A consumer doorbell of a ring that the device fills (03 R81). -/
def consumerDoorbell (kind off k v src : Nat) (m : Mach) : Mach :=
  let size := ringSize m kind k
  let old := getF m (rHead kind) k
  if 2 ^ 16 ≤ v ∨ !ringOn m kind k ∨ (kind = 3 ∧ !isOut m k) ∨ size ≤ v then doorbellBad m off v
  else if (getF m (rTail kind) k + size - old) % size < (v + size - old) % size then doorbellBad m off v
  else if v = old then m
  else irq (setF m (rHead kind) k v) src

/-- A doorbell is a write through BAR2: none reaches a function whose memory space the host has not enabled. -/
def doorbell (f : Mach → Mach) (m : Mach) : Mach := if hostSees m then f m else m

/-- COMMAND_PRODUCER_DOORBELL (03 R81). -/
def execCommandProducerDoorbell (k v : Nat) (s : State) : Out := done (doorbell (producerDoorbell 0 (k * 0x400) k v (32 + k))) s
/-- COMPLETION_CONSUMER_DOORBELL (03 R81). -/
def execCompletionConsumerDoorbell (k v : Nat) (s : State) : Out := done (doorbell (consumerDoorbell 1 (k * 0x400 + 4) k v (48 + k))) s
/-- EVENT_CONSUMER_DOORBELL (03 R81). -/
def execEventConsumerDoorbell (k v : Nat) (s : State) : Out := done (doorbell (consumerDoorbell 2 ((16 + k) * 0x400 + 4) k v (64 + k))) s
/-- STREAM_PRODUCER_DOORBELL (03 R81). -/
def execStreamProducerDoorbell (k v : Nat) (s : State) : Out := done (doorbell (producerDoorbell 3 ((32 + k) * 0x400) k v (68 + k))) s
/-- STREAM_CONSUMER_DOORBELL (03 R81). -/
def execStreamConsumerDoorbell (k v : Nat) (s : State) : Out := done (doorbell (consumerDoorbell 3 ((32 + k) * 0x400 + 4) k v (68 + k))) s

/-- A write at a BAR2 offset (03 R80): the doorbell there, or a bad doorbell. -/
def bar2Write (off v : Nat) (m : Mach) : Mach :=
  let page := off / 0x400
  let o := off % 0x400
  if page < 16 ∧ o = 0 then producerDoorbell 0 off page v (32 + page) m
  else if page < 16 ∧ o = 4 then consumerDoorbell 1 off page v (48 + page) m
  else if 16 ≤ page ∧ page < 20 ∧ o = 4 then consumerDoorbell 2 off (page - 16) v (64 + (page - 16)) m
  else if 32 ≤ page ∧ page < 64 ∧ o = 0 then producerDoorbell 3 off (page - 32) v (68 + (page - 32)) m
  else if 32 ≤ page ∧ page < 64 ∧ o = 4 then consumerDoorbell 3 off (page - 32) v (68 + (page - 32)) m
  else doorbellBad m off v

/-! ## Descriptor fetch (03 R88, R89, R92) -/

/-- Whether command ring k can be fetched from: enabled, not empty, its completion ring enabled and not full, fewer than 256
jobs in flight (03 R88, R92, R108). -/
def canFetch (m : Mach) (k : Nat) : Bool :=
  let cq := getF m HIF_CMD_CFG_CQ k
  ringUp m 0 k && ringUsed m 0 k != 0 && ringOn m 1 cq && ringFree m 1 cq != 0
    && decide (jobsInFlight m < 256)

/-- The ring that arbitration serves next (03 R89): the highest PRIO, round robin in ascending number within it. -/
def pickRing (m : Mach) : Option Nat :=
  [3, 2, 1, 0].findSome? (fun p =>
    ((List.range 16).map (fun i => (sget m.hif.lastRing p 15 + 1 + i) % 16)).find? (fun k => canFetch m k && getF m HIF_CMD_CFG_PRIO k == p))

/-- Takes one descriptor of ring k: checked at once, in flight if it passes. -/
def takeDesc (k : Nat) (m : Mach) (d : Desc) : Mach :=
  let head := (getF m HIF_CMD_HEAD_INDEX k + 1) % ringSize m 0 k
  let m := setF m HIF_CMD_HEAD_INDEX k head
  let j : Job := { ring := k, head := head, num := m.hif.num, desc := d }
  let m := { m with hif := { m.hif with num := m.hif.num + 1 } }
  match fetchCheck m d with
  | some (st, r) => addCompl (if st = E_HIF_DMA_DENIED then dmaDenied m d.dataAddr else m) (jcompl j st r none)
  | none => { m with hif := { m.hif with inflight := m.hif.inflight ++ [j] } }

/-- Reads one 64 B entry of command ring k through the window table (03 R83, R84) and takes its descriptor; a ring in FAULT reads none. -/
def readDesc (k : Nat) (m : Mach) (l : List Nat) : Mach :=
  let a := ringBase m 0 k + 64 * getF m HIF_CMD_HEAD_INDEX k
  if !ringOn m 0 k then m else if !dmaOk m false a 64 then ringDenied m 0 k a else takeDesc k m (descOf l)

/-- DESCRIPTOR_FETCH (03 R89): at most 8 descriptors of the ring that arbitration picks. -/
def descriptorFetch (rings : List RingDescs) (m : Mach) : Mach :=
  match pickRing m with
  | none => m
  | some k =>
    let n := min 8 (min (ringUsed m 0 k) (256 - jobsInFlight m))
    let ds := ((rings.filter (fun r => r.ring == k)).flatMap (fun r => r.descs)).take n
    ds.foldl (readDesc k) { m with hif := { m.hif with lastRing := sput m.hif.lastRing (getF m HIF_CMD_CFG_PRIO k) k 15 } }

/-- DESCRIPTOR_FETCH. -/
def execDescriptorFetch (rings : List RingDescs) (s : State) : Out := done (descriptorFetch rings) s

/-! ## Entries (03 R90 to R95) -/

/-- The 16 bytes of a completion entry (03 R90). -/
def complBytes (c : Compl) (phase : Nat) : List Nat :=
  leBytes 4 c.tag ++ leBytes 4 c.result ++ leBytes 2 c.status ++ leBytes 2 c.head ++ leBytes 4 (c.ring % 16 + phase * 2 ^ 31)

/-- The 16 bytes of an event entry (03 R93). -/
def evBytes (e : Ev) (lost phase : Nat) : List Nat :=
  leBytes 2 e.code ++ leBytes 1 e.kind ++ leBytes 1 e.id ++ leBytes 4 e.detail ++ leBytes 4 e.cycle
    ++ leBytes 4 (e.offset % 2 ^ 20 + e.cls % 8 * 2 ^ 20 + lost * 2 ^ 23 + phase * 2 ^ 31)

/-- Writes one 16 B entry to a device-written ring with its message, or the ring enters FAULT (03 R84). -/
def writeEntry (kind k : Nat) (b : List Nat) (m : Mach) : Mach :=
  let a := ringBase m kind k + 16 * getF m (rTail kind) k
  pendVec (advTail (hostWrite m a b) kind k 1) (getF m (rVec kind) k)

/-- COMPLETION_ENTRY_WRITE (03 R88, R90, R92): the first finished job of the ring that waits for no other is written if there is room. -/
def completionEntryWrite (cq : Nat) (m : Mach) : Mach :=
  match m.hif.compl.find? (fun c => getF m HIF_CMD_CFG_CQ c.ring == cq && !complWaits m c) with
  | none => m
  | some c =>
    if !ringUp m 1 cq || ringFree m 1 cq == 0 then m
    else
      let a := ringBase m 1 cq + 16 * getF m HIF_CPL_TAIL_INDEX cq
      if !dmaOk m true a 16 then ringDenied m 1 cq a
      else
        let m1 := { m with hif := { m.hif with compl := m.hif.compl.erase c } }
        settleDeletes (writeEntry 1 cq (complBytes c (phaseBit m 1 cq)) m1)

/-- COMPLETION_ENTRY_WRITE. -/
def execCompletionEntryWrite (cq : Nat) (s : State) : Out := done (completionEntryWrite cq) s

/-- EVENT_ENTRY_WRITE (03 R95): the oldest event held for the ring is written if the ring can accept it. -/
def eventEntryWrite (k : Nat) (m : Mach) : Mach :=
  match m.hif.held.find? (fun x => x.1 == k) with
  | none => m
  | some x =>
    if !ringUp m 2 k || ringFree m 2 k == 0 then m
    else
      let a := ringBase m 2 k + 16 * getF m HIF_EVT_TAIL_INDEX k
      if !dmaOk m true a 16 then ringDenied m 2 k a
      else
        let lost := b2n (m.hif.lost.contains k)
        let m1 := { m with hif := { m.hif with held := m.hif.held.erase x, lost := m.hif.lost.filter (· != k) } }
        writeEntry 2 k (evBytes x.2 lost (phaseBit m 2 k)) m1

/-- EVENT_ENTRY_WRITE. -/
def execEventEntryWrite (k : Nat) (s : State) : Out := done (eventEntryWrite k) s

/-! ## In-streams (03 R96, R97) -/

/-- The cycle that a CYCLE_TAG names at cycle n (03 R97): the one in [n - 32,768, n + 32,768). -/
def resolveTag (n tag : Nat) : Int :=
  let d : Int := sgn 16 (tag + 2 ^ 16 - n % 2 ^ 16)
  (n : Int) + d

/-- Whether a block is well formed (03 R97). -/
def blockFormed (els : List StreamEl) : Bool :=
  match els with
  | [] => false
  | e :: _ => (els.zipIdx).all (fun x => x.1.tag == e.tag && x.1.axis == x.2 && (x.1.last == (x.2 + 1 == els.length)))

/-- A discarded in-stream block is counted and reported (03 R97). -/
def dropBlock (m : Mach) (k code : Nat) : Mach := report (incF m HIF_STR_DROP_CNT k 1) code 0 4 k 3

/-- A block joins the working store. -/
def addBlock (m : Mach) (b : InBlock) : Mach := { m with hif := { m.hif with blocks := m.hif.blocks ++ [b] } }

/-- The bytes of an in-stream element taken apart (03 R96). -/
def elOf (l : List Nat) : StreamEl :=
  { pos := sgn 64 (field l 0 8), vel := sgn 32 (field l 8 4), tag := field l 12 2, axis := field l 14 1, last := (field l 15 1).testBit 0 }

/-- The address of the entry of stream ring k at an index. -/
def strAddr (m : Mach) (k i : Nat) : Nat := ringBase m 3 k + entrySize m 3 k * (i % ringSize m 3 k)

/-- Whether a block of a stream and cycle is present: in the working store, or waiting for the other manager's acknowledgement. -/
def blockHere (m : Mach) (k : Nat) (c : Int) : Bool :=
  (m.hif.blocks ++ m.duo.ins.filterMap (·.block)).any (fun b => b.ring == k && (b.cycle : Int) == c)

/-- STREAM_BLOCK_FETCH (03 R97): the next block of in-stream k, if its cycle has come into range, is kept or discarded. -/
def streamBlockFetch (k : Nat) (raw : List (List Nat)) (m : Mach) : Mach :=
  let g := getF m HIF_STR_AUX_GROUP k
  let nax := (groupAxes m g).length
  if !ringUp m 3 k || isOut m k || m.run.unbound.contains k || nax == 0 || decide (ringUsed m 3 k < nax) || raw.length != nax then m
  else
    let head := getF m HIF_STR_HEAD_INDEX k
    match ((List.range nax).map (fun i => strAddr m k (head + i))).find? (fun a => !dmaOk m false a 16) with
    | some a => ringDenied m 3 k a
    | none =>
      let els := raw.map elOf
      let c := resolveTag m.cyc.n ((els.map (·.tag)).headD 0)
      if (m.cyc.n : Int) + 65 ≤ c then m
      else
        let m1 := setF m HIF_STR_HEAD_INDEX k ((head + nax) % ringSize m 3 k)
        if c ≤ (m.cyc.n : Int) ∨ m.hif.snapped.any (fun p => decide (c ≤ (p : Int))) then dropBlock m1 k E_HIF_STREAM_LATE
        else if !blockFormed els then dropBlock m1 k E_HIF_STREAM_FORMAT
        else if blockHere m k c then dropBlock m1 k E_HIF_STREAM_FORMAT
        else
          let b : InBlock := { ring := k, cycle := c.toNat, els := els }
          if mirrors m then forwardInput m1 { block := some b } (.block k c.toNat els) else addBlock m1 b

/-- STREAM_BLOCK_FETCH. -/
def execStreamBlockFetch (k : Nat) (els : List (List Nat)) (s : State) : Out := done (streamBlockFetch k els) s

/-! ## Out-streams (03 R98) -/

/-- The write-back address of a stream ring. -/
def strWb (m : Mach) (k : Nat) : Nat := getF m HIF_STR_WB_LO_ADDR k * 8 + getF m HIF_STR_WB_HI_ADDR k * 2 ^ 32

/-- Writes one element to out-stream k through the window table (03 R83, R84); a ring in FAULT writes none. Each entry written is one entry
pending for the vector (03 R102). -/
def writeElem (k : Nat) (m : Mach) (l : List Nat) : Mach :=
  let a := strAddr m k (getF m HIF_STR_TAIL_INDEX k)
  if !ringUp m 3 k then m
  else if !dmaOk m true a (entrySize m 3 k) then ringDenied m 3 k a
  else pendVec (advTail (hostWrite m a l) 3 k 1) (getF m HIF_STR_CFG_VECTOR k)

/-- Writes a block of elements to out-stream k with its write-back word (03 R98). -/
def outBlock (k : Nat) (els : List (List Nat)) (cycle : Nat) (m : Mach) : Mach :=
  let m1 := els.foldl (writeElem k) m
  if !ringUp m1 3 k then m1
  else if !dmaOk m1 true (strWb m1 k) 8 then ringDenied m1 3 k (strWb m1 k)
  else hostWrite m1 (strWb m1 k) (leBytes 8 (getF m1 HIF_STR_TAIL_INDEX k + cycle % 2 ^ 32 * 2 ^ 32))

/-! ## Interrupt messages (03 R102) -/

/-- COALESCE_TIMER_EXPIRY (03 R102): TIME after the first pending entry the message is sent. -/
def coalesceTimerExpiry (v : Nat) (m : Mach) : Mach :=
  if getF m HIF_COAL_TIME v = 0 ∨ sget m.hif.pend v 0 = 0 then m
  else sendMsg { m with hif := { m.hif with pend := sput m.hif.pend v 0 0 } } v

/-- COALESCE_TIMER_EXPIRY. -/
def execCoalesceTimerExpiry (v : Nat) (s : State) : Out := done (coalesceTimerExpiry v) s

/-- Messages whose vectors are pending leave once nothing masks them any more (03 R102). -/
def sendHeld (m : Mach) : Mach :=
  if msixOn m then
    ((List.range 64).filter (fun v => m.hif.pba.testBit v)).foldl
      (fun m v => sendMsg { m with hif := { m.hif with pba := andNot m.hif.pba (2 ^ v) } } v) m
  else m

/-- MSIX_TABLE_WRITE (03 R79, R102): a write of word d of vector v; unmasking sends a message that is pending. -/
def msixTableWrite (v d x : Nat) (m : Mach) : Mach :=
  if 64 ≤ v ∨ 4 ≤ d then m
  else
    let x := if d = 3 then x % 2 else if d = 0 then x % 2 ^ 32 / 4 * 4 else x % 2 ^ 32
    let m := { m with hif := { m.hif with msix := sput m.hif.msix (4 * v + d) x (if d = 3 then 1 else 0) } }
    if d = 3 ∧ x = 0 ∧ m.hif.pba.testBit v then sendMsg { m with hif := { m.hif with pba := andNot m.hif.pba (2 ^ v) } } v
    else m

/-- MSIX_TABLE_WRITE. -/
def execMsixTableWrite (v d x : Nat) (s : State) : Out := done (domWrite 1 (0x8000 + 16 * v + 4 * d) (msixTableWrite v d x)) s

/-! ## Feature negotiation (03 R109, R110) -/

/-- The features that the node advertises (03 R109). -/
def advertised (m : Mach) : Nat :=
  maskOf ([0, 1, 2, 4, 5, 8, 9, 10, 11, 12, 15] ++ (if isManager m then [3, 6, 7, 14] else [])
    ++ (if onF m SYS_STRAP_TEST_EN then [13] else []))

/-- FEATURE_NEGOTIATION_GO (03 R110): GO latches the requested set; after it GO is ignored and reported. -/
def featureGo (x : Nat) (m : Mach) : Mach :=
  if !onF m HIF_STATUS_READY || !x.testBit 31 then m
  else if m.hif.gone then logNode m E_HIF_FEAT_LOCKED 0
  else irq { m with hif := { m.hif with gone := true, latched := (List.range 4).map (fun i => getF m HIF_FEAT_DRV_DRV i) } } 101

/-- FEATURE_NEGOTIATION_GO. -/
def execFeatureNegotiationGo (x : Nat) (s : State) : Out := done (domWrite 1 0x30 (featureGo x)) s

/-- The submission mode of the Ladle that an accepted set gives (18 R525). -/
def ladleMode (acc : Nat) : Nat := if acc.testBit 1 then 0 else if acc.testBit 2 then 1 else 2

/-- FEATURE_NEGOTIATION_DONE (03 R110): the accepted set and the flags. -/
def featureDone (m : Mach) : Mach :=
  if !m.hif.gone || onF m HIF_FEAT_ACK_DONE then m
  else
    let req := nth m.hif.latched 0
    let adv := advertised m
    let both := req &&& adv
    let conflict := req.testBit 1 && both.testBit 2
    let acc := if conflict then andNot both 4 else both
    let unknown := andNot req adv != 0 || (m.hif.latched.drop 1).any (· != 0)
    let failed := !acc.testBit 0
    let m := [1, 2, 3].foldl (fun m i => setF m HIF_FEAT_DRV_DRV i 0) (setF m HIF_FEAT_DRV_DRV 0 acc)
    let m := setB (setB (setB (flag m HIF_FEAT_ACK_DONE) HIF_FEAT_ACK_UNKNOWN 0 unknown) HIF_FEAT_ACK_CONFLICT 0 conflict)
      HIF_FEAT_ACK_FAILED 0 failed
    let m := setF m LADLE_CTRL_MODE 0 (if failed then 2 else ladleMode acc)
    let m := if failed then logNode m E_HIF_FEAT_REQUIRED 0 else m
    notice m E_HIF_FEAT_DONE acc

/-- FEATURE_NEGOTIATION_DONE. -/
def execFeatureNegotiationDone (s : State) : Out := done featureDone s

/-! ## HIF resets and the link (03 R79, R111) -/

/-- The HIF fields that a HIF reset keeps: the accepted set, the DMA window table, and HIF_STATUS. -/
def hifKeeps (f : Fld) : Bool := decide (f.off < 8 ∨ (0x10 ≤ f.off ∧ f.off < 0x40) ∨ (0x100 ≤ f.off ∧ f.off < 0x300))

/-- E_HIF_LINK_RESET goes ahead of every event held for ring 0 (03 R111). -/
def linkResetEvent (m : Mach) : Mach :=
  let e : Ev := { code := E_HIF_LINK_RESET, kind := 1, id := nodeId m, cycle := m.cyc.n % 2 ^ 32,
                  offset := (m.cyc.now - m.cyc.start) % 2 ^ 20, cls := 7 }
  let mine := m.hif.held.filter (fun x => x.1 == 0)
  let others := m.hif.held.filter (fun x => x.1 != 0)
  let m := if 64 ≤ mine.length then
      let m := incF m HIF_EVT_DROP_CNT 0 1
      { m with hif := { m.hif with lost := insNat 0 m.hif.lost } } else m
  { m with hif := { m.hif with held := (0, e) :: mine.take 63 ++ others } }

/-- A HIF reset (03 R111): the function is in D0 with the size codes of PCI Express again; `seen` is the status flag that it sets. A
function level reset leaves the link and Max_Payload_Size as they are, as PCI Express has it (entry 29). -/
def hifReset (seen : Fld) (link : Bool) (m : Mach) : Mach :=
  let m := resetFields m (fieldsHIF.filter (fun f => !hifKeeps f))
  let m := flag m seen
  let m := if link then m else setF (setF (setF m HIF_STATUS_LINK_UP 0 0) HIF_STATUS_LINK_SPEED 0 0) HIF_STATUS_LINK_WIDTH 0 0
  let m := detachJobs m
  let m := { m with hif := { m.hif with
      cfgLoaded := link, msix := [], pba := 0, pend := [], phase0 := [], lostCycles := [], lastRing := [], d3 := false,
      mps := if link then m.hif.mps else 0, mrrs := 2, cmd := 0, msixCtl := 0 } }
  irq (linkResetEvent m) 100

/-- PERST# is asserted, the fundamental reset (03 R79, R111); it stays so until a link trains with it de-asserted. -/
def perst (m : Mach) : Mach := hifReset HIF_STATUS_FLR_SEEN false { m with hif := { m.hif with perstLow := true, aer := [] } }

/-- PERST (03 R111). -/
def execPerst (s : State) : Out := done perst s
/-- HOT_RESET (03 R111). -/
def execHotReset (s : State) : Out := done (hifReset HIF_STATUS_FLR_SEEN false) s
/-- FUNCTION_LEVEL_RESET (03 R111). -/
def execFunctionLevelReset (s : State) : Out := done (hifReset HIF_STATUS_FLR_SEEN true) s
/-- PCIE_LINK_LOSS (03 R111). -/
def execPcieLinkLoss (s : State) : Out := done (hifReset HIF_STATUS_LINK_DOWN_SEEN false) s

/-- PCIE_LINK_UP (03 R79, R113): the link trains at a speed code and a width, once the chip has left reset and PERST# is de-asserted. -/
def pcieLinkUp (link : PcieLink) (width : Nat) (m : Mach) : Mach :=
  if m.sys.inReset || !domOn m dHIF || link.perst then m
  else
    let m := { m with hif := { m.hif with perstLow := false } }
    let m := setF (setF (flag m HIF_STATUS_LINK_UP) HIF_STATUS_LINK_SPEED 0 link.speed) HIF_STATUS_LINK_WIDTH 0 width
    notice m E_HIF_LINK_UP (link.speed % 8 + width % 8 * 8)

/-- PCIE_LINK_UP. -/
def execPcieLinkUp (link : PcieLink) (width : Nat) (s : State) : Out := done (pcieLinkUp link width) s

/-- The chip identification register as one value (23 R640). -/
def chipId (m : Mach) : Nat :=
  getF m SYS_CHIP_ID_METAL + getF m SYS_CHIP_ID_BASE * 2 ^ 4 + getF m SYS_CHIP_ID_PART * 2 ^ 8
    + getF m SYS_CHIP_ID_GRADE * 2 ^ 24 + getF m SYS_CHIP_ID_FAMILY * 2 ^ 28

/-- The size code that a control field takes: at most that of 512 B (03 R78). -/
def sizeCode (x : Nat) : Nat := min 2 (x % 8)

/-- What a register of Advanced Error Reporting holds after a fundamental reset: the mask and the severity of uncorrectable errors and the
mask of correctable ones have values there (entry 79). -/
def aerReset (i : Nat) : Nat := match i with | 2 => 0x400000 | 3 => 0x462030 | 5 => 0xE000 | _ => 0

/-- A register of Advanced Error Reporting: the errors that the link has had since the last read join the two status registers, and the
capability header and the header log hold what PCI Express put there: open values (entry 79). -/
def aerRead (m : Mach) (i : Nat) : Nat :=
  let x := sget m.hif.aer i (aerReset i)
  let link := Config.aer (m.free + i) % 2 ^ 32
  match i with | 2 | 3 | 5 | 6 => x | 1 | 4 => x ||| link | _ => link

/-- A write of a register of Advanced Error Reporting: a 1 clears a status bit; masks, severity and control are stored. -/
def aerWrite (m : Mach) (i x : Nat) : Mach :=
  let put (v : Nat) : Mach := { m with hif := { m.hif with aer := sput m.hif.aer i v (aerReset i) } }
  match i with
  | 1 | 4 => put (andNot (sget m.hif.aer i 0) (x % 2 ^ 32))
  | 2 | 3 | 5 | 6 => put (x % 2 ^ 32)
  | _ => m

/-- What the configuration space holds (03 R78); what R78 does not list reads 0, as PCI Express has it of a register that a function lacks
(entry 79). -/
def cfgRead (m : Mach) (item : CfgItem) : Nat :=
  match item with
  | .ident => Config.vendorId % 2 ^ 16 + 0x0256 * 2 ^ 16
  | .classCode => 0x118000
  | .serial 0 => getF m SYS_UID_LO_UID
  | .serial 1 => getF m SYS_UID_HI_UID
  | .maxPayloadCap => 2
  | .maxPayload => m.hif.mps
  | .maxReadRequest => m.hif.mrrs
  | .powerState => if m.hif.d3 then 3 else 0
  | .barSize 0 => 0x200000
  | .barSize 2 => 0x10000
  | .barSize 4 => 0x2000000
  | .aer i => aerRead m i
  | .command => m.hif.cmd
  | .msixControl => 63 + m.hif.msixCtl
  | _ => 0

/-- A configuration write: the fields that the host sets; every other item ignores it. -/
def cfgWrite (m : Mach) (item : CfgItem) (x : Nat) : Mach :=
  match item with
  | .maxPayload => { m with hif := { m.hif with mps := sizeCode x } }
  | .maxReadRequest => { m with hif := { m.hif with mrrs := sizeCode x } }
  | .powerState => if x % 4 = 0 ∨ x % 4 = 3 then sendHeld { m with hif := { m.hif with d3 := x % 4 == 3 } } else m
  | .command => sendHeld { m with hif := { m.hif with cmd := x &&& 0x546 } }
  | .msixControl => sendHeld { m with hif := { m.hif with msixCtl := x &&& 0xC000 } }
  | .aer i => aerWrite m i x
  | _ => m

/-- CONFIGURATION_REQUEST (03 R78, R79): a read or a write of an item is answered, with Configuration Request Retry Status (`cfgAnswer` none)
until the configuration space is loaded. While PERST# is asserted no request comes. -/
def configurationRequest (x : CfgRequest) (m : Mach) : Mach :=
  if m.sys.inReset || !domOn m dHIF || m.hif.perstLow then m
  else
    let m := if x.loaded then { m with hif := { m.hif with cfgLoaded := true } } else m
    if !m.hif.cfgLoaded then { m with out := { m.out with cfgAnswer := none } }
    else
      let m := match x.write with | some v => cfgWrite m x.item v | none => m
      let v := cfgRead m x.item
      let m := match x.item with
        | .aer i => if i = 1 ∨ i = 4 then { m with hif := { m.hif with aer := sput m.hif.aer i v 0 } } else m
        | _ => m
      { m with out := { m.out with cfgAnswer := some v }, free := m.free + 1 }

/-- HOST_READ_COMPLETION (03 R113): a completion without error carries data that the commands using it hold; an error
completion fails the job in flight at (ring, head) or puts the ring into FAULT, with E_HIF_HOST_ABORT. It is an event of the PCIE unit
(25 R671). -/
def hostReadCompletion (err job : Bool) (kind k head : Nat) (m : Mach) : Mach :=
  let m := (testEvent m uPCIE).2
  if !err then m
  else if job then
    match m.hif.inflight.find? (fun j => j.ring == k && j.head == head) with
    | none => m
    | some j => finishJob (logNode m E_HIF_HOST_ABORT 0) j E_HIF_HOST_ABORT noParam none
  else if ringOn m kind k then ringFault (report m E_HIF_HOST_ABORT 0 4 k kind) kind k E_HIF_RING_FAULT else m

/-- CONFIGURATION_REQUEST. -/
def execConfigurationRequest (x : CfgRequest) (s : State) : Out := done (configurationRequest x) s
/-- HOST_READ_COMPLETION. -/
def execHostReadCompletion (err job : Bool) (kind k head : Nat) (s : State) : Out := done (hostReadCompletion err job kind k head) s

/-! ## Creating and deleting rings (03 R105 to R107) -/

/-- The address of the access that the windows deny to a new ring (03 R84): the whole ring, or the write-back word of an out-stream. -/
def ringDmaBad (m : Mach) (kind cfg base wb : Nat) : Option Nat :=
  let es := match kind with | 0 => 64 | 1 => 16 | 2 => 16 | _ => 2 ^ bits cfg 28 4
  let write := kind == 1 || kind == 2 || (kind == 3 && cfg.testBit 24)
  if !dmaOk m write base (2 ^ bits cfg 0 5 * es) then some base
  else if kind == 3 && cfg.testBit 24 && !dmaOk m true wb 8 then some wb else none

/-- The CFG register of a ring as one value. -/
def ringCfg (m : Mach) (kind k : Nat) : Nat :=
  let f (a b c d : Fld) : Nat := getF m (ringFld kind a b c d) k * 2 ^ (ringFld kind a b c d).lsb
  f HIF_CMD_CFG_LOG2_SIZE HIF_CPL_CFG_LOG2_SIZE HIF_EVT_CFG_LOG2_SIZE HIF_STR_CFG_LOG2_SIZE
    + f HIF_CMD_CFG_VECTOR HIF_CPL_CFG_VECTOR HIF_EVT_CFG_VECTOR HIF_STR_CFG_VECTOR
    + f HIF_CMD_CFG_CQ HIF_CPL_CFG_CQ HIF_EVT_CFG_CQ HIF_STR_CFG_CQ
    + f HIF_CMD_CFG_PRIO HIF_CPL_CFG_PRIO HIF_EVT_CFG_PRIO HIF_STR_CFG_PRIO
    + f HIF_CMD_CFG_DIR HIF_CPL_CFG_DIR HIF_EVT_CFG_DIR HIF_STR_CFG_DIR
    + f HIF_CMD_CFG_SRC HIF_CPL_CFG_SRC HIF_EVT_CFG_SRC HIF_STR_CFG_SRC
    + f HIF_CMD_CFG_ESIZE HIF_CPL_CFG_ESIZE HIF_EVT_CFG_ESIZE HIF_STR_CFG_ESIZE

/-- Enables a ring with indices 0, on its first pass; an in-stream anew is no stream that a stop has unbound. -/
def startRing (m : Mach) (kind k : Nat) : Mach :=
  let m := setF (setF (setF (setF m (rEn kind) k 1) (rState kind) k 1) (rHead kind) k 0) (rTail kind) k 0
  { m with hif := { m.hif with phase0 := m.hif.phase0.filter (· != 64 * kind + k) },
           run := if kind = 3 then { m.run with unbound := m.run.unbound.filter (· != k) } else m.run }

/-- The offset of a ring register set in the HIF window. -/
def ringOff (kind k : Nat) : Nat := (match kind with | 0 => 0x400 | 1 => 0x800 | 2 => 0xC00 | _ => 0x1000) + 0x40 * k

/-- CTRL of a ring. -/
def ringCtrlOff (kind k : Nat) : Nat := ringOff kind k + 0xC

/-- The status with which the creation of a ring fails, for its values (03 R106). A ring in FAULT is not enabled, so it can be created anew
without a DELETE_RING before, which R108 asks of the host and does not say the device demands (DESIGN CHOICE, entry 78). -/
def createFails (m : Mach) (kind k cfg base wb aux : Nat) : Option (Nat × Nat) :=
  if rCount kind ≤ k then some (E_HIF_BAD_PARAM, 0)
  else if !cfgValid m kind cfg then some (E_HIF_BAD_PARAM, 1)
  else if kind = 3 ∧ 6 < bits aux 8 3 then some (E_HIF_BAD_PARAM, 6)
  else if getF m (rState kind) k = 1 ∨ getF m (rState kind) k = 3 then some (E_HIF_RING_IN_USE, noParam)
  else if (ringDmaBad m kind cfg base wb).isSome then some (E_HIF_DMA_DENIED, noParam)
  else none

/-- CREATE_RING (03 R105, R106). -/
def createRing (j : Job) (m : Mach) : JobRes :=
  let d := j.desc
  let kind := d.par 0 % 4
  let k := bits (d.par 0) 8 5
  let cfg := d.par 1
  let base := d.par 2 + d.par 3 * 2 ^ 32
  let wb := d.par 4 + d.par 5 * 2 ^ 32
  let out := kind == 3 && cfg.testBit 24
  let tele := out && bits cfg 25 2 == 0
  if k = 0 ∧ kind < 3 then jobFail m E_HIF_BAD_PARAM 0
  else if andNot cfg 0xF73F3F1F ≠ 0 then jobFail m E_HIF_BAD_PARAM 1
  else if !out ∧ d.par 4 ≠ 0 then jobFail m E_HIF_BAD_PARAM 4
  else if !out ∧ d.par 5 ≠ 0 then jobFail m E_HIF_BAD_PARAM 5
  else if andNot (d.par 6) 0x71F ≠ 0 then jobFail m E_HIF_BAD_PARAM 6
  else if (tele ∧ d.dataLen ≠ 32) ∨ (!tele ∧ d.dataLen ≠ 0) then jobFail m E_HIF_BAD_PARAM
  else match createFails m kind k cfg base wb (d.par 6) with
    | some (st, r) => jobFail (if st = E_HIF_DMA_DENIED then dmaDenied m ((ringDmaBad m kind cfg base wb).getD base) else m) st r
    | none =>
      let o := ringOff kind k
      let m := putReg (putReg (putReg m 1 (o + 8) cfg) 1 o (d.par 2)) 1 (o + 4) (d.par 3)
      let m := putReg (putReg (putReg m 1 (o + 0x18) (d.par 4)) 1 (o + 0x1C) (d.par 5)) 1 (o + 0x20) (d.par 6)
      let m := if tele then (List.range 8).foldl (fun m i => setF m HIF_TMASK_AXES (8 * k + i) (word j.data i)) m else m
      { m := startRing m kind k, result := k }

/-- CREATE_RING. -/
def execCreateRing (j : Job) (s : State) : Out := done (runJob 0x0101 createRing j) s

/-- RING_ENABLE (03 R105): a write of 1 to CTRL.ENABLE applies the creation checks to the registers; before READY it is
ignored (03 R79). -/
def ringEnable (kind k : Nat) (m : Mach) : Mach :=
  if !onF m HIF_STATUS_READY || decide (4 ≤ kind) then m
  else
    let cfg := ringCfg m kind k
    let base := ringBase m kind k
    let wb := strWb m k
    let tapOff := kind == 3 && cfg.testBit 24 && bits cfg 25 2 == 1 && !feature m 8
    match createFails m kind k cfg base wb (getF m HIF_STR_AUX_DECIM k * 256) with
    | some (st, _) => if st = E_HIF_DMA_DENIED then dmaDenied m ((ringDmaBad m kind cfg base wb).getD base) else m
    | none => if tapOff then m else startRing m kind k

/-- RING_ENABLE. -/
def execRingEnable (kind k : Nat) (s : State) : Out := done (domWrite 1 (ringCtrlOff kind k) (ringEnable kind k)) s

/-- Stops a ring (03 R107): an in-stream's blocks not yet snapshotted are discarded. -/
def stopRing (m : Mach) (kind k : Nat) : Mach :=
  let m := setF (setF m (rEn kind) k 0) (rState kind) k 0
  if kind = 3 then
    { m with hif := { m.hif with blocks := m.hif.blocks.filter (fun b => b.ring != k) },
             duo := { m.duo with ins := m.duo.ins.filter (fun x => !x.block.any (fun b => b.ring == k)) } } else m

/-- DELETE_RING (03 R106, R107). -/
def deleteRing (j : Job) (m : Mach) : JobRes :=
  let kind := j.desc.par 0 % 4
  let k := bits (j.desc.par 0) 8 5
  if (k = 0 ∧ kind < 3) ∨ rCount kind ≤ k then jobFail m E_HIF_BAD_PARAM 0
  else if getF m (rState kind) k = 0 then { m := m }
  else if kind = 1 ∧ (List.range 16).any (fun c => ringOn m 0 c && getF m HIF_CMD_CFG_CQ c == k) then
    jobFail m E_HIF_RING_IN_USE
  else if kind = 0 ∧ ringBusy (dropFlight m j) k then
    let m := setF (setF m (rEn 0) k 0) (rState 0) k 3
    { m := { m with hif := { m.hif with deleting := m.hif.deleting ++ [(k, jcompl j E_OK 0 none)] } }, later := true }
  else { m := stopRing m kind k }

/-- DELETE_RING. -/
def execDeleteRing (j : Job) (s : State) : Out := done (runJob 0x0102 deleteRing j) s

/-- RING_DISABLE (03 R107): a write of 0 to CTRL.ENABLE acts as DELETE_RING, with no completion. -/
def ringDisable (kind k : Nat) (m : Mach) : Mach :=
  if 4 ≤ kind ∨ rCount kind ≤ k ∨ getF m (rState kind) k = 0 ∨ !onF m HIF_STATUS_READY then m
  else if kind = 1 ∧ (List.range 16).any (fun c => ringOn m 0 c && getF m HIF_CMD_CFG_CQ c == k) then m
  else if kind = 0 ∧ ringBusy m k then
    let m := setF (setF m (rEn 0) k 0) (rState 0) k 3
    { m with hif := { m.hif with deleting := m.hif.deleting ++ [(k, { ring := 16 })] } }
  else stopRing m kind k

/-- RING_DISABLE. -/
def execRingDisable (kind k : Nat) (s : State) : Out := done (domWrite 1 (ringCtrlOff kind k) (ringDisable kind k)) s

/-! ## Jobs of SYS and HIF (03 R103, R104) -/

/-- The strap register as one value. -/
def strapReg (m : Mach) : Nat :=
  getF m SYS_STRAP_NODE_ID + getF m SYS_STRAP_ROLE * 2 ^ 6 + getF m SYS_STRAP_TEST_EN * 2 ^ 7
    + getF m SYS_STRAP_BOOT_SRC * 2 ^ 8 + getF m SYS_STRAP_VALID * 2 ^ 10 + getF m SYS_STRAP_PCIE_CLK * 2 ^ 11

/-- SYS_LOCK as one value (00 R18). -/
def lockReg (m : Mach) : Nat := b2n m.locks.cfg + 2 * b2n m.locks.lim + 4 * b2n m.locks.sch

/-- The identity block of GET_INFO (03 R104). -/
def identity (m : Mach) : List Nat :=
  padTo 256 (leBytes 4 (chipId m) ++ leBytes 4 (strapReg m)
    ++ leBytes 4 (advertised m) ++ List.replicate 12 0
    ++ (List.range 4).flatMap (fun i => leBytes 4 (if onF m HIF_FEAT_ACK_DONE then getF m HIF_FEAT_DRV_DRV i else 0))
    ++ leBytes 4 (lockReg m) ++ leBytes 4 (getF m SYS_FW_VER_VERSION))

/-- GET_INFO (03 R104, R680). -/
def execGetInfo (j : Job) (s : State) : Out :=
  done (runJob 0x0001 (fun j m => let r := dataOut m j.desc (identity m); { m := r.1, result := r.2 }) j) s

/-- GET_FAULT_LOG (23 R638): the newest entries first, whole entries only. -/
def execGetFaultLog (j : Job) (s : State) : Out :=
  done (runJob 0x0003 (fun j m =>
    let n := min (j.desc.par 0) (min (j.desc.dataLen / 16) m.sys.flog.length)
    let l := (m.sys.flog.reverse.take n).flatMap (fun e => evBytes e 0 0)
    { m := (dataOut m j.desc l).1, result := n }) j) s

/-- ROUTE_EVENTS (03 R94). -/
def execRouteEvents (j : Job) (s : State) : Out :=
  done (runJob 0x0103 (fun j m =>
    let b := j.desc.par 0
    if 17 ≤ b then jobFail m E_HIF_BAD_PARAM 0
    else { m := setF (setF m HIF_EVT_ROUTE_RING b (j.desc.par 1)) HIF_EVT_ROUTE_NOTICES b (j.desc.par 1 / 4) }) j) s

/-- A vector's COAL is changed: entries pending that reach the new COUNT send the message. R102 does not say what a change does with
entries that are pending (DESIGN CHOICE, entry 127). -/
def coalChanged (m : Mach) (v : Nat) : Mach :=
  let c := sget m.hif.pend v 0
  if c ≠ 0 ∧ getF m HIF_COAL_COUNT v ≤ c then sendMsg { m with hif := { m.hif with pend := sput m.hif.pend v 0 0 } } v else m

/-- SET_COALESCE (03 R102). -/
def execSetCoalesce (j : Job) (s : State) : Out :=
  done (runJob 0x0104 (fun j m =>
    let v := j.desc.par 0
    if 64 ≤ v then jobFail m E_HIF_BAD_PARAM 0
    else { m := coalChanged (setF (setF m HIF_COAL_COUNT v (j.desc.par 1)) HIF_COAL_TIME v (j.desc.par 1 / 256)) v }) j) s

/-- SET_DMA_WINDOW (03 R83, R103): refused after LIMIT_LOCK. -/
def execSetDmaWindow (j : Job) (s : State) : Out :=
  done (runJob 0x0105 (fun j m =>
    let n := j.desc.par 0
    if 16 ≤ n then jobFail m E_HIF_BAD_PARAM 0
    else if m.locks.lim then jobFail m E_SYS_LOCK_WRITE
    else { m := (List.range 5).foldl (fun m i => putReg m 1 (0x100 + 0x20 * n + 4 * i) (j.desc.par (1 + i))) m }) j) s

end Sys2Proof.Machine
end

