-- ==== Sys2Proof/Machine/TimeOut.lean ====
section
/-! DEFINITION. Timed outputs and timestamp inputs (14 R423 to R430). A request for an output of another node is handed to the
network (09 R284). -/

namespace Sys2Proof.Machine

/-- Cell time at t = 0 of the next cycle, the instant of effect of a job accepted now. -/
def nextStart (m : Mach) : Nat := m.cyc.start + cycLen m

/-- Whether P4 of the cycle in progress has begun. -/
def inP4 (m : Mach) : Bool := decide (m.cyc.start + nth (plan m) 3 ≤ m.cyc.now)

/-- A job that finds a resource owned (04 R145): the event holds the DETAIL. -/
def jobBusy (m : Mach) (d : Nat) : JobRes := jobDetail (logNode m E_RESOURCE_BUSY d) E_RESOURCE_BUSY d

/-- A job that a block refuses: a busy resource is also an event; of E_HIF_BAD_PARAM `d` is the RESULT, of another code its DETAIL (03 R90,
entry 88). -/
def jobRefused (m : Mach) (e d : Nat) : JobRes :=
  if e = E_RESOURCE_BUSY then jobBusy m d else if e = E_HIF_BAD_PARAM then jobFail m e d else jobDetail m e d

/-! ## Requests to other nodes (09 R284) -/

/-- Queues a request to other nodes; it names the cycle after the one whose P4 carries it. -/
def netRequest (m : Mach) (kind : Nat) (j : Job) (nodes : List Nat) (axes : Nat) (data : List Nat) : JobRes :=
  let c := if inP4 m then m.cyc.n + 2 else m.cyc.n + 1
  let q : NetReq := { kind := kind, job := jcompl j 0 c none, nodes := nodes, cycle := c, axes := axes, data := data }
  { m := { m with twi := { m.twi with reqs := m.twi.reqs ++ [q] } }, later := true }

/-! ## Outputs -/

/-- Output `o`. -/
def outSt (m : Mach) (o : Nat) : OutSt := sget m.time.outs o {}
/-- Replaces output `o`. -/
def setOut (m : Mach) (o : Nat) (x : OutSt) : Mach := { m with time := { m.time with outs := sput m.time.outs o x {} } }

/-- Whether an output's last pulse has ended by tick `t` and nothing waits to replace it: it is released at that pulse's end (R427). -/
def outEnded (x : OutSt) (t : Nat) : Bool :=
  x.ending && x.lastEdge.all (fun e => decide (e ≤ t)) && x.next.all (fun c => c.1.mode == 0)

/-- Whether an output's level at rest is high at tick `t` (R428). -/
def restHigh (m : Mach) (o t : Nat) : Bool := (outSt m o).rest && !outEnded (outSt m o) t

/-- Changes owner and idle level of an output at instant `t`. The idle level is that of POL from an instant of effect on: neither a claim nor
a write of the register moves it before. A level change is an edge, beside a later one of a pulse in progress (R425, R428). -/
def setOwner (m : Mach) (o owner : Nat) (pol : Bool) (t : Nat) : Mach :=
  let m := setB (setF m TIME_OUT_CFG_OWNER o owner) TIME_OUT_CFG_POL o pol
  let x := outSt m o
  let high := owner != 0 && pol
  if x.rest == high then m else setOut m o { x with rest := high, lastEdge := some (max t (x.lastEdge.getD t)) }

/-- Releases an output at instant `t` (R427, 04 R148). -/
def releaseOut (m : Mach) (o t : Nat) : Mach :=
  let m := setOwner (release (release m 4 3 o) 8 3 o) o 0 (onF m TIME_OUT_CFG_POL o) t
  irq (setOut m o { outSt m o with due := [], left := 0, ending := false, next := none }) (216 + o)

/-- Outputs whose last pulse has ended are released, each at the end of that pulse (R427). Every command that asks who owns an output, or
whose register shows it, settles them first. -/
def settleOuts (m : Mach) : Mach :=
  (List.range 8).foldl (fun m o =>
    let x := outSt m o
    if outEnded x m.cyc.now then releaseOut m o (x.lastEdge.getD m.cyc.now) else m) m

/-- The rate rule of R425 for one pulse: suppressed whole if one of its edges would follow the edge before it too soon. The falling edge can
only do so on a Tap's pulse, whose WIDTH no check holds to RLIM (04 R141). -/
def emitPulse (m : Mach) (o start width : Nat) : Mach :=
  let x := outSt m o
  let lim := getF m TIME_OUT_RLIM_RLIM o
  if decide (width < lim) || x.lastEdge.any (fun e => decide (start < e + lim)) then
    logNode (flag (incF m TIME_OUT_CNT_RLIM o 1) TIME_FLAGS_RLIM_HIT) E_TIME_OUT_RATE o
  else
    let m := incF (setOut m o { x with lastEdge := some (start + width) }) TIME_OUT_CNT_PULSES o 1
    { m with out := { m.out with pulses := m.out.pulses ++ [(o, start, start + width)] } }

/-- The first START + k × PERIOD at or after `bound`, for a START before it. -/
def trainFrom (start : Int) (period bound : Nat) : Nat :=
  if start < bound ∧ period ≠ 0 then (start + period * ceilDiv ((bound : Int) - start).toNat period).toNat else start.toNat

/-- The first rising edge of a set-up that takes effect at instant `t` (R424). -/
def firstEdge (c : OutSet) (t : Nat) : Nat := if c.mode = 2 then trainFrom c.start c.period (t + 80) else c.start.toNat

/-- An output after a step of cell time by `d` to `new`, where a waiting set-up takes effect at `at_`, t = 0 of the next cycle. Edges lie on
ticks of cell time (R424): a pulse whose start the step passes over does not come, and a train goes on with its first start from `new` on
(DESIGN CHOICE, entry 146). -/
def stepOut (d : Int) (new at_ : Nat) (x : OutSt) : OutSt :=
  let due := if x.set.mode = 2 then x.due.map (fun p => (trainFrom p.1 x.set.period new, p.2)) else x.due.filter (fun p => decide (new ≤ p.1))
  { x with lastEdge := x.lastEdge.map (fun e => ((e : Int) + d).toNat), next := x.next.map (fun c => (c.1, at_)), due := due,
           ending := x.ending || (x.set.mode == 1 && !x.due.isEmpty && due.isEmpty) }

/-- Puts a set-up into force at instant `t` (R427). -/
def applyOut (m : Mach) (o : Nat) (c : OutSet) (t : Nat) : Mach :=
  let x := { outSt m o with next := none, due := [] }
  if c.mode = 0 then
    if ownerOf m 3 o = some 4 then settleOuts (setOut m o { x with set := c, ending := true }) else setOut m o x
  else
    let m := setOut m o { x with set := c, left := c.count, ending := false,
                                 due := if c.mode = 3 then [] else [(firstEdge c t, c.width)] }
    let m := setOwner m o 1 c.pol t
    let m := setF (setF (setF m TIME_OUT_CFG_MODE o c.mode) TIME_OUT_CFG_GROUP o c.group) TIME_OUT_CFG_ORDER o c.order
    let m := set64 m TIME_OUT_START_LO_START TIME_OUT_START_HI_START o (unsg 64 c.start)
    setF (setF (setF m TIME_OUT_PERIOD_TICKS o c.period) TIME_OUT_WIDTH_TICKS o c.width) TIME_OUT_CNT_PULSES o 0

/-- Set-ups whose instant has come take effect; outputs whose last pulse has ended with none waiting are released. -/
def outsBoundary (m : Mach) : Mach :=
  settleOuts ((List.range 8).foldl (fun m o => match (outSt m o).next with
    | some (c, t) => if t ≤ m.cyc.now then applyOut m o c t else m
    | none => m) m)

/-- The checks of R424 on the node that drives the output. -/
def outCheck (m : Mach) (o : Nat) (c : OutSet) (t : Nat) : Option Nat :=
  let lim := getF m TIME_OUT_RLIM_RLIM o
  if c.mode = 0 then none
  else if lim = 0 ∨ c.width < lim ∨ (c.mode = 2 ∧ c.period < c.width + lim) then some E_TIME_OUT_RATE
  else if c.mode = 1 ∧ c.start < ((t + 80 : Nat) : Int) then some E_TIME_OUT_PAST
  else none

/-- Claims an output and checks a set-up that takes effect at `t`: the DETAIL of a busy output, or the failing check, or the
state with the set-up waiting. -/
def startOut (m : Mach) (o : Nat) (c : OutSet) (t : Nat) : (Nat × Nat) ⊕ Mach :=
  let m := settleOuts m
  let mine := ownerOf m 3 o == some 4
  match (if mine then none else firstBusy m [(3, o)]) with
  | some d => .inl (E_RESOURCE_BUSY, d)
  | none => match outCheck m o c t with
    | some e => .inl (e, o)
    | none =>
      let m := if mine ∨ c.mode = 0 then m else setF (claim m 4 [(3, o)]) TIME_OUT_CFG_OWNER o 1
      .inr (setOut m o { outSt m o with next := some (c, t) })

/-- The set-up that the data of TIMED_OUT spells; `none` where a field is out of range or a reserved one is not 0 (R423). In a request to
another node (`sent`) the PTP flag stays set: START is then the signed cell time that the manager has converted (entry 146). -/
def outSetOf (sent : Bool) (l : List Nat) : Option OutSet :=
  let mode := field l 0 1
  let fl := field l 1 1
  let c : OutSet := { mode := mode, pol := fl.testBit 0, group := field l 2 1, order := field l 3 1,
                      start := if mode = 3 ∨ (sent && fl.testBit 1) then sgn 64 (field l 4 8) else (field l 4 8 : Nat),
                      period := field l 12 4, width := field l 16 4, count := field l 20 4 }
  let bad := decide (l.length ≠ 32 ∨ 3 < mode ∨ 4 ≤ fl ∨ field l 24 8 ≠ 0)
    || (mode != 3 && (c.group != 0 || c.order != 0)) || (mode != 2 && (c.period != 0 || c.count != 0))
    || (mode != 0 && c.width == 0) || decide (31 < c.group)
  if bad then none else some c

/-- A PTP time in ns as a cell time: (START - EPOCH) / 1.25 ns to the nearest tick, ties to even (R423). -/
def ptpToCell (m : Mach) (ns : Int) : Int := roundDiv ((ns - sgn 64 (get64 m TIME_EPOCH_LO_EPOCH TIME_EPOCH_HI_EPOCH)) * 4) 5

/-- TIMED_OUT (R423, R424). -/
def timedOut (j : Job) (m : Mach) : JobRes :=
  let p := j.desc.par 0
  let o := p % 8
  let node := bits p 8 6
  let here := node == 0x3F || node == nodeId m
  if andNot p 0x3F07 ≠ 0 then jobFail m E_HIF_BAD_PARAM 0
  else if !here && !(isManager m && m.mould.nodes.any (fun n => n.node == node)) then jobFail m E_HIF_BAD_PARAM 0
  else match outSetOf false (padTo j.desc.dataLen j.data) with
    | none => jobFail m E_HIF_BAD_PARAM
    | some c =>
      let ptp := (field j.data 1 1).testBit 1 && (c.mode == 1 || c.mode == 2)
      if ptp && !onF m TIME_STAT_FIRST_LOCK then jobDetail m E_TIME_DOMAIN_NOT_LOCKED (getF m TIME_CTRL_SEL)
      else
        let c := if ptp then { c with start := ptpToCell m c.start } else c
        if here then
          match startOut m o c (nextStart m) with
          | .inl (e, d) => jobRefused m e d
          | .inr m => { m := m }
        else
          let l := j.data.take 1 ++ [b2n c.pol + 2 * b2n ptp] ++ (j.data.drop 2).take 2 ++ leBytes 8 (unsg 64 c.start) ++ (j.data.drop 12).take 20
          netRequest m 4 j [node] o l

/-- TIMED_OUT. -/
def execTimedOut (j : Job) (s : State) : Out := done (runJob 0x0B01 timedOut j) s

/-- The set-up that an output's registers hold. -/
def outRegs (m : Mach) (o : Nat) : OutSet :=
  let mode := getF m TIME_OUT_CFG_MODE o
  let st := get64 m TIME_OUT_START_LO_START TIME_OUT_START_HI_START o
  { mode := mode, pol := onF m TIME_OUT_CFG_POL o, group := getF m TIME_OUT_CFG_GROUP o, order := getF m TIME_OUT_CFG_ORDER o,
    start := if mode = 3 then sgn 64 st else (st : Int), period := getF m TIME_OUT_PERIOD_TICKS o,
    width := getF m TIME_OUT_WIDTH_TICKS o, count := 0 }

/-- A write of OUT_CTRL.GO (R424, R433): a failure is an event where its code has a class above completion only. -/
def outGo (o : Nat) (m : Mach) : Mach :=
  if 8 ≤ o then m
  else match startOut m o (outRegs m o) (nextStart m) with
    | .inl (e, d) => if e = E_TIME_OUT_PAST then m else logNode m e d
    | .inr m => m

/-- OUT_GO. -/
def execOutGo (o : Nat) (s : State) : Out := done (domWrite 11 (0x418 + 0x20 * o) (outGo o)) s

/-- A write of OUT_CTRL.STOP acts as MODE OFF (R427). -/
def outStop (o : Nat) (m : Mach) : Mach :=
  if 8 ≤ o || ownerOf m 3 o != some 4 then m else setOut m o { outSt m o with next := some ({}, nextStart m) }

/-- OUT_STOP. -/
def execOutStop (o : Nat) (s : State) : Out := done (domWrite 11 (0x418 + 0x20 * o) (outStop o)) s

/-- TIMED_OUTPUT_PULSE (R425, R427): output `o` reaches the start of its earliest pulse. -/
def timedPulse (o : Nat) (m : Mach) : Mach :=
  match (outSt m o).due with
  | [] => m
  | (t, w) :: rest =>
    let m := emitPulse (settleOuts (at' m t)) o t w
    let x := outSt m o
    if x.set.mode = 3 then setOut m o { x with due := rest }
    else if x.set.mode = 2 ∧ x.left ≠ 1 then
      setOut m o { x with due := [(t + x.set.period, w)], left := x.left - 1 }
    else setOut m o { x with due := [], left := 0, ending := true }

/-- TIMED_OUTPUT_PULSE. -/
def execTimedOutputPulse (o : Nat) (s : State) : Out := done (timedPulse o) s

/-- Inserts a pulse in rising order of starts. -/
def insPulse (x : Nat × Nat) : List (Nat × Nat) → List (Nat × Nat)
  | [] => [x]
  | y :: r => if x.1 < y.1 then x :: y :: r else y :: insPulse x r

/-- The 64-bit cell time nearest `now` whose low bits are `lo` (R426). -/
def extend32 (now lo : Nat) : Nat :=
  let b := now / 2 ^ 32 * 2 ^ 32 + lo % 2 ^ 32
  if b + 2 ^ 31 < now then b + 2 ^ 32 else if now + 2 ^ 31 < b ∧ 2 ^ 32 ≤ b then b - 2 ^ 32 else b

/-- A gear event record reaches the outputs (R426). -/
def gearOutputs (m : Mach) (group order inst : Nat) : Mach :=
  (List.range 8).foldl (fun m o =>
    let x := outSt m o
    if ownerOf m 3 o = some 4 ∧ x.set.mode = 3 ∧ x.set.group = group ∧ (x.set.order = 0xFF ∨ x.set.order = order) then
      let t := (extend32 m.cyc.now inst : Int) + x.set.start
      if t < ((m.cyc.now + 80 : Nat) : Int) then logNode (incF m TIME_OUT_CNT_LATE o 1) E_TIME_OUT_LATE (o + order % 256 * 256)
      else setOut m o { x with due := insPulse (t.toNat, x.set.width) x.due }
    else m) m

/-! ## Timestamp inputs (R429, R430) -/

/-- The queue of input `i`, head first. -/
def capQ (m : Mach) (i : Nat) : List (Nat × Bool) := sget m.time.caps i []

/-- Sets the queue of an input and what its registers show of the head. -/
def setCapQ (m : Mach) (i : Nat) (q : List (Nat × Bool)) : Mach :=
  let m := { m with time := { m.time with caps := sput m.time.caps i q [] } }
  let h := q.headD (0, false)
  let m := setB (setF m TIME_CAP_STAT_COUNT i q.length) TIME_CAP_STAT_HEAD_EDGE i h.2
  levels (set64 m TIME_CAP_LO_STAMP TIME_CAP_HI_STAMP i h.1)

/-- CAPTURE_EDGE: input `i` shows a level change at cell time `stamp` that holds for `held` ticks. -/
def captureEdge (i : Nat) (falling : Bool) (stamp held : Nat) (m : Mach) : Mach :=
  if 8 ≤ i || !blockOn m 11 || decide (held < getF m TIME_CAP_CFG_FILT i + 1) then m
  else
    let m := setB m TIME_CAP_STAT_LEVEL i (!falling)
    let sel := if falling then getF m TIME_CAP_CFG_EDGE i / 2 == 1 else getF m TIME_CAP_CFG_EDGE i % 2 == 1
    if !sel || !(onF m TIME_CAP_CFG_EN i || getF m TIME_CAP_CFG_OWNER i == 2) then m
    else if (capQ m i).length < 16 then
      setCapQ { m with time := { m.time with dropping := m.time.dropping.filter (· != i) } } i (capQ m i ++ [(stamp, falling)])
    else
      let m' := flag (incF m TIME_OVF_CNT_CNT i 1) TIME_FLAGS_OVERFLOW
      if m.time.dropping.contains i then m'
      else logNode { m' with time := { m'.time with dropping := insNat i m'.time.dropping } } E_TIME_CAP_OVERFLOW i

/-- CAPTURE_EDGE. -/
def execCaptureEdge (i : Nat) (falling : Bool) (stamp held : Nat) (s : State) : Out := done (captureEdge i falling stamp held) s

/-- CAPTURE_HEAD_REMOVE (R430): a read of TIME_CAP_HI_i removes the head. -/
def captureRemove (i : Nat) (m : Mach) : Mach := if capQ m i = [] then m else setCapQ m i ((capQ m i).drop 1)

/-- CAPTURE_HEAD_REMOVE. -/
def execCaptureHeadRemove (i : Nat) (s : State) : Out := done (fun m => if blockOn m 11 then captureRemove i m else m) s

end Sys2Proof.Machine
end

