-- ==== Sys2Proof/Machine/Tap.lean ====
section
/-! DEFINITION. Tap (20): set-up and its checks, the sequencer, segments, masks, stop and drain. The probe values of a sample
come from Machine/TapSample.lean. -/

namespace Sys2Proof.Machine

/-- STATE IDLE. -/
def tIdle : Nat := 0
/-- STATE PREFILL. -/
def tPrefill : Nat := 1
/-- STATE ARMED. -/
def tArmed : Nat := 2
/-- STATE POST. -/
def tPost : Nat := 3
/-- STATE REARM. -/
def tRearm : Nat := 4
/-- STATE DONE. -/
def tDone : Nat := 5
/-- STATE STOPPED. -/
def tStopped : Nat := 6

/-! ## Records (R564 to R567) -/

/-- The enabled probes, ascending. -/
def tapProbes (m : Mach) : List Nat := (List.range 64).filter (fun p => onF m TAP_PROBE_EN p)
/-- Width of a probe in bits. -/
def probeWidth (m : Mach) (p : Nat) : Nat := getF m TAP_PROBE_WIDTH p + 1
/-- Record width W. -/
def recWidth (m : Mach) : Nat := (tapProbes m).foldl (fun w p => w + probeWidth m p) 0
/-- log2 of the record size R_B. -/
def recLog2 (m : Mach) : Nat := clog2 (max 16 (ceilDiv (recWidth m) 8))
/-- Record size R_B in bytes. -/
def recSize (m : Mach) : Nat := 2 ^ recLog2 m
/-- Bytes of a segment. -/
def segBytes (m : Mach) : Nat := 2 ^ 24 / 2 ^ getF m TAP_CFG_NSEG_LOG2
/-- Record slots of a segment, or of the ring (R567, R580). -/
def segSlots (m : Mach) : Nat := if onF m TAP_CFG_CONT then 2 ^ 24 / recSize m else (segBytes m - 64) / recSize m
/-- Address of a slot of the current segment. -/
def slotAddr (m : Mach) (slot : Nat) : Nat :=
  if onF m TAP_CFG_CONT then 0x20000000 + slot * recSize m
  else 0x20000000 + getF m TAP_STAT_SEG * segBytes m + 64 + slot * recSize m

/-- A record packed little-endian (R564). -/
def packRec (m : Mach) (vals : List Nat) : List Nat :=
  let x := ((tapProbes m).zip vals).foldl (fun (a : Nat × Nat) e =>
    (a.1 + e.2 % 2 ^ probeWidth m e.1 * 2 ^ a.2, a.2 + probeWidth m e.1)) (0, 0)
  leBytes (recSize m) x.1

/-- The value of probe `p` in a sample; a probe that is not enabled has 0. -/
def probeIn (m : Mach) (vals : List Nat) (p : Nat) : Nat :=
  match (tapProbes m).idxOf? p with | some i => nth vals i | none => 0

/-- A probe's field, sign- or zero-extended (R572). -/
def probeX (m : Mach) (vals : List Nat) (p : Nat) (signed : Bool) : Int :=
  if signed then sgn (probeWidth m p) (probeIn m vals p) else (probeIn m vals p % 2 ^ probeWidth m p : Nat)

/-- A 32-bit bound read as the comparison reads it. -/
def boundX (v : Nat) (signed : Bool) : Int := if signed then sgn 32 v else (v : Int)

/-! ## Set-up checks (R563, R566, R567, R577) -/

/-- Sample frequency of R565 as a fraction in Hz: numerator and denominator. -/
def sampleRate (m : Mach) : Nat × Nat :=
  let s := getF m TAP_SAMPLE_SLOT
  let per := getV m PWR_PER_PER s
  match getF m TAP_SAMPLE_CLK with
  | 0 => (800000000, getF m TAP_SAMPLE_INTERVAL)
  | 1 => (2 ^ getF m AXL_MODE_POS_RATE s * 800000000, cycLen m)
  | 2 => (800000000 * 16, per * getF m AXL_MODE_CUR_DIV s)
  | 3 => (800000000 * 16, per * (getF m PWR_EVT_CFG_PRESC s + 1))
  | 4 => (800000000, cycLen m)
  | _ => if getF m AXL_TUNE_CFG_POINT s < 2 then (2 ^ getF m AXL_MODE_POS_RATE s * 800000000, cycLen m)
         else (800000000 * 16, per * getF m AXL_MODE_CUR_DIV s)

/-- Whether the write path cannot carry the set-up (R566). -/
def overBandwidth (m : Mach) : Bool :=
  let f := sampleRate m
  decide (40000000000 * f.2 < recSize m * 8 * f.1)

/-- The rate that the set-up needs, in Mbit/s, rounded up (R583). -/
def needMbit (m : Mach) : Nat :=
  let f := sampleRate m
  ceilDiv (recSize m * 8 * f.1) (1000000 * f.2)

/-- Whether a probe's source exists here (R563). -/
def probeOk (m : Mach) (p : Nat) : Bool :=
  let src := getF m TAP_PROBE_SRC p
  let inst := getF m TAP_PROBE_INST p
  let axis := !domOff m dAXIS && domOn m dAXIS
  let conf := (slotAxis m inst).isSome
  if src = 0 ∨ src = 0x30 ∨ src = 0x31 ∨ src = 0x32 ∨ src = 0x33 ∨ (0x38 ≤ src ∧ src ≤ 0x3B) then true
  else if 1 ≤ src ∧ src ≤ 0x14 ∧ (src ≤ 0x0C ∨ 0x10 ≤ src) then axis && conf
  else if 0x20 ≤ src ∧ src ≤ 0x23 then axis && (onF m ENC_CFG_EN inst || getF m ENC_CFG_OWNER inst != 0)
  else false

/-- The first probe that takes the record past 2,048 bits (R564). -/
def probeOver (m : Mach) : Option Nat :=
  (tapProbes m).find? (fun p => decide (2048 < ((tapProbes m).filter (fun q => decide (q ≤ p))).foldl (fun w q => w + probeWidth m q) 0))

/-- R577 step 1 on the set-up in the registers, field ranges with the masks and the drain ring: the byte offset in the data of
TAP_ARM of the first word at fault. -/
def setupBad (m : Mach) : Option Nat :=
  let cont := onF m TAP_CFG_CONT
  let term (t : Nat) : Bool := decide (t ≤ 16)
  let need (ok : Bool) (o : Nat) : Option Nat := if ok then none else some o
  [(probeOver m).map (4 * ·),
   ((List.range 8).find? (fun i => !(term (getF m TAP_ST_CFG_TERM_A i) && term (getF m TAP_ST_CFG_TERM_B i)
      && decide (getF m TAP_ST_CFG_NEXT i ≤ 8) && decide (getF m TAP_ST_CFG_TO_NEXT i ≤ 8)))).map (fun i => 384 + 16 * i),
   ((List.range 4).find? (fun k => cont && onF m TAP_MASK_CFG_EN k)).map (fun k => 512 + 16 * k),
   need (decide (getF m TAP_CFG_NSEG_LOG2 ≤ 8) && !(cont && getF m TAP_CFG_NSEG_LOG2 != 0)) 576,
   need (decide (getF m TAP_SAMPLE_CLK ≤ 5) && getF m TAP_SAMPLE_INTERVAL != 0) 580,
   need (getF m TAP_POST_N != 0 || cont) 588,
   need (getF m TAP_BUS_CFG_PULSE != 0) 604,
   need (decide (1 ≤ getF m TAP_DRAIN_CFG_BLK ∧ getF m TAP_DRAIN_CFG_BLK ≤ 64) && (!onF m TAP_DRAIN_CFG_EN ||
        (let k := getF m TAP_DRAIN_CFG_RING
         ringOn m 3 k && isOut m k && getF m HIF_STR_CFG_SRC k == 1 && getF m HIF_STR_CFG_ESIZE k == recLog2 m))) 612].findSome? id

/-- What the set-up claims (R577 step 6). -/
def tapClaims (m : Mach) : List (Nat × Nat) :=
  (8, 0) :: (bitsOf 2 (getF m TAP_BUS_CFG_OWN)).map (fun l => (2, l))
    ++ (if onF m TAP_OUT_CFG_EN then [(3, getF m TAP_OUT_CFG_OUT)] else [])

/-- The status of the first check of R577 that the set-up in the registers fails, with its DETAIL (R583). -/
def tapCheck (m : Mach) : Option (Nat × Nat) :=
  match setupBad m with
  | some o => some (E_TAP_BAD_SETUP, o)
  | none =>
    if onF m TAP_CFG_CONT && !(feature m 8 && onF m TAP_DRAIN_CFG_EN) then some (E_HIF_FEATURE_OFF, 0)
    else match (tapProbes m).find? (fun p => !probeOk m p) with
      | some p => some (E_TAP_PROBE, p)
      | none =>
        if overBandwidth m then some (E_TAP_BANDWIDTH, needMbit m)
        else if !onF m TAP_CFG_CONT && decide (segSlots m < getF m TAP_PRE_N + getF m TAP_POST_N) then
          some (E_TAP_POST_EXCEEDS, unsg 32 ((segSlots m : Int) - getF m TAP_PRE_N))
        else none

/-! ## Arming (R575) -/

/-- Opens a segment: the sequencer starts in state 0. -/
def openSegment (m : Mach) (tick : Nat) : Mach :=
  let pre := if onF m TAP_CFG_CONT then 0 else getF m TAP_PRE_N
  let t := m.tap
  let cont := onF m TAP_CFG_CONT
  let t := { t with recs := if cont then t.recs else [], wr := if cont then t.wr else 0, nrec := if cont then t.nrec else 0 }
  let t := { t with cnt := 0, entry := tick, trig := none, evs := [], missed := 0, dropTick := if cont then t.dropTick else t.lastTick }
  let m := { m with tap := t }
  setF (setF m TAP_STAT_SEQ_STATE 0 0) TAP_STAT_STATE 0 (if pre = 0 then tArmed else tPrefill)

/-- Arms the unit with the set-up in its registers. -/
def armTap (m : Mach) (func : Nat) (inj : Bool) : Mach :=
  let m := claim m func (if inj then [(8, 0)] else tapClaims m)
  let m := if !inj && onF m TAP_OUT_CFG_EN then (let o := getF m TAP_OUT_CFG_OUT; setOwner m o 2 (onF m TIME_OUT_CFG_POL o) m.cyc.now) else m
  let m := setF (setF (setF m TAP_REC_RLOG2 0 (recLog2 m)) TAP_REC_NPROBE 0 (tapProbes m).length) TAP_REC_W 0 (recWidth m)
  let m := setF (setF m TAP_SEGSIZE_S 0 (segSlots m)) TAP_STAT_SEG 0 0
  let m := { m with tap := { armTick := m.cyc.now, inj := inj } }
  openSegment m m.cyc.now

/-- Switches a domain on and, for TAP, leaves it on until reset (23 R631). -/
def domainOn (m : Mach) (d : Nat) : Mach := setF m SYS_PWR_STAT_ON 0 (getF m SYS_PWR_STAT_ON ||| 2 ^ d)

/-- The register offsets that the data of TAP_ARM fills, with their byte offsets (R577). -/
def tapDataMap : List (Nat × Nat) :=
  (List.range 64).map (fun p => (4 * p, 0x100 + 4 * p))
    ++ (List.range 8).flatMap (fun j => (List.range 3).map (fun i => (256 + 16 * j + 4 * i, 0x200 + 0x10 * j + 4 * i)))
    ++ (List.range 8).flatMap (fun j => (List.range 3).map (fun i => (384 + 16 * j + 4 * i, 0x300 + 0x10 * j + 4 * i)))
    ++ (List.range 4).flatMap (fun j => (List.range 4).map (fun i => (512 + 16 * j + 4 * i, 0x400 + 0x10 * j + 4 * i)))
    ++ [(576, 0x04), (580, 0x14), (584, 0x18), (588, 0x1C), (592, 0x24), (596, 0x28), (600, 0x2C), (604, 0x30), (608, 0x34), (612, 0x38)]

/-- The byte offset of the first word of the data with a bit set that no field holds. -/
def tapReserved (l : List Nat) : Option Nat :=
  (List.range 160).findSome? (fun i =>
    let o := 4 * i
    let mask := match tapDataMap.find? (fun x => x.1 == o) with
      | some x => (fieldsAt 12 x.2).foldl (fun v f => v + (2 ^ f.1.w - 1) * 2 ^ f.1.lsb) 0
      | none => 0
    if andNot (field l o 4) mask = 0 then none else some o)

/-- Puts the data of TAP_ARM into the registers. -/
def tapLoad (m : Mach) (l : List Nat) : Mach := tapDataMap.foldl (fun m x => putReg m 12 x.2 (field l x.1 4)) m

/-- Arms from the data of TAP_ARM on this node: a status, a busy DETAIL, or the armed state (R577). -/
def tapArmHere (m : Mach) (l : List Nat) : (Nat × Nat) ⊕ Mach :=
  if l.length ≠ 640 then .inl (E_TAP_BAD_SETUP, min l.length 640)
  else match tapReserved l with
  | some o => .inl (E_TAP_BAD_SETUP, o)
  | none =>
    let m' := settleOuts (domainOn (tapLoad m l) dTAP)
    match tapCheck m' with
    | some e => .inl e
    | none => match firstBusy m' (tapClaims m') with
      | some d => .inl (E_RESOURCE_BUSY, d)
      | none => .inr (armTap m' 8 false)

/-- TAP_ARM (R577). -/
def tapArm (j : Job) (m : Mach) : JobRes :=
  let node := j.desc.par 0
  let l := padTo j.desc.dataLen j.data
  if 0x3F < node then jobFail m E_HIF_BAD_PARAM 0
  else if node = 0x3F ∨ node = nodeId m then
    match tapArmHere m l with
    | .inl (e, d) => jobRefused m e d
    | .inr m => { m := m }
  else if !(isManager m && m.mould.nodes.any (fun n => n.node == node)) then jobFail m E_HIF_BAD_PARAM 0
  else netRequest m 5 j [node] 0 l

/-- TAP_ARM. -/
def execTapArm (j : Job) (s : State) : Out := done (runJob 0x0C01 tapArm j) s

/-- A write of TAP_CTRL.ARM arms with the set-up in the registers (R577, R584). The codes of the first five checks stand in
completion entries only (R583); a unit that has an owner gives E_RESOURCE_BUSY (04 R145). -/
def tapCtrlArm (m : Mach) : Mach :=
  match tapCheck m with
    | some _ => m
    | none => let m := settleOuts m
      match firstBusy m (tapClaims m) with
      | some d => logNode m E_RESOURCE_BUSY d
      | none => armTap m 8 false

/-- TAP_CTRL_ARM. -/
def execTapCtrlArm (s : State) : Out := done (domWrite 12 0 tapCtrlArm) s

/-! ## Headers, masks, drain items (R569, R574, R578) -/

/-- Records present from the trigger sample on. -/
def postRecs (m : Mach) (t : TapTrig) : List TapRec := m.tap.recs.filter (fun r => decide (t.seq ≤ r.seq))
/-- Records present before the trigger sample. -/
def preRecs (m : Mach) (t : TapTrig) : List TapRec := m.tap.recs.filter (fun r => decide (r.seq < t.seq))

/-- The records of a segment: those of VALID_PRE, and those from the trigger sample on, at most POST (R567, R569). -/
def segRecs (m : Mach) (t : TapTrig) : List TapRec :=
  (preRecs m t).drop ((preRecs m t).length - t.validPre) ++ (postRecs m t).take (getF m TAP_POST_N)

/-- The mask violations of a segment: mask and record offset, in record order. -/
def maskHits (m : Mach) (t : TapTrig) : List (Nat × Int) :=
  (segRecs m t).flatMap (fun r =>
    let o : Int := (r.seq : Int) - t.seq
    ((List.range 4).filter (fun k =>
      let sg := onF m TAP_MASK_CFG_SIGNED k
      let x := probeX m r.vals (getF m TAP_MASK_CFG_PROBE k) sg
      onF m TAP_MASK_CFG_EN k && decide (getS m TAP_MASK_WIN_START k ≤ o ∧ o < getS m TAP_MASK_WIN_END k)
        && decide (x < boundX (getF m TAP_MASK_LO_V k) sg ∨ boundX (getF m TAP_MASK_HI_V k) sg < x))).map (fun k => (k, o)))

/-- The trigger header (R569). -/
def tapHeader (m : Mach) (t : TapTrig) (npost : Nat) (hits : List (Nat × Int)) (stopped : Bool) : List Nat :=
  let partialPre := decide (t.validPre < getF m TAP_PRE_N) && !onF m TAP_CFG_CONT
  let viol := maskOf (hits.map (·.1))
  let fl := b2n partialPre + 2 * b2n stopped + 4 * b2n (viol != 0) + 8 * b2n t.event + 16 * b2n t.early + 32 * b2n t.forced
  let first := ((segRecs m t).map (·.slot)).headD 0
  let iv := if getF m TAP_SAMPLE_CLK = 0 then getF m TAP_SAMPLE_INTERVAL else 0
  [1, fl, getF m TAP_STAT_SEG, t.src] ++ leBytes 4 t.validPre ++ leBytes 4 npost ++ leBytes 4 iv ++ leBytes 8 t.tick
    ++ leBytes 8 t.seq ++ leBytes 4 m.tap.missedHdr ++ leBytes 4 m.tap.earlyHdr ++ [viol, 0, 0, 0]
    ++ leBytes 4 (unsg 32 ((hits.map (·.2)).headD 0)) ++ leBytes 4 first ++ List.replicate 12 0

/-- Writes the header of the segment and hands the segment to the drain (R569, R579). -/
def writeSegment (m : Mach) (t : TapTrig) (stopped : Bool) : Mach :=
  let post := (postRecs m t).take (getF m TAP_POST_N)
  let hits := maskHits m t
  let stop := stopped || (hits != [] && onF m TAP_CFG_MASK_STOP)
  let h := tapHeader m t post.length hits stop
  let m := if hits = [] then m else flag (incF m TAP_MASK_CNT_CNT 0 hits.length) TAP_FLAGS_MASK_VIOL
  let its := { seq := t.seq, mark := h } :: (segRecs m t).map (fun r => ({ seq := r.seq, addr := slotAddr m r.slot } : TapItem))
  let m := wrBytes m (0x20000000 + getF m TAP_STAT_SEG * segBytes m) h 10
  { m with tap := { m.tap with items := if onF m TAP_DRAIN_CFG_EN then m.tap.items ++ its else m.tap.items,
                               missedHdr := 0, earlyHdr := 0, segs := m.tap.segs + 1 } }

/-- The segment in POST is complete (R574, R575). -/
def finishSegment (m : Mach) : Mach :=
  match m.tap.trig with
  | none => m
  | some t =>
    let hits := maskHits m t
    let m := writeSegment m t false
    if hits ≠ [] ∧ onF m TAP_CFG_MASK_STOP then
      irq (logNode (setF m TAP_STAT_STATE 0 tStopped) E_TAP_MASK_STOP (maskOf (hits.map (·.1)) + 256 * getF m TAP_STAT_SEG)) 233
    else if getF m TAP_STAT_SEG + 1 < 2 ^ getF m TAP_CFG_NSEG_LOG2 then setF m TAP_STAT_STATE 0 tRearm
    else irq (notice (setF m TAP_STAT_STATE 0 tDone) E_TAP_DONE m.tap.segs) 233

/-! ## The sequencer (R571 to R573) -/

/-- Whether comparator `j` holds for a sample, given the sample before it (R572). -/
def cmpHolds (m : Mach) (j : Nat) (vals prev : List Nat) : Bool :=
  let sg := onF m TAP_CMP_CFG_SIGNED j
  let p := getF m TAP_CMP_CFG_PROBE j
  let x := probeX m vals p sg
  let a := boundX (getF m TAP_CMP_VAL_A_V j) sg
  let b := boundX (getF m TAP_CMP_VAL_B_V j) sg
  match getF m TAP_CMP_CFG_OP j with
  | 0 => decide (x = a)
  | 1 => decide (x ≠ a)
  | 2 => decide (a ≤ x)
  | 3 => decide (x < a)
  | 4 => decide (a ≤ x ∧ x ≤ b)
  | 5 => decide (x < a ∨ b < x)
  | 6 => prev != [] && decide (probeX m prev p sg < a ∧ a ≤ x)
  | _ => prev != [] && decide (a ≤ probeX m prev p sg ∧ x < a)

/-- Whether a term is true in a sample with the events that fall on it (R571). -/
def termTrue (m : Mach) (t : Nat) (vals prev : List Nat) (evs : List (Nat × Nat)) : Bool :=
  if t = 0 then false else if t = 1 then true
  else if t < 10 then cmpHolds m (t - 2) vals prev
  else evs.any (fun e => e.1 == t)

/-- The condition of sequencer state `i` (R571). -/
def stateCond (m : Mach) (i : Nat) (vals prev : List Nat) (evs : List (Nat × Nat)) : Bool :=
  let a := termTrue m (getF m TAP_ST_CFG_TERM_A i) vals prev evs
  let b := termTrue m (getF m TAP_ST_CFG_TERM_B i) vals prev evs
  match getF m TAP_ST_CFG_LOGIC i with | 0 => a | 1 => a && b | 2 => a || b | _ => a && !b

/-- The event term of the state that is true, if one is (R573). -/
def eventOf (m : Mach) (i : Nat) (evs : List (Nat × Nat)) : Option (Nat × Nat) :=
  evs.find? (fun e => decide (10 ≤ e.1) && (e.1 == getF m TAP_ST_CFG_TERM_A i || e.1 == getF m TAP_ST_CFG_TERM_B i))

/-- An instant within 4 ticks, which the spec leaves open (R581, R582). -/
def within4 (m : Mach) : Nat × Mach :=
  let r := fresh m 3
  (m.cyc.now + r.1 % 5, r.2)

/-- The signals that a trigger sends (R581, R582): the driven bus lines go low, shown as pulses of outputs 8 and 9, and the
timed output emits its pulse. -/
def trigSignals (m : Mach) : Mach :=
  let lines := bitsOf 2 (getF m TAP_BUS_CFG_OWN &&& getF m TAP_BUS_CFG_DRIVE)
  let m := lines.foldl (fun m l =>
    let r := within4 m
    { r.2 with out := { r.2.out with pulses := r.2.out.pulses ++ [(8 + l, r.1, r.1 + getF m TAP_BUS_CFG_PULSE)] } }) m
  if onF m TAP_OUT_CFG_EN && !m.tap.inj then
    let r := within4 m
    emitPulse r.2 (getF m TAP_OUT_CFG_OUT) r.1 (getF m TAP_OUT_CFG_WIDTH)
  else m

/-- A trigger taken at a sample (R570, R573, R580). -/
def tapTrigger (m : Mach) (t : TapTrig) : Mach :=
  let pre := getF m TAP_PRE_N
  if getF m TAP_CFG_PREFILL_HOLD = 1 ∧ !onF m TAP_CFG_CONT ∧ (preRecs m t).length < pre then
    let m := flag (incF m TAP_EARLY_CNT_CNT 0 1) TAP_FLAGS_EARLY
    setF { m with tap := { m.tap with cnt := 0, entry := m.tap.lastTick.getD t.tick, earlyHdr := m.tap.earlyHdr + 1 } } TAP_STAT_SEQ_STATE 0 0
  else
    let t := { t with validPre := min pre (preRecs m t).length }
    let m := flag (incF m TAP_TRIG_CNT_CNT 0 1) TAP_FLAGS_TRIGGERED
    let m := irq (notice (setF m TAP_STAT_SEQ_STATE 0 8) E_TAP_TRIGGERED (getF m TAP_STAT_SEG + 256 * t.src)) 232
    let m := trigSignals { m with tap := { m.tap with trig := some t } }
    if onF m TAP_CFG_CONT then
      let h := tapHeader m { t with validPre := 0 } (postRecs m t).length [] false
      setF { m with tap := { m.tap with items := m.tap.items ++ [{ seq := t.seq, mark := h }], missedHdr := 0, earlyHdr := 0 } }
        TAP_STAT_STATE 0 tRearm
    else setF m TAP_STAT_STATE 0 tPost

/-- The sample on which an event falls: the first present one at or after its time, else the oldest with EVENT_EARLY
(R571). -/
def eventSample (m : Mach) (time : Nat) (dflt : TapRec) : TapRec × Bool :=
  let l := m.tap.recs
  match l.head? with
  | none => (dflt, true)
  | some o => if m.tap.dropTick.any (fun d => decide (time ≤ d)) then (o, true)
              else match l.find? (fun r => decide (time ≤ r.tick)) with | some r => (r, false) | none => (dflt, false)

/-- One step of the sequencer at a sample with the events that fall on it (R573). -/
def seqStep (m : Mach) (r : TapRec) (prev : List Nat) (evs : List (Nat × Nat)) : Mach :=
  let i := getF m TAP_STAT_SEQ_STATE
  let hit := stateCond m i r.vals prev evs
  let cnt := if hit then m.tap.cnt + 1 else m.tap.cnt
  let matched := hit && decide (max 1 (getF m TAP_ST_COUNT_COUNT i) ≤ cnt)
  let tmr := getF m TAP_ST_TIMER_TIMER i
  let timed := tmr != 0 && decide (m.tap.entry + tmr ≤ r.tick)
  if !matched && !timed then { m with tap := { m.tap with cnt := cnt } }
  else
    let nx := if matched then getF m TAP_ST_CFG_NEXT i else getF m TAP_ST_CFG_TO_NEXT i
    if nx < 8 then setF { m with tap := { m.tap with cnt := 0, entry := r.tick } } TAP_STAT_SEQ_STATE 0 nx
    else match (if matched then eventOf m i evs else none) with
      | none => tapTrigger m { seq := r.seq, tick := r.tick, src := i }
      | some e =>
        let s := eventSample m e.2 r
        tapTrigger m { seq := s.1.seq, tick := s.1.tick, src := i, event := true, early := s.2, forced := e.1 == 12 }

/-- Whether any state uses a term. -/
def termUsed (m : Mach) (t : Nat) : Bool :=
  (List.range 8).any (fun i => getF m TAP_ST_CFG_TERM_A i == t || getF m TAP_ST_CFG_TERM_B i == t)

/-- Whether the sequencer is looking for a trigger. -/
def searching (m : Mach) : Bool :=
  (getF m TAP_STAT_STATE == tPrefill || getF m TAP_STAT_STATE == tArmed) && !m.tap.stopping

/-- A segment whose POST records are present is complete; in continuous mode the capture then ends (R575, R580). -/
def checkPost (m : Mach) : Mach :=
  match m.tap.trig with
  | none => m
  | some t =>
    let full := decide (getF m TAP_POST_N ≤ (postRecs m t).length) && getF m TAP_POST_N != 0
    if !full || m.tap.stopping then m
    else if onF m TAP_CFG_CONT then
      (if getF m TAP_STAT_STATE = tDone then m else irq (notice (setF m TAP_STAT_STATE 0 tDone) E_TAP_DONE m.tap.segs) 233)
    else if getF m TAP_STAT_STATE = tPost then finishSegment m else m

/-- Whether the present state of the sequencer looks at a term. -/
def termHere (m : Mach) (t : Nat) : Bool :=
  let i := getF m TAP_STAT_SEQ_STATE
  getF m TAP_ST_CFG_TERM_A i == t || getF m TAP_ST_CFG_TERM_B i == t

/-- An event of a term becomes known (R571, R575): counted as missed during a re-arm, counted at once where its sample lies in
the past and the present state looks at it, else kept until its sample. -/
def tapEvent (m : Mach) (t time : Nat) : Mach :=
  if getF m TAP_STAT_STATE = tRearm then
    if termUsed m t then
      let m := flag (incF m TAP_MISSED_CNT 0 1) TAP_FLAGS_MISSED
      { m with tap := { m.tap with missed := m.tap.missed + 1, missedHdr := m.tap.missedHdr + 1 } }
    else m
  else if !searching m || !termUsed m t then m
  else match m.tap.recs.getLast? with
    | some r => if time ≤ r.tick then (if termHere m t then checkPost (seqStep m r m.tap.prev [(t, time)]) else m)
                else { m with tap := { m.tap with evs := m.tap.evs ++ [(t, time)] } }
    | none => { m with tap := { m.tap with evs := m.tap.evs ++ [(t, time)] } }

/-- A gear event record is an event of term 14 where GROUP and ORDER select it (R569). -/
def tapGear (m : Mach) (group order t : Nat) : Mach :=
  let o := getF m TAP_EVT_CFG_ORDER
  if getF m TAP_EVT_CFG_GROUP = group ∧ (o = 0xFF ∨ o = order) then tapEvent m 14 t else m

/-- A write of TAP_CTRL.FORCE (R571). -/
def tapForce (m : Mach) : Mach := tapEvent m 12 m.cyc.now

/-- TAP_FORCE. -/
def execTapForce (s : State) : Out := done (domWrite 12 0 tapForce) s

/-! ## A sample (R566 to R568, R580) -/

/-- Stores a record in the next slot; in continuous mode an undrained record in its way is lost. -/
def storeRec (m : Mach) (r : TapRec) : Mach :=
  let size := segSlots m
  let a := slotAddr m r.slot
  let lost := onF m TAP_CFG_CONT && m.tap.items.any (fun i => i.mark == [] && i.addr == a)
  let m := if lost then irq (flag (incF m TAP_LOST_CNT_CNT 0 1) TAP_FLAGS_OVERRUN) 234 else m
  let m := wrBytes m a (packRec m r.vals) 10
  let t := m.tap
  let items := if lost then t.items.filter (fun i => !(i.mark == [] && i.addr == a)) else t.items
  { m with tap := { t with
      recs := lastN size (t.recs ++ [r]), dropTick := if size ≤ t.recs.length then t.recs.head?.map (·.tick) else t.dropTick, wr := (t.wr + 1) % max 1 size, nrec := t.nrec + 1, lastTick := some r.tick,
      gap := if lost then t.gap + 1 else t.gap,
      items := if onF m TAP_CFG_CONT then items ++ [{ seq := r.seq, addr := a }] else items } }

/-- Whether records are taken in the present state. -/
def sampling (m : Mach) : Bool :=
  let st := getF m TAP_STAT_STATE
  !m.tap.stopping && (decide (1 ≤ st ∧ st ≤ 3) || (st == tRearm && onF m TAP_CFG_CONT))

/-- The cell time of term 13. -/
def tapTime (m : Mach) : Nat := get64 m TAP_TTIME_LO_T TAP_TTIME_HI_T

/-- A sample at a tick with the values of the enabled probes. -/
def takeSample (m : Mach) (tick : Nat) (vals : List Nat) : Mach :=
  if !sampling m then m
  else if m.tap.lastTick.any (fun l => decide (100 * (tick - l) < 16 * recSize m)) then
    let m := flag (incF m TAP_LOST_CNT_CNT 0 1) TAP_FLAGS_LOST
    { m with tap := { m.tap with seq := m.tap.seq + 1 } }
  else
    let tt := tapTime m
    let m := if max (m.tap.lastTick.getD m.tap.armTick) m.tap.entry < tt ∧ tt ≤ tick then tapEvent m 13 tt else m
    let prev := m.tap.prev
    let r : TapRec := { seq := m.tap.seq, tick := tick, slot := m.tap.wr, vals := vals }
    let evs := m.tap.evs.filter (fun e => decide (e.2 ≤ tick))
    let m := storeRec { m with tap := { m.tap with seq := m.tap.seq + 1, evs := m.tap.evs.filter (fun e => decide (tick < e.2)) } } r
    let look := searching m
    let m := if getF m TAP_STAT_STATE = tPrefill ∧ getF m TAP_PRE_N ≤ m.tap.nrec then setF m TAP_STAT_STATE 0 tArmed else m
    let m := if look then seqStep m r prev evs else m
    checkPost { m with tap := { m.tap with prev := vals } }

/-- TAP_REARM_END (R575, R580): 160 ns after the header or marker the unit looks for a trigger again. A time of term 13 that has come since the
last sample came during the re-arm. -/
def tapRearmEnd (m : Mach) : Mach :=
  if getF m TAP_STAT_STATE ≠ tRearm ∨ m.tap.stopping then m
  else
    let m := if m.tap.lastTick.getD m.tap.armTick < tapTime m ∧ tapTime m ≤ m.cyc.now then tapEvent m 13 (tapTime m) else m
    let m := if m.tap.missed = 0 then m else irq (logNode m E_TAP_MISSED m.tap.missed) 234
    if onF m TAP_CFG_CONT then
      let trig := m.tap.trig
      let m := openSegment m m.cyc.now
      { m with tap := { m.tap with trig := trig } }
    else openSegment (setF m TAP_STAT_SEG 0 (getF m TAP_STAT_SEG + 1)) m.cyc.now

/-- TAP_REARM_END. -/
def execTapRearmEnd (s : State) : Out := done tapRearmEnd s

/-! ## Stop and drain (R576 to R580) -/

/-- Gives the Tap's resources back and ends the jobs that stopped it. -/
def tapIdle (m : Mach) : Mach :=
  let outs := (List.range 8).filter (fun o => ownerOf m 3 o == some 8)
  let m := outs.foldl (fun m o => releaseOut m o m.cyc.now) m
  let m := releaseAll (release (release m 8 8 0) 12 8 0) 8 2
  let jobs := m.tap.jobs
  let m := setF (setF { m with tap := { m.tap with stopping := false, trig := none, jobs := [], items := [], inj := false } }
    TAP_STAT_STATE 0 tIdle) TAP_STAT_SEQ_STATE 0 0
  jobs.foldl addCompl m

/-- Ends capture (R576). -/
def stopCapture (m : Mach) : Mach :=
  let m := match m.tap.trig with
    | some t => if getF m TAP_STAT_STATE = tPost then writeSegment m t true else m
    | none => m
  let m := { m with tap := { m.tap with stopping := true } }
  if m.tap.items = [] ∨ !onF m TAP_DRAIN_CFG_EN ∨ !feature m 8 then tapIdle m else m

/-- The end of the injector whose capture a stop ends (09 R296). -/
def endInjection (m : Mach) (s : Nat) (aborted : Bool) : Mach :=
  if !onF m AXL_TUNE_STAT_RUN s then m
  else
    let m := setB (setF m AXL_TUNE_STAT_RUN s 0) AXL_TUNE_STAT_ABORTED s aborted
    let m := setF (release m 12 7 s) AXL_SUMMARY_INJECT 0 (andNot (getF m AXL_SUMMARY_INJECT) (2 ^ s))
    let d := getF m AXL_TUNE_STAT_SAMPLE s + (if aborted then 2 ^ 31 else 0)
    match slotAxis m s with
    | some a => report m E_AXL_TUNE_DONE 7 3 a.axis d
    | none => notice m E_AXL_TUNE_DONE d

/-- TAP_STOP's effect on the unit, whoever owns it; a step of cell time has it too (R575). -/
def tapHalt (m : Mach) : Mach :=
  if getF m TAP_STAT_STATE = tIdle ∨ m.tap.stopping then m
  else
    let m := if m.tap.inj then endInjection m (getF m TAP_SAMPLE_SLOT) true else m
    stopCapture m

/-- TAP_STOP (R576). -/
def tapStop (j : Job) (m : Mach) : JobRes :=
  let node := j.desc.par 0
  if getF m TAP_STAT_STATE = tIdle ∨ node ≠ 0 then (if node ≠ 0 then jobFail m E_HIF_BAD_PARAM 0 else { m := m })
  else
    let m := tapHalt { m with tap := { m.tap with jobs := m.tap.jobs ++ [jcompl j 0 0 none] } }
    { m := m, later := true }

/-- TAP_STOP. -/
def execTapStop (j : Job) (s : State) : Out := done (runJob 0x0C02 tapStop j) s

/-- TAP_CTRL_STOP (R584). -/
def execTapCtrlStop (s : State) : Out := done (domWrite 12 0 tapHalt) s

/-- The elements of a 64 B marker (R578). -/
def markElems (m : Mach) (l : List Nat) : List (List Nat) :=
  let rb := recSize m
  let n := max 1 (64 / rb)
  (List.range n).map (fun i => padTo rb ((l.drop (rb * i)).take rb))

/-- A gap marker (R578). -/
def gapMark (lost seq : Nat) : List Nat :=
  [2, 0, 0, 0, 0, 0, 0, 0] ++ leBytes 8 lost ++ List.replicate 8 0 ++ leBytes 8 seq ++ List.replicate 32 0

/-- A block marker (R578). -/
def blockMark (n seq : Nat) : List Nat :=
  [3, 0, 0, 0, 0, 0, 0, 0] ++ leBytes 4 n ++ List.replicate 12 0 ++ leBytes 8 seq ++ List.replicate 32 0

/-- The records read for a block, each with its bytes, or none where it reads poisoned (R578, 22 R609). -/
def readRecs (m : Mach) : List TapItem → Mach × List (Nat × Option (List Nat))
  | [] => (m, [])
  | i :: r =>
    let e := eccRead m i.addr (recSize m) 10
    let rest := readRecs e.1 r
    (rest.1, (i.seq, if e.2 then none else some (rdBytes e.1 i.addr (recSize m))) :: rest.2)

/-- The runs of records between poisoned ones, as elements: block markers with their records, gap markers of LOST 1. -/
def blockElems (m : Mach) (l : List (Nat × Option (List Nat))) : List (List Nat) :=
  let flush (acc : List (List Nat)) (run : List (Nat × List Nat)) : List (List Nat) :=
    match run with
    | [] => acc
    | x :: _ => acc ++ markElems m (blockMark run.length x.1) ++ run.map (·.2)
  let r := l.foldl (fun (a : List (List Nat) × List (Nat × List Nat)) x =>
    match x.2 with
    | some b => (a.1, a.2 ++ [(x.1, b)])
    | none => (flush a.1 a.2 ++ markElems m (gapMark 1 x.1), [])) ([], [])
  flush r.1 r.2

/-- The next block of the drain: a gap marker where records were lost, else a marker, else up to BLK records. -/
def nextBlock (m : Mach) (waited : Bool) : Option (Nat × Bool) :=
  match m.tap.items with
  | [] => none
  | i :: _ =>
    if m.tap.gap ≠ 0 then some (0, true)
    else if i.mark ≠ [] then some (1, false)
    else
      let run := (m.tap.items.takeWhile (fun x => x.mark == [])).length
      let blk := getF m TAP_DRAIN_CFG_BLK
      if blk ≤ run then some (blk, false)
      else if waited || m.tap.stopping || !onF m TAP_CFG_CONT || decide (run < m.tap.items.length) then some (run, false)
      else none

/-- DRAIN_BLOCK_WRITE (R578 to R580): the next block goes into the out-stream if it fits whole; `waited` says that the oldest
record has waited TMO. -/
def drainBlockWrite (waited : Bool) (m : Mach) : Mach :=
  let k := getF m TAP_DRAIN_CFG_RING
  if !onF m TAP_DRAIN_CFG_EN || !feature m 8 || !ringUp m 3 k then m
  else match nextBlock m waited with
    | none => m
    | some (_, true) =>
      let s := ((m.tap.items.map (·.seq)).headD 0)
      let els := markElems m (gapMark m.tap.gap s)
      if ringFree m 3 k < els.length then m
      else
        let m := outBlock k els 0 (logNode m E_TAP_OVERRUN (min (2 ^ 32 - 1) m.tap.gap))
        { m with tap := { m.tap with gap := 0 } }
    | some (n, false) =>
      let its := m.tap.items.take n
      let r : Mach × List (List Nat) := match its.head? with
        | some i => if i.mark ≠ [] then (m, markElems m i.mark)
                    else let x := readRecs m its; (x.1, blockElems x.1 x.2)
        | none => (m, [])
      if ringFree r.1 3 k < r.2.length then m
      else
        let m := outBlock k r.2 0 r.1
        let m := { m with tap := { m.tap with items := m.tap.items.drop n } }
        if m.tap.stopping ∧ m.tap.items = [] then tapIdle m else m

/-- DRAIN_BLOCK_WRITE. -/
def execDrainBlockWrite (waited : Bool) (s : State) : Out := done (drainBlockWrite waited) s

end Sys2Proof.Machine
end

