-- ==== Sys2Proof/Machine/Pwr.lean ====
section
/-! DEFINITION. The power stage (10): carriers, duties, pulses, dead time, trips, event triggers, current samples and the
hysteresis chopper; with the disabling of an axis engine at once (09 R287), which its faults call for. -/

namespace Sys2Proof.Machine

/-- State of slot `s`. -/
def pwrSt (m : Mach) (s : Nat) : PwrSt := sget m.pwr s {}
/-- Replaces the state of a slot. -/
def setPwr (m : Mach) (s : Nat) (p : PwrSt) : Mach := { m with pwr := sput m.pwr s p {} }
/-- State of pair `x`. -/
def pairSt (m : Mach) (s x : Nat) : PairSt := sget (pwrSt m s).pairs x {}
/-- Replaces the state of a pair. -/
def setPair (m : Mach) (s x : Nat) (p : PairSt) : Mach :=
  setPwr m s { pwrSt m s with pairs := sput (pwrSt m s).pairs x p {} }

/-- DUTY of pair `x`. -/
def dutyF (x : Nat) : Fld := match x with | 0 => PWR_DUTY_A_DUTY | 1 => PWR_DUTY_B_DUTY | _ => PWR_DUTY_C_DUTY
/-- DT_R of pair `x`. -/
def dtRF (x : Nat) : Fld := match x with | 0 => PWR_DT_A_DT_R | 1 => PWR_DT_B_DT_R | _ => PWR_DT_C_DT_R
/-- DT_F of pair `x`. -/
def dtFF (x : Nat) : Fld := match x with | 0 => PWR_DT_A_DT_F | 1 => PWR_DT_B_DT_F | _ => PWR_DT_C_DT_F
/-- CHOP_OFF of pair `x`. -/
def chopF (x : Nat) : Fld := match x with | 0 => PWR_CHOP_OFF_A_O | 1 => PWR_CHOP_OFF_B_O | _ => PWR_CHOP_OFF_C_O
/-- SD_OFF of channel `x`. -/
def sdOffF (x : Nat) : Fld := match x with | 0 => PWR_SD_OFF_A_OFF | 1 => PWR_SD_OFF_B_OFF | _ => PWR_SD_OFF_C_OFF
/-- CUR of channel `x`. -/
def curF (x : Nat) : Fld := match x with | 0 => PWR_CUR_A_I | 1 => PWR_CUR_B_I | _ => PWR_CUR_C_I

/-- The period of the carrier in 1/16 ticks, 0 where it stands: PER in force, or in the period after a PER of 0 has transferred the one
before (R303, entry 118). -/
def carrier (m : Mach) (s : Nat) : Nat := if getV m PWR_PER_PER s = 0 then (pwrSt m s).last.getD 0 else getV m PWR_PER_PER s

/-- Sets or clears bit `s` of a field of one bit per slot. -/
def setSlotBit (m : Mach) (f : Fld) (s : Nat) (b : Bool) : Mach := setF m f 0 (setBits (getF m f) s 1 (b2n b))

/-- Whether the gates of a slot are released. -/
def gatesOn (m : Mach) (s : Nat) : Bool := (getF m PWR_SUMMARY_GATES).testBit s

/-- Whether a slot's motor is DC. -/
def isDc (m : Mach) (s : Nat) : Bool := getF m AXL_MODE_MOTOR s == 1
/-- Whether a slot uses the hysteresis chopper. -/
def isChop (m : Mach) (s : Nat) : Bool := getF m AXL_MODE_CUR_LAW s == 1

/-- Reports a PWR code (R330). -/
def pwrReport (m : Mach) (s code cls detail : Nat) : Mach :=
  match slotAxis m s with
  | some a => report m code cls 3 a.axis detail a.axis
  | none => report m code cls 1 (nodeId m) (detail % 2 ^ 28 + s * 2 ^ 28)

/-- Reports an AXL code (09 R298). -/
def axlReport (m : Mach) (s code cls detail : Nat) : Mach :=
  match slotAxis m s with
  | some a => report m code cls 3 a.axis detail a.axis
  | none => report m code cls 1 (nodeId m) detail

/-! ## Gates and the end of an axis engine's work -/

/-- Holds the gates of a slot low at once: pulses end, residues are cleared (R310, R328). -/
def gatesLow (m : Mach) (s : Nat) : Mach :=
  let m := setSlotBit m PWR_SUMMARY_GATES s false
  let m := (List.range 3).foldl (fun m x =>
    setPair m s x { pairSt m s x with res := 0, pulse := none, high := false, inCyc := false, ext := none, lowAt := none, offAt := none,
                                        lowFrom := 0, endAt := none }) m
  setF (setPwr m s { pwrSt m s with arming := none }) PWR_STAT_CHOP s 0

/-- Releases the gates of a slot: cleared residue, offset and prescaler count, dead-time states at DT_FIX; pulses from the next
boundary (R310, R312, R320, R326, 09 R285). The overcurrent latch clears (R319), and a failed current channel counts as sound again
(R324; DESIGN CHOICE, entry 140: the spec does not say what ends a failure). -/
def gatesRelease (m : Mach) (s : Nat) : Mach :=
  let fx : Int := 16 * getF m PWR_DT_CFG_DT_FIX s
  let m := (List.range 3).foldl (fun m x =>
    let p := pairSt m s x
    setF (setPair m s x { p with res := 0, dtR := fx, dtF := fx, pulse := none, high := false, inCyc := false, ext := none, lateR := false, lateF := false })
      (chopF x) s 0) m
  let m := setSlotBit (setSlotBit m PWR_SUMMARY_OC s false) PWR_SUMMARY_GATES s true
  setPwr m s { pwrSt m s with arming := some m.cyc.now, presc := 0, sdFail := 0 }

/-- An injection ends as aborted, and its capture stops (09 R296). -/
def injAbort (m : Mach) (s : Nat) : Mach :=
  if !onF m AXL_TUNE_STAT_RUN s && (axlSt m s).injAt.isNone then m
  else
    let m := endInjection (release (setAxl m s { axlSt m s with injAt := none }) 12 7 s) s true
    if m.tap.inj && getF m TAP_SAMPLE_SLOT == s && getF m TAP_STAT_STATE != tIdle && !m.tap.stopping then stopCapture m else m

/-- The engine enters the disabled state: integrators cleared, no pass, an injection ends as aborted (09 R285 to R287, R296). An enable that
has been accepted takes effect at its t = 0 all the same (09 R284). -/
def axlOff (m : Mach) (s cause : Nat) : Mach :=
  let was := getF m AXL_STAT_STATE s
  let m := setSlotBit (setF m AXL_STAT_STATE s 0) AXL_SUMMARY_ENABLED s false
  let a := axlSt m s
  let m := setAxl (setF m AXL_VINT_VAL s 0) s { a with cd := 0, cq := 0, ending := none, stop := none, disAt := none, follow := 0, miss := 0 }
  if was = 0 then m else injAbort (axlReport m s E_AXL_DISABLED 7 cause) s

/-- CUT on a slot: the gates are low at once and the engine is disabled (09 R287). -/
def cutSlot (m : Mach) (s : Nat) : Mach := axlOff (gatesLow m s) s 2

/-! ## Registers with transfers (R302 to R306, R320) -/

/-- Whether a shadow awaits transfer. -/
def pendFlag (m : Mach) (s : Nat) : Mach :=
  let p := pwrSt m s
  let imm := onF m PWR_CFG_UPD_MODE s
  setB m PWR_STAT_PEND s (if imm then p.dutyPend != 0 else p.goPend)

/-- PER_WRITE (R302). -/
def perWrite (s x : Nat) (m : Mach) : Mach :=
  let per := x % 2 ^ 24
  let ok := per = 0 ∨ (16 * cycLen m % per = 0 ∧ 16 * (2 * getF m PWR_PROT_MIN_PULSE s + 2 * getF m PWR_DT_LIM_DT_CEIL s) ≤ per)
  if 16 ≤ s then m
  else if 12800000 < per ∨ ¬ok then badCfg m 8 (0x1004 + 0x100 * s)
  else
    let m := setF m PWR_PER_PER s per
    let own := if onF m PWR_CFG_UPD_MODE s then 8 else 0
    pendFlag (setPwr m s { pwrSt m s with perPend := true, dutyPend := (pwrSt m s).dutyPend ||| own }) s

/-- PER_WRITE. -/
def execPerWrite (s x : Nat) (st : State) : Out := done (domWrite 8 (0x1004 + 0x100 * s) (perWrite s x)) st

/-- A write of DUTY_x; in immediate mode it waits for the next boundary on its own (R306). -/
def dutyWrite (m : Mach) (s x v : Nat) : Mach :=
  let m := setF m (dutyF x) s v
  let own := if onF m PWR_CFG_UPD_MODE s then 2 ^ x else 0
  pendFlag (setPwr m s { pwrSt m s with dutyPend := (pwrSt m s).dutyPend ||| own }) s

/-- PWR_COMMIT: a write of 1 to COMMIT.GO (R305); immediate mode uses none (R306). -/
def pwrCommit (s : Nat) (m : Mach) : Mach :=
  if 16 ≤ s || onF m PWR_CFG_UPD_MODE s then m else pendFlag (setPwr m s { pwrSt m s with goPend := true }) s

/-- PWR_COMMIT. -/
def execPwrCommit (s : Nat) (st : State) : Out := done (domWrite 8 (0x1014 + 0x100 * s) (pwrCommit s)) st

/-- The duties of a pass and their commit, as one operation (09 R268). -/
def engineDuties (m : Mach) (s : Nat) (a b c : Nat) : Mach :=
  pwrCommit s (dutyWrite (dutyWrite (dutyWrite m s 0 a) s 1 b) s 2 c)

/-- EVT_CFG_WRITE (R320). -/
def evtCfgWrite (s x : Nat) (m : Mach) : Mach :=
  let src := x % 8
  if 16 ≤ s then m
  else if src = 7 then badCfg m 8 (0x1040 + 0x100 * s)
  else if src = 6 ∧ ownerOf m 6 s ≠ some 11 then
    logNode m E_RESOURCE_BUSY (busyDetail m 6 s ((ownerOf m 6 s).getD 10))
  else
    let m := setF (setF m PWR_EVT_CFG_SRC s src) PWR_EVT_CFG_PRESC s (bits x 4 4)
    setPwr m s { pwrSt m s with presc := 0 }

/-- EVT_CFG_WRITE. -/
def execEvtCfgWrite (s x : Nat) (st : State) : Out := done (domWrite 8 (0x1040 + 0x100 * s) (evtCfgWrite s x)) st

/-! ## Dead time (R312 to R315) -/

/-- Whether adaptation works on a slot. -/
def adapts (m : Mach) (s : Nat) : Bool := onF m PWR_DT_CFG_ADAPT s && feature m 12

/-- The applied dead time of a state. -/
def appliedDt (m : Mach) (s : Nat) (st : Int) : Nat :=
  (clampI (getF m PWR_DT_LIM_DT_FLOOR s) (getF m PWR_DT_LIM_DT_CEIL s) (shrI st 4)).toNat

/-- Latches the applied dead times of a pair at a boundary. -/
def latchDt (m : Mach) (s x : Nat) : Mach :=
  let p := pairSt m s x
  let fx : Int := 16 * getF m PWR_DT_CFG_DT_FIX s
  let r := if adapts m s then p.dtR else fx
  let f := if adapts m s then p.dtF else fx
  let m := setPair m s x { p with dtR := r, dtF := f, apR := appliedDt m s r, apF := appliedDt m s f }
  setF (setF m (dtRF x) s (appliedDt m s r)) (dtFF x) s (appliedDt m s f)

/-- The phase current that classifies the transitions of a pair (R313). -/
def pairCurrent (m : Mach) (s x : Nat) : Int := if isDc m s ∧ x = 1 then -(pairSt m s 0).fast else (pairSt m s x).fast

/-- SWITCH_NODE_CROSSING (R314): a transition of pair `x`; `cross` is the comparator's crossing in ticks after the outgoing
switch went off, if it crossed before the incoming gate turned on, the same tick included. -/
def switchNode (s x : Nat) (rising : Bool) (cross : Option Nat) (m : Mach) : Mach :=
  if 16 ≤ s ∨ 3 ≤ x then m
  else
    let p := pairSt m s x
    let i := pairCurrent m s x
    let imin : Int := 64 * getF m PWR_SN_CFG_IMIN s
    let natural := if rising then decide (i < -imin) else decide (imin < i)
    let ap := if rising then p.apR else p.apF
    let ceil := getF m PWR_DT_LIM_DT_CEIL s
    let wasLate := if rising then p.lateR else p.lateF
    let put (m : Mach) (p : PairSt) (late : Bool) : Mach :=
      setPair m s x (if rising then { p with lateR := late } else { p with lateF := late })
    if !natural then put m p false
    else
      let c := cross.filter (fun c => decide (c ≤ ap))
      let target : Int := match c with
        | some c => (c : Int) - getF m PWR_SN_CFG_SN_DLY s + getF m PWR_DT_CFG_MARGIN s
        | none => ceil
      let st := if rising then p.dtR else p.dtF
      let st' := if adapts m s then st + roundShift (16 * target - st) (getF m PWR_DT_CFG_GAIN s) else st
      let p := if rising then { p with dtR := st' } else { p with dtF := st' }
      let atCeil := c.isNone && ap == ceil
      let m := if c.isNone then incF m PWR_DT_LATE_CNT_CNT s 1 else m
      let m := if atCeil then flag m PWR_FLAGS_DT_CEIL_HIT s else m
      let m := if atCeil && !wasLate then pwrReport m s E_PWR_DT_CEIL 0 (x + 4 * b2n (!rising)) else m
      put m p atCeil

/-- SWITCH_NODE_CROSSING. -/
def execSwitchNodeCrossing (s x : Nat) (rising : Bool) (cross : Option Nat) (st : State) : Out :=
  done (switchNode s x rising cross) st

/-! ## Carrier boundaries (R301, R303, R305, R306) -/

/-- The tick of boundary `i` of the cycle in progress with carrier `per`. -/
def boundaryTick (m : Mach) (per i : Nat) : Nat := m.cyc.start + i * per / 16

/-- The index of the slot's next boundary, if one lies in the cycle in progress. -/
def nextIdx (m : Mach) (s : Nat) : Option Nat :=
  let p := pwrSt m s
  let per := carrier m s
  if p.cyc ≠ some m.cyc.n then some 0
  else if per = 0 ∨ cycLen m ≤ (p.idx + 1) * per / 16 then none else some (p.idx + 1)

/-- Puts the duties of the pairs in `mask` into force. -/
def takeDuties (m : Mach) (s mask : Nat) : Mach :=
  (bitsOf 3 mask).foldl (fun m x =>
    setPair (enforce m (dutyF x) s) s x { pairSt m s x with dutyAt := (pwrSt m s).count }) m

/-- Puts PER into force at old boundary `i`; the answer is the index on the new carrier. After a PER of 0 the carrier runs one more
period. -/
def takePer (m : Mach) (s i : Nat) : Mach × Nat :=
  let old := getV m PWR_PER_PER s
  let m := enforce m PWR_PER_PER s
  let new := getV m PWR_PER_PER s
  (setPwr m s { pwrSt m s with perPend := false, perAt := (pwrSt m s).count, last := if new = 0 ∧ old ≠ 0 then some old else none },
   if new = 0 then i else i * old / new)

/-- The transfers at boundary `i` of the carrier in force. -/
def transfers (m : Mach) (s i : Nat) : Mach × Nat :=
  let p := pwrSt m s
  let new := getF m PWR_PER_PER s
  let old := getV m PWR_PER_PER s
  let permitted := i == 0 || new == 0 || (old != 0 && i * old % new == 0)
  if onF m PWR_CFG_UPD_MODE s then
    let per := p.dutyPend.testBit 3
    let m := takeDuties m s (p.dutyPend % 8)
    let m := setPwr m s { pwrSt m s with dutyPend := if per && !permitted then 8 else 0, goPend := false }
    if per && permitted then takePer m s i else (m, i)
  else if !p.goPend || (p.perPend && !permitted) then (m, i)
  else
    let m := takeDuties m s 7
    let m := setPwr m s { pwrSt m s with goPend := false, dutyPend := 0 }
    takePer m s i

/-! ## Pulses (R304, R308 to R311) -/

/-- The on-time request of a pair in 1/16 ticks (R304). -/
def onRequest (m : Mach) (s x : Nat) : Int :=
  let d := getV m (dutyF x) s
  if onF m PWR_CFG_FMT s then (d % 2 ^ 24 : Nat) else roundShift ((min d (2 ^ 31) * carrier m s : Nat) : Int) 31

/-- The commanded pulse of `n` ticks in the period of `p` ticks from `b`. -/
def emitAt (m : Mach) (s b p n : Nat) : Nat × Nat :=
  let r := if onF m PWR_CFG_ALIGN s then b else b + (p - n) / 2
  (r, r + n)

/-- The pulse of pair `x` for the period of `p` ticks that begins at `b` (R308); `was` says that the period before had a partial
update (R309). -/
def formPulse (m : Mach) (s x b p : Nat) (was : Bool) : Mach :=
  let q := pairSt m s x
  let mn := getF m PWR_PROT_MIN_PULSE s
  let t := onRequest m s x
  let tmx := roundShift ((getF m PWR_MAX_DUTY_MAX s * carrier m s : Nat) : Int) 31
  let m := if tmx < t then flag m PWR_FLAGS_DUTY_MAX s else m
  let t := (if tmx < t then tmx else t) + q.res
  let top : Int := 16 * ((p : Int) - mn - q.apF)
  if top < t then
    let n := (shrI top 4).toNat
    let m := incF (setPair m s x { q with res := 0, pulse := some (emitAt m s b p n) }) PWR_CLAMP_CNT_CNT s 1
    if q.dutyAt ≠ (pwrSt m s).perAt then
      let said := was || (pwrSt m s).partialRun
      let m := flag (setPwr m s { pwrSt m s with partialRun := true }) PWR_FLAGS_PARTIAL_UPDATE s
      if said then m else pwrReport m s E_PWR_PARTIAL_UPDATE 7 x
    else flag m PWR_FLAGS_DUTY_FIT s
  else if t < 16 * ((mn : Int) + q.apR) then
    flag (incF (setPair m s x { q with res := t, pulse := none }) PWR_SUPPR_CNT_CNT s 1) PWR_FLAGS_SUPPRESSED s
  else
    let n := (shrI t 4).toNat
    setPair m s x { q with res := t - 16 * n, pulse := some (emitAt m s b p n) }

/-- The gate transitions of a pair in its period (R308, R316): low side off, high side on, high side off, low side on, as far as they
occur; a gate that a cut finds off makes none. -/
def pairEdges (p : PairSt) : List Nat :=
  let l : List Nat := match p.pulse with
    | none => []
    | some (r, f) =>
      match p.lowAt with
      | some t =>
        if t ≤ r then []
        else if t < f then [r, r + p.apR].filter (fun e => decide (e < t)) ++ (if r + p.apR < t then [t] else []) ++ [t + p.apF]
        else [r, r + p.apR, f, f + p.apF]
      | none => [r, r + p.apR, f, f + p.apF]
  match p.offAt with
  | some t =>
    let k := l.filter (fun e => decide (e < t))
    if k.length % 2 = 0 ∧ (k ≠ [] ∨ p.lowFrom ≤ t) then k ++ [t] else k
  | none => l

/-- The tick from which the low side of a pair may be on after the period that ends at `b`: the dead time after its fall or after a cut of
action LOW, also past the boundary; at once after a cut of action OFF (R308, R316). -/
def lowAfter (p : PairSt) (b : Nat) : Nat :=
  if p.offAt.isSome then b
  else match p.pulse with
    | some (r, f) =>
      let e := match p.lowAt with | some t => min t f | none => f
      if e ≤ r then p.lowFrom else e + p.apF
    | none => p.lowFrom

/-! ## Chopper (R325 to R327) -/

/-- The on-time limit of a period in ticks. -/
def chopLimit (m : Mach) (s : Nat) : Nat :=
  ((roundShift ((getF m PWR_MAX_DUTY_MAX s * carrier m s : Nat) : Int) 31).toNat) / 16

/-- The falling transition of a chopped pair at tick `t`: the high side goes off, the low side may be on after the dead time. -/
def chopFall (p : PairSt) (mn t : Nat) : PairSt :=
  { p with high := false, endAt := none, lastTr := t, hold := t + mn + p.apF, lowFrom := t + p.apF, onTime := p.onTime + (t - p.onFrom),
           edges := p.edges ++ [t, t + p.apF] }

/-- Ends a high-side interval that reached the limit, or that a change of sign ends, by instant `t`. -/
def chopSettle (m : Mach) (s x t : Nat) : Mach :=
  let p := pairSt m s x
  let lim := p.onFrom + (chopLimit m s - p.onTime)
  let reach := match p.endAt with | some e => min e lim | none => lim
  if p.high && decide (reach ≤ t) then
    setPair m s x { chopFall p (getF m PWR_PROT_MIN_PULSE s) reach with limited := decide (lim ≤ t) }
  else m

/-- The end of a chopper cycle (R326). -/
def chopCycleEnd (m : Mach) (s x : Nat) (r : Int) : Mach :=
  let p := pairSt m s x
  let h : Int := 64 * getF m PWR_CHOP_CFG_H s
  let m := match p.inCyc, p.ext with
    | true, some (ip, iv) =>
      if h < absI (r - p.r0) then m
      else setS m (chopF x) s (clampI (-h) h (getS m (chopF x) s + roundShift (r - roundShift (ip + iv) 1) (getF m PWR_CHOP_CFG_CG s)))
    | _, _ => m
  setPair m s x { p with inCyc := true, ext := none, r0 := r }

/-- Whether a chopper may turn a pair's high side on. -/
def chopMayOn (p : PairSt) : Bool := !p.limited && p.lowAt.isNone && p.offAt.isNone

/-- The pairs that a channel's sample chops, with the sign of sample and reference (R325, R327). -/
def chopPairs (m : Mach) (s ch : Nat) : List (Nat × Int) :=
  if isDc m s then (if ch = 0 then (if (pwrSt m s).neg then [(1, -1)] else [(0, 1)]) else []) else [(ch, 1)]

/-! ## Trips (R316 to R318) -/

/-- TRIP_CFG fields of trip input `i`: FILT, ACT, EN, POL, PAIRS. -/
def tripCfg (m : Mach) (s i : Nat) : Nat × Bool × Bool × Bool × Nat :=
  if i = 0 then (getF m PWR_TRIP_CFG_FILT_0 s, onF m PWR_TRIP_CFG_ACT_0 s, onF m PWR_TRIP_CFG_EN_0 s, onF m PWR_TRIP_CFG_POL_0 s, getF m PWR_TRIP_CFG_PAIRS_0 s)
  else (getF m PWR_TRIP_CFG_FILT_1 s, onF m PWR_TRIP_CFG_ACT_1 s, onF m PWR_TRIP_CFG_EN_1 s, onF m PWR_TRIP_CFG_POL_1 s, getF m PWR_TRIP_CFG_PAIRS_1 s)

/-- Input `i` has cut a pair in this period (R318). -/
def tripCounted (m : Mach) (s i : Nat) : Mach :=
  let p := pwrSt m s
  if p.cutNow.testBit i then m
  else
    let run := sget p.runs i 0 + 1
    let m := if p.cutNow = 0 then incF m PWR_TRIP_CNT_CNT s 1 else m
    let m := setPwr m s { p with cutNow := p.cutNow ||| 2 ^ i, runs := sput p.runs i run 0 }
    let m := setF (setF m PWR_STAT_CUT s (p.cutNow ||| 2 ^ i)) PWR_FLAGS_TRIP s (getF m PWR_FLAGS_TRIP s ||| 2 ^ i)
    let m := irq m (176 + s)
    let mx := getF m PWR_PROT_TRIP_MAX s
    if mx ≠ 0 ∧ run = mx then
      let cls := reacClass m E_PWR_TRIP_PERSIST ((slotAxis m s).map (·.axis) |>.getD 0xFFFF) 3
      let m := pwrReport (flag m PWR_FLAGS_TRIP_PERSIST s) s E_PWR_TRIP_PERSIST cls i
      if cls = 3 then cutSlot m s else m
    else m

/-- The first tick at which an assertion from `a` is accepted: FILT + 1 ticks in a row outside the blanking windows of the
transitions `es` (R316, R317). -/
def acceptTick (filt blank : Nat) (es : List Nat) (a : Nat) : Nat :=
  es.foldl (fun t e => if 0 < blank ∧ e < t + filt + 1 ∧ t < e + blank then e + blank else t) a + filt

/-- Inserts into an ascending list of ticks. -/
def insTick (k : Nat) : List Nat → List Nat
  | [] => [k]
  | a :: r => if k ≤ a then k :: a :: r else a :: insTick k r

/-- The gate transitions of the masked pairs, ascending. -/
def maskEdges (m : Mach) (s mask : Nat) : List Nat :=
  ((bitsOf 3 mask).flatMap (fun x => (pairSt m s x).edges ++ pairEdges (pairSt m s x))).foldr insTick []

/-- Cuts a pair from tick `t`: whether this changed its gates from what R308 or the chopper gives, and the state. A chopper's high side that
is on makes its falling transition there. -/
def cutPair (m : Mach) (s x t : Nat) (off : Bool) : Bool × Mach :=
  let p := pairSt m s x
  let open_ := match p.pulse with | some (_, f) => decide (t < f) | none => false
  let hit := off || open_ || p.high
  let p := if p.high then
      let q := chopFall p (getF m PWR_PROT_MIN_PULSE s) t
      if off then { q with edges := p.edges } else q
    else p
  let p' := if off then { p with offAt := some (p.offAt.getD t) } else { p with lowAt := some (p.lowAt.getD t) }
  (hit, setPair m s x (if hit || isChop m s then p' else p))

/-- A rise of pair `x` that a cut at `t` prevents produces no event and does not count for the prescaler (R320). -/
def dropRise (m : Mach) (s x t : Nat) : Mach :=
  let p := pairSt m s x
  match p.pulse with
  | some (r, _) =>
    if t ≤ r ∧ p.lowAt.isNone ∧ p.offAt.isNone ∧ getF m PWR_EVT_CFG_SRC s = 3 + x then
      let c := (pwrSt m s).presc
      let m := setPwr m s { pwrSt m s with presc := if c = 0 then getF m PWR_EVT_CFG_PRESC s else c - 1 }
      if getF m TAP_EVT_CFG_SLOT = s then { m with tap := { m.tap with evs := m.tap.evs.filter (fun e => !(e.1 == 15 && e.2 == r)) } } else m
    else m
  | none => m

/-- Trip input `i` of slot `s`, asserted from tick `a` to before tick `e`, cuts its pairs in the period in progress once it is
accepted (R316, R317). -/
def tripCut (s i a e : Nat) (m : Mach) : Mach :=
  let c := tripCfg m s i
  let filt := c.1
  let mask := c.2.2.2.2
  if !c.2.2.1 then m
  else
    let blank := if ownerOf m 6 s = some 11 then 0 else getF m PWR_AUX_CMP_VAL s
    let t := acceptTick filt blank (if gatesOn m s then maskEdges m s mask else []) a
    if e ≤ t then m
    else
      let m := passTo m t
      let m := setPwr m s { pwrSt m s with acc := (pwrSt m s).acc ||| 2 ^ i }
      if !gatesOn m s || (pwrSt m s).arming.isSome then m
      else
        let r := (bitsOf 3 mask).foldl (fun (r : Bool × Mach) x =>
          if isDc r.2 s ∧ x = 2 then r
          else
            let q := cutPair (dropRise r.2 s x t) s x t c.2.1
            (r.1 || q.1, q.2)) (false, m)
        if r.1 then tripCounted r.2 s i else r.2

/-- The tick of the slot's next boundary in the cycle in progress, or of the next cycle. -/
def nextTick (m : Mach) (s : Nat) : Nat :=
  match nextIdx m s with
  | some i => boundaryTick m (carrier m s) i
  | none => m.cyc.start + cycLen m

/-- TRIP_INPUT: input `i` of slot `s` is asserted from tick `a` for `held` ticks. An assertion that outlasts the period is taken
up again at each boundary. -/
def tripInput (s i a held : Nat) (m : Mach) : Mach :=
  if 16 ≤ s || 2 ≤ i then m
  else
    let m := setPwr m s { pwrSt m s with trips := sput (pwrSt m s).trips i (a, a + held) (0, 0) }
    tripCut s i a (min (a + held) (max (a + 1) (nextTick m s))) m

/-- Trip inputs still asserted at boundary `b` of a period of `p` ticks cut again as soon as they are accepted (R316). -/
def tripAgain (m : Mach) (s b p : Nat) : Mach :=
  (List.range 2).foldl (fun m i =>
    let x := sget (pwrSt m s).trips i (0, 0)
    if x.2 ≤ b then m else tripCut s i (max x.1 (b - (tripCfg m s i).1)) (min x.2 (b + p)) m) m

/-- TRIP_INPUT. -/
def execTripInput (s i a held : Nat) (st : State) : Out := done (tripInput s i a held) st

/-! ## Event trigger (R320) -/

/-- The event PERIOD of the period of `p` ticks from `b` (R303). -/
def periodEvent (m : Mach) (s b p : Nat) : Nat := if onF m PWR_CFG_ALIGN s then b + p - 1 else b + p / 2

/-- The instant of the selected event in the period of `p` ticks from `b`. -/
def eventInstant (m : Mach) (s b p : Nat) : Option Nat :=
  match getF m PWR_EVT_CFG_SRC s with
  | 1 => some b
  | 2 => some (periodEvent m s b p)
  | 3 => (pairSt m s 0).pulse.map (·.1)
  | 4 => (pairSt m s 1).pulse.map (·.1)
  | 5 => (pairSt m s 2).pulse.map (·.1)
  | 6 => if ownerOf m 6 s = some 11 then some (b + getF m PWR_AUX_CMP_VAL s) else none
  | _ => none

/-- An occurrence of the selected event at tick `t`: every (PRESC + 1)-th is offered to the Tap. -/
def offerAt (m : Mach) (s t : Nat) : Mach :=
  let c := (pwrSt m s).presc
  let pass := decide (getF m PWR_EVT_CFG_PRESC s ≤ c)
  let m := setPwr m s { pwrSt m s with presc := if pass then 0 else c + 1 }
  if pass && getF m TAP_EVT_CFG_SLOT == s then tapEvent m 15 t else m

/-- Offers the event trigger of the period to the Tap; the rises of a chopped pair come with its samples (`chopSample`). -/
def offerEvent (m : Mach) (s b p : Nat) : Mach :=
  match eventInstant m s b p with
  | none => m
  | some t => offerAt m s t

/-! ## The boundary -/

/-- The end of a period: chopped pairs settle, transitions are remembered for blanking, runs of trips without an acceptance
end. -/
def closePeriod (m : Mach) (s b : Nat) : Mach :=
  let m := (List.range 3).foldl (fun m x => if isChop m s then chopSettle m s x b else m) m
  let m := (List.range 3).foldl (fun m x =>
    let p := pairSt m s x
    setPair m s x { p with edges := lastN 5 ((if isChop m s then p.edges else []) ++ pairEdges p ++ (if p.offAt.isSome then [b] else [])),
                           lowFrom := lowAfter p b, lowAt := none, offAt := none, pulse := none, onTime := 0, onFrom := max b p.onFrom, limited := false }) m
  let p := pwrSt m s
  let runs := (List.range 2).foldl (fun r i => if p.acc.testBit i then r else sput r i 0 0) p.runs
  setF (setPwr m s { p with acc := 0, cutNow := 0, runs := runs }) PWR_STAT_CUT s 0

/-- The pulses of a period of `p` ticks from `b`: every pair forms its pulse, and gates held low keep no residue (R308, R310). -/
def openPeriod (m : Mach) (s b p : Nat) : Mach :=
  let m := (List.range 3).foldl (fun m x => latchDt m s x) m
  let neg := decide ((pairSt m s 0).ref < 0)
  let turn := isDc m s && isChop m s && neg != (pwrSt m s).neg
  let was := (pwrSt m s).partialRun
  -- a release at the tick of this boundary falls in the period that begins here
  let wait := match (pwrSt m s).arming with | some t => decide (b ≤ t) | none => false
  -- the low sides of released gates go on at this boundary
  let rise := (pwrSt m s).arming.isSome && !wait
  let m := setPwr m s { pwrSt m s with arming := if wait then (pwrSt m s).arming else none, neg := neg, partialRun := false }
  let m := if rise then (if isDc m s then [0, 1] else [0, 1, 2]).foldl (fun m x => setPair m s x { pairSt m s x with edges := [b] }) m else m
  -- a change of sign ends the chopping of the other pair: its high side goes off, once MIN_PULSE and the dead time have passed (R325, R327)
  let m := if turn then (List.range 2).foldl (fun m x =>
      let p := pairSt m s x
      setPair m s x { p with endAt := if p.high then some (max b p.hold) else none, inCyc := false, ext := none }) m
    else m
  if isChop m s then (if gatesOn m s && !wait then setF m PWR_STAT_CHOP s 1 else m)
  else
    let m := (if isDc m s then [0, 1] else [0, 1, 2]).foldl (fun m x => formPulse m s x b p was) m
    if gatesOn m s && !wait then m
    else (List.range 3).foldl (fun m x =>
      let p := pairSt m s x
      setPair m s x { p with res := 0, pulse := if wait then none else p.pulse }) m

/-- CARRIER_BOUNDARY: slot `s` reaches its next carrier boundary. -/
def carrierBoundary (s : Nat) (m : Mach) : Mach :=
  if 16 ≤ s then m
  else match nextIdx m s with
    | none => m
    | some i =>
      let b := boundaryTick m (carrier m s) i
      let m := passTo m b
      let m := closePeriod m s b
      let m := setPwr m s { pwrSt m s with count := (pwrSt m s).count + 1, last := none }
      let r := transfers m s i
      let m := r.1
      let per := carrier m s
      let m := setPwr m s { pwrSt m s with cyc := some m.cyc.n, idx := r.2, tick := b }
      let m := pendFlag m s
      if per = 0 then gatesLow m s
      else
        let p := boundaryTick m per (r.2 + 1) - b
        -- a carrier that runs again frees the gates of an enabled slot (R328)
        let m := if !gatesOn m s && decide (2 ≤ getF m AXL_STAT_STATE s) then setSlotBit m PWR_SUMMARY_GATES s true else m
        -- the SYNC event of the first carrier period of a current period (R323)
        let m := if r.2 % max 1 (getF m AXL_MODE_CUR_DIV s) = 0 then
            setPwr m s { pwrSt m s with sync := some (if onF m PWR_SD_CFG_SYNC s then periodEvent m s b p else b) }
          else m
        tripAgain (offerEvent (openPeriod m s b p) s b p) s b p

/-- CARRIER_BOUNDARY. -/
def execCarrierBoundary (s : Nat) (st : State) : Out := done (carrierBoundary s) st

/-! ## Current samples (R319, R322, R324, R325) -/

/-- The sums of a list before each of its elements and after the last. -/
def prefixSums : Int → List Int → List Int
  | s, [] => [s]
  | s, x :: r => s :: prefixSums (s + x) r

/-- The sums over `n` consecutive elements. -/
def boxcar (n : Nat) (l : List Int) : List Int := ((prefixSums 0 l).drop n).zipWith (· - ·) (prefixSums 0 l)

/-- The output of a sinc filter of an order with decimation `n` (R321): the bits count as +1 and -1, those before the first as 0. -/
def sincSum (order n : Nat) (bits : List Bool) : Int :=
  let w := order * (n - 1) + 1
  let l := (lastN w bits).map (fun b => if b then (1 : Int) else -1)
  ((List.range order).foldl (fun l _ => boxcar n l) (List.replicate (w - l.length) 0 ++ l)).getLastD 0

/-- A filter output of full scale 2^30 from its sum, less the offset (R322). -/
def sdValue (m : Mach) (s ch order k : Nat) (bits : List Bool) : Int :=
  sat 32 (sincSum order (2 ^ k) bits * 2 ^ (30 - order * k) - getS m (sdOffF ch) s)

/-- Marks the output of a channel valid, unless the channel has failed (R324). -/
def sdValid (m : Mach) (s ch : Nat) : Mach :=
  if (pwrSt m s).sdFail.testBit ch then m else setF m PWR_STAT_SD_VALID s (getF m PWR_STAT_SD_VALID s ||| 2 ^ ch)

/-- The peak trip of a slot by channel `ch` (R319). -/
def peakTrip (m : Mach) (s ch : Nat) : Mach :=
  if (getF m PWR_SUMMARY_OC).testBit s then m
  else
    let m := flag (setSlotBit m PWR_SUMMARY_OC s true) PWR_FLAGS_OVERCURRENT s
    irq (pwrReport (cutSlot m s) s E_PWR_OVERCURRENT 3 ch) (176 + s)

/-- The chopper at a sample `i` of pair `x`, whose sign is taken, at tick `t` (R325). -/
def chopSample (m : Mach) (s x t : Nat) (i r : Int) : Mach :=
  let m := chopSettle m s x t
  let p := pairSt m s x
  let p := { p with ext := some (match p.ext with | some (a, b) => (max a i, min b i) | none => (i, i)) }
  let m := setPair m s x p
  let h : Int := 64 * getF m PWR_CHOP_CFG_H s
  let o := getS m (chopF x) s
  let mn := getF m PWR_PROT_MIN_PULSE s
  if t < p.hold then m
  else if p.high then
    if r + h + o ≤ i then setPair m s x (chopFall p mn t) else m
  else if i ≤ r - h + o then
    if chopMayOn p then
      let m := chopCycleEnd m s x r
      let p := pairSt m s x
      let m := setPair m s x { p with high := true, lastTr := t, hold := t + mn + p.apR, onFrom := t + p.apR, edges := p.edges ++ [t, t + p.apR] }
      if getF m PWR_EVT_CFG_SRC s = 3 + x then offerAt m s t else m
    else (List.range 2).foldl (fun m i =>
      if (pwrSt m s).acc.testBit i && (tripCfg m s i).2.2.2.2.testBit x then tripCounted m s i else m) m
  else m

/-- FAST_CHANNEL_SAMPLE: the fast filter of channel `ch` gives an output at tick `t`; `bits` are its data bits up to there. -/
def fastSample (s ch : Nat) (bits : List Bool) (t : Nat) (m : Mach) : Mach :=
  if 16 ≤ s || 3 ≤ ch || !(getF m PWR_SD_CFG_EN s).testBit ch then m
  else
    let m := passTo m t
    let i := sdValue m s ch 2 (getF m PWR_SD_CFG_OSR_F s + 2) bits
    let m := sdValid (setPair m s ch { pairSt m s ch with fast := i }) s ch
    if (getF m PWR_PEAK_TRIP_THR s : Int) < absI i then peakTrip m s ch
    else if isChop m s && gatesOn m s && (pwrSt m s).arming.isNone then
      (chopPairs m s ch).foldl (fun m x => chopSample m s x.1 t (x.2 * i) (if isDc m s then x.2 * (pairSt m s 0).ref else (pairSt m s x.1).ref)) m
    else m

/-- FAST_CHANNEL_SAMPLE. -/
def execFastChannelSample (s ch : Nat) (sum : List Bool) (t : Nat) (st : State) : Out := done (fastSample s ch sum t) st

/-- SD_CHANNEL_FAULT (R324): the data input of channel `ch` has held one level for 3 x OSR modulator clocks. Its outputs are invalid from
now on. -/
def sdFault (s ch : Nat) (m : Mach) : Mach :=
  if 16 ≤ s || 3 ≤ ch || !(getF m PWR_SD_CFG_EN s).testBit ch then m
  else
    let m := flag (setF m PWR_STAT_SD_VALID s (andNot (getF m PWR_STAT_SD_VALID s) (2 ^ ch))) PWR_FLAGS_SD_FAULT s
    let m := setPwr m s { pwrSt m s with sdFail := (pwrSt m s).sdFail ||| 2 ^ ch }
    irq (pwrReport (cutSlot m s) s E_PWR_SD_FAULT 3 ch) (176 + s)

/-- SD_CHANNEL_FAULT. -/
def execSdChannelFault (s ch : Nat) (st : State) : Out := done (sdFault s ch) st

end Sys2Proof.Machine
end

