-- ==== Sys2Proof/Machine/Axl.lean ====
section
/-! DEFINITION. Axis loop engines and tuning injection (09): setpoints, passes, laws, enable and disable, supervision, the
injector. -/

namespace Sys2Proof.Machine

/-! ## Set-up of an axis -/

/-- The encoder port of a slot's axis. -/
def slotPort (m : Mach) (s : Nat) : Option Nat :=
  (slotAxis m s).bind (fun a => if a.feedback.testBit 7 then none else some (a.feedback % 16))

/-- SPD_SHIFT of a slot's axis. -/
def slotShift (m : Mach) (s : Nat) : Int := ((slotAxis m s).map (·.shift)).getD 0

/-- Position evaluations per cycle (R269). -/
def posN (m : Mach) (s : Nat) : Nat := 2 ^ getF m AXL_MODE_POS_RATE s

/-- The current period in 1/16 ticks. -/
def curPer (m : Mach) (s : Nat) : Nat := getV m PWR_PER_PER s * getF m AXL_MODE_CUR_DIV s

/-- Shift `i` of SHIFT_A. -/
def shA (m : Mach) (s i : Nat) : Nat := bits (getV m AXL_SHIFT_A_S s) (5 * i) 5
/-- Shift `i` of SHIFT_B. -/
def shB (m : Mach) (s i : Nat) : Nat := bits (getV m AXL_SHIFT_B_S s) (5 * i) 5

/-- The product of a coefficient in force and an operand, shifted with convergent rounding (R271). -/
def coef (m : Mach) (s : Nat) (f : Fld) (sh : Nat) (x : Int) : Int := roundShift (getVS m f s * x) sh

/-- `i` held in plus and minus an unsigned limit in force. -/
def limTo (m : Mach) (s : Nat) (f : Fld) (i : Int) : Int := clampI (-(getV m f s : Int)) (getV m f s) i

/-! ## Setpoints (R273, R274, 02 R67) -/

/-- A fresh entry is taken at t = 0. -/
def setpoint (m : Mach) (s : Nat) (pos vff aff tff : Int) : Mach :=
  let m := setAxl m s { axlSt m s with pos := pos, vff := vff, aff := aff, tff := tff, age := 0, stale := false }
  setF m AXL_STAT_REF_STALE s 0

/-! ## Disable and stops (R286, R288) -/

/-- The disable instant of an axis (R286). -/
def beginDisable (m : Mach) (s cause : Nat) : Mach :=
  if getF m AXL_STAT_STATE s = 0 ∨ (axlSt m s).ending.isSome then m
  else if getF m AXL_STAT_STATE s = 1 then axlOff (gatesLow m s) s cause
  else injAbort (setAxl (setS (setF m AXL_STAT_STATE s 3) AXL_IQREF_VAL s 0) s { axlSt m s with ending := some cause, accIq := 0 }) s

/-- The local stop ends: the axis is disabled (R288). -/
def endLocalStop (m : Mach) (s cause : Nat) : Mach :=
  let old := m.reacts
  let m := axlReport (flag m AXL_FLAGS_LOCAL_STOP s) s E_AXL_LOCAL_STOP 2 cause
  beginDisable { m with reacts := old } s 3

/-- Starts the local stop (R274, R288). -/
def localStop (m : Mach) (s cause : Nat) : Mach :=
  if getF m AXL_STAT_STATE s = 1 then beginDisable m s 3
  else if getF m AXL_STAT_STATE s ≠ 2 then m
  else if (slotPort m s).isNone then endLocalStop m s cause
  else injAbort (setAxl (setF m AXL_STAT_STATE s 3) s { axlSt m s with stop := some cause }) s

/-- The entry taken at t = 0 is a repetition of age `a` (R274). -/
def stalepoint (m : Mach) (s a : Nat) : Mach := setAxl m s { axlSt m s with age := a }

/-- What an engine that is not disabled does about a repetition (R274), once the enables of that t = 0 have taken effect. -/
def staleAction (m : Mach) (s : Nat) : Mach :=
  let x := axlSt m s
  let a := x.age
  if a = 0 ∨ getF m AXL_STAT_STATE s = 0 then m
  else if 3 ≤ a then localStop m s 0
  else
    let m := setAxl m s { x with stale := true }
    let m := flag (incF (setF m AXL_STAT_REF_STALE s 1) AXL_STALE_CNT_CNT s 1) AXL_FLAGS_STALE s
    if x.stale then m else axlReport m s E_AXL_REF_STALE 0 a

/-! ## Injector (R291 to R296) -/

/-- The sample rate of an injection point in Hz, as a fraction (R292). -/
def injRate (m : Mach) (s point : Nat) : Nat × Nat :=
  if point < 2 then (posN m s * 800000000, cycLen m) else (800000000 * 16, max 1 (curPer m s))

/-- TAP of the shift register of an order (R294), if the order is one of the table. -/
def prbsTap (order : Nat) : Option Nat :=
  match order with
  | 7 => some 6 | 9 => some 5 | 11 => some 9 | 15 => some 14 | 23 => some 18 | 31 => some 28 | _ => none

/-- The phase increment of sample `j` (R293). -/
def injInc (m : Mach) (s j : Nat) : Nat :=
  let fs := injRate m s (getF m AXL_TUNE_CFG_POINT s)
  let f0 := getF m AXL_TUNE_F0_F s
  let f1 := getF m AXL_TUNE_F1_F s
  let len := max 1 (getF m AXL_TUNE_LEN_LEN s)
  let k := fs.1 * 1000
  let r : Int := match getF m AXL_TUNE_CFG_WAVE s with
    | 0 => roundDiv ((f0 * 2 ^ 32 * fs.2 : Nat) : Int) k
    | 1 => roundDiv (((f0 : Int) * len + ((f1 : Int) - f0) * j) * 2 ^ 32 * fs.2) (len * k)
    | _ => roundDiv ((f0 * exp2 (log2Ratio f1 (max 1 f0) * j / len) * 2 ^ 32 * fs.2 : Nat) : Int) (one96 * k)
  unsg 32 r

/-- One injection sample is formed (R293, R294). -/
def injStep (m : Mach) (s : Nat) : Mach :=
  let a := axlSt m s
  let j := getF m AXL_TUNE_STAT_SAMPLE s
  let amp := getS m AXL_TUNE_AMP_AMP s
  let m := setF m AXL_TUNE_STAT_SAMPLE s (j + 1)
  if getF m AXL_TUNE_CFG_WAVE s = 3 then
    let order := getF m AXL_TUNE_CFG_ORDER s
    let hold := getF m AXL_TUNE_CFG_HOLD s
    let tap := (prbsTap order).getD 1
    let l := if j = 0 then getF m AXL_TUNE_SEED_SEED s % 2 ^ order else a.lfsr
    let b := b2n (l.testBit (order - 1) != l.testBit (tap - 1))
    let l := if j ≠ 0 ∧ j % max 1 hold = 0 then (2 * l + b) % 2 ^ order else l
    setAxl m s { a with lfsr := l, u := if l % 2 = 1 then amp else -amp }
  else
    let phi := if j = 0 then 0 else a.phi
    setAxl m s { a with u := roundDiv (amp * sin96 phi) one96, phi := (phi + injInc m s j) % 2 ^ 32 }

/-- Whether an injection runs at one of the points. -/
def injOn (m : Mach) (s : Nat) (pts : List Nat) : Bool := onF m AXL_TUNE_STAT_RUN s && pts.contains (getF m AXL_TUNE_CFG_POINT s)

/-- The injection at a point, 0 where none runs. -/
def injAt (m : Mach) (s p : Nat) : Int := if injOn m s [p] then (axlSt m s).u else 0

/-- The Tap that captured an injection goes back to no owner; its memory stays until TAP_STOP (R296, 20 R575). -/
def injTapFree (m : Mach) (s : Nat) : Mach :=
  if m.tap.inj && getF m TAP_SAMPLE_SLOT == s then { release m 12 8 0 with tap := { m.tap with inj := false } } else m

/-- The injection ends after its last sample: the injector and its capture are released (R296, 04 R148). -/
def injDone (m : Mach) (s : Nat) : Mach :=
  if onF m AXL_TUNE_STAT_RUN s && decide (getF m AXL_TUNE_LEN_LEN s ≤ getF m AXL_TUNE_STAT_SAMPLE s) then injTapFree (endInjection m s false) s else m

/-- The set-up of the capture in the Tap's registers (R295). -/
def injCapture (m : Mach) (s : Nat) : Mach :=
  let src : List (Nat × Nat) := [(0x0A, s), (0x0B, s), (0x20, (slotPort m s).getD 0), (0x02, s), (0x0C, s), (0x04, s), (0x05, s), (0x07, s)]
  let m := (List.range 64).foldl (fun m p => setF m TAP_PROBE_EN p (b2n (decide (p < 8)))) m
  let m := (src.zipIdx).foldl (fun m x =>
    setF (setF (setF (setF m TAP_PROBE_SRC x.2 x.1.1) TAP_PROBE_INST x.2 x.1.2) TAP_PROBE_LSB x.2 0) TAP_PROBE_WIDTH x.2 31) m
  let m := (List.range 4).foldl (fun m k => setF m TAP_MASK_CFG_EN k 0) m
  let m := setF (setF (setF (setF m TAP_CFG_NSEG_LOG2 0 0) TAP_CFG_CONT 0 0) TAP_CFG_PREFILL_HOLD 0 0) TAP_CFG_MASK_STOP 0 0
  let m := setF (setF (setF (setF m TAP_PRE_N 0 0) TAP_POST_N 0 (getF m AXL_TUNE_LEN_LEN s)) TAP_SAMPLE_CLK 0 5) TAP_SAMPLE_SLOT 0 s
  let m := setF (setF (setF (setF m TAP_ST_CFG_TERM_A 0 1) TAP_ST_CFG_LOGIC 0 0) TAP_ST_CFG_NEXT 0 8) TAP_ST_COUNT_COUNT 0 1
  setF (setF (setF m TAP_ST_TIMER_TIMER 0 0) TAP_BUS_CFG_OWN 0 0) TAP_OUT_CFG_EN 0 0

/-- The checks of R291 on the set-up in the registers of slot `s`: a status with its DETAIL. -/
def injCheck (m : Mach) (s : Nat) : Option (Nat × Nat) :=
  let pt := getF m AXL_TUNE_CFG_POINT s
  let mode := getF m AXL_MODE_LOOP_MODE s
  let wave := getF m AXL_TUNE_CFG_WAVE s
  let fs := injRate m s pt
  let freq (f : Nat) : Bool := f != 0 && decide (f * fs.2 ≤ fs.1 * 500)
  let order := getF m AXL_TUNE_CFG_ORDER s
  let suits := if pt = 3 then getF m AXL_MODE_CUR_LAW s == 0 else decide (mode ≤ pt)
  let ok := freq (getF m AXL_TUNE_F0_F s) && freq (getF m AXL_TUNE_F1_F s) && (wave != 3 ||
    ((prbsTap order).isSome && getF m AXL_TUNE_SEED_SEED s % 2 ^ order != 0 && getF m AXL_TUNE_CFG_HOLD s != 0))
  let cap := onF m AXL_TUNE_CFG_CAPTURE s
  if getF m AXL_STAT_STATE s ≠ 2 then some (E_AXL_NOT_ENABLED, 0)
  else if !suits then some (E_AXL_MODE, 3)
  else if !ok then some (E_HIF_BAD_PARAM, noParam)
  else match firstBusy m ((7, s) :: (if cap then [(8, 0)] else [])) with
    | some d => some (E_RESOURCE_BUSY, d)
    | none => if cap then tapCheck (domainOn (injCapture m s) dTAP) else none

/-- Claims the injector, and the Tap with its capture armed (R291, R295). -/
def injClaim (m : Mach) (s : Nat) : Mach :=
  let m := claim m 12 [(7, s)]
  if onF m AXL_TUNE_CFG_CAPTURE s then armTap (domainOn (injCapture m s) dTAP) 12 true else m

/-- The injection starts. -/
def injStart (m : Mach) (s : Nat) : Mach :=
  let m := setF (setF (setF m AXL_TUNE_STAT_SAMPLE s 0) AXL_TUNE_STAT_RUN s 1) AXL_TUNE_STAT_ABORTED s 0
  setAxl (setSlotBit m AXL_SUMMARY_INJECT s true) s { axlSt m s with injAt := none, phi := 0, lfsr := 0, u := 0 }

/-- TUNE_GO (R300): a failed check leaves the injector off; a busy resource is reported. -/
def tuneGo (s : Nat) (m : Mach) : Mach :=
  if 16 ≤ s || getF m AXL_TUNE_LEN_LEN s == 0 then m
  else match injCheck m s with
    | some (e, d) => if e = E_RESOURCE_BUSY then logNode m e d else m
    | none => injStart (injClaim m s) s

/-- TUNE_GO. -/
def execTuneGo (s : Nat) (st : State) : Out := done (domWrite 7 (0x2018 + 0x40 * s) (tuneGo s)) st

/-- TUNE_ABORT. -/
def execTuneAbort (s : Nat) (st : State) : Out := done (fun m => if 16 ≤ s then m else domWrite 7 (0x2018 + 0x40 * s) (fun m => injAbort m s) m) st

/-- The registers that the data of TUNE_INJECT fills. -/
def injLoad (m : Mach) (s : Nat) (l : List Nat) : Mach :=
  (List.range 6).foldl (fun m i => putReg m 7 (0x2000 + 0x40 * s + 4 * i) (field l (4 * i) 4)) m

/-- TUNE_INJECT on the node that holds slot `s`: a status with its DETAIL, or the state with the start at t = 0 of cycle `c`. -/
def injHere (m : Mach) (s c : Nat) (l : List Nat) : (Nat × Nat) ⊕ Mach :=
  if !m.locks.lim then .inl (E_SYS_NOT_LOCKED, 0)
  else if field l 16 4 % 2 ^ 24 = 0 then .inr (injAbort m s)
  else
    match injCheck (injLoad m s l) s with
    | some e => .inl e
    | none =>
      let m := injClaim (injLoad m s l) s
      .inr (setAxl m s { axlSt m s with injAt := some c })

/-- TUNE_INJECT (R291). -/
def tuneInject (j : Job) (m : Mach) : JobRes :=
  let l := padTo 32 j.data
  match axisRec m (j.desc.par 0) with
  | none => jobFail m E_HIF_BAD_PARAM 0
  | some a =>
    if j.desc.dataLen ≠ 32 ∨ field l 24 8 ≠ 0 then jobFail m E_HIF_BAD_PARAM
    else if a.node = nodeId m then
      match injHere m a.slot (m.cyc.n + 1) l with
      | .inl (e, d) => jobRefused m e d
      | .inr m => { m := m, result := m.cyc.n + 1, effect := some (m.cyc.n + 1) }
    else netRequest m 3 j [a.node] (2 ^ a.axis) l

/-- TUNE_INJECT. -/
def execTuneInject (j : Job) (s : State) : Out := done (runJob 0x0703 tuneInject j) s

/-! ## Enable and disable (R269, R276, R283 to R285) -/

/-- The rule of E_AXL_MODE that a slot fails (R269, R276, R283, R298, 10 R302, R323, 11 R335). -/
def modeRule (m : Mach) (a : AxisRec) : Option Nat :=
  let s := a.slot
  let cp := curPer m s
  let win := 8 * 2 ^ getF m PWR_SD_CFG_OSR s * getF m PWR_SD_CFG_MDIV s
  let three := getF m AXL_MODE_MOTOR s == 0
  let mode := getF m AXL_MODE_LOOP_MODE s
  let k := a.feedback % 16
  let dmax := if onF m ENC_CFG_LDC k then getF m ENC_CLK_DLY k else 800
  if cp < 200000 ∨ 16 * cycLen m % cp ≠ 0 ∨ cp < 48 * win then some 0
  else if a.feedback.testBit 7 then (if three || decide (mode < 2) then some 1 else none)
  else if cycLen m ≤ (getF m ENC_REQ_REQ k + getF m ENC_FRAME_LEN k * 2 * getF m ENC_CLK_CLKDIV k + dmax) * posN m s then some 1
  else if three && (getV m AXL_CPR_CPR s == 0 || getV m AXL_POLES_POLES s == 0) then some 2
  else none

/-- The enabled state begins: gates released (R285). -/
def axlEnabled (m : Mach) (s : Nat) : Mach :=
  let m := setSlotBit (setF (gatesRelease m s) AXL_STAT_STATE s 2) AXL_SUMMARY_ENABLED s true
  axlReport m s E_AXL_ENABLED 7 m.cyc.n

/-- Step 1 of R285, at t = 0 of the cycle of effect. -/
def axlEnabling (m : Mach) (s : Nat) : Mach :=
  if getF m AXL_STAT_STATE s ≠ 0 then m
  else
    let c : Nat := match slotPort m s with | some k => encC m k | none => 0
    let cpr := max 1 (getV m AXL_CPR_CPR s)
    let r := (((c : Int) + getVS m AXL_COMM_OFF_OFF s) % (cpr : Int)).toNat
    let m := setF (setF (setF (setF m AXL_VINT_VAL s 0) AXL_STAT_BAND_IN s 1) AXL_STAT_STATE s 1) AXL_IQREF_VAL s 0
    let m := setAxl m s { axlSt m s with cd := 0, cq := 0, r := r, lastC := c, passT := m.cyc.now, follow := 0, miss := 0, vRef := 0, accIq := 0 }
    if 2 ≤ getF m AXL_MODE_LOOP_MODE s then axlEnabled m s else m

/-- What takes effect on a slot at t = 0 of the cycle that has begun. -/
def axlBoundary (m : Mach) (s : Nat) : Mach :=
  let due (c : Nat) : Bool := decide (c ≤ m.cyc.n)
  let a := axlSt m s
  let m := match a.disAt with
    | some (c, cause) => if due c then beginDisable (setAxl m s { axlSt m s with disAt := none }) s cause else m
    | none => m
  let m := match (axlSt m s).enAt with
    | some c => if due c then axlEnabling (setAxl m s { axlSt m s with enAt := none }) s else m
    | none => m
  match (axlSt m s).injAt with
  | some c => if due c then injStart m s else m
  | none => m

/-- The cell axes of a 256-bit mask in eight parameters. -/
def maskAxes (d : Desc) : List Nat := (List.range 8).flatMap (fun i => (bitsOf 32 (d.par i)).map (· + 32 * i))

/-- Enables slots of this node at t = 0 of cycle `c`: a status with its DETAIL, or the state. While mode 0 is in force no axis of a
networked worker is enabled (13 R387); DESIGN CHOICE (entry 120): the status is then E_SYS_NOT_LOCKED. -/
def enableHere (m : Mach) (c : Nat) (l : List AxisRec) : (Nat × Nat) ⊕ Mach :=
  if !m.locks.lim || (!isManager m && m.mould.config != 0 && getF m TWI_STATUS_MODE == 0) then .inl (E_SYS_NOT_LOCKED, 0)
  else match l.findSome? (modeRule m) with
  | some r => .inl (E_AXL_MODE, r)
  | none => .inr (l.foldl (fun m a => setAxl m a.slot { axlSt m a.slot with enAt := some c }) m)

/-- Disables slots of this node at t = 0 of cycle `c`. -/
def disableHere (m : Mach) (c cause : Nat) (l : List AxisRec) : Mach :=
  l.foldl (fun m a => setAxl m a.slot { axlSt m a.slot with disAt := some (c, cause) }) m

/-- AXIS_ENABLE and AXIS_DISABLE (R284). -/
def axisSwitch (en : Bool) (j : Job) (m : Mach) : JobRes :=
  let ax := maskAxes j.desc
  match ax.find? (fun a => (axisRec m a).isNone) with
  | some a => jobFail m E_HIF_BAD_PARAM (a / 32)
  | none =>
    let recs := ax.filterMap (axisRec m)
    let here := recs.filter (fun a => a.node == nodeId m)
    let far := recs.filter (fun a => a.node != nodeId m)
    let c := if far ≠ [] && inP4 m then m.cyc.n + 2 else m.cyc.n + 1
    let r : (Nat × Nat) ⊕ Mach := if !en then .inr (disableHere m c 0 here) else if here = [] then .inr m else enableHere m c here
    match r with
    | .inl (e, d) => jobRefused m e d
    | .inr m =>
      if far = [] then { m := m, result := c, effect := some c }
      else netRequest m (if en then 1 else 2) j ((far.map (·.node)).dedup) (maskOf (far.map (·.axis))) []

/-- AXIS_ENABLE. -/
def execAxisEnable (j : Job) (s : State) : Out := done (runJob 0x0701 (axisSwitch true) j) s
/-- AXIS_DISABLE. -/
def execAxisDisable (j : Job) (s : State) : Out := done (runJob 0x0702 (axisSwitch false) j) s

/-! ## Reference (R272, R273, R275) -/

/-- The interpolated reference of evaluation `k` (R273): p_ref, v_ref, which saturates to its 32 bits (R271), a_ref. -/
def interp (pos vff aff : Int) (n k len : Nat) (shift : Int) : Int × Int × Int :=
  let x := (2 * (n * k : Nat) * vff + (k * k : Nat) * aff) * len
  let d := 1600000000 * n * n
  let q := if 0 ≤ shift then roundDiv (x * 2 ^ shift.toNat) d else roundDiv x (d * 2 ^ (-shift).toNat)
  (pos + q, sat 32 (vff + roundDiv (aff * k) n), aff)

/-- The reference of evaluation `k` of a slot, stale entries included (R274). -/
def reference (m : Mach) (s k : Nat) : Int × Int × Int :=
  let a := axlSt m s
  let n := posN m s
  if a.age = 0 then interp a.pos a.vff a.aff n k (cycLen m) (slotShift m s)
  else interp a.pos a.vff 0 n (a.age * n + k) (cycLen m) (slotShift m s)

/-- The limit clamp and the zeroing of speed feed-forward (R275, 08 R261 to R263): p_ref and v_ref. -/
def limitClamp (m : Mach) (s : Nat) (p v : Int) : Mach × Int × Int :=
  let l := sget m.lims s {}
  let cp := if l.both.isSome then l.both else l.pos
  let cn := if l.both.isSome then l.both else l.neg
  let hitP := cp.any (fun x => decide (x ≤ p))
  let hitN := cn.any (fun x => decide (p ≤ x))
  let q := match cp with | some x => min p x | none => p
  let q := match cn with | some x => max q x | none => q
  let hardP := l.pos.isSome && (getF m RUN_LIM_CFG_P_MODE s == 1 || hitP)
  let hardN := l.neg.isSome && (getF m RUN_LIM_CFG_N_MODE s == 1 || hitN)
  let v := if hardP && decide (0 < v) then 0 else v
  let v := if hardN && decide (v < 0) then 0 else v
  let ramp := (hitP && getF m RUN_LIM_CFG_P_MODE s == 2) || (hitN && getF m RUN_LIM_CFG_N_MODE s == 2)
  if ramp && !l.said then
    let m := { m with lims := sput m.lims s { l with said := true } {} }
    (axlReport (setSlotBit m RUN_LIM_CLAMP_CLAMP s true) s E_RUN_LIMIT_CLAMP 0 (b2n (!(hitP && getF m RUN_LIM_CFG_P_MODE s == 2))), q, v)
  else (m, q, v)

/-- The position error (R272). -/
def posError (p : Int) (c : Nat) : Int := sat 32 (diff40 (unsg 40 p) c)

/-! ## Laws (R276 to R282) -/

/-- Sets a status bit of the last pass. -/
def passBit (m : Mach) (f : Fld) (s : Nat) (b : Bool) : Mach := setB m f s b

/-- Stores v_cmd from its exact value, under VCMD_LIM; V_SAT says that it saturates or meets its limit (R271). -/
def putVcmd (m : Mach) (s : Nat) (x : Int) : Mach :=
  let y := limTo m s AXL_VCMD_LIM_LIM (sat 32 x)
  setS (passBit m AXL_STAT_V_SAT s (sat 32 x != x || absI y == (getV m AXL_VCMD_LIM_LIM s : Int))) AXL_VCMD_VAL s y

/-- Stores v_cmd where VCMD_LIM does not apply: velocity mode and the local stop (R276, R288). -/
def putVref (m : Mach) (s : Nat) (x : Int) : Mach :=
  setS (passBit m AXL_STAT_V_SAT s (sat 32 x != x)) AXL_VCMD_VAL s (sat 32 x)

/-- The position law: v_cmd (R276 to R278). -/
def posLaw (m : Mach) (s : Nat) (ep v : Int) : Mach :=
  let inj := injAt m s 1
  let kvf := coef m s AXL_KVF_K (shA m s 1) v
  if getF m AXL_MODE_POS_LAW s = 0 then
    putVcmd m s (coef m s AXL_KP_K (shA m s 0) ep + kvf + inj)
  else
    let isIn := onF m AXL_STAT_BAND_IN s
    let stay := if isIn then decide (absI ep ≤ getV m AXL_BAND_BAND_OUT s) else decide (absI ep ≤ getV m AXL_BAND_BAND_IN s)
    let m := setB m AXL_STAT_BAND_IN s stay
    putVcmd m s (if stay then inj else signI ep * getV m AXL_VBAND_V s + kvf + inj)

/-- Acceleration and torque feed-forward (R279). -/
def feedForward (m : Mach) (s : Nat) (aref : Int) : Int :=
  coef m s AXL_KAF_K (shA m s 2) aref + coef m s AXL_KTF_K (shA m s 3) (axlSt m s).tff

/-- iq_ref from the exact output of the velocity law, with the injection at point 2 (R276, R279, R292); I_SAT says that it saturates or
meets its limit (R271). -/
def putIqRef (m : Mach) (s : Nat) : Mach :=
  let x := (axlSt m s).accIq + injAt m s 2
  let y := limTo m s AXL_IQ_LIM_LIM (sat 32 x)
  setS (passBit m AXL_STAT_I_SAT s (sat 32 x != x || absI y == (getV m AXL_IQ_LIM_LIM s : Int))) AXL_IQREF_VAL s y

/-- The velocity law (R279): whether its integrator was clamped, and the state. -/
def velLaw (m : Mach) (s : Nat) (aref : Int) : Bool × Mach :=
  let a := axlSt m s
  let ev := sat 32 (getS m AXL_VCMD_VAL s - a.vMeas)
  let vint := getS m AXL_VINT_VAL s
  let u := coef m s AXL_KVP_K (shA m s 4) ev + vint + feedForward m s aref
  let m := putIqRef (setAxl m s { a with accIq := u }) s
  let back := coef m s AXL_KBC_K (shB m s 0) (sat 32 (getS m AXL_IQREF_VAL s - u))
  let x := vint + coef m s AXL_KVI_K (shA m s 5) ev + back
  let y := limTo m s AXL_INT_LIM_LIM x
  (x != y, setS m AXL_VINT_VAL s (sat 32 y))

/-- 1 / sqrt 3 in Q1.30 (R280). -/
def invSqrt3 : Int := 0x24F34E8B

/-- The phase values of (alpha, beta) (R280): the exact inverse Clarke transform, rounded convergently. -/
def invClarke (al be : Int) : Int × Int × Int :=
  let s3 : Int := signI be * (isqrt (3 * (be * be).toNat * 2 ^ 64) : Nat)
  (al, roundDiv (-al * 2 ^ 32 + s3) (2 ^ 33), roundDiv (-al * 2 ^ 32 - s3) (2 ^ 33))

/-- A duty value held in 32 bits. -/
def dutyWord (x : Int) : Nat := if x < 0 then 0 else min x.toNat (2 ^ 32 - 1)

/-- Writes the duties of a three-phase voltage (R280). -/
def phaseDuties (m : Mach) (s : Nat) (vd vq sn cs : Int) : Mach :=
  let al := roundShift (vd * cs) 30 - roundShift (vq * sn) 30
  let be := roundShift (vd * sn) 30 + roundShift (vq * cs) 30
  let v := invClarke al be
  let mx := max v.1 (max v.2.1 v.2.2)
  let mn := min v.1 (min v.2.1 v.2.2)
  let v0 := roundDiv (-(mx + mn)) 2
  let d (x : Int) : Nat := dutyWord (2 ^ 30 + x + v0)
  engineDuties m s (d v.1) (d v.2.1) (d v.2.2)

/-- Writes the duties of a DC bridge (R281). -/
def dcDuties (m : Mach) (s : Nat) (vq : Int) : Mach :=
  engineDuties m s (dutyWord (2 ^ 30 + roundDiv vq 2)) (dutyWord (2 ^ 30 - roundDiv vq 2)) 0

/-- One channel of the current PI: w, and the integrator's next value with the clamp that acted (R280). -/
def curPi (m : Mach) (s : Nat) (e cint : Int) : Int := coef m s AXL_KCP_K (shB m s 1) e + cint

/-- The next integrator value of a channel before its limit (R280). -/
def curInt (m : Mach) (s : Nat) (e cint v w : Int) : Int :=
  cint + coef m s AXL_KCI_K (shB m s 2) e + coef m s AXL_KCB_K (shB m s 3) (sat 32 (v - w))

/-- Stores what a current law shows of its voltages; V_LIM says that one of them meets its limit (R271, R280). -/
def putVolt (m : Mach) (s : Nat) (vd vq : Int) (lim : Bool) : Mach :=
  passBit (setS (setS m AXL_VD_VAL s vd) AXL_VQ_VAL s vq) AXL_STAT_V_LIM s lim

/-- The current law with angle `th` (R280 to R282): whether an integrator was clamped, and the state. -/
def curLaw (m : Mach) (s th : Nat) : Bool × Mach :=
  let a := axlSt m s
  let zero := a.ending.isSome
  let dc := isDc m s
  let ia := getS m PWR_CUR_A_I s
  let ib := getS m PWR_CUR_B_I s
  let ic := getS m PWR_CUR_C_I s
  let sc : Int × Int := if dc then (0, 2 ^ 30) else sincos th
  let al := roundDiv (2 * ia - ib - ic) 3
  let be := roundShift ((ib - ic) * invSqrt3) 30
  let id : Int := if dc then 0 else sat 32 (roundShift (al * sc.2) 30 + roundShift (be * sc.1) 30)
  let iq : Int := if dc then ia else sat 32 (roundShift (be * sc.2) 30 - roundShift (al * sc.1) 30)
  let m := setF (setS (setS m AXL_ID_VAL s id) AXL_IQ_VAL s iq) AXL_THETA_THETA s th
  let iqr : Int := if zero then 0 else getS m AXL_IQREF_VAL s
  let idr : Int := if zero ∨ dc then 0 else getVS m AXL_ID_REF_REF s
  let vlim : Int := getV m AXL_VLIM_LIM s
  if isChop m s then
    let m := setAxl m s { a with cd := 0, cq := 0 }
    let refs : Int × Int × Int := if dc then (iqr, 0, 0)
      else invClarke (roundShift (idr * sc.2) 30 - roundShift (iqr * sc.1) 30) (roundShift (idr * sc.1) 30 + roundShift (iqr * sc.2) 30)
    let m := setPair m s 0 { pairSt m s 0 with ref := sat 32 refs.1 }
    let m := setPair m s 1 { pairSt m s 1 with ref := sat 32 refs.2.1 }
    (false, setPair m s 2 { pairSt m s 2 with ref := sat 32 refs.2.2 })
  else if getF m AXL_MODE_LOOP_MODE s = 3 ∧ a.stop.isNone then
    let x := (if zero then 0 else getVS m AXL_OLV_V s) + injAt m s 3
    let vq := clampI (-vlim) vlim x
    let m := putVolt m s 0 vq (absI vq == vlim)
    (false, if dc then dcDuties m s vq else phaseDuties m s 0 vq sc.1 sc.2)
  else
    let ed := if dc then 0 else sat 32 (idr - id)
    let eq := sat 32 (iqr - iq)
    let wd := if dc then 0 else curPi m s ed a.cd
    let wq := curPi m s eq a.cq
    let vd := clampI (-vlim) vlim wd
    let mx : Int := if dc then vlim else (isqrt (vlim * vlim - vd * vd).toNat : Nat)
    let xq := wq + injAt m s 3
    let vq := clampI (-mx) mx xq
    let m := putVolt m s vd vq ((!dc && absI vd == vlim) || absI vq == mx)
    let nd := if dc then 0 else curInt m s ed a.cd vd wd
    let nq := curInt m s eq a.cq vq wq
    let cd := limTo m s AXL_CINT_LIM_LIM nd
    let cq := limTo m s AXL_CINT_LIM_LIM nq
    let m := setAxl m s { axlSt m s with cd := sat 32 cd, cq := sat 32 cq }
    (nd != cd || nq != cq, if dc then dcDuties m s vq else phaseDuties m s vd vq sc.1 sc.2)

/-! ## Electrical angle (R283) -/

/-- The electrical angle after `dt` ticks at the last measured speed, computed exactly. -/
def elecAngle (m : Mach) (s dt : Nat) : Nat :=
  let cpr := getV m AXL_CPR_CPR s
  let sh := slotShift m s
  let v := match slotPort m s with | some k => getS m ENC_SPD_V k | none => 0
  let d : Int := 800000000 * 2 ^ (-sh).toNat
  let num : Int := ((axlSt m s).r : Int) * d + v * dt * 2 ^ sh.toNat
  unsg 32 (num * getV m AXL_POLES_POLES s * 2 ^ 32 / (d * max 1 cpr))

/-- Advances the mechanical count at a valid word. -/
def advanceR (m : Mach) (s c : Nat) : Mach :=
  let a := axlSt m s
  let cpr : Int := max 1 (getV m AXL_CPR_CPR s)
  setAxl m s { a with r := (((a.r : Int) + diff40 c a.lastC) % cpr).toNat, lastC := c, passT := m.cyc.now }

/-! ## Supervision (R289, R290) -/

/-- A fault of the engine: flag, record bit, event, and a CUT executed in the pass. -/
def axlFault (m : Mach) (s code : Nat) (fl : Fld) (bitNo dflt : Nat) : Mach :=
  let a := axlSt m s
  let cls := reacClass m code ((slotAxis m s).map (·.axis) |>.getD 0xFFFF) dflt
  let m := setAxl (flag m fl s) s { a with recFlags := a.recFlags ||| 2 ^ bitNo }
  let m := irq (axlReport m s code cls 0) (112 + s)
  if cls = 3 then cutSlot m s else m

/-- The checks of R290 at a position evaluation with error `ep`: a condition that still holds is a fault again. -/
def supervise (m : Mach) (s : Nat) (ep : Int) : Mach :=
  let a := axlSt m s
  let mx := getV m AXL_FOLLOW_MAX_MAX s
  let out := getF m AXL_MODE_LOOP_MODE s == 0 && a.stop.isNone && mx != 0 && decide ((mx : Int) < absI ep)
  let n := if out then a.follow + 1 else 0
  let ov := decide ((getV m AXL_VMEAS_MAX_MAX s : Int) < absI a.vMeas)
  let m := setAxl m s { a with follow := n }
  let m := if out && decide (getV m AXL_SUPV_FOLLOW_N s ≤ n) then axlFault m s E_AXL_FOLLOWING AXL_FLAGS_FOLLOWING 0 2 else m
  if ov then axlFault m s E_AXL_OVERSPEED AXL_FLAGS_OVERSPEED 1 3 else m

/-! ## Passes (R267, R268, R275, R285) -/

/-- A commit waiting is taken at the start of a pass (R299). -/
def takeCommit (m : Mach) (s : Nat) : Mach :=
  if onF m AXL_STAT_COMMIT_PEND s then
    setF ((List.range 28).foldl (fun m i => enforceReg m 7 (0x1010 + 0x100 * s + 4 * i)) m) AXL_STAT_COMMIT_PEND s 0
  else m

/-- A trigger of one kind was dropped (R268). -/
def passDropped (m : Mach) (s kind : Nat) : Mach :=
  axlReport (flag (incF m AXL_OVR_CNT_CNT s 1) AXL_FLAGS_OVERRUN s) s E_AXL_PASS_OVERRUN 0 kind

/-- The end of a pass: SAT_CNT counts one with a clamped integrator (R271); the last injection sample ends the run. -/
def endPass (m : Mach) (s : Nat) (clamped : Bool) : Mach := injDone (if clamped then incF m AXL_SAT_CNT_CNT s 1 else m) s

/-- The velocity reference of a local stop (R288): toward 0 by STOP_DEC. -/
def stopRef (v : Int) (dec : Nat) : Int := if absI v ≤ dec then 0 else v - signI v * dec

/-- The position and velocity laws of evaluation `k` with a valid word (R275 to R279). -/
def posEval (m : Mach) (s k c : Nat) : Bool × Mach :=
  let m := if injOn m s [0, 1] then injStep m s else m
  let mode := getF m AXL_MODE_LOOP_MODE s
  let a := axlSt m s
  let r := reference m s k
  let l := limitClamp m s (r.1 + injAt m s 0) r.2.1
  let m := l.1
  let ep := posError l.2.1 c
  match a.stop with
  | some cause =>
    let v := stopRef a.vRef (getV m AXL_STOP_DEC_DEC s)
    let m := setAxl m s { axlSt m s with vRef := v }
    let m := supervise m s ep
    if getF m AXL_STAT_STATE s = 0 then (false, m)
    else if v = 0 ∨ getV m AXL_STOP_DEC_DEC s = 0 then (false, endLocalStop m s cause)
    else velLaw (putVref m s v) s 0
  | none =>
    let m := setAxl m s { axlSt m s with pRef := l.2.1, vRef := l.2.2 }
    let m := if mode = 0 then setS m AXL_PERR_VAL s ep else m
    let m := supervise m s ep
    if getF m AXL_STAT_STATE s = 0 then (false, m)
    else if mode = 0 then velLaw (posLaw m s ep l.2.2) s r.2.2
    else if mode = 1 then velLaw (putVref m s (l.2.2 + injAt m s 1)) s r.2.2
    else if mode = 2 then (false, putIqRef (setAxl m s { axlSt m s with accIq := feedForward m s r.2.2 }) s)
    else (false, m)

/-- The first pass of an enable in modes 0 and 1 (R285). -/
def enableCheck (m : Mach) (s k c : Nat) : Mach :=
  let r := reference m s k
  let ep := posError (limitClamp m s r.1 r.2.1).2.1 c
  if absI ep ≤ getV m AXL_SUPV_ENA_WIN s then axlEnabled m s
  else
    let a := axlSt m s
    let m := setAxl (flag (setF m AXL_STAT_STATE s 0) AXL_FLAGS_ENABLE_WIN s) s { a with recFlags := a.recFlags ||| 8 }
    axlReport m s E_AXL_ENABLE_WIN 0 (absI ep).toNat

/-- A failed word at a pass (R289). -/
def missedWord (m : Mach) (s : Nat) : Mach :=
  let n := (axlSt m s).miss + 1
  let m := setAxl m s { axlSt m s with miss := n }
  if getV m AXL_SUPV_ENC_MISS_MAX s ≤ n then axlFault m s E_AXL_FEEDBACK AXL_FLAGS_FEEDBACK 2 3 else m

/-- PVC_PASS: the pass of evaluation `k` of slot `s` after its encoder word; `dropped` says that a trigger waiting before it
was dropped. -/
def pvcPass (s k : Nat) (dropped : Bool) (m : Mach) : Mach :=
  match slotPort m s with
  | none => m
  | some p =>
    if 16 ≤ s ∨ posN m s ≤ k then m
    else
      let m := takeCommit (if dropped then passDropped m s 0 else m) s
      if getF m AXL_STAT_STATE s = 0 then m
      else if !onF m ENC_STAT_VALID p then
        let m := missedWord m s
        if getF m AXL_STAT_STATE s < 2 then m
        else
          let r := curLaw m s (elecAngle m s (m.cyc.now - (axlSt m s).passT))
          endPass r.2 s r.1
      else
        let c := encC m p
        let m := advanceR m s c
        let m := setAxl m s { axlSt m s with miss := 0, vMeas := getS m ENC_SPD_V p }
        let m := if getF m AXL_STAT_STATE s = 1 then enableCheck m s k c else m
        if getF m AXL_STAT_STATE s < 2 then m
        else
          let q := if (axlSt m s).ending.isSome then (false, m) else posEval m s k c
          if getF q.2 AXL_STAT_STATE s < 2 then q.2
          else
            let r := curLaw q.2 s (elecAngle q.2 s 0)
            endPass r.2 s (q.1 || r.1)

/-- PVC_PASS. -/
def execPvcPass (s k : Nat) (dropped : Bool) (st : State) : Out := done (pvcPass s k dropped) st

/-- The main filter output of a channel from its data bits (10 R322). -/
def mainOutput (m : Mach) (s ch : Nat) (bits : List Bool) : Mach :=
  if !(getF m PWR_SD_CFG_EN s).testBit ch then m
  else sdValid (setS m (curF ch) s (sdValue m s ch 3 (getF m PWR_SD_CFG_OSR s + 3) bits)) s ch

/-- Whether the main filter gives its output at tick `t`: one window, and at most 30 ns more, after a SYNC event (10 R323). -/
def mainDue (m : Mach) (s t : Nat) : Bool :=
  let w := 8 * 2 ^ getF m PWR_SD_CFG_OSR s * getF m PWR_SD_CFG_MDIV s
  (pwrSt m s).sync.any (fun e => decide (e + w ≤ t ∧ t ≤ e + w + 24))

/-- C_PASS: the main filters of slot `s` give their outputs at tick `t`; `a`, `b`, `c` are the data bits of the channels up to the end of the
window. -/
def cPass (s : Nat) (a b c : List Bool) (t : Nat) (dropped : Bool) (m : Mach) : Mach :=
  if 16 ≤ s || !mainDue m s t then m
  else
    let m := passTo (setPwr m s { pwrSt m s with sync := none }) t
    let m := mainOutput (mainOutput (mainOutput m s 0 a) s 1 b) s 2 c
    let m := if dropped then passDropped m s 1 else m
    if getF m AXL_STAT_STATE s < 2 then m
    else
      let m := takeCommit m s
      let m := if injOn m s [2, 3] then injStep m s else m
      let x := axlSt m s
      let m := if x.ending.isSome then m
        else if getF m AXL_MODE_LOOP_MODE s = 2 ∧ x.stop.isNone then
          (if (slotPort m s).isNone then putIqRef (setAxl m s { x with accIq := feedForward m s (if x.age = 0 then x.aff else 0) }) s else putIqRef m s)
        else if getF m AXL_MODE_LOOP_MODE s < 2 then putIqRef m s else m
      let r := curLaw m s (elecAngle m s (m.cyc.now - (axlSt m s).passT))
      match (axlSt r.2 s).ending with
      | some cause => axlOff (gatesLow (if r.1 then incF r.2 AXL_SAT_CNT_CNT s 1 else r.2) s) s cause
      | none => endPass r.2 s r.1

/-- C_PASS. -/
def execCPass (s : Nat) (a b c : List Bool) (t : Nat) (dropped : Bool) (st : State) : Out := done (cPass s a b c t dropped) st

/-- AXL_COMMIT: a write of 1 to COMMIT.GO (R299). -/
def execAxlCommit (s : Nat) (st : State) : Out := done (fun m => if 16 ≤ s then m else domWrite 7 (0x100C + 0x100 * s) (fun m => setF m AXL_STAT_COMMIT_PEND s 1) m) st

end Sys2Proof.Machine
end

