-- ==== Sys2Proof/Machine/LadleCore.lean ====
section
/-! DEFINITION. The Ladle's dependence counters: what a decrement makes ready, and the end of an item (18 R514 to R522). -/

namespace Sys2Proof.Machine

/-- The graph's counters are [0, NCNT) (18 R516). -/
def graphCounter (m : Mach) (c : Nat) : Bool := decide (c < getF m LADLE_GRAPH_NCNT)

/-- The value of a dependence counter. -/
def counter (m : Mach) (c : Nat) : Nat := sget m.ladle.cnt c 0

/-- Sets a counter. -/
def putCounter (m : Mach) (c v : Nat) : Mach := { m with ladle := { m.ladle with cnt := sput m.ladle.cnt c (v % 65536) 0 } }

/-- Whether a flight belongs to the open graph instance or to none: the tag of a closed instance has no effect (R517). -/
def tagOpen (m : Mach) (f : Flight) : Bool := !f.graph || (m.ladle.isOpen && f.cycle == m.ladle.cycle)

/-- Replaces a flight. -/
def putFlight (m : Mach) (f f' : Flight) : Mach :=
  { m with ladle := { m.ladle with items := m.ladle.items.map (fun x => if x.num = f.num then f' else x) } }

/-- Takes a flight out. -/
def dropItem (m : Mach) (f : Flight) : Mach := { m with ladle := { m.ladle with items := m.ladle.items.filter (fun x => x.num != f.num) } }

/-- Item index in DETAIL: 0xFFFF for a submitted item (R528). -/
def itemIndex (f : Flight) : Nat := if f.graph then f.idx else 0xFFFF

/-- Writes the status word of a graph item (R518). -/
def statusWord (m : Mach) (f : Flight) (bits_ core : Nat) : Mach :=
  if f.graph then wrBytes m (getF m LADLE_STAT_ADDR_ADDR + 4 * f.idx) (leBytes 4 (bits_ + 32 * b2n f.unb + core * 256 + f.cycle % 65536 * 65536)) 2 else m

/-- The end of an item with the status bits `st`: LATE after its deadline, its status word, and the counters that it decrements,
none for a closed instance (R517, R518, R528). -/
def itemEnd (m : Mach) (f : Flight) (st core : Nat) : Mach × List Nat :=
  let late := f.dlAt.any (fun d => decide (d < m.cyc.now))
  let m := if late then logNode (flag (incF m LADLE_LATE_CNT_CNT 0 1) LADLE_FLAGS_DEADLINE) E_LADLE_DEADLINE (itemIndex f) else m
  let succs := if tagOpen m f then f.it.succs else []
  (dropItem (statusWord m f (st + 8 * b2n late) core) f, succs)

/-- The Crucible deadline of the current cycle in ticks (02 R64). -/
def crucDeadline (m : Mach) : Nat := m.cyc.start + nth (plan m) 2 - 1600
/-- The commit deadline of the current cycle in ticks (02 R64). -/
def commitDeadline (m : Mach) : Nat := m.cyc.start + nth (plan m) 2 - 800

/-- Whether two slots have a lane group in common. -/
def sharesGroup (m : Mach) (j k : Nat) : Bool := (slotGroups m j &&& slotGroups m k) != 0

/-- Puts a ready program among the ready ones: in order of their fabric cycles, within one in ascending slot; one that has a group in
common with a running program or with one before it is queued (05 R156). -/
def crucQueue (m : Mach) (k t : Nat) : List (Nat × Nat × Bool) :=
  let c := m.cruc
  let first := c.wait.takeWhile (fun w => decide (w.2.1 / 2 < t / 2 ∨ (w.2.1 / 2 = t / 2 ∧ w.1 < k)))
  let behind := (c.run.map (·.slot) ++ first.map (·.1)).any (sharesGroup m k)
  first ++ (k, t, behind) :: (c.wait.drop first.length).map (fun w => (w.1, w.2.1, w.2.2 || sharesGroup m k w.1))

/-- A Crucible program becomes ready (05 R156): outside the window this is only noted. Whether its groups are idle is judged here, at
readiness: DESIGN CHOICE (entry 91), the spec does not name the instant. `d` ticks are the dispatch delay of TEST. -/
def crucReady (m : Mach) (k d : Nat) : Mach :=
  let c := m.cruc
  if c.isOpen && decide (m.cyc.now < crucDeadline m) then crucSync { m with cruc := { c with wait := crucQueue m k (m.cyc.now + d) } }
  else { m with cruc := { c with outside := c.outside ++ [(k, m.cyc.n)] } }

/-- Whether the TEST dispatch delay acts on an item (25 R670), and the delay in ticks. -/
def testDelay (m : Mach) (f : Flight) : Bool × Nat :=
  let i := getF m TEST_LDL_ITEM_ITEM
  if unitOn m uLADLE && (i == 0xFFFF || (f.graph && i == f.idx)) then (true, 2 * getF m TEST_LDL_DLY_DLY) else (false, 0)

/-- Counts the action of the dispatch delay. -/
def delayHit (m : Mach) (f : Flight) : Mach := if (testDelay m f).1 then incF m TEST_HIT_CNT uLADLE 1 else m

/-- An item becomes ready: its new state and, for a JOIN item, its successors (R514, R519). -/
def makeReady (m : Mach) (f : Flight) : Mach × List Nat :=
  match f.it.kind with
  | 1 => (crucReady (putFlight (delayHit m f) f { f with st := .handed }) f.it.target (testDelay m f).2, [])
  | 2 => (putFlight (delayHit m f) f { f with st := .handed }, [])
  | 3 => itemEnd (delayHit m f) f 1 0xFF
  | _ =>
    let m := putFlight m f { f with st := .ready m.ladle.ord m.cyc.now }
    ({ m with ladle := { m.ladle with ord := m.ladle.ord + 1 } }, [])

/-- Makes items ready in order. -/
def readyAll (m : Mach) (l : List Flight) : Mach × List Nat :=
  l.foldl (fun (a : Mach × List Nat) f => let r := makeReady a.1 f; (r.1, a.2 ++ r.2)) (m, [])

/-- A decrement of a counter at 0 is an excess one (R519). -/
def excess (m : Mach) (c : Nat) : Mach :=
  logNode (flag (incF m LADLE_UNDER_CNT_CNT 0 1) LADLE_FLAGS_UNDERFLOW) E_LADLE_UNDERFLOW c

/-- One decrement: at the step from 1 to 0 every item waiting on the counter becomes ready, graph items in ascending index, then
in the order of submission (R519). -/
def decOnce (m : Mach) (c : Nat) : Mach × List Nat :=
  let v := counter m c
  if v = 0 then (excess m c, [])
  else
    let m := putCounter m c (v - 1)
    if 1 < v then (m, [])
    else
      let w := m.ladle.items.filter (fun f => f.st == .waiting && f.it.cnt == some c)
      readyAll m (w.filter (·.graph) ++ w.filter (fun f => !f.graph))

/-- Carries out a list of decrements and those that follow from JOIN items. -/
def runDecs : Nat → List Nat → Mach → Mach
  | 0, _, m => m
  | _ + 1, [], m => m
  | n + 1, c :: r, m =>
    let x := decOnce m c
    runDecs n (r ++ x.2) x.1

/-- More decrements than a command can cause: 65,535 written, and 60 for each of 256 items. -/
def decFuel : Nat := 90000

/-- Decrements the listed counters (R519). Without DEP_COUNTERS only graph counters operate (R520). -/
def decAll (m : Mach) (l : List Nat) : Mach := runDecs decFuel (l.filter (fun c => graphCounter m c || feature m 1)) m

/-- Ends an item and decrements its successors. -/
def finishItem (m : Mach) (f : Flight) (st core : Nat) : Mach :=
  let r := itemEnd m f st core
  decAll r.1 r.2

/-- The end of a Crucible program or a Runner step of the open instance (R519, 05 R156, 07 R224). -/
def finishKind (m : Mach) (kind target st : Nat) : Mach :=
  match m.ladle.items.find? (fun f => f.graph && f.it.kind == kind && f.it.target == target && tagOpen m f) with
  | some f => finishItem m f st 0xFF
  | none => m

/-- Whether a Runner step or a Crucible item of the open instance has had its turn. -/
def handedOver (m : Mach) (kind target : Nat) : Bool :=
  m.ladle.items.any (fun f => f.graph && f.it.kind == kind && f.it.target == target && tagOpen m f && f.st == .handed)

/-- Items in flight (R527). -/
def inFlight (m : Mach) : Nat := m.ladle.items.length

/-- Ready POOL items not dispatched. -/
def readyItems (m : Mach) : List Flight :=
  m.ladle.items.filter (fun f => f.it.kind == 0 && match f.st with | .ready _ _ => true | _ => false)

end Sys2Proof.Machine
end

