-- ==== Sys2Proof/Machine/Ladle.lean ====
section
/-! DEFINITION. The Ladle: the graph instance, dispatch, run limits and faults of items, submissions, statistics
(18 R514 to R532). -/

namespace Sys2Proof.Machine

/-! ## Pool cores as the Ladle sees them -/

/-- Whether a pool core is powered (R47, R533). -/
def coreOn (m : Mach) (c : Nat) : Bool := decide (c < 32) && domOn m (if c < 16 then dPOOLA else dPOOLB)

/-- The state of a core; 32 is the supervisor. -/
def coreSt (m : Mach) (c : Nat) : CoreSt := sget m.cores c {}

/-- Replaces the state of a core. -/
def putCore (m : Mach) (c : Nat) (k : CoreSt) : Mach := { m with cores := sput m.cores c k {} }

/-- The item that runs on a core, with the tick of its first instruction. -/
def running (m : Mach) (c : Nat) : Option (Flight × Nat) :=
  m.ladle.items.findSome? (fun f => match f.st with
    | .running k t => if k = c then some (f, t) else none
    | _ => none)

/-- Powered cores without an item, in ascending number. -/
def idleCores (m : Mach) : List Nat := (List.range 32).filter (fun c => coreOn m c && (running m c).isNone)

/-- A core becomes idle: its busy time in the cycle counts (R530). -/
def freeCore (m : Mach) (c since : Nat) : Mach :=
  let b := sget m.ladle.busyNow c 0 + (m.cyc.now - max since m.cyc.start)
  let m := { m with ladle := { m.ladle with busyNow := sput m.ladle.busyNow c b 0 } }
  let m := setF (setF (setF m LADLE_CORE_BUSY_ITEM c 0xFFFF) LADLE_CORE_BUSY_RSV c 0) CORE_RUN_RUN 0 (andNot (getF m CORE_RUN_RUN) (2 ^ c))
  { m with cores := sdel m.cores c }

/-- The end of the item on a core with the status bits `st` (R518, R537). -/
def coreEnd (m : Mach) (c st : Nat) : Mach :=
  match running m c with
  | none => m
  | some (f, since) => finishItem (freeCore m c since) f st c

/-- Reports a stopped item: RSV items of the graph take the class of REACTIONS with the motion groups mapped to the item, or the
cell; others LOG (R528). -/
def itemFault (m : Mach) (f : Flight) (code c : Nat) : Mach :=
  let det := itemIndex f + 65536 * c
  if f.graph && f.it.rsv then
    let cls := reacClass m code f.idx 2
    let gs := match reacOf m code f.idx with
      | some r => if r.groups = 0 then [(0, 0)] else (bitsOf 32 r.groups).map (fun g => (2, g))
      | none => [(0, 0)]
    let m' := report m code cls 1 (nodeId m) det
    { m' with reacts := if cls = 0 then m.reacts else m.reacts ++ gs.map (fun x => { cls := cls, kind := x.1, id := x.2 }) }
  else logNode m code det

/-- The port of a core (R38, R533). -/
def corePort (c : Nat) : Nat := if c < 16 then 5 else if c < 32 then 6 else 0

/-- A fault of a pool core (R549): its registers latch cause, PC offset and address, and the Ladle ends the item (R522). -/
def poolFault (m : Mach) (c cause addr : Nat) : Mach :=
  match running m c with
  | none => m
  | some (f, _) =>
    let m := setF (setF (setF (setF m CORE_FSTAT_CAUSE c cause) CORE_FSTAT_KERNEL c f.it.target) CORE_FPC_PC c ((coreSt m c).pc.toNat % 0x8000))
      CORE_FADDR_ADDR c (if cause = 2 ∨ cause = 3 ∨ cause = 4 then addr else 0)
    let m := irq (incF (flag m CORE_FLAGS_FAULT) CORE_FAULT_CNT_CNT 0 1) 106
    let m := if cause = 3 then accessDenied m (corePort c) addr else m
    let m := irq (incF (flag m LADLE_FLAGS_FAULT) LADLE_FAULT_CNT_CNT 0 1) 104
    let m := if cause = 7 then flag m LADLE_FLAGS_OVERRUN else m
    let m := itemFault m f (if cause = 7 then E_LADLE_OVERRUN else E_LADLE_ITEM_FAULT) c
    coreEnd m c (if cause = 7 then 6 else 2)

/-! ## The graph instance (R517) -/

/-- Closes the graph instance: POOL and JOIN items that have not started are dropped; CRUC and RUN items have been settled by
their own rules, and what is left of them leaves the Ladle. -/
def graphClose (m : Mach) : Mach :=
  if !m.ladle.isOpen then m
  else
    let mine := m.ladle.items.filter (fun f => tagOpen m f && f.graph)
    let started (f : Flight) : Bool := match f.st with | .running _ _ => true | _ => false
    let gone := mine.filter (fun f => (f.it.kind == 0 || f.it.kind == 3) && !started f)
    let m := gone.foldl (fun m f => statusWord m f 16 0xFF) m
    let m := (mine.filter (fun f => !started f)).foldl dropItem m
    let m := if gone.isEmpty then m else logNode (flag m LADLE_FLAGS_GRAPH_LATE) E_LADLE_GRAPH_LATE gone.length
    irq { m with ladle := { m.ladle with isOpen := false } } 105

/-- Opens the instance of the current cycle: counters with a waiting item take their INIT, items without a counter or with INIT 0
become ready. An instance that a step of cell time has left open closes first. -/
def graphOpen (m : Mach) : Mach :=
  let m := graphClose m
  let l := m.ladle
  let mk (x : Item × Nat) : Flight :=
    { num := l.num + x.2, idx := x.2, it := x.1, graph := true, cycle := m.cyc.n,
      dlAt := if x.1.dl = 0 then none else some (m.cyc.start + 16 * x.1.dl) }
  let fs := l.tpl.zipIdx.map mk
  let m := { m with ladle := { l with items := l.items ++ fs, num := l.num + fs.length, isOpen := true, opened := true, cycle := m.cyc.n } }
  let m := setF m LADLE_GRAPH_CYC_CYC 0 m.cyc.n
  let m := fs.foldl (fun m f => match f.it.cnt with | some c => putCounter m c (f.it.init.getD 0) | none => m) m
  let r := readyAll m (fs.filter (fun f => f.it.cnt.isNone || f.it.init == some 0))
  decAll r.1 r.2

/-- GRAPH_OPEN: the start of P2 on a manager or a standalone worker (02 R62) that does not take its snapshot from a partner (R517,
17 R495). -/
def graphOpenStep (m : Mach) : Mach :=
  if !m.mould.loaded || m.ladle.tpl.isEmpty || m.ladle.opened || m.cyc.skip || !runsRunner m || !computesAlone m || !domOn m dRUN then m
  else graphOpen (at' m (m.cyc.start + nth (plan m) 1))

/-- GRAPH_OPEN. -/
def execGraphOpen (s : State) : Out := done graphOpenStep s

/-! ## Dispatch (R521) -/

/-- Whether one item goes before another: RSV first; then the DL instant, which a submitted item has none of in priority mode; there PRIO
orders submitted items, graph items without DL before them (the model's choice, entry 149); last the order of becoming ready. -/
def itemBefore (m : Mach) (a b : Flight) : Bool :=
  let prioMode := getF m LADLE_CTRL_MODE == 1
  let lvl (f : Flight) : Bool := prioMode && !f.it.rsv && !f.graph
  let dl (f : Flight) : Nat := if lvl f then 2 ^ 64 else f.dlAt.getD (2 ^ 64)
  let level (f : Flight) : Nat := if lvl f then f.it.prio else 8
  let ord (f : Flight) : Nat := match f.st with | .ready o _ => o | _ => 0
  if a.it.rsv != b.it.rsv then a.it.rsv
  else if dl a ≠ dl b then decide (dl a < dl b)
  else if level a ≠ level b then decide (level b < level a)
  else decide (ord a < ord b)

/-- The first of the ready items. -/
def firstItem (m : Mach) (l : List Flight) : Option Flight :=
  l.foldl (fun a f => match a with | none => some f | some g => if itemBefore m f g then some f else some g) none

/-- The core that an item goes to: HOME if it is idle, otherwise the lowest idle one of its affinity. -/
def coreFor (m : Mach) (f : Flight) : Option Nat :=
  let l := (idleCores m).filter (fun c => f.it.affinity.testBit c)
  if l.contains f.it.home then some f.it.home else l.head?

/-- The histogram bin of a wait in ticks, 16 for a longer one (R529). -/
def waitBin (w : Nat) : Nat := ((List.range 16).filter (fun b => decide (48 * 2 ^ b ≤ w))).length

/-- Counts a dispatch with its wait; a long one of an item without RSV is the unbounded dispatch of R76. -/
def noteWait (m : Mach) (f : Flight) (c w : Nat) : Mach :=
  let m := incF m LADLE_CORE_DISP_CNT_CNT c 1
  let m := setF m LADLE_CORE_WAIT_MAX_MAX c (max (getF m LADLE_CORE_WAIT_MAX_MAX c) (min w (2 ^ 24 - 1)))
  let b := waitBin w
  if b < 16 then incF m LADLE_HIST_CNT (16 * c + b) 1
  else
    let m := incF m LADLE_CORE_LONG_CNT_CNT c 1
    if f.it.rsv then m
    else
      let said := m.ladle.longSaid
      let m := flag { m with ladle := { m.ladle with longSaid := true } } LADLE_FLAGS_LONG_WAIT
      if said then m else notice m E_LADLE_LONG_WAIT c

/-- The kernel table entry of an index (19 R557). -/
def ktabEntry (m : Mach) (i : Nat) : List Nat := rdBytes m (getF m CORE_KTAB_ADDR_ADDR * 32 + 32 * i) 32

/-- The state in which the first instruction of an item finds its core (19 R536). -/
def coreStart (f : Flight) (c : Nat) (e : List Nat) : CoreSt :=
  let base := 0x50000000 + 0x10000 * c
  let x : List (Nat × Nat) := [(4, f.it.arg), (5, if f.graph then f.idx else 0xFFFE), (6, f.cycle % 2 ^ 32), (29, base), (30, base + 0x10000)]
  { b := { x := x.foldl (fun r p => sput r p.1 (BitVec.ofNat 64 p.2) 0) [] }, pc := BitVec.ofNat 32 (base + 4 * field e 0 2), busy := true,
    item := itemIndex f, user := (field e 2 1).testBit 1, win := [(field e 8 4, field e 12 4), (field e 16 4, field e 20 4)] }

/-- ITEM_DISPATCH at cell time `t`: the first ready item that an idle core may run goes to its core and starts 16 fabric cycles
later, and later still by the delay of TEST; the core checks the kernel table entry (R521, R529, 19 R536, R558). -/
def itemDispatch (t : Nat) (m : Mach) : Mach :=
  if !onF m LADLE_CTRL_EN || !domOn m dRUN then m
  else
    let m := at' m t
    match firstItem m ((readyItems m).filter (fun f => (coreFor m f).isSome)) with
    | none => m
    | some f =>
      match coreFor m f with
      | none => m
      | some c =>
        let rdy := match f.st with | .ready _ k => k | _ => m.cyc.now
        let start := m.cyc.now + 32 + (testDelay m f).2
        let w := start - rdy
        let m := noteWait (delayHit m f) f c w
        let f' := { f with st := .running c start, unb := decide (1572864 ≤ w) && !f.it.rsv }
        let m := setF (setF (putFlight m f f') LADLE_CORE_BUSY_ITEM c (if f.graph then f.idx else 0xFFFE)) LADLE_CORE_BUSY_RSV c (b2n f.it.rsv)
        let m := setF m CORE_RUN_RUN 0 (getF m CORE_RUN_RUN ||| 2 ^ c)
        let e := ktabEntry m f.it.target
        let m := putCore m c (coreStart f' c e)
        if (field e 2 1).testBit 0 && (field e 4 4).testBit c && (decide (f.it.target < 512) || feature m 10) then m
        else poolFault m c 5 0

/-- ITEM_DISPATCH. -/
def execItemDispatch (t : Nat) (s : State) : Out := done (itemDispatch t) s

/-- The run limit of an item in core cycles (R522). -/
def runLimit (m : Mach) (f : Flight) : Nat :=
  let be := getF m LADLE_CFG_BE_LIM
  let l := if f.it.runLim = 0 then be else f.it.runLim
  if f.it.rsv then l else min l be

/-- RUN_LIMIT_EXPIRY: the item on core `c` has executed its limit; two core cycles are one tick (R522). -/
def runLimitExpiry (c : Nat) (m : Mach) : Mach :=
  match running m c with
  | none => m
  | some (f, since) => poolFault (at' m (since + ceilDiv (runLimit m f) 2)) c 7 0

/-- RUN_LIMIT_EXPIRY. -/
def execRunLimitExpiry (c : Nat) (s : State) : Out := done (runLimitExpiry c) s

/-! ## Counters (R519, R520) -/

/-- Sets a counter; items that wait on it become ready where it goes to 0. -/
def setCounter (m : Mach) (c v : Nat) : Mach :=
  let old := counter m c
  let m := putCounter m c v
  if old = 0 ∨ v % 65536 ≠ 0 then m
  else
    let w := m.ladle.items.filter (fun f => f.st == .waiting && f.it.cnt == some c)
    let r := readyAll m (w.filter (·.graph) ++ w.filter (fun f => !f.graph))
    decAll r.1 r.2

/-- COUNTER_SET: a write of LADLE_CNT_VAL. -/
def counterSet (v : Nat) (m : Mach) : Mach :=
  let c := getF m LADLE_CNT_IDX_IDX
  if graphCounter m c then badCfg m 3 0x204
  else if !feature m 1 then m
  else setCounter m c v

/-- COUNTER_SET. -/
def execCounterSet (v : Nat) (s : State) : Out := done (domWrite 3 0x204 (counterSet v)) s

/-- COUNTER_DECREMENT: a write of LADLE_CNT_DEC. -/
def counterDecrement (n : Nat) (m : Mach) : Mach :=
  decAll m (List.replicate (n % 65536) (getF m LADLE_CNT_IDX_IDX))

/-- COUNTER_DECREMENT. -/
def execCounterDecrement (n : Nat) (s : State) : Out := done (domWrite 3 0x208 (counterDecrement n)) s

/-! ## Submissions (R525 to R527) -/

/-- Whether the fields of a submitted entry follow R514 and R525. -/
def subFields (m : Mach) (d : List Nat) (it : Item) (ext : Bool) : Bool :=
  let mode := getF m LADLE_CTRL_MODE
  let idx (x : Nat) : Bool := x == 0xFFFF || decide (x < 4096)
  (it.kind == 0 || it.kind == 3) && field d 1 1 / 16 == 0 && idx (field d 8 2)
    && (List.range 4).all (fun i => idx (field d (12 + 2 * i) 2)) && (ext || field d 31 1 == 0)
    && (if it.kind = 0 then decide (it.target < 1024 ∧ it.home < 32) && (decide (it.target < 512) || feature m 10)
        else it.target == 0 && it.affinity == 0 && it.runLim == 0)
    && (if mode = 0 then it.prio == 0 else it.cnt.isNone)

/-- The cause of the first failing check of a submission, 0 for none (R526). `user` says that a user kernel submits. -/
def subCheck (m : Mach) (d : List Nat) (it : Item) (ext user : Bool) : Nat :=
  let powered := (List.range 32).any (fun c => it.affinity.testBit c && coreOn m c)
  let dynamic (c : Nat) : Bool := !graphCounter m c && decide (c < 4096)
  let subs := (m.ladle.items.filter (fun f => !f.graph)).length
  if getF m LADLE_CTRL_MODE = 2 || !subFields m d it ext || (user && it.kind == 0 && decide (it.target < 512)) then 1
  else if it.kind = 0 ∧ !(powered && it.affinity.testBit it.home) then 2
  else if it.rsv || decide (getF m LADLE_CFG_BE_LIM < it.runLim) then 3
  else if !((it.cnt.toList ++ it.succs).all dynamic) then 4
  else if 256 ≤ inFlight m ∨ 256 - getF m LADLE_GRAPH_NITEMS ≤ subs then 6
  else 0

/-- A submission: refused with the cause of its first failing check, or accepted (R520, R526). -/
def submit (m : Mach) (d : List Nat) (it : Item) (ext user : Bool) : Mach × Nat :=
  let c := subCheck m d it ext user
  if c ≠ 0 then
    (if c = 6 then flag (incF m LADLE_FULL_CNT_CNT 0 1) LADLE_FLAGS_FULL else m, c)
  else
    let m := match it.cnt, it.init with | some k, some v => setCounter m k v | _, _ => m
    let l := m.ladle
    let f : Flight :=
      { num := l.num, idx := 0xFFFE, it := it, cycle := m.cyc.n, dlAt := if it.dl = 0 then none else some (m.cyc.now + 16 * it.dl) }
    let m := { m with ladle := { l with items := l.items ++ [f], num := l.num + 1 } }
    if it.cnt.all (fun k => counter m k == 0) then
      let r := makeReady m f
      (decAll r.1 r.2, 0)
    else (m, 0)

/-- LADLE_SUBMIT: a write of `l` to LADLE_SUBMIT by a port. One that is not the supervisor's whole line is ignored and reported
with cause 5 (R526). -/
def ladleSubmit (port : Nat) (l : List Nat) (m : Mach) : Mach :=
  if port ≠ 0 ∨ l.length ≠ 32 then logNode m E_LADLE_SUBMIT (5 + 256 * 0x1F)
  else
    let r := submit m l (itemOf l []) false false
    let r := if r.2 = 0 then r else (logNode r.1 E_LADLE_SUBMIT (r.2 + 256 * 0x1F), r.2)
    setF (setF r.1 LADLE_SUB_STAT_SEQ 0 (getF m LADLE_SUB_STAT_SEQ + 1)) LADLE_SUB_STAT_RESULT 0 r.2

/-- LADLE_SUBMIT. -/
def execLadleSubmit (port : Nat) (l : List Nat) (s : State) : Out := done (domWrite 3 0x100 (ladleSubmit port l)) s

/-! ## Statistics (R529 to R531) -/

/-- DEPTH of a core. -/
def ladleDepth (m : Mach) (c : Nat) : Nat := ((readyItems m).filter (fun f => f.it.home == c)).length

/-- LADLE_STATUS. -/
def ladleStatus (m : Mach) : Nat := inFlight m + 65536 * (readyItems m).length + 2 ^ 25 * b2n m.ladle.isOpen

/-- The cycle boundary: the busy times of the cycle that ends join those of the last 64 cycles; key 32 holds the lengths. -/
def ladleBoundary (m : Mach) (endTick : Nat) : Mach :=
  let l := m.ladle
  let len := endTick - m.cyc.start
  let nowBusy (c : Nat) : Nat :=
    sget l.busyNow c 0 + (match running m c with | some (_, s) => endTick - max s m.cyc.start | none => 0)
  let push (p : Sparse (List Nat)) (k v : Nat) : Sparse (List Nat) := sput p k ((v :: sget p k []).take 64) []
  let past := (List.range 32).foldl (fun p c => push p c (nowBusy c)) (push l.busyPast 32 len)
  let total := max 1 ((sget past 32 []).foldl (· + ·) 0)
  let share (c : Nat) : Nat := min 65535 ((sget past c []).foldl (· + ·) 0 * 65536 / total)
  let m := { m with ladle := { l with busyNow := [], busyPast := past, opened := false, longSaid := false } }
  let m := (List.range 32).foldl (fun m c => setF m LADLE_CORE_LOAD_LOAD c (share c)) m
  let on := (List.range 32).filter (coreOn m)
  setF m LADLE_LOAD_LOAD 0 (min 65535 (on.foldl (fun s c => s + (sget past c []).foldl (· + ·) 0) 0 * 65536 / (total * max 1 on.length)))

/-- The block of LADLE_STATS. -/
def ladleBlock (m : Mach) : List Nat :=
  leBytes 8 m.cyc.n ++ leBytes 4 (getF m LADLE_LOAD_LOAD) ++ leBytes 4 (ladleStatus m) ++ leBytes 4 (getF m LADLE_FAULT_CNT_CNT)
    ++ leBytes 4 (getF m LADLE_LATE_CNT_CNT) ++ leBytes 4 (getF m LADLE_UNDER_CNT_CNT) ++ leBytes 4 (getF m LADLE_FULL_CNT_CNT)
    ++ List.replicate 32 0
    ++ (List.range 32).flatMap (fun c =>
        leBytes 4 (ladleDepth m c) ++ leBytes 4 (getF m LADLE_CORE_LOAD_LOAD c) ++ leBytes 4 (getF m LADLE_CORE_DISP_CNT_CNT c)
          ++ leBytes 4 (getF m LADLE_CORE_LONG_CNT_CNT c) ++ leBytes 4 (getF m LADLE_CORE_WAIT_MAX_MAX c) ++ List.replicate 12 0
          ++ (List.range 16).flatMap (fun b => leBytes 4 (getF m LADLE_HIST_CNT (16 * c + b))))

/-- LADLE_STATS (R531). -/
def ladleStats (j : Job) (m : Mach) : JobRes :=
  let r := dataOut m j.desc (ladleBlock m)
  { m := r.1, result := r.2 }

/-- LADLE_STATS. -/
def execLadleStats (j : Job) (s : State) : Out := done (runJob 0x0301 ladleStats j) s

end Sys2Proof.Machine
end

