-- ==== Sys2Proof/Machine/TwiBase.lean ====
section
/-! DEFINITION. Twira: ports and lines, the schedule in force, slot buffers and views, link training, and steps of cell time
(12 R351 to R356, R374 to R378; 13 R383 to R387; 02 R57). -/

namespace Sys2Proof.Machine

/-! ## Start-up state -/

/-- Sets STATE of TWI_STATUS; a change raises the interrupt source. -/
def setTwiState (m : Mach) (st : Nat) : Mach :=
  if getF m TWI_STATUS_STATE = st then m else irq (setF m TWI_STATUS_STATE 0 st) 245

/-- STATE of TWI_STATUS (13 R382). -/
def twiState (m : Mach) : Nat := getF m TWI_STATUS_STATE
/-- The mode in force. -/
def twiMode (m : Mach) : Nat := getF m TWI_STATUS_MODE

/-- The ports that R50 gives the node. -/
def twiPorts (m : Mach) : List Nat :=
  if isManager m then (List.range 8).filter (fun p => onF m TWI_LINE_CFG_EN (p / 2)) else [0, 1, 2, 3]

/-- Link training starts: the ports leave electrical idle (13 R383). A worker that has not integrated yet runs no cycles (13 R394). -/
def startTraining (m : Mach) : Mach :=
  let m := if isManager m || m.cyc.started then m else { m with cyc := { m.cyc with skip := true } }
  let m := { m with twi := { m.twi with started := true, waiting := false } }
  setTwiState ((twiPorts m).foldl (fun m p => setF m TWI_PORT_STATE p 1) m) 1

/-- Training starts once nothing makes it wait: WAIT_MS before PTP first lock (14 R418). -/
def netBegin (m : Mach) : Mach :=
  if twiState m ≠ 0 then m
  else if isManager m && getF m TIME_CTRL_WAIT_MS != 0 && !onF m TIME_STAT_FIRST_LOCK then
    { m with twi := { m.twi with waiting := true } }
  else startTraining m

/-! ## Ports, lines, positions (R351, R353, 01 R50) -/

/-- The local line of a port. -/
def portLine (m : Mach) (p : Nat) : Nat := if isManager m then p / 2 else 0
/-- The channel of a port. -/
def portCh (m : Mach) (p : Nat) : Nat := if isManager m then p % 2 else p / 2
/-- The line number of a local line. -/
def lineOf (m : Mach) (l : Nat) : Nat := if isManager m then l else m.twi.lineNo
/-- The ports of a local line and channel. -/
def lineChPorts (m : Mach) (l ch : Nat) : List Nat := if isManager m then [2 * l + ch] else [2 * ch, 2 * ch + 1]
/-- The port on which a frame that arrived on `p` goes on; a manager ends its line. -/
def farPort (m : Mach) (p : Nat) : Option Nat := if isManager m then none else some (if p % 2 = 0 then p + 1 else p - 1)
/-- Position of a node on a local line: from the line table, else from the model. -/
def posOf (m : Mach) (l node : Nat) : Option Nat :=
  match (sget m.twi.tables l []).idxOf? node with
  | some i => some i
  | none => if node = nodeId m ∧ onF m TWI_LINE_CFG_EN l then some (getF m TWI_LINE_CFG_POS l) else none

/-- The delay of the links between two positions. -/
def pathDelay (m : Mach) (l a b : Nat) : Nat :=
  let lo := min a b
  ((List.range (max a b - lo)).map (fun i => getF m TWI_LINK_DLY_DLY (16 * l + lo + i))).foldl (· + ·) 0

/-- The time from a node's transmit ball to this node's receive ball (R353). -/
def arrivalDelay (m : Mach) (l a b : Nat) : Nat := pathDelay m l a b + (max a b - min a b - 1) * 192

/-- The active manager as this node knows it. -/
def activeMgr (m : Mach) : Nat :=
  if isManager m then (if isActive m then nodeId m else 1 - nodeId m) else m.twi.activeNode

/-! ## The schedule in force (R363, 13 R387) -/

/-- Slot kinds 8 to 12 stand for the slots of mode 0: SYNC, POLL, REPLY, CFG, CFG_ACK. -/
def mode0 (l : Nat) : List SchedEnt :=
  let e (ch slot kind owner start plen : Nat) : SchedEnt :=
    { mode := 0, line := l, ch := ch, slot := slot, kind := kind, owner := owner, start := start, plen := plen, rx := 2 ^ 64 - 1 }
  [e 0 0 8 0 5376 32, e 0 1 8 1 5376 32, e 0 2 9 0x3F 21400 64, e 0 3 10 0x3E 37506 64, e 1 0 11 0x3F 5376 1024, e 1 1 12 0x3E 23940 64]

/-- Local lines that the node serves. -/
def servedLines (m : Mach) : List Nat := if isManager m then (List.range 4).filter (fun l => onF m TWI_LINE_CFG_EN l) else [0]

/-- The slots of the mode in force, with their local line in `line`. -/
def slotsNow (m : Mach) : List SchedEnt :=
  if twiMode m = 0 then (servedLines m).flatMap mode0
  else ((schedNow m).filter (fun e => e.mode == twiMode m)).map (fun e => { e with line := localLine m e.line })

/-- The handle of a slot (R374). -/
def slotHandle (e : SchedEnt) : Nat := (e.line * 2 + e.ch) * 256 + e.slot
/-- The slot of a handle in the mode in force. -/
def slotOf (m : Mach) (h : Nat) : Option SchedEnt := (slotsNow m).find? (fun e => slotHandle e == h)
/-- DUR of a frame (R355). -/
def frameDur (plen : Nat) : Nat := ceilDiv ((plen + 21) * 64) 25
/-- Ω of mode 0 (13 R388). -/
def omega : Nat := 5136

/-- Whether the node owns a slot: by its ID, as the active manager, or as the node named by POLL or CFG of the cycle. -/
def ownsSlot (m : Mach) (e : SchedEnt) : Bool :=
  if e.owner = 0x3F then isActive m
  else if e.owner = 0x3E then
    !isManager m && (sget m.twi.lines e.line {}).pollNode == some (nodeId m) && e.kind == 10
      || !isManager m && (sget m.twi.lines e.line {}).cfgNode == some (nodeId m) && e.kind == 12
  else e.owner == nodeId m

/-- Whether a node stores the frames of a slot. -/
def storesSlot (m : Mach) (e : SchedEnt) : Bool := !ownsSlot m e && e.rx.testBit (nodeId m)

/-- Class of the mode in force: 0 OPER, 1 TEST, 2 RECOVERY, 3 undefined or start-up (R366, R377). -/
def modeClass (m : Mach) (mode : Nat) : Nat := if mode = 0 then 3 else getF m TWI_MODE_CLASS_CLASS / 4 ^ (mode - 1) % 4

/-- SCHED_TAG of the mode in force (R356). -/
def modeTag (m : Mach) (mode : Nat) : Nat := if mode = 0 then 0 else getF m TWI_TAG_TAG (mode - 1)

/-- Sets OWNED of every slot for the mode in force, and ACTIVE_TX. -/
def refreshOwned (m : Mach) : Mach :=
  let m := resetF m TWI_SLOT_STAT_OWNED
  let m := ((slotsNow m).filter (ownsSlot m)).foldl (fun m e => setF m TWI_SLOT_STAT_OWNED (slotHandle e) 1) m
  setB m TWI_STATUS_ACTIVE_TX 0 (isActive m && twiState m == 6)

/-- Puts a mode into force: what is missed in its slots is counted from this cycle on. -/
def setMode (m : Mach) (mode : Nat) : Mach :=
  let m := { m with twi := { m.twi with slots := m.twi.slots.map (fun x => (x.1, { x.2 with acct := some (m.cyc.n - 1), got := 0 })) } }
  refreshOwned (irq (setF m TWI_STATUS_MODE 0 mode) 245)

/-! ## Slot buffers (R374 to R378) -/

/-- The buffers of a slot. -/
def slotSt (m : Mach) (h : Nat) : SlotSt := sget m.twi.slots h {}
/-- Address of buffer `b` of a slot. -/
def bufAddr (m : Mach) (h b : Nat) : Nat := getF m TWI_BUF_BASE_ADDR + (3 * h + b) * 1040
/-- The buffer that is free for writing. -/
def freeBuf (x : SlotSt) : Nat := ((List.range 3).find? (fun b => x.cur != some b && x.nxt != some b)).getD 0

/-- Replaces a slot's state and shows VIEW and FREE in its register. -/
def setSlot (m : Mach) (h : Nat) (x : SlotSt) : Mach :=
  let m := { m with twi := { m.twi with slots := sput m.twi.slots h x {} } }
  setF (setF m TWI_SLOT_STAT_VIEW h (x.cur.getD 0)) TWI_SLOT_STAT_FREE h (freeBuf x)

/-- Stores a frame that passed its checks: it becomes LAST (R375). -/
def storeFrame (m : Mach) (h : Nat) (l : List Nat) : Mach :=
  let x := slotSt m h
  let b := freeBuf x
  let m := wrBytes m (bufAddr m h b) l 8
  setSlot m h { x with nxt := some b, isNew := true, got := x.got + 1, nxtHdr := (field l 4 4, field l 3 1, (field l 2 1).testBit 4) }

/-- Publishes the free buffer of an owned slot (R378). -/
def publishSlot (m : Mach) (h : Nat) : Mach :=
  let x := slotSt m h
  setSlot m h { x with nxt := some (freeBuf x), isNew := true }

/-- A hardware producer writes a payload and publishes it (R379). -/
def publishPayload (m : Mach) (h : Nat) (l : List Nat) (port : Nat) : Mach :=
  publishSlot (wrBytes m (bufAddr m h (freeBuf (slotSt m h)) + 16) l port) h

/-- The occurrences up to cycle `latest` that have been missed since misses were last counted (R377): those of which no frame was stored.
The first view counts its own occurrence alone. -/
def missedSince (x : SlotSt) (latest : Nat) (isFresh : Bool) : Nat :=
  match x.acct with
  | some c => latest - c - min x.got (latest - c)
  | none => b2n !isFresh

/-- The view instant of a stored slot whose latest occurrence was in cycle `latest` (R375 to R377, 22 R609). -/
def viewSlot (m : Mach) (h latest : Nat) : Mach :=
  let x := slotSt m h
  let x := if x.isNew then { x with cur := x.nxt, nxt := none, isNew := false, curHdr := x.nxtHdr } else x
  let lat := latest % 2 ^ 32
  let r : Mach × Bool := match x.cur with
    | some b => logRead (bufAddr m h b) 1040 8 m
    | none => (m, false)
  let m := r.1
  let held := x.cur.isSome && !r.2
  let isFresh := held && x.curHdr.1 == lat
  let age := if isFresh then x.curHdr.2.1 else min 255 (x.curHdr.2.1 + (lat + 2 ^ 32 - x.curHdr.1) % 2 ^ 32)
  let shown := isFresh || (held && modeClass m (twiMode m) == 0)
  let missed := missedSince x latest isFresh
  let m := setSlot m h { x with wasFresh := isFresh, acct := some (max latest (x.acct.getD 0)), got := 0 }
  let m := if missed = 0 then m
    else
      let m := flag (incF m TWI_MISS_CNT_CNT 0 missed) TWI_FLAGS_MISS
      if x.wasFresh then irq (logNode m E_TWI_SLOT_MISS h) 244 else m
  let m := setB (setB m TWI_SLOT_STAT_EMPTY h (!shown)) TWI_SLOT_STAT_STALE h (shown && (!isFresh || x.curHdr.2.2))
  setF (setF m TWI_SLOT_STAT_AGE h (if shown then age else 0)) TWI_SLOT_STAT_CYCLE h (x.curHdr.1 % 2 ^ 16)

/-- View instants of all stored slots of the given kinds. -/
def viewKinds (m : Mach) (kinds : List Nat) (latest : Nat) : Mach :=
  ((slotsNow m).filter (fun e => kinds.contains e.kind && storesSlot m e)).foldl (fun m e => viewSlot m (slotHandle e) latest) m

/-- The payload that the VIEW of a slot presents, with its age; none where EMPTY. -/
def viewPayload (m : Mach) (h n : Nat) : Option (List Nat × Nat) :=
  if onF m TWI_SLOT_STAT_EMPTY h then none
  else (slotSt m h).cur.map (fun b => (rdBytes m (bufAddr m h b + 16) n, getF m TWI_SLOT_STAT_AGE h))

/-- A refused write of a TWI register. -/
def twiBadCfg (m : Mach) (off : Nat) : Mach := report m E_TWI_BAD_CFG 0 5 10 off

/-- TX_PUBLISH (R378): a write of a handle to TWI_TX_PUB. -/
def txPublish (h : Nat) (m : Mach) : Mach :=
  match slotOf m (h % 2048) with
  | some e => if ownsSlot m e then publishSlot m (h % 2048) else twiBadCfg m 0x400
  | none => twiBadCfg m 0x400

/-- TX_PUBLISH. -/
def execTxPublish (h : Nat) (s : State) : Out := done (domWrite 10 0x400 (txPublish h)) s

/-! ## Steps of cell time (02 R57) -/

/-- Cell time moves by `d` and the island's own clock does not (15 R434): what the island has stamped keeps its place on its clock. -/
def shiftIsland (d : Int) (m : Mach) : Mach :=
  let sh (l : List (Int × Int)) : List (Int × Int) := l.map (fun x => (x.1, x.2 + d))
  let s := m.safe
  { m with safe := { s with
      start := s.start + d
      obs := s.obs.map (fun x => (x.1, { x.2 with words := sh x.2.words, held := sh x.2.held }))
      sens := s.sens.map (fun x => (x.1, { x.2 with rx := x.2.rx.map (fun f => ((f.1 + d).toNat, f.2)) })) } }

/-- Cell time takes a new value at once: the cycle in progress ends, the rest of it is skipped; the Tap stops (20 R575) and no
marker goes before the next multiple of 200,000 ticks after the step (14 R431). An open Crucible window closes with the cycle that is cut
short (05 R154); what runs or waits in it is dropped and counts as no miss: DESIGN CHOICE (entry 132). The island takes the number of its cycle anew from
the first marker after the step (02 R73, entry 84). -/
def stepTime (m : Mach) (new : Nat) : Mach :=
  let m := tapHalt m
  let d : Int := (new : Int) - m.cyc.now
  let l := cycLen m
  let t := m.time
  let m := crucSync { m with cruc := { m.cruc with isOpen := false, cycle := none, run := [], wait := [], outside := [] } }
  let m := shiftIsland d m
  let shift (x : DomSt) : DomSt :=
    { x with samples := x.samples.map (fun s => (s.1 + d, s.2.1, s.2.2)), wait := x.wait.map (fun w => (w.1, w.2.1 + d, w.2.2)),
             ofs := x.ofs - d * 81920 }
  { m with
    cyc := { m.cyc with now := new, n := new / l, start := new / l * l, skip := true, snapped := false, committed := false },
    time := { t with yInt := t.yInt + d * 2 ^ 32, markerFrom := ceilDiv (new + 1) 200000 * 200000,
                     doms := t.doms.map (fun x => (x.1, shift x.2)), req := t.req.map (fun x => (x.1, x.2.1, x.2.2 + d)),
                     nbr := t.nbr.map (fun x => (x.1, x.2.map (fun p => (p.1, p.2 + d * 81920)))),
                     outs := t.outs.map (fun x => (x.1, stepOut d new (new / l * l + l) x.2)) },
    sys := { m.sys with wdtAt := ((m.sys.wdtAt : Int) + d).toNat },
    sup := { m.sup with t0 := ((m.sup.t0 : Int) + 2 * d).toNat },
    safe := { m.safe with anew := 1 } }

/-! ## Frames (R355 to R357) -/

/-- The header of a frame (R356). -/
def frameHeader (m : Mach) (line slot mode ch stale sync age len tag : Nat) (ack cold : Bool) (rate : Nat) : List Nat :=
  [nodeId m % 64 + line % 4 * 64, slot, mode % 8 + 8 * ch + 16 * stale + 32 * sync, age] ++ leBytes 4 m.cyc.n ++ leBytes 2 len
    ++ leBytes 2 (b2n ack + 2 * b2n (isActive m) + 4 * b2n cold + 8 * (rate % 2 ^ 13)) ++ leBytes 4 tag

/-- Sends a frame on a port with its CRC-32. -/
def sendFrame (m : Mach) (p : Nat) (l : List Nat) : Mach :=
  { m with out := { m.out with frames := m.out.frames ++ [(p, l ++ leBytes 4 (crc32 l))] } }

/-- Whether header, payload and CRC of received bytes agree. -/
def frameCrcOk (l : List Nat) : Bool :=
  decide (20 ≤ l.length) && crc32 (l.take (l.length - 4)) == leNat (l.drop (l.length - 4))

/-! ## Link training (13 R383 to R386) -/

/-- A port's link state. -/
def portSt (m : Mach) (p : Nat) : PortSt := sget m.twi.ports p {}
/-- Replaces it. -/
def setPort (m : Mach) (p : Nat) (x : PortSt) : Mach := { m with twi := { m.twi with ports := sput m.twi.ports p x {} } }
/-- Whether a port is admitted and may carry traffic. -/
def portUp (m : Mach) (p : Nat) : Bool := getF m TWI_PORT_STATE p == 3 && !(portSt m p).blocked

/-- CODE_GROUP_SYNC_ACQUIRED (13 R383): the receiver of a port in training has code-group synchronisation. -/
def codeGroupSync (p : Nat) (m : Mach) : Mach :=
  if p < 8 ∧ getF m TWI_PORT_STATE p = 1 then setF m TWI_PORT_STATE p 2 else m

/-- CODE_GROUP_SYNC_ACQUIRED. -/
def execCodeGroupSyncAcquired (p : Nat) (s : State) : Out := done (codeGroupSync p) s

/-- Whether a LINK frame sent at tick `t` lies outside every window of its port in mode 0, in this cycle and the next, and outside the own
insertions (13 R388). -/
def linkFits (m : Mach) (p t : Nat) : Bool :=
  (slotsNow m).all (fun e => e.line != portLine m p || e.ch != portCh m p ||
    ([m.cyc.start, m.cyc.start + cycLen m].all (fun c =>
      let a := c + e.start
      decide (t + frameDur 32 + omega + 240 ≤ a) || decide (a + frameDur e.plen + 2 * omega + 240 ≤ t))))
  && m.twi.own.all (fun o => o.1 != p || decide (t + frameDur 32 ≤ o.2.1) || decide (o.2.2 ≤ t))

/-- LINK_FRAME_SEND (13 R383, R384, R388): a LINK frame leaves port `p` at cell time `t`. -/
def linkFrameSend (p t : Nat) (m : Mach) : Mach :=
  let st := getF m TWI_PORT_STATE p
  let timed := twiMode m == 0 && (twiState m == 3 || twiState m == 4 || twiState m == 5)
  let free := twiState m == 1 || twiState m == 2 || (!timed && (st == 2 || st == 4))
  if 8 ≤ p ∨ st < 2 then m
  else
    let m := at' m t
    if !free && !(timed && linkFits m p t) then m
    else
      let x := portSt m p
      let h := frameHeader m 0 0xFF 0 (portCh m p) 0 0 0 32 0 false false 0
      let fl := b2n (isManager m) + 2 * portCh m p + 4 * p
      sendFrame m p (h ++ leBytes 8 (4 * t) ++ leBytes 8 x.echoTx ++ leBytes 8 x.echoRx ++ [nodeId m, fl] ++ List.replicate 6 0)

/-- LINK_FRAME_SEND. -/
def execLinkFrameSend (p t : Nat) (s : State) : Out := done (linkFrameSend p t) s

/-- The first condition of admission that a port fails (13 R385, R407), with its DETAIL. -/
def admitFail (m : Mach) (p : Nat) (l : List Nat) (dly : Int) : Option (Nat × Nat) :=
  let node := field l 24 1 % 64
  let line := lineOf m (portLine m p)
  let max_ := if (portSt m p).again then min 400 (m.mould.linkDlyMax.getD line 400) else 400
  if node = nodeId m ∨ (field l 25 1).testBit 1 != (portCh m p == 1) then some (E_TWI_LINK_MISWIRED, p + 256 * node)
  else if dly < 0 ∨ (4 * max_ : Nat) < dly then some (E_TWI_LINK_DELAY, p + 2 ^ 16 * (dly.toNat % 4096))
  else none

/-- A worker listens once a link is admitted; a manager at the next boundary of its own grid (13 R391). -/
def linkAdmitted (m : Mach) : Mach := if !isManager m && twiState m == 1 then setTwiState m 2 else m

/-- LINK_FRAME_RECEIVE (13 R384, R385): a LINK frame whose /S/ arrived at `t4` (in 1/4 ticks). -/
def linkFrameReceive (p t4 : Nat) (clean : Bool) (bytes : List Nat) (m : Mach) : Mach :=
  let st := getF m TWI_PORT_STATE p
  if 8 ≤ p ∨ st < 2 then m
  else
    let m := at' m (t4 / 4)
    let x := portSt m p
    if !clean || !frameCrcOk bytes || bytes.length != 52 then
      setPort (flag (incF m TWI_PORT_RX_CRC_CNT p 1) TWI_FLAGS_CRC_ERR) p { x with run := 0 }
    else
      let l := bytes.drop 16
      let t3 := field l 0 8
      let t1 := field l 8 8
      let t2 := field l 16 8
      let smp : List Int := if t1 = 0 then x.samples
        else lastN 16 (x.samples ++ [((t4 : Int) - t1) - ((t3 : Int) - t2)])
      let mean := if smp = [] then 0 else roundDiv (smp.foldl (· + ·) 0) (2 * smp.length)
      let x := { x with run := x.run + 1, samples := smp, echoTx := t3, echoRx := t4 }
      let m := setF (setF m TWI_PORT_PEER p (field l 24 1)) TWI_PORT_DLY p (clampI 0 4095 mean).toNat
      let m := incF (setPort m p x) TWI_PORT_RX_GOOD_CNT p 1
      if x.run < 16 ∨ st = 3 then m
      else match admitFail m p l mean with
        | some (e, d) =>
          let m := setF (setPort m p { x with refused := e }) TWI_PORT_STATE p 4
          if x.refused = e then m else logNode m e d
        | none => linkAdmitted (setF (setPort m p { x with refused := 0, blocked := x.again }) TWI_PORT_STATE p 3)

/-- LINK_FRAME_RECEIVE. -/
def execLinkFrameReceive (p t4 : Nat) (clean : Bool) (bytes : List Nat) (s : State) : Out :=
  done (linkFrameReceive p t4 clean bytes) s

/-- LINK_DOWN (13 R386). -/
def linkDown (p : Nat) (m : Mach) : Mach :=
  if 8 ≤ p ∨ getF m TWI_PORT_STATE p ≠ 3 then m
  else logNode (setPort (setF m TWI_PORT_STATE p 1) p { again := true }) E_TWI_LINK_DOWN p

/-- LINK_DOWN. -/
def execLinkDown (p : Nat) (s : State) : Out := done (linkDown p) s

end Sys2Proof.Machine
end

