-- ==== Sys2Proof/Machine/Locks.lean ====
section
/-! DEFINITION. The locks (04 R136 to R140): the checks before each one, among them the phase plan (02 R61) and the schedule
(12 R365), SET_LOCK and the writes of SYS_LOCK. -/

namespace Sys2Proof.Machine

/-- SYS_LOCK as one value. -/
def lockWord (l : Locks) : Nat := b2n l.cfg + 2 * b2n l.lim + 4 * b2n l.sch

/-! ## CFG_LOCK and LIMIT_LOCK -/

/-- The check before CFG_LOCK: a model is loaded and its stored image still matches its CRCs. -/
def cfgLockFail (m : Mach) : Option (Nat × Nat) :=
  if !m.mould.loaded then some (E_SYS_NO_MODEL, 0)
  else (step1 (wholeModel m m.mould.image) (rdBytes m 0x10000000 m.mould.image.length)).map (fun f => (E_SYS_MODEL_FORMAT, f.2.2 % 2 ^ 24 + f.2.1 % 256 * 2 ^ 24))

/-- The slots that the model configures on the node: those of its LIMITS records and of its axes. -/
def configuredSlots (m : Mach) : List Nat :=
  (List.range 16).filter (fun s => (slotAxis m s).isSome
    || (limitsRaw m.mould.image).any (fun r => field r 0 1 == nodeId m && field r 1 1 % 16 == s))

/-- The check before LIMIT_LOCK: DETAIL is the slot or the output. -/
def limitLockFail (m : Mach) : Option (Nat × Nat) :=
  match (configuredSlots m).find? (fun s => getF m PWR_PEAK_TRIP_THR s == 0 || decide (2 ^ 31 ≤ getF m PWR_MAX_DUTY_MAX s)
      || decide (getF m PWR_DT_LIM_DT_CEIL s < getF m PWR_DT_LIM_DT_FLOOR s)) with
  | some s => some (E_SYS_LIMIT_INVALID, s)
  | none => ((List.range 8).find? (fun o => onF m TIME_OUT_RLIM_USED o && getF m TIME_OUT_RLIM_RLIM o == 0)).map
      (fun o => (E_SYS_LIMIT_INVALID, o))

/-! ## The phase plan (02 R58, R61) -/

/-- Whether the node may use a length code; a worker whose part has code 0 may, since the manager has judged it (R126). -/
def lenUsable (m : Mach) (code : Nat) : Bool :=
  decide (1 ≤ code ∧ code < 5) || (code == 0 && (feature m 15 || (!isManager m && m.mould.loaded && (m.mould.features.testBit 15 || m.mould.cellLen == 0))))

/-- Conditions 1, 2, 4 and 6 of R61, which need no schedule. -/
def planShape (len : Nat) (p : List Nat) : Bool :=
  decide (nth p 0 < nth p 1 ∧ nth p 1 < nth p 2 ∧ nth p 2 < nth p 3 ∧ nth p 3 < len ∧ 4000 ≤ nth p 0
    ∧ nth p 1 + 16000 ≤ nth p 2 ∧ nth p 3 + 2000 ≤ len)

/-- Whether this node holds only its own part of the model: a networked worker (R126, log entry 86). -/
def onPart (m : Mach) : Bool := !isManager m && decide (2 ≤ m.mould.config)

/-- The workers on a line whose records this node holds. -/
def lineWorkers (m : Mach) (l : Nat) : List NodeRec := m.mould.nodes.filter (fun n => n.role == 0 && n.lines.testBit l)

/-- The cell axes of a node. -/
def axesOn (m : Mach) (n : Nat) : Nat := (m.mould.axes.filter (fun a => a.node == n)).length
/-- The encoder ports of a node that the gear master source owns. -/
def masterPorts (m : Mach) (n : Nat) : Nat := (m.mould.owners.filter (fun o => o.kind == 5 && o.func == 9 && o.node == n)).length

/-- Most gear event records of a SETPOINT slot for a worker. -/
def gevOf (m : Mach) (n : Nat) : Nat :=
  ((m.sched.filter (fun e => e.kind == 1 && e.rx.testBit n)).map (·.gev)).foldl max 0

/-- The nodes of a line with their positions (R351): from the records, or on a worker from the line table that it stores. -/
def linePos (m : Mach) (l : Nat) : List (Nat × Nat) :=
  let k := (lineWorkers m l).length
  if onPart m then
    if k = 0 then [] else (sget m.twi.tables 0 []).zipIdx.filter (fun x => x.1 != 0xFF)
  else (m.mould.nodes.filter (fun n => n.lines.testBit l)).map (fun n =>
    (n.node, if n.role = 0 then n.pos else if n.node = 0 then 0 else k + 1))

/-- Forwarding hops of the frame that travels farthest between the worker and a manager. -/
def hopsOf (m : Mach) (l pos : Nat) : Nat :=
  let ns := linePos m l
  let k := (ns.filter (fun n => decide (2 ≤ n.1))).length
  if m.mould.config = 3 then max (pos - 1) (k - pos)
  else if ns.any (fun n => n.1 == 0) then pos - 1 else k - pos

/-- Whether `len` ticks hold the traffic of every line (R53): 312.5 B/µs and 192 ticks a hop. A worker judges the traffic of its own
records. -/
def lineBound (m : Mach) (bytes : NodeRec → Nat) (len : Nat) : Bool :=
  (List.range 4).all (fun l =>
    let ws := lineWorkers m l
    let act := ws.filter (fun n => axesOn m n.node + masterPorts m n.node != 0)
    let sum := (act.map (fun n => bytes n + 40)).foldl (· + ·) 0
    let hops := (act.map (fun n => hopsOf m l n.pos)).foldl max 0
    decide (64 * sum + 25 * 192 * hops ≤ 25 * len))

/-- Uplink bytes of a worker. -/
def upBytes (m : Mach) (n : NodeRec) : Nat := 32 * (axesOn m n.node + masterPorts m n.node)
/-- Downlink bytes of a worker. -/
def downBytes (m : Mach) (n : NodeRec) : Nat := 24 * axesOn m n.node + 8 * gevOf m n.node

/-- The plan that the registers select. -/
def planWritten (m : Mach) : List Nat :=
  if onF m TIME_CYCLE_CFG_PLAN_CUSTOM then
    [getF m TIME_PHASE_1_START, getF m TIME_PHASE_2_START, getF m TIME_PHASE_3_START, getF m TIME_PHASE_4_START]
  else defaultPlan (getF m TIME_CYCLE_CFG_LEN)

/-- The first condition of R61 that the plan fails; 6 for a length that the node may not use. -/
def planFail (m : Mach) : Option Nat :=
  let code := getF m TIME_CYCLE_CFG_LEN
  let p := planWritten m
  let len := lenTicks code
  if !lenUsable m code then some 6
  else if !decide (nth p 0 < nth p 1 ∧ nth p 1 < nth p 2 ∧ nth p 2 < nth p 3) then some 1
  else if nth p 0 < 4000 then some 2
  else if !lineBound m (upBytes m) (nth p 1 - nth p 0) then some 3
  else if nth p 2 < nth p 1 + 16000 then some 4
  else if !lineBound m (downBytes m) (nth p 3 - nth p 2) then some 5
  else if len < nth p 3 + 2000 then some 6
  else none

/-! ## The schedule (12 R365) -/

/-- The position of a node of a line. -/
def posIn (ns : List (Nat × Nat)) (n : Nat) : Option Nat := (ns.find? (fun x => x.1 == n)).map (·.2)

/-- The positions from which a slot may be sent, with the end that the active manager holds. -/
def ownerPos (ns : List (Nat × Nat)) (act : Nat) (e : SchedEnt) : Option Nat := posIn ns (if e.owner = 0x3F then act else e.owner)

/-- The managers that may be active on a line. -/
def ends (ns : List (Nat × Nat)) : List Nat := (ns.map (·.1)).filter (fun n => decide (n < 2))

/-- The window of a slot at a position, over all link delays: its earliest and its latest instant. -/
def slotWindow (dmax : Nat) (e : SchedEnt) (a b : Nat) : Int × Nat :=
  let n := max a b - min a b
  ((e.start : Int) + (n - 1) * 192 - 240, e.start + n * dmax + (n - 1) * 192 + frameDur e.plen + 240)

/-- The phase in which windows of a kind must lie (R365 condition 4). -/
def phaseOf (m : Mach) (p : List Nat) (kind : Nat) : Nat × Nat :=
  let len := lenTicks (getF m TIME_CYCLE_CFG_LEN)
  match kind with
  | 0 => (nth p 0, nth p 1)
  | 1 => (nth p 2, nth p 3)
  | 5 => (nth p 3, len - 800)
  | _ => (0, len - 800)

/-- Condition 4 for one slot. -/
def windowsOk (m : Mach) (p : List Nat) (ns : List (Nat × Nat)) (dmax : Nat) (e : SchedEnt) : Bool :=
  let ph := phaseOf m p e.kind
  (ends ns).all (fun act => match ownerPos ns act e with
    | none => true
    | some a => ns.all (fun n => n.2 == a ||
        (let w := slotWindow dmax e a n.2
         decide ((ph.1 : Int) ≤ w.1 ∧ w.2 ≤ ph.2))))

/-- Condition 5 for two slots of a channel: wherever both leave a node in one direction, whatever the link delays, one follows
the other by at least its (PLEN + 40) code-groups. -/
def gapOk (ns : List (Nat × Nat)) (dmax : Nat) (e f : SchedEnt) : Bool :=
  (ends ns).all (fun act => match ownerPos ns act e, ownerPos ns act f with
    | some a, some b =>
      let last := (ns.map (·.2)).foldl max 0
      let n := max a b - min a b
      let dir (far : Bool) : Bool :=
        -- `far`: toward the rank-1 end, where frames from the lower position pass the path between the two
        if (if far then max a b == last else min a b == 0) then true
        else
          let eFirst := if far then decide (a ≤ b) else decide (b ≤ a)
          let base : Int := (f.start : Int) - e.start
          let lo : Int := if eFirst then base - n * (192 + dmax : Nat) else base + n * 192
          let hi : Int := if eFirst then base - n * 192 else base + n * (192 + dmax : Nat)
          decide (64 * ((e.plen : Int) + 40) ≤ 25 * lo) || decide (64 * ((f.plen : Int) + 40) ≤ -(25 * hi))
      dir true && dir false
    | _, _ => true)

/-- Whether no later slot of a list comes too close. -/
def gapsFail (ns : List (Nat × Nat)) (dmax : Nat) : List SchedEnt → Option SchedEnt
  | [] => none
  | e :: r => if r.all (gapOk ns dmax e) then gapsFail ns dmax r else some e

/-- The worker that a SETPOINT slot addresses: the only one in its RX mask. -/
def addressee (m : Mach) (e : SchedEnt) : Option Nat :=
  let ws := if onPart m then ((linePos m e.line).map (·.1)).filter (fun n => decide (2 ≤ n))
    else (m.mould.nodes.filter (fun n => n.role == 0)).map (·.node)
  match ws.filter e.rx.testBit with
  | [n] => some n
  | _ => none

/-- Condition 2 for one slot; a worker judges the slots of its own records. -/
def lengthOk (m : Mach) (e : SchedEnt) : Bool :=
  let judged (n : Nat) : Bool := !onPart m || n == nodeId m
  e.plen % 4 == 0 && decide (e.plen ≤ 1024)
    && (e.kind != 0 || !judged e.owner || e.plen == 32 * (axesOn m e.owner + masterPorts m e.owner))
    && (e.kind != 1 || (addressee m e).any (fun n => !judged n || e.plen == 24 * axesOn m n + 8 * e.gev))

/-- Condition 8 for one line of a pair. -/
def witnessOk (m : Mach) (p : List Nat) (ns : List (Nat × Nat)) (dmax : Nat) (es : List SchedEnt) : Bool :=
  let wit := es.filter (fun e => e.kind == 3 && e.ch == 1)
  let len := lenTicks (getF m TIME_CYCLE_CFG_LEN)
  let inP4 (e : SchedEnt) : Bool := windowsOk m p ns dmax e && ns.all (fun n => (posIn ns e.owner).all (fun a => n.2 == a ||
    (let w := slotWindow dmax e a n.2; decide ((nth p 3 : Int) ≤ w.1 ∧ w.2 ≤ len))))
  ns.all (fun n => match wit.filter (fun e => e.owner == n.1) with
    | [e] => e.plen == (if n.1 < 2 then 32 else 16) && inP4 e
        && (decide (n.1 < 2) || (wit.filter (fun f => decide (f.owner < 2))).all (fun f =>
              (posIn ns f.owner).all (fun a => decide ((slotWindow dmax f a n.2).2 ≤ e.start))))
    | _ => false)

/-- The first condition that a mode fails, with line, channel and slot. -/
def modeFail (m : Mach) (mode : Nat) : Option (Nat × Nat × Nat × Nat) :=
  let p := planWritten m
  let es := m.sched.filter (fun e => e.mode == mode)
  let ls := (List.range 4).filter (fun l => es.any (fun e => e.line == l) || onF m TWI_LINE_CFG_EN (localLine m l) && (linePos m l).any (fun n => n.1 == nodeId m))
  let of (l c : Nat) : List SchedEnt := es.filter (fun e => e.line == l && e.ch == c)
  let at_ (c : Nat) (e : SchedEnt) : Nat × Nat × Nat × Nat := (c, e.line, e.ch, e.slot)
  let cond (c : Nat) (ok : SchedEnt → Bool) : Option (Nat × Nat × Nat × Nat) := (es.find? (fun e => !ok e)).map (at_ c)
  let dm (l : Nat) : Nat := m.mould.linkDlyMax.getD l 0
  let plan4 := nth p 3
  let oper := modeClass m mode == 0
  let lineFail (c : Nat) (ok : Nat → Bool) : Option (Nat × Nat × Nat × Nat) := (ls.find? (fun l => !ok l)).map (fun l => (c, l, 0, 0))
  [cond 1 (fun e => e.kind != 7 && decide (e.gev ≤ 4) && (e.kind == 1 || e.gev == 0)
      && ((of e.line e.ch).filter (fun f => f.slot == e.slot)).length == 1),
   cond 2 (lengthOk m),
   cond 3 (fun e => (e.owner == 0x3F || (posIn (linePos m e.line) e.owner).isSome) && !(ends (linePos m e.line)).isEmpty),
   cond 4 (fun e => windowsOk m p (linePos m e.line) (dm e.line) e),
   ls.findSome? (fun l => [0, 1].findSome? (fun c => (gapsFail (linePos m l) (dm l) (of l c)).map (at_ 5))),
   if oper then lineFail 6 (fun l =>
     (ends (linePos m l)).all (fun act => (linePos m l).all (fun n => es.any (fun e =>
       e.line == l && (e.owner == n.1 || (e.owner == 0x3F && n.1 == act)) && decide (nth p 0 ≤ e.start ∧ e.start < plan4))))) else none,
   if oper then lineFail 7 (fun l =>
     ((lineWorkers m l).filter (fun n => axesOn m n.node + masterPorts m n.node != 0)).all (fun n =>
       ((of l 0).filter (fun e => e.kind == 0 && e.owner == n.node)).length == 1
         && ((of l 0).filter (fun e => e.kind == 1 && addressee m e == some n.node)).length == 1)) else none,
   if oper && m.mould.config == 3 then lineFail 8 (fun l => witnessOk m p (linePos m l) (dm l) (es.filter (fun e => e.line == l))) else none].findSome? id

/-- The first failure of the schedule checks as DETAIL: modes in ascending order; then START_MODE (13 R409). -/
def schedFail (m : Mach) : Option Nat :=
  if m.mould.config < 2 then none
  else
    let det (mode : Nat) (x : Nat × Nat × Nat × Nat) : Nat := x.1 + 16 * mode + 128 * x.2.1 + 512 * x.2.2.1 + 1024 * x.2.2.2
    match [1, 2, 3, 4, 5, 6, 7].findSome? (fun k => if modeClass m k = 3 then none else (modeFail m k).map (det k)) with
    | some d => some d
    | none =>
      let st := getF m TWI_SU_CFG_START_MODE
      if st = 0 ∨ modeClass m st ≠ 0 then some (16 * st) else none

/-- The check before SCHED_LOCK. -/
def schedLockFail (m : Mach) : Option (Nat × Nat) :=
  match planFail m with
  | some c => some (E_TIME_PLAN_INVALID, c)
  | none => (schedFail m).map (fun d => (E_TWI_SCHED_INVALID, d))

/-! ## Setting -/

/-- Sets one lock, or reports why not (R136): the state and the code of the failure. -/
def setLock (have_ pre : Bool) (fail : Option (Nat × Nat)) (put : Locks → Locks) (m : Mach) : Mach × Nat :=
  if have_ then (m, E_OK)
  else if !pre then (logNode m E_SYS_LOCK_ORDER 0, E_SYS_LOCK_ORDER)
  else match fail with
    | some (code, det) => (logNode m code det, code)
    | none =>
      let m := { m with locks := put m.locks }
      (notice m E_SYS_LOCK_SET (lockWord m.locks), E_OK)

/-- CFG_LOCK. -/
def setCfgLock (m : Mach) : Mach × Nat := setLock m.locks.cfg true (cfgLockFail m) (fun l => { l with cfg := true }) m

/-- LIMIT_LOCK. -/
def setLimitLock (m : Mach) : Mach × Nat := setLock m.locks.lim m.locks.cfg (limitLockFail m) (fun l => { l with lim := true }) m

/-- SCHED_LOCK, with PLAN_VALID (02 R77). -/
def setSchedLock (m : Mach) : Mach × Nat :=
  let r := setLock m.locks.sch m.locks.lim (schedLockFail m) (fun l => { l with sch := true }) m
  (if r.1.locks.sch then flag r.1 TIME_PHASE_STAT_PLAN_VALID else r.1, r.2)

/-- The requested locks one at a time, up to the first failure (R137). -/
def setLocks (mask : Nat) (m : Mach) : Mach × Nat :=
  let go (r : Mach × Nat) (b : Bool) (f : Mach → Mach × Nat) : Mach × Nat := if b && r.2 == 0 then f r.1 else r
  go (go (go (m, E_OK) (mask.testBit 0) setCfgLock) (mask.testBit 1) setLimitLock) (mask.testBit 2) setSchedLock

/-- SET_LOCK (R137). -/
def setLockJob (j : Job) (m : Mach) : JobRes :=
  let r := setLocks (j.desc.par 0 % 8) m
  { m := r.1, status := r.2, result := lockWord r.1.locks }

/-- SET_LOCK. -/
def execSetLock (j : Job) (s : State) : Out := done (runJob 0x0002 setLockJob j) s

/-- CFG_LOCK_SET. -/
def execCfgLockSet (s : State) : Out := done (fun m => (setCfgLock m).1) s
/-- LIMIT_LOCK_SET. -/
def execLimitLockSet (s : State) : Out := done (fun m => (setLimitLock m).1) s
/-- SCHED_LOCK_SET. -/
def execSchedLockSet (s : State) : Out := done (fun m => (setSchedLock m).1) s

/-- AUTO_START (13 R405): a manager whose SCHEDULE sets AUTO sets its locks after the load from its boot flash and starts as on
NET_START. DEDUCED (entry 121): a worker that has no model or one of a network trains its links once its firmware runs, since no
job reaches it before. -/
def autoStart (m : Mach) : Mach :=
  if isManager m && m.mould.loaded && onF m TWI_SU_CFG_AUTO then
    let r := setLocks 7 m
    if r.2 = 0 then netBegin r.1 else r.1
  else if !isManager m && blockOn m 10 && getF m SYS_BOOT_STAT_PHASE == 4 && !(m.mould.loaded && m.mould.config == 0) then netBegin m
  else m

/-- AUTO_START. -/
def execAutoStart (s : State) : Out := done autoStart s

end Sys2Proof.Machine
end

