-- ==== Sys2Proof/Machine/Limits.lean ====
section
/-! DEFINITION. Limit inputs of the axis slots (08 R260 to R264) on the node that holds the slot. -/

namespace Sys2Proof.Machine

/-- The measured position of a slot's axis as an extended position (R261). -/
def measuredPos (m : Mach) (s : Nat) : Int :=
  match slotPort m s with
  | some k => let x := get64 m ENC_XPOS_LO_X ENC_XPOS_HI_X k
              sgn 64 x + diff40 (encC m k) x
  | none => 0

/-- The clamp position that an input in a mode sets at its acceptance (R261, R262). -/
def clampAt (m : Mach) (s mode : Nat) (neg : Bool) (p : Int) : Int :=
  let d : Int := if mode = 2 then getF m RUN_LIM_MARGIN_MARGIN s else 0
  if neg then p - d else p + d

/-- Whether the alternate inputs of a slot are taken and their pins owned (R260). -/
def altOwned (m : Mach) (s : Nat) (neg : Bool) : Bool := ownerOf m 1 (2 * s + b2n neg) == some 2

/-- LIMIT_INPUT_CHANGE: input `neg` of slot `s` shows a level for `held` µs. Each input keeps its own clamp; while both are active the
position of the later acceptance rules (R263). -/
def limitInput (s : Nat) (neg level : Bool) (held : Nat) (m : Mach) : Mach :=
  if 16 ≤ s || !blockOn m 7 then m
  else
    let m := passTo m m.cyc.now
    let l := sget m.lims s {}
    let m := { m with lims := sput m.lims s (if neg then { l with rawN := level } else { l with rawP := level }) {} }
    let mode := getF m (if neg then RUN_LIM_CFG_N_MODE else RUN_LIM_CFG_P_MODE) s
    let act := level != onF m (if neg then RUN_LIM_CFG_N_POL else RUN_LIM_CFG_P_POL) s
    let fl := if neg then RUN_LIM_STAT_N_ACT else RUN_LIM_STAT_P_ACT
    let was := (getF m fl).testBit s
    if mode == 0 || decide (held < getF m RUN_LIM_CFG_FILT s) || (onF m RUN_LIM_CFG_ALT s && !altOwned m s neg) || act == was then m
    else
      let m := irq (setSlotBit m fl s act) (192 + s)
      let m := axlReport m s (if act then E_RUN_LIMIT_ACTIVE else E_RUN_LIMIT_CLEAR) 7 (b2n neg)
      let p := measuredPos m s
      let l := sget m.lims s {}
      if !act then
        let l := if neg then { l with neg := none } else { l with pos := none }
        { m with lims := sput m.lims s { l with said := false, both := none } {} }
      else
        let other := (getF m (if neg then RUN_LIM_STAT_P_ACT else RUN_LIM_STAT_N_ACT)).testBit s
        let c := clampAt m s mode neg p
        let l := if neg then { l with neg := some c } else { l with pos := some c }
        if other then
          let m := { m with lims := sput m.lims s { l with both := some p } {} }
          let g := ((slotAxis m s).map (·.group)).getD 0
          let i := ((slotAxis m s).map (·.axis)).getD 0xFFFF
          report m E_RUN_LIMIT_BOTH (reacClass m E_RUN_LIMIT_BOTH i 1) 2 g s i
        else { m with lims := sput m.lims s l {} }

/-- LIMIT_INPUT_CHANGE. -/
def execLimitInputChange (s : Nat) (neg level : Bool) (held : Nat) (st : State) : Out := done (limitInput s neg level held) st

end Sys2Proof.Machine
end

