-- ==== Sys2Proof/Machine/Lanes.lean ====
section
/-! DEFINITION. Lane arithmetic of the Crucible and its function unit: products, alignment, accumulators, write-backs with
saturation and range check, RECIP, RSQRT, and the two factorisations (05 R158 to R160, R170, 06 R183, R184). -/

namespace Sys2Proof.Machine

/-! ## Numbers and destinations -/

/-- A stored number and its fraction bits (04 R133). -/
structure Num where
  v : Int := 0
  f : Nat := 0
  deriving DecidableEq, Repr

/-- What a run computes with: the FORMATS entries, the model, its slot; `all` where every quantity has its own entry (06 R176). -/
structure Lane where
  fmts : List FmtRec := []
  model : Nat := 0
  slot : Nat := 0
  all : Bool := false
  deriving DecidableEq, Repr

/-- A computation of a run: it adds to what the run has met. -/
abbrev Run (α : Type) := StateM RunMet α

/-- The destination of a write-back: the quantity of the spec's procedure, its element, the fraction bits where its class or a joint
record gives them, and whether FORMATS may hold an entry for it (entry 40). -/
structure Dest where
  name : String := ""
  elem : Nat := 0
  fix : Option Nat := none
  chk : Bool := true
  deriving DecidableEq, Repr

/-- A destination of a class with a fixed format (R133): Length and rates 23, Angle 28, rotation 30. -/
def Dest.cls (name : String) (f : Nat) (i : Nat := 0) : Dest := { name := name, elem := i, fix := some f, chk := false }

/-- The FORMATS entry of a destination (04 R134). -/
def Lane.entry (x : Lane) (d : Dest) : Option FmtRec :=
  if d.chk || x.all then x.fmts.find? (fun e => e.var == Config.programVar x.model x.slot d.name d.elem) else none

/-- The fraction bits of a destination. -/
def Lane.frac (x : Lane) (d : Dest) : Nat :=
  match d.fix with
  | some f => f
  | none => match x.entry d with
    | some e => e.shift
    | none => Config.programShift x.model x.slot d.name d.elem % 32

/-- 1. -/
def one : Num := { v := 2 ^ 30, f := 30 }
/-- The negative. -/
def neg (a : Num) : Num := { a with v := -a.v }
/-- Half. -/
def half (a : Num) : Num := { a with f := a.f + 1 }
/-- Twice. -/
def dbl (a : Num) : Num := { a with v := 2 * a.v }
/-- Element `i`. -/
def nn (l : List Num) (i : Nat) : Num := l.getD i {}
/-- Values of one format. -/
def nums (f : Nat) (l : List Int) : List Num := l.map (fun v => { v := v, f := f })
/-- Values held with 64 fraction bits, in the format that they come from. -/
def fromFx (f : Nat) (l : List Fx) : List Num := nums f (l.map (toFmt f))
/-- The stored values. -/
def vals (l : List Num) : List Int := l.map (·.v)
/-- The zero vector of a format. -/
def z3 (f : Nat) : List Num := nums f v0

/-! ## Write-back (R158, R160) -/

/-- Saturation to 32 bits and the range check; `hit` says that the accumulator has saturated. -/
def Lane.settle (x : Lane) (d : Dest) (r : Int) (hit : Bool) : Run Num := do
  let v := sat 32 r
  if hit || satHit 32 r then modify (fun l => { l with sats := l.sats + 1 })
  match x.entry d with
  | some e =>
    if v < e.lo ∨ e.hi < v then modify (fun l => { l with viol := l.viol ++ [e.var] })
    pure { v := clampI e.lo e.hi v, f := x.frac d }
  | none => pure { v := v, f := x.frac d }

/-- Addition into the 72-bit accumulator, term by term; whether it has saturated. -/
def accum (l : List Int) : Int × Bool := l.foldl (fun a p => (sat 72 (a.1 + p), a.2 || satHit 72 (a.1 + p))) (0, false)

/-- The fraction bits in which the products of an instruction are accumulated: ALN shifts them right, not beyond the destination. -/
def Lane.accFrac (x : Lane) (d : Dest) (ts : List (Num × Num)) : Nat :=
  let fs := ts.map (fun t => t.1.f + t.2.f)
  let mn := fs.foldl min (fs.headD 0)
  min mn (max (x.frac d) (mn - Config.programAlign x.model x.slot d.name d.elem % 32))

/-- A sum of products with its write-back: each product exact, aligned with convergent rounding, accumulated, shifted to the format of
the destination with convergent rounding, saturated, checked (R158). -/
def Lane.mac (x : Lane) (d : Dest) (ts : List (Num × Num)) : Run Num :=
  let fa := x.accFrac d ts
  let fd := x.frac d
  let a := accum (ts.map (fun t => roundShift (t.1.v * t.2.v) (t.1.f + t.2.f - fa)))
  x.settle d (if fd ≤ fa then roundShift a.1 (fa - fd) else a.1 * 2 ^ (fd - fa)) a.2

/-- Terms of a sum of numbers. -/
def plus (l : List Num) : List (Num × Num) := l.map (fun a => (a, one))
/-- Terms of a vector product, component `i`. -/
def crossT (a b : List Num) (i : Nat) : List (Num × Num) :=
  let j := (i + 1) % 3
  let k := (i + 2) % 3
  [(nn a j, nn b k), (neg (nn a k), nn b j)]
/-- Row `i` of a 3 x 3 matrix. -/
def row3 (a : List Num) (i : Nat) : List Num := (a.drop (3 * i)).take 3
/-- Column `i` of a 3 x 3 matrix. -/
def col3 (a : List Num) (i : Nat) : List Num := [nn a i, nn a (3 + i), nn a (6 + i)]
/-- Three write-backs. -/
def v3 (g : Nat → Run Num) : Run (List Num) := (List.range 3).mapM g
/-- Nine write-backs, row-major. -/
def m9 (g : Nat → Nat → Run Num) : Run (List Num) := (List.range 9).mapM (fun i => g (i / 3) (i % 3))
/-- A vector product. -/
def Lane.cross (x : Lane) (d : Dest) (a b : List Num) : Run (List Num) := v3 (fun i => x.mac d (crossT a b i))
/-- Matrix times vector. -/
def Lane.mulV (x : Lane) (d : Dest) (a v : List Num) : Run (List Num) := v3 (fun i => x.mac d ((row3 a i).zip v))
/-- Product of matrices. -/
def Lane.mulM (x : Lane) (d : Dest) (a b : List Num) : Run (List Num) := m9 (fun i j => x.mac d ((row3 a i).zip (col3 b j)))
/-- Product with a transposed matrix. -/
def Lane.mulMT (x : Lane) (d : Dest) (a b : List Num) : Run (List Num) := m9 (fun i j => x.mac d ((row3 a i).zip (row3 b j)))
/-- A vector times a number. -/
def Lane.scale (x : Lane) (d : Dest) (k : Num) (a : List Num) : Run (List Num) := a.mapM (fun e => x.mac d [(k, e)])
/-- A sum of vectors. -/
def Lane.sum (x : Lane) (d : Dest) (l : List (List Num)) : Run (List Num) := v3 (fun i => x.mac d (plus (l.map (fun a => nn a i))))

/-! ## The function unit (R159) -/

/-- RECIP: within 1 LSB; 0 gives 0x7FFF_FFFF and SATURATED, as does a result beyond the format. -/
def Lane.recip (x : Lane) (d : Dest) (a : Num) : Run Num :=
  let fo := x.frac d
  let n := 2 ^ (fo + a.f)
  let b := a.v.natAbs
  let q := n / b
  let c := Config.crucUnit true (unsg 32 a.v) a.f fo
  let r : Int := if n % b = 0 then (q : Int) - 1 + (c % 3 : Nat) else (q : Int) + (c % 2 : Nat)
  x.settle d (if a.v = 0 then 2 ^ 31 else signI a.v * r) false

/-- RSQRT: within 1 LSB; a value that is not positive gives 0x7FFF_FFFF and SATURATED, as does a result beyond the format. -/
def Lane.rsqrt (x : Lane) (d : Dest) (a : Num) : Run Num :=
  let fo := x.frac d
  let n := 2 ^ (2 * fo + a.f)
  let b := a.v.toNat
  let q := isqrt (n / b)
  let c := Config.crucUnit false (unsg 32 a.v) a.f fo
  let r : Int := if q * q * b = n then (q : Int) - 1 + (c % 3 : Nat) else (q : Int) + (c % 2 : Nat)
  x.settle d (if a.v ≤ 0 then 2 ^ 31 else r) false

/-- SINCOS: sine and cosine of an angle in Q1.30. -/
def sinCos (q : Int) : Num × Num :=
  let s := crucSincos q
  ({ v := toFmt 30 s.1, f := 30 }, { v := toFmt 30 s.2, f := 30 })

/-! ## The damped system (R170) -/

/-- A Cholesky factor: its columns below the diagonal, and the reciprocals of its diagonal. -/
structure Chol where
  cols : List (List Num) := []
  rs : List Num := []
  deriving DecidableEq, Repr

/-- Column `j` of the factor of a matrix of `n` rows; the pivot is floored at lambda^2 / 2. -/
def Lane.cholStep (x : Lane) (n : Nat) (a : List (List Num)) (lambda : Num) (c : Chol) (j : Nat) : Run Chol := do
  let sub (i k : Nat) : List (Num × Num) := (nn (a.getD i []) k, one) :: c.cols.map (fun l => (neg (nn l i), nn l k))
  let d ← x.mac { name := "chol_d" } (sub j j)
  let fl ← x.mac { name := "chol_d" } [(lambda, half lambda)]
  let r ← x.rsqrt { name := "chol_r" } (if d.v < fl.v then fl else d)
  let col ← (List.range n).mapM (fun i => if i ≤ j then pure {} else do
    let s ← x.mac { name := "chol_s" } (sub i j)
    x.mac { name := "chol_l" } [(s, r)])
  pure { cols := c.cols ++ [col], rs := c.rs ++ [r] }

/-- The factor of J J^T + lambda^2 I for weighted columns (R170). -/
def Lane.cholesky (x : Lane) (cols : List (List Num)) (lambda : Num) : Run Chol := do
  let a ← (List.range 6).mapM (fun i => (List.range (i + 1)).mapM (fun j =>
    x.mac { name := "a" } (cols.map (fun c => (nn c i, nn c j)) ++ (if i = j then [(lambda, lambda)] else []))))
  (List.range 6).foldlM (x.cholStep 6 a lambda) {}

/-- Forward and backward substitution. -/
def Lane.cholSolve (x : Lane) (c : Chol) (e : List Num) : Run (List Num) := do
  let y ← (List.range 6).foldlM (fun (y : List Num) i => do
    let s ← x.mac { name := "chol_y" } ((nn e i, one) :: (y.zip c.cols).map (fun t => (neg t.1, nn t.2 i)))
    let v ← x.mac { name := "chol_y" } [(s, nn c.rs i)]
    pure (y ++ [v])) []
  (List.range 6).reverse.foldlM (fun (f : List Num) i => do
    let s ← x.mac { name := "y" } ((nn y i, one) :: (f.zip ((c.cols.getD i []).drop (i + 1))).map (fun t => (neg t.1, t.2)))
    let v ← x.mac { name := "y" } [(s, nn c.rs i)]
    pure (v :: f)) []

/-! ## The constrained system (06 R183, R184) -/

/-- A pivot after its write-back in K's format, regularised (R184); whether it was. -/
def regularise (eps : Int) (d : Num) : Num × Bool :=
  if eps ≤ absI d.v then (d, false) else ({ d with v := if d.v < 0 then -eps else eps }, true)

/-- The factorisation: columns of L below the diagonal, pivots, their reciprocals, indices regularised. -/
structure Ldl where
  cols : List (List Num) := []
  dd : List Num := []
  inv : List Num := []
  reg : List Nat := []
  deriving DecidableEq, Repr

/-- Column `j` of the factorisation of K, given by its lower triangle (R183). -/
def Lane.ldlStep (x : Lane) (n : Nat) (eps : Int) (k : List (List Num)) (c : Ldl) (j : Nat) : Run Ldl := do
  -- l(j, t) * dd(t), written back once per t
  let ld ← (c.cols.zip c.dd).mapM (fun t => x.mac { name := "ld" } [(nn t.1 j, t.2)])
  let sub (i : Nat) : List (Num × Num) := (nn (k.getD i []) j, one) :: (c.cols.zip ld).map (fun t => (neg (nn t.1 i), t.2))
  let d0 ← x.mac { name := "k" } (sub j)
  let d := regularise eps d0
  let inv ← x.recip { name := "inv" } d.1
  let col ← (List.range n).mapM (fun i => if i ≤ j then pure {} else do
    let s ← x.mac { name := "s" } (sub i)
    x.mac { name := "l" } [(s, inv)])
  pure { cols := c.cols ++ [col], dd := c.dd ++ [d.1], inv := c.inv ++ [inv], reg := if d.2 then c.reg ++ [j] else c.reg }

/-- Solves K f = b with f written back in the wrench format (R183): f and the regularised pivots. -/
def Lane.ldlSolve (x : Lane) (eps : Int) (k : List (List Num)) (b : List Num) : Run (List Num × List Nat) := do
  let n := k.length
  let c ← (List.range n).foldlM (x.ldlStep n eps k) {}
  let y ← (List.range n).foldlM (fun (y : List Num) i => do
    let v ← x.mac { name := "y" } ((nn b i, one) :: (y.zip c.cols).map (fun t => (neg t.1, nn t.2 i)))
    pure (y ++ [v])) []
  let y ← (y.zip c.inv).mapM (fun t => x.mac { name := "y" } [t])
  let f ← (List.range n).reverse.foldlM (fun (f : List Num) i => do
    let v ← x.mac { name := "f" } ((nn y i, one) :: (f.zip ((c.cols.getD i []).drop (i + 1))).map (fun t => (neg t.1, t.2)))
    pure (v :: f)) []
  pure (f, c.reg)

end Sys2Proof.Machine
end

