-- ==== Sys2Proof/Machine/Programs.lean ====
section
/-! DEFINITION. The Crucible's programs in lane arithmetic: forward kinematics, Jacobian, inverse kinematics, inverse dynamics, mass
matrix, constrained dynamics (05 R166 to R170, 06 R176 to R185). Every assignment of the spec's procedures is one write-back; an inner
product of more than two factors is written back first (entry 40). -/

namespace Sys2Proof.Machine

/-! ## Forward kinematics and the Jacobian (R166, R167) -/

/-- A joint frame in stored numbers: rotation and axis in Q1.30, origin in Length. -/
structure LFrame where
  r : List Num := []
  p : List Num := []
  z : List Num := []
  deriving DecidableEq, Repr

/-- A frame of the model in stored numbers. -/
def lframe (f : Frame) : LFrame := { r := fromFx 30 f.r, p := fromFx 23 f.p, z := fromFx 30 f.z }

/-- The frame of a joint at position q (R166). -/
def Lane.fkJoint (x : Lane) (base : LFrame) (fs : List LFrame) (l : Link) (q : Int) : Run LFrame := do
  let i := fs.length
  let up := if l.parent = 0xFF then base else fs.getD l.parent base
  let ax := fromFx 30 l.ax
  let org := fromFx 23 l.org
  let ro ← x.mulM (.cls "ro" 30 i) up.r (fromFx 30 l.rot)
  let po ← v3 (fun h => x.mac (.cls "po" 23 i) ((nn up.p h, one) :: (row3 up.r h).zip org))
  let z ← x.mulV (.cls "z" 30 i) ro ax
  match l.typ with
  | 0 =>
    let sc := sinCos q
    let k := fromFx 30 (skew l.ax)
    let kk ← x.mulM (.cls "kk" 30 i) k k
    -- i3 + s k + (1 - co) k k
    let e ← (List.range 9).mapM (fun h => x.mac (.cls "e" 30 i)
      ((if h % 4 = 0 then [(one, one)] else []) ++ [(sc.1, nn k h), (nn kk h, one), (neg sc.2, nn kk h)]))
    let r ← x.mulM (.cls "r" 30 i) ro e
    pure { r := r, p := po, z := z }
  | 1 =>
    let p ← v3 (fun h => x.mac (.cls "p" 23 i) [(nn po h, one), (nn z h, { v := q, f := 23 })])
    pure { r := ro, p := p, z := z }
  | _ => pure { r := ro, p := po, z := z }

/-- Forward kinematics: the frames of the joint records in order. -/
def Lane.fk (x : Lane) (base : LFrame) (ls : List Link) (q : List Int) : Run (List LFrame) :=
  (ls.zip (spread ls q)).foldlM (fun fs j => do
    let f ← x.fkJoint base fs j.1 j.2
    pure (fs ++ [f])) []

/-- The flange frame. -/
def lflange (base : LFrame) (fs : List LFrame) : LFrame := fs.getLastD base

/-- The Jacobian at the flange origin, one column per actuated joint: three elements in Length, three in Q1.30. -/
def Lane.jacobian (x : Lane) (base : LFrame) (ls : List Link) (fs : List LFrame) : Run (List (List Num)) :=
  let anc := ancestors ls (ls.length + 1) (ls.length - 1)
  let pf := (lflange base fs).p
  ((ls.zip fs).zipIdx.filter (fun j => j.1.1.typ != 2)).mapM (fun j =>
    let f := j.1.2
    if !anc.contains j.2 then pure (z3 23 ++ z3 30)
    else if j.1.1.typ = 0 then do
      let d ← x.sum (.cls "jd" 23 j.2) [pf, f.p.map neg]
      let c ← x.cross (.cls "j" 23 j.2) f.z d
      pure (c ++ f.z)
    else do
      let c ← x.scale (.cls "j" 23 j.2) one f.z
      pure (c ++ z3 30))

/-- Weights the angular elements of a column or of an error: all in Length (R170). -/
def Lane.weigh (x : Lane) (w : Num) (c : List Num) : Run (List Num) := do
  let a ← x.scale (.cls "wj" 23) w (c.drop 3)
  pure (c.take 3 ++ a)

/-! ## Inverse kinematics (R170) -/

/-- The registers that a run of IK_DLS latches, in stored units (R170, R175). -/
structure IkCfg where
  maxIter : Nat := 4
  lambda : Int := 0
  w : Int := 0
  tolP : Int := 0
  tolR : Int := 0
  dqRot : Int := 0
  dqLin : Int := 0
  clampEn : Bool := true
  deriving DecidableEq, Repr

/-- lambda in Length. -/
def IkCfg.lam (cf : IkCfg) : Num := { v := cf.lambda, f := 23 }
/-- w in Length per radian. -/
def IkCfg.wt (cf : IkCfg) : Num := { v := cf.w, f := 23 }

/-- The state of an IK_DLS run: iterate, converged, errors at the last test, frames of the last fk. -/
structure IkRun where
  q : List Int := []
  conv : Bool := false
  errP : Nat := 0
  errR : Nat := 0
  fs : List LFrame := []
  deriving DecidableEq, Repr

/-- Position and orientation error of the flange against a target, in Length and Angle. -/
def Lane.poseError (x : Lane) (f : LFrame) (pt rt : List Num) : Run (List Num × List Num) := do
  let ep ← x.sum (.cls "ep" 23) [pt, f.p.map neg]
  let er ← v3 (fun i => x.mac (.cls "er" 28)
    ((List.range 3).flatMap (fun c => (crossT (col3 f.r c) (col3 rt c) i).map (fun t => (half t.1, t.2)))))
  pure (ep, er)

/-- The class of a joint's position. -/
def qDest (l : Link) (name : String) : Dest := .cls name (qFmt l)

/-- One update of the iterate. -/
def Lane.ikUpdate (x : Lane) (base : LFrame) (ls : List Link) (cf : IkCfg) (e : List Num) (r : IkRun) : Run IkRun := do
  let act := ls.filter (fun l => l.typ != 2)
  let j ← x.jacobian base ls r.fs
  let cols ← j.mapM (x.weigh cf.wt)
  let ew ← x.weigh cf.wt e
  let c ← x.cholesky cols cf.lam
  let y ← x.cholSolve c ew
  let dq ← (act.zip cols).mapM (fun d => x.mac (qDest d.1 "dq") (d.2.zip y))
  let gs ← (act.zip dq).mapM (fun d => do
    let m ← x.recip { name := "dq_inv" } (if d.1.typ = 1 then { v := cf.dqLin, f := 23 } else { v := cf.dqRot, f := 28 })
    x.mac { name := "g" } [({ d.2 with v := absI d.2.v }, m)])
  let g := gs.foldl (fun (b : Num) a => if b.v < a.v then a else b) (gs.headD {})
  let dq ← if 2 ^ g.f < g.v then do
      let rg ← x.recip { name := "g_inv" } g
      (act.zip dq).mapM (fun d => x.mac (qDest d.1 "dq") [(d.2, rg)])
    else pure dq
  let q ← (act.zip (r.q.zip dq)).mapM (fun d => x.mac (qDest d.1 "q") (plus [{ v := d.2.1, f := qFmt d.1 }, d.2.2]))
  let q := vals q
  let qc := if cf.clampEn then (act.zip q).map (fun d => clampI d.1.qMin d.1.qMax d.2) else q
  modify (fun l => { l with iter := l.iter + 1, clamped := l.clamped || qc != q })
  pure { r with q := qc }

/-- The test of an iterate, and what follows where it has not converged. -/
def Lane.ikTest (x : Lane) (base : LFrame) (ls : List Link) (cf : IkCfg) (pt rt : List Num) (r : IkRun) (next : List Num → IkRun → Run IkRun) :
    Run IkRun := do
  let fs ← x.fk base ls r.q
  let e ← x.poseError (lflange base fs) pt rt
  let r := { r with fs := fs, errP := maxAbs (vals e.1), errR := maxAbs (vals e.2) }
  if (r.errP : Int) ≤ cf.tolP ∧ (r.errR : Int) ≤ cf.tolR then pure { r with conv := true } else next (e.1 ++ e.2) r

/-- The iteration with at most `n` further updates: a test before each, and after the last. -/
def Lane.ikLoop (x : Lane) (base : LFrame) (ls : List Link) (cf : IkCfg) (pt rt : List Num) : Nat → IkRun → Run IkRun
  | 0, r => x.ikTest base ls cf pt rt r (fun _ r => pure r)
  | n + 1, r => x.ikTest base ls cf pt rt r (fun e r => do
      let r ← x.ikUpdate base ls cf e r
      x.ikLoop base ls cf pt rt n r)

/-! ## Inverse dynamics (06 R176 to R178) -/

/-- A quantity in Cartesian rates or Length with an entry of its own (R176). -/
def dyn23 (name : String) (i : Nat) : Dest := { name := name, elem := i, fix := some 23 }
/-- A quantity in Q1.30 with an entry of its own. -/
def dyn30 (name : String) (i : Nat) : Dest := { name := name, elem := i, fix := some 30 }
/-- A quantity with the shift of its entry. -/
def dynV (name : String) (i : Nat) : Dest := { name := name, elem := i }

/-- Motion of a link: angular velocity, angular acceleration, acceleration of its origin, in Cartesian rates. -/
structure LMotion where
  w : List Num := []
  wd : List Num := []
  a : List Num := []
  deriving DecidableEq, Repr

/-- Forward pass of one link (R178). -/
def Lane.fwdLink (x : Lane) (base : LFrame) (g : List Num) (fs : List LFrame) (ms : List LMotion) (i : Nat) (l : Link) (qd qdd : Num) :
    Run LMotion := do
  let root := l.parent = 0xFF
  let f := fs.getD i {}
  let up : LMotion := if root then { w := z3 23, wd := z3 23, a := g.map neg } else ms.getD l.parent {}
  let pp := if root then base.p else (fs.getD l.parent {}).p
  let d ← x.sum (dyn23 "d" i) [f.p, pp.map neg]
  let wxd ← x.cross (dyn23 "wxd" i) up.w d
  let a ← v3 (fun k => x.mac (dyn23 "a" i) ((nn up.a k, one) :: crossT up.wd d k ++ crossT up.w wxd k))
  match l.typ with
  | 0 =>
    let zq ← x.scale (dyn23 "zq" i) qd f.z
    let w ← v3 (fun k => x.mac (dyn23 "w" i) [(nn up.w k, one), (nn f.z k, qd)])
    let wd ← v3 (fun k => x.mac (dyn23 "wd" i) ((nn up.wd k, one) :: (nn f.z k, qdd) :: crossT up.w zq k))
    pure { w := w, wd := wd, a := a }
  | 1 =>
    let zq ← x.scale (dyn23 "zq" i) qd f.z
    let a ← v3 (fun k => x.mac (dyn23 "a" i) ((nn a k, one) :: (nn f.z k, qdd) :: (crossT up.w zq k).map (fun t => (dbl t.1, t.2))))
    pure { w := up.w, wd := up.wd, a := a }
  | _ => pure { w := up.w, wd := up.wd, a := a }

/-- Spreads numbers of the actuated joints over the joint records, 0 for fixed ones. -/
def spreadN : List Link → List Num → List Num
  | [], _ => []
  | l :: r, q => if l.typ = 2 then {} :: spreadN r q else q.headD {} :: spreadN r (q.drop 1)

/-- Forward pass over a chain. -/
def Lane.fwdPass (x : Lane) (base : LFrame) (g : List Num) (ls : List Link) (fs : List LFrame) (qd qdd : List Num) : Run (List LMotion) :=
  ((ls.zipIdx).zip ((spreadN ls qd).zip (spreadN ls qdd))).foldlM (fun ms j => do
    let mo ← x.fwdLink base g fs ms j.1.2 j.1.1 j.2.1 j.2.2
    pure (ms ++ [mo])) []

/-- Force and moment of a link's own motion: cc, fi, ni (R178). -/
def Lane.linkForce (x : Lane) (f : LFrame) (mo : LMotion) (i : Nat) (l : Link) : Run (List Num × List Num × List Num) := do
  let cc ← x.mulV (dyn23 "cc" i) f.r (fromFx 23 l.com)
  let wxc ← x.cross (dyn23 "wxc" i) mo.w cc
  let ac ← v3 (fun k => x.mac (dyn23 "ac" i) ((nn mo.a k, one) :: crossT mo.wd cc k ++ crossT mo.w wxc k))
  let fi ← x.scale (dynV "fi" i) ((fromFx l.msh [l.mass]).headD {}) ac
  let ri ← x.mulM (dynV "ri" i) f.r (fromFx l.ish l.inertia)
  let ii ← x.mulMT (dynV "ii" i) ri f.r
  let iw ← x.mulV (dynV "iw" i) ii mo.w
  let ni ← v3 (fun k => x.mac (dynV "ni" i) ((row3 ii k).zip mo.wd ++ crossT mo.w iw k))
  pure (cc, fi, ni)

/-- The children of a joint record, ascending. -/
def childrenOf (ls : List Link) (i : Nat) : List Nat := (List.range ls.length).filter (fun j => (ls.getD j {}).parent == i)

/-- Backward pass: force and moment of link `i` with those of its children, `fn` holding the links after it (R178). -/
def Lane.bwdLink (x : Lane) (ls : List Link) (fs : List LFrame) (own : List (List Num × List Num × List Num))
    (fn : List (Nat × List Num × List Num)) (i : Nat) : Run (List (Nat × List Num × List Num)) := do
  let o := own.getD i ([], [], [])
  let f0 ← x.sum (dynV "f" i) [o.2.1]
  let n0 ← v3 (fun k => x.mac (dynV "nn" i) ((nn o.2.2 k, one) :: crossT o.1 o.2.1 k))
  let r ← (childrenOf ls i).foldlM (fun (a : List Num × List Num) j => do
    let c := ((fn.find? (fun e => e.1 == j)).map (·.2)).getD ([], [])
    let f ← x.sum (dynV "f" i) [a.1, c.1]
    let d ← x.sum (dyn23 "dp" i) [(fs.getD j {}).p, (fs.getD i {}).p.map neg]
    let n ← v3 (fun k => x.mac (dynV "nn" i) (plus [nn a.2 k, nn c.2 k] ++ crossT d c.1 k))
    pure (f, n)) (f0, n0)
  pure ((i, r) :: fn)

/-- Joint torques and forces of the actuated joints, in the joints' TORQUE_SHIFT (R178). -/
def Lane.rnea (x : Lane) (base : LFrame) (g : List Num) (ls : List Link) (fs : List LFrame) (qd qdd : List Num) : Run (List Num) := do
  let ms ← x.fwdPass base g ls fs qd qdd
  let own ← (ls.zipIdx).mapM (fun l => x.linkForce (fs.getD l.2 {}) (ms.getD l.2 {}) l.2 l.1)
  let fn ← (List.range ls.length).reverse.foldlM (x.bwdLink ls fs own) []
  ((ls.zipIdx).filter (fun l => l.1.typ != 2)).mapM (fun l =>
    let e := ((fn.find? (fun e => e.1 == l.2)).map (·.2)).getD ([], [])
    x.mac { name := "tau", elem := l.2, fix := some l.1.tsh } ((fs.getD l.2 {}).z.zip (if l.1.typ = 0 then e.2 else e.1)))

/-- The destination of a joint's velocity and of its acceleration: RATE_SHIFT, and the entry of FORMATS (04 R131, R135). -/
def qdDest (l : Link) (i : Nat) : Dest := { name := "qd", elem := i, fix := some l.rsh }

/-- Joint rates and accelerations of a flange twist and its derivative (R177). -/
def Lane.rateMap (x : Lane) (base : LFrame) (ls : List Link) (fs : List LFrame) (cf : IkCfg) (v a : List Num) : Run (List Num × List Num) := do
  let act := (ls.zipIdx).filter (fun l => l.1.typ != 2)
  let j ← x.jacobian base ls fs
  let cols ← j.mapM (x.weigh cf.wt)
  let c ← x.cholesky cols cf.lam
  let vw ← x.weigh cf.wt v
  let y ← x.cholSolve c vw
  let qd ← (act.zip cols).mapM (fun d => x.mac (qdDest d.1.1 d.1.2) (d.2.zip y))
  -- the forward pass at qdd = 0 without gravity gives the acceleration of the flange that is not J qdd
  let ms ← x.fwdPass base (z3 23) ls fs qd []
  let b := ms.getLastD {}
  let e ← (List.range 6).mapM (fun i => x.mac (dyn23 "bias" i) (plus [nn a i, neg (nn (b.a ++ b.wd) i)]))
  let ew ← x.weigh cf.wt e
  let y ← x.cholSolve c ew
  let qdd ← (act.zip cols).mapM (fun d => x.mac (dynV "qdd" d.1.2) (d.2.zip y))
  pure (qd, qdd)

/-! ## The mass matrix (06 R179) -/

/-- A composite body about a joint's origin: mass, first moment, inertia. -/
structure Comp where
  mc : Num := {}
  hc : List Num := []
  ic : List Num := []
  deriving DecidableEq, Repr

/-- The composite of link `i` with those of its children, `cs` holding the links after it. -/
def Lane.compose (x : Lane) (ls : List Link) (fs : List LFrame) (cs : List (Nat × Comp)) (i : Nat) : Run (List (Nat × Comp)) := do
  let l := ls.getD i {}
  let f := fs.getD i {}
  let mass := (fromFx l.msh [l.mass]).headD {}
  let cc ← x.mulV (dyn23 "cc" i) f.r (fromFx 23 l.com)
  let ri ← x.mulM (dynV "ri" i) f.r (fromFx l.ish l.inertia)
  let ii ← x.mulMT (dynV "ii" i) ri f.r
  let mc ← x.mac (dynV "mc" i) (plus [mass])
  let hc ← x.scale (dynV "hc" i) mass cc
  -- the inertia about p(i): I + (h . c) 1 - h c^T
  let ic ← m9 (fun a b => x.mac (dynV "ic" i) ((nn ii (3 * a + b), one) :: (neg (nn hc a), nn cc b) :: (if a = b then hc.zip cc else [])))
  let r ← (childrenOf ls i).foldlM (fun (b : Comp) j => do
    let c := ((cs.find? (fun e => e.1 == j)).map (·.2)).getD {}
    let d ← x.sum (dyn23 "dp" i) [(fs.getD j {}).p, f.p.map neg]
    let mc ← x.mac (dynV "mc" i) (plus [b.mc, c.mc])
    -- the first moment of the child about p(i)
    let g ← v3 (fun k => x.mac (dynV "hj" i) [(nn c.hc k, one), (c.mc, nn d k)])
    let hc ← x.sum (dynV "hc" i) [b.hc, g]
    let ic ← m9 (fun p q => x.mac (dynV "ic" i) (plus [nn b.ic (3 * p + q), nn c.ic (3 * p + q)]
      ++ [(neg (nn d p), nn g q), (neg (nn c.hc p), nn d q)] ++ (if p = q then d.zip c.hc ++ d.zip g else [])))
    pure { mc := mc, hc := hc, ic := ic }) { mc := mc, hc := hc, ic := ic }
  pure ((i, r) :: cs)

/-- The mass matrix of the actuated joints, lower triangle row by row; 0 between different branches. -/
def Lane.massTri (x : Lane) (ls : List Link) (fs : List LFrame) : Run (List Num) := do
  let cs ← (List.range ls.length).reverse.foldlM (x.compose ls fs) []
  let act := (List.range ls.length).filter (fun i => (ls.getD i {}).typ != 2)
  let rows ← (act.zipIdx).mapM (fun e => do
    let i := e.1
    let z := (fs.getD i {}).z
    let c := ((cs.find? (fun y => y.1 == i)).map (·.2)).getD {}
    let fv ← if (ls.getD i {}).typ = 0 then x.cross (dynV "fv" i) z c.hc else x.scale (dynV "fv" i) c.mc z
    let nv ← if (ls.getD i {}).typ = 0 then x.mulV (dynV "nv" i) c.ic z else x.cross (dynV "nv" i) c.hc z
    let anc := ancestors ls (ls.length + 1) i
    (act.take (e.2 + 1)).mapM (fun k =>
      if !anc.contains k then pure { v := 0, f := x.frac { name := "m" } }
      else
        let fk := fs.getD k {}
        if (ls.getD k {}).typ = 1 then x.mac { name := "m" } (fk.z.zip fv)
        else do
          let d ← x.sum (dyn23 "dk" i) [(fs.getD i {}).p, fk.p.map neg]
          let t ← v3 (fun j => x.mac (dynV "nk" i) ((nn nv j, one) :: crossT d fv j))
          x.mac { name := "m" } (fk.z.zip t)))
  pure rows.flatten

/-! ## Constrained dynamics (06 R180 to R185) -/

/-- A constraint row of a CLOSED program: its object and chain, its column of the grasp map, its row of the grasp Jacobian, its weight and
target. -/
structure CRow where
  ob : Nat := 0
  chain : Nat := 0
  col : List Num := []
  jr : List Num := []
  wf : Num := {}
  fsq : Num := {}
  deriving DecidableEq, Repr

/-- A chain of a CLOSED program: W_tau and tau0 of its actuated joints, and their TORQUE_SHIFT. -/
structure CChain where
  chain : Nat := 0
  wtau : List Num := []
  tau0 : List Num := []
  tsh : List Nat := []
  deriving DecidableEq, Repr

/-- An object of a CLOSED program: its weights P and the wrench it needs. -/
structure CObj where
  p : List Num := []
  w : List Num := []
  deriving DecidableEq, Repr

/-- What a CLOSED program gives: torques by chain, f, residuals by object, regularised pivots. -/
structure ClosedOut where
  tau : List Num := []
  f : List Num := []
  res : List Num := []
  reg : List Nat := []
  deriving DecidableEq, Repr

/-- The weighted rows of one constraint row: P times its map column, W_tau times its Jacobian row. -/
def Lane.weighRow (x : Lane) (obs : List CObj) (chs : List CChain) (r : CRow) : Run (List Num × List Num) := do
  let c := (chs.find? (fun c => c.chain == r.chain)).getD {}
  let pa ← ((obs.getD r.ob {}).p.zip r.col).mapM (fun t => x.mac { name := "pa" } [t])
  let wg ← (c.wtau.zip r.jr).mapM (fun t => x.mac { name := "wg" } [t])
  pure (pa, wg)

/-- Assembly of K, solution, torques and residual (R183). -/
def Lane.closed (x : Lane) (eps : Int) (obs : List CObj) (chs : List CChain) (rows : List CRow) : Run ClosedOut := do
  let wr ← rows.mapM (x.weighRow obs chs)
  let pw ← obs.mapM (fun o => (o.p.zip o.w).mapM (fun t => x.mac { name := "pw" } [t]))
  let wt ← chs.mapM (fun c => do
    let t ← (c.wtau.zip c.tau0).mapM (fun t => x.mac { name := "wt0" } [t])
    pure (c.chain, t))
  let k ← (rows.zipIdx).mapM (fun r => ((rows.take (r.2 + 1)).zipIdx).mapM (fun s =>
    if r.1.ob ≠ s.1.ob then pure { v := 0, f := x.frac { name := "k" } }
    else
      let y := wr.getD s.2 ([], [])
      x.mac { name := "k" } (r.1.col.zip y.1 ++ (if r.1.chain = s.1.chain then r.1.jr.zip y.2 else [])
        ++ (if r.2 = s.2 then [(r.1.wf, one)] else []))))
  let b ← rows.mapM (fun r =>
    let t := ((wt.find? (fun c => c.1 == r.chain)).map (·.2)).getD []
    x.mac { name := "b" } (r.col.zip (pw.getD r.ob []) ++ (r.jr.zip t).map (fun e => (neg e.1, e.2)) ++ [(r.wf, r.fsq)]))
  let s ← x.ldlSolve eps k b
  let tau ← chs.mapM (fun c => ((c.tau0.zip c.tsh).zipIdx).mapM (fun j =>
    x.mac { name := "tau", elem := 256 * c.chain + j.2, fix := some j.1.2 }
      ((j.1.1, one) :: ((rows.zip s.1).filter (fun r => r.1.chain == c.chain)).map (fun r => (nn r.1.jr j.2, r.2)))))
  let res ← (obs.zipIdx).mapM (fun o => ((List.range 6).mapM (fun i =>
    x.mac { name := "f" } (((rows.zip s.1).filter (fun r => r.1.ob == o.2)).map (fun r => (nn r.1.col i, r.2)) ++ [(neg (nn o.1.w i), one)]))))
  pure { tau := tau.flatten, f := s.1, res := res.flatten, reg := s.2 }

/-- The Jacobian of a chain moved to a grasp frame with origin `o` (R181): columns of the actuated joints. -/
def Lane.moveJac (x : Lane) (o p : List Num) (cols : List (List Num)) : Run (List (List Num)) := do
  let d ← x.sum (.cls "og" 23) [o, p.map neg]
  cols.mapM (fun c => do
    let l ← v3 (fun i => x.mac (.cls "jg" 23) ((nn c i, one) :: crossT (c.drop 3) d i))
    pure (l ++ c.drop 3))

/-- The column of the grasp map for row `i` of a grasp whose origin lies at `e` from the centre of mass (R181). -/
def graspCol (e : List Num) (i : Nat) : List Num :=
  let u : List Num := (List.range 3).map (fun k => if k = i % 3 then one else { v := 0, f := 30 })
  let zero : Num := { v := 0, f := 23 }
  -- e x unit(i)
  let m : List Num := (List.range 3).map (fun k =>
    if (k + 1) % 3 = i then neg (nn e ((k + 2) % 3)) else if (k + 2) % 3 = i then nn e ((k + 1) % 3) else zero)
  if i < 3 then u ++ m else z3 30 ++ u

end Sys2Proof.Machine
end

