-- ==== Sys2Proof/Machine/Crucible.lean ====
section
/-! DEFINITION. The Crucible: its window, the start, end and abort of a program, publication, and the deadline monitor (05, 06). -/

namespace Sys2Proof.Machine

/-! ## Slots, chains and published sections -/

/-- Kind of a program slot. -/
def slotKind (m : Mach) (k : Nat) : Nat := getF m CRUC_PROG_CFG_KIND k
/-- Chain of a program slot. -/
def slotChain (m : Mach) (k : Nat) : Nat := getF m CRUC_PROG_CFG_CHAIN k
/-- Slots in use, ascending. -/
def usedSlots (m : Mach) : List Nat := (List.range 64).filter (fun k => onF m CRUC_PROG_CFG_VALID k)
/-- The instance number of a slot among the slots of its kind: CLOSED and DIST instances (R182, R186). -/
def progInstance (m : Mach) (k : Nat) : Nat :=
  ((usedSlots m).filter (fun x => slotKind m x == slotKind m k)).idxOf k % 8
/-- The slot of a kind that serves a chain. -/
def chainSlot (m : Mach) (kind c : Nat) : Option Nat := (usedSlots m).find? (fun k => slotKind m k == kind && slotChain m k == c)

/-- Whether a chain belongs to a chain group (kind 1). -/
def isChainGroup (m : Mach) (c : Nat) : Bool := (chainGroup m c).any (fun g => g.kind == 1)

/-- SCOPE_KIND and SCOPE_ID of a slot's events (R173). -/
def slotScope (m : Mach) (k : Nat) : Nat × Nat :=
  match chainGroup m (slotChain m k) with
  | some g => (2, g.group)
  | none => (0, 0)

/-- Address of a slot's entry in the publication index (R163). -/
def indexAddr (m : Mach) (k : Nat) : Nat := getF m CRUC_PUB_ADDR_ADDR + 16 * k
/-- Buffer that holds the published content. -/
def pubBuf (m : Mach) (k : Nat) : Nat := rdVal m (indexAddr m k + 4) 1 % 2
/-- Address of a slot's section in a buffer. -/
def sectionAddr (m : Mach) (k b : Nat) : Nat := getF m CRUC_PUB_ADDR_ADDR + 1024 + b * 163840 + sget m.crucSecs k 0
/-- Status word of a section. -/
def sectionStatus (m : Mach) (k b : Nat) : Nat := rdVal m (sectionAddr m k b + 8) 4
/-- Whether the published content of a slot serves a cycle. -/
def serves (m : Mach) (k c : Nat) : Bool :=
  rdVal m (indexAddr m k) 4 == c % 2 ^ 32 && (sectionStatus m k (pubBuf m k)).testBit 0
/-- Word `i` of a section's payload. -/
def secWord (m : Mach) (k b i : Nat) : Int := sgn 32 (rdVal m (sectionAddr m k b + 32 + 4 * i) 4)
/-- The first `n` words of a section's payload. -/
def secWords (m : Mach) (k b n : Nat) : List Int := (List.range n).map (secWord m k b)

/-- Status flags (R164). -/
def stVALID : Nat := 1
/-- HELD. -/
def stHELD : Nat := 128

/-- Writes to the publication index or a published section; in a pair the MIRROR frame carries what has changed (17 R496). -/
def pubWrite (m : Mach) (a : Nat) (l : List Nat) : Mach :=
  let m := if inPair m then { m with duo := { m.duo with secs := m.duo.secs ++ [(a, l)] } } else m
  wrBytes m a l 4

/-- Writes ATTEMPT of a slot (R163). -/
def putAttempt (m : Mach) (k st : Nat) : Mach := pubWrite m (indexAddr m k + 8) (leBytes 4 st)

/-- The window opens at the start of P2, once in a cycle (R154). CTRL.EN counts as it stands then: the spec says so of a clear, for a
set it is a DESIGN CHOICE (entry 90). -/
def openWindow (m : Mach) : Mach :=
  if m.cruc.cycle = some m.cyc.n then m
  else
    crucSync { m with cruc := { m.cruc with isOpen := true, cycle := some m.cyc.n, winStart := m.cyc.now, en := onF m CRUC_CTRL_EN,
                                            wait := [], run := [], fin := [], lastEnd := m.cyc.now } }

/-! ## Joint positions, rates and targets -/

/-- A position in counts in the quantity class of its axis (04 R128). -/
def toClass (a : AxisRec) (p : Int) : Int := roundDiv ((p + a.home) * a.num) a.den

/-- The inverse of R128 with the same rounding (07 R223). -/
def fromClass (a : AxisRec) (q : Int) : Int :=
  (if a.num < 0 then roundDiv (-(q * a.den)) (-a.num).toNat else roundDiv (q * a.den) a.num.toNat) - a.home

/-- The committed position of an axis for a cycle, from the setpoint ring (07 R206). -/
def ringAddr (m : Mach) (a c : Nat) : Nat := getF m RUN_RING_ADDR_ADDR + (a * 128 + c % 128) * 32
/-- POS of a ring entry. -/
def ringPos (m : Mach) (a c : Nat) : Int := sgn 64 (rdVal m (ringAddr m a c) 8)

/-- The axes of the actuated joints of a chain, in record order. -/
def chainAxes (m : Mach) (c : Nat) : List AxisRec :=
  (m.mould.joints.filter (fun j => j.chain == c && decide (j.typ < 2))).filterMap (fun j => axisRec m j.axis)

/-- The joint setpoints committed for a cycle. -/
def committedQ (m : Mach) (c n : Nat) : List Int := (chainAxes m c).map (fun a => toClass a (ringPos m a.axis n))

/-- The Runner's snapshot entry of an axis for cycle n + 1: POS, VEL_FF, ACC_FF (02 R63). -/
def nextEntry (m : Mach) (a : Nat) : List Int := sget m.run.ents a [0, 0, 0]

/-- The joint positions of cycle n + 1 that a chain program reads (R176): those of the chain's IK_DLS section for a chain group, none
where no such section serves it; else the Runner's snapshot entries. -/
def chainQ (m : Mach) (c n : Nat) : Option (List Int) :=
  if isChainGroup m c then
    match chainSlot m 3 c with
    | some k => if serves m k (n + 1) then some (secWords m k (pubBuf m k) (chainAxes m c).length) else none
    | none => none
  else some ((chainAxes m c).map (fun a => toClass a (nthI (nextEntry m a.axis) 0)))

/-- A speed in the speed format as a joint rate. -/
def jointRate (m : Mach) (a : AxisRec) (v : Int) : Fx :=
  let f := if (m.mould.joints.find? (fun j => j.axis == a.axis)).any (fun j => j.typ == 1) then 23 else 28
  roundDiv (v * a.num * 2 ^ (64 - f) * 2 ^ (8 + a.shift).toNat) (a.den * 256)

/-- The links of a chain and its base. -/
def chainModel (m : Mach) (c : Nat) : Frame × List Link := (baseFrame (m.mould.bases.getD c []), linksOf m.mould.image c)

/-! ## Start (R156, R169, R170) -/

/-- The registers that a run latches at its start. The lambda and w of an ID run are those of its own start: DESIGN CHOICE (entry 130), R177
says 'latched for the chain' and not by which run. -/
def latchOf (m : Mach) (k : Nat) : List Nat :=
  let c := slotChain m k % 16
  if slotKind m k = 0x12 then [getF m CRUC_CL_EPS_EPS (progInstance m k)]
  else if slotKind m k = 0x20 then [getF m CRUC_DIST_THR_THR (progInstance m k)]
  else [getF m CRUC_IK_CFG_MAX_ITER c, getF m CRUC_IK_LAMBDA_LAMBDA c, getF m CRUC_IK_WROT_W c, getF m CRUC_IK_TOLP_TOL_POS c,
    getF m CRUC_IK_TOLR_TOL_ROT c, getF m CRUC_IK_DQROT_DQ_ROT c, getF m CRUC_IK_DQLIN_DQ_LIN c, getF m CRUC_IK_CFG_CLAMP_EN c,
    getF m CRUC_IK_CFG_WS_EXTRAP c]

/-- Whether a section in a buffer serves a cycle with CONVERGED set and DEGRADED clear. -/
def warmFrom (m : Mach) (k b c : Nat) : Bool :=
  let st := sectionStatus m k b
  rdVal m (sectionAddr m k b) 8 == c && st.testBit 0 && st.testBit 1 && !st.testBit 3

/-- The starting iterate of an IK_DLS run, and whether it is a cold start (R169). -/
def startIterate (m : Mach) (k : Nat) : List Int × Bool :=
  let n := m.cyc.n
  let c := slotChain m k
  let ax := (chainAxes m c).length
  let b := pubBuf m k
  let lim := ((linksOf m.mould.image c).filter (fun l => l.typ != 2)).map (fun l => (l.qMin, l.qMax))
  if serves m k n && warmFrom m k b n then
    let q := secWords m k b ax
    if onF m CRUC_IK_CFG_WS_EXTRAP (c % 16) && warmFrom m k (1 - b) (n - 1) then
      ((lim.zip (q.zip (secWords m k (1 - b) ax))).map (fun x => clampI x.1.1 x.1.2 (2 * x.2.1 - x.2.2)), false)
    else (q, false)
  else (committedQ m c n, true)

/-- CRUCIBLE_PROGRAM_START: the ready program of slot `k` starts at tick `t` (R154, R156): 40 ns after its counter reached zero, a queued
one as soon as its groups are idle, none before an earlier one that may start. -/
def programStart (k t : Nat) (m : Mach) : Mach :=
  let free (s : Nat) : Bool := m.cruc.run.all (fun r => (slotGroups m r.slot &&& slotGroups m s) == 0)
  let may (w : Nat × Nat × Bool) : Bool := free w.1 && decide ((if w.2.2 then w.2.1 else w.2.1 + 32) ≤ t)
  let before := m.cruc.wait.takeWhile (fun w => w.1 != k)
  match m.cruc.wait.find? (fun w => w.1 == k) with
  | none => m
  | some w =>
    if !(m.cruc.isOpen && !m.cyc.skip && m.cruc.en && decide (t < crucDeadline m) && may w) || before.any may then m
    else
      let m := at' m t
      let s := if slotKind m k = 3 then startIterate m k else ([], false)
      let r : CrucRun := { slot := k, start := m.cyc.now, cycle := m.cyc.n, latch := latchOf m k, q0 := s.1, cold := s.2 }
      let m := { m with cruc := { m.cruc with wait := m.cruc.wait.filter (fun x => x.1 != k), run := m.cruc.run ++ [r],
                                              keep := (bitsOf 16 (slotGroups m k)).foldl sdel m.cruc.keep } }
      let m := if s.2 then
          let sc := slotScope m k
          report (flag m CRUC_FLAGS_COLD_START) E_CRUC_COLD_START 7 sc.1 sc.2 (slotChain m k)
        else m
      crucSync m

/-- CRUCIBLE_PROGRAM_START. -/
def execCrucibleProgramStart (k t : Nat) (s : State) : Out := done (programStart k t) s

/-! ## What a run has met (R160 to R162) -/

/-- The input check of R161: joint positions outside their travel. -/
def inputCheck (m : Mach) (c : Nat) (q : List Int) : RunMet :=
  let ls := (linksOf m.mould.image c).filter (fun l => l.typ != 2)
  { viol := List.replicate ((ls.zip q).filter (fun d => decide (d.2 < d.1.qMin ∨ d.1.qMax < d.2))).length 0xFFFFFFFF }

/-- Flags, counters and events of what a run has met. A variable is latched where its violation has set CRUC_FLAGS.RANGE. -/
def reportRun (m : Mach) (k : Nat) (x : RunMet) : Mach :=
  let sc := slotScope m k
  let m := match x.viol with
    | [] => m
    | v :: _ =>
      let m := if onF m CRUC_FLAGS_RANGE || v == 0xFFFFFFFF then m else setF (setF m CRUC_RANGE_VAR_VAR 0 v) CRUC_RANGE_PROG_SLOT 0 k
      report (incF (flag m CRUC_FLAGS_RANGE) CRUC_RANGE_CNT_CNT 0 x.viol.length) E_CRUC_RANGE 0 sc.1 sc.2 v
  if x.sats = 0 then m
  else report (incF (flag m CRUC_FLAGS_SATURATED) CRUC_SAT_CNT_CNT 0 x.sats) E_CRUC_SATURATED 0 sc.1 sc.2 k

/-- The status bits of what a run of a kind has met (R164): ITER and JOINT_CLAMPED belong to IK_DLS alone (06 R189). -/
def metBits (kind : Nat) (x : RunMet) : Nat :=
  16 * b2n (x.sats != 0) + 32 * b2n (!x.viol.isEmpty) + if kind = 3 then 256 * b2n x.clamped + 4096 * min 15 x.iter else 0

/-- Adds DEGRADED to a status that holds NOT_CONVERGED, SATURATED, RANGE, SINGULAR or POISON (R162). -/
def degrade (st : Nat) : Nat := if (st &&& 0x474) != 0 then st ||| 8 else st

/-! ## Results of the programs -/

/-- The result of a run: payload words, status bits of its kind, header bytes 12 to 19, the pairs that DIST marks. -/
structure Result where
  words : List Int := []
  st : Nat := 0
  hdr : List Nat := [0, 0, 0, 0, 0, 0, 0, 0]
  near : List Nat := []
  deriving DecidableEq, Repr

/-- What a run of slot `k` computes with. -/
def laneOf (m : Mach) (k : Nat) : Lane := { fmts := m.mould.formats, model := m.mould.modelId, slot := k }

/-- The words of a frame: origin in Length, rotation in Q1.30. -/
def frameWords (f : LFrame) : List Int := vals f.p ++ vals f.r

/-- The words of Jacobian columns. -/
def jacWords (cols : List (List Num)) : List Int := cols.flatMap vals

/-- The links of a chain and its base in stored numbers. -/
def laneModel (m : Mach) (c : Nat) : LFrame × List Link := let cm := chainModel m c; (lframe cm.1, cm.2)

/-- FK and JAC (R166 to R168). Which joint positions they take the spec does not say: those that ID would take, else the setpoints
committed for cycle n (DESIGN CHOICE, entry 92). -/
def runFk (m : Mach) (r : CrucRun) (jac : Bool) : Result × RunMet :=
  let c := slotChain m r.slot
  let cm := laneModel m c
  let x := laneOf m r.slot
  let q := (chainQ m c r.cycle).getD (committedQ m c r.cycle)
  let go : Run Result := do
    let fs ← x.fk cm.1 cm.2 q
    if jac then
      let j ← x.jacobian cm.1 cm.2 fs
      pure { words := frameWords (lflange cm.1 fs) ++ jacWords j }
    else pure { words := fs.flatMap frameWords }
  go.run (inputCheck m c q)

/-- The IK registers latched by a run, as signed numbers of their classes (DEDUCED, entry 93: the spec gives the classes, whose formats are
signed, and no rule for a negative value). -/
def ikCfg (l : List Nat) : IkCfg :=
  let s (i : Nat) : Int := sgn 32 (nth l i)
  { maxIter := nth l 0, lambda := s 1, w := s 2, tolP := s 3, tolR := s 4, dqRot := s 5, dqLin := s 6, clampEn := nth l 7 == 1 }

/-- The target of a chain: the flange pose that the Runner has handed over for cycle n + 1, position and rotation (R170). -/
def targetPose (m : Mach) (c : Nat) : List Num × List Num :=
  let t := (sget m.run.flange c (0, [])).2
  (nums 23 (t.take 3), nums 30 ((t.drop 3).take 9))

/-- The iteration of a run with at most `n` updates. -/
def ikRun (m : Mach) (r : CrucRun) (n : Nat) : Run IkRun :=
  let c := slotChain m r.slot
  let cm := laneModel m c
  let t := targetPose m c
  (laneOf m r.slot).ikLoop cm.1 cm.2 (ikCfg r.latch) t.1 t.2 n { q := r.q0 }

/-- IK_DLS (R168 to R170). -/
def runIk (m : Mach) (r : CrucRun) : Result × RunMet :=
  let c := slotChain m r.slot
  let cm := laneModel m c
  let go : Run Result := do
    let y ← ikRun m r (ikCfg r.latch).maxIter
    let j ← (laneOf m r.slot).jacobian cm.1 cm.2 y.fs
    pure { words := y.q ++ frameWords (lflange cm.1 y.fs) ++ jacWords j,
           st := (if y.conv then 2 else 4) + 512 * b2n r.cold, hdr := leBytes 4 y.errP ++ leBytes 4 y.errR }
  go.run (inputCheck m c r.q0)

/-- The joint rates and accelerations that an ID program of a joint-space group takes from the Runner's snapshot entries (R176). -/
def entryRates (m : Mach) (x : Lane) (c : Nat) (ls : List Link) : Run (List Num × List Num) := do
  let act := ((ls.zipIdx).filter (fun l => l.1.typ != 2)).zip (chainAxes m c)
  let qd ← act.mapM (fun a => x.settle (qdDest a.1.1 a.1.2) (toFmt a.1.1.rsh (jointRate m a.2 (nthI (nextEntry m a.2.axis) 1))) false)
  let qdd ← act.mapM (fun a => do
    let d := dynV "qdd" a.1.2
    x.settle d (toFmt (x.frac d) (roundDiv (jointRate m a.2 (nthI (nextEntry m a.2.axis) 2) * 800000000) (cycLen m))) false)
  pure (qd, qdd)

/-- The gravity of a chain, in Cartesian rates. -/
def gravity (m : Mach) (c : Nat) : List Num := nums 23 ((List.range 3).map (fun i => sgn 32 (unsg 32 (Config.gravity m.mould.modelId c i))))

/-- ID (R176 to R178). Every intermediate quantity has its own FORMATS entry. -/
def runId (m : Mach) (r : CrucRun) : Option (Result × RunMet) :=
  let c := slotChain m r.slot
  let cm := laneModel m c
  let x := { laneOf m r.slot with all := true }
  (chainQ m c r.cycle).map (fun q =>
    let mv := nums 23 (((sget m.run.flange c (0, [])).2).drop 12)
    let cart := isChainGroup m c
    let go : Run Result := do
      let fs ← x.fk cm.1 cm.2 q
      let rates ← if cart then x.rateMap cm.1 cm.2 fs (ikCfg r.latch) (mv.take 6) (mv.drop 6) else entryRates m x c cm.2
      let tau ← x.rnea cm.1 (gravity m c) cm.2 fs rates.1 rates.2
      pure { words := vals tau ++ if cart then vals rates.1 ++ vals rates.2 else [] }
    go.run (inputCheck m c q))

/-- MASS (R179). -/
def runMass (m : Mach) (r : CrucRun) : Option (Result × RunMet) :=
  let c := slotChain m r.slot
  let cm := laneModel m c
  let x := laneOf m r.slot
  (chainQ m c r.cycle).map (fun q =>
    let go : Run Result := do
      let fs ← x.fk cm.1 cm.2 q
      let t ← x.massTri cm.2 fs
      pure { words := vals t }
    go.run (inputCheck m c q))

/-- The objects of a CLOSED instance, with their numbers (R182, 04 R120). -/
def instObjects (m : Mach) (j : Nat) : List (List Nat × List (List Nat)) := (objectsOf m.mould.image).filter (fun o => field o.1 68 1 == j)

/-- The chains of a CLOSED instance in HELD order (R188). -/
def instChains (m : Mach) (j : Nat) : List Nat := (((instObjects m j).flatMap (fun o => o.2)).map (fun g => field g 0 1)).eraseDups

/-- Whether the IK_DLS and the ID section of a chain serve a cycle: what a CLOSED program reads of it (R176, R180). -/
def chainServed (m : Mach) (n c : Nat) : Bool :=
  match chainSlot m 3 c, chainSlot m 0x10 c with
  | some i, some d => serves m i n && serves m d n
  | _, _ => false

/-- The rows of a grasp of object `ob` whose centre of mass lies at `co` (R181). -/
def graspRows (m : Mach) (x : Lane) (ob : Nat) (co : List Num) (g : List Nat) : Run (List CRow) := do
  let c := field g 0 1
  let nj := (chainAxes m c).length
  let ik := (chainSlot m 3 c).getD 0
  let w (i k : Nat) : List Int := (List.range k).map (fun j => secWord m ik (pubBuf m ik) (i + j))
  let p := nums 23 (w nj 3)
  let r := nums 30 (w (nj + 3) 9)
  let cols := (List.range nj).map (fun i => nums 23 (w (nj + 12 + 6 * i) 3) ++ nums 30 (w (nj + 15 + 6 * i) 3))
  let o ← v3 (fun i => x.mac (.cls "o_g" 23) ((nn p i, one) :: (row3 r i).zip (nums 23 (s32s g 4 3))))
  let moved ← x.moveJac o p cols
  let e ← x.sum (.cls "arm" 23) [o, co.map neg]
  let wf := x.frac { name := "weights" }
  let ff := x.frac { name := "f" }
  pure ((List.range (if field g 1 1 = 0 then 6 else 3)).map (fun i =>
    { ob := ob, chain := c, col := graspCol e i, jr := moved.map (fun k => nn k i), wf := { v := field g (52 + 4 * i) 4, f := wf },
      fsq := { v := s32 g (76 + 4 * i), f := ff } }))

/-- An object of a CLOSED program for cycle n + 1 with its rows (R180). -/
def closedObject (m : Mach) (x : Lane) (g : List Num) (ob : Nat) (o : List Nat × List (List Nat)) : Run (CObj × List CRow) := do
  let mo := (sget m.run.objs (field o.1 0 1) (0, [])).2
  let p := nums 23 (mo.take 3)
  let r := nums 30 ((mo.drop 3).take 9)
  let v (i : Nat) : List Num := nums 23 ((mo.drop (12 + 3 * i)).take 3)
  let cc ← x.mulV (dyn23 "cc" ob) r (nums 23 (s32s o.1 8 3))
  let co ← x.sum (dyn23 "c_o" ob) [p, cc]
  let wxc ← x.cross (dyn23 "wxc" ob) (v 1) cc
  let ao ← v3 (fun k => x.mac (dyn23 "a_o" ob) ((nn (v 2) k, one) :: crossT (v 3) cc k ++ crossT (v 1) wxc k))
  let ag ← x.sum (dyn23 "a_g" ob) [ao, g.map neg]
  let fw ← x.scale { name := "w" } { v := s32 o.1 4, f := field o.1 2 1 } ag
  let ri ← x.mulM (dynV "ri" ob) r (nums (field o.1 3 1) (symm (s32s o.1 20 6)))
  let ii ← x.mulMT (dynV "ii" ob) ri r
  let iw ← x.mulV (dynV "iw" ob) ii (v 1)
  let nw ← v3 (fun k => x.mac { name := "w" } ((row3 ii k).zip (v 3) ++ crossT (v 1) iw k))
  let rows ← o.2.mapM (graspRows m x ob co)
  let wp := x.frac { name := "weights" }
  pure ({ p := (List.range 6).map (fun i => { v := field o.1 (44 + 4 * i) 4, f := wp }), w := fw ++ nw }, rows.flatten)

/-- A chain of a CLOSED program: its weights and the torques of its ID section (R180). -/
def closedChain (m : Mach) (x : Lane) (j c : Nat) : CChain :=
  let g := (((instObjects m j).flatMap (fun o => o.2)).find? (fun g => field g 0 1 == c)).getD []
  let idn := (chainSlot m 0x10 c).getD 0
  let tsh := ((linksOf m.mould.image c).filter (fun l => l.typ != 2)).map (·.tsh)
  let nj := tsh.length
  let wt := x.frac { name := "weights" }
  { chain := c, wtau := (List.range nj).map (fun i => { v := field g (100 + 4 * i) 4, f := wt }),
    tau0 := (tsh.zip (secWords m idn (pubBuf m idn) nj)).map (fun t => { v := t.2, f := t.1 }), tsh := tsh }

/-- CLOSED (R180 to R185). The gravity of an object is that of the chain of its first grasp: DESIGN CHOICE (entry 64), the spec gives
gravity per chain only. -/
def runClosed (m : Mach) (r : CrucRun) : Option (Result × RunMet) :=
  let j := progInstance m r.slot
  let x := laneOf m r.slot
  let chs := instChains m j
  if !chs.all (chainServed m (r.cycle + 1)) then none
  else
    let go : Run Result := do
      let os ← ((instObjects m j).zipIdx).mapM (fun o => closedObject m x (gravity m (field (o.1.2.headD []) 0 1)) o.2 o.1)
      let y ← x.closed (sgn 32 (nth r.latch 0)) (os.map (·.1)) (chs.map (closedChain m x j)) (os.flatMap (·.2))
      pure { words := vals y.tau ++ vals y.f ++ vals y.res, st := if y.reg = [] then 0 else 64,
             hdr := leBytes 4 (maxAbs (vals y.res)) ++ leBytes 2 (y.reg.headD 0xFFFF) ++ leBytes 2 (min 0xFFFF y.reg.length) }
    some (go.run {})

/-- The end points of a capsule in the cell frame, in Length; `frame` gives the frame of a chain's joint (R186). -/
def planCapsule (x : Lane) (frame : Nat → Nat → LFrame) (r : List Nat) : Run (List Fx × List Fx × Fx) := do
  let a := nums 23 (s32s r 4 3)
  let b := nums 23 (s32s r 16 3)
  let fx (l : List Num) : List Fx := l.map (fun n => ofFmt n.f n.v)
  let rad := ofFmt 23 (s32 r 28)
  if field r 0 1 = 0xFF then pure (fx a, fx b, rad)
  else
    let f := frame (field r 0 1) (field r 1 1)
    let put (p : List Num) : Run (List Num) := v3 (fun i => x.mac (.cls "cap" 23) ((nn f.p i, one) :: (row3 f.r i).zip p))
    let a ← put a
    let b ← put b
    pure (fx a, fx b, rad)

/-- DIST (R186 to R189): distances, the bitmap of pairs below the threshold, DMIN and PMIN; also the marked pairs. It reads the chains of
the capsules in its pair list, each held to the input check of R161, which speaks of chain programs (DESIGN CHOICE, entry 131). DMIN and PMIN of an empty list, of which the spec says nothing, are 0 (DESIGN CHOICE, entry 94). -/
def runDist (m : Mach) (r : CrucRun) : Option (Result × RunMet) :=
  let img := m.mould.image
  let caps := capsOf img
  let pairs := (((distOf img).1.find? (fun p => field p.1 0 1 == r.slot)).map (·.2)).getD []
  let used := ((pairs.flatMap (fun p => [field p 0 2, field p 2 2])).eraseDups).map (fun i => (i, caps.getD i []))
  let chains := ((used.map (fun c => field c.2 0 1)).filter (· != 0xFF)).eraseDups
  let qs := chains.map (fun c => (c, chainQ m c r.cycle))
  let x := laneOf m r.slot
  if !qs.all (fun q => q.2.isSome) then none
  else
    let go : Run Result := do
      let fr ← qs.mapM (fun q => do
        let cm := laneModel m q.1
        let fs ← x.fk cm.1 cm.2 (q.2.getD [])
        pure (q.1, fs))
      let at_ (c j : Nat) : LFrame := (((fr.find? (fun x => x.1 == c)).map (·.2)).getD []).getD j {}
      let cs ← used.mapM (fun c => do
        let y ← planCapsule x at_ c.2
        pure (c.1, y))
      let cap (i : Nat) : List Fx × List Fx × Fx := ((cs.find? (fun c => c.1 == i)).map (·.2)).getD ([], [], 0)
      let ds ← pairs.mapM (fun p => x.settle (.cls "dist" 23) (capsuleDist (cap (field p 0 2)) (cap (field p 2 2))) false)
      let ds := vals ds
      let thr := sgn 32 (nth r.latch 0)
      let near := ((ds.zipIdx).filter (fun d => thr != 0 && decide (d.1 < thr))).map (·.2)
      let best := (ds.zipIdx).foldl (fun (b : Int × Nat) d => if d.1 < b.1 then d else b) (ds.headD 0, 0)
      let map_ := (List.range ((ds.length + 31) / 32)).map (fun w => sgn 32 (maskOf ((near.filter (fun i => i / 32 == w)).map (· % 32))))
      pure { words := ds ++ map_, hdr := leBytes 4 (unsg 32 best.1) ++ leBytes 4 best.2, near := near }
    some (go.run ((qs.map (fun q => (inputCheck m q.1 (q.2.getD [])).viol)).foldl (fun (a : RunMet) v => { a with viol := a.viol ++ v }) {}))

/-- The result of a run and what it has met; none where an input section does not serve cycle n + 1. -/
def runProgram (m : Mach) (r : CrucRun) : Option (Result × RunMet) :=
  match slotKind m r.slot with
  | 1 => some (runFk m r false)
  | 2 => some (runFk m r true)
  | 3 => some (runIk m r)
  | 0x10 => runId m r
  | 0x11 => runMass m r
  | 0x12 => runClosed m r
  | 0x20 => runDist m r
  | _ => none

/-! ## End (R163, R164) -/

/-- Publishes a run's section (R163): header and payload into the other buffer, then the index entry. -/
def publish (m : Mach) (r : CrucRun) (st : Nat) (hdr : List Nat) (words : List Int) : Mach :=
  let k := r.slot
  let b := 1 - pubBuf m k
  let m := pubWrite m (sectionAddr m k b) (leBytes 8 (r.cycle + 1) ++ leBytes 4 st ++ hdr ++ leBytes 4 (m.cyc.now - r.start)
    ++ List.replicate 8 0 ++ words.flatMap (fun w => leBytes 4 (unsg 32 w)))
  pubWrite m (indexAddr m k) (leBytes 4 (r.cycle + 1) ++ [b, k, 0, 0] ++ leBytes 4 st ++ [0, 0, 0, 0])

/-- Events and registers that the kind of a run adds: IK without convergence, CLOSED pivots, DIST pairs newly near. -/
def kindEvents (m : Mach) (r : CrucRun) (st : Nat) (z : Result) : Mach :=
  let k := r.slot
  let sc := slotScope m k
  match slotKind m k with
  | 3 =>
    if st.testBit 2 then
      report (incF (flag m CRUC_FLAGS_NOT_CONVERGED) CRUC_NC_CNT_CNT 0 1) E_CRUC_NOT_CONVERGED 0 sc.1 sc.2 (slotChain m k + 256 * bits st 12 4)
    else m
  | 0x12 =>
    let j := progInstance m k
    let piv := field z.hdr 4 2
    let cnt := min 255 (field z.hdr 6 2)
    let m := setF (setF m CRUC_CL_STAT_PIVOT j piv) CRUC_CL_STAT_PIV_CNT j cnt
    if st.testBit 6 then report (incF m CRUC_SING_CNT_CNT 0 1) E_CRUC_SINGULAR 0 sc.1 sc.2 (piv + cnt * 65536 + j * 2 ^ 24) else m
  | 0x20 =>
    let j := progInstance m k
    let was := sget m.cruc.near j []
    let m := z.near.foldl (fun m p => if was.contains p then m else report m E_CRUC_DIST_NEAR 7 sc.1 sc.2 (p % 4096 + j * 4096)) m
    { m with cruc := { m.cruc with near := sput m.cruc.near j z.near [] } }
  | _ => m

/-- A run leaves its lane groups. -/
def runEnds (m : Mach) (k : Nat) (complete : Bool) : Mach :=
  let m := if complete then setF m CRUC_MISS_RUN_RUN k 0 else m
  crucSync { m with cruc := { m.cruc with run := m.cruc.run.filter (fun r => r.slot != k), fin := m.cruc.fin ++ [k], lastEnd := m.cyc.now } }

/-- Notes the offset of a slot's section, which stays what it was at the slot's first end (R163). -/
def placeSection (m : Mach) (k off : Nat) : Mach :=
  if m.crucSecs.any (fun e => e.1 == k) then m else { m with crucSecs := sins m.crucSecs k off }

/-- CRUCIBLE_PROGRAM_END: the run of slot `k` issues its last write at tick `t`, before the deadline (R163, R176, R193). -/
def programEnd (k t : Nat) (x : ProgramRun) (m : Mach) : Mach :=
  match m.cruc.run.find? (fun r => r.slot == k) with
  | none => m
  | some r =>
    if crucDeadline m ≤ t then m
    else
      let m := placeSection (at' m t) k x.off
      let m := match runProgram m r with
        | none =>
          let sc := slotScope m k
          report (putAttempt m k stHELD) E_CRUC_INPUT_STALE 0 sc.1 sc.2 k
        | some (z, w) =>
          let st := degrade (z.st + stVALID + metBits (slotKind m k) w)
          kindEvents (reportRun (publish m r st z.hdr z.words) k w) r st z
      finishKind (runEnds m k true) 1 k 1

/-- CRUCIBLE_PROGRAM_END. -/
def execCrucibleProgramEnd (k t : Nat) (x : ProgramRun) (s : State) : Out := done (programEnd k t x) s

/-- CRUCIBLE_PROGRAM_ABORT: the run of slot `k` reads a poisoned word, or meets an invalid instruction or address (R165). In the deadline tick the abort is recorded (R197). -/
def programAbort (k t : Nat) (why : RunAbort) (m : Mach) : Mach :=
  match m.cruc.run.find? (fun r => r.slot == k) with
  | none => m
  | some r =>
    if crucDeadline m < t then m
    else
      let m := at' m t
      let sc := slotScope m k
      let code := if why.poison then E_CRUC_POISON else E_CRUC_PROG_FAULT
      let m := putAttempt m k (degrade (stHELD + 2048 + 1024 * b2n why.poison + 512 * b2n r.cold + metBits (slotKind m k) why.met))
      let m := flag (reportRun m k why.met) CRUC_FLAGS_PROG_FAULT
      let m := irq (report (if why.poison then flag m CRUC_FLAGS_POISON else m) code (reacClass m code k 2) sc.1 sc.2 k k) 108
      finishKind (runEnds m k false) 1 k 1

/-- CRUCIBLE_PROGRAM_ABORT. -/
def execCrucibleProgramAbort (k t : Nat) (why : RunAbort) (s : State) : Out := done (programAbort k t why) s

/-! ## The deadline monitor (R193 to R197) -/

/-- The class of a repeated miss: a record for the slot's kind, one for every kind, or the default (R195). -/
def missClass (m : Mach) (kind : Nat) : Nat :=
  let rec_ (i : Nat) : Option ReacRec := m.mould.reacs.find? (fun r => r.code == E_CRUC_DEADLINE && r.index == i)
  match rec_ kind with
  | some r => r.cls
  | none => match rec_ 0xFFFF with
    | some r => r.cls
    | none => if kind = 0x11 ∨ kind = 0x20 then 0 else 2

/-- The scope of a repeated miss (R195): the groups of the chains that a slot serves, for CLOSED every group of its coupled sets,
for DIST the cell. -/
def missScope (m : Mach) (k : Nat) : List (Nat × Nat) :=
  match slotKind m k with
  | 0x20 => [(0, 0)]
  | 0x12 =>
    let obs := ((objectsOf m.mould.image).zipIdx.filter (fun o => field o.1.1 68 1 == progInstance m k)).map (·.2)
    (m.mould.sets.filter (fun s => obs.any (fun o => s.omask.testBit o))).flatMap (fun s => (bitsOf 32 s.gmask).map (fun g => (2, g)))
  | _ => [slotScope m k]

/-- State of a slot at the deadline, as DETAIL gives it (R199): 2 running, 1 queued, 3 ready outside the window in this cycle, 0 else. -/
def missState (m : Mach) (k : Nat) : Nat :=
  let c := m.cruc
  if c.run.any (fun r => r.slot == k) then 2 else if c.wait.any (fun w => w.1 == k) then 1 else if c.outside.contains (k, m.cyc.n) then 3 else 0

/-- A running slot stopped at the deadline (R193, R194): what it had met, ATTEMPT, and for IK_DLS the iterate of the last completed
update, which stays in the lane group's scratch. -/
def stopRun (m : Mach) (r : CrucRun) (met : RunMet) : Mach :=
  let k := r.slot
  let sc := slotScope m k
  let ik := slotKind m k == 3
  let m := putAttempt m k (degrade (stHELD + 4 * b2n ik + 512 * b2n r.cold + metBits (slotKind m k) met))
  let m := reportRun m k met
  if !ik then m
  else
    let q := ((ikRun m r met.iter).run {}).1.q
    let m := { m with cruc := { m.cruc with keep := (bitsOf 16 (slotGroups m k)).foldl (fun t g => sput t g q []) m.cruc.keep } }
    report (incF (flag m CRUC_FLAGS_NOT_CONVERGED) CRUC_NC_CNT_CNT 0 1) E_CRUC_NOT_CONVERGED 0 sc.1 sc.2 (slotChain m k + 256 * min 15 met.iter)

/-- One missed slot (R193, R194, R195). -/
def missSlot (stops : List (Nat × RunMet)) (m : Mach) (k : Nat) : Mach :=
  let state := missState m k
  let sc := slotScope m k
  let m := match m.cruc.run.find? (fun r => r.slot == k) with
    | some r => stopRun m r (((stops.find? (fun i => i.1 == k)).map (·.2)).getD {})
    | none => putAttempt m k stHELD
  let m := incF (incF (flag m CRUC_DL_FLAGS_MISS) CRUC_DL_CNT_CNT 0 1) CRUC_MISS_RUN_RUN k 1
  let m := setF (setF (setF m CRUC_DL_LAST_SLOT 0 k) CRUC_DL_LAST_STATE 0 state) CRUC_DL_LAST_CYCLE 0 m.cyc.n
  let run := getF m CRUC_MISS_RUN_RUN k
  let again := decide (getF m CRUC_DL_CFG_N_MISS ≤ run)
  let cls := if again then missClass m (slotKind m k) else 0
  let m := if again then flag m CRUC_DL_FLAGS_REPEAT else m
  let old := m.reacts
  let m := report m E_CRUC_DEADLINE cls sc.1 sc.2 (k + 64 * state + 256 * run)
  irq { m with reacts := if cls = 0 then old else old ++ (missScope m k).map (fun x => { cls := cls, kind := x.1, id := x.2 }) } 108

/-- CRUCIBLE_DEADLINE: the window closes; `stops` gives what the runs that are stopped had met. -/
def crucibleDeadline (stops : List (Nat × RunMet)) (m : Mach) : Mach :=
  if !m.cruc.isOpen || m.cyc.skip then m
  else
    let m := irq (at' m (crucDeadline m)) 21
    let missed := (usedSlots m).filter (fun k => !m.cruc.fin.contains k)
    let m := missed.foldl (missSlot stops) m
    let used := (if m.cruc.run = [] then m.cruc.lastEnd else m.cyc.now) - m.cruc.winStart
    let m := setF m CRUC_CYC_USED_CYC 0 used
    let m := if getF m CRUC_CYC_MAX_MAX < used then setF m CRUC_CYC_MAX_MAX 0 used else m
    let m := crucSync { m with cruc := { m.cruc with isOpen := false, run := [], wait := [], outside := [] } }
    missed.foldl (fun m k => finishKind m 1 k 1) m

/-- CRUCIBLE_DEADLINE. -/
def execCrucibleDeadline (stops : List (Nat × RunMet)) (s : State) : Out := done (crucibleDeadline stops) s

/-- CRUC_STATUS (03 R103): what it writes is left open. -/
def execCrucStatus (j : Job) (s : State) : Out := done (runJob 0x0501 (fun j m => freeOut j m) j) s

end Sys2Proof.Machine
end

