-- ==== Sys2Proof/Machine/Profile.lean ====
section
/-! DEFINITION. Profiles of the Runner: point-to-point (07 R213, R214, R682), the time-scale ramp (R211), the time-based stop
(R221), splines (R219). -/

namespace Sys2Proof.Machine

/-! ## 62 fraction bits (R682) -/

/-- 1. -/
def p62 : Nat := 2 ^ 62
/-- A product with convergent rounding. -/
def mul62 (a b : Nat) : Nat := (roundDiv (a * b : Nat) p62).toNat
/-- A quotient with convergent rounding. -/
def div62 (a b : Nat) : Nat := if b = 0 then 0 else (roundDiv (a * p62 : Nat) b).toNat
/-- The largest value whose square does not exceed the operand. -/
def sqrt62 (a : Nat) : Nat := isqrt (a * p62)
/-- The integer cube root, bit by bit. -/
def icbrtFrom (n : Nat) : Nat → Nat → Nat
  | 0, r => r
  | b + 1, r => icbrtFrom n b (if (r + 2 ^ b) ^ 3 ≤ n then r + 2 ^ b else r)
/-- The largest value whose cube does not exceed the operand. -/
def cbrt62 (a : Nat) : Nat := icbrtFrom (a * p62 * p62) 110 0

/-- A limit in counts per cycle (or its powers): value x 2^sigma x L, L in seconds. -/
def perCycle (v : Nat) (sigma : Int) (lt : Nat) : Nat :=
  if 0 ≤ sigma then div62 (v * 2 ^ sigma.toNat * lt * p62) (800000000 * p62)
  else div62 (v * lt * p62 / 2 ^ (-sigma).toNat) (800000000 * p62)

/-- Phase lengths of an axis: t1, t2, t4, t (R213). -/
def phases (d v a j : Nat) : List Nat :=
  if d = 0 then [0, 0, 0, 0]
  else
    let aj := div62 a j
    let t1 := min aj (sqrt62 (div62 v j))
    let t2 := div62 v (mul62 j t1) - t1
    if mul62 v (2 * t1 + t2) ≤ d * p62 then
      let t4 := div62 (d * p62) v - (2 * t1 + t2)
      [t1, t2, t4, 4 * t1 + 2 * t2 + t4]
    else
      let t1 := min aj (cbrt62 (div62 (d * p62) (2 * j)))
      let t2 := if t1 < aj then 0 else div62 (sqrt62 (mul62 t1 t1 + div62 (4 * d * p62) a) - 3 * t1) (2 * p62)
      [t1, t2, 0, 4 * t1 + 2 * t2]

/-- The profile of an axis from limits in the speed format and the scales of PARAM2 and PARAM3: t1, t2, t4, t. -/
def ptpPhases (d vmax amax jmax : Nat) (sigma : Int) (lt vs acs : Nat) : List Nat :=
  phases d (mul62 (perCycle vmax sigma lt) (vs * 2 ^ 32)) (mul62 (perCycle amax sigma lt) (acs * 2 ^ 32)) (perCycle jmax sigma lt)

/-- Distance per unit jerk while accelerating (R682). -/
def sAcc (t1 t2 tau : Nat) : Nat :=
  let cube (x : Nat) : Nat := mul62 (mul62 x x) x
  let q (x k : Nat) : Nat := div62 x (k * p62)
  if tau ≤ t1 then q (cube tau) 6
  else if tau ≤ t1 + t2 then
    let w := tau - t1
    q (cube t1) 6 + q (mul62 (mul62 t1 t1) w) 2 + q (mul62 t1 (mul62 w w)) 2
  else
    let w := tau - t1 - t2
    let s2 := q (cube t1) 6 + q (mul62 (mul62 t1 t1) t2) 2 + q (mul62 t1 (mul62 t2 t2)) 2
    let v2 := q (mul62 t1 t1) 2 + mul62 t1 t2
    s2 + mul62 v2 w + q (mul62 t1 (mul62 w w)) 2 - q (cube w) 6

/-- Speed per unit jerk while accelerating. -/
def vAcc (t1 t2 tau : Nat) : Nat :=
  let q (x k : Nat) : Nat := div62 x (k * p62)
  if tau ≤ t1 then q (mul62 tau tau) 2
  else if tau ≤ t1 + t2 then q (mul62 t1 t1) 2 + mul62 t1 (tau - t1)
  else
    let w := tau - t1 - t2
    q (mul62 t1 t1) 2 + mul62 t1 t2 + mul62 t1 w - q (mul62 w w) 2

/-- Peak speed and distance per unit jerk of a profile. -/
def ptpPeak (pr : List Nat) : Nat × Nat :=
  let vp := mul62 (nth pr 0) (nth pr 0 + nth pr 1)
  (vp, mul62 vp (2 * nth pr 0 + nth pr 1 + nth pr 2))

/-- Distance and speed per unit jerk at time `tau` of a profile. -/
def profAt (pr : List Nat) (tau : Nat) : Nat × Nat :=
  let t1 := nth pr 0
  let t2 := nth pr 1
  let b3 := 2 * t1 + t2
  let pk := ptpPeak pr
  if tau ≤ b3 then (sAcc t1 t2 tau, vAcc t1 t2 tau)
  else if tau ≤ b3 + nth pr 2 then (sAcc t1 t2 b3 + mul62 pk.1 (tau - b3), pk.1)
  else (pk.2 - sAcc t1 t2 (nth pr 3 - tau), vAcc t1 t2 (nth pr 3 - tau))

/-- A speed in counts per cycle, num / den, scaled by k, in the speed format, rounded to nearest with ties to even. -/
def toSpeed (num : Int) (den : Nat) (k : Int) (sigma : Int) (lt : Nat) : Int :=
  let n := num * k * 800000000 * (if sigma < 0 then 2 ^ (-sigma).toNat else 1)
  let d := den * 2 ^ 30 * lt * (if 0 ≤ sigma then 2 ^ sigma.toNat else 1)
  if d = 0 then 0 else sat 32 (roundDiv n d)

/-- Ceiling of a duration to whole cycles. -/
def ceil62 (t : Nat) : Nat := ceilDiv t p62

/-- Position and unscaled speed (counts per cycle as num / den) of an axis at path time `theta` (32 fraction bits) of its
segment (R214, R682). -/
def ptpEval (start target : Int) (pr : List Nat) (theta : Nat) : Int × Int × Nat :=
  let t := nth pr 3
  let tt := nth pr 4 * p62
  let th := theta * 2 ^ 30
  let d := (target - start).natAbs
  if d = 0 ∨ t = 0 then (start, 0, 1)
  else if tt ≤ th then (target, 0, 1)
  else
    let x := profAt pr (div62 (mul62 th t) tt)
    let pk := ptpPeak pr
    let sg : Int := if start < target then 1 else -1
    (start + sg * roundDiv (d * x.1 : Nat) pk.2, sg * (d * x.2 * t : Nat), pk.2 * tt)

/-- V_PEAK of an axis: its largest speed over VMAX, 2^30 for 1. -/
def ptpRatio (d vmax : Nat) (sigma : Int) (lt : Nat) (pr : List Nat) : Nat :=
  let pk := ptpPeak pr
  if d = 0 ∨ nth pr 4 = 0 then 0
  else
    let v := perCycle vmax sigma lt
    (roundDiv (d * pk.1 * nth pr 3 * 2 ^ 30 : Nat) (pk.2 * nth pr 4 * v)).toNat

/-! ## The time-scale ramp (R211) -/

/-- The duration of a ramp from k to num / den steps of 2^-30. -/
def rampDur (k : Int) (num den kt : Nat) : Nat := max 1 (ceilDiv ((((num : Int) - k * den).natAbs) * kt) (den * 2 ^ 30))

/-- The entry `i` of a ramp: the quintic of R211, exact, rounded once and clamped. -/
def rampAt (r : Ramp) (i : Nat) : Int :=
  let n : Int := i
  let d : Int := r.dur
  if r.dur ≤ i then clampI 0 (2 ^ 30) (roundDiv (r.num : Int) r.den)
  else
    let q : Int := r.den
    let v := d * r.d1 * q
    let a := d * d * r.d2 * q
    let dl := (r.num : Int) - r.k0 * q
    let num := 2 * r.k0 * q * d ^ 5 + 2 * v * n * d ^ 4 + a * n ^ 2 * d ^ 3 + (20 * dl - 12 * v - 3 * a) * n ^ 3 * d ^ 2
      + (-30 * dl + 16 * v + 3 * a) * n ^ 4 * d + (12 * dl - 6 * v - a) * n ^ 5
    clampI 0 (2 ^ 30) (roundDiv num (2 * r.den * r.dur ^ 5))

/-! ## The time-based stop (R221) -/

/-- t1 and t2 of the stop of an axis from speed `v` (counts per cycle, 62 fraction bits) with its limits (R217). -/
def stopPhases (v a j : Nat) : Nat × Nat :=
  if v = 0 then (0, 0)
  else if mul62 a a ≤ mul62 v j then (div62 a j, div62 v a - div62 a j) else (sqrt62 (div62 v j), 0)

/-- Distance and speed of a stop `i` cycles after its start, stretched to `dur`: counts (62 fraction bits), and counts per cycle. -/
def stopAt (c : Int × Nat × Nat) (dur i : Nat) : Int × Int :=
  let own := 2 * c.2.1 + c.2.2
  let v := c.1.natAbs
  let sg : Int := if c.1 < 0 then -1 else 1
  if own = 0 then (0, 0)
  else
    let tau := min own (div62 (mul62 (i * p62) own) dur)
    let full := mul62 c.2.1 (c.2.1 + c.2.2)
    let s := mul62 v tau - div62 (mul62 v (sAcc c.2.1 c.2.2 tau)) full
    let w := v - div62 (mul62 v (vAcc c.2.1 c.2.2 tau)) full
    (sg * (div62 (mul62 s dur) own : Nat), if own ≤ tau then 0 else sg * (w : Nat))

/-- Counts from 62 fraction bits. -/
def count62 (x : Int) : Int := roundShift x 62

/-! ## Splines (R219) -/

/-- The control points with their repeats: the start three times, the points, the last one twice more. -/
def splineCtrl (start : List Int) (pts : List (List Int)) : List (List Int) :=
  [start, start, start] ++ pts ++ (match pts.getLast? with | some p => [p, p] | none => [])

/-- Six times the coefficients of a span of one axis: c0, c1, c2, c3 of the parameter u. -/
def spanCoef (p0 p1 p2 p3 : Int) : List Int := [p0 + 4 * p1 + p2, 3 * (p2 - p0), 3 * (p0 - 2 * p1 + p2), -p0 + 3 * p1 - 3 * p2 + p3]

/-- The coefficients of span `i` of axis `x`. -/
def spanOf (ctrl : List (List Int)) (i x : Nat) : List Int :=
  let p (k : Nat) : Int := nthI (ctrl.getD (i + k) []) x
  spanCoef (p 0) (p 1) (p 2) (p 3)

/-- Number of spans. -/
def spanCount (ctrl : List (List Int)) : Nat := ctrl.length - 3

/-- Position and unscaled speed (counts per cycle as num / den) at path time `theta` (32 fraction bits). -/
def splineEval (ctrl : List (List Int)) (interval x theta : Nat) : Int × Int × Nat :=
  let den := interval * 2 ^ 32
  let i := theta / den
  if spanCount ctrl ≤ i then (nthI (ctrl.getLastD []) x, 0, 1)
  else
    let c := spanOf ctrl i x
    let u : Int := (theta % den : Nat)
    let d : Int := den
    (roundDiv (nthI c 0 * d ^ 3 + nthI c 1 * u * d ^ 2 + nthI c 2 * u ^ 2 * d + nthI c 3 * u ^ 3) (6 * den ^ 3),
     nthI c 1 * d ^ 2 + 2 * nthI c 2 * u * d + 3 * nthI c 3 * u ^ 2, 6 * den ^ 2 * interval)

/-- The largest speed (num / den), acceleration and jerk of a span per unit of the parameter, all six-fold. -/
def spanPeaks (c : List Int) : Nat × Nat × Nat × Nat :=
  let c1 := nthI c 1
  let c2 := nthI c 2
  let c3 := nthI c 3
  let den := max 1 (3 * c3.natAbs)
  let ends := max c1.natAbs (c1 + 2 * c2 + 3 * c3).natAbs * den
  -- the vertex of the parabola lies inside the span
  let sg : Int := if c3 < 0 then -1 else 1
  let inside := decide (c3 ≠ 0 ∧ 0 < -c2 * sg ∧ -c2 * sg < 3 * c3.natAbs)
  let vert := if inside then (c1 * den - sg * c2 * c2).natAbs else 0
  (max ends vert, den, max (2 * c2).natAbs (2 * c2 + 6 * c3).natAbs, (6 * c3).natAbs)

/-- The smallest r with r^k d >= n: by bits from `b` down. -/
def rootCeil (k n d : Nat) : Nat → Nat → Nat
  | 0, r => if d * r ^ k < n then r + 1 else r
  | b + 1, r => rootCeil k n d b (if d * (r + 2 ^ b) ^ k < n then r + 2 ^ b else r)

/-- The interval that a span needs on one axis with limits in counts per cycle and its powers (62 fraction bits). -/
def spanInterval (c : List Int) (v a j : Nat) : Nat :=
  let p := spanPeaks c
  max (rootCeil 1 (p.1 * p62) (6 * p.2.1 * v) 80 0) (max (rootCeil 2 (p.2.2.1 * p62) (6 * a) 48 0) (rootCeil 3 (p.2.2.2 * p62) (6 * j) 32 0))

end Sys2Proof.Machine
end

