-- ==== Sys2Proof/Machine/Gear.lean ====
section
/-! DEFINITION. Gearing (08 R238 to R250): the gear law, the positions of masters, the time-based stop. Master positions carry 32
fraction bits; master speeds are exact multiples of counts/s / `vUnit`. -/

namespace Sys2Proof.Machine

/-- Denominator of a master speed in counts/s. -/
def vUnit : Nat := 800000 * 2 ^ 62

/-! ## The gear law (R246) -/

/-- x of the law at a master position. -/
def lawX (l : Law) (mp : Int) : Int := if l.fall then l.pa - mp else mp - l.pa

/-- y of the law as a fraction. -/
def lawY (l : Law) (mp : Int) : Int × Nat :=
  let x := lawX l mp
  let w : Int := l.w * 2 ^ 32
  let dr := l.nn * l.dO - l.no * l.dn
  if x < 0 then (l.no * x, l.dO * 2 ^ 32)
  else if x < w then (l.no * l.dn * x * 2 * w + dr * x * x, l.dO * l.dn * 2 * l.w * 2 ^ 64)
  else (2 * l.no * l.dn * w + dr * w + 2 * l.nn * l.dO * (x - w), 2 * l.dO * l.dn * 2 ^ 32)

/-- The follower's position: one rounding, to nearest, ties to even. -/
def lawPos (l : Law) (mp : Int) : Int :=
  let y := lawY l mp
  l.fa + roundDiv (if l.fall then -y.1 else y.1) y.2

/-- The effective ratio as a fraction. -/
def lawRatio (l : Law) (mp : Int) : Int × Nat :=
  let x := lawX l mp
  let w : Int := l.w * 2 ^ 32
  if x < 0 then (l.no, l.dO)
  else if x < w then (l.no * l.dn * w + (l.nn * l.dO - l.no * l.dn) * x, l.dO * l.dn * l.w * 2 ^ 32)
  else (l.nn, l.dn)

/-- The follower's speed in its speed format. -/
def lawVel (l : Law) (mp vm sigma : Int) : Int :=
  let r := lawRatio l mp
  if r.2 = 0 then 0
  else sat 32 (roundDiv (r.1 * vm * (if sigma < 0 then 2 ^ (-sigma).toNat else 1)) (r.2 * vUnit * (if 0 ≤ sigma then 2 ^ sigma.toNat else 1)))

/-- Whether a ramp of the law is in progress at a master position. -/
def lawRamping (l : Law) (mp : Int) : Bool := decide (0 ≤ lawX l mp ∧ lawX l mp < l.w * 2 ^ 32)

/-- The law of a follower after a change latches (R250): a ratio 0 / 0 keeps the law. -/
def latchLaw (c : Change) (l : Law) (r : Int × Nat) : Law :=
  if r.2 = 0 then l
  else { pa := c.pc * 2 ^ 32, fa := lawPos l (c.pc * 2 ^ 32), no := l.nn, dO := l.dn, nn := r.1, dn := r.2, w := c.w, fall := c.fall }

/-- Whether a master position has reached the position of a change. -/
def reached (c : Change) (mp : Int) : Bool := if c.fall then decide (mp ≤ c.pc * 2 ^ 32) else decide (c.pc * 2 ^ 32 ≤ mp)

/-! ## Masters -/

/-- Position of a master in time, `a` / `b` ns after its base instant (R240, R242). -/
def timePos (x : Master) (a : Int) (b : Nat) : Int :=
  if a < 0 then x.p0 + roundDiv (x.va * a) (b * 10 ^ 9)
  else if x.d = 0 then x.p0 + roundDiv (x.v * a) (b * 10 ^ 9)
  else
    let q : Int := x.d * b
    if a < q then
      let n := 5 * a ^ 4 * q ^ 2 - 6 * a ^ 5 * q + 2 * a ^ 6
      x.p0 + roundDiv (x.va * a * 2 * q ^ 6 + (x.v - x.va) * x.d * n * b) (b * 2 * (x.d * b) ^ 6 * 10 ^ 9)
    else x.p0 + roundDiv (x.d * (x.va + x.v) * b + 2 * x.v * (a - q)) (2 * b * 10 ^ 9)

/-- Its speed in force, in counts/s with 32 fraction bits. -/
def timeVel (x : Master) (a : Int) (b : Nat) : Int :=
  let q : Int := x.d * b
  if a < 0 then x.va
  else if x.d = 0 ∨ q ≤ a then x.v
  else x.va + roundDiv ((x.v - x.va) * (10 * a ^ 3 * q ^ 2 - 15 * a ^ 4 * q + 6 * a ^ 5)) ((x.d * b) ^ 5)

/-- Time since the base instant of a virtual master whose advance is `t0` (2^-30 cycles), in ns as a fraction. -/
def virtualTime (x : Master) (lt : Nat) : Int × Nat := (((x.t0 * lt * 5 : Nat) : Int), 4 * 2 ^ 30)

/-- A virtual master one cycle on under time scale `k` (R241). A speed change that waits starts at this entry: from its position and
speed there, tau counts from its instant (R242). -/
def virtualNext (x : Master) (lt : Nat) (k : Int) : Master :=
  let x := { x with t0 := x.t0 + k.toNat }
  let t := virtualTime x lt
  let va := timeVel x t.1 t.2
  let v := va * k * 800000
  let x := { x with mp := timePos x t.1 t.2, vm := v, vm2 := v }
  match x.next with
  | some c => { x with p0 := x.mp, va := va, v := c.1, d := c.2, t0 := 0, next := none }
  | none => x

/-- A change of a network master comes into force at its T0: from the position and the speed there (R242). -/
def networkChange (x : Master) (c : Nat × Int × Nat) : Master :=
  let b := ((c.1 : Int) - x.t0) * 65536
  { x with p0 := timePos x b 65536, va := timeVel x b 65536, v := c.2.1, t0 := c.1, d := c.2.2 }

/-- Enters a change of a network master among those to come, in the order of T0 (R242, entry 112). -/
def insChange (c : Nat × Int × Nat) : List (Nat × Int × Nat) → List (Nat × Int × Nat)
  | [] => [c]
  | y :: r => if c.1 < y.1 then c :: y :: r else y :: insChange c r

/-- A network master at PTP time `ptp` (2^-16 ns) (R240), after the changes whose T0 has come (R242). -/
def networkNext (x : Master) (ptp : Int) : Master :=
  let due := x.later.takeWhile (fun c => decide ((c.1 : Int) * 65536 ≤ ptp))
  let x := due.foldl networkChange { x with later := x.later.drop due.length }
  let a := ptp - x.t0 * 65536
  let v := timeVel x a 65536 * 2 ^ 30 * 800000
  { x with mp := timePos x a 65536, vm := v, vm2 := v }

/-- Predicted position and speed of a sampled master for the entry after cycle `n` (R238, R239), from its valid samples, newest
first; the last number is the speed that the prediction gives for the cycle after. -/
def predict (l : List (Nat × Int × Bool)) (n pred : Nat) (lead : Int) (req lt : Nat) : Int × Int × Int :=
  let h : Int := lt + lead - req
  let vk : Int := (800000000 / lt : Nat)
  match l with
  | [] => (0, 0, 0)
  | [x] => (x.2.1 * 2 ^ 32, 0, 0)
  | (c, p, f) :: (c1, p1, _) :: r =>
    let lin : Int × Int × Int :=
      let v := roundDiv ((p - p1) * vk * 800000 * 2 ^ 62) (c - c1)
      (p * 2 ^ 32 + roundDiv ((((n - c : Nat) : Int) * lt + h) * (p - p1) * 2 ^ 32) (lt * (c - c1)), v, v)
    if c = n ∧ (f ∨ pred = 0) then (p * 2 ^ 32, 0, 0)
    else if c = n ∧ pred = 2 ∧ c1 + 1 = c then
      match r with
      | (c2, p2, _) :: _ =>
        if c2 + 1 = c1 then
          let d1 := p - p1
          let d2 := d1 - (p1 - p2)
          let u : Int := vk * (800000 / lt : Nat) * 2 ^ 62
          (p * 2 ^ 32 + roundDiv ((2 * h * lt * d1 + h * (h + lt) * d2) * 2 ^ 32) (2 * lt * lt), (d1 * lt + h * d2) * u, (d1 * lt + (h + lt) * d2) * u)
        else lin
      | [] => lin
    else lin

/-- A sampled master one cycle on at constant speed (R252). -/
def coast (x : Master) (lt : Nat) : Master := { x with mp := x.mp + roundDiv (x.vm * lt * 2 ^ 32) (vUnit * 800000000), vm2 := x.vm }

/-- The instant at which the master crosses a position, in ticks, from the instant of the entry (R251). -/
def crossing (mp vm pc : Int) (t : Int) : Nat :=
  (t - (if vm = 0 then 0 else signI vm * roundDiv ((mp - pc * 2 ^ 32) * vUnit * 800000000) (absI vm * 2 ^ 32).toNat)).toNat % 2 ^ 32

/-- Speed of a master in counts per cycle with 8 fraction bits (R266). -/
def mvel (vm : Int) (lt : Nat) : Int := sat 32 (roundDiv (vm * lt * 256) (vUnit * 800000000))

/-! ## The time-based stop (07 R221) -/

/-- A speed of an axis in counts per cycle with 62 fraction bits. -/
def speed62 (v sigma : Int) (lt : Nat) : Int :=
  roundDiv (v * lt * 2 ^ 62 * (if 0 ≤ sigma then 2 ^ sigma.toNat else 1)) (800000000 * (if sigma < 0 then 2 ^ (-sigma).toNat else 1))

/-- The stop of axes (speed, limits, speed shift) from the entry of cycle `c0`. -/
def startHalt (lt c0 : Nat) (pos : List Int) (ax : List (Int × AxLim × Int)) : Halt :=
  let cv := ax.map (fun x =>
    let v := speed62 x.1 x.2.2 lt
    let t := stopPhases v.natAbs (perCycle x.2.1.amax x.2.2 lt) (perCycle x.2.1.jmax x.2.2 lt)
    (v, t.1, t.2))
  { c0 := c0, base := pos, curves := cv, dur := cv.foldl (fun m c => max m (2 * c.2.1 + c.2.2)) 0 }

/-- Positions and speeds (counts per cycle, 62 fraction bits) at the entry of cycle `c`. -/
def haltAt (h : Halt) (c : Nat) : List (Int × Int) :=
  (h.base.zip h.curves).map (fun x => let s := stopAt x.2 h.dur (c - h.c0); (x.1 + count62 s.1, s.2))

/-- Whether the stop is over at the entry of cycle `c`. -/
def haltOver (h : Halt) (c : Nat) : Bool := decide (h.dur ≤ (c - h.c0) * p62)

end Sys2Proof.Machine
end

