-- ==== Sys2Proof/Machine/Path.lean ====
section
/-! DEFINITION. Blended Cartesian paths of the Runner (07 R215 to R218): geometry of items and blends, the speed profile, the
sample of a path time. Quantities carry 64 fraction bits in m, m/s, rad and s (entry 40). -/

namespace Sys2Proof.Machine

/-! ## Items: kind, length, S, rotation angle, start, direction (line) or first radius vector (arc), second radius vector, centre,
radius, arc angle, start orientation, rotation axis -/

/-- Numbers from `i` on. -/
def sub3 (g : List Int) (i : Nat) : List Int := (g.drop i).take 3
/-- Path length of an item. -/
def gLen (g : List Int) : Fx := nthI g 1
/-- Path parameter at the end of an item (R216). -/
def gS (g : List Int) : Fx := nthI g 2

/-- The geometry of an item from its 64 bytes, its start pose and the weight of orientation (R216). -/
def itemGeo (w : Fx) (p0 q0 : List Fx) (raw : List Nat) : List Int :=
  let p1 := (s32s raw 4 3).map (ofFmt 23)
  let q1 := qunit ((s32s raw 16 4).map (ofFmt 30))
  let rot := qaxis (qmul q1 (qconj q0))
  let b := vsub p1 p0
  if field raw 0 1 = 2 then
    let a := vsub ((s32s raw 32 3).map (ofFmt 23)) p0
    let n := vcross a b
    let nn := vdot n n
    let c := (vcross (vsub (vscale (vdot a a) b) (vscale (vdot b b) a)) n).map (fun x => fdiv x (2 * nn))
    let r := vnorm c
    let e1 := c.map (fun x => fdiv (-x) r)
    let un := n.map (fun x => fdiv x (fsqrt nn))
    let e2 := vcross un e1
    let d := vsub b c
    let an := atan2Fx (vdot d e2) (vdot d e1)
    let an := if an < 0 then an + 2 * piFx else an
    let len := fmul r an
    [1, len, max len (fmul w rot.1), rot.1] ++ p0 ++ e1 ++ e2 ++ vadd p0 c ++ [r, an] ++ q0 ++ rot.2
  else
    let len := vnorm b
    [0, len, max len (fmul w rot.1), rot.1] ++ p0 ++ b.map (fun x => fdiv x len) ++ v0 ++ v0 ++ [0, 0] ++ q0 ++ rot.2

/-- Position and its first and second derivative by the path parameter. -/
def gPos (g : List Int) (s : Fx) : List Fx × List Fx × List Fx :=
  let e1 := sub3 g 7
  if gS g = 0 then (sub3 g 4, v0, v0)
  else if nthI g 0 = 1 then
    let w := fdiv (nthI g 17) (gS g)
    let a := fmul w s
    let r := nthI g 16
    let e2 := sub3 g 10
    let sn := sinR a
    let cs := cosR a
    let u := vadd (vscale cs e1) (vscale sn e2)
    (vadd (sub3 g 13) (vscale r u), vscale (fmul r w) (vsub (vscale cs e2) (vscale sn e1)), vneg (vscale (fmul r (fmul w w)) u))
  else
    let k := fdiv (gLen g) (gS g)
    (vadd (sub3 g 4) (vscale (fmul k s) e1), vscale k e1, v0)

/-- Rotation vector of an item per unit of its parameter. -/
def gRate (g : List Int) : List Fx := if gS g = 0 then v0 else vscale (fdiv (nthI g 3) (gS g)) (sub3 g 22)

/-- Orientation of an item. -/
def gOri (g : List Int) (s : Fx) : List Fx :=
  if gS g = 0 then (g.drop 18).take 4 else qmul (qrot (fdiv (fmul (nthI g 3) s) (gS g)) (sub3 g 22)) ((g.drop 18).take 4)

/-- Unit tangent of an item at a parameter; zeros where it has no length. -/
def gTan (g : List Int) (s : Fx) : List Fx :=
  let d := (gPos g s).2.1
  let n := vnorm d
  if n = 0 then v0 else d.map (fun x => fdiv x n)

/-! ## Blends (R216) -/

/-- The quintic of one coordinate over a length `h` that takes value, first and second derivative at both ends; its value and
derivatives at fraction `u`. -/
def quintic (f g : Fx × Fx × Fx) (h u : Fx) : Fx × Fx × Fx :=
  let d1 := fmul h f.2.1
  let h2 := fmul h h
  let d2 := fmul h2 f.2.2 / 2
  let a := g.1 - f.1 - d1 - d2
  let b := fmul h g.2.1 - d1 - 2 * d2
  let c := fmul h2 g.2.2 - 2 * d2
  let a3 := 10 * a - 4 * b + c / 2
  let a4 := -15 * a + 7 * b - c
  let a5 := 6 * a - 3 * b + c / 2
  let p (l : List Fx) : Fx := l.foldr (fun x y => x + fmul u y) 0
  (p [f.1, d1, d2, a3, a4, a5], fdiv (p [d1, 2 * d2, 3 * a3, 4 * a4, 5 * a5]) h, fdiv (p [2 * d2, 6 * a3, 12 * a4, 20 * a5]) h2)

/-- The quintic of vectors. -/
def quintic3 (f g : List Fx × List Fx × List Fx) (h u : Fx) : List Fx × List Fx × List Fx :=
  let r := (List.range 3).map (fun i =>
    quintic (nthI f.1 i, nthI f.2.1 i, nthI f.2.2 i) (nthI g.1 i, nthI g.2.1 i, nthI g.2.2 i) h u)
  (r.map (·.1), r.map (·.2.1), r.map (·.2.2))

/-- Alternating series with factorial denominators: terms x^n / (2 n + k)!, and the derivative by x. -/
def jacSeries (k : Nat) (x : Fx) : Fx × Fx :=
  let t := (List.range 20).foldl (fun (a : Fx × Fx × Fx × Fx × Nat) n =>
    -- sum, derivative, current power of x over factorial, the power below over factorial, factorial of 2n + k
    let f := a.2.2.2.2 * (2 * n + k + 1) * (2 * n + k + 2)
    let sg : Int := if n % 2 = 0 then 1 else -1
    let cur := sg * (a.2.2.1 / (a.2.2.2.2 : Int))
    let der := sg * ((n : Int) * a.2.2.2.1 / (a.2.2.2.2 : Int))
    (a.1 + cur, a.2.1 + der, fmul a.2.2.1 x, a.2.2.1, f)) (0, 0, fx1, 0, (List.range k).foldl (fun f i => f * (i + 1)) 1)
  (t.1, t.2.1)

/-- Rotation speed and its derivative from a rotation vector and its first and second derivative. -/
def rotRate (f f1 f2 : List Fx) : List Fx × List Fx :=
  let x := vdot f f
  let xd := 2 * vdot f f1
  let c1 := jacSeries 2 x
  let c2 := jacSeries 3 x
  let a := vcross f f1
  let b := vcross f a
  (vadd f1 (vadd (vscale c1.1 a) (vscale c2.1 b)),
   vadd f2 (vadd (vadd (vscale (fmul c1.2 xd) a) (vscale c1.1 (vcross f f2)))
     (vadd (vscale (fmul c2.2 xd) b) (vscale c2.1 (vadd (vcross f1 a) (vcross f (vcross f f2)))))))

/-- A point of a path: position with its derivatives, orientation, rotation rate with its derivative. -/
structure PathPt where
  p : List Fx
  p1 : List Fx
  p2 : List Fx
  q : List Fx
  w : List Fx
  w1 : List Fx

/-- A point of the blend of `b` before and after a junction, `x` after its start. -/
def blendAt (a c : List Int) (b x : Fx) : PathPt :=
  let h := 2 * b
  let u := fdiv x h
  let p := quintic3 (gPos a (gS a - b)) (gPos c b) h u
  let r := quintic3 (vscale (-b) (gRate a), gRate a, v0) (vscale b (gRate c), gRate c, v0) h u
  let n := vnorm r.1
  let q := if n = 0 then gOri a (gS a) else qmul (qrot n (r.1.map (fun y => fdiv y n))) (gOri a (gS a))
  let w := rotRate r.1 r.2.1 r.2.2
  { p := p.1, p1 := p.2.1, p2 := p.2.2, q := q, w := w.1, w1 := w.2 }

/-- The item itself, the one before and the one after, of a segment's geometry: blend lengths at its start and its end, then
25 numbers each. -/
def segItem (g : List Int) (i : Nat) : List Int := (g.drop (2 + 25 * i)).take 25

/-- A list of integers cut or filled with zeros to `n`. -/
def padI (n : Nat) (l : List Int) : List Int := (l ++ List.replicate (n - l.length) 0).take n

/-- The point of a segment at a path parameter. -/
def pathAt (g : List Int) (s : Fx) : PathPt :=
  let it := segItem g 0
  if s < nthI g 0 then blendAt (segItem g 1) it (nthI g 0) (s + nthI g 0)
  else if gS it - s < nthI g 1 then blendAt it (segItem g 2) (nthI g 1) (s - (gS it - nthI g 1))
  else
    let p := gPos it s
    { p := p.1, p1 := p.2.1, p2 := p.2.2, q := gOri it s, w := gRate it, w1 := v0 }

/-! ## The speed profile (R217) -/

/-- Duration of an S-curve between two speeds. -/
def scTime (u w a j : Fx) : Fx :=
  let d := absI (w - u)
  if fdiv (fmul a a) j ≤ d then fdiv d a + fdiv a j else 2 * fsqrt (fdiv d j)

/-- Its length. -/
def scDist (u w a j : Fx) : Fx := fmul (u + w) (scTime u w a j) / 2

/-- Distance, speed and acceleration of an S-curve at time `t`. -/
def scAt (u w a j t : Fx) : Fx × Fx × Fx :=
  let sg : Int := if w < u then -1 else 1
  let tt := scTime u w a j
  let t1 := if fdiv (fmul a a) j ≤ absI (w - u) then fdiv a j else tt / 2
  let t2 := tt - 2 * t1
  let half (x : Fx) : Fx × Fx := (fmul j (fmul x (fmul x x)) / 6, fmul j (fmul x x) / 2)
  if t ≤ t1 then (fmul u t + sg * (half t).1, u + sg * (half t).2, sg * fmul j t)
  else if t ≤ t1 + t2 then
    let x := t - t1
    let v1 := u + sg * (half t1).2
    (fmul u t1 + sg * (half t1).1 + fmul v1 x + sg * (fmul a (fmul x x) / 2), v1 + sg * fmul a x, sg * a)
  else
    let x := max 0 (tt - t)
    (scDist u w a j - fmul w x + sg * (half x).1, w - sg * (half x).2, sg * fmul j x)

/-- Raises `r` by the powers of two below 2^b while the length from `u` stays within `d` and the speed within `cap`. -/
def reachFrom (u d a j cap : Fx) : Nat → Fx → Fx
  | 0, r => r
  | b + 1, r =>
    let x := r + 2 ^ b
    reachFrom u d a j cap b (if x ≤ cap ∧ scDist u x a j ≤ d then x else r)

/-- min(cap, reach(u, d)): the largest speed up to `cap` from which `u` is reached over `d`. -/
def reach (u d a j cap : Fx) : Fx := if cap ≤ u ∨ scDist u cap a j ≤ d then cap else reachFrom u d a j cap 100 u

/-- The peak speed of an item by 32 steps of bisection. -/
def peakFrom (u w a j d : Fx) : Nat → Fx → Fx → Fx
  | 0, lo, _ => lo
  | n + 1, lo, hi =>
    let x := (lo + hi) / 2
    if scDist u x a j + scDist x w a j ≤ d then peakFrom u w a j d n x hi else peakFrom u w a j d n lo x

/-- The peak speed of an item between its end speeds, at most `v`. -/
def peak (u w v a j d : Fx) : Fx :=
  if scDist u v a j + scDist v w a j ≤ d then v else peakFrom u w a j d 32 (max u w) v

/-- How a plan that starts in mid-acceleration (R227) begins: with J the acceleration goes to 0; the time this takes, the speed and the
parameter after it (DESIGN CHOICE, entry 100: R217 has no start acceleration, R227 keeps it continuous). -/
def zeroAcc (u a0 j s0 : Fx) : Fx × Fx × Fx :=
  if a0 = 0 then (0, u, s0)
  else
    let t := fdiv (absI a0) j
    let t2 := fmul t t
    (t, max 0 (u + fmul a0 t / 2), s0 + fmul u t + fmul a0 t2 / 2 - signI a0 * (fmul j (fmul t2 t) / 6))

/-- Length of an item's plan. The plan: parameter s0 at its start, start, peak and end speed, A, J, the path time at which it starts
after the segment's own start (32 fraction bits), v_b of the item's end, its end speed before the forward pass; time, speed, acceleration
and parameter at the start of what goes before s0 (`zeroAcc`); the speed at the start of the item. -/
def planDur (g : List Int) (p : List Int) : Fx :=
  let t1 := scTime (nthI p 1) (nthI p 2) (nthI p 4) (nthI p 5)
  let t3 := scTime (nthI p 2) (nthI p 3) (nthI p 4) (nthI p 5)
  let d := gS (segItem g 0) - nthI p 0 - scDist (nthI p 1) (nthI p 2) (nthI p 4) (nthI p 5) - scDist (nthI p 2) (nthI p 3) (nthI p 4) (nthI p 5)
  nthI p 9 + t1 + t3 + (if d ≤ 0 then 0 else fdiv d (nthI p 2))

/-- Parameter, speed and acceleration at a time of an item's plan. -/
def planAt (g : List Int) (p : List Int) (t : Fx) : Fx × Fx × Fx :=
  let a := nthI p 4
  let j := nthI p 5
  let v := nthI p 2
  let s := gS (segItem g 0)
  let t1 := scTime (nthI p 1) v a j
  let t3 := scTime v (nthI p 3) a j
  let d1 := scDist (nthI p 1) v a j
  let d3 := scDist v (nthI p 3) a j
  let t0 := nthI p 9
  let tt := planDur g p - t0
  if t < t0 then
    let sg := signI (nthI p 11)
    let t2 := fmul t t
    (min s (nthI p 12 + fmul (nthI p 10) t + fmul (nthI p 11) t2 / 2 - sg * (fmul j (fmul t2 t) / 6)),
     nthI p 10 + fmul (nthI p 11) t - sg * (fmul j t2 / 2), nthI p 11 - sg * fmul j t)
  else
  let t := t - t0
  if tt ≤ t then (s, nthI p 3, 0)
  else if t < t1 then let x := scAt (nthI p 1) v a j t; (min s (nthI p 0 + x.1), x.2)
  else if t < tt - t3 then (min s (nthI p 0 + d1 + fmul v (t - t1)), v, 0)
  else let x := scAt v (nthI p 3) a j (t - (tt - t3)); (max (nthI p 0) (min s (s - d3 + x.1)), x.2)

/-- Seconds of a path time in 2^-32 cycles. -/
def secsOf (theta : Int) (lt : Nat) : Fx := theta * lt * 2 ^ 32 / 800000000

/-- Path time in 2^-32 cycles, rounded up, of seconds. -/
def cyclesOf (t : Fx) (lt : Nat) : Nat := ceilDiv (t.toNat * 800000000) (lt * 2 ^ 32)

/-- V, A or J of a path item. -/
def itemLim (g : Seg) (o : Nat) : Fx := ofFmt 23 (field g.raw o 4 : Nat)

/-- The blend length of a junction (R216): at most half the length of each item, and what is left of the first; 0 where the path comes
to rest. -/
def junctionB (x y : Seg) (used : Fx) : Fx :=
  if (field x.raw 1 1).testBit 0 ∨ y.wait then 0
  else
    let gx := segItem x.geo 0
    max 0 (min (ofFmt 23 (field x.raw 44 4 : Nat)) (min (min (gLen gx / 2) (gS gx - used)) (gLen (segItem y.geo 0) / 2)))

/-- The blend speed of a junction (R216). Its A is the smaller one of the two items: DESIGN CHOICE (entry 133), R216 does not say which. -/
def junctionV (x y : Seg) (b : Fx) : Fx :=
  if b = 0 then 0
  else
    let v := min (itemLim x 48) (itemLim y 48)
    let t := gTan (segItem x.geo 0) (gS (segItem x.geo 0))
    let u := gTan (segItem y.geo 0) 0
    let sn := vnorm (vcross t u)
    let cs := fx1 + vdot t u
    if sn = 0 ∧ 0 < cs then v
    else if cs ≤ 0 then 0
    else min v (fsqrt (fdiv (fmul (min (itemLim x 52) (itemLim y 52)) b) (fdiv sn cs)))

/-- Sets the blend lengths of consecutive segments; `used` is the parameter that the first has passed, `b0` and `prev` its blend
at its start. A blend that the first has entered stays. -/
def setBlends (used b0 : Fx) (prev : List Int) : List Seg → List Seg
  | [] => []
  | x :: r =>
    let it := segItem x.geo 0
    let inside := decide (0 < used ∧ gS it - used < nthI x.geo 1)
    let b := if inside then nthI x.geo 1 else match r.head? with | some y => junctionB x y used | none => 0
    let next := if inside then segItem x.geo 2 else match r.head? with | some y => segItem y.geo 0 | none => []
    { x with geo := b0 :: b :: it ++ padI 25 prev ++ next } :: setBlends 0 b it r

/-- End speeds before the passes of R217. -/
def endSpeeds : List Seg → List Fx
  | x :: y :: r => junctionV x y (nthI x.geo 1) :: endSpeeds (y :: r)
  | [_] => [0]
  | [] => []

/-- The backward pass. -/
def backPass : List Seg → List Fx → List Fx
  | _ :: y :: r, v :: vs =>
    let t := backPass (y :: r) vs
    reach (nthI t 0) (gS (segItem y.geo 0)) (itemLim y 52) (itemLim y 56) v :: t
  | _, vs => vs

/-- A and J of an item that must fall from speed `u` to `w` over `d`: those of the item, steeper where `d` is shorter than that S-curve. Such
an item is one whose next items a REPLACE has discarded (07 R203): R227 keeps speed and position continuous (DESIGN CHOICE, entry 100). -/
def brakeLim (u w a j d : Fx) : Fx × Fx :=
  let n := scDist u w a j
  if w < u ∧ 0 < d ∧ d < n then let f := fdiv n d; (fmul a f, fmul (fmul j f) f) else (a, j)

/-- The forward pass from a speed, an acceleration and the parameter that the first item has passed at path time `tau` after its start:
each segment with its plan and duration; `vb` holds the end speeds before the passes. -/
def forwardPass (lt : Nat) (u a0 used : Fx) (tau : Int) : List Seg → List Fx → List Fx → List Seg
  | x :: r, v :: vs, vb =>
    let a := itemLim x 52
    let j := itemLim x 56
    let z := zeroAcc u a0 j used
    let d := gS (segItem x.geo 0) - z.2.2
    let w := reach z.2.1 d a j v
    let l := brakeLim z.2.1 w a j d
    let a := l.1
    let j := l.2
    let p := [z.2.2, z.2.1, peak z.2.1 w (itemLim x 48) a j d, w, a, j, tau, nthI vb 0, v, z.1, u, a0, used, if 0 < tau then nthI x.spd 13 else u]
    { x with spd := p, len := tau.toNat + cyclesOf (planDur x.geo p) lt } :: forwardPass lt w 0 0 0 r vs (vb.drop 1)
  | l, _, _ => l

/-- Plans the speed over queued items (R217) from speed, acceleration and parameter at path time `tau` of the first. An item in progress
whose end has not changed keeps its plan. -/
def planPath (lt : Nat) (u a0 used : Fx) (tau : Int) (l : List Seg) : List Seg :=
  let x := (l.headD {}).geo
  let l := setBlends used (nthI x 0) (segItem x 1) l
  let vb := endSpeeds l
  match l, backPass l vb with
  | y :: r, v :: vs =>
    if y.t0.isSome ∧ nthI y.spd 8 = v ∧ nthI y.geo 1 = nthI x 1 then y :: forwardPass lt (nthI y.spd 3) 0 0 0 r vs (vb.drop 1)
    else forwardPass lt u a0 used tau (y :: r) (v :: vs) vb
  | l, _ => l

/-- Parameter, speed and acceleration of a path segment at path time `tau` after its start. -/
def segMotion (x : Seg) (tau : Int) (lt : Nat) : Fx × Fx × Fx := planAt x.geo x.spd (secsOf (tau - nthI x.spd 6) lt)

/-- Pose and motion (linear and angular velocity, linear and angular acceleration) of a path segment under time scale `k` with first
difference `d1`. -/
def pathSample (x : Seg) (tau : Int) (lt : Nat) (k d1 : Int) : List Fx × List Fx :=
  let mo := segMotion x tau lt
  let pt := pathAt x.geo mo.1
  let kf := ofFmt 30 k
  let kd := fdiv (ofFmt 30 d1) (secsOf (2 ^ 32) lt)
  let v := fmul mo.2.1 kf
  let a := fmul (fmul mo.2.2 kf) kf + fmul mo.2.1 kd
  (pt.p ++ qunit pt.q, vscale v pt.p1 ++ vscale v pt.w ++ vadd (vscale (fmul v v) pt.p2) (vscale a pt.p1)
    ++ vadd (vscale (fmul v v) pt.w1) (vscale a pt.w))

/-- The largest unscaled speed of the reference point of a segment, in Cartesian rates (R209). In a blend that point does not move in
proportion to the parameter, so a segment with blends is looked at in 128 instants of its plan (DESIGN CHOICE, entry 139). -/
def pathPeak (x : Seg) : Nat :=
  let g := segItem x.geo 0
  if gS g = 0 then 0
  else if nthI x.geo 0 = 0 ∧ nthI x.geo 1 = 0 then (toFmt 23 (fdiv (fmul (max (nthI x.spd 2) (nthI x.spd 10)) (gLen g)) (gS g))).toNat
  else
    let dur := planDur x.geo x.spd
    (List.range 129).foldl (fun b i =>
      let o := planAt x.geo x.spd (dur * i / 128)
      max b (toFmt 23 (fmul o.2.1 (vnorm (pathAt x.geo o.1).p1))).toNat) 0

/-- Whether the item at index `i` of a MOVE_PATH job breaks a rule that its bytes show (R215). -/
def itemBad (replace : Bool) (i : Nat) (raw : List Nat) : Bool :=
  let t := field raw 0 1
  let n2 := (s32s raw 16 4).foldl (fun a x => a + x * x) 0
  !(t == 1 || t == 2) || (replace && i == 0 && t != 1) || decide (1 < field raw 1 1) || field raw 2 2 != 0 || field raw 60 4 != 0
    || decide (n2 < ((2 : Int) ^ 30 - 2 ^ 20) ^ 2) || decide (((2 : Int) ^ 30 + 2 ^ 20) ^ 2 < n2)
    || (t == 1 && (field raw 32 4 != 0 || field raw 36 4 != 0 || field raw 40 4 != 0))
    || decide (s32 raw 44 < 0) || [48, 52, 56].any (fun o => decide (s32 raw o ≤ 0))

/-- Whether the three points of an arc from `p0` are collinear within 1 LSB (R216). -/
def arcFlat (p0 : List Fx) (raw : List Nat) : Bool :=
  let p1 := (s32s raw 4 3).map (ofFmt 23)
  let a := vsub ((s32s raw 32 3).map (ofFmt 23)) p0
  let b := vsub p1 p0
  field raw 0 1 == 2 && decide (vnorm (vcross a b) ≤ fmul (vnorm b) (ofFmt 23 1))

end Sys2Proof.Machine
end

