-- ==== Sys2Proof/Machine/Ptp.lean ====
section
/-! DEFINITION. PTP: the messages of the Ethernet ports, the domains, the servo, first lock, hold-over and the switch of the
selected domain (14 R410 to R422). -/

namespace Sys2Proof.Machine

/-- Domain instance `d`. -/
def domSt (m : Mach) (d : Nat) : DomSt := sget m.time.doms d {}
/-- Replaces it. -/
def setDom (m : Mach) (d : Nat) (x : DomSt) : Mach := { m with time := { m.time with doms := sput m.time.doms d x {} } }
/-- STATE of a domain (R416). -/
def domState (m : Mach) (d : Nat) : Nat := getF m TIME_DOM_STAT_STATE d
/-- The selected domain. -/
def selDom (m : Mach) : Nat := getF m TIME_CTRL_SEL
/-- Whether the node's role applies the servo: a networked worker runs no PTP instance (R412). -/
def servoRole (m : Mach) : Bool := if isManager m then isActive m else !networked m
/-- EPOCH in ns (R411). -/
def epoch (m : Mach) : Int := sgn 64 (get64 m TIME_EPOCH_LO_EPOCH TIME_EPOCH_HI_EPOCH)
/-- Cell time in units of 2^-16 ns: a tick is 1.25 ns. -/
def cellNs (c : Int) : Int := c * 81920
/-- PTP(c) in 2^-16 ns (R411). -/
def ptpAt (m : Mach) (c : Int) : Int := epoch m * 65536 + cellNs c
/-- Applied rate y in 2^-32 (R410). -/
def rateY (m : Mach) : Int := getS m TIME_RATE_Y
/-- REF_CLK time of `n` ticks of cell time under the rate `y`, in 2^-32 ticks of 1.25 ns. DEDUCED (entry 141): y is a rate of cell time
(R417), so that 1 + y ticks of cell time pass in 1.25 ns of REF_CLK; the last clause of R410's second sentence, read for the length of
a tick, would turn the servo of R417 away from its goal. -/
def refTicks (y n : Int) : Int := roundDiv (n * 2 ^ 64) (2 ^ 32 + y).toNat
/-- REF_CLK time of a cell time of the cycle in progress, in 2^-32 ticks. -/
def refTime (m : Mach) (c : Int) : Int := (m.cyc.start : Int) * 2 ^ 32 - m.time.yInt + refTicks (rateY m) (c - m.cyc.start)

/-! ## Least squares over the last 16 Sync (R416) -/

/-- Slope of the line through points (x, v), as a fraction; its denominator is 0 where it is not determined. -/
def lsSlope (l : List (Int × Int)) : Int × Int :=
  let n : Int := l.length
  let sx := l.foldl (fun a p => a + p.1) 0
  let sv := l.foldl (fun a p => a + p.2) 0
  let sxx := l.foldl (fun a p => a + p.1 * p.1) 0
  let sxv := l.foldl (fun a p => a + p.1 * p.2) 0
  (n * sxv - sx * sv, n * sxx - sx * sx)

/-- The value of that line at `x`, rounded convergently. -/
def lsValue (l : List (Int × Int)) (x : Int) : Int :=
  let n : Int := l.length
  let s := lsSlope l
  let sx := l.foldl (fun a p => a + p.1) 0
  let sv := l.foldl (fun a p => a + p.2) 0
  if l = [] then 0 else if s.2 ≤ 0 then roundDiv sv l.length
  else roundDiv (sv * s.2 + s.1 * (n * x - sx)) (n * s.2).toNat

/-- O_d of the samples, in 2^-16 ns: the line through the offsets at the last Sync. -/
def offsetOf (l : List (Int × Int × Int)) : Int :=
  match l.getLast? with
  | none => 0
  | some s => lsValue (l.map (fun p => (p.1, p.2.2 - cellNs p.1))) s.1

/-- r_d - 1 of the samples, in 2^-32: the slope of PTP time over REF_CLK time. -/
def rateOf (l : List (Int × Int × Int)) : Int :=
  let s := lsSlope (l.map (fun p => (p.2.1, p.2.2 * 2 ^ 18 - 5 * p.2.1)))
  if s.2 ≤ 0 then 0 else roundDiv (s.1 * 2 ^ 32) (5 * s.2).toNat

/-! ## Codes of a domain and the servo -/

/-- Moves a domain to a state; every change raises the interrupt source. -/
def setDomState (m : Mach) (d st : Nat) : Mach :=
  if domState m d = st then m else irq (setF m TIME_DOM_STAT_STATE d st) 224

/-- A rate of `x` tenths of a ppm in 2^-32. -/
def ppm10 (x : Nat) : Int := roundDiv ((x : Int) * 2 ^ 32) 10000000

/-- The rate of R417 before the clamp by Y_MAX, from r - 1 and e in 2^-16 ns. -/
def servoRate (m : Mach) (r e : Int) : Int :=
  let tau := getF m TIME_SERVO_TAU_TAU
  let slew := ppm10 (getF m TIME_SERVO_SLEW_MAX)
  r + clampI (-slew) slew (roundDiv (e * 65536) (tau * 1000000))

/-- SERVO of TIME_STAT (R412). -/
def showServo (m : Mach) : Mach := setB m TIME_STAT_SERVO 0 (servoRole m && domState m (selDom m) == 3)

/-- Starts a switch of the selected domain (R420). -/
def startSwitch (m : Mach) (d : Nat) : Mach :=
  { setF m TIME_STAT_SWITCH_PEND 0 1 with time := { m.time with target := some d } }

/-- Hold-over where AUTO_SWITCH finds the other domain LOCKED (R420, R421). -/
def autoSwitch (m : Mach) : Mach :=
  let o := 1 - selDom m
  if onF m TIME_STAT_HOLDOVER && onF m TIME_CTRL_AUTO_SWITCH && feature m 9 && domState m o == 3 && m.time.target.isNone
  then startSwitch m o else m

/-- The selected domain has left LOCKED (R419). -/
def holdover (m : Mach) (d : Nat) : Mach :=
  if !servoRole m || selDom m != d then m
  else
    let h := m.time.yHist
    let y := if h = [] then rateY m else roundDiv (h.foldl (· + ·) 0) h.length
    let m := logNode (flag { m with time := { m.time with yNext := some y } } TIME_STAT_HOLDOVER) E_TIME_HOLDOVER d
    autoSwitch (showServo m)

/-- A domain is lost: LOST or FAULT is entered, and its run of clamped Sync ends (R416, R422). -/
def loseDomain (m : Mach) (d st : Nat) : Mach :=
  holdover (setDomState (incF (setDom m d { domSt m d with clamped := 0 }) TIME_DOM_LOSS_CNT_CNT d 1) d st) d

/-- The registers of a domain's estimate. -/
def showDom (m : Mach) (d : Nat) : Mach :=
  let x := domSt m d
  let m := set64 m TIME_DOM_OFS_LO_OFS TIME_DOM_OFS_HI_OFS d (unsg 64 (roundDiv x.ofs 65536 - epoch m))
  setS m TIME_DOM_RATE_R d (sat 32 x.rate)

/-- Sets EPOCH; every offset against it is shown anew. -/
def setEpoch (m : Mach) (e : Int) : Mach :=
  let m := set64 m TIME_EPOCH_LO_EPOCH TIME_EPOCH_HI_EPOCH 0 (unsg 64 e)
  showDom (showDom m 0) 1

/-- PTP first lock (R418): cell time steps to PTP time, or EPOCH takes the offset. -/
def firstLock (m : Mach) (d : Nat) : Mach :=
  if onF m TIME_STAT_FIRST_LOCK || !servoRole m || selDom m != d then m
  else
    let o := (domSt m d).ofs
    let align := onF m TIME_CTRL_STEP_MODE
    let can := !anyEnabled m && decide (twiState m ≤ 3)
    let m := flag m TIME_STAT_FIRST_LOCK
    let new := roundDiv (o + cellNs m.cyc.now) 81920
    let m :=
      if align && can && decide (0 ≤ new) then
        let step := new - m.cyc.now
        let m := stepTime m new.toNat
        notice (setEpoch m 0) E_TIME_FIRST_LOCK (1 + 2 * unsg 31 (sat 31 step))
      else
        let m := if align then flag m TIME_FLAGS_STEP_SKIPPED else m
        notice (setEpoch m (roundDiv o 65536)) E_TIME_FIRST_LOCK 0
    let m := irq m 225
    if m.twi.waiting then startTraining m else m

/-- A domain becomes LOCKED (R416, R419). -/
def lockDomain (m : Mach) (d : Nat) : Mach :=
  let m := firstLock (notice (setDomState m d 3) E_TIME_LOCKED d) d
  let m := if selDom m = d ∧ servoRole m = true then setF m TIME_STAT_HOLDOVER 0 0 else m
  autoSwitch (showServo m)

/-- The servo at a Sync of the selected domain while it is LOCKED (R417, R422). -/
def servoSync (m : Mach) (d : Nat) : Mach :=
  if !servoRole m || selDom m != d || domState m d != 3 then m
  else
    let x := domSt m d
    let ymax := ppm10 (getF m TIME_SERVO_Y_MAX)
    let y := servoRate m x.rate (x.ofs - epoch m * 65536)
    let hit := decide (y < -ymax ∨ ymax < y)
    let k := if hit then x.clamped + 1 else 0
    let m := setDom m d { x with clamped := k }
    let m := { m with time := { m.time with yNext := some (clampI (-ymax) ymax y) } }
    if 8 ≤ k then loseDomain (logNode m E_TIME_RATE_LIMIT d) d 5 else m

/-- A Sync of domain `d` with its stamp in cell time and in REF_CLK time, and its PTP time on arrival, in 2^-16 ns (R416). -/
def syncSample (m : Mach) (d : Nat) (c ref ptp : Int) : Mach :=
  let x := domSt m d
  let st := domState m d
  if st = 0 ∨ x.gm = none then m
  else
    let l := lastN 16 (x.samples ++ [(c, ref, ptp)])
    let x := { x with samples := l, ofs := offsetOf l, rate := rateOf l, wait := none }
    let dev := absI (ptp - cellNs c - x.ofs)
    let near := decide (dev ≤ (getF m TIME_SERVO_TAU_LOCK_THR : Int) * 65536)
    let good := if st = 2 then (if near then x.good + 1 else 0) else 0
    let m := showDom (setDom m d { x with good := good }) d
    if st = 1 ∨ st = 4 then setDomState m d 2
    else if st = 5 then (if absI x.rate ≤ ppm10 (getF m TIME_SERVO_Y_MAX) then setDomState m d 2 else m)
    else if st = 2 then (if 8 ≤ good then servoSync (lockDomain m d) d else m)
    else servoSync m d

/-! ## Messages (R413 to R415) -/

/-- The enabled instance that a message of a port and domain number reaches. -/
def instanceOf (m : Mach) (port dn : Nat) : List Nat :=
  (List.range 2).filter (fun d => onF m TIME_DOM_CFG_EN d && getF m TIME_DOM_CFG_PORT d == port && getF m TIME_DOM_CFG_DOMAIN d == dn)

/-- Mean link delay of a port in 2^-16 ns. -/
def linkDelay (m : Mach) (port : Nat) : Int := sget m.time.delay port 0

/-- PTP_SYNC_RECEIVE: a Sync from `src`, one-step with its origin time, or two-step. -/
def ptpSync (port dn src seq : Nat) (twoStep : Bool) (stamp : Nat) (origin : Int) (m : Mach) : Mach :=
  let c : Int := (stamp : Int) - getF m TIME_ETH_LAT_ING_LAT port
  (instanceOf m port dn).foldl (fun m d =>
    if (domSt m d).gm ≠ some src then m
    else if twoStep then setDom m d { domSt m d with wait := some (seq, c, refTime m c) }
    else syncSample m d c (refTime m c) (origin + linkDelay m port)) (at' m stamp)

/-- PTP_SYNC_RECEIVE. -/
def execPtpSyncReceive (port dn src seq : Nat) (twoStep : Bool) (stamp : Nat) (origin : Int) (s : State) : Out :=
  done (ptpSync port dn src seq twoStep stamp origin) s

/-- FOLLOW_UP_RECEIVE: the origin time of the two-step Sync with the same number. -/
def followUp (port dn src seq : Nat) (origin : Int) (m : Mach) : Mach :=
  (instanceOf m port dn).foldl (fun m d =>
    match (domSt m d).wait with
    | some (q, c, ref) => if q = seq ∧ (domSt m d).gm = some src then syncSample m d c ref (origin + linkDelay m port) else m
    | none => m) m

/-- FOLLOW_UP_RECEIVE. -/
def execFollowUpReceive (port dn src seq : Nat) (origin : Int) (s : State) : Out := done (followUp port dn src seq origin) s

/-- Whether a domain uses a port. -/
def portUsed (m : Mach) (port : Nat) : Bool := (List.range 2).any (fun d => onF m TIME_DOM_CFG_EN d && getF m TIME_DOM_CFG_PORT d == port)

/-- Sends a PTP message: type, domain number, sequence, time value in 2^-16 ns and, in an Announce, the priority vector. -/
def sendPtp (m : Mach) (port typ dn seq : Nat) (t : Int) (vec : List Nat := []) : Mach :=
  { m with out := { m.out with ptp := m.out.ptp ++ [{ port := port, typ := typ, domain := dn, seq := seq, time := t, vec := vec }] } }

/-- PDELAY_REQ_RECEIVE: the response carries the arrival, its follow-up the departure (two-step, R413). -/
def pdelayReq (port seq stamp depart : Nat) (m : Mach) : Mach :=
  if !portUsed m port then m
  else
    let t2 := ptpAt m ((stamp : Int) - getF m TIME_ETH_LAT_ING_LAT port)
    let t3 := ptpAt m ((depart : Int) + getF m TIME_ETH_LAT_EGR_LAT port)
    sendPtp (sendPtp (at' m (max stamp depart)) port 3 0 seq t2) port 10 0 seq t3

/-- PDELAY_REQ_RECEIVE. -/
def execPdelayReqReceive (port seq stamp depart : Nat) (s : State) : Out := done (pdelayReq port seq stamp depart) s

/-- PDELAY_REQ_TRANSMIT: a Pdelay_Req leaves the port at cell time `t`. -/
def pdelaySend (port t : Nat) (m : Mach) : Mach :=
  if !portUsed m port then m
  else
    let q := m.time.seq % 65536
    let m := at' m t
    let m := { m with time := { m.time with seq := (q + 1) % 65536,
                                            req := sput m.time.req port (q, (t : Int) + getF m TIME_ETH_LAT_EGR_LAT port) (65536, 0) } }
    sendPtp m port 2 0 q 0

/-- PDELAY_REQ_TRANSMIT. -/
def execPdelayReqTransmit (port t : Nat) (s : State) : Out := done (pdelaySend port t) s

/-- The neighbour rate ratio of a port as (numerator, denominator): the peer's time over the node's between the last answered request and
this one, answered by the peer at `t3` and here at `t4`; 1 for the first (R413, 802.1AS-2020: PRESUMED, entry 31). -/
def rateRatio (m : Mach) (port : Nat) (t3 t4 : Int) : Int × Int :=
  match sget m.time.nbr port none with
  | some (p3, p4) => if p3 < t3 ∧ p4 < t4 then (t3 - p3, t4 - p4) else (1, 1)
  | none => (1, 1)

/-- PDELAY_RESP_RECEIVE: the peer's times t2 and t3 (2^-16 ns) of the request `seq`, received at `stamp` (R413). -/
def pdelayResp (port seq : Nat) (t2 t3 : Int) (stamp : Nat) (m : Mach) : Mach :=
  let r := sget m.time.req port (65536, 0)
  if r.1 ≠ seq then m
  else
    let t4 := cellNs ((stamp : Int) - getF m TIME_ETH_LAT_ING_LAT port)
    let q := rateRatio m port t3 t4
    let d := roundDiv ((t4 - cellNs r.2) * q.1 - (t3 - t2) * q.2) (2 * q.2.toNat)
    { at' m stamp with time := { m.time with delay := sput m.time.delay port d 0,
                                             nbr := sput m.time.nbr port (some (t3, t4)) none } }

/-- PDELAY_RESP_RECEIVE. -/
def execPdelayRespReceive (port seq : Nat) (t2 t3 : Int) (stamp : Nat) (s : State) : Out := done (pdelayResp port seq t2 t3 stamp) s

/-- Order of the best master clock algorithm on priority vectors: the first is better. -/
def better : List Nat → List Nat → Bool
  | [], _ => false
  | _ :: _, [] => true
  | a :: r, b :: q => if a < b then true else if b < a then false else better r q

/-- The node's own priority vector as a grandmaster; the clock quality is the default of 802.1AS-2020 (entry 31). -/
def ownVec (m : Mach) (d : Nat) : List Nat := [getF m TIME_DOM_CFG_PRIO1 d, 248, 0xFE, 0x436A, 248]

/-- Shows the grandmaster's identity. -/
def setGm (m : Mach) (d id : Nat) : Mach := setF (setF m TIME_DOM_GM_LO_GM d (id / 2 ^ 32)) TIME_DOM_GM_HI_GM d id

/-- ANNOUNCE_RECEIVE: `src` announces the grandmaster `gm` with its priority vector (R413, R416); where the Sync of the one in force has
timed out, any grandmaster is taken (entry 32). -/
def announce (port dn src gm : Nat) (vec : List Nat) (m : Mach) : Mach :=
  (instanceOf m port dn).foldl (fun m d =>
    let x := domSt m d
    let v := vec ++ [gm]
    let cap := onF m TIME_DOM_CFG_GM_EN d
    let beatsOwn := !cap || better vec (ownVec m d)
    let take := beatsOwn && (x.gm == none || x.gm == some src || domState m d == 4 || better v x.vec)
    if !take then m
    else
      let change := x.gm != none && x.vec.getLast? != some gm
      let x' := if change then { x with gm := some src, vec := v, samples := [], good := 0, clamped := 0, wait := none } else { x with gm := some src, vec := v }
      let m := setGm (setF (setDom m d x') TIME_DOM_STAT_GM_SELF d 0) d gm
      if change && domState m d == 3 then holdover (notice (setDomState m d 2) E_TIME_GM_CHANGE d) d else m) m

/-- ANNOUNCE_RECEIVE. -/
def execAnnounceReceive (port dn src gm : Nat) (vec : List Nat) (s : State) : Out := done (announce port dn src gm vec) s

/-- SIGNALING_RECEIVE: an interval request within [-5, 3] is honoured (R413). -/
def signaling (port dn : Nat) (logSync : Int) (m : Mach) : Mach :=
  if logSync < -5 ∨ 3 < logSync then m
  else (instanceOf m port dn).foldl (fun m d => setF m TIME_DOM_STAT_LOG_SYNC d (unsg 8 logSync)) m

/-- SIGNALING_RECEIVE. -/
def execSignalingReceive (port dn : Nat) (logSync : Int) (s : State) : Out := done (signaling port dn logSync) s

/-- MANAGEMENT_RECEIVE: received and ignored (R413). -/
def execManagementReceive (port : Nat) (s : State) : Out := done (fun m => if port < 2 then m else m) s

/-- ETHERNET_FRAME_DISCARD (R414). -/
def execEthernetFrameDiscard (port : Nat) (s : State) : Out :=
  done (fun m => if port < 2 then incF m TIME_ETH_DROP_CNT_CNT port 1 else m) s

/-- PTP_SYNC_TRANSMIT (R413): the grandmaster sends Sync, Follow_Up and Announce from PTP(c). -/
def ptpSyncSend (d t : Nat) (m : Mach) : Mach :=
  if 2 ≤ d || !onF m TIME_DOM_CFG_EN d || !onF m TIME_DOM_STAT_GM_SELF d then m
  else
    let port := getF m TIME_DOM_CFG_PORT d
    let dn := getF m TIME_DOM_CFG_DOMAIN d
    let q := m.time.seq % 65536
    let m := { at' m t with time := { m.time with seq := (q + 1) % 65536 } }
    let m := sendPtp (sendPtp m port 0 dn q 0) port 8 dn q (ptpAt m (t + getF m TIME_ETH_LAT_EGR_LAT port))
    sendPtp m port 11 dn q 0 (ownVec m d)

/-- PTP_SYNC_TRANSMIT. -/
def execPtpSyncTransmit (d t : Nat) (s : State) : Out := done (ptpSyncSend d t) s

/-- No Sync for three intervals (R416): a LOCKED domain is LOST. What was announced ages out with it, so that a grandmaster-capable instance
is its own grandmaster again (R413, 802.1AS-2020: PRESUMED, entry 32). -/
def syncTimeout (d : Nat) (m : Mach) : Mach :=
  if 2 ≤ d ∨ domState m d = 0 then m
  else
    let m := if domState m d = 3 then loseDomain m d 4 else m
    if onF m TIME_DOM_CFG_GM_EN d && (domSt m d).gm.isSome then
      setGm (flag (setDom m d { domSt m d with gm := none, vec := [] }) TIME_DOM_STAT_GM_SELF d) d 0
    else m

/-- SYNC_RECEIPT_TIMEOUT (R416). -/
def execSyncReceiptTimeout (d : Nat) (s : State) : Out := done (syncTimeout d) s

/-- FIRST_LOCK_WAIT_EXPIRY (R418). -/
def execFirstLockWaitExpiry (s : State) : Out := done (fun m => if m.twi.waiting then startTraining m else m) s

/-! ## Enable, select, boundary -/

/-- DOMAIN_ENABLE (R412, R416, R421): a write of TIME_DOM_CFG_d.EN. E_TIME_ROLE stands in completion entries only (R432), and a write has
none: on a networked worker it is ignored. An instance starts with the logSyncInterval -3 of 802.1AS-2020 (PRESUMED, entry 31). -/
def domainEnable (d : Nat) (en : Bool) (m : Mach) : Mach :=
  if 2 ≤ d then m
  else if networked m then m
  else if en then
    if onF m TIME_DOM_CFG_EN d then m
    else if d = 1 ∧ !feature m 9 then report m E_TIME_BAD_CFG 0 5 11 0x130
    else
      let m := setF (setDom (setDomState (flag m TIME_DOM_CFG_EN d) d 1) d {}) TIME_DOM_STAT_LOG_SYNC d (unsg 8 (-3))
      setB m TIME_DOM_STAT_GM_SELF d (onF m TIME_DOM_CFG_GM_EN d)
  else
    let was := domState m d
    let m := setF (setF (setDom (setDomState (setF m TIME_DOM_CFG_EN d 0) d 0) d {}) TIME_DOM_STAT_GM_SELF d 0) TIME_DOM_STAT_LOG_SYNC d 0
    let m := setGm m d 0
    if was = 3 then holdover m d else showServo m

/-- DOMAIN_ENABLE. -/
def execDomainEnable (d : Nat) (en : Bool) (s : State) : Out := done (domWrite 11 (0x100 + 0x30 * d) (domainEnable d en)) s

/-- DOMAIN_SELECT (R412, R420). -/
def domainSelect (j : Job) (m : Mach) : JobRes :=
  let d := j.desc.par 0
  if 2 ≤ d then jobFail m E_HIF_BAD_PARAM 0
  else if networked m then jobFail m E_TIME_ROLE
  else if domState m d ≠ 3 then jobDetail m E_TIME_DOMAIN_NOT_LOCKED d
  else if selDom m = d then { m := m }
  else
    let m := startSwitch m d
    { m := { m with time := { m.time with jobs := m.time.jobs ++ [jcompl j 0 0 none] } }, later := true }

/-- DOMAIN_SELECT. -/
def execDomainSelect (j : Job) (s : State) : Out := done (runJob 0x0B02 domainSelect j) s

/-- SEL_WRITE (R420): a level-E write of SEL whose target is not LOCKED is ignored and reported. -/
def selWrite (d : Nat) (m : Mach) : Mach :=
  if 2 ≤ d then m
  else if networked m || domState m d != 3 then report m E_TIME_BAD_CFG 0 5 11 0
  else if selDom m = d then m else startSwitch m d

/-- SEL_WRITE. -/
def execSelWrite (d : Nat) (s : State) : Out := done (domWrite 11 0 (selWrite d)) s

/-- A pending switch takes effect at a cycle boundary (R420): onto a domain that has left LOCKED meanwhile the node enters hold-over (R419).
The run of clamped Sync is one of the selected domain (R422). -/
def switchDomain (m : Mach) : Mach :=
  match m.time.target with
  | none => m
  | some d =>
    let jobs := m.time.jobs
    let m := { setF (setF m TIME_CTRL_SEL 0 d) TIME_STAT_SWITCH_PEND 0 0 with time := { m.time with target := none, jobs := [] } }
    let e := roundDiv (domSt m d).ofs 65536 - epoch m
    let m := notice (flag m TIME_FLAGS_SWITCHED) E_TIME_DOMAIN_SWITCH (unsg 32 (sat 32 e))
    let m := [0, 1].foldl (fun m i => setDom m i { domSt m i with clamped := 0 }) (jobs.foldl addCompl m)
    let m := if domState m d = 3 then firstLock (setF m TIME_STAT_HOLDOVER 0 0) d
      else if onF m TIME_STAT_HOLDOVER then m else holdover m d
    showServo m

/-- What TIME does at a cycle boundary: the servo's rate is applied, a pending switch takes effect, set-ups of outputs start.
`ticks` is the length of the cycle that ends (R410, R417, R420, R423). -/
def timeBoundary (m : Mach) (ticks : Nat) : Mach :=
  let t := m.time
  let m := { m with time := { t with yInt := t.yInt + ((ticks : Int) * 2 ^ 32 - refTicks (rateY m) ticks), yNext := none } }
  let m := match t.yNext with
    | some y =>
      let m := setS m TIME_RATE_Y 0 y
      if onF m TIME_STAT_HOLDOVER then m else { m with time := { m.time with yHist := lastN 16 (m.time.yHist ++ [y]) } }
    | none => m
  outsBoundary (switchDomain m)

end Sys2Proof.Machine
end

