-- ==== Sys2Proof/Machine/RunPlan.lean ====
section
/-! DEFINITION. The plan of a group and its evaluation cycle by cycle (07 R202 to R222, 08 R245 to R259): `advCore` gives the entry
after an entry; what the commit of that entry reports stands in its `events`. -/

namespace Sys2Proof.Machine

/-! ## Groups -/

/-- The plan of a group. -/
def grp (m : Mach) (g : Nat) : GrpSt := sget m.run.grps g {}
/-- Replaces it. -/
def setGrp (m : Mach) (g : Nat) (x : GrpSt) : Mach := { m with run := { m.run with grps := sput m.run.grps g x {} } }

/-- The coupled set of a group (R202). -/
def setOf (m : Mach) (g : GroupRec) : Option SetRec := if g.set = 0xFF then none else m.mould.sets.find? (fun s => s.gmask.testBit g.group)

/-- The group that a group is planned with: the lead group of its set, or itself (R202). -/
def leadOf (m : Mach) (g : GroupRec) : Nat := ((setOf m g).map (·.lead)).getD g.group

/-- The groups that are planned, each with the groups planned as one with it. -/
def planUnits (m : Mach) : List GroupRec := m.mould.groups.filter (fun g => leadOf m g == g.group)

/-- The groups planned as one with a lead group. -/
def members (m : Mach) (g : GroupRec) : List GroupRec := m.mould.groups.filter (fun h => leadOf m h == g.group)

/-- Their axes. -/
def unitAxes (m : Mach) (g : GroupRec) : List AxisRec := (members m g).flatMap (fun h => groupAxes m h.group)

/-- The planning limits of an axis. -/
def axLim (m : Mach) (a : Nat) : AxLim := (m.mould.axLims.find? (fun l => l.axis == a)).getD {}

/-- Cartesian groups: chain groups and coupled sets (R208). -/
def isCart (g : GroupRec) : Bool := g.kind == 1

/-- Whether every axis of a group is enabled in the snapshot. -/
def allOn (m : Mach) (g : GroupRec) (x : GrpSt) : Bool := (unitAxes m g).all (fun a => x.enabled.contains a.axis)

/-! ## Poses (R218) -/

/-- Composition of a pose (position, rotation) with a frame in it. -/
def compose (p r o u : List Fx) : List Fx × List Fx := (vadd p (mV r o), mM r u)

/-- The frame in the flange of a chain in which a unit's reference frame lies: the tool frame, or the grasp frame of the chain. -/
def refInFlange (m : Mach) (g : GroupRec) (c : Nat) : List Fx × List Fx :=
  match setOf m g with
  | none => (g.toolOrigin.map (ofFmt 23), g.toolRot.map (ofFmt 30))
  | some s =>
    let gr := ((objectsOf m.mould.image).zipIdx.filter (fun o => s.omask.testBit o.2)).flatMap (fun o => o.1.2)
    match gr.find? (fun x => field x 0 1 == c) with
    | some x => ((s32s x 4 3).map (ofFmt 23), (s32s x 16 9).map (ofFmt 30))
    | none => (v0, m1)

/-- The chains of a unit. -/
def unitChains (m : Mach) (g : GroupRec) : List Nat := (members m g).map (·.chain)

/-- Pose (position, quaternion) of the reference frame from joint positions in counts, and its motion from joint rates and their
derivatives. -/
def poseOf (m : Mach) (g : GroupRec) (pos : List (Nat × Int)) (vel acc : List (Nat × Fx)) : List Fx × List Fx :=
  let c := (unitChains m g).headD 0
  let cm := chainModel m c
  let ax := chainAxes m c
  let at_ (l : List (Nat × Int)) (a : AxisRec) : Int := ((l.find? (fun x => x.1 == a.axis)).map (·.2)).getD 0
  let fs := fk cm.1 cm.2 (ax.map (fun a => toClass a (at_ pos a)))
  let fl := flange cm.1 fs
  let t := refInFlange m g c
  let p := compose fl.p fl.r t.1 t.2
  let ms := fwdPass cm.1 v0 cm.2 fs (spread cm.2 (ax.map (at_ vel))) (spread cm.2 (ax.map (at_ acc)))
  let mo := ms.getLastD {}
  let cols := jacobian cm.1 cm.2 fs
  let v := (cols.zip (ax.map (at_ vel))).foldl (fun s x => vadd s (vscale x.2 (x.1.take 3))) v0
  let d := vsub p.1 fl.p
  (p.1 ++ matq p.2, vadd v (vcross mo.w d) ++ mo.w ++ vadd mo.a (vadd (vcross mo.wd d) (vcross mo.w (vcross mo.w d))) ++ mo.wd)

/-- Zero motion. -/
def noTwist : List Int := List.replicate 12 0

/-- The flange target of a chain from a reference pose and its motion: position, rotation, and the motion of the flange (R218). -/
def flangeTarget (m : Mach) (g : GroupRec) (c : Nat) (pose twist : List Fx) : List Int :=
  let t := refInFlange m g c
  let r := mM (qmat (pose.drop 3)) (mT t.2)
  let d := vneg (mV r t.1)
  let w := sub3 twist 3
  let wd := sub3 twist 9
  (vadd (pose.take 3) d).map (toFmt 23) ++ r.map (toFmt 30) ++ (vadd (twist.take 3) (vcross w d)).map (toFmt 23) ++ w.map (toFmt 23)
    ++ (vadd (sub3 twist 6) (vadd (vcross wd d) (vcross w (vcross w d)))).map (toFmt 23) ++ wd.map (toFmt 23)

/-! ## Segments -/

/-- A path item. -/
def isPath (s : Seg) : Bool := s.typ == 1 || s.typ == 2

/-- Profiles, length and V_PEAK of a PTP segment from its start (R213, R214). -/
def planPtp (m : Mach) (g : GroupRec) (start : List Int) (s : Seg) : Seg :=
  let ax := (unitAxes m g).zip (start.zip s.target)
  let one (a : AxisRec) (p q : Int) : List Nat :=
    let l := axLim m a.axis
    ptpPhases (q - p).natAbs l.vmax l.amax l.jmax a.shift (cycLen m) s.vs s.acs
  let pr := ax.map (fun x => one x.1 x.2.1 x.2.2)
  let len := pr.foldl (fun n p => max n (ceil62 (nth p 3))) 0
  let pr := pr.map (fun p => p ++ [if g.kind = 3 then ceil62 (nth p 3) else len])
  let vpk := (ax.zip pr).foldl (fun v x => max v (ptpRatio (x.1.2.2 - x.1.2.1).natAbs (axLim m x.1.1.axis).vmax x.1.1.shift (cycLen m) x.2)) 0
  { s with start := start, prof := pr, len := len * 2 ^ 32, vpk := vpk }

/-- Interval, length and V_PEAK of a spline from its start (R219); also the interval where it had to be stretched. -/
def planSpline (m : Mach) (g : GroupRec) (start : List Int) (interval : Nat) (pts : List (List Int)) (s : Seg) : Seg × Option Nat :=
  let ctrl := splineCtrl start pts
  let n := spanCount ctrl
  let ax := (unitAxes m g).zipIdx
  let lt := cycLen m
  let need := ax.foldl (fun t a =>
    let l := axLim m a.1.axis
    let v := perCycle l.vmax a.1.shift lt
    let ac := perCycle l.amax a.1.shift lt
    let j := perCycle l.jmax a.1.shift lt
    (List.range n).foldl (fun t i => max t (spanInterval (spanOf ctrl i a.2) v ac j)) t) interval
  let vpk := ax.foldl (fun r a =>
    let v := perCycle (axLim m a.1.axis).vmax a.1.shift lt
    (List.range n).foldl (fun r i =>
      let p := spanPeaks (spanOf ctrl i a.2)
      max r (roundDiv (p.1 * 2 ^ 92 : Nat) (6 * p.2.1 * need * v)).toNat) r) 0
  ({ s with start := start, target := ctrl.getLastD start, ctrl := ctrl, interval := need, len := n * need * 2 ^ 32, vpk := vpk },
   if interval < need then some need else none)

/-- Plans the runs of path items in a queue; the first run may be in progress at a speed, an acceleration, a parameter and a path time
after its start (R217, R227). -/
def planRuns (lt : Nat) : Nat → Option (Fx × Fx × Fx × Int) → List Seg → List Seg
  | 0, _, l => l
  | _, _, [] => []
  | n + 1, u, s :: r =>
    if isPath s then
      let run := s :: r.takeWhile (fun x => isPath x && !x.wait)
      let v := u.getD (0, 0, 0, 0)
      let pl := planPath lt v.1 v.2.1 v.2.2.1 v.2.2.2 run
      pl.map (fun x => { x with vpk := pathPeak x }) ++ planRuns lt n none (r.dropWhile (fun x => isPath x && !x.wait))
    else s :: planRuns lt n none r

/-- The weight of orientation of a unit's paths (R216). -/
def pathWeight (m : Mach) (g : GroupRec) : Fx := ofFmt 23 (getF m CRUC_IK_WROT_W (g.chain % 16) : Nat)

/-- The pose at which the last of a list of segments ends, from a pose. -/
def endPose (m : Mach) (g : GroupRec) (pose : List Fx) (l : List Seg) : List Fx :=
  match l.getLast? with
  | none => pose
  | some s =>
    if isPath s then (s32s s.raw 4 3).map (ofFmt 23) ++ qunit ((s32s s.raw 16 4).map (ofFmt 30))
    else (poseOf m g (((unitAxes m g).map (·.axis)).zip s.target) [] []).1

/-- Joint positions at which the last of a list of segments ends. -/
def endPos (pos : List Int) (l : List Seg) : List Int :=
  match l.getLast? with
  | some s => if s.target = [] then pos else s.target
  | none => pos

/-- Gives path items their geometry, each from the end of the one before. -/
def layItems (m : Mach) (g : GroupRec) (pose : List Fx) (l : List Seg) : List Seg :=
  (l.foldl (fun (a : List Fx × List Seg) s =>
    let s := { s with geo := [0, 0] ++ itemGeo (pathWeight m g) (a.1.take 3) (a.1.drop 3) s.raw }
    (endPose m g a.1 [s], a.2 ++ [s])) (pose, [])).2

/-- Lays the path items that have no geometry yet and plans the speed over the queue (R216, R217); an item in progress goes on with its
speed and acceleration (R227). -/
def replan (m : Mach) (u : GroupRec) (d : Dyn) : Dyn :=
  let lay (pose : List Fx) (l : List Seg) : List Seg :=
    (l.foldl (fun (a : List Fx × List Seg) s =>
      let s := if isPath s && s.geo == [] then (layItems m u a.1 [s]).headD s else s
      (endPose m u a.1 [s], a.2 ++ [s])) (pose, [])).2
  if !isCart u then d
  else
    let segs := lay d.pose d.segs
    let cur := match segs with
      | s :: _ => match s.t0 with
        | some t => if isPath s then let mo := segMotion s (d.theta - t : Nat) (cycLen m); some (mo.2.1, mo.2.2, mo.1, ((d.theta - t : Nat) : Int)) else none
        | none => none
      | [] => none
    let segs := match segs, cur with
      | s :: r, none => if s.t0.isSome then s :: planRuns (cycLen m) (r.length + 1) none r else planRuns (cycLen m) (r.length + 2) none (s :: r)
      | l, c => planRuns (cycLen m) (l.length + 1) c l
    let after := planRuns (cycLen m) (d.after.length + 1) none (lay (endPose m u d.pose (segs.take 1)) d.after)
    { d with segs := segs, after := after }

/-- Adds an event to what the commit of the entry reports: 1 start of a segment, 2 its end, 3 its end when aborted, 4 stopped with a
cause, 5 stream stop, 13 as 3 at the entry before, 6 gear engaged, 7 disengaged with a cause, 8 gear change, 9 an extrapolated stream entry, 10 shared start, 11 end of
a segment at the entry before, 12 a spline stretched to an interval. -/
def ev (d : Dyn) (k v : Nat) : Dyn := { d with events := d.events ++ [(k, v)] }

/-- A segment starts at path time `t0` where the plan stands: it is planned again if it starts elsewhere than it was planned from. The
start of a spline accepted behind a stop is known only now; its notice follows now too (entry 104). -/
def beginSegs (m : Mach) (g : GroupRec) (d : Dyn) (t0 : Nat) : Dyn :=
  match d.segs with
  | [] => d
  | s :: r =>
    if isPath s then
      let it := segItem s.geo 0
      let fresh_ := s.geo = [] ∨ (nthI s.geo 0 = 0 ∧ (sub3 it 4 ≠ d.pose.take 3 ∨ (it.drop 18).take 4 ≠ d.pose.drop 3))
      let l := if fresh_ then
          planRuns (cycLen m) (r.length + 1) none (layItems m g d.pose [s] ++ r)
        else s :: r
      { d with segs := match l with | x :: y => { x with t0 := some t0, wait := false } :: y | [] => [] }
    else if s.start = d.pos then { d with segs := { s with t0 := some t0, wait := false } :: r }
    else if s.typ = 3 then
      let n := planSpline m g d.pos s.vs ((s.ctrl.drop 3).take (s.ctrl.length - 5)) s
      let d := match n.2 with
        | some i => if s.start = [] ∨ i ≠ s.interval then ev d 12 i else d
        | none => d
      { d with segs := { n.1 with t0 := some t0, wait := false } :: r }
    else { d with segs := { planPtp m g d.pos s with t0 := some t0, wait := false } :: r }

/-- The segment in progress. -/
def headSeg (d : Dyn) : Option Seg := match d.segs with | s :: _ => if s.t0.isSome then some s else none | [] => none

/-- The segment in progress that has had an entry. -/
def runningSeg (d : Dyn) : Option Seg := (headSeg d).filter (fun s => s.c0.isSome)

/-- Passes the ends of segments that path time has left behind (R210): the next one starts where one ends. -/
def walkSegs (m : Mach) (g : GroupRec) : Nat → Dyn → Dyn
  | 0, d => d
  | n + 1, d =>
    match d.segs with
    | s :: y :: r =>
      match s.t0 with
      | some t =>
        if t + s.len < d.theta ∧ !y.wait then
          let d := { d with segs := y :: r, pos := endPos d.pos [s], pose := if isCart g then endPose m g d.pose [s] else d.pose }
          -- its last entry is the one before, unless it has had none (entry 101)
          let d := if s.c0.isSome then ev d 11 s.sid else ev (ev d 1 s.sid) 2 s.sid
          walkSegs m g n (beginSegs m g d (t + s.len))
        else d
      | none => d
    | _ => d

/-! ## Limits and the target scale (R211, R212) -/

/-- The limit of a group in the mirror (R212, 15 R465); a standby takes the one that the active manager read (17 R495). -/
def mirrorLimit (m : Mach) (g : Nat) : Nat :=
  match (if followsPartner m then m.duo.limits else none) with
  | some l => nth l g
  | none => if onF m SAFE_MIR_STAT_MIRROR_STALE then 0 else field m.safe.mir (56 + 4 * g) 4

/-- The limit of a unit: the lowest of its groups (R202). -/
def unitLimit (m : Mach) (u : GroupRec) : Nat := (members m u).foldl (fun l g => min l (mirrorLimit m g.group)) (2 ^ 32)

/-- r_pk of a virtual master in Q1.30 (08 R241), at the speed that it has or goes to. -/
def gearPeak (m : Mach) (u : GroupRec) (d : Dyn) : Nat :=
  let v := (d.master.next.map (·.1)).getD d.master.v
  ((unitAxes m u).zip d.laws).foldl (fun r a =>
    let vm := (axLim m a.1.axis).vmax
    let num := (a.2.nn * v).natAbs * 2 ^ 30 * (if a.1.shift < 0 then 2 ^ (-a.1.shift).toNat else 1)
    let den := a.2.dn * 2 ^ 32 * vm * (if 0 ≤ a.1.shift then 2 ^ a.1.shift.toNat else 1)
    max r (roundDiv (num : Nat) den).toNat) 0

/-- k_lim as a fraction (R212). -/
def kLim (m : Mach) (u : GroupRec) (d : Dyn) : Nat × Nat :=
  let l := unitLimit m u
  let v := if d.engaged && d.gsrc == 2 then gearPeak m u d else (d.segs ++ d.after).foldl (fun v s => max v s.vpk) 0
  if l = 0 then (0, 1) else if v = 0 ∨ v ≤ l then (1, 1) else (l, v)

/-- Whether k* is OVR: no hold, stop or lower limit stands. -/
def ovrRules (m : Mach) (u : GroupRec) (d : Dyn) (lim : Nat × Nat) : Bool :=
  !d.fh && d.mode == 0 && decide (getF m RUN_GRP_OVR_OVR u.group * lim.2 ≤ lim.1 * 2 ^ 30)

/-- The target scale in 2^-30 steps as a fraction. -/
def kTarget (m : Mach) (u : GroupRec) (d : Dyn) (lim : Nat × Nat) : Nat × Nat :=
  if d.fh ∨ d.mode ≠ 0 then (0, 1)
  else if ovrRules m u d lim then (getF m RUN_GRP_OVR_OVR u.group, 1) else (lim.1 * 2 ^ 30, lim.2)

/-- Forms a new ramp where the target has changed (R211): with KT_N when it rises, for a REPLACE stop (R203) and, `byOvr`, for a change of
OVR (R233). -/
def setTarget (m : Mach) (u : GroupRec) (d : Dyn) (t : Nat × Nat) (byOvr : Bool) : Dyn :=
  if t.1 * d.ksDen = d.ksNum * t.2 then d
  else
    let falls := decide ((t.1 : Int) < d.k * t.2)
    let kt := if falls && d.mode != 2 && !byOvr then getF m RUN_GRP_KT_KT_S u.group else getF m RUN_GRP_KT_KT_N u.group
    { d with ksNum := t.1, ksDen := t.2,
             ramp := some { k0 := d.k, d1 := d.d1, d2 := d.d2, num := t.1, den := t.2, dur := rampDur d.k t.1 t.2 kt, i := 0 } }

/-! ## One cycle of the time scale (R210, R211) -/

/-- k of the next entry. -/
def stepK (d : Dyn) : Dyn :=
  match d.ramp with
  | some r =>
    let k := rampAt r (r.i + 1)
    { d with k := k, d1 := k - d.k, d2 := (k - d.k) - d.d1, ramp := if r.dur ≤ r.i + 1 then none else some { r with i := r.i + 1 } }
  | none => { d with d1 := 0, d2 := -d.d1 }

/-- Whether a plan cannot be scaled in time: a stream, or a gear to a master that is not virtual. -/
def unscaled (d : Dyn) : Bool := d.stream.isSome || (d.engaged && d.gsrc != 2)

/-- Whether nothing moves: no segment, no stop in progress, speed 0. -/
def atRest (d : Dyn) : Bool := (headSeg d).isNone && d.halt.isNone && d.vel.all (· == 0)

/-! ## The entry of a kind of motion -/

/-- Axis speeds of zero. -/
def stillVel (d : Dyn) : List Int := d.pos.map (fun _ => 0)

/-- A rest entry: the axes repeat their positions; disabled ones take their measured position (09 R285). -/
def restEntry (m : Mach) (g : GroupRec) (x : GrpSt) (d : Dyn) : Dyn :=
  let ax := unitAxes m g
  let pos := (ax.zip d.pos).map (fun a => if x.enabled.contains a.1.axis then a.2 else sget m.run.meas a.1.axis a.2)
  let pose := if isCart g && pos != d.pos then (poseOf m g ((ax.map (·.axis)).zip pos) [] []).1 else d.pose
  { d with pos := pos, vel := stillVel d, pose := pose, twist := noTwist, src := 0, sid := 0 }

/-- The entry of the segment in progress. -/
def segEntry (m : Mach) (g : GroupRec) (d : Dyn) (s : Seg) (t0 : Nat) : Dyn :=
  let lt := cycLen m
  let tau := d.theta - t0
  let d := { d with sid := s.sid, src := if s.typ = 0 then 1 else if s.typ = 3 then 3 else 2 }
  if isPath s then
    let p := pathSample s tau lt d.k d.d1
    { d with pose := p.1, twist := p.2, vel := stillVel d }
  else
    let ax := (unitAxes m g).zipIdx
    let r := ax.map (fun a =>
      let e := if s.typ = 3 then splineEval s.ctrl s.interval a.2 tau
        else ptpEval (nthI s.start a.2) (nthI s.target a.2) (s.prof.getD a.2 []) tau
      (e.1, toSpeed e.2.1 e.2.2 d.k a.1.shift lt))
    { d with pos := r.map (·.1), vel := r.map (·.2) }

/-- The entry of a time-based stop (R221). -/
def haltEntry (m : Mach) (g : GroupRec) (d : Dyn) (h : Halt) : Dyn :=
  let r := ((unitAxes m g).zip (haltAt h d.c)).map (fun x => (x.2.1, toSpeed x.2.2 p62 (2 ^ 30) x.1.shift (cycLen m)))
  { d with pos := r.map (·.1), vel := r.map (·.2), halt := if haltOver h d.c then none else some h, src := 7, sid := 0 }

/-- Starts the time-based stop from the entry in `d`. -/
def beginHalt (m : Mach) (g : GroupRec) (d : Dyn) : Dyn :=
  let ax := (d.vel.zip (unitAxes m g)).map (fun x => (x.1, axLim m x.2.axis, x.2.shift))
  { d with halt := some (startHalt (cycLen m) d.c d.pos ax) }

/-- Bits of FLAGS (R207). -/
def fLIMITED : Nat := 8
/-- OVERRIDDEN. -/
def fOVERRIDDEN : Nat := 16
/-- FEED_HOLD. -/
def fFEED : Nat := 32
/-- UNDERRUN. -/
def fUNDERRUN : Nat := 4096
/-- ROLLBACK. -/
def fROLLBACK : Nat := 8192
/-- AT_REST. -/
def fREST : Nat := 16384

/-- The block of a stream for a cycle. -/
def blockFor (m : Mach) (r c : Nat) : Option InBlock := m.run.blocks.find? (fun b => b.ring == r && b.cycle == c)

/-- The entry of a streamed group (R220, R221). -/
def streamEntry (m : Mach) (g : GroupRec) (x : GrpSt) (d : Dyn) (r : Nat) : Dyn :=
  match blockFor m r d.c with
  | some b =>
    let v := b.els.map (·.vel)
    let acc := match blockFor m r (d.c + 1) with
      | some n => vsub (n.els.map (·.vel)) v
      | none => v.map (fun _ => 0)
    { d with pos := b.els.map (·.pos), vel := v, acc := acc, urun := 0, strFirst := true, src := 4, sid := 0 }
  | none =>
    if !d.strFirst then { restEntry m g x d with src := 4, acc := stillVel d }
    else if getF m RUN_GRP_CFG_UNDERRUN_MAX g.group ≤ d.urun then
      haltEntry' m g (ev { beginHalt m g { d with c := d.c - 1 } with stream := none, strFirst := false, urun := 0, c := d.c } 5 r)
    else
      let p := ((unitAxes m g).zip (d.pos.zip d.vel)).map (fun a =>
        a.2.1 + roundDiv (a.2.2 * (if 0 ≤ a.1.shift then 2 ^ a.1.shift.toNat else 1) * cycLen m) (800000000 * (if a.1.shift < 0 then 2 ^ (-a.1.shift).toNat else 1)))
      { ev d 9 r with pos := p, urun := d.urun + 1, flags := d.flags ||| fUNDERRUN, src := 4, sid := 0 }
where
  haltEntry' (m : Mach) (g : GroupRec) (d : Dyn) : Dyn := match d.halt with | some h => haltEntry m g d h | none => d

/-- The instant of the entry of cycle `c` with LEAD. -/
def entryInstant (m : Mach) (lead : Int) (c : Nat) : Int := (c : Int) * cycLen m + lead

/-- Fills the samples of a sampled master. -/
def fillSamples (m : Mach) (x : Master) : Master := { x with samples := sget m.run.mports (x.node * 16 + x.port) [] }

/-- A sampled master predicted for the entry after the last snapshot (R238, R239). -/
def predicted (m : Mach) (x : Master) : Master :=
  let p := predict x.samples m.run.snap x.pred x.lead x.va.toNat (cycLen m)
  { x with mp := p.1, vm := p.2.1, vm2 := p.2.2 }

/-- The master for the entry of cycle d.c as this node finds it (R238 to R242). -/
def masterHere (m : Mach) (d : Dyn) : Master :=
  let x := d.master
  match d.gsrc with
  | 2 => virtualNext x (cycLen m) d.k
  | 3 => networkNext x (ptpAt m (entryInstant m x.lead d.c).toNat)
  | _ => if d.c = m.run.snap + 1 then predicted m x else coast x (cycLen m)

/-- The master for the entry of cycle d.c; a standby takes M_p of the next entry from the active manager (R253, 17 R495). -/
def masterFor (m : Mach) (g : GroupRec) (d : Dyn) : Master :=
  let x := masterHere m d
  if followsPartner m && d.c == m.run.snap + 1 then
    match m.duo.mps.find? (fun p => p.1 == g.group) with
    | some p => { x with mp := p.2 }
    | none => x
  else x

/-- Latches the armed changes that the master has reached, in order (R250); `u` is the master before. -/
def latchAll (m : Mach) (g : GroupRec) : Nat → Dyn → Dyn
  | 0, d => d
  | n + 1, d =>
    match d.armed with
    | [] => d
    | c :: r =>
      if reached c d.master.mp then
        let t := crossing d.master.mp d.master.vm c.pc (entryInstant m d.master.lead d.c)
        let d := ev { d with laws := (d.laws.zip c.ratios).map (fun x => latchLaw c x.1 x.2), armed := r, lastPC := some (c.pc, c.w), fall := c.fall,
                             gev := d.gev ++ [(d.gev.length, c.tag, t)] } 8 (c.tag + d.c % 65536 * 65536)
        latchAll m g n d
      else d

/-- The entry of an engaged group (R245, R246). A law not anchored yet takes the master and the position of its first entry. -/
def gearEntry (m : Mach) (g : GroupRec) (d : Dyn) : Dyn :=
  let d := { d with master := masterFor m g d }
  let d := if d.strFirst then d
    else ev { d with laws := (d.laws.zip d.pos).map (fun x => { x.1 with pa := d.master.mp, fa := x.2 }), strFirst := true } 6 (d.c % 2 ^ 32)
  let d := latchAll m g 4 d
  let ax := (unitAxes m g).zip d.laws
  let x := d.master
  let nx := x.mp + roundDiv (x.vm * cycLen m * 2 ^ 32) (vUnit * 800000000)
  let v := ax.map (fun a => lawVel a.2 x.mp x.vm a.1.shift)
  { d with pos := ax.map (fun a => lawPos a.2 x.mp), vel := v, src := 5, sid := 0,
           acc := vsub (ax.map (fun a => lawVel a.2 nx x.vm2 a.1.shift)) v }

/-! ## The next entry -/

/-- The start instant, where the group waits for it and it has come by the entry of cycle `c` (08 R259). -/
def startDue (m : Mach) (g : GroupRec) (c : Nat) : Option Nat :=
  match m.run.start.ts with
  | some t => if m.run.start.groups.contains g.group && decide (t ≤ c * cycLen m) then some t else none
  | none => none

/-- Ends a stop (R225, R234): the segment in progress is aborted, the queue gives way to what was appended since; a RAMP stays. -/
def endStop (d : Dyn) : Dyn :=
  let d := match runningSeg d with | some s => ev d 3 s.sid | none => d
  let d := if d.mode = 2 then d else ev d 4 (if d.mode = 3 then 6 else d.cause)
  let d := if d.mode ≠ 2 ∧ d.engaged then ev { d with engaged := false, strFirst := false, armed := [], lastPC := none } 7 (if d.mode = 3 then 6 else d.cause) else d
  if d.mode = 3 then { d with segs := d.after, after := [], atStop := true } else { d with segs := d.after, after := [], mode := 0, cause := 0 }

/-- Starts what waits at the head of the queue (R213, 08 R259). -/
def startHead (m : Mach) (g : GroupRec) (d : Dyn) (th0 : Nat) : Dyn :=
  match d.segs with
  | s :: _ =>
    if s.t0.isSome ∨ d.mode ≠ 0 then d
    else if s.wait then
      match startDue m g d.c with
      | some t => let o := (d.c * cycLen m - t) * 2 ^ 32 / cycLen m
                  ev (beginSegs m g { d with theta := d.theta + o } d.theta) 10 0
      | none => d
    else if d.fh ∨ d.k = 0 then d
    else beginSegs m g d th0
  | [] => d

/-- A gear that has waited for the shared start engages at the entry in `d` (08 R245, R259): a sampled master is found for that entry, a
virtual one starts at rest along its ramp (R241). -/
def engageWaiting (m : Mach) (g : GroupRec) (d w : Dyn) : Dyn :=
  let x := w.master
  -- an entry of the window beyond the next: the master coasts up to the entry before it (R252)
  let x := if w.gsrc < 2 then (List.range (d.c - m.run.snap - 2)).foldl (fun x _ => coast x (cycLen m)) (predicted m (fillSamples m x)) else x
  let d := { d with engaged := true, gsrc := w.gsrc, master := x, laws := w.laws, strFirst := false, armed := [], lastPC := none, fall := false }
  let d := if w.gsrc = 2 then
      let d := { d with k := 0, d1 := 0, d2 := 0, ksNum := 0, ksDen := 1, ramp := none }
      stepK (setTarget m g d (kTarget m g d (kLim m g d)) false)
    else d
  ev d 10 0

/-- Marks the first and the last entry of the segment in progress. -/
def segMarks (m : Mach) (g : GroupRec) (d : Dyn) (s : Seg) (t0 : Nat) : Dyn :=
  let d := if s.c0.isNone then
      ev { d with segs := match d.segs with | x :: r => { x with c0 := some d.c } :: r | [] => [] } 1 s.sid
    else d
  if t0 + s.len ≤ d.theta then
    match d.segs with
    | _ :: y :: r => if y.wait then ev { d with segs := y :: r } 2 s.sid
                     else beginSegs m g (ev { d with segs := y :: r } 2 s.sid) (t0 + s.len)
    | _ => ev { d with segs := [] } 2 s.sid
  else d

/-- The entry after the entry in `d` (positions, speeds, pose), with what its commit reports. -/
def advCore (m : Mach) (g : GroupRec) (x : GrpSt) (d : Dyn) : Dyn :=
  let th0 := d.theta
  let d := { stepK d with c := d.c + 1, events := [], gev := [], flags := 0 }
  let d := { d with theta := d.theta + d.k.toNat * 4 }
  -- a gear that waits for the shared start engages at its entry
  let d := match x.gearWait, startDue m g d.c with
    | some w, some _ => if d.engaged || d.mode != 0 then d else engageWaiting m g d w
    | _, _ => d
  let d : Dyn := if d.mode = 4 ∨ d.mode = 5 ∨ d.atStop then
      let r := restEntry m g x d
      { r with src := if d.mode = 4 then 6 else 7 }
    else match d.halt with
    | some h => haltEntry m g d h
    | none =>
      match d.stream with
      | some r => streamEntry m g x d r
      | none =>
        if d.engaged then gearEntry m g d
        else
          let d := walkSegs m g 16 (startHead m g d th0)
          match headSeg d with
          | some s => let t0 := s.t0.getD 0; segMarks m g (segEntry m g d s t0) s t0
          | none => restEntry m g x d
  let d : Dyn := if (d.mode = 1 ∨ d.mode = 2 ∨ d.mode = 3) ∧ !d.atStop ∧ d.halt.isNone ∧ d.stream.isNone ∧ (d.k = 0 ∨ ((headSeg d).isNone ∧ !d.engaged))
    then { endStop d with src := 7 } else d
  let d := if d.fh ∧ d.k = 0 ∧ !d.fhSaid then ev { d with fhSaid := true } 4 2 else d
  if d.fh ∨ d.mode = 1 ∨ d.mode = 2 ∨ d.mode = 3 then { d with src := 7 } else d

/-- Joint rates of a list of speeds, and their changes per cycle as rates per second. -/
def jointRates (m : Mach) (g : GroupRec) (vel acc : List Int) : List (Nat × Fx) × List (Nat × Fx) :=
  let ax := unitAxes m g
  ((ax.zip vel).map (fun a => (a.1.axis, jointRate m a.1 a.2)),
   (ax.zip acc).map (fun a => (a.1.axis, roundDiv (jointRate m a.1 a.2 * 800000000) (cycLen m))))

/-- The whole entry after the entry in `d`: ACC_FF, the pose of Cartesian groups that move joint by joint, and FLAGS (R206, R207). AT_REST
says here that no segment is in progress; an axis that moves loses it (`axisFlags`). -/
def adv (m : Mach) (g : GroupRec) (x : GrpSt) (d : Dyn) : Dyn :=
  let e := advCore m g x d
  let byTime := e.src == 4 || (e.engaged && e.halt.isNone && e.mode != 4 && e.mode != 5 && !e.atStop)
  let acc := if byTime then e.acc else vsub (advCore m g x e).vel e.vel
  let joint := isCart g && (e.src == 1 || e.src == 3 || e.halt.isSome || (e.src == 7 && (headSeg e).any (fun s => !isPath s)))
  let e := { e with acc := acc }
  let e := if joint then
      let r := jointRates m g e.vel acc
      let p := poseOf m g (((unitAxes m g).map (·.axis)).zip e.pos) r.1 r.2
      { e with pose := p.1, twist := p.2 }
    else e
  let still := (headSeg e).isNone
  let slow := decide (x.limNum < x.limDen) && e.k < 2 ^ 30 && !e.fh && e.mode == 0 && !unscaled e
    && decide (x.limNum * 2 ^ 30 ≤ getF m RUN_GRP_OVR_OVR g.group * x.limDen)
  let fl := (if slow then fLIMITED else 0) ||| (if getF m RUN_GRP_OVR_OVR g.group < 2 ^ 30 then fOVERRIDDEN else 0)
    ||| (if e.fh then fFEED else 0) ||| (if still then fREST else 0)
  { e with flags := e.flags ||| fl }

end Sys2Proof.Machine
end

