-- ==== Sys2Proof/Machine/Runner.lean ====
section
/-! DEFINITION. The motion jobs of the Runner (07 R201 to R234, 08 R243 to R258): their checks, and what they ask of the next
snapshot. -/

namespace Sys2Proof.Machine

/-! ## Registers of a group (07 R236, 08 R266) -/

/-- The group state (R236): 0 idle, 1 moving, 2 stopping, 3 feed-held, 4 HOLD, 5 RAMP, 6 streaming, 7 geared. -/
def groupState (d : Dyn) : Nat :=
  if d.mode = 3 ∨ d.mode = 5 then 5 else if d.mode = 4 then 4
  else if d.mode = 1 ∨ d.mode = 2 ∨ d.halt.isSome then 2
  else if d.stream.isSome then 6
  else if d.fh then 3
  else if d.engaged then 7 else if (headSeg d).isSome then 1 else 0

/-- Shows the plan of a unit in the registers of its groups. STATUS.ACTIVE counts a group with a bound stream or an engaged gear at speed 0,
and QUEUE.USED the descriptors of a job from the snapshot that takes it in: DESIGN CHOICE (entry 137), R236 says neither. -/
def showGrp (m : Mach) (u : GroupRec) : Mach :=
  let x := grp m u.group
  let d := x.com
  let used := (d.segs ++ d.after).foldl (fun n s => n + s.ix.length) 0
  let m := (members m u).foldl (fun m g =>
    let m := setF (setF m RUN_GRP_STAT_STATE g.group (groupState d)) RUN_GRP_STAT_RB g.group x.rb
    let m := setB (setB (setB m RUN_GRP_STAT_FEED_HOLD g.group d.fh) RUN_GRP_STAT_LIMITED g.group (decide (x.limNum < x.limDen)))
      RUN_GRP_STAT_COUPLED g.group (g.set != 0xFF)
    let m := setF (setF m RUN_GRP_STAT_DEPTH_NOW g.group x.depth) RUN_GRP_K_K g.group d.k.toNat
    let m := setF (setF m RUN_GRP_FRONT_FRONT g.group (x.front.c % 2 ^ 32)) RUN_GRP_QUEUE_USED g.group (if g.group = u.group then used else 0)
    let m := setF m RUN_GRP_QUEUE_SEG_CUR g.group (((headSeg d).map (·.sid)).getD 0)
    let m := setF (setB m RUN_GRP_STREAM_BOUND g.group d.stream.isSome) RUN_GRP_STREAM_RING g.group (d.stream.getD 0)
    setF m RUN_GRP_STREAM_UNDERRUN_RUN g.group d.urun) m
  let m := if u.kind ≠ 2 then m else
    let m := setF (setB m RUN_GEAR_STAT_ENGAGED u.group d.engaged) RUN_GEAR_STAT_ARMED u.group d.armed.length
    let m := setB (setB m RUN_GEAR_STAT_RAMPING u.group (d.engaged && d.strFirst && d.laws.any (fun l => lawRamping l d.master.mp))) RUN_GEAR_STAT_DIR u.group d.fall
    setF (setF m RUN_GEAR_CFG_SRC u.group d.gsrc) RUN_GEAR_STAT_MLOSS_RUN u.group (min 15 d.master.miss)
  let xs := (planUnits m).flatMap (fun v => (members m v).map (fun _ => grp m v.group))
  let m := setF m RUN_STATUS_ACTIVE 0 (xs.filter (fun y => !(atRest y.com && !y.com.engaged && y.com.stream.isNone))).length
  setB (setB m RUN_STATUS_PENDING 0 (xs.any (fun y => y.rb == 1))) RUN_STATUS_REFILL 0 (xs.any (fun y => decide (2 ≤ y.rb)))

/-- Latches an invalidation with its cause bit (R226, R228); a refill in progress goes on (`fill`). -/
def latchCause (m : Mach) (u : GroupRec) (c : Nat) : Mach :=
  let x := grp m u.group
  showGrp (setGrp m u.group { x with pend := x.pend ||| 2 ^ c, rb := 1 }) u

/-- The unit of a group. -/
def unitOf (m : Mach) (g : GroupRec) : GroupRec := (groupRec m (leadOf m g)).getD g

/-- Adds what a job asks of the next snapshot. -/
def addAct (m : Mach) (a : Act) : Mach := { m with run := { m.run with acts := m.run.acts ++ [a] } }

/-- A motion job that passed its checks (R204). -/
def accepted (m : Mach) : JobRes := { m := m, result := effectCycle m % 2 ^ 32, effect := some (effectCycle m) }

/-- Segments that wait for the next snapshot. -/
def actSegs (m : Mach) (g : Nat) : List Seg := (m.run.acts.filter (fun a => a.kind == 1 && a.grp == g)).flatMap (·.segs)

/-- The queue of a unit with what waits for the next snapshot; a REPLACE or a stop leaves what follows it. -/
def queueView (m : Mach) (g : Nat) : List Seg :=
  let d := (grp m g).com
  (if d.mode = 1 ∨ d.mode = 2 ∨ (d.mode = 3 ∧ !d.atStop) then d.after else d.segs) ++ actSegs m g

/-- Descriptors of a unit's segment area, and those that are free (R209). -/
def freeDescs (m : Mach) (u : GroupRec) : List Nat :=
  let d := (grp m u.group).com
  let used := (d.segs ++ d.after ++ actSegs m u.group).flatMap (·.ix)
  (List.range (if isCart u then 192 else 256)).filter (fun i => !used.contains i)

/-- Whether a group is bound to a stream or in the stop that follows its unbinding (R220). -/
def streamBusy (m : Mach) (u : GroupRec) : Bool :=
  let d := (grp m u.group).com
  d.stream.isSome || (d.halt.isSome && u.kind != 2) || m.run.acts.any (fun a => a.kind == 6 && a.grp == u.group)

/-- Joint positions of the committed plan, 0 for axes that it does not hold yet. -/
def comPos (m : Mach) (u : GroupRec) : List Int := padI (unitAxes m u).length (grp m u.group).com.pos

/-! ## MOVE jobs (R203) -/

/-- A job that a group turns away in its state: the DETAIL of the code is the group state (R235). -/
def groupBusy (m : Mach) (g : GroupRec) : JobRes := jobDetail m E_RUN_GROUP_BUSY (groupState (grp m (leadOf m g)).com)

/-- The group of a job's PARAM0, not of a coupled set but for the listed case (R202 names no gear job), and of the kinds that take it.
A refused job shows the DETAIL of its code (R235, entry 88). -/
def moveGroup (m : Mach) (j : Job) (kinds : List Nat) (path : Bool) : JobRes ⊕ GroupRec :=
  match groupRec m (j.desc.par 0) with
  | none => .inl (jobFail m E_HIF_BAD_PARAM 0)
  | some g =>
    if g.set ≠ 0xFF ∧ kinds ≠ [2] ∧ !(path && leadOf m g == g.group) then .inl (jobDetail m E_RUN_COUPLED (leadOf m g))
    else if !kinds.contains g.kind then .inl (jobDetail m E_RUN_BAD_KIND g.kind)
    else .inr g

/-- Whether PARAM1 of a MOVE job is valid (R203). -/
def moveMode (d : Desc) : Bool := decide (d.par 1 % 4 < 2) && decide (bits (d.par 1) 3 13 = 0)

/-- Gives segments their descriptors, each `n` of them, from the free ones. -/
def giveDescs (n : Nat → Nat) : List Nat → List Seg → List Seg
  | _, [] => []
  | f, s :: r => { s with ix := f.take (n s.item) } :: giveDescs n (f.drop (n s.item)) r

/-- Whether a MOVE job asks for REPLACE. -/
def isReplace (d : Desc) : Bool := decide (d.par 1 % 4 = 1)

/-- End speeds and blends at the ends of segments. -/
def junctions (l : List Seg) : List (Int × Int) := l.map (fun s => (nthI s.spd 3, nthI s.geo 1))

/-- Whether a stop of a unit has not ended, so that what is appended waits for its end. -/
def stopping (d : Dyn) : Bool := d.mode == 1 || d.mode == 2 || (d.mode == 3 && !d.atStop)

/-- Whether segments appended to a unit in motion invalidate its plan (R226): the first of them does not begin beyond the frontier, or a
junction before it changes. -/
def appendBreaks (m : Mach) (u : GroupRec) (l : List Seg) : Bool :=
  let x := grp m u.group
  let d := x.com
  let q := actSegs m u.group
  let put (l : List Seg) : List Seg :=
    if stopping d then (replan m u { d with after := d.after ++ l }).after else (replan m u { d with segs := d.segs ++ l }).segs
  let was := junctions (put q)
  !(stopping x.front || (x.front.segs ++ q != [] && (junctions (put (q ++ l))).take was.length == was))

/-- Enters a MOVE job's segments: its invalidation is latched where it is one (R226). -/
def enterMove (m : Mach) (u : GroupRec) (j : Job) (per : Nat → Nat) (segs : List Seg) : JobRes :=
  let free_ := freeDescs m u
  let need := segs.foldl (fun n s => n + per s.item) 0
  if free_.length < need then jobDetail m E_RUN_QUEUE_FULL free_.length
  else
    let w := (j.desc.par 1).testBit 2
    let n := segs.length
    let l := (segs.zipIdx).map (fun s => { s.1 with sid := j.desc.par 1 / 65536, first := s.2 == 0, last := s.2 + 1 == n, wait := w && s.2 == 0 })
    let l := giveDescs per free_ l
    let rep := isReplace j.desc
    let breaks := rep || (!atRest (grp m u.group).com && appendBreaks m u l)
    let m := addAct m { kind := 1, grp := u.group, data := [if rep then 1 else 0], segs := l }
    accepted (if breaks then latchCause m u 0 else m)

/-- Where the segments of a MOVE job will start, as joint positions: none while a stop must end first (R203, R216). -/
def moveStart (m : Mach) (u : GroupRec) (rep : Bool) : Option (List Int) :=
  let d := (grp m u.group).com
  let q := queueView m u.group
  if (rep && !atRest d) || (q == [] && !atRest d) then none else some (if rep then comPos m u else endPos (comPos m u) q)

/-- Targets of the axes of a group from the data of a job. -/
def targets (l : List Nat) (n o : Nat) : List Int := (List.range n).map (fun i => sgn 64 (field l (o + 8 * i) 8))

/-- MOVE_PTP (R213). -/
def movePtp (j : Job) (m : Mach) : JobRes :=
  match moveGroup m j [0, 1, 3] false with
  | .inl r => r
  | .inr g =>
    let n := (unitAxes m g).length
    let sc (i : Nat) : Nat := if j.desc.par i = 0 then 2 ^ 30 else j.desc.par i
    if !moveMode j.desc then jobFail m E_HIF_BAD_PARAM 1
    else if 2 ^ 30 < j.desc.par 2 then jobFail m E_HIF_BAD_PARAM 2
    else if 2 ^ 30 < j.desc.par 3 then jobFail m E_HIF_BAD_PARAM 3
    else if j.desc.dataLen ≠ 8 * n then jobDetail m E_RUN_BAD_DATA (min (j.desc.dataLen / 8) n)
    else if streamBusy m g then groupBusy m g
    else
      let s : Seg := { typ := 0, target := targets j.data n 0, vs := sc 2, acs := sc 3 }
      enterMove m g j (fun _ => (n + 11) / 12) [planPtp m g ((moveStart m g (isReplace j.desc)).getD (comPos m g)) s]

/-- MOVE_PTP. -/
def execMovePtp (j : Job) (s : State) : Out := done (runJob 0x0601 movePtp j) s

/-- The pose at which a stop in progress ends, by the plan as it stands. -/
def stopPose (m : Mach) (u : GroupRec) (x : GrpSt) : Nat → Dyn → List Fx
  | 0, d => d.pose
  | n + 1, d => if atRest d && !stopping d then d.pose else stopPose m u x n (advCore m u x d)

/-- The first item of a path job that breaks a rule (R215, R216). A path appended behind a stop in progress with an empty queue starts
where the stop is planned to end; a job with REPLACE begins with a LINE. -/
def pathFault (m : Mach) (u : GroupRec) (rep : Bool) (its : List (List Nat)) : Option Nat :=
  let q := queueView m u.group
  let x := grp m u.group
  let d := x.com
  let start : Option (List Fx) := if rep then none
    else some (if q == [] && !atRest d then stopPose m u x 131072 d else endPose m u d.pose q)
  let r := its.zipIdx.foldl (fun (a : Option Nat × Option (List Fx)) x =>
    match a.1 with
    | some _ => a
    | none =>
      let bad := itemBad rep x.2 x.1 || a.2.any (fun p => arcFlat (p.take 3) x.1)
      (if bad then some x.2 else none, some ((s32s x.1 4 3).map (ofFmt 23)))) (none, start)
  r.1

/-- MOVE_PATH (R215). -/
def movePath (j : Job) (m : Mach) : JobRes :=
  match moveGroup m j [1] true with
  | .inl r => r
  | .inr g =>
    let n := j.desc.dataLen / 64
    let its := records j.data 0 64 n
    let rep := isReplace j.desc
    if !moveMode j.desc then jobFail m E_HIF_BAD_PARAM 1
    else if j.desc.par 2 ≠ 0 then jobFail m E_HIF_BAD_PARAM 2
    else if j.desc.dataLen % 64 ≠ 0 ∨ n = 0 then jobDetail m E_RUN_BAD_DATA n
    else match pathFault m g rep its with
      | some i => jobDetail m E_RUN_BAD_DATA i
      | none =>
        if streamBusy m g then groupBusy m g
        else
          let l := its.zipIdx.map (fun x => ({ typ := field x.1 0 1, item := x.2, raw := x.1 } : Seg))
          enterMove m g j (fun _ => 1) l

/-- MOVE_PATH. -/
def execMovePath (j : Job) (s : State) : Out := done (runJob 0x0602 movePath j) s

/-- MOVE_SPLINE (R219). -/
def moveSpline (j : Job) (m : Mach) : JobRes :=
  match moveGroup m j [0, 1, 3] false with
  | .inl r => r
  | .inr g =>
    let n := (unitAxes m g).length
    if !moveMode j.desc then jobFail m E_HIF_BAD_PARAM 1
    else if j.desc.par 2 = 0 ∨ 65536 ≤ j.desc.par 2 then jobFail m E_HIF_BAD_PARAM 2
    else if n = 0 ∨ j.desc.dataLen % (8 * n) ≠ 0 ∨ j.desc.dataLen = 0 then jobDetail m E_RUN_BAD_DATA (j.desc.dataLen / (8 * max n 1))
    else if streamBusy m g then groupBusy m g
    else
      let k := j.desc.dataLen / (8 * n)
      let pts := (List.range k).map (fun i => targets j.data n (8 * n * i))
      let start := moveStart m g (isReplace j.desc)
      let r := planSpline m g (start.getD (comPos m g)) (j.desc.par 2) pts { typ := 3, vs := j.desc.par 2 }
      let res := enterMove m g j (fun _ => k * ((n + 11) / 12)) [if start.isSome then r.1 else { r.1 with start := [] }]
      match start.bind (fun _ => r.2) with
      | some t => if res.status = 0 then { res with m := report res.m E_RUN_SPLINE_STRETCHED 7 2 g.group t } else res
      | none => res

/-- MOVE_SPLINE. -/
def execMoveSpline (j : Job) (s : State) : Out := done (runJob 0x0603 moveSpline j) s

/-- STREAM_BIND (R220). -/
def streamBind (j : Job) (m : Mach) : JobRes :=
  match moveGroup m j [0, 3] false with
  | .inl r => r
  | .inr g =>
    let r := j.desc.par 1
    if 32 ≤ r ∨ getF m HIF_STR_CTRL_STATE r ≠ 1 ∨ onF m HIF_STR_CFG_DIR r ∨ getF m HIF_STR_AUX_GROUP r ≠ g.group then jobFail m E_HIF_BAD_PARAM 1
    else if streamBusy m g ∨ !atRest (grp m g.group).com ∨ queueView m g.group ≠ [] then groupBusy m g
    else accepted (addAct m { kind := 6, grp := g.group, data := [r] })

/-- STREAM_BIND. -/
def execStreamBind (j : Job) (s : State) : Out := done (runJob 0x0604 streamBind j) s

/-! ## Feed hold, override and stop (R232 to R234) -/

/-- The units of a group mask: none where a bit names no group. -/
def maskUnits (m : Mach) (mask : Nat) : Option (List GroupRec) :=
  let gs := (bitsOf 32 mask).map (groupRec m)
  if gs.all (·.isSome) then some (((gs.filterMap (fun g => g)).map (unitOf m)).dedup) else none

/-- Whether a geared group follows a master that is not virtual, or none (08 R254). -/
def notVirtual (m : Mach) (u : GroupRec) : Bool := u.kind == 2 && (let d := (grp m u.group).com; !(d.engaged && d.gsrc == 2))

/-- FEED_HOLD (R232). -/
def feedHold (j : Job) (m : Mach) : JobRes :=
  match maskUnits m (j.desc.par 0) with
  | none => jobFail m E_HIF_BAD_PARAM 0
  | some us => accepted (us.foldl (fun m u =>
      let m := addAct m { kind := 2, grp := u.group }
      if (grp m u.group).com.fh then m else latchCause m u 2) m)

/-- FEED_HOLD. -/
def execFeedHold (j : Job) (s : State) : Out := done (runJob 0x0605 feedHold j) s

/-- RESUME (R225, R232, 08 R254). -/
def resumeGroups (j : Job) (m : Mach) : JobRes :=
  match maskUnits m (j.desc.par 0) with
  | none => jobFail m E_HIF_BAD_PARAM 0
  | some us =>
    let md (u : GroupRec) : Nat := (grp m u.group).com.mode
    if us.any (fun u => md u == 3 || md u == 5) then jobFail m E_RUN_RAMP_ACTIVE
    else if us.any (notVirtual m) then jobFail m E_RUN_GEAR_NOT_ENGAGED
    else accepted (us.foldl (fun m u =>
      let m := addAct m { kind := 3, grp := u.group }
      if (grp m u.group).com.fh || (grp m u.group).com.mode == 4 then latchCause m u 2 else m) m)

/-- RESUME. -/
def execResumeJob (j : Job) (s : State) : Out := done (runJob 0x0606 resumeGroups j) s

/-- A change of OVR on a unit: every group of it takes the value (R202, R226). -/
def setOvr (m : Mach) (u : GroupRec) (v : Nat) : Mach :=
  let was := getF m RUN_GRP_OVR_OVR u.group
  let m := (members m u).foldl (fun m g => setF m RUN_GRP_OVR_OVR g.group v) m
  if was = v then m else latchCause m u 3

/-- OVERRIDE (R233, 08 R254). -/
def overrideGroup (j : Job) (m : Mach) : JobRes :=
  match groupRec m (j.desc.par 0) with
  | none => jobFail m E_HIF_BAD_PARAM 0
  | some g =>
    let u := unitOf m g
    let d := (grp m u.group).com
    if 2 ^ 30 < j.desc.par 1 then jobFail m E_HIF_BAD_PARAM 1
    else if d.engaged && d.gsrc != 2 then jobDetail m E_RUN_BAD_KIND u.kind
    else accepted (setOvr m u (j.desc.par 1))

/-- OVERRIDE. -/
def execOverrideJob (j : Job) (s : State) : Out := done (runJob 0x0607 overrideGroup j) s

/-- STOP (R234, 08 R255): a waiting group leaves the arming. -/
def stopGroups (j : Job) (m : Mach) : JobRes :=
  match maskUnits m (j.desc.par 0) with
  | none => jobFail m E_HIF_BAD_PARAM 0
  | some us => accepted (us.foldl (fun m u =>
      let m := addAct m { kind := 5, grp := u.group }
      let m := { m with run := { m.run with start := { m.run.start with groups := m.run.start.groups.filter (· != u.group) } } }
      latchCause m u 0) m)

/-- STOP. -/
def execStopJob (j : Job) (s : State) : Out := done (runJob 0x0608 stopGroups j) s

/-! ## Gearing (08 R243 to R249) -/

/-- NUM and DEN of `n` axes. -/
def ratios (l : List Nat) (n o : Nat) : List (Int × Nat) := (List.range n).map (fun i => (s32 l (o + 8 * i), field l (o + 8 * i + 4) 4))

/-- Whether a source is permitted here (R237). -/
def gearSource (m : Mach) (src node port : Nat) : Bool :=
  match src with
  | 0 => m.mould.config != 3 && (!isManager m || domOn m dAXIS) && node == nodeId m && gearPort m node port
  | 1 => isManager m && decide (2 ≤ m.mould.config) && node != nodeId m && gearPort m node port
  | 2 => true
  | 3 => domState m (selDom m) == 3
  | _ => false

/-- REQ of an encoder port of a node. -/
def portReq (m : Mach) (node port : Nat) : Nat :=
  if node = nodeId m then getF m ENC_REQ_REQ port
  else ((m.mould.owners.find? (fun o => o.kind == 5 && o.inst == port && o.node == node)).map (fun o => nth o.setup 4 % 2 ^ 20)).getD 400

/-- PTP time of the entry of the cycle of effect, in 2^-16 ns. -/
def effectPtp (m : Mach) (g : GroupRec) : Int := ptpAt m (entryInstant m (getS m RUN_GEAR_CFG_LEAD g.group) (effectCycle m)).toNat

/-- A job that completes at the next snapshot or later. -/
def laterJob (m : Mach) (a : Act) (j : Job) : JobRes :=
  { m := addAct m { a with job := some (jcompl j 0 0 none) }, later := true }

/-- The item index of bad gear data: the first entry with DEN = 0 that the rule forbids, else the number of whole entries that the data
holds where its length is wrong, else 0 (R235). -/
def badRatio (bad : Int × Nat → Bool) (l : List Nat) (len o n : Nat) : Nat :=
  ((ratios l (min n ((len - o) / 8)) o).findIdx? bad).getD (if len = o + 8 * n then 0 else (len - o) / 8)

/-- Whether the header of a GEAR_SET is well formed (R243, R244). -/
def gearHeaderOk (l : List Nat) (len n : Nat) : Bool :=
  let fl := field l 1 1
  let only := fl.testBit 3
  let src := field l 0 1
  len == (if only then 64 else 64 + 8 * n) && (fl &&& 0xF2) == 0 && (only || (ratios l n 64).all (fun r => r.2 != 0))
    && field l 12 8 == 0 && field l 20 4 == 0 && field l 56 8 == 0 && decide (field l 10 1 < 3) && decide (field l 11 1 < 9)
    && (if fl.testBit 0 then field l 4 4 != 0 else field l 4 4 == 0) && (decide (src < 2) || field l 2 2 == 0)

/-- GEAR_SET (R244). -/
def gearSet (j : Job) (m : Mach) : JobRes :=
  match moveGroup m j [2] false with
  | .inl r => r
  | .inr g =>
    let n := (unitAxes m g).length
    let l := j.data
    let fl := field l 1 1
    let src := field l 0 1
    let d := (grp m g.group).com
    let v := sgn 64 (field l 24 8)
    let t0 := field l 32 8
    if !gearHeaderOk l j.desc.dataLen n then jobDetail m E_RUN_BAD_DATA (if fl.testBit 3 then 0 else badRatio (fun r => r.2 == 0) l j.desc.dataLen 64 n)
    else if !gearSource m src (field l 2 1) (field l 3 1) then jobDetail m E_RUN_GEAR_SOURCE src
    else if fl.testBit 3 then
      if !(d.engaged && decide (2 ≤ d.gsrc)) then jobFail m E_RUN_GEAR_NOT_ENGAGED
      else if d.gsrc = 3 ∧ (t0 : Int) * 65536 < effectPtp m g then jobDetail m E_RUN_GEAR_PASSED (t0 % 2 ^ 32)
      else accepted (latchCause (addAct m { kind := 7, grp := g.group, data := [1, v, t0, field l 48 8] }) g 5)
    else if d.engaged ∨ !atRest d then groupBusy m g
    else
      let ms : Master := { node := field l 2 1, port := field l 3 1, p0 := sgn 64 (field l 40 8) * 2 ^ 32, v := v,
                           t0 := if src = 3 then t0 else 0,
                           va := if src < 2 then portReq m (field l 2 1) (field l 3 1) else v }
      let w := field l 4 4
      let laws := (ratios l n 64).map (fun r =>
        if fl.testBit 0 then ({ no := 0, dO := 1, nn := r.1, dn := r.2, w := w } : Law) else { no := r.1, dO := r.2, nn := r.1, dn := r.2, w := 0 })
      let w : Dyn := { engaged := true, gsrc := src, master := ms, laws := laws }
      let m := setF (setF (setF m RUN_GEAR_CFG_PRED g.group (field l 10 1)) RUN_GEAR_CFG_MLOSS_MAX g.group (field l 11 1))
        RUN_GEAR_CFG_LEAD g.group (field l 8 2)
      let a : Act := { kind := 7, grp := g.group, data := [0, b2n (fl.testBit 0), b2n (fl.testBit 2)], gear := some w }
      laterJob (latchCause m g 5) a j

/-- GEAR_SET. -/
def execGearSet (j : Job) (s : State) : Out := done (runJob 0x0609 gearSet j) s

/-- GEAR_CHANGE_AT (R248): checked at the snapshot that takes it in (R249). -/
def gearChangeAt (j : Job) (m : Mach) : JobRes :=
  match moveGroup m j [2] false with
  | .inl r => r
  | .inr g =>
    let n := (unitAxes m g).length
    let l := j.data
    let rs := ratios l n 32
    let w := field l 12 4
    if j.desc.dataLen ≠ 32 + 8 * n ∨ rs.any (fun r => r.2 == 0 && r.1 != 0) ∨ 1 < field l 8 1 ∨ 1 < field l 9 1 ∨ field l 10 2 ≠ 0
        ∨ field l 20 8 ≠ 0 ∨ field l 28 4 ≠ 0 ∨ (if field l 9 1 = 1 then w = 0 else w ≠ 0) then
      jobDetail m E_RUN_BAD_DATA (badRatio (fun r => r.2 == 0 && r.1 != 0) l j.desc.dataLen 32 n)
    else
      let c : Change := { pc := sgn 64 (field l 0 8), fall := field l 8 1 == 1, w := w, tag := field l 16 4 % 65536, ratios := rs }
      laterJob (latchCause m g 5) { kind := 8, grp := g.group, change := some c } j

/-- GEAR_CHANGE_AT. -/
def execGearChangeAt (j : Job) (s : State) : Out := done (runJob 0x060A gearChangeAt j) s

/-! ## Shared start (08 R255 to R258) -/

/-- Whether a node is of a small configuration: it has no network (R256). -/
def smallCfg (m : Mach) : Bool := decide (m.mould.config < 2)

/-- DELAY in force (R258). -/
def startDelay (m : Mach) : Nat := if getF m RUN_START_DELAY_DELAY = 0 then 2 * cycLen m else getF m RUN_START_DELAY_DELAY

/-- Whether a group waits for the start (R255). -/
def groupWaits (m : Mach) (g : Nat) : Bool :=
  let x := grp m g
  atRest x.com && (x.gearWait.isSome || m.run.acts.any (fun a => a.kind == 7 && a.grp == g && nthI a.data 2 == 1) || (match x.com.segs ++ actSegs m g with | s :: _ => s.wait | [] => false))

/-- Sets the start instant: not before the first entry planned after it is known (R256). -/
def setStart (m : Mach) (t : Int) : Mach :=
  let e := effectCycle m * cycLen m
  let ts := max t.toNat e
  { m with run := { m.run with start := { m.run.start with ts := some ts, moved := decide (t < e), atSnap := false } } }

/-- A line is released when every masked group waits (R257). -/
def startReady (m : Mach) : Mach :=
  if getF m RUN_START_STAT_STATE = 1 ∧ m.run.start.groups ≠ [] ∧ m.run.start.groups.all (groupWaits m) then setF m RUN_START_STAT_STATE 0 2 else m

/-- The line that a start owns is released, whatever RUN_START_CFG names by now (04 R148). -/
def releaseStart (m : Mach) : Mach :=
  let m := releaseAll m 3 2
  { m with run := { m.run with start := { m.run.start with line := false } } }

/-- Completes the GEAR_SET whose gear waits for the start (08 R244). -/
def endGearJob (m : Mach) (g status : Nat) (effect : Option Nat) : Mach :=
  let x := grp m g
  match x.gearJob with
  | none => m
  | some c => settleDeletes (addCompl (setGrp m g { x with gearJob := none })
      { (if status = 0 then c else failCompl c status 0) with result := (effect.map (· % 2 ^ 32)).getD noParam, effect := effect })

/-- Arms groups: a gear that waits is armed with its group. -/
def armGroups (m : Mach) (st : StartSt) : Mach :=
  st.groups.foldl (fun m g => endGearJob m g E_OK (some (effectCycle m))) { m with run := { m.run with start := st } }

/-- SHARED_START (R255, R256). A start without a line arms those masked groups that wait; with a line it arms the mask, since the line is
held until every group of it waits (R257, entry 114). -/
def sharedStart (j : Job) (m : Mach) : JobRes :=
  let mask := j.desc.par 0
  match maskUnits m mask with
  | none => jobFail m E_HIF_BAD_PARAM 0
  | some us =>
    let m := releaseStart m
    if mask = 0 then accepted { setF m RUN_START_STAT_STATE 0 0 with run := { m.run with start := {} } }
    else
      let all := us.map (·.group)
      let st : StartSt := { groups := all.filter (groupWaits m), armTick := m.cyc.now, lowSince := some m.cyc.now }
      let m := setF m RUN_START_STAT_STATE 0 1
      let m :=
        if j.desc.par 1 ≠ 0 ∨ j.desc.par 2 ≠ 0 then setStart (armGroups m st) ((j.desc.par 1 + j.desc.par 2 * 2 ^ 32 : Nat))
        else if !smallCfg m then armGroups m { st with atSnap := true }
        else match firstBusy m [(2, getF m RUN_START_CFG_LINE)] with
          | none => armGroups (claim m 3 [(2, getF m RUN_START_CFG_LINE)]) { st with groups := all, line := true }
          | some b => setStart (notice (flag (armGroups m st) RUN_START_STAT_FALLBACK) E_SYS_RESOURCE_FALLBACK b) ((m.cyc.now + startDelay m : Nat))
      accepted (startReady m)

/-- SHARED_START. -/
def execSharedStart (j : Job) (s : State) : Out := done (runJob 0x060B sharedStart j) s

/-- TRIGGER_BUS_EDGE: trigger bus line `l` crosses its threshold at tick `t`; `falling` gives the direction, `own` that the Tap of
this chip drives the edge (R257, 20 R581). -/
def busEdge (l : Nat) (falling : Bool) (t : Nat) (own : Bool) (m : Mach) : Mach :=
  if 2 ≤ l then m
  else
    let m := at' m t
    let mine := m.run.start.line && ownerOf m 2 l == some 3
    let m := if getF m RUN_START_CFG_LINE = l then setB m RUN_START_STAT_LEVEL 0 (!falling) else m
    let s := m.run.start
    let m := if !mine then m
      else if falling then { m with run := { m.run with start := { s with lowSince := some (s.lowSince.getD t) } } }
      else
        let held := s.lowSince.any (fun w => decide (s.armTick ≤ w ∧ getF m RUN_START_CFG_ARM_MIN * 800 ≤ t - s.armTick))
        let m1 := { m with run := { m.run with start := { s with lowSince := none } } }
        if getF m RUN_START_STAT_STATE = 2 ∧ s.ts.isNone ∧ held ∧ s.lowSince = some s.armTick then
          setStart m1 ((t + startDelay m : Nat) - (getF m RUN_START_COMP_COMP : Int))
        else m1
    if falling && !own && (getF m TAP_BUS_CFG_OWN).testBit l && ownerOf m 2 l == some 8 then
      tapEvent m (10 + l) (t - getF m TAP_BUS_CFG_COMP)
    else m

/-- TRIGGER_BUS_EDGE. -/
def execTriggerBusEdge (l : Nat) (falling : Bool) (t : Nat) (own : Bool) (s : State) : Out := done (busEdge l falling t own) s

end Sys2Proof.Machine
end

