-- ==== Sys2Proof/Machine/RunCycle.lean ====
section
/-! DEFINITION. The Runner's part of a cell cycle: the snapshot (02 R63, 07 R226 to R229, 08 R238 to R254), the steps TARGETS, PREP and
COMMIT (07 R223 to R225), the refill of a window. -/

namespace Sys2Proof.Machine

/-! ## What the snapshot reads of an axis -/

/-- The AXIS_STATE slot of a worker that this node stores. -/
def stateSlot (m : Mach) (node : Nat) : Option Nat := ((slotsNow m).find? (fun e => e.kind == 0 && e.owner == node && storesSlot m e)).map slotHandle

/-- The latest axis state record of an axis: of its own slot here, else from the view of its worker's slot (09 R285, 12 R360). -/
def stateRecord (m : Mach) (a : AxisRec) : Option (List Nat) :=
  if a.node = nodeId m then some (axisRecord m a).1
  else
    match stateSlot m a.node with
    | none => none
    | some h =>
      let i := (nodeAxes m a.node).findIdx (fun b => b.axis == a.axis)
      (viewPayload m h (32 * (i + 1))).map (fun p => (p.1.drop (32 * i)).take 32)

/-- STATUS of an axis state record. -/
def recStatus (l : List Nat) : Nat := field l 24 4

/-- The sample of a master port in this cycle: position and whether it counts as PRED 0; none where it is missing (08 R238, R239). -/
def masterSample (m : Mach) (node port : Nat) : Option (Int × Bool) :=
  let r : Option (List Nat) :=
    if node = nodeId m then some (masterRecord m port)
    else match stateSlot m node with
      | none => none
      | some h =>
        let o := 32 * ((nodeAxes m node).length + (gearPorts m node).findIdx (· == port))
        match viewPayload m h (o + 32) with
        | some (l, 0) => some (l.drop o)
        | _ => none
  match r with
  | some l =>
    let f := field l 17 1
    if f.testBit 0 && !f.testBit 3 then some (sgn 64 (field l 0 8), f.testBit 1 || f.testBit 2) else none
  | none => none

/-- Takes the samples of every gear master port; a standby takes those that the active manager has used (08 R253). -/
def takeSamples (m : Mach) : Mach :=
  if followsPartner m && m.duo.limits.isSome then { m with run := { m.run with mports := m.duo.samples } } else
  let ports := (m.mould.owners.filter (fun o => o.kind == 5 && o.func == 9)).map (fun o => (o.node, o.inst))
  ports.foldl (fun m p =>
    match masterSample m p.1 p.2 with
    | some x =>
      let k := p.1 * 16 + p.2
      let l := ((m.cyc.n, x.1, x.2) :: (sget m.run.mports k []).filter (fun y => y.1 != m.cyc.n)).take 3
      { m with run := { m.run with mports := sput m.run.mports k l [] } }
    | none => m) m

/-- Requests the HOLD and RAMP reactions of faults that an axis state record of another node shows (09 R290, 08 R263). -/
def recordFaults (m : Mach) (a : AxisRec) (st : Nat) : Mach :=
  let one (m : Mach) (b code dflt : Nat) : Mach :=
    let cls := reacClass m code a.axis dflt
    if st.testBit b ∧ 0 < cls then
      { m with reacts := m.reacts ++ (reactScope m code a.axis 3 a.axis).map (fun x => { cls := cls, kind := x.1, id := x.2, late := cls == 1 }) }
    else m
  let m := one (one (one m 10 E_AXL_FOLLOWING 2) 11 E_AXL_OVERSPEED 3) 12 E_AXL_FEEDBACK 3
  let old := sget m.run.limit a.axis 0
  if st / 32 % 4 = 3 ∧ old ≠ 3 then report m E_RUN_LIMIT_BOTH (reacClass m E_RUN_LIMIT_BOTH a.axis 1) 2 a.group a.slot a.axis else m

/-! ## Reactions (00 R22, R23, 07 R225) -/

/-- The groups that a requested reaction acts on: of an axis, its group, but for a CUT, which the engine executes. -/
def reactGroups (m : Mach) (r : React) : List Nat :=
  match r.kind with
  | 2 => [r.id]
  | 3 => if r.cls = 3 then [] else ((axisRec m r.id).map (fun a => [a.group])).getD []
  | _ => m.mould.groups.map (·.group)

/-- The highest class requested for a unit, late requests left out. -/
def reactFor (m : Mach) (u : GroupRec) : Nat :=
  let gs := (members m u).map (·.group)
  m.reacts.foldl (fun c r => if !r.late && (reactGroups m r).any (fun g => gs.contains g) then max c r.cls else c) 0

/-- Whether a unit in that mode takes a HOLD. -/
def takesHold (mode : Nat) : Bool := mode != 3 && mode != 4 && mode != 5

/-! ## Stops -/

/-- Reports a disengaged gear. -/
def disengage (m : Mach) (u : GroupRec) (d : Dyn) (cause : Nat) : Mach × Dyn :=
  (report m E_RUN_GEAR_DISENGAGED 7 2 u.group cause, { d with engaged := false, strFirst := false, armed := [], lastPC := none })

/-- Unbinds a stream; its ring is no longer consumed (R220). -/
def unbind (m : Mach) (d : Dyn) : Mach × Dyn :=
  match d.stream with
  | some r => ({ m with run := { m.run with unbound := insNat r m.run.unbound } }, { d with stream := none, strFirst := false, urun := 0 })
  | none => (m, d)

/-- Brings a streamed group, or one geared to a master that is not virtual, to rest in time (R221, 08 R254). -/
def timeStop (m : Mach) (u : GroupRec) (d : Dyn) (cause : Nat) : Mach × Dyn :=
  let d := beginHalt m u d
  if d.engaged then disengage m u d cause else unbind m d

/-- STOP of a unit, for a cause (R234, 08 R254): one held at rest by a reaction stops at once. -/
def haltUnit (m : Mach) (u : GroupRec) (d : Dyn) (cause : Nat) : Mach × Dyn :=
  let d := { d with after := [] }
  if d.mode = 3 ∧ !d.atStop then (m, d)
  else if d.mode = 3 ∨ d.mode = 4 ∨ d.mode = 5 then
    let m := report m E_RUN_STOPPED 7 2 u.group cause
    let d := { d with segs := [] }
    if d.engaged then disengage m u d cause else (m, d)
  else if unscaled d then
    let r := timeStop m u d cause
    (r.1, { r.2 with mode := 1, cause := cause })
  else (m, { d with mode := 1, cause := cause })

/-- RAMP of a unit (R225). -/
def rampUnit (m : Mach) (u : GroupRec) (d : Dyn) : Mach × Dyn :=
  if d.mode = 3 ∨ d.mode = 5 then (m, d)
  else
    let d' := { d with after := [] }
    if unscaled d' then
      let r := timeStop m u d' 6
      (r.1, { r.2 with mode := 3, atStop := false })
    else (m, { d' with mode := 3, atStop := false })

/-- The next path item will start from rest where the group stands: its geometry is laid anew (R225). -/
def forgetHead (d : Dyn) : Dyn :=
  { d with segs := match d.segs with | s :: r => (if isPath s then { s with geo := [], spd := [] } else s) :: r | [] => [] }

/-- The plan that a HOLD or a CUT leaves in place of the planned entry `d`, which is discarded with what it brings (R225): that of the
entry before, `old`. The shared start of the discarded entry has taken place: its segment starts from rest later, its gear is
engaged and has yet to move. -/
def discardEntry (old d : Dyn) : Dyn :=
  let started := d.events.any (fun e => e.1 == 10)
  let x := { old with c := d.c, flags := d.flags, events := d.events.filter (fun e => e.1 == 10), gev := [],
                      segs := match old.segs with | s :: r => (if started then { s with wait := false } else s) :: r | [] => [] }
  if old.engaged || !d.engaged then x
  else { x with engaged := true, gsrc := d.gsrc, master := { d.master with t0 := 0, mp := 0 }, laws := d.laws, armed := [], lastPC := none,
                fall := false, strFirst := false }

/-- Ends the segment in progress as aborted, with its last committed entry (R204, R225); one without an entry has not started. -/
def abortRunning (d : Dyn) : Dyn :=
  match runningSeg d with
  | some s => forgetHead (ev { d with segs := d.segs.drop 1 } 13 s.sid)
  | none => forgetHead { d with segs := match d.segs with | s :: r => { s with t0 := none } :: r | [] => [] }

/-- HOLD of a unit in the entry being committed (R225), `old` the entry before: the segment in progress is aborted, the queue stays. A HOLD
during a STOP ends the STOP, of which nothing more is reported: DESIGN CHOICE (entry 135), the spec does not say. -/
def holdUnit (m : Mach) (u : GroupRec) (old d : Dyn) : Mach × Dyn :=
  let d := abortRunning (discardEntry old d)
  let r := if d.engaged && d.gsrc != 2 then disengage m u d 6 else unbind m d
  (r.1, { r.2 with mode := 4, halt := none, k := 0, d1 := 0, d2 := 0, ksNum := 0, ksDen := 1, ramp := none,
                   segs := r.2.segs ++ (if d.mode = 1 ∨ d.mode = 2 then d.after else []), after := [] })

/-- CUT of a unit (R225). -/
def cutUnit (m : Mach) (u : GroupRec) (old d : Dyn) : Mach × Dyn :=
  let d := ev (abortRunning (discardEntry old d)) 4 6
  let r := if d.engaged then disengage m u d 6 else unbind m d
  (r.1, { r.2 with mode := 5, halt := none, k := 0, d1 := 0, d2 := 0, ksNum := 0, ksDen := 1, ramp := none, segs := [], after := [], fh := false })

/-! ## Causes latched between snapshots (R226) -/

/-- Latches the cause LIMIT for units whose k_lim has changed (R226). -/
def latchLimits (m : Mach) : Mach :=
  (planUnits m).foldl (fun m u =>
    let x := grp m u.group
    let l := kLim m u x.com
    if l.1 * x.limDen = x.limNum * l.2 then m else latchCause m u 1) m

/-- Latches the cause REACT for units for which a HOLD or a RAMP has been requested (R226, R228): done whenever the latched causes are looked
at. -/
def latchReacts (m : Mach) : Mach :=
  (planUnits m).foldl (fun m u =>
    let x := grp m u.group
    let c := reactFor m u
    if (c = 1 ∧ takesHold x.com.mode ∨ c = 2 ∧ x.com.mode ≠ 3 ∧ x.com.mode ≠ 5) ∧ !x.pend.testBit 6 then latchCause m u 6 else m) m

/-! ## Taking in what waits (R226) -/

/-- The ratio check of an engage without RAMP (08 R244): the group index of the first axis that would exceed AMAX. -/
def engageFault (m : Mach) (u : GroupRec) (d : Dyn) (vm : Int) : Option Nat :=
  ((unitAxes m u).zip d.laws).findIdx? (fun a => decide ((axLim m a.1.axis).amax < (lawVel { a.2 with no := a.2.nn, dO := a.2.dn, w := 0 } 0 vm a.1.shift).natAbs))

/-- Ends a job that was decided at the snapshot: with its cycle of effect, or with a status and the DETAIL of its code (R235, R265). -/
def endAct (m : Mach) (a : Act) (status : Nat) (value : Nat) : Mach :=
  match a.job with
  | none => m
  | some c => settleDeletes (addCompl m (if status = 0 then { c with status := 0, result := value % 2 ^ 32, effect := some value }
                                         else failCompl c status value))

/-- The status with which a ratio change is refused, with its DETAIL (08 R249, R265). The direction of the distance rule is the new
change's, also behind a latched change of the other one (entry 110). -/
def changeFault (d : Dyn) (c : Change) : Option (Nat × Nat) :=
  let s : Int := if c.fall then -1 else 1
  let prev : Option (Int × Nat) := match d.armed.getLast? with
    | some p => some (p.pc, p.w)
    | none => d.lastPC
  if !d.engaged then some (E_RUN_GEAR_NOT_ENGAGED, 0)
  else if 4 ≤ d.armed.length then some (E_RUN_QUEUE_FULL, 0)
  else if d.armed.any (fun p => p.fall != c.fall) ∨ prev.any (fun p => decide (s * (c.pc - p.1) < p.2)) then some (E_RUN_GEAR_ORDER, d.armed.length)
  else if 0 ≤ s * (d.master.mp - c.pc * 2 ^ 32) then some (E_RUN_GEAR_PASSED, unsg 32 c.pc)
  else none

/-- What an act does to a unit's plan. -/
def doAct (u : GroupRec) (r : Mach × Dyn) (a : Act) : Mach × Dyn :=
  let m := r.1
  let d := r.2
  match a.kind with
  | 1 =>
    let rep := nthI a.data 0 = 1
    let later := d.mode = 1 ∨ d.mode = 2 ∨ (d.mode = 3 ∧ !d.atStop)
    if !rep then
      if later then (m, { d with after := d.after ++ a.segs }) else (m, { d with segs := d.segs ++ a.segs })
    else if later then (m, { d with after := a.segs })
    else if d.mode = 0 ∧ (headSeg d).isSome then (m, { d with segs := d.segs.take 1, after := a.segs, mode := 2 })
    else (m, { d with segs := a.segs })
  | 2 =>
    if unscaled d then
      let r := timeStop m u d 2
      (if d.engaged then report r.1 E_RUN_GEAR_BROKEN 0 2 u.group 2
       else report (flag r.1 RUN_FLAGS_STREAM_BROKEN) E_RUN_STREAM_BROKEN 0 2 u.group 2, r.2)
    else if d.fh ∨ (u.kind = 2 ∧ !d.engaged) then (m, d) else (m, { d with fh := true, fhSaid := false })
  | 3 => (m, { d with fh := false, mode := if d.mode = 4 then 0 else d.mode })
  | 5 =>
    let r := haltUnit (endGearJob m u.group E_RUN_GEAR_NOT_ENGAGED none) u d 0
    (setGrp r.1 u.group { grp r.1 u.group with gearWait := none }, r.2)
  | 6 => ({ m with run := { m.run with unbound := m.run.unbound.filter (fun x => (x : Int) != nthI a.data 0) } },
          { d with stream := some (nthI a.data 0).toNat, strFirst := false, urun := 0 })
  | 7 =>
    if nthI a.data 0 = 1 then
      -- MASTER_ONLY (08 R242)
      let x := d.master
      let v := nthI a.data 1
      if d.gsrc = 2 then (m, { d with master := { x with next := some (v, (nthI a.data 3).toNat) } })
      else (m, { d with master := { x with later := insChange ((nthI a.data 2).toNat, v, (nthI a.data 3).toNat) x.later } })
    else
      match a.gear with
      | none => (m, d)
      | some w =>
        let x := fillSamples m { w.master with pred := getF m RUN_GEAR_CFG_PRED u.group, lead := getS m RUN_GEAR_CFG_LEAD u.group }
        let vm : Int := if w.gsrc < 2 then (predicted m x).vm else if w.gsrc = 3 then x.v * 2 ^ 30 * 800000 else 0
        let m := endGearJob m u.group E_RUN_GEAR_NOT_ENGAGED none
        match (if nthI a.data 1 = 1 then none else engageFault m u w vm) with
        | some i => (endAct m a E_RUN_GEAR_LIMIT i, d)
        | none =>
          if nthI a.data 2 = 1 then
            -- WAIT_START: the job completes when the gear is armed (08 R244, entry 111)
            let armed := m.run.start.groups.contains u.group
            (setGrp (if armed then endAct m a 0 (m.cyc.n + 1) else m) u.group
              { grp m u.group with gearWait := some w, gearJob := if armed then none else a.job }, d)
          else
          let m := endAct m a 0 (m.cyc.n + 1)
          let m := setGrp m u.group { grp m u.group with gearWait := none }
          (m, { d with engaged := true, gsrc := w.gsrc, master := x, laws := w.laws, strFirst := false, armed := [], lastPC := none, fall := false,
                       mode := if d.mode = 4 then 0 else d.mode,
                       k := if w.gsrc = 2 then 0 else d.k, d1 := 0, d2 := 0, ksNum := if w.gsrc = 2 then 0 else d.ksNum, ksDen := 1, ramp := none })
  | 8 =>
    match a.change with
    | none => (m, d)
    | some c => match changeFault d c with
      | some e => (endAct m a e.1 e.2, d)
      | none => (endAct m a 0 (m.cyc.n + 1), { d with armed := d.armed ++ [c] })
  | _ => (m, d)

/-! ## Segment descriptors (R209) -/

/-- Address of a descriptor of a unit. -/
def descAddr (m : Mach) (g i : Nat) : Nat := getF m RUN_SEG_ADDR_ADDR + g * 32768 + i * 128

/-- The header of a descriptor. -/
def descHead (s : Seg) (typ flags next item t0 len : Nat) : List Nat :=
  [typ, flags] ++ leBytes 2 next ++ leBytes 2 s.sid ++ leBytes 2 item ++ leBytes 8 t0 ++ leBytes 8 len ++ leBytes 4 (min s.vpk (2 ^ 32 - 1)) ++ leBytes 4 0

/-- The descriptors of a segment that starts at path time `t0`: its items in order, each with its continuations. A spline has one for each
control point, each of one interval but the last, which has three: DESIGN CHOICE (entry 136), R209 gives a SPLINE body 12 positions and
does not say which. -/
def descBodies (m : Mach) (u : GroupRec) (s : Seg) (t0 next : Nat) : List (List Nat) :=
  let n := (unitAxes m u).length
  let fl (a b : Bool) : Nat := b2n a + 2 * b2n b + 4 * b2n s.t0.isSome
  let nx (k : Nat) : Nat := match s.ix[k + 1]? with | some i => i | none => next
  if isPath s then
    let g := segItem s.geo 0
    [descHead s s.typ (fl s.first s.last) (nx 0) s.item t0 s.len ++ padTo 64 s.raw ++ leBytes 8 (unsg 64 (toFmt 55 (gLen g)))
      ++ leBytes 4 (unsg 32 (toFmt 23 (nthI s.spd 13))) ++ leBytes 4 (unsg 32 (toFmt 23 (nthI s.spd 3)))
      ++ leBytes 4 (unsg 32 (toFmt 23 (nthI s.spd 7))) ++ leBytes 4 0]
  else
    let pts := if s.typ = 3 then (s.ctrl.drop 3).take (s.ctrl.length - 5) else [s.target]
    let per := (n + 11) / 12
    (pts.zipIdx).flatMap (fun p =>
      let lastPt := p.2 + 1 == pts.length
      let st := if s.typ = 3 then t0 + p.2 * s.interval * 2 ^ 32 else t0
      let ln := if s.typ = 3 then (if lastPt then 3 else 1) * s.interval * 2 ^ 32 else s.len
      (List.range per).map (fun k =>
        descHead s (if k = 0 then s.typ else 4) (fl (s.first && p.2 == 0) (s.last && lastPt)) (nx (p.2 * per + k)) p.2 st ln
          ++ padTo 96 (((p.1.drop (12 * k)).take 12).flatMap (fun x => leBytes 8 (unsg 64 x)))))

/-- Writes the descriptors of a unit's queue. A segment that has not started has the path time at which the plan lets it start: each
follows the one before, the first what has passed. -/
def writeDescs (m : Mach) (u : GroupRec) : Mach :=
  let d := (grp m u.group).com
  let l := d.segs ++ d.after
  ((l.zipIdx).foldl (fun (r : Mach × Nat) s =>
    let t0 := s.1.t0.getD r.2
    let next := match l[s.2 + 1]? with | some y => y.ix.headD 0xFFFF | none => 0xFFFF
    ((s.1.ix.zip (descBodies r.1 u s.1 t0 next)).foldl (fun m x => wrBytes m (descAddr m u.group x.1) x.2 3) r.1, t0 + s.1.len)) (m, d.theta)).1

/-- Marks the descriptors of segments that have left the queue aborted (R209). -/
def markAborted (m : Mach) (u : GroupRec) (gone : List Seg) : Mach :=
  gone.foldl (fun m s => s.ix.foldl (fun m i => let a := descAddr m u.group i + 1; wrBytes m a [rdVal m a 1 ||| 8] 3) m) m

/-! ## The window (R205, R208) -/

/-- DEPTH in force (R205). -/
def depthOf (m : Mach) (u : GroupRec) : Nat := if feature m 4 then getF m RUN_GRP_CFG_DEPTH u.group else 1

/-- The bytes of a setpoint ring entry (R206): POS, VEL_FF, ACC_FF, TFF, FLAGS, SEG_ID. -/
def entryBytes (e : List Int) (c st : Nat) : List Nat :=
  leBytes 8 (unsg 64 (nthI e 0)) ++ leBytes 4 (unsg 32 (nthI e 1)) ++ leBytes 4 (unsg 32 (nthI e 2)) ++ leBytes 4 (unsg 32 (nthI e 3))
    ++ leBytes 4 (unsg 32 (nthI e 4)) ++ leBytes 4 c ++ [st, 0] ++ leBytes 2 (unsg 16 (nthI e 5))

/-- The bytes of a Cartesian sample (R208). -/
def sampleBytes (d : Dyn) : List Nat :=
  let w (f : Nat) (x : Fx) : List Nat := leBytes 4 (unsg 32 (sat 32 (toFmt f x)))
  (d.pose.take 3).flatMap (w 23) ++ (d.pose.drop 3).flatMap (w 30) ++ d.twist.flatMap (w 23) ++ leBytes 4 d.c ++ leBytes 4 d.k.toNat
    ++ leBytes 8 d.theta ++ List.replicate 36 0

/-- FLAGS of an axis in an entry with these flags: AT_REST stands only where its own VEL_FF and ACC_FF are 0 (R207). -/
def axisFlags (fl : Nat) (v a : Int) : Nat := if v = 0 ∧ a = 0 then fl else andNot fl fREST

/-- Writes the window entry or sample of a plan. A per-axis entry of a Cartesian unit that stands in STATE 3 for the cycle is not written
again (R229). -/
def writeWindow (m : Mach) (u : GroupRec) (d : Dyn) : Mach :=
  let ax := unitAxes m u
  if isCart u then
    let m := wrBytes m (descAddr m u.group (192 + d.c % 64)) (padTo 128 (sampleBytes d)) 3
    ax.foldl (fun m a =>
      let r := ringAddr m a.axis d.c + 24
      if rdVal m r 4 = d.c % 2 ^ 32 ∧ rdVal m (r + 4) 1 = 3 then m else wrBytes m r (leBytes 4 d.c ++ [3, 0] ++ leBytes 2 d.sid) 3) m
  else
    ((ax.zip (d.pos.zip (d.vel.zip d.acc)))).foldl (fun m a =>
      wrBytes m (ringAddr m a.1.axis d.c) (entryBytes [a.2.1, a.2.2.1, a.2.2.2, 0, (axisFlags (d.src + d.flags) a.2.2.1 a.2.2.2 : Nat), d.sid] d.c 2) 3) m

/-- Extends the window of a unit up to cycle `f`, one cycle at a time (R205). -/
def extendTo (u : GroupRec) (f : Nat) : Nat → Mach → Mach
  | 0, m => m
  | n + 1, m =>
    let x := grp m u.group
    if f ≤ x.front.c then m
    else
      let d := adv m u x x.front
      extendTo u f n (setGrp (writeWindow m u d) u.group { x with front := { d with events := [], gev := [] }, depth := d.c - x.com.c })

/-! ## RUNNER_SNAPSHOT -/

/-- The plan of a unit before its first commit: at rest at its measured positions. -/
def initPlan (m : Mach) (u : GroupRec) (x : GrpSt) : GrpSt :=
  let ax := unitAxes m u
  if x.com.pos.length = ax.length then { x with com := { x.com with c := m.cyc.n } }
  else
    let pos := ax.map (fun a => sget m.run.meas a.axis 0)
    let d : Dyn := { c := m.cyc.n, pos := pos, vel := pos.map (fun _ => 0), acc := pos.map (fun _ => 0), twist := noTwist,
                     pose := if isCart u then (poseOf m u ((ax.map (·.axis)).zip pos) [] []).1 else [] }
    { x with com := d, front := d }

/-- Reads the axis state records: enabled axes, measured positions, limit inputs, faults. -/
def readAxes (m : Mach) : Mach × List Nat × List Nat :=
  m.mould.axes.foldl (fun (r : Mach × List Nat × List Nat) a =>
    match stateRecord r.1 a with
    | none => r
    | some l =>
      let st := recStatus l
      let m := { r.1 with run := { r.1.run with meas := sput r.1.run.meas a.axis (sgn 64 (field l 0 8)) 0 } }
      let m := if a.node = nodeId m then m else recordFaults m a st
      let lim := st / 32 % 4
      let old := sget m.run.limit a.axis 0
      let m := { m with run := { m.run with limit := sput m.run.limit a.axis lim 0 } }
      let on := st / 256 % 4 == 1 || st / 256 % 4 == 2
      (m, if on then r.2.1 ++ [a.axis] else r.2.1, if andNot lim old ≠ 0 then r.2.2 ++ [a.axis] else r.2.2)) (m, [], [])

/-- Ends a RAMP or CUT once its axes have been disabled and every axis of the group is enabled again (R225). -/
def endReaction (m : Mach) (u : GroupRec) (x : GrpSt) : GrpSt :=
  if !x.ending then x
  else
    let on := allOn m u x
    if !on then { x with off := true }
    else if x.off then { x with off := false, ending := false, com := { x.com with mode := 0, atStop := false, segs := x.com.segs ++ x.com.after, after := [] } }
    else x

/-- What a stream cannot follow (R222): the cause bit. A limit of 0 breaks it whatever VEL_FF holds, also where no block is present: DESIGN
CHOICE (entry 134), R222 compares with the largest |VEL_FF| / VMAX of the blocks present. -/
def streamBroken (m : Mach) (u : GroupRec) (d : Dyn) : Option Nat :=
  match d.stream with
  | none => none
  | some r =>
    let l := unitLimit m u
    let fast := (m.run.blocks.filter (fun b => b.ring == r)).any (fun b =>
      ((unitAxes m u).zip b.els).any (fun e => decide (l * (axLim m e.1.axis).vmax < e.2.vel.natAbs * 2 ^ 30)))
    if d.fh then some 2 else if getF m RUN_GRP_OVR_OVR u.group < 2 ^ 30 then some 3 else if fast || l == 0 then some 1 else none

/-- Whether a limit that has changed is below the fastest follower of a gear whose master is not virtual (08 R254). -/
def gearTooFast (m : Mach) (u : GroupRec) (d : Dyn) : Bool :=
  d.engaged && d.gsrc != 2 && (grp m u.group).lim != some (unitLimit m u) && ((unitAxes m u).zip d.vel).any (fun e => decide (unitLimit m u * (axLim m e.1.axis).vmax < e.2.natAbs * 2 ^ 30))

/-- PRED and LEAD, samples and missing samples of an engaged gear (08 R238, R239, R266). -/
def gearSample (m : Mach) (u : GroupRec) (d : Dyn) : Dyn :=
  if !d.engaged then d
  else
    let x := { d.master with pred := getF m RUN_GEAR_CFG_PRED u.group, lead := getS m RUN_GEAR_CFG_LEAD u.group }
    if 2 ≤ d.gsrc then { d with master := x }
    else
      let x := fillSamples m x
      let here := x.samples.any (fun s => s.1 == m.cyc.n)
      { d with master := { x with miss := if here then 0 else min 15 (x.miss + 1), said := x.said && !here } }

/-- The planned entries of a unit's axes (02 R63): what the Crucible reads of cycle n + 1 (06 R176). -/
def putPlanned (m : Mach) (u : GroupRec) (d : Dyn) : Mach :=
  ((unitAxes m u).zipIdx).foldl (fun m a =>
    { m with run := { m.run with ents := sput m.run.ents a.1.axis [nthI d.pos a.2, nthI d.vel a.2, nthI d.acc a.2] [] } }) m

/-- The snapshot of one unit. -/
def snapUnit (limIn on : List Nat) (m : Mach) (u : GroupRec) : Mach :=
  let x := initPlan m u (grp m u.group)
  let x := endReaction m u { x with enabled := (unitAxes m u).filterMap (fun a => if on.contains a.axis then some a.axis else none), due := 0, rolled := 0 }
  let acts := m.run.acts.filter (fun a => a.grp == u.group)
  let d0 := gearSample m u x.com
  let r := acts.foldl (doAct u) (setGrp m u.group x, d0)
  -- a gear that waits takes PRED and LEAD with the snapshot (08 R266)
  let wait := (grp r.1 u.group).gearWait.map (fun w =>
    { w with master := { w.master with pred := getF m RUN_GEAR_CFG_PRED u.group, lead := getS m RUN_GEAR_CFG_LEAD u.group } })
  let x := { x with gearWait := wait, gearJob := (grp r.1 u.group).gearJob }
  -- limit inputs that have become active stop the group
  let lim := (unitAxes m u).any (fun a => limIn.contains a.axis)
  let r := if lim then haltUnit r.1 u r.2 4 else r
  let x := if lim then { x with pend := x.pend ||| 16 } else x
  -- RAMP reactions
  let ramp := reactFor m u == 2 && r.2.mode != 3 && r.2.mode != 5
  let r := if ramp then rampUnit r.1 u r.2 else r
  -- a HOLD asked for before this snapshot is in the entry that the commit of this cycle makes
  let hold := reactFor m u == 1 && takesHold r.2.mode
  let x := if ramp || hold then { x with pend := x.pend ||| 64 } else x
  let r := if x.pend ≠ 0 ∨ acts ≠ [] ∨ (r.2.segs ++ r.2.after).any (fun s => isPath s && s.geo == []) then (r.1, replan r.1 u r.2) else r
  -- speed limits
  let kl := kLim r.1 u r.2
  let x := if kl.1 * x.limDen = x.limNum * kl.2 then x else { x with pend := x.pend ||| 2, limNum := kl.1, limDen := kl.2 }
  let r := match streamBroken r.1 u r.2 with
    | some c => let z := timeStop r.1 u r.2 c
                (report (flag z.1 RUN_FLAGS_STREAM_BROKEN) E_RUN_STREAM_BROKEN 0 2 u.group c, z.2)
    | none => if gearTooFast r.1 u r.2 then
        let z := timeStop r.1 u r.2 1
        (report z.1 E_RUN_GEAR_BROKEN 0 2 u.group 1, z.2)
      else r
  let d := setTarget r.1 u r.2 (kTarget r.1 u r.2 kl) (x.pend.testBit 3 && ovrRules r.1 u r.2 kl)
  let m := r.1
  -- what this snapshot finds due
  let under := d.halt.isNone && d.strFirst && (match d.stream with
    | some s => (blockFor m s (m.cyc.n + 1)).isNone && decide (getF m RUN_GRP_CFG_UNDERRUN_MAX u.group ≤ d.urun)
    | none => false)
  let lost := d.engaged && decide (d.gsrc < 2) && decide (getF m RUN_GEAR_CFG_MLOSS_MAX u.group < d.master.miss) && !d.master.said
  let d := if lost then { d with master := { d.master with said := true } } else d
  let ahead := x.front.c
  let anew := acts != [] || unscaled d || d.ramp != x.com.ramp
  let x := { x with com := d, due := b2n under + 2 * b2n lost, lim := some (unitLimit m u) }
  -- of the rebuilds for a sampled master only one with a GEAR cause is a rollback (08 R252)
  let causes : Nat := if d.engaged && decide (d.gsrc < 2) && !x.pend.testBit 5 then 0 else x.pend
  let x := if causes ≠ 0 then { x with rolled := causes, pend := 0, rb := 2, fill := true }
    else { x with pend := 0, rb := if x.rb = 1 then 3 else x.rb, fill := x.fill || x.rb == 1 }
  let x := if causes ≠ 0 ∨ anew then { x with front := d, depth := 0 } else x
  let m := putPlanned (setGrp m u.group x) u (adv m u x x.com)
  -- a window rebuilt without a rollback is as deep as before
  let m := if causes == 0 && anew then extendTo u ahead 65 m else m
  let m := if acts ≠ [] then writeDescs m u else m
  let m := if causes ≠ 0 then
      irq ((members m u).foldl (fun m g => report (incF (flag m RUN_FLAGS_ROLLBACK) RUN_RB_CNT_CNT 0 1) E_RUN_ROLLBACK 7 2 g.group
        (causes + (m.cyc.n + 1) % 2 ^ 25 * 128)) m) 110
    else m
  showGrp m u

/-- The Runner's snapshot of cycle n (R63): it reads axes, limits, inputs and blocks, and takes in what waits. -/
def runSnapshot (m : Mach) : Mach :=
  if !onF m RUN_CTRL_EN then m
  else
    let r := readAxes (takeSamples m)
    let m := r.1
    let n := m.cyc.n
    let m := { m with run := { m.run with snap := n, stage := 1, blocks := m.hif.blocks.filter (fun b => decide (n < b.cycle)) },
                      hif := { m.hif with blocks := m.hif.blocks.filter (fun b => decide (n + 1 < b.cycle)), snapped := some (n + 1) } }
    let m := if m.run.start.atSnap then setStart m (((n + 1) * cycLen m : Nat)) else m
    let m := latchReacts { m with reacts := m.reacts.map (fun x => { x with late := false }) }
    let m := (planUnits m).foldl (snapUnit r.2.2 r.2.1) m
    let m := { m with run := { m.run with acts := [] }, reacts := m.reacts.filter (fun x => x.cls != 2) }
    startReady m

/-! ## STREAM_UNDERRUN_STOP, GEAR_MASTER_LOST -/

/-- Stops a streamed group whose blocks have failed to come (R221). -/
def underrunStop (u : GroupRec) (m : Mach) : Mach :=
  let x := grp m u.group
  if x.due % 2 = 0 then m
  else
    let ring := x.com.stream.getD 0
    let r := unbind m (beginHalt m u x.com)
    let m := setGrp r.1 u.group { x with com := r.2, front := r.2, depth := 0, due := x.due - 1 }
    showGrp (report (flag m RUN_FLAGS_STREAM_BROKEN) E_RUN_STREAM_UNDERRUN 0 2 u.group ring) u

/-- Requests the reaction of a lost master (08 R239). -/
def masterLost (u : GroupRec) (m : Mach) : Mach :=
  let x := grp m u.group
  if x.due < 2 then m
  else
    report (setGrp m u.group { x with due := x.due - 2 }) E_RUN_GEAR_MASTER_LOST (reacClass m E_RUN_GEAR_MASTER_LOST u.group 2) 2 u.group
      x.com.master.miss u.group

/-- STREAM_UNDERRUN_STOP: group `g`. -/
def execStreamUnderrunStop (g : Nat) (s : State) : Out :=
  done (fun m => if m.run.stage ≠ 1 then m else match (planUnits m).find? (fun u => u.group == g) with | some u => underrunStop u m | none => m) s

/-- GEAR_MASTER_LOST: group `g`. -/
def execGearMasterLost (g : Nat) (s : State) : Out :=
  done (fun m => if m.run.stage ≠ 1 then m else match (planUnits m).find? (fun u => u.group == g) with | some u => masterLost u m | none => m) s

/-! ## RUNNER_TARGETS -/

/-- Hands a unit's flange targets and object motion to the Crucible (R218). -/
def handTargets (m : Mach) (u : GroupRec) (d : Dyn) : Mach :=
  if !isCart u then m
  else
    let m := (unitChains m u).foldl (fun m c =>
      { m with run := { m.run with flange := sput m.run.flange c (d.c, flangeTarget m u c d.pose d.twist) (0, []) } }) m
    match setOf m u with
    | none => m
    | some s =>
      let v := (d.pose.take 3).map (toFmt 23) ++ (qmat (d.pose.drop 3)).map (toFmt 30) ++ d.twist.map (toFmt 23)
      (bitsOf 32 s.omask).foldl (fun m o => { m with run := { m.run with objs := sput m.run.objs o (d.c, v) (0, []) } }) m

/-- TARGETS of one unit: the entry of cycle n + 1; a node without a Crucible does no chain groups (R224). -/
def targetUnit (m : Mach) (u : GroupRec) : Mach :=
  if isCart u && !isManager m then m
  else
  let m := masterLost u (underrunStop u m)
  let x := grp m u.group
  let d := adv m u x x.com
  let d := if x.rolled ≠ 0 then { d with flags := d.flags ||| fROLLBACK } else d
  let m := handTargets (putPlanned (writeWindow m u d) u d) u d
  let x := { x with cur := some d, rb := if x.rb = 2 then 3 else x.rb,
                    front := if x.front.c ≤ x.com.c then { d with events := [], gev := [] } else x.front, depth := max x.depth 1 }
  showGrp (setGrp m u.group x) u

/-- Whether a Runner step may start: its item has had its turn, or the graph has none (R224); none starts in the rest of a truncated
cycle (02 R57). -/
def stepReady (m : Mach) (target : Nat) : Bool :=
  !m.cyc.skip && (m.ladle.tpl.all (fun i => i.kind != 2 || i.target != target) || handedOver m 2 target)

/-- TARGETS without the Ladle's part. -/
def targetsWork (m : Mach) : Mach :=
  if m.run.stage ≠ 1 then m
  else
    let m := (planUnits m).foldl targetUnit m
    { m with run := { m.run with stage := 2 } }

/-- RUNNER_TARGETS (R224). -/
def runTargets (m : Mach) : Mach :=
  if m.run.stage ≠ 1 ∨ !stepReady m 1 then m else finishKind (targetsWork m) 2 1 1

/-- RUNNER_TARGETS. -/
def execRunnerTargets (s : State) : Out := done runTargets s

/-! ## RUNNER_PREP (R223) -/

/-- Bits of FLAGS that PREP sets. -/
def fEXTRAP : Nat := 64
/-- POS_DEGRADED. -/
def fPOSDEG : Nat := 128
/-- TFF_STALE. -/
def fSTALE : Nat := 256
/-- TFF_DEGRADED. -/
def fTFFDEG : Nat := 512
/-- TFF_ZERO. -/
def fZERO : Nat := 1024
/-- TFF_FROM_ID. -/
def fFROMID : Nat := 2048

/-- The committed entry of an axis for a cycle: POS, VEL_FF, ACC_FF, TFF. -/
def ringEntry (m : Mach) (a c : Nat) : List Int :=
  let r := ringAddr m a c
  [sgn 64 (rdVal m r 8), sgn 32 (rdVal m (r + 8) 4), sgn 32 (rdVal m (r + 12) 4), sgn 32 (rdVal m (r + 16) 4)]

/-- Address and length of the published section of a slot. -/
def sectionAt (m : Mach) (k : Nat) : Nat × Nat := (sectionAddr m k (pubBuf m k), (progCost m m.mould.image k).2)

/-- Whether a slot's published section serves a cycle, and whether it is DEGRADED; one that reads poisoned does not serve (22 R609). -/
def secState (m : Mach) (k c : Nat) : Bool × Bool :=
  let s := sectionAt m k
  (serves m k c && !poisoned m s.1 s.2, (sectionStatus m k (pubBuf m k)).testBit 3)

/-- The Runner reads the sections of the chains' programs that serve a cycle (22 R609). -/
def readSections (c : Nat) (m : Mach) : Mach :=
  ((usedSlots m).filter (fun k => [3, 0x10, 0x12].contains (slotKind m k) && serves m k c)).foldl (fun m k =>
    let s := sectionAt m k
    (logRead s.1 s.2 3 m).1) m

/-- The word of a published section of a slot. -/
def pubWord (m : Mach) (k i : Nat) : Int := secWord m k (pubBuf m k) i

/-- The position of an axis among the actuated joints of a chain. -/
def jointIndex (m : Mach) (c a : Nat) : Nat := (chainAxes m c).findIdx (fun x => x.axis == a)

/-- A rate in 64 fraction bits in the speed format of an axis: the inverse of the joint rate. -/
def toAxisSpeed (m : Mach) (a : AxisRec) (x : Fx) : Int :=
  let f := if (m.mould.joints.find? (fun j => j.axis == a.axis)).any (fun j => j.typ == 1) then 23 else 28
  let num := x * a.den * 256
  let den := a.num * 2 ^ (64 - f) * 2 ^ (8 + a.shift).toNat
  if den = 0 then 0 else sat 32 (if den < 0 then roundDiv (-num) (-den).toNat else roundDiv num den.toNat)

/-- The slot and word that hold the torque of a chain's joint: for a coupled set the CLOSED section of its object (06 R183). -/
def torqueAt (m : Mach) (u : GroupRec) (c a : Nat) : Option (Nat × Nat) :=
  match setOf m u with
  | none => (chainSlot m 0x10 c).map (fun k => (k, jointIndex m c a))
  | some s =>
    let obs := objectsOf m.mould.image
    let inst := ((obs.zipIdx.find? (fun o => s.omask.testBit o.2)).map (fun o => field o.1.1 68 1)).getD 0
    let before := ((instChains m inst).takeWhile (· != c)).foldl (fun n x => n + (chainAxes m x).length) 0
    ((usedSlots m).find? (fun k => slotKind m k == 0x12 && progInstance m k == inst)).map (fun k => (k, before + jointIndex m c a))

/-- TFF of a chain joint with its flags, and the slot whose policy asks for a RAMP (R223). -/
def torqueOf (m : Mach) (u : GroupRec) (c : Nat) (a : AxisRec) (cyc : Nat) : Int × Nat × Option Nat :=
  if a.kind = 1 ∨ a.kind = 2 then (0, 0, none)
  else match torqueAt m u c a.axis with
  | none => (0, 0, none)
  | some (k, w) =>
    let st := secState m k cyc
    let v := pubWord m k w
    let pol := getF m RUN_GRP_CFG_TFF_POL u.group
    let idk : Option Nat := if (setOf m u).isSome then chainSlot m 0x10 c else none
    let fromId (clean : Bool) : Option Int := match idk with
      | some i => let s := secState m i cyc; if s.1 && (!clean || !s.2) then some (pubWord m i (jointIndex m c a.axis)) else none
      | none => none
    if st.1 && !st.2 then (v, 0, none)
    else if pol = 2 then (0, fZERO, none)
    else
      let use : Int × Nat := if st.1 then (v, fTFFDEG) else (v, fSTALE)
      if pol = 3 then (use.1, use.2, some k)
      else if pol = 1 then match fromId st.1 with | some x => (x, fFROMID, none) | none => (use.1, use.2, none)
      else (use.1, use.2, none)

/-- The chain whose joint an axis is. -/
def axisChain (m : Mach) (a : Nat) : Option Nat := (m.mould.joints.find? (fun j => j.axis == a && decide (j.typ < 2))).map (·.chain)

/-- POS, VEL_FF, ACC_FF and flags of a chain group's axis, the cycle-n entry where the IK section does not serve, and the slot whose
policy asks for a reaction (R223). In a coupled set the CFG of the lead group governs every member, and VEL_FF and ACC_FF are those of
cycle n where the IK section serves cycle n + 1 and the ID section does not: DESIGN CHOICE (entry 138), R223 says neither. -/
def cartEntry (m : Mach) (u : GroupRec) (c : Nat) (a : AxisRec) (d : Dyn) (planned : List Int) : List Int × Nat × Option Nat :=
  let old := ringEntry m a.axis (d.c - 1)
  match chainSlot m 3 c with
  | none => (planned, 0, none)
  | some k =>
    let st := secState m k d.c
    let pol := getF m RUN_GRP_CFG_POS_POL u.group
    if !st.1 then
      ([2 * nthI old 0 - nthI (ringEntry m a.axis (d.c - 2)) 0, nthI old 1, nthI old 2], fEXTRAP ||| fSTALE, if pol = 0 then none else some k)
    else
      let j := jointIndex m c a.axis
      let pos := fromClass a (pubWord m k j)
      let n := (chainAxes m c).length
      let va : Int × Int := match chainSlot m 0x10 c with
        | some i =>
          if (secState m i d.c).1 then
            let l := (((linksOf m.mould.image c).zipIdx).filter (fun l => l.1.typ != 2)).getD j ({}, 0)
            (toAxisSpeed m a (ofFmt l.1.rsh (pubWord m i (n + j))),
             toAxisSpeed m a (roundDiv (ofFmt ((laneOf m i).frac (dynV "qdd" l.2)) (pubWord m i (2 * n + j)) * cycLen m) 800000000))
          else (nthI old 1, nthI old 2)
        | none => (nthI old 1, nthI old 2)
      ([pos, va.1, va.2], if st.2 then fPOSDEG else 0, if st.2 && pol != 0 then some k else none)

/-- The prepared entry of an axis, with what its policies ask: classes with slot and whether TFF_POL asked. AT_REST stands only where the
entry's own VEL_FF and ACC_FF are 0 (R207). -/
def prepAxis (m : Mach) (u : GroupRec) (x : GrpSt) (d : Dyn) (i : Nat) (a : AxisRec) : List Int × List (Nat × Nat × Bool) :=
  let planned := [nthI d.pos i, nthI d.vel i, nthI d.acc i]
  let base := d.src + d.flags
  match axisChain m a.axis with
  | none => (planned ++ ([0, ((axisFlags base (nthI d.vel i) (nthI d.acc i) : Nat) : Int), d.sid] : List Int), [])
  | some c =>
    let t := if u.kind = 2 then (0, 0, none) else torqueOf m u c a d.c
    let stopped := d.mode = 4 ∨ d.mode = 5
    let p := if !isCart u ∨ stopped ∨ !x.enabled.contains a.axis then (planned, 0, none) else cartEntry m u c a d planned
    let tff := if p.2.1 = fEXTRAP ||| fSTALE then nthI (ringEntry m a.axis (d.c - 1)) 3 else t.1
    let tfl := if p.2.1 = fEXTRAP ||| fSTALE then 0 else t.2.1
    let asks := p.2.2.toList.map (fun k => (getF m RUN_GRP_CFG_POS_POL u.group, k, false)) ++ t.2.2.toList.map (fun k => (2, k, true))
    let base := axisFlags base (nthI p.1 1) (nthI p.1 2)
    (p.1 ++ ([tff, (((base ||| p.2.1) ||| tfl : Nat) : Int), d.sid] : List Int), asks)

/-- Whether an axis's entry holds degraded or stale content (R223, R236): by its flags, or a torque of an ID section that is DEGRADED. -/
def degraded (m : Mach) (a : AxisRec) (fl c : Nat) : Bool :=
  (fl &&& (fEXTRAP ||| fPOSDEG ||| fSTALE ||| fTFFDEG)) != 0
    || ((fl &&& fFROMID) != 0 && (((axisChain m a.axis).bind (chainSlot m 0x10)).any (fun k => (secState m k c).2)))

/-- PREP of one unit (R223, R224): of what the policies ask, the highest class is reported (00 R23). -/
def prepUnit (m : Mach) (u : GroupRec) : Mach :=
  let x := grp m u.group
  match x.cur with
  | none => m
  | some d =>
    let es := (unitAxes m u).zipIdx.map (fun a => (a.1, prepAxis m u x d a.2 a.1))
    let m := es.foldl (fun m e => { m with run := { m.run with ents := sput m.run.ents e.1.axis e.2.1 [] } }) m
    match (es.flatMap (fun e => e.2.2)).foldl (fun (b : Option (Nat × Nat × Bool)) a => match b with | some y => if y.1 < a.1 then some a else b | none => some a) none with
    | some p => report (flag m RUN_FLAGS_POLICY) E_RUN_POLICY p.1 2 u.group (p.2.1 + 256 * b2n p.2.2)
    | none => m

/-- The memory that the Runner reads for a unit's next entry (07 R206 to R209): the descriptors of the segment in progress, the sample of
a Cartesian unit, the last committed entries. -/
def motionReads (m : Mach) (u : GroupRec) (d : Dyn) : List (Nat × Nat) :=
  (((headSeg d).map (·.ix)).getD []).map (fun i => (descAddr m u.group i, 128))
    ++ (if isCart u then [(descAddr m u.group (192 + d.c % 64), 128)] else [])
    ++ (unitAxes m u).map (fun a => (ringAddr m a.axis (d.c - 1), 32))

/-- Those reads: where one meets poison, the entry being committed is a HOLD, and the class of REACTIONS is reported (22 R609). -/
def readMotion (m : Mach) (u : GroupRec) : Mach :=
  match (grp m u.group).cur with
  | none => m
  | some d =>
    let r := (motionReads m u d).foldl (fun (r : Mach × Option Nat) p =>
      let e := eccRead r.1 p.1 p.2 3
      (e.1, if e.2 && r.2.isNone then some (poisonAt e.1 p.1 p.2) else r.2)) (m, none)
    match r.2 with
    | none => r.1
    | some a =>
      report (setGrp r.1 u.group { grp r.1 u.group with stuck := true }) E_MEM_POISON_READ (reacClass m E_MEM_POISON_READ u.group 2) 2 u.group
        (a % 2 ^ 28) u.group

/-- PREP without the Ladle's part. -/
def prepWork (m : Mach) : Mach :=
  if m.run.stage ≠ 2 then m
  else
    let m := (planUnits m).foldl (fun m u => prepUnit (readMotion m u) u) (readSections (m.run.snap + 1) m)
    { m with run := { m.run with stage := 3 } }

/-- RUNNER_PREP (R224). -/
def runPrep (m : Mach) : Mach :=
  if m.run.stage ≠ 2 ∨ !stepReady m 2 then m else finishKind (prepWork m) 2 2 1

/-- RUNNER_PREP. -/
def execRunnerPrep (s : State) : Out := done runPrep s

/-! ## RUNNER_COMMIT (R223, R225) -/

/-- Reports what the entry of a unit brings with its commit. -/
def reportEvents (m : Mach) (u : GroupRec) (d : Dyn) : Mach :=
  let c := d.c
  d.events.foldl (fun m e =>
    match e.1 with
    | 1 => report m E_RUN_SEG_START 7 2 u.group (e.2 + c % 65536 * 65536)
    | 2 => report m E_RUN_SEG_DONE 7 2 u.group (e.2 + c % 32768 * 65536)
    | 3 => report m E_RUN_SEG_DONE 7 2 u.group (e.2 + c % 32768 * 65536 + 2 ^ 31)
    | 4 => report m E_RUN_STOPPED 7 2 u.group e.2
    | 5 => report (flag { m with run := { m.run with unbound := insNat e.2 m.run.unbound } } RUN_FLAGS_STREAM_BROKEN) E_RUN_STREAM_UNDERRUN 0 2 u.group e.2
    | 6 => report m E_RUN_GEAR_ENGAGED 7 2 u.group e.2
    | 7 => report m E_RUN_GEAR_DISENGAGED 7 2 u.group e.2
    | 13 => report m E_RUN_SEG_DONE 7 2 u.group (e.2 + (c - 1) % 32768 * 65536 + 2 ^ 31)
    | 11 => report m E_RUN_SEG_DONE 7 2 u.group (e.2 + (c - 1) % 32768 * 65536)
    | 12 => report m E_RUN_SPLINE_STRETCHED 7 2 u.group e.2
    | 8 => report (incF m RUN_GEAR_CHG_CNT_CNT u.group 1) E_RUN_GEAR_CHANGED 7 2 u.group e.2
    | 9 => flag (incF m RUN_UNDERRUN_CNT_CNT 0 1) RUN_FLAGS_UNDERRUN
    | _ => report m E_RUN_START 7 2 u.group ((m.run.start.ts.getD 0) % 2 ^ 31 + b2n m.run.start.moved * 2 ^ 31)) m

/-- The speed check of followers (08 R247): the group index of the first axis beyond VMAX or AMAX. -/
def followerFault (m : Mach) (u : GroupRec) (old d : Dyn) : Option Nat :=
  if !d.engaged then none
  else ((unitAxes m u).zip (old.vel.zip d.vel)).findIdx? (fun a =>
    let l := axLim m a.1.axis
    decide (l.vmax < a.2.2.natAbs ∨ l.amax < (a.2.2 - a.2.1).natAbs))

/-- Reports the speed check of the entry just committed: a reaction follows from the next entry on (00 R23). -/
def checkFollowers (m : Mach) (u : GroupRec) (old d : Dyn) : Mach :=
  match followerFault m u old d with
  | some i =>
    let n := m.reacts.length
    let m := report m E_RUN_GEAR_LIMIT (reacClass m E_RUN_GEAR_LIMIT u.group 2) 2 u.group i u.group
    { m with reacts := m.reacts.take n ++ (m.reacts.drop n).map (fun r => { r with late := true }) }
  | none => m

/-- Entries repeated by a HOLD or a CUT (R225), from the Runner's own copy `p` of the last committed position (22 R609). -/
def heldEntry (m : Mach) (a : AxisRec) (p : Int) (c src fl : Nat) : List Int :=
  [p, 0, 0, nthI (ringEntry m a.axis (c - 1)) 3, ((src + fl : Nat) : Int), 0]

/-- COMMIT of one unit. -/
def commitUnit (m : Mach) (u : GroupRec) : Mach :=
  let x := grp m u.group
  match x.cur with
  | none => m
  | some d =>
    let ax := unitAxes m u
    let old := x.com
    let cls := reactFor m u
    let act := if cls = 3 ∧ d.mode ≠ 5 then 3 else if (cls = 1 ∨ x.stuck) ∧ takesHold d.mode then 1 else 0
    let r := if act = 1 then holdUnit m u old d else if act = 3 then cutUnit m u old d else (m, d)
    let m := r.1
    let d := r.2
    let held := act ≠ 0
    let fl := (d.flags &&& (fLIMITED + fOVERRIDDEN + fFEED + fROLLBACK)) ||| fREST
    let m := if !held then m else ax.zipIdx.foldl (fun m a =>
      { m with run := { m.run with ents := sput m.run.ents a.1.axis (heldEntry m a.1 (nthI old.pos a.2) d.c (if act = 1 then 6 else 7) fl) [] } }) m
    let ents := ax.map (fun a => sget m.run.ents a.axis [])
    let d := if held ∨ isCart u then { d with pos := ents.map (fun e => nthI e 0), vel := ents.map (fun e => nthI e 1), acc := ents.map (fun e => nthI e 2) } else d
    let d := if held then { d with twist := noTwist, pose := if isCart u then old.pose else d.pose, src := if act = 1 then 6 else 7 } else d
    let m := (ax.zip ents).foldl (fun m e => wrBytes m (ringAddr m e.1.axis d.c) (entryBytes e.2 d.c 1) 3) m
    let gone := (old.segs ++ old.after).filter (fun s => (d.segs ++ d.after).all (fun y => y.ix != s.ix))
    let aborted := gone.filter (fun s => d.events.any (fun e => (e.1 == 3 || e.1 == 13) && e.2 == s.sid)
      || (s.c0.isNone && !d.events.any (fun e => e.1 == 2 && e.2 == s.sid)))
    let m := reportEvents (markAborted m u aborted) u d
    let m := if held then m else checkFollowers m u old d
    let m := if !held ∧ (ax.zip ents).any (fun e => degraded m e.1 (nthI e.2 4).toNat d.c) then flag (incF m RUN_DEG_CNT_CNT 0 1) RUN_FLAGS_DEG_USED else m
    let gev := d.gev.map (fun g => (u.group, g.1, g.2.1, g.2.2))
    let m := { m with run := { m.run with gev := m.run.gev ++ gev } }
    -- torque is removed with the first entry at rest of a RAMP, and at a CUT (09 R286, R287)
    let rest := ents.all (fun e => (nthI e 4).toNat.testBit 14)
    let off := (act = 3 ∨ (d.mode = 3 ∧ d.atStop ∧ rest)) ∧ !x.ending
    let here := ax.filter (fun a => a.node == nodeId m)
    let far := ax.filter (fun a => a.node != nodeId m)
    let m := if !off then m
      else
        let m := if act = 3 then here.foldl (fun m a => cutSlot m a.slot) m else disableHere m d.c 1 here
        if far = [] then m
        else
          let q : NetReq := { kind := 2, job := { ring := 16 }, nodes := (far.map (·.node)).dedup, cycle := d.c, axes := maskOf (far.map (·.axis)), data := [if act = 3 then 2 else 1] }
          { m with twi := { m.twi with reqs := m.twi.reqs ++ [q] } }
    let clean := { d with events := [], gev := [] }
    let again := act = 1 ∧ !x.rolled.testBit 6
    let x := { x with com := clean, cur := none, rolled := 0, stuck := false, ending := x.ending || decide off }
    let x := { x with front := if held ∨ x.front.c ≤ d.c then clean else x.front, gearWait := if d.engaged then none else x.gearWait }
    let x := if again then { x with pend := x.pend ||| 64, rb := 1 } else x
    -- the latch of a ratio change is a GEAR event (R226, 08 R252)
    let x := if d.events.any (fun e => e.1 == 8) then { x with pend := x.pend ||| 32, rb := 1 } else x
    let x := { x with depth := x.front.c - d.c }
    let m := setGrp m u.group x
    let m := if d.events ≠ [] then writeDescs m u else m
    let m := if u.kind = 2 then
        setS (set64 m RUN_GEAR_MPOS_LO_MPOS RUN_GEAR_MPOS_HI_MPOS u.group (unsg 64 (d.master.mp / 2 ^ 32))) RUN_GEAR_MVEL_MVEL u.group (mvel d.master.vm (cycLen m))
      else m
    showGrp m u

/-- The SETPOINT payload of a worker (12 R361): the entries of its axes, then gear event records. -/
def setpointPayload (m : Mach) (node gevs c : Nat) : List Nat :=
  let ax := nodeAxes m node
  let ents := ax.flatMap (fun a => (entryBytes (sget m.run.ents a.axis []) c 1).take 24)
  let recs := m.run.gev.filter (fun g => ax.any (fun a => a.group == g.1))
  let body := (recs.take gevs).flatMap (fun g => [g.1, g.2.1] ++ leBytes 2 g.2.2.1 ++ leBytes 4 g.2.2.2)
  ents ++ body ++ (List.replicate (gevs - recs.length) [0xFF, 0, 0, 0, 0, 0, 0, 0]).flatten

/-- Writes the downlink slot buffers (R64, 12 R379). -/
def publishDown (m : Mach) (c : Nat) : Mach :=
  ((slotsNow m).filter (fun e => e.kind == 1 && ownsSlot m e)).foldl (fun m e =>
    match m.mould.nodes.find? (fun n => n.role == 0 && e.rx.testBit n.node) with
    | some n => publishPayload m (slotHandle e) (padTo e.plen (setpointPayload m n.node e.gev c)) 3
    | none => m) m

/-- Ends a shared start whose instant the committed entries have reached (08 R255, R259). -/
def settleStart (m : Mach) (c : Nat) : Mach :=
  match m.run.start.ts with
  | some t =>
    if t ≤ c * cycLen m then
      let m := setF (set64 (releaseStart m) RUN_START_TIME_LO_T_S RUN_START_TIME_HI_T_S 0 t) RUN_START_STAT_STATE 0 3
      { m with run := { m.run with start := { m.run.start with groups := [], ts := none } } }
    else m
  | none => m

/-- Extends the windows by one cycle after a commit (R205, R229). A window that is then not at DEPTH (the first one, or DEPTH has been
raised) is in REFILL (R228, entry 102). -/
def extendAll (m : Mach) : Mach :=
  (planUnits m).foldl (fun m u =>
    let x := grp m u.group
    let depth := depthOf m u
    let m := extendTo u (min (x.front.c + 1) (x.com.c + depth)) 1 m
    let x := grp m u.group
    let short := decide (x.rb = 0 ∧ x.depth < depth)
    showGrp (setGrp m u.group { x with rb := if short then 3 else x.rb, fill := x.fill || short }) u) m

/-- The commit of cycle n + 1: what has not been done of TARGETS and PREP is done first (R65, R224). -/
def commitWork (m : Mach) : Mach :=
  if m.run.stage = 0 ∨ m.run.stage = 4 then m
  else
    let m := prepWork (targetsWork m)
    let c := m.run.snap + 1
    let m := { m with run := { m.run with gev := [] } }
    let m := (planUnits m).foldl commitUnit m
    let m := { m with reacts := m.reacts.filter (fun r => r.cls == 2 || r.late) }
    let m := publishDown m c
    -- the node's own Tap and timed outputs take gear events too (R251)
    let m := m.run.gev.foldl (fun m g =>
      if (nodeAxes m (nodeId m)).any (fun a => a.group == g.1) then
        gearOutputs (tapGear m g.1 g.2.1 (extend32 m.cyc.now g.2.2.2)) g.1 g.2.1 g.2.2.2 else m) m
    let m := settleStart m c
    let m := { m with run := { m.run with stage := 4 }, cyc := { m.cyc with committed := true } }
    -- a standby waits for the mirrored commit (17 R503)
    extendAll (if followsPartner m then m else releaseEffects m c)

/-- RUNNER_COMMIT (R224). -/
def runCommit (m : Mach) : Mach :=
  if m.run.stage = 0 ∨ m.run.stage = 4 ∨ !stepReady m 3 then m else finishKind (commitWork m) 2 3 1

/-! ## REFILL_COMPLETE (R228, R229) -/

/-- The window of a group is at DEPTH again; a refill goes on while an invalidation is pending (R228). -/
def refillComplete (u : GroupRec) (m : Mach) : Mach :=
  let x := grp m u.group
  if !x.fill ∨ m.run.stage = 1 then m
  else
    let m := extendTo u (x.com.c + depthOf m u) 65 m
    let x := grp m u.group
    showGrp (setGrp m u.group { x with fill := false, rb := if x.rb = 1 then 1 else 0 }) u

/-- REFILL_COMPLETE: group `g`. -/
def execRefillComplete (g : Nat) (s : State) : Out :=
  done (fun m => match (planUnits m).find? (fun u => u.group == g) with | some u => refillComplete u m | none => m) s

end Sys2Proof.Machine
end

