-- ==== Sys2Proof/Machine/Island.lean ====
section
/-! DEFINITION. The safety island: states, inputs, outputs, lock-out and reset, configuration (15 R435 to R460). Its only input
from the main side is the mailbox and the frames of TWI (R34 to R36). -/

namespace Sys2Proof.Machine

/-! ## Basics -/

/-- Replaces the state of SAFE. -/
def onSafe (m : Mach) (f : SafeSt → SafeSt) : Mach := { m with safe := f m.safe }

/-- Whether the island supervises: COMMISSIONING or RUN (R437). -/
def islandActive (m : Mach) : Bool := m.safe.st == 3 || m.safe.st == 4

/-- Whether a configuration runs: COMMISSIONING, RUN or LOCKOUT. -/
def islandConfigured (m : Mach) : Bool := m.safe.st == 3 || m.safe.st == 4 || m.safe.st == 5

/-- Counter `i` of the mirror (R463) counts one. -/
def safeCount (m : Mach) (i : Nat) : Mach :=
  onSafe m (fun s => { s with cnt := sput s.cnt i (satAdd 0xFFFF (sget s.cnt i 0) 1) 0 })

/-- What the main side reports from the next mirror (R467). -/
def safeNews (m : Mach) (code cls kind id detail : Nat) : Mach :=
  onSafe m (fun s => { s with news := s.news ++ [(code, cls, kind, id, detail)] })

/-- News with node scope. -/
def safeNode (m : Mach) (code cls detail : Nat) : Mach := safeNews m code cls 1 (nodeId m) detail

/-- A lock-out of the island as a whole (R455): outputs de-energise at the next cycle start. -/
def lockIsland (m : Mach) (code : Nat) : Mach :=
  if islandActive m then
    safeCount (onSafe m (fun s => { s with was := s.st, st := 5, cause := code, outNext := 0, stoNext := 0 })) 13
  else m

/-- Enters HALT (R435): every output de-energises; the mirror stops, so the code is reported at once (23 R623). -/
def islandHalt (m : Mach) : Mach :=
  if m.safe.st = 0 ∨ m.safe.st = 6 then m
  else
    let m := onSafe m (fun s => { s with st := 6, out := 0, outNext := 0, sto := 0, stoNext := 0 })
    report m E_SAFE_HALT (reacClass m E_SAFE_HALT 0xFFFF 3) 1 (nodeId m) 0

/-- ISLAND_INTERNAL_FAULT. -/
def execIslandInternalFault (s : State) : Out := done islandHalt s

/-- ISLAND_SELF_TEST_DONE (R437): `pressed` says that the reset input is pressed as the island leaves START (R456). -/
def islandSelfTest (ok pressed : Bool) (m : Mach) : Mach :=
  if m.safe.st ≠ 1 then m else if ok then onSafe m (fun s => { s with st := 2, oldPress := pressed }) else islandHalt m

/-- ISLAND_SELF_TEST_DONE. -/
def execIslandSelfTestDone (ok pressed : Bool) (s : State) : Out := done (islandSelfTest ok pressed) s

/-! ## Inputs (R439 to R442) -/

/-- MODE of an input. -/
def inMode (m : Mach) (i : Nat) : Nat := field (inRec m.safe.cfg i) 0 1

/-- Whether a channel is at its run level: high, or low for channel B of an antivalent input. -/
def chanRun (m : Mach) (i ch : Nat) : Bool :=
  if ch = 0 then m.safe.lvA.testBit i else m.safe.lvB.testBit i != (inMode m i == 2)

/-- Whether both channels of an input in use are at their run level. -/
def inputRun (m : Mach) (i : Nat) : Bool := inMode m i != 0 && chanRun m i 0 && chanRun m i 1

/-- Whether the island samples: it is out of reset and not halted. -/
def islandRuns (m : Mach) : Bool := m.safe.st != 0 && m.safe.st != 6

/-- The filter of a channel (R439): the filtered level and the samples in a row at the other level, after a sample. -/
def filterStep (filt : Nat) (x : Bool × Nat) (raw : Bool) : Bool × Nat :=
  if raw = x.1 then (x.1, 0) else if filt ≤ x.2 + 1 then (raw, 0) else (x.1, x.2 + 1)

/-- The newest raw level of a channel. -/
def putRaw (i ch : Nat) (level : Bool) (m : Mach) : Mach :=
  onSafe m (fun s => if ch = 0 then { s with rawA := setBits s.rawA i 1 (b2n level) } else { s with rawB := setBits s.rawB i 1 (b2n level) })

/-- SAFE_INPUT_CHANGE (R439): the raw levels of channel `ch` of input `i` at its next samples, oldest first; those of a test pulse
come with TEST_PULSE. -/
def safeInputChange (i ch : Nat) (samples : List Bool) (m : Mach) : Mach :=
  if decide (16 ≤ i) || decide (2 ≤ ch) || !islandRuns m then m
  else
    let lv := if ch = 0 then m.safe.lvA else m.safe.lvB
    let x := samples.foldl (filterStep (field (inRec m.safe.cfg i) 4 2)) (lv.testBit i, sget m.safe.filt (2 * i + ch) 0)
    let m := match samples.getLast? with
      | some b => putRaw i ch b m
      | none => m
    onSafe m (fun s =>
      let s := { s with filt := sput s.filt (2 * i + ch) x.2 0 }
      if ch = 0 then { s with lvA := setBits s.lvA i 1 (b2n x.1) } else { s with lvB := setBits s.lvB i 1 (b2n x.1) })

/-- SAFE_INPUT_CHANGE. -/
def execSafeInputChange (i ch : Nat) (samples : List Bool) (s : State) : Out := done (safeInputChange i ch samples) s

/-- An input enters FAULT, which locks out the island (R442, R455). -/
def inputFault (m : Mach) (i code cntr : Nat) : Mach :=
  if m.safe.inFault.testBit i then m
  else
    let m := safeCount (onSafe m (fun s => { s with inFault := setBits s.inFault i 1 1 })) cntr
    lockIsland (safeNode m code 3 i) code

/-- Whether the raw level of a channel is its run level. -/
def rawRun (m : Mach) (i ch : Nat) : Bool :=
  if ch = 0 then m.safe.rawA.testBit i else m.safe.rawB.testBit i != (inMode m i == 2)

/-- The last of the samples from the start of a test pulse to 100 µs after its end that lies in the pulse: samples come every 10 µs. -/
def pulseLast (samples : List Bool) : Option Bool := (samples.reverse.drop 10).head?

/-- TEST_PULSE (R440): the raw levels of channel `ch` of input `i` at the samples from the start of the pulse that feeds it to 100 µs
after its end. The filter does not get them. A channel whose raw level is not its run level is not tested. -/
def testPulse (i ch : Nat) (samples : List Bool) (m : Mach) : Mach :=
  if !islandConfigured m || decide (16 ≤ i) || decide (2 ≤ ch) || inMode m i == 0 || !(field (inRec m.safe.cfg i) 1 1).testBit ch then m
  else
    let r := match samples.getLast? with
      | some b => putRaw i ch b m
      | none => m
    if !rawRun m i ch || pulseLast samples == some false then r else inputFault r i E_SAFE_TESTPULSE 1

/-- TEST_PULSE. -/
def execTestPulse (i ch : Nat) (samples : List Bool) (s : State) : Out := done (testPulse i ch samples) s

/-- DISCREPANCY_TIMEOUT (R441): the channels of input `i` have disagreed for T_DISC. -/
def discrepancyTimeout (i : Nat) (m : Mach) : Mach :=
  if !islandConfigured m || decide (16 ≤ i) || inMode m i == 0 || chanRun m i 0 == chanRun m i 1 then m
  else inputFault m i E_SAFE_DISCREPANCY 0

/-- DISCREPANCY_TIMEOUT. -/
def execDiscrepancyTimeout (i : Nat) (s : State) : Out := done (discrepancyTimeout i) s

/-! ## Outputs (R443, R444) -/

/-- A read-back that differs (R443): an output fault locks out the island. -/
def readBackFault (m : Mach) (sto : Bool) (o : Nat) : Mach :=
  if !islandConfigured m || decide ((if sto then 16 else 8) ≤ o)
    || (if sto then m.safe.stoFault else m.safe.outFault).testBit o then m
  else
    let m := onSafe m (fun s => if sto then { s with stoFault := setBits s.stoFault o 1 1 } else { s with outFault := setBits s.outFault o 1 1 })
    lockIsland (safeNode (safeCount m 3) E_SAFE_READBACK 3 (o + 128 * b2n sto)) E_SAFE_READBACK

/-- DARK_TEST (R443): the dark pulse of an energised channel ends; `low` says that the read-back was low at its last sample. -/
def darkTest (sto : Bool) (o : Nat) (low : Bool) (m : Mach) : Mach :=
  if low || !(if sto then m.safe.sto else m.safe.out).testBit o then m else readBackFault m sto o

/-- DARK_TEST. -/
def execDarkTest (sto : Bool) (o : Nat) (low : Bool) (s : State) : Out := done (darkTest sto o low) s

/-- OUTPUT_READBACK_MISMATCH. -/
def execOutputReadbackMismatch (sto : Bool) (o : Nat) (s : State) : Out := done (fun m => readBackFault m sto o) s

/-- An EDM fault locks out the island (R444). -/
def edmFail (m : Mach) (o : Nat) : Mach :=
  if m.safe.edmFault.testBit o then m
  else
    let m := onSafe m (fun s => { s with edmFault := setBits s.edmFault o 1 1 })
    lockIsland (safeNode (safeCount m 2) E_SAFE_EDM 3 o) E_SAFE_EDM

/-- Whether EDM checks are on for an output. -/
def edmOn (m : Mach) (o : Nat) : Bool := field (outRec m.safe.cfg o) 2 1 == 1 && field (outRec m.safe.cfg o) 3 1 % 2 == 1

/-- EDM_TIMEOUT (R444): the feedback of output `o` has not been as required for EDM_T. -/
def edmTimeout (o : Nat) (m : Mach) : Mach := if islandConfigured m && decide (o < 8) && edmOn m o then edmFail m o else m

/-- EDM_TIMEOUT. -/
def execEdmTimeout (o : Nat) (s : State) : Out := done (edmTimeout o) s

/-! ## The reset input (R456) -/

/-- RESET_BUTTON_RELEASE: a press of `d` filtered samples is released; it is judged by the safety cycle that freezes it. -/
def pressRelease (d : Nat) (m : Mach) : Mach :=
  if m.safe.oldPress then onSafe m (fun s => { s with oldPress := false })
  else if m.safe.st ≤ 1 ∨ m.safe.st = 6 ∨ d < 5000 ∨ 500000 ≤ d then m
  else onSafe m (fun s => { s with presses := s.presses + 1 })

/-- RESET_BUTTON_RELEASE. -/
def execResetButtonRelease (d : Nat) (s : State) : Out := done (pressRelease d) s

/-- RESET_STUCK: a press has lasted 5 s. -/
def resetStuck (m : Mach) : Mach :=
  if m.safe.st = 0 ∨ m.safe.st = 6 ∨ m.safe.stuck then m
  else safeNode (onSafe m (fun s => { s with stuck := true })) E_SAFE_RESET_STUCK 0 0

/-- RESET_STUCK. -/
def execResetStuck (s : State) : Out := done resetStuck s

/-! ## Connections (R452) -/

/-- The CRC of a safety, position or sensor frame over all but its last four bytes (R451). -/
def crcS (init : Nat) (l : List Nat) : Nat :=
  let step (c b : Nat) : Nat := (List.range 8).foldl (fun c _ => if c % 2 = 1 then (c / 2) ^^^ 0x82F63B78 else c / 2) (c ^^^ (b % 256))
  (l.foldl step init) ^^^ 0xFFFFFFFF

/-- The initial value of CRC_S: bits [31:0] of the digest of the running configuration XOR the identifier. -/
def crcInit (m : Mach) (id : Nat) : Nat := field m.safe.digest 0 4 ^^^ id

/-- Whether a frame is one of a connection and passes the checks but that of SCYC. -/
def frameMatches (m : Mach) (r l : List Nat) : Bool :=
  l.length == 128 && field l 0 1 == field r 0 1 && field l 1 1 == field r 7 1 && field l 2 2 == field r 2 2
    && crcS (crcInit m (field r 2 2)) (l.take 124) == field l 124 4

/-- State of connection `c`. -/
def connSt (m : Mach) (c : Nat) : ConnSt := sget m.safe.conns c {}

/-- Whether a connection is valid: it has delivered a frame and has not been lost since. -/
def connValid (m : Mach) (c : Nat) : Bool :=
  let x := connSt m c
  x.ever && decide (x.miss ≤ field (connRec m.safe.cfg c) 5 1)

/-- The cycle start takes the frame of a connection; of the frames received since the last one, `fresh`, those that come after the
cycle that could take them are counted as late. -/
def takeConn (fresh : List (List Nat)) (m : Mach) (c : Nat) : Mach :=
  let r := connRec m.safe.cfg c
  let x := connSt m c
  let n := (fresh.filter (fun l => frameMatches m r l && decide (field l 4 8 + field r 4 1 < m.safe.k))).length
  let x := { x with late := min 0xFFFF (x.late + n) }
  let want := (m.safe.k + 2 ^ 64 - field r 4 1) % 2 ^ 64
  let got := (m.safe.rx.filter (fun l => frameMatches m r l && field l 4 8 == want)).getLast?
  let x := match got with
    | some l => { x with used := l, miss := 0, ever := true, said := false }
    | none => { x with miss := satAdd 255 x.miss 1 }
  let m := onSafe m (fun s => { s with conns := sput s.conns c x {} })
  let m := if got.isNone then safeCount m 9 else m
  let lock := (field r 6 1).testBit 1
  if connValid m c then m
  else if x.said then (if lock then lockIsland m E_SAFE_CONN_LOST else m)
  else
    let m := safeCount (onSafe m (fun s => { s with conns := sput s.conns c { x with said := true } {} })) 10
    let m := safeNode m E_SAFE_CONN_LOST (if lock then 3 else 0) c
    if lock then lockIsland m E_SAFE_CONN_LOST else m

/-- Frames that no connection accepts are counted as CRC_S errors where node, identifier and format are a connection's. -/
def countCrc (m : Mach) (l : List Nat) : Mach :=
  let rs := (recvConns m.safe.cfg).map (connRec m.safe.cfg)
  let mine := rs.filter (fun r => l.length == 128 && field l 0 1 == field r 0 1 && field l 2 2 == field r 2 2)
  if mine ≠ [] ∧ mine.all (fun r => !frameMatches m r l) then safeCount m 8 else m

/-- All connections at a cycle start; frames that no later cycle can take are dropped. -/
def takeConns (m : Mach) : Mach :=
  let fresh := m.safe.rx.drop m.safe.rxSeen
  let m := fresh.foldl countCrc m
  let m := (recvConns m.safe.cfg).foldl (takeConn fresh) m
  let keep := m.safe.rx.filter (fun l => decide (m.safe.k ≤ field l 4 8 + 1))
  onSafe m (fun s => { s with rx := keep, rxSeen := keep.length })

/-- The frame that a valid connection holds. -/
def connFrame (m : Mach) (c : Nat) : Option (List Nat) := if connValid m c then some (connSt m c).used else none

/-! ## Demands on axis sets (R442, R446, R451) -/

/-- Rank of a stop function code of INPUTS and CONNS. -/
def fnRank (fn : Nat) : Nat := match fn with
  | 1 => 5 | 2 => 4 | 3 => 3 | 4 => 1 | _ => 0

/-- Whether the function of an input acts: it is not in RUN as the cycle start froze it (R438), or waits for a reset. -/
def inputActs (m : Mach) (i : Nat) : Bool := !m.safe.inRun.testBit i || m.safe.inWait.testBit i

/-- The inputs in use. -/
def inputsUsed (m : Mach) : List Nat := (List.range 16).filter (fun i => inMode m i != 0)

/-- Highest rank that the inputs of the node demand of a set. -/
def localDemand (m : Mach) (s : Nat) : Nat :=
  ((inputsUsed m).filter (fun i => inputActs m i && (field (inRec m.safe.cfg i) 8 4).testBit s)).foldl
    (fun r i => max r (fnRank (field (inRec m.safe.cfg i) 3 1))) 0

/-- The receive connections of island frames. -/
def frameConns (m : Mach) : List Nat := (recvConns m.safe.cfg).filter (fun c => field (connRec m.safe.cfg c) 7 1 == 1)

/-- Whether remote input `b` of connection `c` demands; with ANY, together with the other connections that name it (R452). -/
def remoteDemands (m : Mach) (c b : Nat) : Bool :=
  let dem (c : Nat) : Bool := (connFrame m c).all (fun l => !(field l 16 4).testBit b)
  if (field (connRec m.safe.cfg c) 6 1).testBit 0 then
    let peers := (frameConns m).filter (fun d => (field (connRec m.safe.cfg d) 6 1).testBit 0 && (field (connRec m.safe.cfg d) 8 2).testBit b)
    let ok := peers.filter (connValid m)
    if ok = [] then true else ok.all dem
  else dem c

/-- Whether the loss of a connection that carries verdicts counts; with ANY, only when every such connection is lost. -/
def verdictLost (m : Mach) (c : Nat) : Bool :=
  let r := connRec m.safe.cfg c
  field r 8 2 == 0 && !connValid m c && (!(field r 6 1).testBit 0 ||
    (frameConns m).all (fun d => field (connRec m.safe.cfg d) 8 2 != 0 || !(field (connRec m.safe.cfg d) 6 1).testBit 0 || !connValid m d))

/-- Highest rank that remote inputs demand of a set, lost connections included. -/
def remoteDemand (m : Mach) (s : Nat) : Nat :=
  ((frameConns m).map (fun c =>
    let r := connRec m.safe.cfg c
    let here := (field r 12 4).testBit s
    if field r 8 2 ≠ 0 then (if here && (bitsOf 16 (field r 8 2)).any (remoteDemands m c) then fnRank (field r 10 1) else 0)
    else if verdictLost m c && (here || field r 12 4 == 0) then 5 else 0)).foldl max 0

/-- Rank of the verdict on a set in an island frame. -/
def verdictRank (l : List Nat) (s : Nat) : Nat := match bits (field l 44 8) (2 * s) 2 with
  | 1 => 1 | 2 => 4 | 3 => 5 | _ => 0

/-- Highest rank of the verdicts received on a set, from the connections kept by `p`. -/
def receivedVerdict (m : Mach) (p : List Nat → Bool) (s : Nat) : Nat :=
  ((frameConns m).map (fun c => match connFrame m c with
    | some l => if p l then verdictRank l s else 0
    | none => 0)).foldl max 0

/-! ## Observed axes (R449) -/

/-- What the receiver of a port holds. -/
def obsPort (m : Mach) (k : Nat) : ObsSt := sget m.safe.obs k {}

/-- Position of the newest valid word at the cycle start. -/
def obsPos (o : ObsSt) : Int := (o.held.headD (0, 0)).1

/-- Speed as count difference over ticks, against the newest word at least one safety cycle older. -/
def obsSpeed (o : ObsSt) : Nat × Nat :=
  match o.held with
  | [] => (0, 1)
  | x :: l => match l.find? (fun y => decide (y.2 + 200000 ≤ x.2)) with
    | some y => ((x.1 - y.1).natAbs, (x.2 - y.2).toNat)
    | none => (0, 1)

/-- Whether a speed is above `n / d` counts/s. -/
def faster (v : Nat × Nat) (n d : Nat) : Bool := decide (n * v.2 < v.1 * 800000000 * d)

/-- A speed in whole counts/s for DETAIL. -/
def speedDetail (v : Nat × Nat) : Nat := min (v.1 * 800000000 / max 1 v.2) (2 ^ 32 - 1)

/-- Whether the observation of AXES record `i` stands at fault. -/
def obsBad (m : Mach) (i : Nat) : Bool :=
  let r := obsRec m.safe.cfg i
  let a := obsPort m (field r 0 1)
  let b := obsPort m (field r 1 1)
  decide (field r 11 1 ≤ a.miss) || (field r 1 1 != 0xFF && (decide (field r 11 1 ≤ b.miss) ||
    (a.held != [] && b.held != [] && decide ((field r 12 4 : Int) < absI (obsPos a - obsPos b)))))

/-- Whether record `i` has a valid observation: no fault stands, and a word has come on each of its ports. -/
def obsValid (m : Mach) (i : Nat) : Bool :=
  let r := obsRec m.safe.cfg i
  !obsBad m i && (obsPort m (field r 0 1)).held != [] && (field r 1 1 == 0xFF || (obsPort m (field r 1 1)).held != [])

/-- The speed of the axis of record `i`. -/
def axisSpeed (m : Mach) (i : Nat) : Nat × Nat := obsSpeed (obsPort m (field (obsRec m.safe.cfg i) 0 1))
/-- Its position. -/
def axisPos (m : Mach) (i : Nat) : Int := obsPos (obsPort m (field (obsRec m.safe.cfg i) 0 1))

/-! ## Axis sets (R446 to R448) -/

/-- State of a set. -/
def setSt (m : Mach) (s : Nat) : SetSt := sget m.safe.sets s {}
/-- Replaces it. -/
def putSet (m : Mach) (s : Nat) (x : SetSt) : Mach := onSafe m (fun y => { y with sets := sput y.sets s x {} })

/-- A violation puts the set into LOCKOUT (R446); the code names the axis, or the set (R467). -/
def lockSet (m : Mach) (s code cntr slot detail : Nat) : Mach :=
  let m := putSet m s { setSt m s with st := 6, lock := true }
  let m := safeCount (safeCount (onSafe m (fun y => { y with cause := code })) cntr) 13
  match slotAxis m slot with
  | some a => safeNews m code 3 3 a.axis detail
  | none => safeNode m code 3 (detail % 2 ^ 24 + s % 32 * 2 ^ 24)

/-- The state that a demand of a given rank gives (R446): a stop that has ended keeps its end state while its demand stands. -/
def demandState (st dem : Nat) : Nat :=
  if dem = 5 then 5 else if dem = 4 then (if st = 5 then 5 else 4) else if dem = 3 then (if st = 2 then 2 else 3) else dem

/-- The first axis of a set with a property. -/
def firstAxis (m : Mach) (s : Nat) (p : Nat → Bool) : Option Nat := (setObs m.safe.cfg s).find? p

/-- One safety cycle of a stop (R447): SS1-t ends at T_SS1 alone. -/
def stopStep (m : Mach) (s : Nat) (x : SetSt) : Mach :=
  let r := setRec m.safe.cfg s
  let x := { x with t := x.t + 1 }
  let vz := field r 8 4
  let tooFast (i : Nat) : Bool :=
    -- env = max(v_zero, v0 - a_mon t) + v_tol, v0 being a fraction over its ticks
    let v0 := sget x.v0 i (0, 1)
    let v := axisSpeed m i
    let down := field r 4 4 * x.t
    faster v (vz + field r 12 4) 1 &&
      decide (v0.1 * 800000000 * v.2 + field r 12 4 * v0.2 * v.2 < v.1 * 800000000 * v0.2 + down * v0.2 * v.2)
  match (if field r 2 1 = 1 then firstAxis m s tooFast else none) with
  | some i => lockSet (putSet m s x) s E_SAFE_ENVELOPE 6 (field (obsRec m.safe.cfg i) 2 1) (speedDetail (axisSpeed m i))
  | none =>
    if !(x.st == 4 && field r 2 1 == 0) && (setObs m.safe.cfg s).all (fun i => !faster (axisSpeed m i) vz 1) then
      if x.st = 4 then putSet m s { x with st := 5 }
      else putSet m s { x with st := 2, p0 := (setObs m.safe.cfg s).foldl (fun q i => sput q i (axisPos m i) 0) [] }
    else if (if x.st = 4 then field r 16 2 else field r 18 2) * 4 ≤ x.t then
      if x.st = 4 then putSet m s { x with st := 5 }
      else match firstAxis m s (fun i => faster (axisSpeed m i) vz 1) with
        | some i => lockSet (putSet m s x) s E_SAFE_ENVELOPE 6 (field (obsRec m.safe.cfg i) 2 1) (speedDetail (axisSpeed m i))
        | none => putSet m s x
    else putSet m s x

/-- Supervision of SLS and SOS (R448); the limit of SLS is the fraction `num / den` of SLS_LIM. -/
def superviseSet (m : Mach) (s num den : Nat) : Mach :=
  let x := setSt m s
  let r := setRec m.safe.cfg s
  if x.st = 1 then
    match firstAxis m s (fun i => faster (axisSpeed m i) (field r 24 4 * num) den) with
    | some i => lockSet m s E_SAFE_SLS 5 (field (obsRec m.safe.cfg i) 2 1) (speedDetail (axisSpeed m i))
    | none => m
  else if x.st = 2 then
    let off (i : Nat) : Nat := (axisPos m i - sget x.p0 i 0).natAbs
    match firstAxis m s (fun i => decide (field r 20 4 < off i) || faster (axisSpeed m i) (field r 8 4) 1) with
    | some i => lockSet m s E_SAFE_SOS 7 (field (obsRec m.safe.cfg i) 2 1) (min (off i) (2 ^ 32 - 1))
    | none => m
  else m

/-- One safety cycle of a set under a demand. A set without a slot of the node shows the state demanded. -/
def setStep (m : Mach) (s dem num den : Nat) : Mach :=
  let x := setSt m s
  if x.st = 6 then m
  else
    let n := demandState x.st dem
    if setObs m.safe.cfg s = [] ∧ field (setRec m.safe.cfg s) 0 2 = 0 then putSet m s { x with st := dem }
    else if (n = 3 ∨ n = 4) ∧ n ≠ x.st then
      putSet m s { x with st := n, t := 0, v0 := (setObs m.safe.cfg s).foldl (fun q i => sput q i (axisSpeed m i) (0, 1)) [] }
    else if n = 3 ∨ n = 4 then superviseSet (stopStep m s x) s num den
    else superviseSet (putSet m s { x with st := n }) s num den

/-- Encoder observation of all AXES records at a cycle start (R449). -/
def observeAxes (m : Mach) : Mach :=
  let ports := ((obsUsed m.safe.cfg).flatMap (fun i => [field (obsRec m.safe.cfg i) 0 1, field (obsRec m.safe.cfg i) 1 1])).dedup
  let m := ports.foldl (fun m k =>
    let o := obsPort m k
    onSafe m (fun s => { s with obs := sput s.obs k { o with held := o.words, miss := if o.new then 0 else satAdd 255 o.miss 1, new := false } {} })) m
  (obsUsed m.safe.cfg).foldl (fun m i =>
    let r := obsRec m.safe.cfg i
    let o := obsPort m (field r 0 1)
    let bad := obsBad m i
    let m := onSafe m (fun s => { s with obs := sput s.obs (field r 0 1) { o with bad := bad } {} })
    if !bad || o.bad || !islandConfigured m then m
    else match setOfSlot m.safe.cfg (field r 2 1) with
      | some s => if (setSt m s).st = 6 then m else lockSet m s E_SAFE_ENC_OBS 4 (field r 2 1) (field r 0 1)
      | none => safeNode (safeCount m 4) E_SAFE_ENC_OBS 3 (field r 0 1)) m

/-! ## Reset (R457) -/

/-- Whether something waits for a reset. -/
def resetDue (m : Mach) : Bool :=
  m.safe.st == 5 || m.safe.hold || m.safe.inWait != 0 ||
    m.safe.sets.any (fun x => x.2.lock || (x.2.sep && field (setRec m.safe.cfg x.1) 3 1 == 1))

/-- The code of the first cause that stands against a reset. -/
def resetBlocked (m : Mach) : Option Nat :=
  if (inputsUsed m).any (fun i => !inputRun m i) then some E_SAFE_DISCREPANCY
  else if (List.range 8).any (fun o => edmOn m o && !m.safe.out.testBit o && !m.safe.edm.testBit o) then some E_SAFE_EDM
  else if m.safe.mism ≠ 0 then some E_SAFE_READBACK
  else if (recvConns m.safe.cfg).any (fun c => !connValid m c && !((field (connRec m.safe.cfg c) 6 1).testBit 0
      && (recvConns m.safe.cfg).any (fun d => (field (connRec m.safe.cfg d) 6 1).testBit 0 && connValid m d))) then some E_SAFE_CONN_LOST
  else if m.safe.sets.any (fun x => x.2.lock && (setObs m.safe.cfg x.1).any (fun i => !obsValid m i)) then some E_SAFE_ENC_OBS
  else none

/-- An accepted reset: it ends lock-outs and waits; a stop demanded by separation ends with its set's step. -/
def acceptReset (m : Mach) : Mach :=
  let m := onSafe m (fun s => { s with
    st := if s.st = 5 then s.was else s.st, hold := false, inWait := 0, inFault := 0, edmFault := 0, outFault := 0, stoFault := 0,
    inRun := maskOf ((inputsUsed m).filter (inputRun m)),
    stuck := false, sets := s.sets.map (fun x => (x.1, if x.2.lock then { x.2 with lock := false, st := 5 } else x.2)) })
  safeNode (safeCount m 11) E_SAFE_RESET_ACCEPTED 7 0

/-- A valid press: it confirms an operation, or resets; the second part says that a reset was accepted. -/
def judgePress (m : Mach) : Mach × Bool :=
  match m.safe.confirm with
  | some (op, d, false) => (onSafe m (fun s => { s with confirm := some (op, d, true) }), false)
  | _ =>
    if !resetDue m then (safeCount m 11, false)
    else match resetBlocked m with
      | some c => (safeNode (safeCount m 12) E_SAFE_RESET_REFUSED 7 c, false)
      | none => (acceptReset m, true)

/-- The presses that a cycle start freezes. -/
def judgePresses : Nat → Mach × Bool → Mach × Bool
  | 0, r => r
  | n + 1, r => let q := judgePress r.1; judgePresses n (q.1, r.2 || q.2)

/-! ## Configuration frames (R459, R460) -/

/-- The bytes posted. -/
def mboxFrame (m : Mach) : List Nat := (List.range (getF m SAFE_MBX_LEN_LEN)).map (fun i => sget m.safe.mbox i 0)

/-- The first check of R459 that a frame fails: its code with the DETAIL that R467 and 16 R488 give it. -/
def cfgFault (m : Mach) (f : List Nat) : Option (Nat × Nat) :=
  let op := field f 6 1
  let st := m.safe.st
  match cfgStep1 (nodeId m) f.length f with
  | some o => some (E_SAFE_CFG_FORMAT, o)
  | none =>
    if (if op = 3 then m.safe.key ≠ [] else m.safe.key = [] ∨ sha384 (cfgPub f) ≠ m.safe.key) then some (E_SAFE_CFG_AUTH, 2)
    else if !ecdsaOk (cfgPub f) (cfgSig f) (cfgSigned f) then some (E_SAFE_CFG_AUTH, 3)
    else match op with
      | 0 =>
        if st ≠ 2 ∧ st ≠ 3 then some (E_SAFE_CFG_STATE, st)
        else match cfgContent (nodeId m) f with
          | some o => some (E_SAFE_CFG_FORMAT, o)
          | none =>
            if (sepOf f).any (fun p => decide (72000 < sepCost p)) then some (E_SAFE_SEP_CAPACITY, (sepOf f).elim 0 (fun p => ceilDiv (sepCost p) 400))
            else if st = 2 ∧ m.safe.seals ≠ [] ∧ m.safe.seals.getLast? ≠ some (sha384 (cfgSigned f)) then some (E_SAFE_CFG_SEAL, noParam)
            else none
      | 1 =>
        if st ≠ 3 then some (E_SAFE_CFG_STATE, st)
        else if cfgLen f ≠ 304 then some (E_SAFE_CFG_FORMAT, 8)
        else if cfgBody f ≠ m.safe.digest then some (E_SAFE_CFG_FORMAT, 160)
        else if 16 ≤ m.safe.seals.length then some (E_SAFE_SEAL_FULL, noParam)
        else none
      | 2 => if st ≠ 4 ∧ st ≠ 5 then some (E_SAFE_CFG_STATE, st) else if cfgLen f ≠ 256 then some (E_SAFE_CFG_FORMAT, 8) else none
      | _ => if st ≠ 2 then some (E_SAFE_CFG_STATE, st) else if cfgLen f ≠ 256 then some (E_SAFE_CFG_FORMAT, 8) else none

/-- The code of that check. -/
def cfgRefusal (m : Mach) (f : List Nat) : Option Nat := (cfgFault m f).map (·.1)

/-- The result of the frame taken with its DETAIL, which the next mirror shows. -/
def mbxResult (m : Mach) (code det : Nat) : Mach :=
  onSafe m (fun s => { s with mbx := code, mbxDet := det, mbxDue := true, mbxSeq := getF m SAFE_MBX_STAT_SEQ })

/-- The cycle start takes a posted frame and checks it: a LOAD is then due, another operation waits for its confirmation. -/
def takeFrame (m : Mach) : Mach :=
  if crosses m 13 = false ∨ getF m SAFE_MBX_STAT_STATE ≠ 1 then m
  else
    let m := setF m SAFE_MBX_STAT_STATE 0 2
    let f := mboxFrame m
    match cfgFault m f with
    | some c => mbxResult m c.1 c.2
    | none =>
      match field f 6 1 with
      | 0 => onSafe m (fun s => { s with taken := some f })
      | 1 => mbxResult (onSafe m (fun s => { s with confirm := some (1, cfgBody f, false) })) 0 0
      | 2 => mbxResult (onSafe m (fun s => { s with confirm := some (2, [], false) })) 0 0
      | _ => mbxResult (onSafe m (fun s => { s with confirm := some (3, sha384 (cfgPub f), false) })) 0 0

/-- CONFIG_LOAD (R437, R460): the accepted LOAD frame is installed, unless the island has halted since. Filters start at the safe level; inputs with manual restart
wait for a reset. -/
def configLoad (m : Mach) : Mach :=
  match (if islandRuns m then m.safe.taken else none) with
  | none => m
  | some f =>
    let anti := maskOf ((List.range 16).filter (fun i => field (inRec f i) 0 1 == 2))
    let man := maskOf ((List.range 16).filter (fun i => field (inRec f i) 0 1 != 0 && field (inRec f i) 2 1 == 1))
    let m := onSafe m (fun s => { s with
      taken := none, cfg := f, digest := sha384 (cfgSigned f), lvA := 0, lvB := anti, filt := [], inFault := 0, inWait := man, outNext := 0, stoNext := 0,
      setV := (sepOf f).elim [] (fun p => (List.range 32).map (sepSetV p)), sets := [], obs := [], conns := [], sens := [], posBad := [] })
    let m := mbxResult m 0 0
    if m.safe.st = 2 then onSafe m (fun s => { s with st := if s.seals = [] then 3 else 4 })
    else lockIsland (safeNode m E_SAFE_CFG_CHANGED 3 0) E_SAFE_CFG_CHANGED

/-- CONFIG_LOAD. -/
def execConfigLoad (s : State) : Out := done configLoad s

/-- The operation `op` that a press has confirmed: its bytes. A halted island carries out none (R437). -/
def confirmed (m : Mach) (op : Nat) : Option (List Nat) := match m.safe.confirm with
  | some (o, d, true) => if o = op ∧ islandRuns m then some d else none
  | _ => none

/-- CONFIG_SEAL (R460). -/
def configSeal (m : Mach) : Mach :=
  match confirmed m 1 with
  | none => m
  | some d =>
    let n := m.safe.seals.length
    let m := onSafe m (fun s => { s with confirm := none, seals := s.seals ++ [d], st := if s.st = 3 then 4 else s.st,
                                         was := if s.st = 5 then 4 else s.was })
    safeNode m E_SAFE_SEALED 7 n

/-- CONFIG_SEAL. -/
def execConfigSeal (s : State) : Out := done configSeal s

/-- CONFIG_COMMISSION (R460). -/
def configCommission (m : Mach) : Mach :=
  match confirmed m 2 with
  | none => m
  | some _ => onSafe m (fun s => { s with confirm := none, st := 3, was := 3, hold := true, outNext := 0, stoNext := 0 })

/-- CONFIG_COMMISSION. -/
def execConfigCommission (s : State) : Out := done configCommission s

/-- CONFIG_KEY (R460). -/
def configKey (m : Mach) : Mach :=
  match confirmed m 3 with
  | none => m
  | some d => onSafe m (fun s => { s with confirm := none, key := if s.key = [] then d else s.key })

/-- CONFIG_KEY. -/
def execConfigKey (s : State) : Out := done configKey s

/-- CONFIRM_TIMEOUT (R460). -/
def confirmTimeout (m : Mach) : Mach :=
  match m.safe.confirm with
  | some (op, _, false) => if islandRuns m then safeNode (onSafe m (fun s => { s with confirm := none })) E_SAFE_CONFIRM_TIMEOUT 0 op else m
  | _ => m

/-- CONFIRM_TIMEOUT. -/
def execConfirmTimeout (s : State) : Out := done confirmTimeout s

end Sys2Proof.Machine
end

