-- ==== Sys2Proof/Machine/Separation.lean ====
section
/-! DEFINITION. Speed-and-separation monitoring (16): position frames, the capsule model, intrusion points, distances, the
protective condition and the enforced fraction. Fractions are exact, in steps of 1 / (65535 * 10^9). -/

namespace Sys2Proof.Machine

/-! ## Joint positions (R470 to R472) -/

/-- The receive connection of position frames of a node. -/
def posConn (m : Mach) (node : Nat) : Option Nat :=
  (recvConns m.safe.cfg).find? (fun c => field (connRec m.safe.cfg c) 7 1 == 2 && field (connRec m.safe.cfg c) 0 1 == node)

/-- The position of a slot of a node as its frame holds it. -/
def remotePos (m : Mach) (node slot : Nat) : Option Int :=
  match (posConn m node).bind (connFrame m) with
  | some l => if (field l 14 2).testBit slot then some (s32 l (16 + 4 * slot)) else none
  | none => none

/-- The joint frames of a chain and whether each joint is valid. -/
def sepFrames (m : Mach) (p : SepCfg) (c : Nat) : List (Frame × Bool) :=
  let rs := chainJoints p c
  let ls := rs.map sepLink
  let base := baseFrame (s32s (p.chains.getD c []) 0 12)
  let pos (r : List Nat) : Option Int := if field r 0 1 = 2 then some 0 else remotePos m (field r 2 1) (field r 3 1)
  let q := (rs.filter (fun r => field r 0 1 != 2)).map (fun r => (pos r).getD 0)
  (fk base ls q).zipIdx.map (fun x => (x.1, (sepAnc p c x.2).all (fun j => (pos (rs.getD j [])).isSome)))

/-- A point as the island stores it, in Length: rounded and saturated as 05 R158 has it. -/
def storePoint (a : List Fx) : List Int := a.map (fun x => clampI (-2 ^ 31) (2 ^ 31 - 1) (toFmt 23 x))

/-- A capsule: its end points in the cell frame and its radius, in Length. -/
abbrev Capsule := List Int × List Int × Nat

/-- A capsule in the cell frame with its set mask; none where its joint is invalid. -/
def placeCapsule (frames : List (List (Frame × Bool))) (r : List Nat) : Nat × Option Capsule :=
  let x := (frames.getD (field r 0 1) []).getD (field r 1 1) ({}, false)
  let at_ (o : Nat) : List Int := storePoint (vadd x.1.p (mV x.1.r ((s32s r o 3).map (ofFmt 23))))
  (field r 4 4, if x.2 then some (at_ 8, at_ 20, field r 32 4) else none)

/-! ## Sensors (R475 to R477) -/

/-- State of a Helanane port. -/
def sensSt (m : Mach) (k : Nat) : SensSt := sget m.safe.sens k {}
/-- Replaces it. -/
def putSens (m : Mach) (k : Nat) (x : SensSt) : Mach := onSafe m (fun s => { s with sens := sput s.sens k x {} })

/-- The sensor record of a port. -/
def sensRec (m : Mach) (k : Nat) : Option (List Nat) := (sepOf m.safe.cfg).bind (fun p => p.sens.find? (fun r => field r 0 1 == k))

/-- SENSOR_FRAME_RECEIVE (R476): a frame arrives on a Helanane port, its first byte at cell time `t`. -/
def sensorFrame (port t : Nat) (bytes : List Nat) (m : Mach) : Mach :=
  if 4 ≤ port ∨ !islandConfigured m ∨ (sensRec m port).isNone then m
  else
    let x := sensSt m port
    putSens m port { x with rx := lastN 16 (x.rx ++ [(t, bytes)]) }

/-- SENSOR_FRAME_RECEIVE. -/
def execSensorFrameReceive (port t : Nat) (bytes : List Nat) (s : State) : Out := done (sensorFrame port t bytes) s

/-- Whether a sensor frame is well formed: CRC, SENS_ID, FORMAT, reserved bytes. -/
def sensorOk (m : Mach) (r l : List Nat) : Bool :=
  let n := field l 14 1
  decide (n ≤ 64) && l.length == 20 + 16 * n && field l 0 2 == field r 2 2 && field l 2 1 == 1 && zeros l 15 1
    && (List.range n).all (fun i => zeros l (30 + 16 * i) 2)
    && crcS (crcInit m (field r 2 2)) (l.take (16 + 16 * n)) == field l (16 + 16 * n) 4

/-- Whether the cycle start may take a frame. -/
def sensorTakes (m : Mach) (r : List Nat) (x : SensSt) (f : Nat × List Nat) : Bool :=
  sensorOk m r f.2 && decide (field f.2 3 1 ≤ 1) && x.seq.all (fun s => decide (s < field f.2 4 4))
    && decide ((m.safe.k + 2 ^ 32 - field f.2 8 4) % 2 ^ 32 ≤ 4) && decide ((field f.2 12 2 * 800 : Int) + max 0 (m.safe.start - f.1) ≤ field r 4 4 * 800)

/-- The points of a frame in the cell frame, each with its uncertainty (R476). -/
def sensorPoints (p : SepCfg) (r l : List Nat) : List (List Int × Nat) :=
  let rot := (s32s r 24 9).map (ofFmt 30)
  let org := (s32s r 12 3).map (ofFmt 23)
  (List.range (field l 14 1)).map (fun i =>
    (storePoint (vadd org (mV rot ((s32s l (16 + 16 * i) 3).map (ofFmt 23)))), max p.zd (ceilDiv (field l (28 + 16 * i) 2 * 2 ^ 23) 10000)))

/-- The cycle start at a port: the newest frame that it may take, or one more cycle without. -/
def takeSensor (p : SepCfg) (m : Mach) (r : List Nat) : Mach :=
  let k := field r 0 1
  let x := sensSt m k
  let bad := x.rx.any (fun f => !sensorOk m r f.2)
  -- STATE 2 counts where no later frame is taken
  let st2 := (x.rx.reverse.takeWhile (fun f => !sensorTakes m r x f)).any (fun f =>
    sensorOk m r f.2 && field f.2 3 1 == 2 && x.seq.all (fun s => decide (s < field f.2 4 4)))
  let got := (x.rx.filter (sensorTakes m r x)).getLast?
  let y : SensSt := match got with
    | some f => { x with rx := [], pts := sensorPoints p r f.2, seq := some (field f.2 4 4), miss := 0, lost := false, badRx := false,
                              warns := min 0xFFFF (x.warns + field f.2 3 1), gaps := min 0xFFFF (x.gaps + x.seq.elim 0 (fun s => field f.2 4 4 - s - 1)) }
    | none => { x with rx := [], miss := satAdd 255 x.miss 1, badRx := x.badRx || bad }
  let lose := st2 || (got.isNone && decide (field r 8 1 ≤ y.miss))
  let m := putSens m k { y with lost := y.lost || lose }
  if lose && !x.lost then safeNode m E_SAFE_SENSOR_LOST 0 (k + 256 * (if st2 then 1 else if y.badRx then 2 else 0)) else m

/-- The request frame of a port (R475). -/
def sensorRequest (m : Mach) (r : List Nat) : Nat × List Nat :=
  let l := leBytes 4 m.safe.k ++ [nodeId m, field r 0 1, 0, 0, 0, 0, 0, 0]
  (field r 0 1, l ++ leBytes 4 (crcS (crcInit m (field r 2 2)) l))

/-! ## The enforced fraction (R483) -/

/-- 1 in steps of a fraction. -/
def fracOne : Nat := 65535 * 10 ^ 9

/-- One cycle start at `now` µs with the newest FQ. -/
def fracStep (grace fdec now fq : Nat) (x : FracSt) : FracSt :=
  let g := fq * 10 ^ 9
  if x.fe ≤ g then { fe := g, fq := fq, low := none, falling := false, upTo := now }
  else
    let low := x.low.getD now
    let from_ := if x.falling then x.upTo else low + grace
    if now < from_ ∨ (!x.falling ∧ now = from_) then { x with fq := fq, low := some low }
    else
      let fe := max g (x.fe - fdec * 65535 * (now - from_))
      if fe = g then { fe := g, fq := fq, low := none, falling := false, upTo := now }
      else { fe := fe, fq := fq, low := some low, falling := true, upTo := now }

/-! ## Distance, condition, target (R478 to R482) -/

/-- The scalar product of two vectors of integers. -/
def idot (a b : List Int) : Int := (List.zipWith (· * ·) a b).foldl (· + ·) 0

/-- The squared distance of point `p` from segment `ab`, exactly, rounded down. -/
def segPoint2 (a b p : List Int) : Nat :=
  let u := vsub b a
  let w := vsub p a
  let t := idot w u
  if t ≤ 0 then (idot w w).toNat
  else if idot u u ≤ t then let e := vsub p b; (idot e e).toNat
  else ((idot w w * idot u u - t * t) / idot u u).toNat

/-- d of a capsule and a point with its uncertainty (R478): exact, rounded toward the smaller, not below 0. -/
def pointDist (c : Capsule) (pt : List Int × Nat) : Nat := isqrt (segPoint2 c.1 c.2.1 pt.1) - c.2.2 - pt.2

/-- The sensor records that a set's mask names. -/
def setSensors (p : SepCfg) (s : Nat) : List (List Nat) :=
  p.sens.filter (fun r => (field (p.sets.getD s []) 0 1).testBit (field r 0 1))

/-- d of a set, in Length (R478): 0 where a capsule cannot be placed or a port is lost, 256 m without capsules or points. -/
def setDist (m : Mach) (p : SepCfg) (caps : List (Nat × Option Capsule)) (s : Nat) : Nat :=
  let mine := caps.filter (fun c => c.1.testBit s)
  let ports := (setSensors p s).map (fun r => sensSt m (field r 0 1))
  if mine.any (fun c => c.2.isNone) || ports.any (·.lost) then 0
  else
    let pts := ports.flatMap (·.pts)
    (mine.flatMap (fun c => match c.2 with
      | some x => pts.map (pointDist x)
      | none => [])).foldl min (2 ^ 31)

/-- The quantities of R479 times 2 * FDEC * 10^6, as exact integers: a, b, c0, ct and the factor. -/
structure SepQ where
  a : Int := 0
  b : Int := 0
  c0 : Int := 0
  ct : Int := 0

/-- R479: `age` is AGE_MAX of the set's sensors in µs, `tx` the delay of the connection in safety cycles. -/
def sepQ (p : SepCfg) (v age tx d : Nat) : SepQ :=
  let tt := age + 500 + 250 * tx + p.grace
  let k : Int := 2 * p.fdec * 10 ^ 6
  let c0 : Int := d * k - (p.vh * tt + v * p.tpx + (p.c + p.zr) * 10 ^ 6) * (2 * p.fdec)
  { a := v * 10 ^ 9, b := v * tt * (2 * p.fdec) + p.vh * (2 * 10 ^ 9), c0 := c0, ct := c0 - p.vh * p.look * (2 * p.fdec) }

/-- a f^2 + b f <= c for a fraction f = num / den. -/
def sepHolds (q : SepQ) (c : Int) (num den : Nat) : Bool := decide (q.a * num * num + q.b * num * den ≤ c * den * den)

/-- FQ of the target (R482): the largest value whose fraction keeps the condition with ct. -/
def sepTarget (q : SepQ) : Nat :=
  if q.ct ≤ 0 then 0
  else (List.range 16).reverse.foldl (fun f i => if f + 2 ^ i ≤ 65535 ∧ sepHolds q q.ct (f + 2 ^ i) 65535 then f + 2 ^ i else f) 0

/-- Safety cycles that a frame takes to the worker of a set: D + M, in [1, 5], which only the worker's configuration holds. -/
def sepTx (s : Nat) : Nat := 1 + Config.sepDelay s % 5

/-- One safety cycle of a set at the manager (R481, R482); `reset` says that a reset was accepted. -/
def sepSet (p : SepCfg) (caps : List (Nat × Option Capsule)) (reset : Bool) (m : Mach) (s : Nat) : Mach :=
  let x := setSt m s
  let d := setDist m p caps s
  let age := ((setSensors p s).map (fun r => field r 4 4)).foldl max 0
  let q := sepQ p (nth m.safe.setV s) age (sepTx s) d
  let mdl := match x.sent[sepTx s - 1]? with
    | some f => fracStep p.grace p.fdec (m.safe.k * 250) f x.mdl
    | none => x.mdl
  let ok := sepHolds q q.c0 mdl.fe fracOne && d != 0
  let manual := field (setRec m.safe.cfg s) 3 1 == 1
  let clears := decide (mdl.fe = 0) && decide (0 < q.c0) && d != 0
  let stop := !ok || (x.sep && !(clears && (!manual || reset)))
  let fq := if stop then 0 else sepTarget q
  let m := if stop && !x.sep then safeNode m E_SAFE_SEP_STOP 0 (field (p.sets.getD s []) 1 1 + s * 2 ^ 24) else m
  let m := if (fq = 65535) ≠ (x.fq = 65535) then safeNode m E_SAFE_SEP_LIMIT 7 (fq + s * 2 ^ 24) else m
  putSet m s { setSt m s with mdl := mdl, sep := stop, fq := fq, sent := (fq :: x.sent).take 5 }

/-- The invalid position sources of the capsule model, reported as they become invalid. -/
def sepSources (p : SepCfg) (m : Mach) : Mach :=
  let srcs := ((p.joints.filter (fun j => field j.2 0 1 != 2)).map (fun j => field j.2 2 1 * 16 + field j.2 3 1)).dedup
  let bad := srcs.filter (fun x => (remotePos m (x / 16) (x % 16)).isNone)
  let m := (bad.filter (fun x => !m.safe.posBad.contains x)).foldl (fun m x => safeNode m E_SAFE_POS_INVALID 0 (x / 16 + x % 16 * 256)) m
  onSafe m (fun s => { s with posBad := bad })

/-- Separation of a safety cycle on a manager (R469). -/
def separate (reset : Bool) (m : Mach) : Mach :=
  match sepOf m.safe.cfg with
  | none => m
  | some p =>
    if p.caps = [] ∨ !isManager m then m
    else
      let m := sepSources p m
      let frames := (List.range p.chains.length).map (sepFrames m p)
      let caps := p.caps.map (placeCapsule frames)
      (List.range 32).foldl (sepSet p caps reset) m

/-- The sensors at a cycle start: requests go out and frames are taken. -/
def takeSensors (m : Mach) : Mach :=
  match sepOf m.safe.cfg with
  | none => m
  | some p => onSafe (p.sens.foldl (takeSensor p) m) (fun s => { s with req := p.sens.map (sensorRequest m) })

/-! ## At the worker (R483, R484) -/

/-- The connections that carry LIMIT to a worker: island frames of the managers. -/
def sepConns (m : Mach) : List Nat := (frameConns m).filter (fun c => decide (field (connRec m.safe.cfg c) 0 1 < 2))

/-- Whether a set of the node is limited by separation. -/
def sepLimited (m : Mach) (s : Nat) : Bool :=
  !isManager m && cfgSec m.safe.cfg 8 != [] && field (setRec m.safe.cfg s) 0 2 != 0 && sepConns m != []

/-- The newest FQ of a set over the connections (R484): a lost one contributes 0, with ANY only if every one is lost. -/
def sepFq (m : Mach) (s : Nat) : Nat :=
  let cs := sepConns m
  let any (c : Nat) : Bool := (field (connRec m.safe.cfg c) 6 1).testBit 0
  let counted := cs.filter (fun c => connValid m c || !any c || cs.all (fun d => !any d || !connValid m d))
  (counted.map (fun c => match connFrame m c with
    | some l => field l (52 + 2 * s) 2
    | none => 0)).foldl min 65535

/-- The enforced fractions of a worker at a cycle start. -/
def limitSets (m : Mach) : Mach :=
  match sepOf m.safe.cfg with
  | none => m
  | some p => ((List.range 32).filter (sepLimited m)).foldl (fun m s =>
      let x := setSt m s
      putSet m s { x with frac := fracStep p.grace p.fdec (m.safe.k * 250) (sepFq m s) x.frac }) m

/-- The rank that separation demands of a set on this node: a stop at the manager, SLS at the worker. -/
def sepDemand (m : Mach) (s : Nat) : Nat :=
  if (setSt m s).sep then
    (match sepOf m.safe.cfg with
     | some p => if field (p.sets.getD s []) 1 1 = 3 then 5 else 4
     | none => 0)
  else if sepLimited m s then 1 else 0

end Sys2Proof.Machine
end

