-- ==== Sys2Proof/Machine/SafeMain.lean ====
section
/-! DEFINITION. The safety cycle as a whole, the frames and the mirror that it publishes, and the SAFE block of the main side
(15 R438, R450, R451, R463 to R468; 16 R470, R471, R485; 02 R72, R73). -/

namespace Sys2Proof.Machine

/-! ## The cycle (R438, 02 R72, R73) -/

/-- The number of the safety cycle that starts near `t` (R72, R73): the next one. The first cycle, and the first one with a marker
after a step of cell time, takes its number from cell time. -/
def safetyNumber (m : Mach) (t : Nat) : Nat :=
  if m.safe.begun ∧ m.safe.anew ≠ 2 then m.safe.k + 1 else (t + 100000) / 200000

/-- By how much the island lengthens or shortens the cycle that ends now (R73): toward the instant of the next one's number where a marker
has come since its start, at most 0.1 %. -/
def cycleShift (m : Mach) : Int :=
  let p := m.safe.start + 200000
  if m.safe.markAge = 0 ∧ m.safe.anew ≠ 1 then clampI (-200) 200 (safetyNumber m p.toNat * 200000 - p) else 0

/-- The instant in cell time at which the safety cycle starts that is called for `t`: one cycle and its shift after the last start, within
200 ppm of drift (entry 84). The first cycle starts where it falls. -/
def safetyStart (m : Mach) (t : Nat) : Nat :=
  let p := (m.safe.start + 200000 + cycleShift m).toNat
  if m.safe.begun then max (p - 40) (min (p + 40) t) else t

/-- Number, start and marker of the safety cycle that is called for cell time `t0`. -/
def beginSafety (t0 : Nat) (m : Mach) : Mach :=
  let t := safetyStart m t0
  let k := if m.safe.begun then safetyNumber m (m.safe.start + 200000).toNat else safetyNumber m t
  let m := at' m t
  let age := satAdd 255 m.safe.markAge 1
  let off := (t : Int) - k * 200000
  let lost := if 2 < age then true else m.safe.markLost && !(decide (age = 1) && decide (absI off ≤ 40))
  let m := if lost && !m.safe.markLost then safeCount m 14 else m
  onSafe m (fun s => { s with k := k % 2 ^ 64, start := t, begun := true, markAge := age, markLost := lost,
                              anew := if s.anew = 2 then 0 else s.anew })

/-- TIME_REFERENCE_MARKER (14 R431): sent at multiples of 200,000 ticks of valid cell time, none from a step of cell time to the
next multiple. -/
def timeMarker (t : Nat) (m : Mach) : Mach :=
  if crosses m 11 = false ∨ t % 200000 ≠ 0 ∨ t < m.time.markerFrom ∨ (networked m && !m.time.valid) then m
  else onSafe (at' m t) (fun s => { s with markAge := 0, anew := if s.anew = 1 then 2 else s.anew })

/-- TIME_REFERENCE_MARKER. -/
def execTimeReferenceMarker (t : Nat) (s : State) : Out := done (timeMarker t) s

/-- Inputs at a cycle start: those in DEMAND with manual restart wait for a reset (R442). -/
def freezeInputs (edm mism : Nat) (m : Mach) : Mach :=
  let wait := (inputsUsed m).filter (fun i => field (inRec m.safe.cfg i) 2 1 == 1 && (!inputRun m i || m.safe.inFault.testBit i))
  let run := maskOf ((inputsUsed m).filter (fun i => inputRun m i && !m.safe.inFault.testBit i))
  onSafe m (fun s => { s with inWait := s.inWait ||| maskOf wait, inRun := run, edm := edm % 256, mism := mism % 2 ^ 24 })

/-- Whether a safe output is to energise (R443). -/
def outWanted (m : Mach) (o : Nat) : Bool :=
  let r := outRec m.safe.cfg o
  islandActive m && !m.safe.hold && field r 2 1 == 1 && (bitsOf 16 (field r 0 2)).all (fun i => inMode m i != 0 && !inputActs m i)

/-- Whether an STO output is energised in the next cycle: it energises in RUN, SLS and SOS (R445), and one that is energised stays so
through a stop, SS2 and SS1 (R446). -/
def stoWanted (m : Mach) (s : Nat) : Bool :=
  islandActive m && !m.safe.hold && field (stoRec m.safe.cfg s) 0 1 == 1 &&
    (match setOfSlot m.safe.cfg s with
     | some x => decide ((setSt m x).st ≤ if m.safe.sto.testBit s then 4 else 2)
     | none => false)

/-- The output states of the next cycle. An output whose contactors do not read released stays de-energised (R444). -/
def computeOutputs (m : Mach) : Mach :=
  let want := (List.range 8).filter (outWanted m)
  let stuck := want.filter (fun o => !m.safe.out.testBit o && edmOn m o && !m.safe.edm.testBit o)
  let m := stuck.foldl edmFail m
  let ok := if stuck = [] then want else []
  let sto := if stuck = [] then (List.range 16).filter (stoWanted m) else []
  onSafe m (fun s => { s with outNext := maskOf ok, stoNext := maskOf sto })

/-- The axis sets in a safety cycle, in island LOCKOUT too (R446). -/
def stepSets (m : Mach) : Mach :=
  if !islandConfigured m then m
  else (List.range 32).foldl (fun m s =>
    let dem := [localDemand m s, remoteDemand m s, receivedVerdict m (fun _ => true) s, sepDemand m s].foldl max 0
    if sepLimited m s then setStep m s dem (setSt m s).frac.fe fracOne else setStep m s dem 1 1) m

/-- SAFETY_CYCLE_START at cell time `t`: `edm` holds the EDM inputs that read released, `mism` the read-backs that differ from
their level (safe outputs in bits 0 to 7, STO in bits 8 to 23). -/
def safetyCycle (t edm mism : Nat) (m : Mach) : Mach :=
  if m.safe.st = 0 ∨ m.safe.st = 6 then m
  else
    let m := beginSafety t m
    let m := onSafe m (fun s => { s with out := s.outNext, sto := s.stoNext })
    if m.safe.st = 1 then m
    else
      let m := freezeInputs edm mism m
      let m := takeConns m
      let m := takeSensors (observeAxes (takeFrame m))
      let r := judgePresses m.safe.presses (m, false)
      let m := onSafe r.1 (fun s => { s with presses := 0 })
      computeOutputs (stepSets (limitSets (separate r.2 m)))

/-- SAFETY_CYCLE_START. -/
def execSafetyCycleStart (t edm mism : Nat) (s : State) : Out := done (safetyCycle t edm mism) s

/-! ## Frames (R451, 16 R470, R471) -/

/-- State codes of the sets, four bits each. -/
def setFn (f : Nat → Nat) : List Nat := (List.range 16).map (fun i => f (2 * i) % 16 + f (2 * i + 1) % 16 * 16)

/-- Highest rank that the island itself demands of a set: inputs, separation, and at a manager the verdicts of workers. -/
def issuedRank (m : Mach) (s : Nat) : Nat :=
  let sep := if (setSt m s).sep then sepDemand m s else 0
  let rel := if isManager m then receivedVerdict m (fun l => decide (2 ≤ field l 0 1)) s else 0
  [localDemand m s, remoteDemand m s, sep, rel].foldl max 0

/-- VERDICT of a set: a demand for SS2 has no code and is sent as SS1. -/
def verdictCode (r : Nat) : Nat := if r = 0 then 0 else if r ≤ 2 then 1 else if r ≤ 4 then 2 else 3

/-- Bytes 0 to 12 of a frame. -/
def frameHead (m : Mach) (r : List Nat) : List Nat :=
  [nodeId m, field r 7 1] ++ leBytes 2 (field r 2 2) ++ leBytes 8 m.safe.k ++ [m.safe.st]

/-- The island frame of a send connection. -/
def islandFrame (m : Mach) (r : List Nat) : List Nat :=
  let verdict := ((List.range 32).map (fun s => verdictCode (issuedRank m s) * 4 ^ s)).foldl (· + ·) 0
  let lim (s : Nat) : Nat := if isManager m && sepRuns m.safe.cfg then (setSt m s).fq else 65535
  padTo 124 (frameHead m r ++ [0, 0, 0] ++ leBytes 4 (m.safe.inRun + m.safe.inFault * 2 ^ 16) ++ leBytes 4 m.safe.out ++ leBytes 4 m.safe.sto
    ++ setFn (fun s => (setSt m s).st) ++ leBytes 8 verdict ++ (List.range 32).flatMap (fun s => leBytes 2 (lim s)))

/-- The position of a source record (16 R470). The rule states none outside the range of its class: it is an open value (entry 151). -/
def sourcePos (m : Mach) (r : List Nat) : Option Int :=
  let i := (obsUsed m.safe.cfg).find? (fun i => field (obsRec m.safe.cfg i) 0 1 == field r 1 1)
  match i with
  | none => none
  | some i => if !obsValid m i then none
    else
      let q := roundDiv ((axisPos m i + sgn 64 (field r 12 8)) * s32 r 4) (field r 8 4)
      some (if -2 ^ 31 ≤ q ∧ q < 2 ^ 31 then q else sgn 32 (Config.farPosition q))

/-- The position frame of a send connection. -/
def positionFrame (m : Mach) (r : List Nat) : List Nat :=
  let srcs := (sepOf m.safe.cfg).elim [] (·.srcs)
  let q (s : Nat) : Option Int := (srcs.find? (fun x => field x 0 1 == s)).bind (sourcePos m)
  let valid := maskOf ((List.range 16).filter (fun s => (q s).isSome))
  padTo 124 (frameHead m r ++ [0] ++ leBytes 2 valid ++ (List.range 16).flatMap (fun s => leBytes 4 (unsg 32 ((q s).getD 0))))

/-- A frame with its CRC_S. -/
def sealFrame (m : Mach) (r l : List Nat) : List Nat := l ++ leBytes 4 (crcS (crcInit m (field r 2 2)) l)

/-- The frames of the send connections in their order. -/
def safetyFrames (m : Mach) : List (List Nat) :=
  (sendConns m.safe.cfg).map (fun c =>
    let r := connRec m.safe.cfg c
    sealFrame m r (if field r 7 1 = 2 then positionFrame m r else islandFrame m r))

/-- The SAFETY slots of a local line that the node owns, in the order in which they come from the present instant on, the first
at least 1 µs away: handle and cycle. -/
def safetySlots (m : Mach) (l : Nat) : List (Nat × Nat) :=
  let mine := (slotsNow m).filter (fun e => e.line == l && e.kind == 2 && ownsSlot m e)
  let off := m.cyc.now - m.cyc.start + 800
  (mine.filter (fun e => decide (off ≤ e.start))).map (fun e => (slotHandle e, m.cyc.n)) ++
    (mine.filter (fun e => !decide (off ≤ e.start))).map (fun e => (slotHandle e, m.cyc.n + 1))

/-- The frames go to TWI: on each line one frame to a slot. -/
def handFrames (m : Mach) : Mach :=
  let fs := safetyFrames m
  let tx := (servedLines m).flatMap (fun l => ((safetySlots m l).zip fs).map (fun x => (x.1.1, x.1.2, x.2)))
  onSafe m (fun s => { s with tx := s.tx.filter (fun y => !tx.any (fun x => x.1 == y.1)) ++ tx })

/-! ## The mirror (R463, R467) -/

/-- The set state in the mirror: a manager's holds those of the frames it received too (R450). -/
def mirrorSet (m : Mach) (s : Nat) : Nat :=
  let far := if isManager m then (frameConns m).map (fun c => (connFrame m c).elim 0 (fun l => bits (field l 28 16) (4 * s) 4)) else []
  far.foldl max (setSt m s).st

/-- LIMIT of a motion group (16 R485). -/
def mirrorLim (m : Mach) (g : Nat) : Nat :=
  match (if isManager m && sepRuns m.safe.cfg then sepOf m.safe.cfg else none) with
  | none => 0x7FFFFFFF
  | some p => match p.groups.find? (fun r => field r 0 1 == g) with
    | none => 0x7FFFFFFF
    | some r => field r 4 4 * (((bitsOf 32 (field r 8 4)).map (fun s => (setSt m s).fq)).foldl min 65535) / 65535

/-- STATUS of the mirror. -/
def mirrorStatus (m : Mach) : Nat :=
  let s := m.safe
  let n := s.seals.length
  s.st + b2n (n != 0) * 2 ^ 4 + b2n s.confirm.isSome * 2 ^ 5 + b2n s.markLost * 2 ^ 6 + b2n s.stuck * 2 ^ 7 + b2n (resetDue m) * 2 ^ 8
    + (n - 1) % 16 * 2 ^ 16 + (16 - n) * 2 ^ 20

/-- The 256 bytes of the mirror. -/
def mirrorBytes (m : Mach) : List Nat :=
  let s := m.safe
  let conn := maskOf ((recvConns s.cfg).filter (connValid m))
  leBytes 8 s.k ++ leBytes 4 (mirrorStatus m) ++ leBytes 4 s.cause ++ leBytes 4 (s.inRun + s.inFault * 2 ^ 16)
    ++ leBytes 4 (s.out + s.edm * 2 ^ 8 + s.outFault * 2 ^ 16) ++ leBytes 4 (s.sto + s.stoFault * 2 ^ 16)
    ++ setFn (mirrorSet m) ++ leBytes 4 conn ++ leBytes 4 (s.mbx + s.mbxSeq * 2 ^ 16) ++ List.replicate 4 0
    ++ (List.range 32).flatMap (fun g => leBytes 4 (mirrorLim m g)) ++ (List.range 16).flatMap (fun i => leBytes 2 (sget s.cnt i 0))
    ++ padTo 32 s.digest ++ List.replicate 8 0

/-- The mirror's set states by set. -/
def mirSets (l : List Nat) : List Nat := (List.range 32).map (fun s => bits (field l 28 16) (4 * s) 4)

/-- What the main side reports at a publication: changes of the island and set states, and the island's news. -/
def reportMirror (old : List Nat) (m : Mach) : Mach :=
  let new := m.safe.mir
  let m := if field old 8 4 % 16 = field new 8 4 % 16 then m else notice m E_SAFE_STATE (field new 8 4 % 16)
  let m := (((mirSets old).zip (mirSets new)).zipIdx.filter (fun x => x.1.1 != x.1.2)).foldl
    (fun m x => notice m E_SAFE_STOP (x.2 + x.1.2 * 2 ^ 8)) m
  let m := m.safe.news.foldl (fun m n => report m n.1 (if n.2.1 = 7 then 7 else reacClass m n.1 0xFFFF n.2.1) n.2.2.1 n.2.2.2.1 n.2.2.2.2) m
  onSafe m (fun s => { s with news := [] })

/-- The result of a mailbox frame reaches the main side (R459, R468): DONE, and the SAFE_CONFIG job completes. -/
def mailboxDone (m : Mach) : Mach :=
  if !m.safe.mbxDue then m
  else
    let m := irq (setF (setF m SAFE_MBX_STAT_STATE 0 3) SAFE_MBX_STAT_RESULT 0 m.safe.mbx) 25
    let m := match m.safe.job with
      | some c => addCompl m (if m.safe.mbx = 0 then { c with result := m.safe.mbxDet } else failCompl c m.safe.mbx m.safe.mbxDet)
      | none => m
    settleDeletes (onSafe m (fun s => { s with mbxDue := false, job := none }))

/-- CUT of the local slots whose STO output is de-energised (R450). -/
def cutStoSlots (m : Mach) : Mach :=
  ((List.range 16).filter (fun s => !(field m.safe.mir 24 2).testBit s && !slotDisabled m s)).foldl cutSlot m

/-- MIRROR_PUBLISH: 180 µs into the safety cycle. -/
def mirrorPublish (m : Mach) : Mach :=
  if m.safe.st = 0 ∨ m.safe.st = 6 ∨ !m.safe.begun then m
  else
    let m := at' m (m.safe.start + 144000).toNat
    let old := m.safe.mir
    let m := onSafe m (fun s => { s with mir := mirrorBytes m, pubAt := some m.cyc.now })
    let m := setF (irq m 23) SAFE_MIR_STAT_MIRROR_STALE 0 0
    let m := handFrames (mailboxDone (reportMirror old m))
    latchLimits (cutStoSlots m)

/-- MIRROR_PUBLISH. -/
def execMirrorPublish (s : State) : Out := done mirrorPublish s

/-- MIRROR_LATCH_READ (R464): a read of SAFE offset 0 by fabric port `port`. -/
def mirrorLatch (port : Nat) (m : Mach) : Mach := onSafe m (fun s => { s with latch := sput s.latch port s.mir [] })

/-- MIRROR_LATCH_READ. -/
def execMirrorLatchRead (port : Nat) (s : State) : Out := done (mirrorLatch port) s

/-- The mirror as a fabric port reads it. -/
def mirrorView (m : Mach) (port : Nat) : List Nat := sget m.safe.latch port m.safe.mir

/-- MIRROR_STALE (R465): 2 safety cycles have passed since the last publication. -/
def mirrorStale (m : Mach) : Mach :=
  if onF m SAFE_MIR_STAT_MIRROR_STALE then m
  else
    let m := at' m (m.safe.pubAt.getD 0 + 400001)
    let m := flag (flag m SAFE_MIR_STAT_MIRROR_STALE) SAFE_MIR_STAT_STALE_SEEN
    latchLimits (levels (logNode (incF m SAFE_STALE_CNT_CNT 0 1) E_SAFE_MIRROR_STALE 0))

/-- MIRROR_STALE. -/
def execMirrorStale (s : State) : Out := done mirrorStale s

/-! ## The mailbox (R468) -/

/-- Whether the island still holds the mailbox. -/
def mboxBusy (m : Mach) : Bool := getF m SAFE_MBX_STAT_STATE == 1 || getF m SAFE_MBX_STAT_STATE == 2

/-- MAILBOX_POST: a write of POST; ignored and reported while a frame is posted or taken. -/
def mailboxPost (m : Mach) : Mach :=
  if mboxBusy m then logNode m E_SAFE_MBX_BUSY (getF m SAFE_MBX_STAT_SEQ)
  else setF (setF m SAFE_MBX_STAT_STATE 0 1) SAFE_MBX_STAT_SEQ 0 (getF m SAFE_MBX_STAT_SEQ + 1)

/-- MAILBOX_POST. -/
def execMailboxPost (s : State) : Out := done mailboxPost s

/-- A write of the buffer at byte `o`; dropped while a frame is posted or taken. -/
def mailboxWrite (m : Mach) (o : Nat) (l : List Nat) : Mach :=
  if mboxBusy m then m
  else onSafe m (fun s => { s with mbox := l.zipIdx.foldl (fun b x => sput b (o + x.2) (x.1 % 256) 0) s.mbox })

/-- SAFE_CONFIG: copies the frame to the mailbox and posts it. -/
def safeConfig (j : Job) (m : Mach) : JobRes :=
  if 32768 < j.desc.dataLen ∨ j.desc.dataLen < 256 then jobDetail m E_SAFE_CFG_FORMAT 8
  else if mboxBusy m then jobDetail m E_SAFE_MBX_BUSY (getF m SAFE_MBX_STAT_SEQ)
  else
    let l := padTo j.desc.dataLen (j.data.map (· % 256))
    let new : Sparse Nat := (l.zipIdx.filter (fun x => x.1 != 0)).map (fun x => (x.2, x.1))
    let m := onSafe m (fun s => { s with mbox := new ++ s.mbox.filter (fun x => decide (l.length ≤ x.1)), job := some (jcompl j 0 0 none) })
    { m := mailboxPost (setF m SAFE_MBX_LEN_LEN 0 l.length), later := true }

/-- SAFE_CONFIG. -/
def execSafeConfig (j : Job) (s : State) : Out := done (runJob 0x0D01 safeConfig j) s

/-- SAFE_MIRROR_READ (03 R680): the mirror to the host buffer. -/
def safeMirrorRead (j : Job) (m : Mach) : JobRes :=
  let r := dataOut m j.desc (padTo 256 m.safe.mir)
  { m := r.1, result := r.2 }

/-- SAFE_MIRROR_READ. -/
def execSafeMirrorRead (j : Job) (s : State) : Out := done (runJob 0x0D02 safeMirrorRead j) s

/-- The island after a power-on or chip reset: what is one-time-programmable stays (R460). -/
def islandReset (m : Mach) : Mach := { m with safe := { key := m.safe.key, seals := m.safe.seals } }

end Sys2Proof.Machine
end

