-- ==== Sys2Proof/Machine/Sys.lean ====
section
/-! DEFINITION. The SYS block (23): supervisor stop and watchdog, resets, block resets, power domains, clocks, the host
sideband. Boot stands in Machine/Boot.lean. -/

namespace Sys2Proof.Machine

/-! ## Supervisor stop (R634, R635) -/

/-- A supervisor stop: 2 watchdog, 3 lockstep, 4 double fault, as the bits of SYS_RST_CAUSE. The report of a watchdog expiry has
node scope, so it requests no reaction of the cell. -/
def supStop (cause code detail : Nat) (m : Mach) : Mach :=
  if m.sys.stopped.isSome then m
  else
    let r := report m code 3 1 (nodeId m) detail
    let m := if cause = 2 then { r with reacts := m.reacts } else r
    let m := ((List.range 16).filter (fun s => !slotDisabled m s)).foldl cutSlot m
    let m := { setF m SYS_FLAGS_SUP_STOPPED 0 1 with
      sys := { m.sys with stopped := some cause, alert := true, sideCode := code, sideDetail := detail % 2 ^ 32 } }
    if isManager m && m.mould.config == 3 then switchDom m dPAIR false else m

/-- WATCHDOG_KICK at cell time `t`: the right value begins a new period; any other leaves the period running (R634). -/
def watchdogKick (x t : Nat) (m : Mach) : Mach :=
  let m := at' m t
  if m.sys.wdtOn && x == 0xC3A5 then { m with sys := { m.sys with wdtAt := m.cyc.now } } else m

/-- WATCHDOG_KICK. -/
def execWatchdogKick (x t : Nat) (s : State) : Out := done (watchdogKick x t) s

/-- WATCHDOG_EXPIRY at cell time `t`: a period of PER ms has passed without a kick (R634, R635). -/
def watchdogExpiry (t : Nat) (m : Mach) : Mach :=
  if m.sys.wdtOn && decide (m.sys.wdtAt + 800000 * getF m SYS_WDT_CFG_PER ≤ t) then
    supStop 2 E_SYS_WDT ((coreSt m 32).pc.toNat) (at' m t)
  else m

/-- WATCHDOG_EXPIRY. -/
def execWatchdogExpiry (t : Nat) (s : State) : Out := done (watchdogExpiry t) s

/-- LOCKSTEP_MISMATCH (21 R586). -/
def execLockstepMismatch (s : State) : Out :=
  done (fun m => if m.sys.inReset then m else supStop 3 E_CORE_LOCKSTEP ((coreSt m 32).pc.toNat) m) s

/-! ## Resets (R616, R618, R623, R633) -/

/-- The fields that fuses give (R640). -/
def fusedFields : List Fld :=
  [SYS_CHIP_ID_GRADE, SYS_UID_LO_UID, SYS_UID_HI_UID, SYS_FUSE_KEY_VALID, SYS_FUSE_REVOKED, SYS_FUSE_SVN_MIN]

/-- Every block, the island included, at its reset values; fuses and what is one-time programmable stay. What lies outside the
device stays as it is: what has left it, and the levels on its lines. -/
def resetAll (m : Mach) : Mach :=
  let n : Mach := { out := m.out, free := m.free, busLow := m.busLow, sys := { hash := m.sys.hash } }
  fusedFields.foldl (fun n f => setF n f 0 (getF m f)) { n with safe := (islandReset m).safe }

/-- POWER_ON_RESET (R616): fault log, reset cause and reset count start from zero. -/
def execPowerOnReset (s : State) : Out := done resetAll s

/-- SUPPLY_OUT_OF_RANGE (R623): a main-side supply leaves its range. -/
def execSupplyOutOfRange (s : State) : Out := done resetAll s

/-- The bit of SYS_RST_CAUSE for a cause. -/
def causeFld (c : Nat) : Fld :=
  match c with
  | 1 => SYS_RST_CAUSE_SOFT | 2 => SYS_RST_CAUSE_WDT | 3 => SYS_RST_CAUSE_LOCKSTEP | 4 => SYS_RST_CAUSE_DOUBLE
  | 5 => SYS_RST_CAUSE_CLOCK | _ => SYS_RST_CAUSE_POR

/-- A chip reset with its cause: the fault log and the count of chip resets stay (R616). -/
def chipResetBy (cause : Nat) (m : Mach) : Mach :=
  let n := resetAll m
  let n := setF (setF n SYS_RST_CAUSE_POR 0 0) (causeFld cause) 0 1
  let n := setF n SYS_RST_CAUSE_COUNT 0 (satAdd 255 (getF m SYS_RST_CAUSE_COUNT) 1)
  let n := setF (setF n SYS_FLOG_CNT_N 0 (getF m SYS_FLOG_CNT_N)) SYS_FLOG_CNT_OVERWRITTEN 0 (getF m SYS_FLOG_CNT_OVERWRITTEN)
  { n with sys := { n.sys with flog := m.sys.flog }, jtag := m.jtag }

/-- Gate outputs are held low, Twira and pair-link ports go to electrical idle (R618, R633). -/
def clampOutputs (m : Mach) : Mach :=
  let m := (List.range 16).foldl gatesLow m
  let m := (List.range 8).foldl (fun m p => setF m TWI_PORT_STATE p 0) m
  let m := setF (setF m PAIR_LINK_LOCK 0 0) PAIR_STAT_LINK_UP 0 0
  { m with sys := { m.sys with clamp := true } }

/-- CHIP_RESET_REQUEST: a write of SYS_CTRL with CHIP_RST set. Without the key it is ignored and reported (R618). -/
def chipResetRequest (x : Nat) (m : Mach) : Mach :=
  if !x.testBit 0 ∨ m.sys.inReset then m
  else if bits x 8 8 ≠ 0xA5 then badCfg m 0 0x1C
  else clampOutputs { m with sys := { m.sys with chipRst := some 1 } }

/-- CHIP_RESET_REQUEST. -/
def execChipResetRequest (x : Nat) (s : State) : Out := done (chipResetRequest x) s

/-- CHIP_RESET: the reset that has been requested, or that the clock monitor brings, takes effect (R616, R618, R633). -/
def chipReset (m : Mach) : Mach := match m.sys.chipRst with | some c => chipResetBy c m | none => m

/-- CHIP_RESET. -/
def execChipReset (s : State) : Out := done chipReset s

/-- RECOVERY_RESET: RECOVER_MS after a supervisor stop; with RECOVER_MS 0 the node stays stopped (R635). -/
def recoveryReset (m : Mach) : Mach :=
  match m.sys.stopped with
  | some c => if getF m SYS_CTRL_RECOVER_MS = 0 then m else chipResetBy c m
  | none => m

/-- RECOVERY_RESET. -/
def execRecoveryReset (s : State) : Out := done recoveryReset s

/-- REF_CLK_FAILURE (R633). -/
def refClkFailure (m : Mach) : Mach :=
  if m.sys.inReset then m
  else
    let m := clampOutputs (logNode (flag m SYS_FLAGS_CLOCK) E_SYS_CLOCK 0)
    let m := setF (setF m SYS_CLK_STAT_REF_OK 0 0) SYS_CLK_STAT_ROOT_LOCK 0 0
    { m with sys := { m.sys with chipRst := some 5 } }

/-- REF_CLK_FAILURE. -/
def execRefClkFailure (s : State) : Out := done refClkFailure s

/-- RESET_RELEASE: `pcie` says that the PCIe reference clock is present. The base domains go on, the fault log gets its marker,
the watchdog and the island's self-test begin (R624, R631, R634, R638). -/
def resetRelease (pcie : Bool) (m : Mach) : Mach :=
  if !m.sys.inReset then m
  else
    let m := { m with sys := { m.sys with inReset := false, chipRst := none, wdtOn := true, wdtAt := m.cyc.now }, sup := { t0 := 2 * m.cyc.now } }
    let m := setF (setF m SYS_PWR_STAT_ON 0 0x17) SYS_PWR_CTRL_ON 0 0x17
    let m := [SYS_CLK_STAT_REF_OK, SYS_CLK_STAT_ROOT_LOCK, SYS_CLK_STAT_TWI_LOCK, SYS_CLK_STAT_PAIR_LOCK].foldl (fun m f => flag m f) m
    let m := setB (setB m SYS_CLK_STAT_PCIE_REF 0 pcie) SYS_STRAP_PCIE_CLK 0 pcie
    let m := switchDom (switchDom m dRUN true) dTIME true
    let m := if pcie then switchDom m dHIF true else m
    let m := { m with safe := { m.safe with st := 1 } }
    logEv m { code := E_SYS_BOOTED, kind := 1, id := nodeId m, detail := regWord m 0 0x18, cycle := m.cyc.n % 2 ^ 32, cls := 7 }

/-- RESET_RELEASE. -/
def execResetRelease (pcie : Bool) (s : State) : Out := done (resetRelease pcie) s

/-! ## Block resets (R617) -/

/-- Whether a lock has frozen a field. -/
def frozen (m : Mach) (f : Fld) : Bool :=
  match f.acc with | .rwlCfg => m.locks.cfg | .rwlLim => m.locks.lim | .rwlSch => m.locks.sch | _ => false

/-- The registers of a block at their reset values, or at those that the model load wrote; `keep` leaves out the fields for which
it holds. -/
def blockRegs (m : Mach) (blk : Nat) (keep : Fld → Bool) : Mach :=
  let clean := { resetFields m (fieldsOf blk) with
    force := (fieldsOf blk).foldl (fun r f => (List.range f.n).foldl (fun r i => sdel r (f.key i)) r) m.force }
  let new := if m.mould.loaded then modelRegs clean m.mould.image else clean
  (fieldsOf blk).foldl (fun a f =>
    if keep f then a
    else (List.range f.n).foldl (fun a i =>
      { setF a f i (getF new f i) with force := sput a.force (f.key i) (getV new f i) (f.rst i) }) a) m

/-- The dynamic claims of a block are released (04 R146, R148). -/
def dropClaims (m : Mach) (blk : Nat) : Mach :=
  let mine (f : Nat) : Bool := match blk with | 6 => f == 3 | 7 => f == 12 | 11 => f == 4 || f == 5 || f == 6 | 12 => f == 8 | _ => false
  { m with mould := { m.mould with claims := m.mould.claims.filter (fun o => !mine o.func) } }

/-- The jobs that a unit holds and cannot end once its block is reset (entry 126). -/
def unitJobs (m : Mach) (blk : Nat) : List Compl :=
  match blk with
  | 6 => m.run.acts.filterMap (·.job) ++ m.run.grps.filterMap (·.2.gearJob)
  | 10 => (m.twi.exch.bind (·.job)).toList ++ m.twi.netJob.toList ++ m.twi.reqs.map (·.job)
  | 11 => m.time.jobs
  | 14 => m.duo.ins.filterMap (fun x => x.job.map (fun j => jcompl j 0 0 none)) ++ m.duo.job.toList
  | _ => []

/-- The model ends the jobs that a unit loses with its contents; the spec states no status for them (DESIGN CHOICE, entry 126). -/
def endUnitJobs (m : Mach) (l : List Compl) (status blk : Nat) : Mach :=
  settleDeletes (l.foldl (fun m c => addCompl m { failCompl c status blk with effect := none }) m)

/-- What a block holds beside its registers. In a block reset the node keeps its role and its Twira state (R616). -/
def blockStore (m : Mach) (blk : Nat) : Mach :=
  match blk with
  | 1 => { m with hif := { snapped := m.hif.snapped } }
  | 3 => { m with ladle := { tpl := m.ladle.tpl, sub := m.ladle.sub, num := m.ladle.num }, cores := m.cores.filter (fun c => c.1 == 32) }
  | 5 => { m with cruc := {} }
  | 6 => { m with run := {}, lims := [] }
  | 7 => { m with axl := [] }
  | 8 => carriersWait { m with pwr := [] }
  | 9 => { m with enc := [] }
  | 10 => { m with twi := { m.twi with slots := [], reqs := [] } }
  | 11 => let n := stepTime m 0
    { n with time := {}, cyc := { n.cyc with skip := false } }
  | 12 => { m with tap := {} }
  | 14 => { m with duo := { m.duo with tx := [], ins := [], inbox := [] } }
  | 16 => { m with test := {} }
  | _ => m

/-- The fields that hold a node's role and its Twira state. -/
def stateField (f : Fld) : Bool :=
  f == TWI_STATUS_STATE || f == TWI_STATUS_MODE || f == TWI_PORT_STATE || f == PAIR_STAT_ROLE || f == PAIR_STAT_PARTNER
    || f == TEST_STAT_UNLOCK || f == SYS_PWR_CTRL_ON

/-- The Tap before its reset: a capture in progress ends as by TAP_STOP, and what the drain had not sent yet goes with the block (R617). -/
def tapReset (m : Mach) : Mach :=
  let m := tapHalt m
  if m.tap.stopping then tapIdle m else m

/-- The schedule memory as the model load leaves it: the entries of the loaded model, or none (12 R364). -/
def schedLoaded (m : Mach) : Mach :=
  { schedFresh m with sched := if m.mould.loaded then (modelRegs m m.mould.image).sched else [], schedOff := [] }

/-- A block takes its reset. -/
def blockReset (blk : Nat) (m : Mach) : Mach :=
  let m := if blk = 12 then tapReset m else if blk = 16 then testLock m else m
  let held := (unitJobs m blk).filter (fun c => !(heldJobs (blockStore m blk)).contains c)
  let m := endUnitJobs (blockStore (dropClaims m blk) blk) held E_SYS_RESET_BUSY blk
  let m := blockRegs m blk (fun f => frozen m f || stateField f)
  if blk = 10 ∧ m.locks.sch = false then schedLoaded m
  else if blk = 3 then resetF m CORE_RUN_RUN else m

/-- Whether a block may be reset now: TAP and TEST always; the others with no axis enabled and the network not in operation. -/
def resetAllowed (m : Mach) (blk : Nat) : Bool :=
  blk == 12 || blk == 16 || (!anyEnabled m && (getF m TWI_STATUS_STATE == 0 || getF m TWI_STATUS_STATE == 1
    || getF m TWI_STATUS_STATE == 2 || getF m TWI_STATUS_STATE == 5 || getF m TWI_STATUS_STATE == 8))

/-- RESET_BLOCK (R617): the reset begins; the job completes when the block is out of it. -/
def resetBlock (j : Job) (m : Mach) : JobRes :=
  let b := j.desc.par 0
  if !([3, 5, 6, 7, 8, 9, 10, 11, 12, 14, 16].contains b) then jobFail m E_HIF_BAD_PARAM 0
  else if !resetAllowed m b then jobDetail m E_SYS_RESET_BUSY b
  else
    let m := blockReset b m
    { m := { m with sys := { m.sys with resetting := m.sys.resetting ++ [(b, jcompl j 0 0 none)] } }, later := true }

/-- RESET_BLOCK. -/
def execResetBlock (j : Job) (s : State) : Out := done (runJob 0x0004 resetBlock j) s

/-- BLOCK_RESET_DONE: the oldest reset of block `b` ends (R617). -/
def blockResetDone (b : Nat) (m : Mach) : Mach :=
  match m.sys.resetting.find? (fun x => x.1 == b) with
  | none => m
  | some x =>
    let m := { m with sys := { m.sys with resetting := m.sys.resetting.erase x } }
    settleDeletes (addCompl (notice m E_SYS_BLOCK_RESET b) x.2)

/-- BLOCK_RESET_DONE. -/
def execBlockResetDone (b : Nat) (s : State) : Out := done (blockResetDone b) s

/-! ## Power domains (R630, R631, R679) -/

/-- Whether a domain's function is in use (R631). -/
def domInUse (m : Mach) (d : Nat) : Bool :=
  if d = dAXIS then anyEnabled m
  else if d = dRUN ∨ d = dCRUC ∨ d = dPOOLA ∨ d = dPOOLB then onF m LADLE_CTRL_EN || onF m RUN_CTRL_EN
  else if d = dTWI then getF m TWI_STATUS_STATE != 0
  else if d = dTAP then getF m TAP_STAT_STATE != tIdle
  else false

/-- One bit of a write of SYS_PWR_CTRL. -/
def powerBit (x : Nat) (m : Mach) (d : Nat) : Mach :=
  let want := x.testBit d
  if want = (getF m SYS_PWR_CTRL_ON).testBit d then m
  else if want then (if domOff m d || !clocked m d then logNode m E_SYS_ROLE_UNSUPPORTED d else switchDom m d true)
  else if d = 0 ∨ d = 1 ∨ d = 2 ∨ d = 4 then m
  else if domInUse m d then logNode m E_SYS_RESET_BUSY d
  else switchDom m d false

/-- POWER_CONTROL_WRITE: a write of SYS_PWR_CTRL, each bit judged on its own (R631). -/
def powerControl (x : Nat) (m : Mach) : Mach := if m.sys.inReset then m else (List.range 14).foldl (powerBit x) m

/-- POWER_CONTROL_WRITE. -/
def execPowerControlWrite (x : Nat) (s : State) : Out := done (powerControl x) s

/-- The blocks of a domain. -/
def domBlocks (d : Nat) : List Nat := (List.range 17).filter (fun b => domOf b == d)

/-- A domain's blocks start from their reset values and the values of the model; nothing of them is kept (R630). -/
def domainReset (m : Mach) (d : Nat) : Mach :=
  let m := (domBlocks d).foldl (fun m b =>
    blockRegs (endUnitJobs (blockStore (dropClaims m b) b) (unitJobs m b) E_SYS_DOMAIN_OFF d) b (fun _ => false)) m
  if d = dTWI then schedLoaded { m with twi := {} }
  else if d = dPAIR then { m with duo := {} }
  else if d = dTIME then blockStore m 11
  else if d = dPOOLA ∨ d = dPOOLB then
    { m with cores := m.cores.filter (fun c => c.1 == 32 || coreOn m c.1),
             ladle := { m.ladle with items := m.ladle.items.filter (fun f => match f.st with | .running c _ => coreOn m c | _ => true) } }
  else m

/-- Where the memories of a domain lie in the internal map (01 R29, R43). -/
def domMemory (d : Nat) : List (Nat × Nat) :=
  if d = dPOOLA then [(0x50000000, 0x50100000)]
  else if d = dPOOLB then [(0x50100000, 0x50200000)]
  else if d = dCRUC then [(0x30000000, 0x30400000)]
  else if d = dTAP then [(0x20000000, 0x21000000)]
  else []

/-- Whether a memory of domain `d` holds address `a`. -/
def inDomain (d a : Nat) : Bool := (domMemory d).any (fun r => decide (r.1 ≤ a ∧ a < r.2))

/-- A domain that is switched off loses its memory (R630); what it reads as afterwards is that of entry 3. -/
def loseMemory (m : Mach) (d : Nat) : Mach :=
  let out (k : Nat) : Bool := !inDomain d k
  { m with mem := m.mem.filter (fun c => out c.1),
           memb := { m.memb with poison := m.memb.poison.filter out, due := m.memb.due.filter out,
                                 flips := m.memb.flips.filter (fun e => out e.1) } }

/-- DOMAIN_TRANSITION_DONE (R630): domain `d` is on, or off with its contents lost. -/
def domainDone (d : Nat) (m : Mach) : Mach :=
  match m.sys.trans.find? (fun x => x.1 == d) with
  | none => m
  | some x =>
    let m := { setF m SYS_PWR_STAT_TRANS 0 (andNot (getF m SYS_PWR_STAT_TRANS) (2 ^ d)) with
               sys := { m.sys with trans := m.sys.trans.filter (fun y => y.1 != d) } }
    let m := setF m SYS_PWR_STAT_ON 0 (if x.2 then getF m SYS_PWR_STAT_ON ||| 2 ^ d else andNot (getF m SYS_PWR_STAT_ON) (2 ^ d))
    domainReset (if x.2 then m else loseMemory m d) d

/-- DOMAIN_TRANSITION_DONE. -/
def execDomainTransitionDone (d : Nat) (s : State) : Out := done (domainDone d) s

/-! ## Host sideband (R621) -/

/-- The status record: 0x7E, code, DETAIL, the XOR of the six bytes before. -/
def sideRecord (code det : Nat) : List Nat :=
  let l := leBytes 2 code ++ leBytes 4 det
  0x7E :: l ++ [l.foldl (· ^^^ ·) 0]

/-- SIDEBAND_STATUS_RECORD: every 100 ms while HS_ALERT_N is low and in every boot phase before READY. -/
def sidebandRecord (m : Mach) : Mach :=
  let r :=
    if m.sys.inReset then []
    else if m.sys.alert then [sideRecord m.sys.sideCode m.sys.sideDetail]
    else if onF m HIF_STATUS_READY then []
    else [sideRecord E_SYS_BOOT_PHASE (getF m SYS_BOOT_STAT_PHASE)]
  { m with out := { m.out with sideband := m.out.sideband ++ r } }

/-- SIDEBAND_STATUS_RECORD. -/
def execSidebandStatusRecord (s : State) : Out := done sidebandRecord s

end Sys2Proof.Machine
end

