-- ==== Sys2Proof/Machine/Boot.lean ====
section
/-! DEFINITION. Boot (23 R614, R615, R624 to R629): straps, flash discovery, authentication of firmware and model, boot over
PCIe. -/

namespace Sys2Proof.Machine

/-! ## Straps -/

/-- Whether a strap combination is valid (R615, 00 R4). -/
def strapsValid (node src : Nat) (mgr pcie : Bool) : Bool :=
  (if mgr then decide (node ≤ 1) else decide (2 ≤ node ∧ node < 34)) && src != 3 && !(src == 1 && !pcie)

/-- STRAP_SAMPLE: the levels of the straps; `fuse`, `uid` and `hashes` are what the fuses hold: FUSE, the unique identifier, the
hashes of the two key slots, the grade (R614, R615). -/
def strapSample (node src : Nat) (mgr test : Bool) (fuse uid grade : Nat) (hashes : List (List Nat)) (m : Mach) : Mach :=
  if m.sys.inReset then m
  else
    let m := setF (setB (setB (setF m SYS_STRAP_NODE_ID 0 node) SYS_STRAP_ROLE 0 mgr) SYS_STRAP_TEST_EN 0 test) SYS_STRAP_BOOT_SRC 0 src
    let m := putReg (setF (set64 m SYS_UID_LO_UID SYS_UID_HI_UID 0 uid) SYS_CHIP_ID_GRADE 0 grade) 0 0x28 fuse
    let m := { m with sys := { m.sys with hash := hashes } }
    let m := if test then setF m TEST_STAT_UNLOCK 0 1 else m
    if strapsValid (node % 64) (src % 4) mgr (onF m SYS_STRAP_PCIE_CLK) then
      { flag m SYS_STRAP_VALID with sys := { m.sys with pcie := src % 4 == 1 } }
    else
      let m := setF (setF (setF m SYS_PWR_STAT_ON 0 1) SYS_PWR_STAT_TRANS 0 0) SYS_PWR_CTRL_ON 0 0x17
      { m with safe := (islandReset m).safe,
               sys := { m.sys with trans := [], alert := true, sideCode := E_SYS_STRAP_INVALID, sideDetail := regWord m 0 4 } }

/-- STRAP_SAMPLE. -/
def execStrapSample (node src : Nat) (mgr test : Bool) (fuse uid grade : Nat) (hashes : List (List Nat)) (s : State) : Out :=
  done (strapSample node src mgr test fuse uid grade hashes) s

/-! ## Failure and fallback -/

/-- Whether boot is still under way: valid straps, before phase 5, not failed. -/
def booting (m : Mach) : Bool := !m.sys.inReset && onF m SYS_STRAP_VALID && decide (getF m SYS_BOOT_STAT_PHASE < 5)

/-- Boot fails: phase 6, the code on the host sideband (R627). -/
def bootFail (m : Mach) (code det : Nat) : Mach :=
  let m := setF (setF m SYS_BOOT_STAT_PHASE 0 6) SYS_BOOT_STAT_FAIL 0 code
  { m with sys := { m.sys with alert := true, sideCode := code, sideDetail := det } }

/-- No firmware copy in flash is good: boot over PCIe if the straps allow the fallback and its clock is present (R615, R627). -/
def fallback (m : Mach) (code det : Nat) : Mach :=
  if getF m SYS_STRAP_BOOT_SRC = 2 ∧ onF m SYS_STRAP_PCIE_CLK = true then
    setF (setF { m with sys := { m.sys with pcie := true } } HIF_STATUS_READY 0 0) SYS_BOOT_STAT_PHASE 0 2
  else bootFail m code det

/-! ## Flash discovery (R625, 24 R656) -/

/-- The longest run of correct reads among the 16 sampling delays. -/
def longestRun : List Bool → Nat → Nat → Nat
  | [], cur, best => max cur best
  | true :: r, cur, best => longestRun r (cur + 1) best
  | false :: r, cur, best => longestRun r 0 (max cur best)

/-- FLASH_DISCOVERY: whether the parameter header is valid, the read mode that the parameters advertise as the fastest of the three
(0 1-1-1, 1 1-4-4, 2 4-4-4 DTR), the reads of the signature at the 16 sampling delays. -/
def flashDiscovery (header : Bool) (mode : Nat) (eye : List Bool) (m : Mach) : Mach :=
  if !booting m || m.sys.pcie || getF m SYS_BOOT_STAT_PHASE != 0 then m
  else
    let m := setF m SYS_BOOT_STAT_PHASE 0 1
    if header && decide (4 ≤ longestRun (eye.take 16) 0 0) then
      setF (setF m SYS_BOOT_STAT_MODE 0 (min mode 2)) SYS_BOOT_STAT_PHASE 0 2
    else fallback m E_SYS_BOOT_FLASH 0

/-- FLASH_DISCOVERY. -/
def execFlashDiscovery (header : Bool) (mode : Nat) (eye : List Bool) (s : State) : Out := done (flashDiscovery header mode eye) s

/-! ## Images (R626, R627) -/

/-- A segment of an image: destination, length, offset, zero-fill. -/
def imgSegs (l : List Nat) : List (Nat × Nat × Nat × Nat) :=
  (List.range (field l 24 2)).map (fun i =>
    let o := 256 + 16 * i
    (field l o 4, field l (o + 4) 4, field l (o + 8) 4, field l (o + 12) 4))

/-- Whether [a, a + n) lies in supervisor memory, the firmware reservation, or a pool core's instruction memory and constant area. -/
def fwDest (m : Mach) (a n : Nat) : Bool :=
  decide (a + n ≤ 0x100000) || decide (allocBase m 8 ≤ a ∧ a + n ≤ allocBase m 9)
    || (List.range 32).any (fun k => decide (0x50000000 + 0x10000 * k ≤ a ∧ a + n ≤ 0x50000000 + 0x10000 * k + 0xC000))

/-- The first failing step of the acceptance of an image, 0 for none (R627). -/
def imgFail (m : Mach) (model : Bool) (l : List Nat) : Nat :=
  let len := field l 8 4
  let nseg := field l 24 2
  let key := field l 6 1
  let zero (o n : Nat) : Bool := ((l.drop o).take n).all (· == 0)
  let segs := imgSegs l
  let pub := (l.drop 64).take 96
  if !(field l 0 4 == (if model then 0x4C4E4D44 else 0x4C4E4657) && field l 4 2 == 1
      && decide (512 ≤ len ∧ len ≤ (if model then 2097664 else 2097152) ∧ len ≤ l.length)
      && (if model then nseg == 1 else decide (1 ≤ nseg ∧ nseg ≤ 64)) && zero 7 1 && zero 26 38 && zero 160 96
      && segs.all (fun s => decide (s.2.2.2 ≤ 1))) then 1
  else if !(decide (key ≤ 1) && (getF m SYS_FUSE_KEY_VALID).testBit key && !(getF m SYS_FUSE_REVOKED).testBit key
      && sha384 pub == m.sys.hash.getD key []) then 2
  else if field l 16 4 < getF m SYS_FUSE_SVN_MIN then 3
  else if !(segs.all (fun s => (s.2.2.2 == 1 || decide (s.2.2.1 + s.2.1 ≤ len - 96)) && (model || fwDest m s.1 s.2.1))) then 4
  else if !ecdsaOk pub ((l.drop (len - 96)).take 96) (l.take (len - 96)) then 5
  else 0

/-- Copies the segments to their destinations. -/
def loadSegs (m : Mach) (l : List Nat) : Mach :=
  (imgSegs l).foldl (fun m s =>
    wrBytes m s.1 (if s.2.2.2 = 1 then List.replicate s.2.1 0 else (l.drop s.2.2.1).take s.2.1)) m

/-- Firmware runs: its entry, its version, the domains of R679, the outputs released, READY after `ms` ms (R629). -/
def startFirmware (m : Mach) (l : List Nat) (copy ms : Nat) : Mach :=
  let m := loadSegs m l
  let m := setF (setF (setF m SYS_FW_VER_VERSION 0 (field l 12 4)) SYS_BOOT_STAT_COPY 0 copy) SYS_BOOT_STAT_BOOT_MS 0 (min ms 65535)
  let m := putCore m 32 { coreSt m 32 with pc := BitVec.ofNat 32 (field l 20 4) }
  let m := { m with sys := { m.sys with pcie := false, clamp := false } }
  let m := (List.range 14).foldl (fun m d =>
    if !clocked m d then m
    else if (domCols m).any (fun c => nth (domTable d) c == 1) then switchDom m d true else m) m
  setF (flag m HIF_STATUS_READY) SYS_BOOT_STAT_PHASE 0 4

/-- FIRMWARE_AUTHENTICATION: the flash region of the copy whose turn it is, and the ms from reset release to READY (R627). -/
def firmwareAuth (l : List Nat) (ms : Nat) (m : Mach) : Mach :=
  if !booting m || m.sys.pcie || getF m SYS_BOOT_STAT_PHASE != 2 then m
  else
    let copy := m.sys.bootTries
    match imgFail m false l with
    | 0 => startFirmware m l copy ms
    | step =>
      let m := { m with sys := { m.sys with bootTries := copy + 1 } }
      if copy = 0 then m else fallback m E_SYS_AUTH_FAIL (step + 16 * copy)

/-- FIRMWARE_AUTHENTICATION. -/
def execFirmwareAuthentication (l : List Nat) (ms : Nat) (s : State) : Out := done (firmwareAuth l ms) s

/-- BOOT_LEN_WRITE: the length of an image that the host has written to the working store from 0x1000_0000 (R628). -/
def bootLenWrite (len ms : Nat) (m : Mach) : Mach :=
  if m.sys.inReset ∨ 5 ≤ getF m SYS_BOOT_STAT_PHASE then m
  else
    let m := setF m SYS_BOOT_LEN_LEN 0 len
    if !booting m || !m.sys.pcie then m
    else
      let l := rdBytes m 0x10000000 (getF m SYS_BOOT_LEN_LEN)
      match imgFail m false l with
      | 0 => startFirmware m l 2 ms
      | step => bootFail (setF m SYS_BOOT_STAT_COPY 0 2) E_SYS_AUTH_FAIL step

/-- BOOT_LEN_WRITE. -/
def execBootLenWrite (len ms : Nat) (s : State) : Out := done (bootLenWrite len ms) s

/-! ## The model in flash -/

/-- The end of boot: phase 5 and the notice (R629). -/
def booted (m : Mach) : Mach := notice (setF m SYS_BOOT_STAT_PHASE 0 5) E_SYS_BOOTED (getF m SYS_FW_VER_VERSION)

/-- BOOT_MODEL_LOAD: the model region of the flash; an erased first word means none. A standalone worker sets its locks after the
load (04 R140). -/
def bootModelLoad (l : List Nat) (m : Mach) : Mach :=
  if !booting m || getF m SYS_BOOT_STAT_PHASE != 4 then m
  else if field l 0 4 = 0xFFFFFFFF then booted m
  else match imgFail m true l with
    | 0 =>
      let seg := (imgSegs l).headD (0, 0, 0, 0)
      let r := loadImage (acceptedSet m) ((l.drop seg.2.2.1).take seg.2.1) m
      let m := r.1
      booted (if r.2.isNone && !isManager m && m.mould.config == 0 then (setLocks 7 m).1 else m)
    | step => booted (logNode m E_SYS_AUTH_FAIL (step + 32))

/-- BOOT_MODEL_LOAD. -/
def execBootModelLoad (l : List Nat) (s : State) : Out := done (bootModelLoad l) s

end Sys2Proof.Machine
end

