-- ==== Sys2Proof/Machine/TwiSync.lean ====
section
/-! DEFINITION. Twira: cold start, integration, synchronisation in operation, the passive state and reintegration (13 R391 to
R398, R407). -/

namespace Sys2Proof.Machine

/-- An event of the TWI block on this node. -/
def twiNote (m : Mach) (code : Nat) (det : Int) : Mach := if isError code then logNode m code (unsg 32 det) else notice m code (unsg 32 det)

/-- Whether a manager of a pair takes its cell time from the pair link: role resolution has ended (R395). -/
def pairTimed (m : Mach) : Bool := inPair m && getF m PAIR_STAT_ROLE != 0

/-! ## Cold start (R391 to R393) -/

/-- A manager with an admitted link enters LISTEN at a boundary of its own grid (R391). -/
def listenBoundary (m : Mach) : Mach :=
  if isManager m && twiState m == 1 && (twiPorts m).any (fun p => getF m TWI_PORT_STATE p == 3) then
    setTwiState { m with twi := { m.twi with listenEnd := if getF m PAIR_STAT_ROLE = 7 then none else some (m.cyc.now + 4 * cycLen m + nodeId m * 1600) } } 2
  else m

/-- LISTEN_TIMEOUT (R391, R392): the attempt takes place in the first cycle that starts at or after the timeout. -/
def listenTimeout (m : Mach) : Mach :=
  match m.twi.listenEnd with
  | some t =>
    if isManager m && twiState m == 2 then
      let m := at' m t
      setTwiState { m with twi := { m.twi with listenEnd := none, cold := some (ceilDiv t (cycLen m)) } } 3
    else m
  | none => m

/-- LISTEN_TIMEOUT. -/
def execListenTimeout (s : State) : Out := done listenTimeout s

/-- COLD_START_END (R392): no lower COLD frame has ended the attempt, and the manager becomes time master. -/
def coldStartEnd (m : Mach) : Mach :=
  match m.twi.cold with
  | some c =>
    if twiState m = 3 then
      let m := at' { m with twi := { m.twi with cold := none } } (c * cycLen m + cycLen m)
      twiNote (setTwiState (setF (flag m TWI_SU_STAT_MASTER) TWI_SU_STAT_REF 0 (nodeId m)) 5) E_TWI_COLD_START (c % 2 ^ 32 : Nat)
    else m
  | none => m

/-- COLD_START_END. -/
def execColdStartEnd (s : State) : Out := done coldStartEnd s

/-! ## Integration (R394) -/

/-- Whether a manager of a pair has the pair's cell time already: the active one gives it, the other has taken it (17 R493, R498). -/
def pairAligned (m : Mach) : Bool := pairTimed m && onF m PAIR_STAT_LINK_UP && (getF m PAIR_STAT_ROLE == 1 || m.duo.aligned)

/-- Loads cell time from a SYNC payload whose /S/ arrived `el` quarter ticks ago. A node with an enabled axis takes no step (02 R57)
and stays as it is; a manager that has the pair's cell time keeps it (R395, entry 144). First lock begins (R395). DESIGN CHOICE (entry 82): the length of the frame is in force from this instant, code 0 too where CELL_16K is
not known to be accepted; after SCHED_LOCK the node keeps its own (02 R59). -/
def integrate (m : Mach) (node el : Nat) (l : List Nat) : Mach :=
  if anyEnabled m then m else
  let m := if twiMode m = 0 then m else setMode m 0
  let code := field l 16 4 % 8
  let m := if !m.locks.sch && (lenUsable m code || code == 0) then
      { setF m TIME_CYCLE_CFG_LEN 0 code with cyc := { m.cyc with lenCode := code } } else m
  let m := if pairAligned m then m else stepTime m (field l 0 8 + el / 4)
  let m := { m with cyc := { m.cyc with started := true } }
  let m := { m with time := { m.time with valid := true },
                    twi := { m.twi with confirms := 0, cold := none, listenEnd := none, silent := false } }
  setTwiState (setF (setF (setF m TWI_SU_STAT_REF 0 node) TWI_SU_STAT_MASTER 0 0) TWI_SU_STAT_LOCKED 0 0) 4

/-- Shows a measured deviation (R409). -/
def putDev (m : Mach) (dq : Int) : Mach :=
  setF (setS m TWI_SYNC_DEV_DELTA 0 (sat 32 dq)) TWI_SYNC_MAX_MAX 0 (max (getF m TWI_SYNC_MAX_MAX) (min dq.natAbs (2 ^ 32 - 1)))

/-- The fine step after the line table (R402); a node with an enabled axis does not step (02 R57). -/
def fineStep (m : Mach) (dq : Int) : Mach :=
  if anyEnabled m then m else
  let m := stepTime (putDev m dq) (max 0 ((m.cyc.now : Int) - roundDiv dq 4)).toNat
  twiNote (flag m TWI_SU_STAT_LOCKED) E_TWI_FIRST_LOCK (-dq)

/-! ## Measurement and correction (R396 to R398) -/

/-- Enters PASSIVE (R398). -/
def enterPassive (m : Mach) (det : Int) : Mach :=
  let m := incF { m with twi := { m.twi with outSince := some m.cyc.n, good := 0 } } TWI_PASSIVE_CNT_CNT 0 1
  twiNote (setTwiState m 7) E_TWI_PASSIVE det

/-- The rate of the next cycle (R397): RATE of the reference in 2^-24, less what removes δ / 8 + φ; φ and R count 1/256 ticks. -/
def correct (m : Mach) (dq : Option Int) : Mach :=
  let r : Int := (cycLen m * 256 / 10000 : Nat)
  let phi := clampI (-(r / 2)) (r / 2) (m.twi.phi + dq.getD 0)
  let c := clampI (-r) r (8 * dq.getD 0 + phi)
  let y := m.twi.rate * 256 - roundDiv (c * 2 ^ 32) (256 * cycLen m)
  setS { m with twi := { m.twi with phi := phi }, time := { m.time with yNext := some y } } TWI_SYNC_RATE_RATE 0 y

/-- A deviation measured against a manager's SYNC frame. -/
def measure (m : Mach) (dq rate : Int) : Mach :=
  let m := correct { m with twi := { m.twi with rate := rate, missMeas := 0 } } (some dq)
  let m := putDev m dq
  if twiState m = 6 ∧ 640 < dq.natAbs then enterPassive m dq
  else if twiState m = 7 then { m with twi := { m.twi with good := if dq.natAbs ≤ 128 then m.twi.good + 1 else 0 } }
  else m

/-- A SYNC frame of manager `k` with deviation `dq`: that of the active manager counts at once, the standby's where that of the
active manager is missed (R396). SU_STAT.REF names the reference in use (R409). -/
def syncFrame (m : Mach) (k : Nat) (dq rate : Int) : Mach :=
  if isManager m then m
  else if k = activeMgr m then
    if m.twi.meas = 2 then m else measure (setF { m with twi := { m.twi with meas := 2, alt := none } } TWI_SU_STAT_REF 0 k) dq rate
  else if m.twi.meas = 0 then { m with twi := { m.twi with meas := 1, alt := some (dq, rate) } }
  else m

/-- The end of a cycle for the measurement: the standby's frame stands in; a cycle without any keeps RATE and φ. -/
def measureEnd (m : Mach) : Mach :=
  let st := twiState m
  if isManager m || !(st == 6 || st == 7 || st == 5) || (st == 5 && !onF m TWI_SU_STAT_LOCKED) then
    { m with twi := { m.twi with meas := 0, alt := none } }
  else
    let m := match m.twi.meas, m.twi.alt with
      | 2, _ => m
      | _, some (dq, r) => measure (setF m TWI_SU_STAT_REF 0 (1 - activeMgr m)) dq r
      | _, none => correct { m with twi := { m.twi with missMeas := m.twi.missMeas + 1 } } none
    { m with twi := { m.twi with meas := 0, alt := none } }

/-- PASSIVE_TIMEOUT (R398): 4 cycles without a measurement. -/
def passiveTimeout (m : Mach) : Mach := if twiState m = 6 ∧ 4 ≤ m.twi.missMeas then enterPassive m 0x7FFFFFFF else m

/-- PASSIVE_TIMEOUT. -/
def execPassiveTimeout (s : State) : Out := done passiveTimeout s

/-- SYNC_LOST (R398): 16 cycles without a measurement; the node stops forwarding and listens (R407). -/
def syncLost (m : Mach) : Mach :=
  if (twiState m = 6 ∨ twiState m = 7) ∧ 16 ≤ m.twi.missMeas then
    let m := { m with twi := { m.twi with missMeas := 0, good := 0, silent := true, outSince := m.twi.outSince.orElse (fun _ => some m.cyc.n) } }
    setTwiState (twiNote (setF m TWI_SU_STAT_REF 0 0x3F) E_TWI_SYNC_LOST 0) 2
  else m

/-- SYNC_LOST. -/
def execSyncLost (s : State) : Out := done syncLost s

/-- A passive node returns at a boundary after 8 good measurements (R398); one that had lost its manager has it again (23 R637). -/
def passiveReturn (m : Mach) : Mach :=
  if twiState m = 7 ∧ 8 ≤ m.twi.good then
    let m := setF (setF m SYS_MGR_STAT_LOST 0 0) SYS_MGR_STAT_MISS_RUN 0 0
    let m := incF m TWI_REINT_CNT_CNT 0 1
    let since := m.twi.outSince.getD m.cyc.n
    let m := twiNote m E_TWI_REINTEGRATED (min (2 ^ 32 - 1) (m.cyc.n - since) : Nat)
    refreshOwned (setTwiState { m with twi := { m.twi with good := 0, outSince := none } } 6)
  else m

/-- Whether the node waits for a SYNC frame to take as its reference: it listens, or has lost its mode (R369, R407). -/
def listening (m : Mach) : Bool := twiState m == 2 || (twiState m == 8 && m.twi.silent)

/-- Links that trained again carry traffic once the deviation lies within 40 ns (R407). What the other end has measured the node does not
know (entry 145). -/
def unblockPorts (m : Mach) : Mach :=
  if (isManager m || (onF m TWI_SU_STAT_LOCKED && decide ((getS m TWI_SYNC_DEV_DELTA).natAbs ≤ 128))) && !listening m then
    (twiPorts m).foldl (fun m p => if (portSt m p).blocked then setPort m p { portSt m p with blocked := false } else m) m
  else m

/-- The cycle nearest to the present one whose low 32 bits are `lo`. -/
def nearCycle (m : Mach) (lo : Nat) : Nat := extend32 m.cyc.n lo

/-- A node in LISTEN during OPER takes a SYNC frame of a mode whose tag it holds as its reference (R407): where all its axes are
disabled it steps once, then it is passive. `cyc` and `off` are the frame's cycle and expected arrival in it. -/
def relock (m : Mach) (node mode cyc off t4 el : Nat) : Mach :=
  let m := setF m TWI_SU_STAT_REF 0 node
  let m := if anyEnabled m then m else stepTime m (cyc * cycLen m + off + el / 4)
  let m := { m with twi := { m.twi with good := 0, missMeas := 0, silent := false }, cyc := { m.cyc with started := true } }
  let dq : Int := if anyEnabled m then (t4 : Int) - 4 * (cyc * cycLen m + off : Nat) else 0
  setTwiState (incF (setMode (setS m TWI_SYNC_DEV_DELTA 0 (sat 32 dq)) mode) TWI_PASSIVE_CNT_CNT 0 1) 7

end Sys2Proof.Machine
end

