-- ==== Sys2Proof/Machine/TwiSend.lean ====
section
/-! DEFINITION. Twira: what a node sends in its slots: mode control, mode 0 contents, witness records, headers, the guardian of
its own slots and the cut of forwarded frames (12 R360, R367, R368, R370 to R373, R378; 13 R387, R390, R399, R401, R403; 17 R505). -/

namespace Sys2Proof.Machine

/-! ## Mode exchange (12 R366 to R369) -/

/-- The mode control record of a frame of the active manager in this cycle (R367, R368, 13 R404). -/
def ctlRecord (m : Mach) : List Nat :=
  match m.twi.exch with
  | none => List.replicate 16 0
  | some x =>
    let n := m.cyc.n
    let op := if n = x.a then 1 else if x.a < n ∧ n ≤ x.a + 2 then (if x.start then 2 else x.op) else 0
    if op < 1 ∨ (n ≠ x.a ∧ op = 1) ∨ !isActive m then List.replicate 16 0
    else [op, x.m, 0, 0] ++ leBytes 4 x.s ++ List.replicate 8 0

/-- Whether the node acknowledges an announced switch in a slot of this cycle (R367). -/
def modeAck (m : Mach) (e : SchedEnt) : Bool :=
  match m.twi.ann with
  | some (k, s) => m.cyc.n + 2 == s && decide (modeClass m k < 3) && m.locks.sch && twiMode m != 0
      && decide (nth (plan m) 0 ≤ e.start ∧ e.start < nth (plan m) 3)
  | none => false

/-! ## Witness records (17 R505) -/

/-- The active manager and the cycle from which a change applies, as this manager announces it. -/
def activeFrom (m : Mach) : Nat × Nat :=
  match m.duo.outcome, m.duo.swapA with
  | some (true, s), _ => (nodeId m, s % 2 ^ 32)
  | _, some a => if m.duo.confirmed && m.cyc.n == a + 1 then (1 - activeMgr m, (a + 2) % 2 ^ 32) else (activeMgr m, 2 ^ 32 - 1)
  | _, none => (activeMgr m, 2 ^ 32 - 1)

/-- The record that the node puts into its WITNESS slot. -/
def witnessRecord (m : Mach) : List Nat :=
  if isManager m then
    let a := activeFrom m
    [nodeId m, getF m PAIR_STAT_ROLE, b2n (isActive m), a.1] ++ leBytes 4 a.2 ++ List.replicate 24 0
  else [nodeId m, m.twi.seen % 16, 0, 0] ++ leBytes 4 m.cyc.n ++ List.replicate 8 0

/-! ## Mode 0 contents -/

/-- Line state of the active manager. -/
def lineSt (m : Mach) (l : Nat) : LineSt := sget m.twi.lines l {}
/-- Replaces it. -/
def setLine (m : Mach) (l : Nat) (x : LineSt) : Mach := { m with twi := { m.twi with lines := sput m.twi.lines l x {} } }

/-- SYNC (13 R390). -/
def syncPayload (m : Mach) : List Nat :=
  leBytes 8 m.cyc.now ++ leBytes 8 m.cyc.n ++ leBytes 4 (regWord m 11 0x200) ++ leBytes 4 m.mould.modelId ++ [twiState m] ++ List.replicate 7 0

/-- POLL (13 R399). -/
def pollPayload (m : Mach) (l : Nat) : List Nat :=
  let x := lineSt m l
  let walk := x.step == 1
  ctlRecord m ++ [b2n walk, if walk then x.target else 0xFF] ++ List.replicate 46 0

/-- The worker's port that faces the active manager, on channel A. -/
def nearPort (m : Mach) : Nat := if m.twi.activeNode = 1 then 1 else 0

/-- REPLY (13 R399). -/
def replyPayload (m : Mach) : List Nat :=
  let near := nearPort m
  let far := 1 - near
  let admitted := getF m TWI_PORT_STATE far == 3
  [nodeId m, b2n (isManager m) + 2 * getF m SYS_STRAP_TEST_EN, getF m TWI_PORT_PEER near, if admitted then getF m TWI_PORT_PEER far else 0xFF]
    ++ leBytes 2 (getF m TWI_PORT_DLY near) ++ leBytes 2 (getF m TWI_PORT_DLY far) ++ planBytes m ++ leBytes 4 (regWord m 0 0)
    ++ leBytes 4 (lockWord m.locks + 2 ^ 16 * m.twi.part.code) ++ List.replicate 28 0

/-- The line table (R401) as node IDs by position and link delays in ticks: the walk begins at the active manager's end. Positions
that no found node holds carry 0xFF (a single manager of rank 1 leaves position 0 free, R351). -/
def lineTable (m : Mach) (l : Nat) : List Nat × List Nat :=
  let f := (lineSt m l).found
  let far := (f.getLast?).any (fun x => x.far == 1 - nodeId m)
  let ids := nodeId m :: (f.map (·.node) ++ if far then [1 - nodeId m] else [])
  let tk (q : Nat) : Nat := (roundDiv (q : Int) 4).toNat % 1024
  let ds := f.map (fun x => tk x.dNear) ++ (if far then (f.getLast?.map (fun x => tk x.dFar)).toList else [])
  if nodeId m = 0 then (ids, ds)
  else
    let free := if far then 0 else (m.mould.nodes.filter (fun n => n.role == 0 && n.lines.testBit l)).length + 1 - f.length
    (List.replicate free 0xFF ++ ids.reverse, List.replicate free 0 ++ ds.reverse)

/-- Stores a line table (R401). -/
def storeTable (m : Mach) (l : Nat) (ids ds : List Nat) : Mach :=
  let m := { m with twi := { m.twi with tables := sput m.twi.tables l ids [] } }
  let pos := (ids.idxOf? (nodeId m)).getD 0
  let m := setF (setF (setF m TWI_LINE_CFG_POS l pos) TWI_LINE_CFG_NODES l (ids.filter (· != 0xFF)).length) TWI_LINE_CFG_EN l 1
  (List.range 9).foldl (fun m j => setF m TWI_LINK_DLY_DLY (16 * l + j) (nth ds j)) m

/-- The bytes of a line table in a CFG frame: ten node IDs, 0xFF for none, then nine delays of 2 B. -/
def tableBytes (t : List Nat × List Nat) : List Nat :=
  (t.1 ++ List.replicate 10 0xFF).take 10 ++ (padTo 9 t.2).flatMap (leBytes 2)

/-- Puts sections into an image with the header of the model (04 R115, R116). -/
def buildImage (hdr : List Nat) (secs : List (Nat × List Nat)) : List Nat :=
  let pad (l : List Nat) : List Nat := l ++ List.replicate ((16 - l.length % 16) % 16) 0
  let base := 64 + 16 * secs.length
  let r := secs.foldl (fun (x : List (List Nat) × List Nat × Nat) s =>
    (x.1 ++ [leBytes 2 s.1 ++ [0, 0] ++ leBytes 4 x.2.2 ++ leBytes 4 s.2.length ++ leBytes 4 (crc32 s.2)], x.2.1 ++ pad s.2, x.2.2 + (pad s.2).length))
    ([], [], base)
  let body := r.1.flatMap id ++ r.2.1
  let len := 64 + body.length
  let h := hdr.take 6 ++ leBytes 2 secs.length ++ leBytes 4 len ++ (hdr.drop 12).take 16
  let rest := List.replicate 32 0 ++ body
  h ++ leBytes 4 (crc32 (h ++ [0, 0, 0, 0] ++ rest)) ++ rest

/-- GROUPS of a worker's part: every group and set, which name no node, with the axis limits of the worker's cell axes and the
limit inputs on it (R119). -/
def groupsPart (axes : List Nat) (node : Nat) (s : List Nat) : List Nat :=
  let ng := field s 0 1
  let ns := field s 1 1
  let na := field s 2 2
  let nl := field s 4 2
  let o := 16 + 96 * ng + 16 * ns
  let lims := (records s o 16 na).filter (fun r => axes.contains (field r 0 1))
  let ins := (records s (o + 16 * na) 16 nl).filter (fun r => field r 0 1 == node)
  s.take 2 ++ leBytes 2 lims.length ++ leBytes 2 ins.length ++ (s.take o).drop 6 ++ lims.flatMap id ++ ins.flatMap id

/-- A worker's part of the model (04 R126, 13 R403): the worker's own records of every section, without the sections that only a
manager needs (R116), with a cycle code and a phase plan where these are given. Records that name no node (groups, sets, chains, held
objects, the graph, reactions, schedule entries) are the model's own (log entry 86). -/
def partOf (m : Mach) (node : Nat) (plan : Option (Nat × List Nat)) : List Nat :=
  let img := m.mould.image
  let axes := (m.mould.axes.filter (fun a => a.node == node)).map (·.axis)
  let own (l : List (List Nat)) (o : Nat) : List Nat := (l.filter (fun r => field r o 1 == node)).flatMap id
  let secs := ((secTable img).filter (fun e => !([6, 7, 8] : List Nat).contains e.id)).map (fun e =>
    let s := (img.drop e.off).take e.len
    (e.id, match e.id with
      | 1 =>
        let rs := (records s 16 16 (field s 0 1)).filter (fun r => field r 0 1 == node)
        leBytes 1 rs.length ++ (s.drop 1).take 15 ++ rs.flatMap id
      | 2 => ((records s 0 32 (s.length / 32)).filter (fun r => field r 1 1 == node)).flatMap id
      | 3 => groupsPart axes node s
      | 11 =>
        let rs := (records s 16 48 (field s 0 2)).filter (fun r => field r 2 1 == node)
        leBytes 2 rs.length ++ (s.drop 2).take 14 ++ rs.flatMap id
      | 12 => own (limitsRaw img) 0
      | 13 => plan.elim s (fun p => s.take 48 ++ p.2 ++ s.drop 68)
      | 14 => own (loopsRaw img) 0
      | _ => s))
  buildImage (plan.elim (img.take 64) (fun p => img.take 16 ++ leBytes 2 p.1 ++ (img.take 64).drop 18)) secs

/-- The part that goes to a worker, with the cycle code and the phase plan in force (04 R117), its length and its CRC as CFG announces them.
Where the part of the stored image is not the one that the worker's NODES record gives (04 R118), the record's length and CRC are
announced, which the bytes then fail (entry 74). -/
def partSent (m : Mach) (node : Nat) : List Nat × Nat × Nat :=
  let p := partOf m node (some (getF m TIME_CYCLE_CFG_LEN, planBytes m))
  let whole := partOf m node none
  match m.mould.nodes.find? (fun n => n.node == node) with
  | some n => if n.partLen = whole.length ∧ n.partCrc = crc32 whole then (p, p.length, crc32 p) else (p, n.partLen, n.partCrc)
  | none => (p, p.length, crc32 p)

/-- CFG (13 R401, R403): the line table, or segment NEXT of the worker that is downloaded. -/
def cfgPayload (m : Mach) (l : Nat) : Option (List Nat) :=
  let x := lineSt m l
  let frame (target kind seq total crc : Nat) (seg : List Nat) : List Nat :=
    padTo 1024 ([target, kind] ++ leBytes 2 seq ++ leBytes 4 total ++ leBytes 4 crc ++ [0, 0, 0, 0] ++ seg)
  if x.step = 2 then
    let t := tableBytes (lineTable m l)
    some (frame 0xFF 0 0 t.length (crc32 t) t)
  else if x.step = 3 then x.queue.head?.map (fun n =>
    let p := partSent m n
    frame n 1 x.seg p.2.1 p.2.2 ((p.1.drop (1008 * x.seg)).take 1008))
  else none

/-- What follows from a CFG frame that the manager sends: it stores the line table itself, or expects the named node's answer. A line
without a worker to download is done. -/
def cfgSent (m : Mach) (l : Nat) : Mach :=
  let x := lineSt m l
  if x.step = 2 then
    let t := lineTable m l
    let q := ((x.found.filter (·.ok)).map (·.node)).mergeSort (· ≤ ·) |>.filter (fun n => !x.locked.contains n)
    setLine (storeTable m l t.1 t.2) l { x with step := if q.isEmpty then 4 else 3, seg := 0, queue := q }
  else if x.step = 3 then setLine m l { x with cfgNode := x.queue.head? }
  else m

/-- CFG_ACK (13 R403). -/
def ackPayload (m : Mach) : List Nat :=
  let p := m.twi.part
  [nodeId m, p.st] ++ leBytes 2 (ceilDiv p.bytes.length 1008) ++ leBytes 2 p.code ++ [0, 0] ++ leBytes 4 p.detail ++ List.replicate 52 0

/-! ## Hardware producers (R379) -/

/-- Requests of this manager that go out in P4 of this cycle on a line (09 R284). -/
def reqsOut (m : Mach) (l : Nat) : List AsyncReq :=
  (m.twi.reqs.filter (fun q => !q.sent && decide (q.cycle ≤ m.cyc.n + 1))).flatMap (fun q =>
    (q.nodes.filter (fun n => m.mould.nodes.any (fun r => r.node == n && r.lines.testBit l))).map (fun n =>
      { node := n, kind := q.kind, cycle := q.cycle, axes := q.axes, data := q.data }))

/-- The content of an asynchronous slot leaves: requests that were sent are marked at the boundary, answers are gone. -/
def asyncSent (m : Mach) (e : SchedEnt) : Mach :=
  let reqs := if isActive m then reqsOut m e.line else []
  if reqs = [] ∧ m.twi.answers = [] then m
  else { m with out := { m.out with async := m.out.async ++ [(slotHandle e, reqs, m.twi.answers)] }, twi := { m.twi with answers := [] } }

/-- Writes what the hardware puts into a slot before it is sent. -/
def produce (m : Mach) (e : SchedEnt) : Mach :=
  let h := slotHandle e
  let pub (l : List Nat) (m : Mach) : Mach := publishPayload m h (padTo e.plen l) (if e.kind = 0 then 7 else 8)
  match e.kind with
  | 0 =>
    let r := statePayload m
    match m.twi.early with
    | some (n, l) => if n = m.cyc.n then pub l m else pub r.1 r.2
    | none => pub r.1 r.2
  | 2 => match m.safe.tx.find? (fun x => x.1 == h) with
    | some x => pub x.2.2 { m with safe := { m.safe with tx := m.safe.tx.filter (fun y => y != x) } }
    | none => m
  | 3 => pub (witnessRecord m) m
  | 5 =>
    let x := slotSt m h
    if isManager m then
      let rec_ := ctlRecord m
      -- the record stands in whatever payload leaves; with nothing else to send, a record or a request that is due is published
      let due := rec_.any (· != 0) || (isActive m && reqsOut m e.line != [])
      match (if x.isNew then x.nxt else if modeClass m (twiMode m) = 0 then x.cur else none) with
      | some b => wrBytes m (bufAddr m h b + 16) rec_ 8
      | none => if due then pub rec_ m else m
    else if m.twi.answers != [] && !x.isNew then pub [] m else m
  | 8 => pub (syncPayload m) m
  | 9 =>
    let l := pollPayload m e.line
    let x := lineSt m e.line
    pub l (setLine { m with twi := { m.twi with polled := true } } e.line { x with pollNode := if x.step = 1 then some x.target else none })
  | 10 => pub (replyPayload m) m
  | 11 => match cfgPayload m e.line with
    | some l => cfgSent (pub l m) e.line
    | none => m
  | 12 => pub (ackPayload m) m
  | _ => m

/-! ## SLOT_TRANSMIT -/

/-- Whether the local guardian lets the node insert in a slot (R370, 13 R382, R392, R395): in no slot of the rest of a truncated
cycle (02 R57). -/
def mayInsert (m : Mach) (e : SchedEnt) : Bool :=
  let pair := isManager m && m.mould.config == 3
  ownsSlot m e && !m.sys.mute && !m.cyc.skip && (slotSt m (slotHandle e)).sent != some m.cyc.n &&
  match twiState m with
  | 3 => e.kind == 8 && m.twi.cold == some m.cyc.n
  | 5 => (e.kind != 8 || onF m TWI_SU_STAT_MASTER || pairTimed m || (isManager m && !pair)) && !(e.kind == 12 && m.twi.part.total == 0)
  | 6 => true
  | _ => false

/-- Whether a frame is the first that a manager sends on its line in the cycle (13 R396). -/
def firstOnLine (m : Mach) (l : Nat) : Bool := m.twi.own.all (fun o => portLine m o.1 != l)

/-- The applied rate in 2^-24 as RATE carries it (R356). -/
def rateField (m : Mach) : Nat := unsg 13 (clampI (-4096) 4095 (roundDiv (rateY m) 256))

/-- The frame of a slot leaves on every port of its channel that faces another node (R352), unless the TEST unit drops it. -/
def emitFrame (m : Mach) (e : SchedEnt) (hdr pay : List Nat) : Mach :=
  let h := slotHandle e
  let mine := getF m TEST_TWI_CFG_SRC == 0 && getF m TEST_TWI_CFG_HANDLE == h
  let t := if mine then testEvent m uTWI else (false, m)
  let m := t.2
  let drop := t.1 && getF m TEST_TWI_CFG_ACT == 0
  let dly := if t.1 && getF m TEST_TWI_CFG_ACT == 1 then getF m TEST_TWI_DLY_DLY else 0
  let ps := (lineChPorts m e.line e.ch).filter (fun p => portUp m p)
  let first := m.cyc.start + e.start + dly
  let m := if drop then m else ps.foldl (fun m p => sendFrame m p (hdr ++ pay)) m
  { m with twi := { m.twi with own := m.twi.own ++ ps.map (fun p => (p, first, first + frameDur e.plen)) } }

/-- Sends PUB of a slot, or the last payload again as stale (R378); a poisoned buffer is not sent (22 R609). -/
def sendSlot (m : Mach) (e : SchedEnt) : Mach :=
  let h := slotHandle e
  let x := slotSt m h
  let mode := twiMode m
  let new := x.isNew && x.nxt.isSome
  let again := !new && x.cur.isSome && modeClass m mode == 0
  if !new && !again then m
  else
    let x := if new then { x with cur := x.nxt, nxt := none, isNew := false } else x
    let age := if new then 0 else min 255 (x.sentAge + 1)
    let m := setSlot m h { x with sentAge := age, sent := some m.cyc.n }
    let m := setF (setF m TWI_SLOT_STAT_AGE h age) TWI_SLOT_STAT_CYCLE h (m.cyc.n % 2 ^ 16)
    let m := setB (setF m TWI_SLOT_STAT_EMPTY h 0) TWI_SLOT_STAT_STALE h (!new)
    let sync := isManager m && (if mode = 0 then e.kind == 8 else firstOnLine m e.line)
    let hdr := frameHeader m (lineOf m e.line) e.slot mode e.ch (b2n (!new)) (b2n sync) age e.plen (modeTag m mode) (modeAck m e)
      (twiState m == 3) (if sync then rateField m else 0)
    let a := bufAddr m h (x.cur.getD 0)
    let m := wrBytes m a hdr 8
    let r := logRead (a + 16) e.plen 8 m
    let m := if modeAck m e then { r.1 with twi := { r.1.twi with acked := true } } else r.1
    if r.2 then m
    else
      let m := emitFrame m e hdr (rdBytes m (a + 16) e.plen)
      if e.kind = 5 then asyncSent m e else m

/-- SLOT_TRANSMIT (R370, R378): START of the owned slot with handle `h` is reached. -/
def slotTransmit (h : Nat) (m : Mach) : Mach :=
  match slotOf m h with
  | some e =>
    -- TWI reads the entry from its schedule memory
    let m := decodeWord m (schedKey { e with line := lineOf m e.line }) 0 8
    if mayInsert m e then sendSlot (produce (at' m (m.cyc.start + e.start)) e) e else m
  | none => m

/-- SLOT_TRANSMIT. -/
def execSlotTransmit (h : Nat) (s : State) : Out := done (slotTransmit h) s

/-! ## Cuts (R372, R373) -/

/-- Whether the node forwards under windows. -/
def forwards (m : Mach) : Bool := [4, 5, 6, 7, 9].contains (twiState m)

/-- A cut is counted and reported. -/
def noteCut (m : Mach) (own : Bool) (p slot : Nat) : Mach :=
  logNode (flag (incF m TWI_PORT_FWD_CUT_CNT p 1) TWI_FLAGS_FWD_CUT) E_TWI_FWD_CUT (p + 8 * (slot % 256) + 2048 * b2n own)

/-- The cut of a forwarded frame of slot `h` from port `p`, once in a cycle. -/
def cutSlotFrame (m : Mach) (own : Bool) (p h : Nat) : Mach :=
  if m.twi.cuts.any (fun c => c.1 == p * 2048 + h) then m
  else noteCut { m with twi := { m.twi with cuts := m.twi.cuts ++ [(p * 2048 + h, own)] } } own p h

/-- A forwarded frame of slot `h` from port `p` is cut while it still arrives. A frame that has arrived whole is past its cut. -/
def fwdCut (own : Bool) (p h : Nat) (m : Mach) : Mach :=
  if 8 ≤ p || !portUp m p || (farPort m p).isNone || !forwards m || (slotOf m h).isNone || m.twi.used.contains (p * 2048 + h) then m
  else cutSlotFrame m own p h

/-- GUARDIAN_CUT: the window of the slot with handle `h` ends at port `p` while its frame is still arriving. -/
def execGuardianCut (p h : Nat) (s : State) : Out := done (fwdCut false p h) s

/-- OWN_INSERTION_CUT: an owned slot starts 60.8 ns after this instant while the frame of handle `h` from port `p` still goes on. -/
def execOwnInsertionCut (p h : Nat) (s : State) : Out := done (fwdCut true p h) s

end Sys2Proof.Machine
end

