-- ==== Sys2Proof/Machine/TwiRecv.lean ====
section
/-! DEFINITION. Twira: FRAME_RECEIVE: the forwarding guardian, the checks of a frame, and what a good frame brings (12 R358, R367
to R373, R375, R396; 13 R389, R394, R399 to R403, R407; 17 R505). -/

namespace Sys2Proof.Machine

/-- Header fields of a received frame (12 R356). -/
structure Hdr where
  node : Nat
  line : Nat
  slot : Nat
  mode : Nat
  ch : Nat
  sync : Bool
  cycle : Nat
  len : Nat
  ack : Bool
  active : Bool
  cold : Bool
  rate : Int
  tag : Nat
  deriving DecidableEq, Repr

/-- The header of a frame. -/
def hdrOf (l : List Nat) : Hdr :=
  let b2 := field l 2 1
  let w := field l 10 2
  { node := field l 0 1 % 64, line := field l 0 1 / 64, slot := field l 1 1, mode := b2 % 8, ch := b2 / 8 % 2, sync := b2.testBit 5,
    cycle := field l 4 4, len := field l 8 2, ack := w.testBit 0, active := w.testBit 1, cold := w.testBit 2, rate := sgn 13 (w / 8),
    tag := field l 12 4 }

/-! ## Windows (R371, 13 R388) -/

/-- The node whose end or place a slot's frames come from; none for a slot of a node named in the cycle. -/
def senderOf (m : Mach) (e : SchedEnt) : Option Nat := if e.owner = 0x3E then none else some (if e.owner = 0x3F then activeMgr m else e.owner)

/-- Whether a slot's frames reach a port (R352). -/
def reaches (m : Mach) (p : Nat) (e : SchedEnt) : Bool :=
  portLine m p == e.line && portCh m p == e.ch && !ownsSlot m e &&
  (isManager m || (if twiMode m = 0 then (if e.owner < 2 then p % 2 == e.owner else true)
    else match (senderOf m e).bind (posOf m e.line), posOf m e.line (nodeId m) with
      | some a, some b => if p % 2 = 0 then decide (a < b) else decide (b < a)
      | _, _ => false))

/-- The expected arrival of a slot's frame in the cycle (R353). -/
def expected (m : Mach) (e : SchedEnt) (node : Nat) : Nat :=
  match posOf m e.line node, posOf m e.line (nodeId m) with
  | some a, some b => e.start + arrivalDelay m e.line a b
  | _, _ => e.start

/-- The window of a slot at this node, in ticks of cell time. -/
def recvWindow (m : Mach) (e : SchedEnt) : Int × Int :=
  let c : Int := m.cyc.start
  if twiMode m = 0 then (c + e.start - omega - 240, c + (e.start + frameDur e.plen + 2 * omega + 240 : Nat))
  else
    let a := expected m e ((senderOf m e).getD 0)
    (c + a - 240, c + (a + frameDur e.plen + 240 : Nat))

/-! ## On-demand views (R375, R376) -/

/-- The cycle of a slot's latest occurrence at the present instant (R376): that of this cycle once its frame has been stored, or its window
at this node has ended. -/
def latestOcc (m : Mach) (e : SchedEnt) : Nat :=
  let x := slotSt m (slotHandle e)
  let here (b : Option Nat) (h : Nat × Nat × Bool) : Bool := b.isSome && h.1 == m.cyc.n % 2 ^ 32
  if here x.nxt x.nxtHdr || here x.cur x.curHdr || decide ((recvWindow m e).2 ≤ m.cyc.now) then m.cyc.n else m.cyc.n - 1

/-- ACQUIRE_VIEW (R375): a write of the handle of an on-demand slot to TWI_ACQ. -/
def acquireView (h : Nat) (m : Mach) : Mach :=
  match slotOf m (h % 2048) with
  | some e => if (e.kind == 4 || e.kind == 5 || e.kind == 6) && storesSlot m e then viewSlot m (h % 2048) (latestOcc m e)
              else twiBadCfg m 0x404
  | none => twiBadCfg m 0x404

/-- ACQUIRE_VIEW. -/
def execAcquireView (h : Nat) (s : State) : Out := done (domWrite 10 0x404 (acquireView h)) s

/-! ## The guardian (R371) -/

/-- The slot that a frame whose /S/ arrives at `t4` (1/4 ticks) is assigned to: the earliest free window that holds it. -/
def assign (m : Mach) (p t4 : Nat) : Option SchedEnt :=
  let free := (slotsNow m).filter (fun e => reaches m p e && !m.twi.used.contains (p * 2048 + slotHandle e) &&
    (let w := recvWindow m e; decide (4 * w.1 ≤ (t4 : Int) ∧ (t4 : Int) < 4 * w.2)))
  free.foldl (fun b e => match b with
    | none => some e
    | some f => if (recvWindow m e).1 < (recvWindow m f).1 then some e else b) none

/-! ## Forwarding (R372, R373) -/

/-- How a cut frame ends (12 R354, R372): /V/, /T/, /R/, /R/. -/
def cutEnd : List Nat := [0x1FE, 0x1FD, 0x1F7, 0x1F7]

/-- A forwarded frame cut `stop` hundredths of a tick after its /S/: the code-groups that were complete by then, /S/ the first of them, and the
end of a cut frame. -/
def cutBytes (stop : Int) (l : List Nat) : List Nat := l.take ((stop / 256).toNat - 1) ++ cutEnd

/-- Own insertions on a port after instant `t` of this cycle, first and last tick. -/
def ownAhead (m : Mach) (q t : Nat) : List (Nat × Nat) :=
  ((slotsNow m).filter (fun e => portLine m q == e.line && portCh m q == e.ch && mayInsert m e && decide (t < m.cyc.start + e.start))).map
    (fun e => (m.cyc.start + e.start, m.cyc.start + e.start + frameDur e.plen))

/-- The first own insertion on a port that starts after an instant. -/
def nextOwn (m : Mach) (q t : Nat) : Option Nat :=
  (((ownAhead m q t).map (·.1)).filter (fun s => decide (t < s))).foldl (fun b x => match b with | none => some x | some y => some (min x y)) none

/-- Whether the node inserts on a port at an instant that is not past, as seen at instant `t`. -/
def inserting (m : Mach) (q t at_ : Nat) : Bool :=
  m.twi.own.any (fun o => o.1 == q && decide (o.2.1 ≤ at_ ∧ at_ ≤ o.2.2)) || (ownAhead m q t).any (fun o => decide (o.1 ≤ at_ ∧ at_ ≤ o.2))

/-- Puts a frame out on a port as it is forwarded. -/
def putForward (m : Mach) (q : Nat) (l : List Nat) : Mach := { m with out := { m.out with frames := m.out.frames ++ [(q, l)] } }

/-- A frame goes on at the far port under its window, up to a cut: at the end of the window, or 19 code-groups before an own insertion.
What has no window, or meets an own insertion, is dropped. A cut that its own command has told before is not counted again. -/
def forwardFrame (m : Mach) (p t last : Nat) (e : Option SchedEnt) (l : List Nat) : Mach :=
  let drop (m : Mach) : Mach := logNode (flag (incF m TWI_PORT_FWD_DROP_CNT p 1) TWI_FLAGS_FWD_DROP) E_TWI_FWD_DROP p
  match e with
  | none => drop m
  | some e => match farPort m p with
    | none => m
    | some q =>
      if !portUp m q then m
      else
        let out := t + 192
        if inserting m q t out then drop m
        else
          let w : Int := 100 * ((recvWindow m e).2 - t)
          let byWindow : Option Int := if (recvWindow m e).2 ≤ (last : Int) then some w else none
          let byOwn : Option Int := (nextOwn m q out).bind (fun s =>
            let c : Int := 100 * ((s : Int) - out) - 4864
            if c < 100 * ((last : Int) - t) then some c else none)
          match byWindow, byOwn with
          | none, none => putForward m q l
          | some w, none => putForward (cutSlotFrame m false p (slotHandle e)) q (cutBytes w l)
          | none, some c => putForward (cutSlotFrame m true p (slotHandle e)) q (cutBytes c l)
          | some w, some c => putForward (cutSlotFrame m (decide (c < w)) p (slotHandle e)) q (cutBytes (min w c) l)

/-- A node in LISTEN forwards without windows and cuts what goes on 400 ticks after its /S/ (13 R389). -/
def forwardUntimed (m : Mach) (p t : Nat) (l : List Nat) : Mach :=
  match farPort m p with
  | none => m
  | some q =>
    let x := portSt m p
    if (x.lastFwd.all (fun u => decide (u + 8000 ≤ t))) && portUp m q then
      let m := setPort m p { x with lastFwd := some t }
      if 40000 < 256 * (l.length + 1) then putForward (noteCut m false p (field l 1 1)) q (cutBytes 40000 l) else putForward m q l
    else m

/-! ## Checks (R358) -/

/-- A failure of step 1 or 2. -/
def rxCrc (m : Mach) (p : Nat) : Mach := flag (incF m TWI_PORT_RX_CRC_CNT p 1) TWI_FLAGS_CRC_ERR
/-- A failure of steps 3 to 6. -/
def rxHdr (m : Mach) (p : Nat) : Mach := flag (incF m TWI_PORT_RX_HDR_CNT p 1) TWI_FLAGS_HDR_ERR

/-- The slot's owner in this cycle agrees with NODE; a worker in mode 0 goes by the ACTIVE bit. -/
def ownerOk (m : Mach) (e : SchedEnt) (x : Hdr) : Bool :=
  if e.owner = 0x3F then decide (x.node < 2) && (if twiMode m = 0 && !isManager m then x.active else x.node == activeMgr m)
  else if e.owner = 0x3E then
    let ls := sget m.twi.lines e.line {}
    (if e.kind = 10 then ls.pollNode else ls.cfgNode) == some x.node
  else x.node == e.owner

/-- Steps 3 to 5 of a frame: the slot, or whether only SCHED_TAG differs. -/
def rxSlot (m : Mach) (p : Nat) (x : Hdr) (len : Nat) : SchedEnt ⊕ Bool :=
  let l := portLine m p
  let lineOk := x.line == lineOf m l || (twiMode m == 0 && !isManager m && sget m.twi.tables 0 [] == [])
  if !lineOk || x.mode != twiMode m then .inr false
  else if x.tag != modeTag m (twiMode m) then .inr true
  else match (slotsNow m).find? (fun e => e.line == l && e.ch == portCh m p && e.slot == x.slot) with
    | none => .inr false
    | some e =>
      if ownerOk m e x && x.ch == portCh m p && x.len == e.plen && len == e.plen + 20 && x.cycle == m.cyc.n % 2 ^ 32 then .inl e
      else .inr false

/-! ## Start-up frames -/

/-- A mode 0 SYNC frame (13 R391 to R394, R402): its /S/ arrived at `t4`, `el` quarter ticks before the present instant. A time master that
has polled gives way to a lower ID only while its own SYNC frames have not reached that manager, which it does not know: an open value
(R393, entry 120). -/
def startSync (m : Mach) (x : Hdr) (t4 el : Nat) (l : List Nat) : Mach :=
  let ref := getF m TWI_SU_STAT_REF
  let go (m : Mach) : Mach := integrate m x.node el l
  match twiState m with
  | 2 => if x.cold && !isManager m then m else go m
  | 3 =>
    if !x.cold then go m
    else if x.node < nodeId m then go (twiNote m E_TWI_COLD_ABANDON x.node) else m
  | 4 =>
    if x.cold && !isManager m then m
    else if x.node < ref then go m
    else if x.node ≠ ref then m
    else
      let d : Int := (t4 : Int) - 4 * (field l 0 8 : Int)
      if d.natAbs ≤ 4 * omega then
        let m := { m with twi := { m.twi with confirms := m.twi.confirms + 1 } }
        if 2 ≤ m.twi.confirms then twiNote (setTwiState m 5) E_TWI_INTEGRATED ref else m
      else go m
  | 5 =>
    if onF m TWI_SU_STAT_MASTER then
      if nodeId m ≤ x.node then m
      else if !m.twi.polled then go m
      else let r := fresh m 1; if r.1 = 1 then go r.2 else r.2
    else if x.node < ref then go m
    else if x.node ≠ ref ∨ isManager m ∨ sget m.twi.tables 0 [] = [] then m
    else
      let e := (mode0 0).find? (fun e => e.slot == x.slot && e.ch == 0)
      let dq : Int := (t4 : Int) - 4 * (m.cyc.start + expected m (e.getD {}) x.node : Nat)
      if onF m TWI_SU_STAT_LOCKED then syncFrame m x.node dq x.rate else fineStep m dq
  | _ => m

/-- A mode control record of the active manager (R367 to R369): an announcement, or COMMIT or ABORT with its cycle. -/
def takeRecord (m : Mach) (l : List Nat) : Mach :=
  let op := field l 0 1
  let s := nearCycle m (field l 4 4)
  match op with
  | 1 => { m with twi := { m.twi with ann := some (field l 1 1 % 8, s), acked := false, decided := none } }
  | 2 | 3 =>
    let ann := m.twi.ann.orElse (fun _ => some (field l 1 1 % 8, s))
    -- a manager that continues the exchange after a swap knows the decision from here (R367)
    let ex := m.twi.exch.map (fun x => if x.op = 1 then { x with op := op } else x)
    { m with twi := { m.twi with ann := ann, decided := some (op, m.cyc.n), exch := ex } }
  | _ => m

/-- CFG at a node (13 R401, R403): the line table, or a segment of its part. -/
def takeCfg (m : Mach) (x : Hdr) (ll : Nat) (l : List Nat) : Mach :=
  if field l 0 1 = 0xFF ∧ field l 1 1 = 0 then
    let t := l.drop 16
    let m := { m with twi := { m.twi with lineNo := x.line } }
    let ids := ((t.take 10).reverse.dropWhile (· == 0xFF)).reverse
    storeTable m (if isManager m then x.line else 0) ids ((List.range 9).map (fun j => field t (10 + 2 * j) 2))
  else if field l 1 1 = 1 ∧ (field l 0 1 ≠ nodeId m ∨ isManager m) then
    -- every node of the line knows by it whose answer belongs into CFG_ACK (R387)
    setLine m ll { lineSt m ll with cfgNode := some (field l 0 1) }
  else if field l 1 1 = 1 then
    let seq := field l 2 2
    let total := field l 4 4
    let crc := field l 8 4
    let p := m.twi.part
    let m := setLine m 0 { lineSt m 0 with cfgNode := some (nodeId m) }
    let p : PartSt := if p.total = total ∧ p.crc = crc then p else { total := total, crc := crc }
    let held := ceilDiv p.bytes.length 1008
    let p : PartSt := if p.st = 0 ∧ seq = held then { p with bytes := p.bytes ++ (l.drop 16).take (min 1008 (total - 1008 * seq)) } else p
    let p : PartSt := if p.st = 0 ∧ p.total ≤ p.bytes.length ∧ p.total ≠ 0 then { p with st := 1 } else p
    { m with twi := { m.twi with part := p } }
  else m

/-- The REPLY of a discovered node at the active manager (13 R399, R400): whether it is admitted, and how the walk goes on. -/
def takeReply (m : Mach) (l node : Nat) (b : List Nat) : Mach :=
  let x := lineSt m l
  if x.step ≠ 1 ∨ x.target ≠ node then m
  else
    let i := x.found.length + 1
    let k := (lineWorkers m l).length
    let pos := if nodeId m = 0 then i else k + 1 - i
    let dn := field b 4 2
    let df := field b 6 2
    let max_ := 4 * m.mould.linkDlyMax.getD l 400
    let topo := (lineWorkers m l).any (fun n => n.node == node && n.pos == pos)
    let plan := (b.drop 8).take 20 == planBytes m
    let near := x.found.all (fun f => decide (f.dNear ≤ max_)) && decide (dn ≤ max_)
    let m := if topo then m else twiNote m E_TWI_TOPOLOGY (node + pos % 16 * 256 + l * 4096 : Nat)
    let m := if near then m else twiNote m E_TWI_LINK_DELAY (2 * l + 2 ^ 16 * (dn % 4096) : Nat)
    let m := if plan then m else twiNote m E_TWI_PLAN_MISMATCH node
    let far := field b 3 1
    let ok := topo && near && plan
    let m := if ok then (if node < 32 then setF m TWI_ADMIT_LO_NODES 0 (getF m TWI_ADMIT_LO_NODES ||| 2 ^ node)
      else setF m TWI_ADMIT_HI_NODES 0 (getF m TWI_ADMIT_HI_NODES ||| 2 ^ (node - 32))) else m
    let f : Found := { node := node, near := field b 2 1, far := far, dNear := dn, dFar := df, ok := ok }
    let x := { x with found := x.found ++ [f] }
    let m := if (servedLines m).head? = some l then setF m TWI_SU_STAT_WALK 0 (min 15 (x.found.length + 1)) else m
    if far = 0xFF ∨ far = 1 - nodeId m ∨ 10 ≤ x.found.length then
      let miss := (lineWorkers m l).filter (fun n => !x.found.any (fun f => f.node == n.node))
      miss.foldl (fun m n => twiNote m E_TWI_NODE_MISSING n.node) (setLine m l { x with step := 2 })
    else setLine m l { x with target := far }

/-- CFG_ACK at the active manager (13 R403). -/
def takeCfgAck (m : Mach) (l node : Nat) (b : List Nat) : Mach :=
  let x := lineSt m l
  if x.queue.head? ≠ some node then m
  else match field b 1 1 with
    | 2 =>
      let q := x.queue.tail
      setLine m l { x with locked := insNat node x.locked, queue := q, seg := 0, step := if q.isEmpty then 4 else 3 }
    | 3 =>
      let m := if node < 32 then setF m TWI_ADMIT_LO_NODES 0 (andNot (getF m TWI_ADMIT_LO_NODES) (2 ^ node))
        else setF m TWI_ADMIT_HI_NODES 0 (andNot (getF m TWI_ADMIT_HI_NODES) (2 ^ (node - 32)))
      let m := twiNote m E_TWI_CFG_FAIL (node + 2 ^ 16 * field b 4 2 : Nat)
      let q := x.queue.tail
      setLine m l { x with failed := insNat node x.failed, queue := q, seg := 0, step := if q.isEmpty then 4 else 3 }
    | _ => setLine m l { x with seg := field b 2 2 }

/-! ## Requests and answers (09 R284) -/

/-- What a request does on the node that it names: status and DETAIL, and the state; a busy resource is an event here (04 R145). -/
def serveReq (m : Mach) (q : AsyncReq) : Nat × Nat × Mach :=
  let refuse (e : Nat × Nat) : Nat × Nat × Mach := (e.1, e.2, if e.1 = E_RESOURCE_BUSY then logNode m e.1 e.2 else m)
  let recs := (nodeAxes m (nodeId m)).filter (fun a => q.axes.testBit a.axis)
  let late := decide (q.kind ≤ 3) && decide (q.cycle ≤ m.cyc.n)
  if late then (E_AXL_ENABLE_LATE, q.cycle % 2 ^ 32, m)
  else match q.kind with
    | 1 => match enableHere m q.cycle recs with
      | .inl e => refuse e
      | .inr m => (E_OK, 0, m)
    -- a CUT of the group acts at once (R287)
    | 2 => (E_OK, 0, if nth q.data 0 = 2 then recs.foldl (fun m a => cutSlot m a.slot) m else disableHere m q.cycle (nth q.data 0) recs)
    | 3 => match recs with
      | a :: _ => match injHere m a.slot q.cycle q.data with
        | .inl e => refuse e
        | .inr m => (E_OK, 0, m)
      | [] => (E_OK, 0, m)
    | 4 => match outSetOf true (padTo 32 q.data) with
      | none => (E_HIF_BAD_PARAM, noParam, m)
      | some c => match startOut m (q.axes % 8) c (nextStart m) with
        | .inl e => refuse e
        | .inr m => (E_OK, 0, m)
    | _ => match tapArmHere m q.data with
      | .inl e => refuse e
      | .inr m => (E_OK, 0, m)

/-- Requests that a worker takes from an asynchronous frame; the answers are due in its own slot. -/
def takeReqs (m : Mach) (l : List AsyncReq) : Mach :=
  (l.filter (fun q => q.node == nodeId m)).foldl (fun m q =>
    let r := serveReq m q
    { r.2.2 with twi := { r.2.2.twi with answers := r.2.2.twi.answers ++
        [{ node := nodeId m, kind := q.kind, cycle := q.cycle, status := r.1, detail := r.2.1 }] } }) m

/-- An answer at the manager: the job completes with the first failure, or once every node has answered. -/
def takeAnswer (m : Mach) (a : AsyncAns) : Mach :=
  match m.twi.reqs.find? (fun q => q.kind == a.kind && q.cycle == a.cycle && q.nodes.contains a.node) with
  | none => m
  | some q =>
    let rest := q.nodes.filter (· != a.node)
    let others := m.twi.reqs.filter (fun y => y != q)
    if a.status ≠ E_OK then
      settleDeletes (addCompl { m with twi := { m.twi with reqs := others } } (failCompl q.job a.status a.detail))
    else if rest = [] then settleDeletes (addCompl { m with twi := { m.twi with reqs := others } } q.job)
    else { m with twi := { m.twi with reqs := m.twi.reqs.map (fun y => if y = q then { q with nodes := rest } else y) } }

/-! ## FRAME_RECEIVE -/

/-- Gear event records of a SETPOINT payload (08 R251). -/
def takeGearEvents (m : Mach) (e : SchedEnt) (pay : List Nat) : Mach :=
  let o := 24 * (nodeAxes m (nodeId m)).length
  ((List.range e.gev).map (fun i => (pay.drop (o + 8 * i)).take 8)).foldl (fun m r =>
    if field r 0 1 = 0xFF then m
    else
      let t := extend32 m.cyc.now (field r 4 4)
      gearOutputs (tapGear m (field r 0 1) (field r 1 1) t) (field r 0 1) (field r 1 1) (field r 4 4)) m

/-- A heartbeat record of a manager at a worker (17 R504, R505): the windows move at the cycle named, or at the next boundary. -/
def takeWitness (m : Mach) (l : List Nat) : Mach :=
  let node := field l 3 1
  let c := field l 4 4
  if isManager m ∨ 1 < node ∨ (node = m.twi.activeNode ∧ c = 2 ^ 32 - 1) then m
  else
    let at_ := if c = 2 ^ 32 - 1 then m.cyc.n + 1 else max (nearCycle m c) (m.cyc.n + 1)
    { m with twi := { m.twi with nextActive := some (node, at_) } }

/-- What a frame that passed every check brings. -/
def goodFrame (m : Mach) (x : Hdr) (e : SchedEnt) (p t4 : Nat) (bytes : List Nat) (reqs : List AsyncReq) (answers : List AsyncAns) : Mach :=
  let pay := (bytes.drop 16).take e.plen
  let h := slotHandle e
  let mgr := decide (x.node < 2)
  let m := incF m TWI_PORT_RX_GOOD_CNT p 1
  let m := if mgr && !isManager m && decide (nth (plan m) 2 + m.cyc.start ≤ t4 / 4) && twiMode m != 0
      && decide (t4 / 4 < m.cyc.start + (((slotsNow m).find? (fun f => f.kind == 3 && ownsSlot m f)).map (·.start)).getD (cycLen m)) then
    { m with twi := { m.twi with seen := m.twi.seen ||| 2 ^ x.node } } else m
  let m := if x.ack && isActive m then
      match m.twi.exch with
      | some ex => if m.cyc.n = ex.a + 1 ∧ e.start < nth (plan m) 3 then { m with twi := { m.twi with exch := some { ex with acks := insNat x.node ex.acks } } } else m
      | none => m
    else m
  let m := if mgr && x.active && (e.kind == 5 || e.kind == 9) && nodeId m != x.node then takeRecord m pay else m
  let m := if mgr && x.active && isManager m && nodeId m != x.node then { m with duo := { m.duo with heard := true } } else m
  let m := if mgr && x.active && twiMode m == 0 && !isManager m then { m with twi := { m.twi with activeNode := x.node } } else m
  let m := if x.sync && mgr && twiMode m != 0 then
      syncFrame m x.node ((t4 : Int) - 4 * (m.cyc.start + expected m e x.node : Nat)) x.rate else m
  let m := if storesSlot m e then storeFrame m h (bytes.take (16 + e.plen)) else m
  let m := if storesSlot m e && (e.kind == 5 || e.kind == 11) then irq m (240 + e.line % 4) else m
  match e.kind with
  | 1 => if isManager m || !storesSlot m e then m else takeGearEvents m e pay
  | 2 => if storesSlot m e then { m with safe := { m.safe with rx := m.safe.rx ++ [pay] } } else m
  | 3 => if mgr then takeWitness m pay else m
  | 5 => answers.foldl takeAnswer (takeReqs m reqs)
  | 9 =>
    let m := { m with twi := { m.twi with polled := true } }
    let named := field pay 16 1 == 1 && decide (t4 / 4 < m.cyc.start + 37506)
    setLine m e.line { lineSt m e.line with pollNode := if named then some (field pay 17 1) else none }
  | 10 => if isActive m then takeReply m e.line x.node pay else m
  | 11 => takeCfg m x e.line pay
  | 12 => if isActive m then takeCfgAck m e.line x.node pay else m
  | _ => m

/-- A frame at a node that has no time base, or a SYNC frame of mode 0: steps 1 and 2 have passed. -/
def looseFrame (m : Mach) (x : Hdr) (p t4 el : Nat) (bytes : List Nat) : Mach :=
  let pay := bytes.drop 16
  if x.mode = 0 then
    if x.slot < 2 ∧ x.ch = 0 ∧ portCh m p = 0 ∧ x.node = x.slot ∧ x.len = 32 ∧ bytes.length = 52 then startSync m x t4 el pay else m
  else if listening m ∧ x.sync ∧ x.node < 2 ∧ x.tag = modeTag m x.mode then
    match (schedNow m).find? (fun e => e.mode == x.mode && localLine m e.line == portLine m p && e.ch == x.ch && e.slot == x.slot) with
    | some e =>
      let e := { e with line := portLine m p }
      if isManager m then
        -- phase 4 of RESYNC: the time base is the pair link's (17 R511)
        if getF m PAIR_STAT_ROLE = 7 ∧ getF m PAIR_STAT_RESYNC_PHASE = 4 then setTwiState (setMode (setF m TWI_SU_STAT_REF 0 x.node) x.mode) 7 else m
      else relock m x.node x.mode (nearCycle m x.cycle) (expected m e x.node) t4 el
    | none => m
  else m

/-- Whether a TEST action meets a frame at a receive port (25 R672): whether it is dropped, its delay, the state. -/
def testReceive (m : Mach) (p : Nat) : Bool × Nat × Mach :=
  if getF m TEST_TWI_CFG_SRC = 1 ∧ getF m TEST_TWI_CFG_PORT = p then
    let t := testEvent m uTWI
    if !t.1 then (false, 0, t.2)
    else if getF m TEST_TWI_CFG_ACT = 0 then (true, 0, t.2)
    else (false, getF m TEST_TWI_DLY_DLY, t.2)
  else (false, 0, m)

/-- A SYNC frame of mode 0 that fails steps 3 to 6 at a node that starts up: it belongs to another grid, or comes at another instant than
the loaded time predicts (13 R393, R394). -/
def strayTarget (m : Mach) (x : Hdr) : Bool := x.mode == 0 && twiMode m == 0 && (twiState m == 4 || twiState m == 5) && decide (x.slot < 2)

/-- A good frame on a link that trained again and carries no traffic yet: the node measures a SYNC frame by it, or takes its reference from
it (13 R407); nothing is stored or forwarded. -/
def blockedFrame (m : Mach) (x : Hdr) (p t4 el : Nat) (bytes : List Nat) : Mach :=
  if listening m then looseFrame m x p t4 el bytes
  else match rxSlot m p x bytes.length with
    | .inl f => if x.sync && decide (x.node < 2) && twiMode m != 0 then
        syncFrame m x.node ((t4 : Int) - 4 * (m.cyc.start + expected m f x.node : Nat)) x.rate else m
    | .inr _ => m

/-- FRAME_RECEIVE (R358, R371): a frame whose /S/ arrives at port `p` at `t4` (1/4 ticks) and whose last CRC code-group arrives at
tick `last`; `clean`: no invalid code-group, no /V/, ended with /T/ in time. Requests and answers are the content of an
asynchronous slot beyond its control record. -/
def frameReceive (p t4 last : Nat) (clean : Bool) (bytes : List Nat) (reqs : List AsyncReq) (answers : List AsyncAns) (m : Mach) : Mach :=
  if 8 ≤ p || getF m TWI_PORT_STATE p != 3 || twiState m < 2 || (twiState m == 8 && !listening m) then m
  else
    let t := testReceive m p
    let m := t.2.2
    if t.1 then m
    else
      let t4 := t4 + 4 * t.2.1
      let last := max (last + t.2.1) (t4 / 4)
      let m := at' m (t4 / 4)
      let x := hdrOf bytes
      let good := clean && frameCrcOk bytes && decide (bytes.length ≤ 1044)
      if (portSt m p).blocked then
        let m := at' m last
        if good then blockedFrame m x p t4 (4 * last - t4) bytes else rxCrc m p
      else if listening m ∨ twiState m = 3 then
        let m := if twiState m = 2 && !m.twi.silent then forwardUntimed m p (t4 / 4) bytes else m
        let m := at' m last
        if good then looseFrame m x p t4 (4 * last - t4) bytes else rxCrc m p
      else
        let e := assign m p t4
        let m := if forwards m then forwardFrame m p (t4 / 4) last e bytes else m
        let m := match e with
          | some e => { m with twi := { m.twi with used := insNat (p * 2048 + slotHandle e) m.twi.used } }
          | none => m
        let stray (m : Mach) : Mach := if strayTarget m x then looseFrame (rxHdr m p) x p t4 (4 * last - t4) bytes else rxHdr m p
        let m := at' m last
        if !good then rxCrc m p
        else match rxSlot m p x bytes.length with
          | .inr tag => if tag then flag (stray m) TWI_FLAGS_TAG_ERR else stray m
          | .inl f =>
            let m := if x.node < 2 then { m with twi := { m.twi with mgrSeen := true } } else m
            let w := recvWindow m f
            if !(decide (4 * w.1 ≤ (t4 : Int) ∧ (t4 : Int) < 4 * w.2) && decide ((last : Int) < w.2)) then stray m
            else
              let m := goodFrame m x f p t4 bytes reqs answers
              if f.kind = 8 then startSync m x t4 (4 * last - t4) ((bytes.drop 16).take 32) else m

/-- FRAME_RECEIVE. -/
def execFrameReceive (p t4 last : Nat) (clean : Bool) (bytes : List Nat) (reqs : List AsyncReq) (answers : List AsyncAns) (s : State) : Out :=
  done (frameReceive p t4 last clean bytes reqs answers) s

end Sys2Proof.Machine
end

