-- ==== Sys2Proof/Machine/TwiStart.lean ====
section
/-! DEFINITION. Twira: the jobs of the network, the mode exchange, discovery and the switch to operational mode, and what TWI does
at t = 0 and at the start of P4 (12 R366 to R369, 13 R399 to R404; 23 R636). -/

namespace Sys2Proof.Machine

/-- Whether a mode exchange is in progress. -/
def exchanging (m : Mach) : Bool := m.twi.exch.isSome

/-- START of the POLL slot, which carries the record of the switch of 13 R404. -/
def pollStart : Nat := ((mode0 0).find? (fun e => e.kind == 9)).elim 0 (·.start)

/-- Begins an exchange to mode `k` (R367): STATUS and MODE_STAT show it. Cycle a is the one whose frame is still to carry the announcement. -/
def beginExch (m : Mach) (k : Nat) (start : Bool) (job : Option Compl) : Mach :=
  let gone := if start then decide (m.cyc.start + pollStart ≤ m.cyc.now) else inP4 m
  let a := if gone then m.cyc.n + 1 else m.cyc.n
  let s := a + 3
  let m := { m with twi := { m.twi with exch := some { m := k, s := s, a := a, start := start, job := job } } }
  setF (setF (setF m TWI_STATUS_EXCH 0 1) TWI_STATUS_TARGET 0 k) TWI_MODE_STAT_S 0 (s % 2 ^ 32)

/-- Nodes whose acknowledgement the active manager needs: those admitted to the mode in force and the other manager (R367). -/
def ackNodes (m : Mach) : List Nat :=
  let adm := bitsOf 34 (getF m TWI_ADMIT_LO_NODES + 2 ^ 32 * getF m TWI_ADMIT_HI_NODES)
  (if m.mould.config = 3 ∧ getF m PAIR_STAT_PARTNER ≠ 0 ∧ onF m PAIR_STAT_TWIRA_HB then [1 - nodeId m] else []) ++ adm.filter (fun n => decide (2 ≤ n))

/-- An event or job that ends with the exchange. -/
def endJob (m : Mach) (c : Option Compl) (status result : Nat) (effect : Option Nat) : Mach :=
  match c with
  | some c => settleDeletes (addCompl m (if status = 0 then { c with status := status, result := result % 2 ^ 32, effect := effect } else failCompl c status result))
  | none => m

/-! ## Jobs -/

/-- NET_START (13 R383, 04 R139): training starts; the job completes with the switch of R404. -/
def netStart (j : Job) (m : Mach) : JobRes :=
  if !isManager m then jobDetail m E_SYS_ROLE_UNSUPPORTED dTWI
  else if !m.locks.sch then jobFail m E_SYS_NOT_LOCKED
  else if twiMode m ≠ 0 then { m := m, result := m.cyc.n }
  else if m.twi.netJob.isSome then jobFail m E_TWI_MODE_BUSY
  else
    let m := netBegin m
    { m := { m with twi := { m.twi with netJob := some (jcompl j 0 0 none) } }, later := true }

/-- NET_START. -/
def execNetStart (j : Job) (s : State) : Out := done (runJob 0x0A01 netStart j) s

/-- MODE_SWITCH (R366, R367). -/
def modeSwitch (j : Job) (m : Mach) : JobRes :=
  let k := j.desc.par 0
  if 8 ≤ k ∨ k = 0 ∨ modeClass m k = 3 then jobFail m E_HIF_BAD_PARAM 0
  else if !isManager m then jobDetail m E_SYS_ROLE_UNSUPPORTED dTWI
  else if k = twiMode m then { m := m, result := m.cyc.n + 1, effect := some (m.cyc.n + 1) }
  else match m.twi.exch with
    | some x => jobDetail m E_TWI_MODE_BUSY x.m
    | none =>
      if !m.locks.sch then jobFail m E_SYS_NOT_LOCKED
      else { m := beginExch m k false (some (jcompl j 0 0 none)), later := true }

/-- MODE_SWITCH. -/
def execModeSwitch (j : Job) (s : State) : Out := done (runJob 0x0A02 modeSwitch j) s

/-- NET_STATUS (03 R103; entry 41). -/
def execNetStatus (j : Job) (s : State) : Out := done (runJob 0x0A03 freeOut j) s

/-- MODE_CTRL_GO (R381): a write of TWI_MODE_CTRL with GO = 1 and a target. One that MODE_SWITCH refuses with E_HIF_BAD_PARAM (R366) is
refused here too: that code stands in completion entries only (03 R113), so no event tells of it. -/
def modeCtrlGo (k : Nat) (m : Mach) : Mach :=
  if !isActive m then m
  else if k = 0 ∨ 8 ≤ k ∨ modeClass m k = 3 then m
  else
    let m := setF m TWI_MODE_CTRL_TARGET 0 k
    if k = twiMode m ∨ exchanging m then m
    else if !m.locks.sch then logNode m E_SYS_NOT_LOCKED 0
    else beginExch m k false none

/-- MODE_CTRL_GO. -/
def execModeCtrlGo (k : Nat) (s : State) : Out := done (domWrite 10 8 (modeCtrlGo k)) s

/-! ## Discovery, download, operational mode -/

/-- Begins the walk of a line: the first target is the peer of the own link (R399). -/
def walkLine (m : Mach) (l : Nat) : Mach :=
  let p := 2 * l
  let x := lineSt m l
  let peer := getF m TWI_PORT_PEER p
  if getF m TWI_PORT_STATE p ≠ 3 then
    (lineWorkers m l).foldl (fun m n => twiNote m E_TWI_NODE_MISSING n.node) (setLine m l { x with step := 4, found := [], since := m.cyc.n })
  else if peer < 2 then setLine m l { x with step := 2, found := [], since := m.cyc.n }
  else setLine m l { x with step := 1, target := peer, found := [], since := m.cyc.n, pollNode := none, cfgNode := none }

/-- DISCOVERY_START (R399): every node that the trained links reach is in MODE0. -/
def discoveryStart (m : Mach) : Mach :=
  if isActive m ∧ twiState m = 5 ∧ (servedLines m).all (fun l => (lineSt m l).step == 0) then (servedLines m).foldl walkLine m else m

/-- DISCOVERY_START. -/
def execDiscoveryStart (s : State) : Out := done discoveryStart s

/-- The walk is repeated every 64 cycles while a worker is missing (R404). -/
def repeatWalk (m : Mach) : Mach :=
  if !isActive m || twiState m != 5 || exchanging m then m
  else (servedLines m).foldl (fun m l =>
    let x := lineSt m l
    if x.step = 4 ∧ x.since + 64 ≤ m.cyc.n ∧ (lineWorkers m l).any (fun n => !x.locked.contains n.node) then walkLine m l else m) m

/-- CONFIG_PART_CHECK (R403, 04 R140): a worker that holds every segment checks its part, applies it and sets its locks. -/
def configPartCheck (m : Mach) : Mach :=
  let p := m.twi.part
  if isManager m || p.st != 1 then m
  else
    let put (m : Mach) (st code det : Nat) : Mach := { m with twi := { m.twi with part := { p with st := st, code := code, detail := det } } }
    if p.bytes.length ≠ p.total ∨ crc32 p.bytes ≠ p.crc then put m 3 E_SYS_MODEL_FORMAT 0
    else
      let fail := imageFail m (field p.bytes 20 4) p.bytes
      let r := loadImage (field p.bytes 20 4) p.bytes m
      match r.2 with
      | some code => put r.1 3 code ((fail.map (fun f => f.2.2 % 2 ^ 24 + f.2.1 % 256 * 2 ^ 24)).getD 0)
      | none =>
        -- the place on the line and its link delays come from the line table
        let t := sget m.twi.tables 0 []
        let ds := (List.range 9).map (fun j => getF m TWI_LINK_DLY_DLY j)
        let m := if t = [] then r.1 else storeTable r.1 0 t ds
        let k := setLocks 7 m
        put k.1 (if k.2 = 0 then 2 else 3) k.2 0

/-- CONFIG_PART_CHECK. -/
def execConfigPartCheck (s : State) : Out := done configPartCheck s

/-- OPERATIONAL_SWITCH (R404): every admitted node is locked, and the standby has its locks; a missing worker holds the switch up
unless PARTIAL lets it go on without axes. -/
def operationalSwitch (m : Mach) : Mach :=
  let ready := isActive m && twiState m == 5 && twiMode m == 0 && !exchanging m && m.locks.sch
    && (servedLines m).all (fun l => (lineSt m l).step == 4)
    && (m.mould.config != 3 || getF m PAIR_STAT_ROLE == 3 || m.duo.bulkLocks % 8 == 7)
  let missing := (servedLines m).flatMap (fun l => (lineWorkers m l).filter (fun n => !(lineSt m l).locked.contains n.node))
  let go := missing.isEmpty || (onF m TWI_SU_CFG_PARTIAL && missing.all (fun n => axesOn m n.node + masterPorts m n.node == 0))
  if ready && go then
    let job := m.twi.netJob
    beginExch { m with twi := { m.twi with netJob := none } } (getF m TWI_SU_CFG_START_MODE) true job
  else m

/-- OPERATIONAL_SWITCH. -/
def execOperationalSwitch (s : State) : Out := done operationalSwitch s

/-! ## t = 0 and P4 -/

/-- Start of P4: the active manager decides between COMMIT and ABORT (R367). -/
def twiP4 (m : Mach) : Mach :=
  match m.twi.exch with
  | some x =>
    if x.start ∨ x.op ≠ 1 ∨ m.cyc.n ≠ x.a + 1 ∨ !isActive m then m
    else match (ackNodes m).find? (fun n => !x.acks.contains n) with
      | none => { m with twi := { m.twi with exch := some { x with op := 2 } } }
      | some n =>
        let m := flag m TWI_FLAGS_MODE_ABORT
        endJob { m with twi := { m.twi with exch := some { x with op := 3, job := none } } } x.job E_TWI_MODE_ABORT n none
  | none => m

/-- The node enters mode `k` at t = 0 of the switch cycle. -/
def enterMode (m : Mach) (k : Nat) : Mach :=
  let m := setMode m k
  let m := if twiState m = 5 then refreshOwned (setTwiState m 6) else m
  twiNote m E_TWI_MODE_SWITCHED (k + 256 * (m.cyc.n % 2 ^ 24) : Nat)

/-- The end of the active manager's exchange. -/
def exchBoundary (m : Mach) : Mach :=
  match m.twi.exch with
  | some x =>
    if m.cyc.n < x.s then m
    else
      let m := setF { m with twi := { m.twi with exch := none, ann := none, decided := none, acked := false } } TWI_STATUS_EXCH 0 0
      if !x.start && x.op != 2 then m
      else
        let m := enterMode m x.m
        let m := endJob m x.job E_OK x.s (if x.start then none else some x.s)
        if x.start then twiNote m E_TWI_OPERATIONAL (x.m + 256 * (x.s % 2 ^ 24) : Nat) else m
  | none => m

/-- The outcome of an announced switch at a node: the last record decides; without one a node that acknowledged, or was admitted,
is lost. -/
def modeBoundary (m : Mach) : Mach :=
  match m.twi.ann with
  | some (k, s) =>
    if m.cyc.n < s || exchanging m then m
    else
      let dec := m.twi.decided
      let acked := m.twi.acked
      let m := { m with twi := { m.twi with ann := none, decided := none, acked := false } }
      let start := twiMode m == 0
      let adm := if start then isManager m || m.twi.part.st == 2 else true
      if start && !adm then setTwiState m 8
      else match dec with
        | some (2, _) => if m.locks.sch && decide (modeClass m k < 3) then enterMode m k else m
        | some _ => m
        | none =>
          -- no mode that the node can follow (R369, 13 R382): it neither inserts nor forwards until it has integrated again
          if acked || start then
            let m := { m with twi := { m.twi with silent := true, outSince := m.twi.outSince.orElse (fun _ => some m.cyc.n) } }
            setTwiState (twiNote (flag m TWI_FLAGS_MODE_LOST) E_TWI_MODE_LOST k) 8
          else m
  | none => m

/-- The frames of managers in the cycle that ends (23 R636). -/
def missBoundary (m : Mach) : Mach :=
  let seen := m.twi.mgrSeen
  let m := { m with twi := { m.twi with mgrSeen := false } }
  if isManager m || !(twiState m == 6 || twiState m == 7) then m
  else setF m SYS_MGR_STAT_MISS_RUN 0 (if seen then 0 else min 3 (getF m SYS_MGR_STAT_MISS_RUN + 1))

/-- What TWI does at t = 0 of the cycle that has begun. -/
def twiBoundary (m : Mach) : Mach :=
  let m := missBoundary m
  let m := match m.twi.nextActive with
    | some (k, c) => if c ≤ m.cyc.n then refreshOwned { m with twi := { m.twi with activeNode := k, nextActive := none } } else m
    | none => m
  let m := modeBoundary (exchBoundary m)
  let clear (x : LineSt) : LineSt := { x with cfgNode := none, pollNode := none }
  let m := { m with twi := { m.twi with used := [], own := [], cuts := [], seen := m.twi.seen % 4 * 4, lines := m.twi.lines.map (fun x => (x.1, clear x.2)),
                                        reqs := m.twi.reqs.map (fun q => if q.cycle ≤ m.cyc.n then { q with sent := true } else q) } }
  repeatWalk (listenBoundary (unblockPorts (passiveReturn m)))

/-- MANAGER_LOST (23 R636): at t = 0 after 3 cycles without a manager frame the worker stops its axes. -/
def managerLost (m : Mach) : Mach :=
  if isManager m ∨ getF m SYS_MGR_STAT_MISS_RUN < 3 ∨ onF m SYS_MGR_STAT_LOST then m
  else
    let m := flag (flag m SYS_MGR_STAT_LOST) SYS_FLAGS_MGR_LOST
    let old := m.reacts
    let m := { report m E_SYS_MANAGER_LOST 2 1 (nodeId m) (m.cyc.n % 2 ^ 32) with reacts := old }
    (bitsOf 16 (getF m AXL_SUMMARY_ENABLED)).foldl (fun m s => localStop m s 1) m

/-- MANAGER_LOST. -/
def execManagerLost (s : State) : Out := done managerLost s

end Sys2Proof.Machine
end

