-- ==== Sys2Proof/Machine/PairCore.lean ====
section
/-! DEFINITION. The redundant pair (17): roles, the inputs that go over the pair link, snapshot and mirror, comparison, swaps and
the evaluation of heartbeats and votes. The commands stand in Machine/Pair.lean. -/

namespace Sys2Proof.Machine

/-- PAIR beside its registers. -/
def onDuo (m : Mach) (f : DuoSt → DuoSt) : Mach := { m with duo := f m.duo }

/-- Whether SEQ `a` lies at or before `b`; SEQ wraps. -/
def seqLe (a b : Nat) : Bool := decide ((b + 2 ^ 32 - a) % 2 ^ 32 < 2 ^ 31)

/-- RESYNC_PHASE. -/
def phaseOfResync (m : Mach) : Nat := getF m PAIR_STAT_RESYNC_PHASE

/-! ## Roles (R492, R493) -/

/-- Ends a swap that does not take place; its job, if it has one, completes with the cause (R502). -/
def dropSwap (m : Mach) (cause : Nat) : Mach :=
  let d := m.duo
  let m := setF { m with duo := { d with swapA := none, confirmed := false, want := false, deferred := none, job := none } } PAIR_STAT_SWAP_PEND 0 0
  match d.job with
  | some _ => endJob m d.job E_PAIR_SWAP_REFUSED cause none
  | none => if d.swapA.isSome && cause == 4 then logNode m E_PAIR_SWAP_REFUSED 4 else m

/-- Takes a role. -/
def setRole (r : Nat) (m : Mach) : Mach :=
  if getF m PAIR_STAT_ROLE = r then m
  else
    let m := if m.duo.swapA.isSome ∨ m.duo.want then dropSwap m 1 else m
    showServo (irq (notice (refreshOwned (setF m PAIR_STAT_ROLE 0 r)) E_PAIR_ROLE r) 248)

/-- In-stream blocks that wait for an acknowledgement join the working store. -/
def keepBlocks (m : Mach) : Mach :=
  { m with hif := { m.hif with blocks := m.hif.blocks ++ m.duo.ins.filterMap (·.block) }, duo := { m.duo with ins := m.duo.ins.filter (fun x => x.block.isNone) } }

/-- Stands alone. -/
def becomeSolo (m : Mach) : Mach := onDuo (setRole 3 (keepBlocks m)) (fun d => { d with fed := 0, fedLocks := 0 })

/-- ISOLATED: nothing goes out on Twira (R492). -/
def isolate (m : Mach) : Mach := setTwiState (setRole 6 m) 9

/-- RESYNC begins at phase `p` (R500, R510). -/
def enterResync (p : Nat) (m : Mach) : Mach :=
  let m := setF (setRole 7 m) PAIR_STAT_RESYNC_PHASE 0 p
  let m := onDuo m (fun d => { d with since := m.cyc.n, since6 := 0, hist := [], divRun := 0, aligned := d.aligned && decide (3 ≤ p),
                                      bulk := [], bulkTotal := 0 })
  setF m PAIR_STAT_CLEAN 0 0

/-- A failure ends RESYNC (R511). -/
def resyncFail (m : Mach) (code : Nat) : Mach :=
  let p := phaseOfResync m
  isolate (logNode (setF m PAIR_STAT_RESYNC_PHASE 0 0) E_PAIR_RESYNC_FAIL (p + 65536 * code))

/-- The pair-link heartbeat is lost (R491). A lost pair link ends RESYNC before its first heartbeat too (R511). -/
def hbLost (m : Mach) : Mach :=
  let m := onDuo m (fun d => { d with run := 0 })
  if !onF m PAIR_STAT_PAIR_HB then (if getF m PAIR_STAT_ROLE = 7 ∧ onF m PAIR_STAT_LINK_UP = false then resyncFail m E_PAIR_HB_LOST else m)
  else
    let m := flag (incF (setF m PAIR_STAT_PAIR_HB 0 0) PAIR_HB_MISS_CNT_CNT 0 1) PAIR_FLAGS_HB_LOST
    let m := irq (logNode m E_PAIR_HB_LOST 0) 249
    if getF m PAIR_STAT_ROLE = 7 then resyncFail m E_PAIR_HB_LOST else m

/-! ## Inputs (R494) -/

/-- The effects of the jobs that the active manager forwards (03 R103). A mode switch reaches the standby with the mirrored mode
exchange (R496). -/
def jobEff (opc : Nat) : Option (Job → Mach → JobRes) :=
  match opc with
  | 0x0004 => some resetBlock | 0x0010 => some modelLoad | 0x0601 => some movePtp | 0x0602 => some movePath
  | 0x0603 => some moveSpline | 0x0604 => some streamBind | 0x0605 => some feedHold | 0x0606 => some resumeGroups
  | 0x0607 => some overrideGroup | 0x0608 => some stopGroups | 0x0609 => some gearSet | 0x060A => some gearChangeAt
  | 0x060B => some sharedStart | 0x0701 => some (axisSwitch true) | 0x0702 => some (axisSwitch false)
  | 0x0703 => some tuneInject | 0x0A02 => some modeSwitch | 0x0B01 => some timedOut | 0x0B02 => some domainSelect
  | _ => none

/-- An acknowledged input takes effect on the active manager. -/
def takeInput (m : Mach) (x : DuoIn) : Mach :=
  let m := match x.block with | some b => { m with hif := { m.hif with blocks := m.hif.blocks ++ [b] } } | none => m
  match x.job with
  | some j =>
    match jobEff j.desc.opcode with
    | some f =>
      let r := f j m
      if r.later then r.m else settleDeletes (addCompl r.m (jcompl j r.status r.result r.effect r.detail))
    | none => m
  | none => m

/-- A forwarded input takes effect on the standby, which writes no completion for it; requests to workers are the active
manager's. -/
def mirrorInput (m : Mach) (x : DuoIn) : Mach :=
  if x.job.any (fun j => j.desc.opcode == 0x0A02) then m
  else
    let r := takeInput m { x with job := x.job.map (fun j => { j with ring := 16 + j.ring % 16 }) }
    { r with twi := { r.twi with reqs := m.twi.reqs } }

/-- Takes the forwarded inputs up to a SEQ. -/
def takeInbox (m : Mach) (p : DuoIn → Bool) : Mach :=
  let m1 := (m.duo.inbox.filter p).foldl mirrorInput m
  onDuo m1 (fun d => { d with inbox := d.inbox.filter (fun x => !p x) })

/-- An input as it stands in an INPUT or BULK frame. -/
def inputOf (seq : Nat) (x : PairInput) : DuoIn :=
  match x with
  | .job j => { seq := seq, job := some j }
  | .block r c els => { seq := seq, block := some { ring := r, cycle := c, els := els } }

/-! ## Snapshot (R495) -/

/-- M_p of engaged groups for the entry of the next cycle, as the snapshot just taken leaves them (08 R253). -/
def snapMasters (m : Mach) : List (Nat × Int) :=
  (planUnits m).filterMap (fun u =>
    let x := grp m u.group
    let d := advCore m u x x.com
    if d.engaged then some (u.group, d.master.mp) else none)

/-- The SNAPSHOT frame of this manager's snapshot: its inputs as the snapshot finds them; `mps` are the masters that it evaluates. -/
def snapFrame (m : Mach) (mps : List (Nat × Int)) : SnapFrame :=
  { seq := m.duo.acked, limits := (List.range 32).map (mirrorLimit m), mps := mps,
    ovr := (planUnits m).map (fun u => (u.group, (grp m u.group).com.fh, getF m RUN_GRP_OVR_OVR u.group)),
    epoch := epoch m, first := onF m TIME_STAT_FIRST_LOCK, y := rateY m, dom := selDom m, samples := m.run.mports }

/-- Feed hold and override of a group as the active manager has them. -/
def takeOvr (m : Mach) (x : Nat × Bool × Nat) : Mach :=
  let g := grp m x.1
  let m := setGrp m x.1 { g with com := { g.com with fh := x.2.1 } }
  ((groupRec m x.1).map (members m)).getD [] |>.foldl (fun m h => setF m RUN_GRP_OVR_OVR h.group x.2.2) m

/-! ## Mirror (R496) -/

/-- Group state for the MIRROR frame. -/
def mirrorGroup (m : Mach) (u : GroupRec) : MirrorGroup :=
  let d := (grp m u.group).com
  { group := u.group, k := d.k, d1 := d.d1, d2 := d.d2, theta := d.theta, mode := d.mode, fh := d.fh, sid := ((headSeg d).map (·.sid)).getD 0,
    engaged := d.engaged, laws := d.laws.map (fun l => [l.pa, l.fa, l.no, l.dO, l.nn, l.dn, l.w, b2n l.fall]),
    armed := d.armed.map (fun c => ([c.pc, (b2n c.fall : Int), (c.w : Int), (c.tag : Int)] : List Int) ++ c.ratios.flatMap (fun r => [r.1, (r.2 : Int)])) }

/-- ATTEMPT words of all slots (05 R163). -/
def attempts (m : Mach) : List Nat := (List.range 64).map (fun k => rdVal m (indexAddr m k + 8) 4)

/-- The electorate (R507): workers admitted to the mode in force that own a WITNESS slot; the active manager mirrors it. -/
def electorate (m : Mach) : List Nat :=
  if pairRole m = 1 ∨ pairRole m = 3 then
    let adm := getF m TWI_ADMIT_LO_NODES + 2 ^ 32 * getF m TWI_ADMIT_HI_NODES
    (((slotsNow m).filter (fun e => e.kind == 3 && decide (2 ≤ e.owner ∧ e.owner < 0x3E) && adm.testBit e.owner)).map (·.owner)).dedup
  else bitsOf 64 m.duo.elect

/-- The MIRROR frame of the commit just made. -/
def mirrorOf (m : Mach) : MirrorFrame :=
  { cycle := m.cyc.n % 2 ^ 32,
    ents := m.mould.axes.map (fun a => (a.axis, sget m.run.ents a.axis [])),
    groups := (planUnits m).map (mirrorGroup m), attempts := attempts m,
    missRun := (List.range 64).map (fun k => getF m CRUC_MISS_RUN_RUN k),
    reacs := m.reacts.map (fun r => (r.cls, r.kind, r.id)),
    causes := (planUnits m).map (fun u => (u.group, (grp m u.group).pend)),
    jobs := m.hif.compl.filterMap (fun c => c.effect.map (fun e => (c.tag, c.ring, e))),
    exch := m.twi.exch.map (fun x => (x.m, x.s, x.a, x.op)), acks := (m.twi.exch.map (·.acks)).getD [],
    admitted := getF m TWI_ADMIT_LO_NODES + 2 ^ 32 * getF m TWI_ADMIT_HI_NODES,
    elect := maskOf (electorate m), swapAt := m.duo.swapA.map (· + 2), secs := m.duo.secs,
    start := { state := getF m RUN_START_STAT_STATE, groups := m.run.start.groups, armTick := m.run.start.armTick, ts := m.run.start.ts,
               moved := m.run.start.moved, atSnap := m.run.start.atSnap } }

/-- The DIGEST content: CRC-32 of the committed entries by motion group, and the ATTEMPT words (R501). -/
def digestOf (m : Mach) : List Nat × List Nat :=
  ((List.range 32).map (fun g => crc32 ((groupAxes m g).flatMap (fun a => entryBytes (sget m.run.ents a.axis []) (m.run.snap + 1) 1))), attempts m)

/-- Puts mirrored group state into the store (R497). -/
def adoptGroup (ents : List (Nat × List Int)) (m : Mach) (f : MirrorGroup) : Mach :=
  match groupRec m f.group with
  | none => m
  | some u =>
    let x := grp m f.group
    let es := (unitAxes m u).map (fun a => ((ents.find? (fun e => e.1 == a.axis)).map (·.2)).getD [])
    let law (l : List Int) : Law :=
      { pa := nthI l 0, fa := nthI l 1, no := nthI l 2, dO := (nthI l 3).toNat, nn := nthI l 4, dn := (nthI l 5).toNat, w := (nthI l 6).toNat, fall := nthI l 7 == 1 }
    let pairs (l : List Int) : List (Int × Nat) := (List.range (l.length / 2)).map (fun i => (nthI l (2 * i), (nthI l (2 * i + 1)).toNat))
    let chg (l : List Int) : Change :=
      { pc := nthI l 0, fall := nthI l 1 == 1, w := (nthI l 2).toNat, tag := (nthI l 3).toNat, ratios := pairs (l.drop 4) }
    let segs := if x.com.segs.any (fun s => s.sid == f.sid) then x.com.segs.dropWhile (fun s => s.sid != f.sid) else x.com.segs
    let d := { x.com with pos := es.map (fun e => nthI e 0), vel := es.map (fun e => nthI e 1), acc := es.map (fun e => nthI e 2),
                          k := f.k, d1 := f.d1, d2 := f.d2, theta := f.theta, mode := f.mode, fh := f.fh, segs := segs,
                          engaged := f.engaged, laws := f.laws.map law, armed := f.armed.map chg }
    let front := if x.front.c ≤ d.c then d else x.front
    showGrp (setGrp m f.group { x with com := d, front := front }) u

/-- Takes the mirrored shared start; the line and its level are the manager's own (08 R255). -/
def adoptStart (f : MirrorStart) (m : Mach) : Mach :=
  setF { m with run := { m.run with start := { m.run.start with groups := f.groups, armTick := f.armTick, ts := f.ts, moved := f.moved, atSnap := f.atSnap } } }
    RUN_START_STAT_STATE 0 f.state

/-- Puts the content of a MIRROR frame, with the committed entries of cycle `c`, into the store in place of the manager's own (R496,
R497, R503). -/
def adopt (c : Nat) (f : MirrorFrame) (m : Mach) : Mach :=
  let m := { m with run := { m.run with ents := f.ents.foldl (fun t e => sput t e.1 e.2 []) m.run.ents } }
  let m := f.ents.foldl (fun m e => wrBytes m (ringAddr m e.1 c) (entryBytes e.2 c 1) 11) m
  let m := adoptStart f.start (f.groups.foldl (adoptGroup f.ents) m)
  let m := f.causes.foldl (fun m x => setGrp m x.1 { grp m x.1 with pend := x.2 }) m
  let m := f.missRun.zipIdx.foldl (fun m x => setF m CRUC_MISS_RUN_RUN x.2 x.1) m
  let m := f.secs.foldl (fun m s => wrBytes m s.1 s.2 11) m
  let m := setF (setF m TWI_ADMIT_LO_NODES 0 (f.admitted % 2 ^ 32)) TWI_ADMIT_HI_NODES 0 (f.admitted / 2 ^ 32)
  -- the job of an exchange stays with the manager that accepted it; what a COMMIT or ABORT has told since stands (12 R367)
  let ex : Option Exch := f.exch.map (fun x =>
    let told := match m.twi.decided with | some (op, _) => op | none => 1
    { m := x.1, s := x.2.1, a := x.2.2.1, op := if x.2.2.2 = 1 then told else x.2.2.2, acks := f.acks, start := twiMode m == 0,
      job := m.twi.exch.bind (·.job) })
  let m := setB { m with twi := { m.twi with exch := ex } } TWI_STATUS_EXCH 0 ex.isSome
  let m := { m with reacts := f.reacs.map (fun r => { cls := r.1, kind := r.2.1, id := r.2.2, late := r.1 == 1 }) }
  let m := onDuo m (fun d => { d with elect := f.elect, swapA := f.swapAt.map (· - 2), confirmed := d.confirmed && f.swapAt.isSome })
  let m := match f.swapAt with | some s => setF m PAIR_SWAP_AT_S 0 (s % 2 ^ 32) | none => m
  releaseEffects (setB m PAIR_STAT_SWAP_PEND 0 f.swapAt.isSome) c

/-! ## Comparison (R499, R500) -/

/-- Whether a slot serves a group. -/
def servesGroup (m : Mach) (g k : Nat) : Bool := slotScope m k == (2, g)

/-- Groups in which own and mirrored content differ; 32 stands for a slot that serves none. -/
def diffGroups (m : Mach) (f : MirrorFrame) (own : List Nat) : List Nat :=
  let ents := f.ents.filter (fun e => sget m.run.ents e.1 [] != e.2)
  let ge := ents.filterMap (fun e => (axisRec m e.1).map (·.group))
  let slots := (List.range 64).filter (fun k => nth own k != nth f.attempts k)
  let gs := slots.map (fun k => if (slotScope m k).1 = 2 then (slotScope m k).2 else 32)
  (List.range 33).filter (fun g => ge.contains g || gs.contains g)

/-- Whether a slot that serves the group has HELD on one side only. -/
def heldOnce (m : Mach) (f : MirrorFrame) (own : List Nat) (g : Nat) : Bool :=
  (usedSlots m).any (fun k => servesGroup m g k && (nth own k &&& stHELD) != (nth f.attempts k &&& stHELD))

/-- The comparison class of a cycle, and the first differing group. -/
def compareClass (m : Mach) (f : MirrorFrame) : Nat × Nat :=
  let own := attempts m
  let l := diffGroups m f own
  (if l = [] then 0 else if l.all (heldOnce m f own) then 1 else 2, l.headD 0)

/-- Records the class of a cycle. -/
def putClass (cls g : Nat) (m : Mach) : Mach :=
  let m := onDuo m (fun d => { d with hist := (cls :: d.hist).take 64, divRun := if cls = 2 then d.divRun + 1 else 0 })
  let clean := decide (m.duo.hist.length = 64) && m.duo.hist.all (fun c => decide (c < 2))
  let m := setB (setF m PAIR_STAT_CLASS 0 cls) PAIR_STAT_CLEAN 0 clean
  match cls with
  | 1 => incF m PAIR_TIMING_CNT_CNT 0 1
  | 2 =>
    let m := flag (incF m PAIR_MISMATCH_CNT_CNT 0 1) PAIR_FLAGS_MISMATCH
    let out := decide (getF m PAIR_CFG_MISMATCH_MAX ≤ m.duo.divRun)
    let m := logNode m E_PAIR_MISMATCH (g % 32 + 256 * b2n out)
    if out && getF m PAIR_STAT_ROLE == 2 then enterResync 5 m else m
  | _ => m

/-- Compares and then adopts a MIRROR frame. -/
def takeMirror (f : MirrorFrame) (m : Mach) : Mach :=
  let c := compareClass m f
  let m := adopt (m.cyc.n + 1) f (putClass c.1 c.2 m)
  onDuo m (fun d => { d with mir := none, mirGot := true })

/-- The pair link's reads of memory for the MIRROR frame, the publication index and the sections that have changed: whether one met
poison; such a frame is not sent (22 R609). -/
def readMirrored (m : Mach) : Mach × Bool :=
  ((indexAddr m 0, 1024) :: m.duo.secs.map (fun s => (s.1, s.2.length))).foldl (fun r p =>
    let e := logRead p.1 p.2 11 r.1
    (e.1, r.2 || e.2)) (m, false)

/-- What follows the commit in a pair: the active manager mirrors it; the other sends its DIGEST and compares a MIRROR frame that
has come before (R496, R499, R501). -/
def pairCommit (m : Mach) : Mach :=
  if !inPair m || !onF m PAIR_STAT_LINK_UP then m
  else if getF m PAIR_STAT_ROLE = 1 then
    let r := readMirrored m
    if r.2 then r.1 else setF (duoSend r.1 (.mirror (mirrorOf r.1))) PAIR_MIRROR_CYC_CYC 0 (m.cyc.n % 2 ^ 32)
  else if followsPartner m then
    let x := digestOf m
    let m := duoSend m (.digest x.1 x.2)
    match m.duo.mir with | some f => takeMirror f m | none => m
  else m

/-! ## Swap (R502 to R504) -/

/-- The first condition of R502 that fails: 1 roles, 2 pair link, 3 comparison not clean. -/
def swapCause (m : Mach) : Option Nat :=
  let r := getF m PAIR_STAT_ROLE
  let p := getF m PAIR_STAT_PARTNER
  if !((r == 1 && p == 2) || (r == 2 && p == 1)) then some 1
  else if !onF m PAIR_STAT_LINK_UP then some 2
  else if !onF m PAIR_STAT_CLEAN then some 3
  else none

/-- A request is taken: the active manager accepts the swap, the standby asks the active manager for it. A request that comes
after the commit counts in the next cycle, whose MIRROR frame carries it. -/
def takeSwap (m : Mach) (job : Option Compl) : Mach :=
  let a := if m.cyc.committed then m.cyc.n + 1 else m.cyc.n
  if getF m PAIR_STAT_ROLE = 1 then
    let m := onDuo m (fun d => { d with swapA := some a, confirmed := false, job := job, deferred := none })
    setF (setF m PAIR_SWAP_AT_S 0 ((a + 2) % 2 ^ 32)) PAIR_STAT_SWAP_PEND 0 1
  else onDuo m (fun d => { d with want := true, job := job, deferred := some a })

/-- Whether a swap is pending or has been asked for. -/
def swapBusy (m : Mach) : Bool := m.duo.swapA.isSome || m.duo.want

/-- A request without a job: conditions that fail leave everything as it is. -/
def askSwap (m : Mach) : Mach := if (swapCause m).isSome || swapBusy m then m else takeSwap m none

/-- Start of P4: a swap that has not been confirmed by the end of P3 of cycle a + 1 lapses (R503). -/
def pairP4 (m : Mach) : Mach :=
  match m.duo.swapA with
  | some a => if a < m.cyc.n && !m.duo.confirmed then dropSwap m 4 else m
  | none => if m.duo.want && m.duo.deferred.any (fun c => decide (c + 2 ≤ m.cyc.n)) then dropSwap m 4 else m

/-- The roles change at t = 0 of cycle s (R503). Blocks that the old active manager fetched carry over; its jobs wait on for their
acknowledgement. -/
def swapRoles (m : Mach) (s : Nat) : Mach :=
  let r := getF m PAIR_STAT_ROLE
  let job := m.duo.job
  let m := onDuo m (fun d => { d with swapA := none, confirmed := false, want := false, deferred := none, job := none })
  let m := setF m PAIR_STAT_SWAP_PEND 0 0
  if r ≠ 1 ∧ r ≠ 2 then m
  else
    let m := setF (setRole (3 - r) m) PAIR_STAT_PARTNER 0 r
    let m := notice (incF (flag m PAIR_FLAGS_SWAPPED) PAIR_SWAP_CNT_CNT 0 1) E_PAIR_SWAPPED (s % 2 ^ 32)
    let m := endJob m job E_OK (s % 2 ^ 32) none
    if r = 1 then onDuo (keepBlocks m) (fun d => { d with hist := List.replicate 64 0, divRun := 0, aligned := true, fed := 0, fedLocks := 0 })
    else onDuo (takeInbox m (fun _ => true)) (fun d => { d with fed := 3, fedLocks := lockWord m.locks })

/-! ## Evaluation of heartbeats (R506) -/

/-- The record that a node's WITNESS slot brought in the cycle before, where it is fresh. -/
def witnessOf (m : Mach) (node : Nat) : Option (List Nat) :=
  ((slotsNow m).filter (fun e => e.kind == 3 && e.owner == node && storesSlot m e)).findSome? (fun e =>
    match viewPayload m (slotHandle e) 16 with
    | some (l, 0) => if field l 0 1 = node then some l else none
    | _ => none)

/-- SEEN of a worker's record. -/
def seenBits (m : Mach) (node : Nat) : Option Nat := (witnessOf m node).map (fun l => field l 1 1 % 16)

/-- Whether a SEEN byte counts for manager `k` (R507). -/
def countsFor (k seen : Nat) : Bool := seen.testBit k && seen.testBit (2 + k) && !seen.testBit (1 - k) && !seen.testBit (3 - k)

/-- One evaluation of a vote (R507, R508). -/
def evalVote (m : Mach) : Mach :=
  match m.duo.vote, m.duo.outcome with
  | some v, none =>
    let me := nodeId m
    let el := electorate m
    let seen := el.map (seenBits m)
    let count (k : Nat) : Nat := (seen.filter (fun s => s.any (countsFor k))).length
    let e := el.length
    let early := decide (0 < e) && seen.all (fun s => s.any (fun b => b.testBit me && !b.testBit (1 - me)))
    let wins (k : Nat) : Bool := decide (e < 2 * count k) || (decide (2 * count k = e) && k == 0)
    let last := decide (v + 2 ≤ m.cyc.n)
    let m := setF (setF (setF m PAIR_VOTE_COUNT0 0 (count 0)) PAIR_VOTE_COUNT1 0 (count 1)) PAIR_VOTE_ELECTORATE 0 e
    let decided := if last then some (wins me) else if early then some true else none
    match decided with
    | none => m
    | some w =>
      let m := setF m PAIR_VOTE_RESULT 0 (if !w then 3 else if last then 2 else 1)
      let m := notice m E_PAIR_VOTE (count 0 % 256 + 256 * (count 1 % 256) + 65536 * (e % 256))
      let m := if w then m
        else
          let partner := getF m PAIR_STAT_PARTNER
          let m := logNode m E_PAIR_VOTE_LOST (count me % 256 + 256 * partner)
          if wins (1 - me) then m else logNode m E_PAIR_NO_ACTIVE (count me)
      onDuo m (fun d => { d with outcome := some (w, m.cyc.n + 1) })
  | _, _ => m

/-- A vote begins; the manager keeps its role and its insertions meanwhile. -/
def beginVote (m : Mach) : Mach :=
  let r := getF m PAIR_STAT_ROLE
  let m := onDuo m (fun d => { d with voteRole := r, vote := some m.cyc.n, outcome := none })
  evalVote (setRole 5 (setF (flag m PAIR_FLAGS_VOTE) PAIR_VOTE_RESULT 0 0))

/-- The evaluation at the start of P2 (R506). -/
def pairEval (m : Mach) : Mach :=
  let r := getF m PAIR_STAT_ROLE
  if !inPair m || twiState m != 6 || !(r == 1 || r == 2 || r == 3 || r == 4 || r == 5) then m
  else
    let tw := (witnessOf m (1 - nodeId m)).isSome
    let link := onF m PAIR_STAT_PAIR_HB
    let recent := m.duo.hbWas.getD 1 false
    let workers := electorate m
    let cur (k : Nat) : Nat := (workers.filter (fun w => (seenBits m w).any (fun b => b.testBit k))).length
    let less := decide (cur (nodeId m) < cur (1 - nodeId m))
    let m := onDuo (setB m PAIR_STAT_TWIRA_HB 0 tw)
      (fun d => { d with hbWas := (link :: d.hbWas).take 2, twMiss := if tw then 0 else d.twMiss + 1, fewer := if less then d.fewer + 1 else 0 })
    let m := if tw then m else flag m PAIR_FLAGS_TWIRA_HB_LOST
    if r = 5 then evalVote m
    else if link then
      if tw then m
      else if r = 1 ∧ 2 ≤ m.duo.twMiss then (if 2 ≤ m.duo.fewer then askSwap m else logNode m E_PAIR_HB_LOST 1)
      else if r = 2 then logNode m E_PAIR_HB_LOST 1
      else m
    else if tw then
      if recent then m else if r = 2 then setRole 4 m else if r = 1 then becomeSolo m else m
    else if recent then (if r = 1 ∨ r = 2 then beginVote m else m)
    else if r = 4 then isolate m else m

/-- The decision of a vote takes effect at t = 0 (R507). -/
def voteBoundary (m : Mach) : Mach :=
  match m.duo.outcome with
  | some (w, c) =>
    if m.cyc.n < c then m
    else
      let r := m.duo.voteRole
      let m := onDuo m (fun d => { d with vote := none, outcome := none, hbWas := [false, false] })
      if !w then isolate m
      else if r = 2 then
        let m := notice (flag (becomeSolo m) PAIR_FLAGS_TAKEOVER) E_PAIR_TAKEOVER (getF m PAIR_MIRROR_CYC_CYC)
        takeInbox m (fun _ => true)
      else becomeSolo m
  | none => m

/-! ## The boundary -/

/-- What the other manager needs beyond the Mould (R511): segment areas and published sections by memory, queues and plans, in-stream
blocks and motion jobs that wait for a snapshot. A piece that reads poisoned is not sent (22 R609). -/
def feedState (m : Mach) : Mach :=
  let piece (a n : Nat) : List (Nat × Nat) := (List.range (ceilDiv n 65536)).map (fun i => (a + 65536 * i, min 65536 (n - 65536 * i)))
  let mem := (planUnits m).flatMap (fun u => piece (descAddr m u.group 0) 32768) ++ piece (getF m CRUC_PUB_ADDR_ADDR) (1024 + 2 * 163840)
  let m := mem.foldl (fun m p =>
    let r := logRead p.1 p.2 11 m
    if r.2 then r.1 else duoSend r.1 (.bulk (.memory p.1 (rdBytes r.1 p.1 p.2)))) m
  let m := (planUnits m).foldl (fun m u => duoSend m (.bulk (.plan u.group (grp m u.group).com))) m
  let m := m.hif.blocks.foldl (fun m b => duoSend m (.bulk (.input (.block b.ring b.cycle b.els)))) m
  duoSend m (.bulk (.acts (m.run.acts.map (fun a => { kind := a.kind, grp := a.grp, data := a.data, segs := a.segs, gear := a.gear, change := a.change }))))

/-- The active manager feeds the Mould and its locks to a partner that does not hold them (04 R126, R140; R511). -/
def feedModel (m : Mach) : Mach :=
  let w := lockWord m.locks
  let p := getF m PAIR_STAT_PARTNER
  if !(p == 2 || p == 7) then onDuo m (fun d => { d with fed := 0, fedLocks := 0 })
  else if w == 0 || !m.mould.loaded || m.duo.bulkLocks == w || m.duo.fedLocks == w then m
  else
    let img := m.mould.image
    let n := img.length
    let m := (List.range (ceilDiv n 65536)).foldl (fun m i =>
      duoSend m (.bulk (.image n (65536 * i) ((img.drop (65536 * i)).take 65536)))) m
    let tags := (List.range 7).map (fun i => getF m TWI_TAG_TAG i)
    onDuo (duoSend m (.bulk (.locks w tags))) (fun d => { d with fed := max 1 d.fed, fedLocks := w })

/-- What PAIR does at t = 0 of the cycle that has begun: a swap, the decision of a vote, the MIRROR frame that has not come, the
TIME frame, the group-state frame of R511, a period that waits (R497, R498, R502). -/
def duoBoundary (m : Mach) : Mach :=
  if !inPair m || !domOn m dPAIR then m
  else
    let m := match m.duo.swapA with
      | some a => if a + 2 ≤ m.cyc.n ∧ m.duo.confirmed then swapRoles m (a + 2) else m
      | none => m
    let m := voteBoundary m
    let m := if followsPartner m && onF m PAIR_STAT_LINK_UP && !m.duo.mirGot && m.run.snap + 1 == m.cyc.n && m.run.stage != 0 then
        logNode (flag (incF (putClass 3 0 m) PAIR_MIRROR_MISS_CNT_CNT 0 1) PAIR_FLAGS_MIRROR_MISSING) E_PAIR_MIRROR_MISSING 1
      else m
    let m := if getF m PAIR_STAT_ROLE = 7 ∧ phaseOfResync m = 6 ∧ m.duo.since6 + 256 < m.cyc.n then resyncFail m E_PAIR_MISMATCH else m
    let r := getF m PAIR_STAT_ROLE
    let m := onDuo m (fun d => { d with mirGot := false, mir := none, secs := [] })
    if r ≠ 1 ∨ !onF m PAIR_STAT_LINK_UP then m
    else
      let m := duoSend m (.time m.cyc.start)
      let p := getF m PAIR_STAT_PARTNER
      let m := if p == 7 && m.duo.fed == 2 then onDuo (duoSend m (.bulk (.state (mirrorOf m)))) (fun d => { d with fed := 3 })
        else if p == 7 && m.duo.fed == 1 && m.duo.bulkLocks == lockWord m.locks && onF m PAIR_STAT_TWIRA_HB then
          onDuo (feedState m) (fun d => { d with fed := 2 })
        else m
      match m.duo.deferred with
      | some c =>
        if (m.cyc.n - c) % 64 = 0 ∧ c < m.cyc.n ∧ swapCause m = none ∧ !swapBusy m then
          takeSwap m none
        else m
      | none => m

/-- Start of P3: the DIGEST frame of the standby must have come (R501). -/
def pairP3 (m : Mach) : Mach :=
  if !inPair m || getF m PAIR_STAT_ROLE != 1 || getF m PAIR_STAT_PARTNER != 2 || !onF m PAIR_STAT_LINK_UP then
    onDuo m (fun d => { d with digGot := false, digMiss := 0 })
  else
    let k := if m.duo.digGot then 0 else min 5 (m.duo.digMiss + 1)
    let m := onDuo m (fun d => { d with digGot := false, digMiss := k })
    if k = 4 then logNode m E_PAIR_HB_LOST 2 else m

end Sys2Proof.Machine
end

