-- ==== Sys2Proof/Machine/Bus.lean ====
section
/-! DEFINITION. Accesses to the internal map (01): reads and writes of registers with the checks of 00 R10 to R19, R681 and 01 R30, R31,
R44; reads and writes of memory by the fabric ports; the BAR4 window. What a write of a register does beyond storing its fields
stands with the block whose rule states it. -/

namespace Sys2Proof.Machine

/-! ## Pairs of registers (00 R13) -/

/-- The 64-bit quantities that a write sets: block, offset of _LO, stride, count. -/
def writePairs : List (Nat × Nat × Nat × Nat) :=
  [(1, 0x100, 0x20, 16), (1, 0x108, 0x20, 16), (1, 0x400, 0x40, 16), (1, 0x418, 0x40, 16), (1, 0x800, 0x40, 16), (1, 0x818, 0x40, 16),
   (1, 0xC00, 0x40, 4), (1, 0xC18, 0x40, 4), (1, 0x1000, 0x40, 32), (1, 0x1018, 0x40, 32), (9, 0x1038, 0x80, 16), (11, 0x404, 0x20, 8),
   (12, 0x24, 4, 1), (16, 0x104, 4, 1)]

/-- All 64-bit quantities. -/
def readPairs : List (Nat × Nat × Nat × Nat) :=
  writePairs ++ [(0, 8, 4, 1), (6, 0x608, 0x20, 32), (6, 0xA10, 4, 1), (9, 0x1028, 0x80, 16), (9, 0x104C, 0x80, 16), (9, 0x1030, 0x80, 16),
    (10, 0x820, 4, 1), (11, 0x604, 0x20, 8), (11, 0x214, 4, 1), (11, 0x114, 0x30, 2), (11, 0x108, 0x30, 2), (11, 0x14, 4, 1), (11, 0xC, 4, 1)]

/-- Whether an offset is the _LO register of a pair of the table. -/
def loIn (t : List (Nat × Nat × Nat × Nat)) (blk off : Nat) : Bool :=
  t.any (fun p => p.1 == blk && decide (p.2.1 ≤ off) && (off - p.2.1) % p.2.2.1 == 0 && decide ((off - p.2.1) / p.2.2.1 < p.2.2.2))

/-- Whether an offset is the _HI register of a pair of the table. -/
def hiIn (t : List (Nat × Nat × Nat × Nat)) (blk off : Nat) : Bool := decide (4 ≤ off) && loIn t blk (off - 4)

/-- The address of a register. -/
def regAddr (blk off : Nat) : Nat := 0x40000000 + blk * 0x10000 + off

/-! ## Checks of a write -/

/-- Whether the fields marked "RW while disabled" or "RW while idle" of a register accept writes now. -/
def regIdle (m : Mach) (blk off : Nat) : Bool :=
  match blk with
  | 1 =>
    if off < 0x800 then getF m HIF_CMD_CTRL_STATE ((off - 0x400) / 0x40) == 0
    else if off < 0xC00 then getF m HIF_CPL_CTRL_STATE ((off - 0x800) / 0x40) == 0
    else if off < 0x1000 then getF m HIF_EVT_CTRL_STATE ((off - 0xC00) / 0x40) == 0
    else getF m HIF_STR_CTRL_STATE ((off - 0x1000) / 0x40) == 0
  | 7 => slotDisabled m ((off - 0x1000) / 0x100)
  | 8 => !(getF m PWR_SUMMARY_GATES).testBit ((off - 0x1000) / 0x100)
  | 9 => portIdle m ((off - 0x1000) / 0x80)
  | 11 => !onF m TIME_DOM_CFG_EN ((off - 0x100) / 0x30)
  | 12 => getF m TAP_STAT_STATE == tIdle
  | 16 => (List.range 7).all (fun u => !((unitRegs u).contains off && unitEn m u))
  | _ => true

/-- Whether the value held by another register of an encoder port leaves its layout right (11 R333); `o` is the offset in the port. -/
def encLayoutOk (m : Mach) (k o x : Nat) : Bool :=
  !onF m ENC_CFG_EN k ||
    (if o = 4 then layoutOk (bits x 0 6) (bits x 8 2) (bits x 16 6) (bits x 24 4) (getF m ENC_CHK_CHK_LEN k) (getF m ENC_CHK_TYPE k)
     else layoutOk (getF m ENC_FRAME_LEN k) (getF m ENC_FRAME_SKIP k) (getF m ENC_FRAME_POS_BITS k) (getF m ENC_FRAME_STAT_BITS k)
       (bits x 4 4) (bits x 0 2))

/-- The values that a rule states beyond the ranges of the field table. -/
def writeRule (m : Mach) (blk off x : Nat) : Bool :=
  match blk with
  | 4 => off != 0 || decide (allocBase m 8 ≤ x / 32 * 32 ∧ x / 32 * 32 < allocBase m 9)
  | 5 =>
    if 0x100 ≤ off ∧ off < 0x300 ∧ off % 8 = 4 then
      (decide (bits x 24 5 < 16) || bits x 24 5 == 31)
        && (!(decide (1 ≤ bits x 0 8 ∧ bits x 0 8 ≤ 3)) || (bitsOf 16 (bits x 8 16)).length == 1)
    else true
  | 6 => off != 0xA08 || decide (2 * cycLen m ≤ x % 2 ^ 24 + nth (plan m) 1)
  | 7 =>
    let o := off % 0x100
    if off < 0x1000 ∨ 0x2000 ≤ off then !(decide (0x2000 ≤ off) && decide (off % 0x40 < 0x18) && onF m AXL_TUNE_STAT_RUN ((off - 0x2000) / 0x40))
    else if o = 0 then !x.testBit 3 || feature m 11
    else if o = 0x50 then decide (x ≤ 1239850262)
    else if o = 0x58 then decide (bits x 0 16 ≤ bits x 16 16)
    else true
  | 9 =>
    let o := off % 0x80
    let k := (off - 0x1000) / 0x80
    if off < 0x1000 then true
    else if o = 4 then frameOk (bits x 0 6) (bits x 16 6) (bits x 24 4) && encLayoutOk m k 4 x
    else if o = 8 then decide (bits x 4 4 ≤ 8) && encLayoutOk m k 8 x
    else if o = 0xC then decide (25 ≤ bits x 0 10 ∧ bits x 0 10 ≤ 800 ∧ bits x 16 10 ≤ 800)
    else if o = 0x18 then decide (1 ≤ bits x 0 16 ∧ bits x 16 8 < bits x 0 16)
    else true
  | 8 => off < 0x1000 || off % 0x100 != 0x2C || decide (bits x 0 10 ≤ bits x 16 10)
  | 12 => off != 4 || !x.testBit 0 || bits x 4 4 == 0
  | 16 => off != 0x180 || x % 8 == 0 || ([5, 6] : List Nat).contains (getF m TEST_ECC_CFG_REGION)
  | _ => true

/-- Whether a register accepts a value (00 R681): the fields that a write reaches, and the rules beside them. -/
def writeOk (m : Mach) (blk off x : Nat) : Bool :=
  (fieldsAt blk off).all (fun f => f.1.accepts (bits x f.1.lsb f.1.w)) && writeRule m blk off x

/-- Whether the lock of a field is set. -/
def fieldLocked (m : Mach) (f : Fld) : Bool :=
  match f.acc with | .rwlCfg => m.locks.cfg | .rwlLim => m.locks.lim | .rwlSch => m.locks.sch | _ => false

/-! ## Writes -/

/-- One field of a register takes the bits of a value as its access code states (00 R10, R17). -/
def writeField (x : Nat) (m : Mach) (fi : Fld × Nat) : Mach :=
  let f := fi.1
  let v := bits x f.lsb f.w
  match f.acc with
  | .rw => if f = TIME_CTRL_AUTO_SWITCH ∧ !feature m 9 then setF m f fi.2 0 else setF m f fi.2 v
  | .w1c => setF m f fi.2 (andNot (getF m f fi.2) v)
  | .w1s => setF m f fi.2 (getF m f fi.2 ||| v)
  | .cnt =>
    if v.testBit 0 then
      let m := setF m f fi.2 0
      if f = MEM_CE_CNT_CNT then { m with memb := { m.memb with thrSaid := m.memb.thrSaid.filter (· != fi.2) } } else m
    else m
  | .rwlCfg | .rwlLim | .rwlSch => if fieldLocked m f then m else setF m f fi.2 v
  | .rwIdle => if f = PWR_DT_CFG_ADAPT ∧ v = 1 ∧ !feature m 12 then m else if regIdle m f.blk (f.off + f.stride * fi.2) then setF m f fi.2 v else m
  | .shadow => setF m f fi.2 v
  | .rwExt => if externalSource fi.2 then setF m f fi.2 v else m
  | .rwGo => if m.hif.gone then m else setF m f fi.2 v
  | .rwOnce => if m.sys.wdtSet then m else setF m f fi.2 v
  | .ro | .wo | .rwBoot => m

/-- A register write by the access codes of its fields: refused as a whole for a value or a time that the register does not accept
(00 R681), and a lock violation where a locked field would change (00 R19). -/
def plainWrite (blk off x : Nat) (m : Mach) : Mach :=
  let fs := fieldsAt blk off
  if fs = [] then m
  else if !writeOk m blk off x then badCfg m blk off
  else if fs.all (fun f => f.1.acc == .rwIdle || f.1.acc == .ro) && fs.any (fun f => f.1.acc == .rwIdle) && !regIdle m blk off then (if blk = 1 then m else badCfg m blk off)
  else
    let hit := fs.any (fun f => fieldLocked m f.1 && getF m f.1 f.2 != bits x f.1.lsb f.1.w)
    let m := fs.foldl (writeField x) m
    if hit then lockViolation m blk off else m

/-- The write of _HI that completes a 64-bit quantity; `off` is the offset of _LO. -/
def pairWrite (blk off lo hi : Nat) (m : Mach) : Mach :=
  let fs := fieldsAt blk off
  let differs := fs.any (fun f => getF m f.1 f.2 != bits lo f.1.lsb f.1.w)
    || (fieldsAt blk (off + 4)).any (fun f => getF m f.1 f.2 != bits hi f.1.lsb f.1.w)
  if fs.any (fun f => f.1.acc == .rwIdle) && !regIdle m blk off then (if blk = 1 then m else badCfg m blk (off + 4))
  else if fs.any (fun f => fieldLocked m f.1) then (if differs then lockViolation m blk (off + 4) else m)
  else putReg (putReg m blk off lo) blk (off + 4) hi

/-! ## The schedule memory through its registers (12 R364, R381) -/

/-- Mode, line, channel and slot of the entry that SCH_IDX selects; a worker has one line. -/
def schKey (m : Mach) : Nat × Nat × Nat × Nat :=
  (getF m TWI_SCH_IDX_MODE, if isManager m then getF m TWI_SCH_IDX_LINE else (m.sched.head?.map (·.line)).getD m.twi.lineNo,
   getF m TWI_SCH_IDX_CH, getF m TWI_SCH_IDX_SLOT)

/-- Whether an entry is the one of a key. -/
def isKey (k : Nat × Nat × Nat × Nat) (e : SchedEnt) : Bool := e.mode == k.1 && e.line == k.2.1 && e.ch == k.2.2.1 && e.slot == k.2.2.2

/-- An entry that holds nothing. -/
def schNone (k : Nat × Nat × Nat × Nat) : SchedEnt := { mode := k.1, line := k.2.1, ch := k.2.2.1, slot := k.2.2.2 }

/-- The entry selected, of a list of those in use, and whether it is one of them. -/
def schEntryOf (m : Mach) (l : List SchedEnt) : SchedEnt × Bool :=
  let k := schKey m
  match l.find? (isKey k) with
  | some e => (e, true)
  | none => ((m.schedOff.find? (isKey k)).getD (schNone k), false)

/-- The entry selected as a read finds it. -/
def schEntry (m : Mach) : SchedEnt × Bool := schEntryOf m (schedNow m)

/-- Puts the entry selected, half `d` of whose word is written (22 R605). -/
def putSch (m : Mach) (d : Nat) (e : SchedEnt) (valid : Bool) : Mach :=
  let k := schKey m
  let m := if m.memb.xor.isEmpty && m.memb.flips.isEmpty then m else schedPartial m (schNone k) d 0
  let here := m.sched.any (isKey k)
  let s := if !valid then m.sched.filter (fun x => !isKey k x)
    else if here then m.sched.map (fun x => if isKey k x then e else x) else m.sched ++ [e]
  let off := m.schedOff.filter (fun x => !isKey k x)
  refreshOwned { m with sched := s, schedOff := if valid || e == schNone k then off else off ++ [e] }

/-- SCH_DATA_0. An entry that holds nothing shows no DUR (R381: 0 after reset). -/
def schData0 (m : Mach) : Nat :=
  let e := schEntry m
  e.1.start % 2 ^ 20 + (if !e.2 && e.1 == schNone (schKey m) then 0 else 2 ^ 20 * (frameDur e.1.plen % 2 ^ 12))

/-- SCH_DATA_1. -/
def schData1 (m : Mach) : Nat :=
  let x := schEntry m
  let e := x.1
  e.owner % 64 + 64 * (e.kind % 8) + 2 ^ 9 * b2n (e.rx.testBit (nodeId m)) + 2 ^ 10 * (e.gev % 8) + 2 ^ 13 * b2n x.2
    + 2 ^ 16 * (e.plen / 4 % 512)

/-- A write of SCH_DATA_0 or SCH_DATA_1: half a word of the schedule memory (22 R605). -/
def schWrite (d x : Nat) (m : Mach) : Mach :=
  let e := schEntry m
  if d = 0 then
    if m.locks.sch then (if bits x 0 20 = e.1.start % 2 ^ 20 then m else lockViolation m 10 0x44)
    else let r := schEntryOf m m.sched; putSch m 0 { r.1 with start := bits x 0 20 } r.2
  else
    let new := x % 2 ^ 25 - bits x 14 2 * 2 ^ 14
    if 256 < bits x 16 9 ∨ 4 < bits x 10 3 then badCfg m 10 0x48
    else if m.locks.sch then (if new = schData1 m then m else lockViolation m 10 0x48)
    else
      let n := nodeId m
      let r := (schEntryOf m m.sched).1
      putSch m 1 { r with owner := bits x 0 6, kind := bits x 6 3, gev := bits x 10 3, plen := 4 * bits x 16 9,
                          rx := if x.testBit 9 then r.rx ||| 2 ^ n else andNot r.rx (2 ^ n) } (x.testBit 13)

/-! ## Registers whose write does more than store, block by block -/

/-- SYS (23 R640). -/
def sysWrite (p off x : Nat) (m : Mach) : Mach :=
  if m.sys.chipRst.isSome then m
  else match off with
  | 0x10 => (setLocks (x % 8) m).1
  | 0x1C =>
    if x.testBit 0 && bits x 8 8 != 0xA5 then badCfg m 0 0x1C
    else chipResetRequest x (plainWrite 0 0x1C x m)
  | 0x2C => bootLenWrite x (m.cyc.now / 800000) m
  | 0x30 => powerControl x m
  | 0x40 =>
    let ok := writeOk m 0 0x40 x
    let m := plainWrite 0 0x40 x m
    if p = 0 ∧ ok = true then { m with sys := { m.sys with wdtSet := true } } else m
  | 0x44 => watchdogKick x m.cyc.now m
  | _ => plainWrite 0 off x m

/-- Kind and number of the ring whose register set holds a HIF offset, with the offset in the set (03 R105, R114). -/
def ringAt (off : Nat) : Option (Nat × Nat × Nat) :=
  if 0x400 ≤ off ∧ off < 0x800 then some (0, (off - 0x400) / 0x40, off % 0x40)
  else if 0x800 ≤ off ∧ off < 0xC00 then some (1, (off - 0x800) / 0x40, off % 0x40)
  else if 0xC00 ≤ off ∧ off < 0xD00 then some (2, (off - 0xC00) / 0x40, off % 0x40)
  else if 0x1000 ≤ off ∧ off < 0x1800 then some (3, (off - 0x1000) / 0x40, off % 0x40)
  else none

/-- HIF (03 R114). -/
def hifWrite (off x : Nat) (m : Mach) : Mach :=
  if 0x8000 ≤ off ∧ off < 0x8400 then msixTableWrite ((off - 0x8000) / 16) (off % 16 / 4) x m
  else if off = 0x30 then featureGo x m
  else if 0x20 ≤ off ∧ off < 0x30 ∧ m.hif.gone = true then logNode m E_HIF_FEAT_LOCKED 0
  else if 0x2000 ≤ off ∧ off < 0x2100 then coalChanged (plainWrite 1 off x m) ((off - 0x2000) / 4)
  else match ringAt off with
    | some (kind, k, 0xC) => if x.testBit 0 then ringEnable kind k m else ringDisable kind k m
    | _ => plainWrite 1 off x m

/-- INTC (21 R601): EN of a reserved number is refused (R587). -/
def intcWrite (p off x : Nat) (m : Mach) : Mach :=
  if off = 8 then intcComplete p x m
  else if 0x140 ≤ off ∧ off < 0x180 then intcPendSet ((off - 0x140) / 4) x m
  else if 0x180 ≤ off ∧ off < 0x1C0 then intcPendClr ((off - 0x180) / 4) x m
  else if 0x1000 < off ∧ off < 0x1800 ∧ reservedSource ((off - 0x1000) / 4) = true ∧ x.testBit 0 = true then badCfg m 2 off
  else levels (plainWrite 2 off x m)

/-- LADLE (18 R532): SUBMIT takes whole lines only, so a register write there is partial. -/
def ladleWrite (p off x : Nat) (m : Mach) : Mach :=
  if 0x100 ≤ off ∧ off < 0x120 then ladleSubmit p (leBytes 4 x) m
  else if off = 0x204 then counterSet x m
  else if off = 0x208 then counterDecrement x m
  else plainWrite 3 off x m

/-- RUN (07, 08): OVR is an invalidation (R202). -/
def runWrite (off x : Nat) (m : Mach) : Mach :=
  if 0x100 ≤ off ∧ off < 0x500 ∧ off % 0x20 = 8 then
    match groupRec m ((off - 0x100) / 0x20) with
    | some g => if 2 ^ 30 < x % 2 ^ 31 then badCfg m 6 off else setOvr m (unitOf m g) (x % 2 ^ 31)
    | none => plainWrite 6 off x m
  else plainWrite 6 off x m

/-- AXL (09 R299, R300). -/
def axlWrite (off x : Nat) (m : Mach) : Mach :=
  if 0x1000 ≤ off ∧ off < 0x2000 ∧ off % 0x100 = 0xC then
    if x.testBit 0 then setF m AXL_STAT_COMMIT_PEND ((off - 0x1000) / 0x100) 1 else m
  else if 0x2000 ≤ off ∧ off < 0x2400 ∧ off % 0x40 = 0x18 then
    let s := (off - 0x2000) / 0x40
    let m := if x.testBit 0 then tuneGo s m else m
    if x.testBit 1 then injAbort m s else m
  else plainWrite 7 off x m

/-- PWR (10 R302, R305, R320, R331). -/
def pwrWrite (off x : Nat) (m : Mach) : Mach :=
  let s := (off - 0x1000) / 0x100
  let o := off % 0x100
  if off < 0x1000 ∨ 0x2000 ≤ off then plainWrite 8 off x m
  else if o = 4 then perWrite s x m
  else if o = 8 ∨ o = 0xC ∨ o = 0x10 then dutyWrite m s ((o - 8) / 4) x
  else if o = 0x14 then (if x.testBit 0 then pwrCommit s m else m)
  else if o = 0x40 then evtCfgWrite s x m
  else plainWrite 8 off x m

/-- ENC (11 R350): CFG.EN is checked at its setting (R333). -/
def encWrite (off x : Nat) (m : Mach) : Mach :=
  if 0x1000 ≤ off ∧ off < 0x1800 ∧ off % 0x80 = 0 then
    let k := (off - 0x1000) / 0x80
    if x.testBit 0 then encoderEnable k x m
    else
      let m' := plainWrite 9 off x m
      if onF m' ENC_CFG_EN k then m' else showEnabled (setEnc m' k { encSt m' k with busy := none }) k
  else plainWrite 9 off x m

/-- TWI (12 R381, 13 R409). A TARGET that no exchange may take is refused (12 R366); its code stands in completion entries only (03 R113), so
no event tells of a write. -/
def twiWrite (off x : Nat) (m : Mach) : Mach :=
  match off with
  | 0x008 => if x.testBit 31 then modeCtrlGo (x % 8) m else if !isActive m then m
    else if x % 8 ≠ 0 ∧ modeClass m (x % 8) = 3 then m else plainWrite 10 off x m
  | 0x044 => schWrite 0 x m
  | 0x048 => schWrite 1 x m
  | 0x400 => txPublish (x % 2048) m
  | 0x404 => acquireView (x % 2048) m
  | _ => plainWrite 10 off x m

/-- CYCLE_CFG_WRITE (02 R77, R678): LEN and PLAN_CUSTOM are stored; the length in force changes at a cycle boundary. -/
def cycleCfgWrite (x : Nat) (m : Mach) : Mach := if anyEnabled m then badCfg m 11 0x200 else plainWrite 11 0x200 x m

/-- A write of TIME_DOM_CFG_d: the fields are writable while EN is 0, then EN acts (14 R412). -/
def domCfgWrite (d x : Nat) (m : Mach) : Mach :=
  let en := x.testBit 0
  let off := 0x100 + 0x30 * d
  if networked m && en then domainEnable d en m
  else if en && d == 1 && !feature m 9 then domainEnable d en m
  else
    let m := if onF m TIME_DOM_CFG_EN d then m
      else [TIME_DOM_CFG_PORT, TIME_DOM_CFG_GM_EN, TIME_DOM_CFG_DOMAIN, TIME_DOM_CFG_PRIO1].foldl (fun m f => setF m f d (bits x f.lsb f.w)) m
    if !writeOk m 11 off x || en == onF m TIME_DOM_CFG_EN d then m else domainEnable d en m

/-- A write of TIME_CAP_CFG_i: EN claims the input for TIME capture or releases it (14 R433, 04 R145). -/
def capCfgWrite (i x : Nat) (m : Mach) : Mach :=
  let off := 0x600 + 0x20 * i
  let was := onF m TIME_CAP_CFG_EN i
  if !writeOk m 11 off x then badCfg m 11 off
  else
    let m := plainWrite 11 off (x / 2 * 2 + b2n was) m
    if x.testBit 0 == was then m
    else if was then setF (setF (release m 5 4 i) TIME_CAP_CFG_OWNER i 0) TIME_CAP_CFG_EN i 0
    else match firstBusy m [(4, i)] with
      | some d => logNode m E_RESOURCE_BUSY d
      | none => setF (setF (claim m 5 [(4, i)]) TIME_CAP_CFG_OWNER i 1) TIME_CAP_CFG_EN i 1

/-- TIME (02 R77, 14 R433): SEL starts a switch (R420). -/
def timeWrite (off x : Nat) (m : Mach) : Mach :=
  if off = 0x200 then cycleCfgWrite x m
  else if off = 0 then
    let d := x % 2
    if d = getF m TIME_CTRL_SEL then autoSwitch (plainWrite 11 0 x m)
    else if networked m || domState m d != 3 then selWrite d m
    else autoSwitch (selWrite d (plainWrite 11 0 (x - x % 2 + getF m TIME_CTRL_SEL) m))
  else if off = 0x100 ∨ off = 0x130 then domCfgWrite ((off - 0x100) / 0x30) x m
  else if 0x400 ≤ off ∧ off < 0x500 ∧ off % 0x20 = 0x18 then
    let o := (off - 0x400) / 0x20
    let m := if x.testBit 0 then outGo o m else m
    if x.testBit 1 then outStop o m else m
  else if 0x600 ≤ off ∧ off < 0x700 ∧ off % 0x20 = 0 then capCfgWrite ((off - 0x600) / 0x20) x m
  else plainWrite 11 off x m

/-- TAP (20 R584). -/
def tapWrite (off x : Nat) (m : Mach) : Mach :=
  if off = 0 then
    let m := if x.testBit 0 then tapCtrlArm m else m
    let m := if x.testBit 1 then tapHalt m else m
    if x.testBit 2 then tapForce m else m
  else plainWrite 12 off x m

/-- SAFE (15 R468). -/
def safeWrite (off x : Nat) (m : Mach) : Mach :=
  if off = 0x200 then (if x.testBit 0 then mailboxPost m else m)
  else if off = 0x204 then (if mboxBusy m then m else plainWrite 13 off x m)
  else if 0x8000 ≤ off then mailboxWrite m (off - 0x8000) (leBytes 4 x)
  else plainWrite 13 off x m

/-- PAIR (17 R513). -/
def pairRegWrite (off x : Nat) (m : Mach) : Mach := if off = 0x40 then (if x.testBit 0 then askSwap m else m) else plainWrite 14 off x m

/-- TEST (25 R677). -/
def testWrite (p off x : Nat) (m : Mach) : Mach :=
  if off = 0 then testKey p x m.cyc.now m
  else if getF m TEST_STAT_UNLOCK = 0 then m
  else if off = 8 then
    let m := (List.range 7).foldl (fun m u => if x.testBit u then unitEnable u m else stopUnit m u 1) m
    if x.testBit 31 then testLock m else m
  else plainWrite 16 off x m

/-- The write of one register of a block that is on. -/
def blockWrite (p blk off x : Nat) (m : Mach) : Mach :=
  match blk with
  | 0 => sysWrite p off x m
  | 1 => hifWrite off x m
  | 2 => intcWrite p off x m
  | 3 => ladleWrite p off x m
  | 6 => runWrite off x m
  | 7 => axlWrite off x m
  | 8 => pwrWrite off x m
  | 9 => encWrite off x m
  | 10 => twiWrite off x m
  | 11 => timeWrite off x m
  | 12 => tapWrite off x m
  | 13 => safeWrite off x m
  | 14 => pairRegWrite off x m
  | 16 => testWrite p off x m
  | _ => plainWrite blk off x m

/-- A write of a _LO register is held; that of _HI takes effect with it (00 R13). A _LO never written gives its value in the
register. Before READY the HIF ignores writes but those of HIF_STATUS and the MSI-X table (03 R79). -/
def halfWrite (p blk off x : Nat) (m : Mach) : Mach :=
  if blk = 1 ∧ 4 ≤ off ∧ off < 0x8000 ∧ onF m HIF_STATUS_READY = false then m
  else if loIn writePairs blk off then { m with loHeld := sins (sdel m.loHeld (regAddr blk off)) (regAddr blk off) x }
  else if hiIn writePairs blk off then
    let lo := sget m.loHeld (regAddr blk (off - 4)) (regWord m blk (off - 4))
    if blk = 9 then xposWrite ((off - 0x1000) / 0x80) (lo + 2 ^ 32 * x) m else pairWrite blk (off - 4) lo x m
  else blockWrite p blk off x m

/-- A 32-bit write at an address of the register region by a port that may write it (01 R29 to R31). -/
def windowWrite (p addr x : Nat) (m : Mach) : Mach :=
  let blk := (addr - 0x40000000) / 0x10000
  let off := addr % 0x10000 / 4 * 4
  if 17 ≤ blk ∨ (blk = 16 ∧ off ≠ 0 ∧ getF m TEST_STAT_UNLOCK = 0) then m
  else if blk ≠ 13 ∧ domOn m (domOf blk) = false then domainOffWrite m blk off
  else halfWrite p blk off (x % 2 ^ 32) m

/-! ## Reads -/

/-- The phase of the cycle at the present instant. -/
def phaseNow (m : Mach) : Nat := ((plan m).filter (fun p => decide (m.cyc.start + p ≤ m.cyc.now))).length

/-- The value that a read of a field returns. -/
def fieldRead (m : Mach) (f : Fld) (i : Nat) : Nat :=
  if f.acc = .wo then 0
  else if f.acc = .shadow then getV m f i
  else match f.blk with
  | 0 => if f = SYS_LOCK_CFG_LOCK then b2n m.locks.cfg else if f = SYS_LOCK_LIMIT_LOCK then b2n m.locks.lim
         else if f = SYS_LOCK_SCHED_LOCK then b2n m.locks.sch else getF m f i
  | 1 => if f = HIF_FEAT_DEV_DEV then (if i = 0 then advertised m else 0) else getF m f i
  | 2 => (intcField m f i).getD (getF m f i)
  | 3 => if f = LADLE_STATUS_INFLIGHT then bits (ladleStatus m) 0 9 else if f = LADLE_STATUS_READY then bits (ladleStatus m) 16 9
         else if f = LADLE_STATUS_OPEN then b2n m.ladle.isOpen else if f = LADLE_CORE_DEPTH_DEPTH then ladleDepth m i
         else if f = LADLE_CNT_VAL_VAL then counter m (getF m LADLE_CNT_IDX_IDX) else getF m f i
  | 4 => if f = CORE_RUN_RUN then maskOf ((List.range 32).filter (fun c => (running m c).isSome)) else getF m f i
  | 6 => if f = RUN_GRP_CFG_DEPTH ∧ !feature m 4 then 1 else getF m f i
  | 11 =>
    if f = TIME_NOW_LO_C then m.cyc.now % 2 ^ 32 else if f = TIME_NOW_HI_C then m.cyc.now / 2 ^ 32 % 2 ^ 32
    else if f = TIME_CYCLE_NUM_LO_NUM then m.cyc.n % 2 ^ 32 else if f = TIME_CYCLE_NUM_HI_NUM then m.cyc.n / 2 ^ 32 % 2 ^ 32
    else if f = TIME_PHASE_STAT_PHASE then phaseNow m
    else if f.off = 0x204 ∨ f.off = 0x208 ∨ f.off = 0x20C ∨ f.off = 0x210 then
      phaseShown m (f.off / 4 - 0x80)
    else if f = TIME_ETH_STAT_LINK then b2n (Config.rgmiiLink i m.cyc.now)
    else getF m f i
  | 13 => if f = SAFE_MIR_STAT_AGE then (match m.safe.pubAt with | some t => min 255 ((m.cyc.now - t) / 200000) | none => 255)
          else getF m f i
  | 14 => if f = PAIR_STAT_RANK then nodeId m % 2 else getF m f i
  | 15 => if f = MEM_POISONED_N then min 65535 m.memb.poison.length else getF m f i
  | _ => getF m f i

/-- A register as a read returns it. -/
def regValue (m : Mach) (p blk off : Nat) : Nat :=
  if blk = 13 ∧ off < 0x100 then field (mirrorView m p) off 4
  else if blk = 1 ∧ 0x8000 ≤ off ∧ off < 0x8400 then sget m.hif.msix ((off - 0x8000) / 4) (if off % 16 = 12 then 1 else 0)
  else if blk = 1 ∧ 0x9000 ≤ off ∧ off < 0x9008 then bits m.hif.pba (8 * (off - 0x9000)) 32
  else if blk = 10 ∧ off = 0x44 then schData0 m
  else if blk = 10 ∧ off = 0x48 then schData1 m
  else (fieldsAt blk off).foldl (fun v f => v + fieldRead m f.1 f.2 * 2 ^ f.1.lsb) 0

/-- A read of a register of a block: its value, and the side effects that its meaning states (00 R12, R13). -/
def blockRead (p blk off : Nat) (m : Mach) : Nat × Mach :=
  let a := regAddr blk off
  if blk = 2 ∧ (off = 0 ∨ off = 4) then claimRead p (off / 4) m
  else
    let m := if blk = 2 then levels m else if blk = 13 ∧ off = 0 then mirrorLatch p m
      else if blk = 10 ∧ (off = 0x44 ∨ off = 0x48) then decodeWord m (schedKey (schNone (schKey m))) 0 p
      else if blk = 11 then settleOuts m else m
    let v := regValue m p blk off
    if loIn readPairs blk off then (v, { m with hiLatch := sins (sdel m.hiLatch (a + 4)) (a + 4) (regValue m p blk (off + 4)) })
    else if hiIn readPairs blk off then
      let v := sget m.hiLatch a v
      let m := { m with hiLatch := sdel m.hiLatch a }
      (v, if blk = 11 ∧ 0x600 ≤ off then captureRemove ((off - 0x600) / 0x20) m else m)
    else (v, m)

/-- A 32-bit read at an address of the register region by a port that may read it (01 R29 to R31). -/
def windowRead (p addr : Nat) (m : Mach) : Nat × Mach :=
  let blk := (addr - 0x40000000) / 0x10000
  let off := addr % 0x10000 / 4 * 4
  if 17 ≤ blk ∨ (blk = 16 ∧ getF m TEST_STAT_UNLOCK = 0) ∨ (blk ≠ 13 ∧ domOn m (domOf blk) = false) then (0, m)
  else blockRead p blk off (if blk = 6 then latchReacts m else m)

/-! ## Memory accesses -/

/-- A request of a port under the FAB unit is counted (25 R671). -/
def portUse (m : Mach) (p : Nat) : Mach :=
  if unitOn m uFAB && getF m TEST_FAB_DLY_DLY p != 0 then incF m TEST_HIT_CNT uFAB 1 else m

/-- The positions in error of the next word that a port issues (25 R670), and the state after it. -/
def portFlips (m : Mach) (p : Nat) : List Nat × Mach :=
  match m.test.fab.find? (fun e => e.1 == p) with
  | none => ([], m)
  | some e => (e.2, { m with test := { m.test with fab := m.test.fab.erase e } })

/-- The outcome of a word with errors on a fabric path (22 R604 to R607): whether it is poisoned, and the value that replaces it where
the outcome is open. -/
def pathWord (m : Mach) (l : List Nat) (a src p : Nat) : Bool × Option Nat × Mach :=
  if l = [] then (false, none, m)
  else if l.length ≤ 2 then (false, none, corrected m 6 l)
  else if l.length = 3 then (true, none, uncorrectable m (a / 8 * 8) 6 src p)
  else
    let r := fresh m 1
    if r.1 = 0 then (true, none, uncorrectable r.2 (a / 8 * 8) 6 src p)
    else let v := fresh r.2 64; (false, some v.1, v.2)

/-- A read of `n` bytes by a port: the value, whether it is poisoned, the state after it. -/
def busRead (p a n : Nat) (m : Mach) : Nat × Bool × Mach :=
  let m := portUse m p
  if !portReads p a then (0, true, accessDenied m p a)
  else if regionOf a = .registers then
    if n = 8 then
      let r := windowRead p a m
      let s := windowRead p (a + 4) r.2
      (r.1 + 2 ^ 32 * s.1, false, s.2)
    else let r := windowRead p a m; (bits r.1 (8 * (a % 4)) (8 * n), false, r.2)
  else
    let r := eccRead m a n p
    let f := portFlips r.1 p
    let w := pathWord f.2 f.1 a 3 p
    ((w.2.1.getD (rdVal w.2.2 a n)) % 2 ^ (8 * n), r.2 || w.1, w.2.2)

/-- Whether a write of a port to memory is frozen by CFG_LOCK (04 R136, 05 R152, 19 R533, R560). -/
def memFrozen (m : Mach) (a : Nat) : Bool :=
  m.locks.cfg &&
  (match regionOf a with
   | .store => decide (a < 0x10200000) || decide (allocBase m 4 ≤ a ∧ a < allocBase m 5)
       || decide (getF m CORE_KTAB_ADDR_ADDR * 32 ≤ a ∧ a < getF m CORE_KTAB_ADDR_ADDR * 32 + 32768)
   | .crucible => decide (a < 0x30200000)
   | .local_ _ => decide (a % 0x10000 < 0xC000)
   | _ => false)

/-- A refused write of frozen memory is a violation where it would change something (00 R19); the report carries the address. -/
def frozenWrite (m : Mach) (a : Nat) (l : List Nat) : Mach :=
  if rdBytes m a l.length = l then m else lockViolation m 0 a

/-- Bytes that a port writes to memory, through the fabric path. -/
def memWrite (p a : Nat) (l : List Nat) (m : Mach) : Mach :=
  let f := portFlips m p
  let w := pathWord f.2 f.1 a 2 p
  let m := wrBytes w.2.2 a ((w.2.1.map (leBytes l.length)).getD l) p
  if w.1 then { m with memb := { m.memb with poison := insNat (a / 8 * 8) m.memb.poison } } else m

/-- A write of bytes by a port (01 R43, R44). A whole line to LADLE_SUBMIT is a submission (18 R526); registers take 32-bit writes, the
lanes of a narrower one that are not written carry 0. -/
def busWrite (p a : Nat) (l : List Nat) (m : Mach) : Mach :=
  let m := portUse m p
  if !portMayWrite m p a then accessDenied m p a
  else match regionOf a with
  | .registers =>
    if l.length = 32 then (if a = 0x40030100 then ladleSubmit p l m else m)
    else
      let w (i : Nat) : Nat := leNat (l.drop (4 * i) |>.take 4)
      let m := windowWrite p a (w 0 * 2 ^ (8 * (a % 4))) m
      if l.length = 8 then windowWrite p (a + 4) (w 1) m else m
  | .crucible =>
    if p = 0 ∧ 0x30200000 ≤ a ∧ onF m CRUC_STATUS_WINDOW then accessDenied m p a
    else if p = 0 && memFrozen m a then frozenWrite m a l else memWrite p a l m
  | .local_ _ => if memFrozen m a then frozenWrite m a l else memWrite p a l m
  | _ => if memFrozen m a then frozenWrite m a l else memWrite p a l m

/-- BAR4_WRITE (01 R45, R46): a host write at an offset of the debug window. -/
def bar4Write (off : Nat) (l : List Nat) (m : Mach) : Mach :=
  if hostSees m = false ∨ 0x1800000 ≤ off then m
  else if m.locks.cfg then lockViolation m 0 off
  else memWrite 1 (0x10000000 + off) (l.map (· % 256)) (portUse m 1)

/-- BAR4_WRITE. -/
def execBar4Write (off : Nat) (l : List Nat) (s : State) : Out := done (bar4Write off l) s

/-! ## Register accesses and BARs -/

/-- REGISTER_WRITE: a 32-bit write by a fabric port, port 1 being the host through BAR0, or at an offset of BAR2 or BAR4 (01 R45). -/
def regWrite (via : Via) (addr x : Nat) (m : Mach) : Mach :=
  if m.sys.inReset then m
  else match via with
  | .bar2 => if hostSees m then bar2Write (addr % 0x10000) x m else m
  | .bar4 => bar4Write addr (leBytes 4 x) m
  | .port p =>
    if p = 1 && !hostSees m then m
    else if regionOf addr ≠ .registers then (if p = 1 then m else accessDenied m p addr)
    else if !portWrites p addr then accessDenied m p addr
    else windowWrite p addr x m

/-- REGISTER_WRITE. -/
def execRegisterWrite (via : Via) (addr x : Nat) (s : State) : Out := done (regWrite via addr x) s

/-- CYCLE_CFG_WRITE, by a port that may write registers. -/
def execCycleCfgWrite (x : Nat) (s : State) : Out := done (regWrite (.port 1) 0x400B0200 x) s

/-- A read by the host at an offset of BAR4 (01 R45, R46): always performed; 0 above the working store, and with the poison marker where
the word is poisoned (22 R609). -/
def bar4Read (off : Nat) (m : Mach) : Nat × Bool × Mach :=
  if 0x1800000 ≤ off then (0, false, m)
  else
    let r := busRead 1 (0x10000000 + off) 4 m
    if r.2.1 then (0, true, poisonLog r.2.2 (0x10000000 + off / 8 * 8)) else r

/-- A 32-bit read: by a port of a register, or by the host at an offset of BAR2, which reads 0, or BAR4; the flag says that the answer is
poisoned (01 R44, R45, 03 R80). -/
def regRead (via : Via) (addr : Nat) (m : Mach) : Nat × Bool × Mach :=
  if m.sys.inReset then (0, false, m)
  else match via with
  | .bar2 => (0, false, m)
  | .bar4 => if hostSees m then bar4Read addr m else (0, false, m)
  | .port p =>
    if p = 1 && !hostSees m then (0, false, m)
    else if regionOf addr ≠ .registers then (if p = 1 then (0, false, m) else (0, true, accessDenied m p addr))
    else if !portReads p addr then (0, true, accessDenied m p addr)
    else let r := windowRead p addr m; (r.1, false, r.2)

/-- A read whose answer leaves the block. -/
def answerRead (via : Via) (addr : Nat) (m : Mach) : Mach :=
  let r := regRead via addr m
  { r.2.2 with out := { r.2.2.out with answer := (r.1, r.2.1) } }

/-- REGISTER_LO_READ: a read of a register by a port, or of a BAR by the host. -/
def execRegisterLoRead (via : Via) (addr : Nat) (s : State) : Out := done (answerRead via addr) s

end Sys2Proof.Machine
end

