-- ==== Sys2Proof/Machine/Pair.lean ====
section
/-! DEFINITION. The redundant pair: its commands (17 R489 to R511; 23 R633). -/

namespace Sys2Proof.Machine

/-- A discarded frame (R490). -/
def crcBad (m : Mach) : Mach := incF m PAIR_LINK_CRC_CNT 0 1

/-- A frame that arrives: one with a wrong CRC is discarded and counted; without an admitted link there is none. -/
def duoFrame (crcOk : Bool) (f : Mach → Mach) (m : Mach) : Mach :=
  if !onF m PAIR_STAT_LINK_UP || !domOn m dPAIR then m else if crcOk then f m else crcBad m

/-! ## Link and roles -/

/-- PAIR_LINK_ADMIT (R489): both lanes hold block lock with `skew` ticks between them; 64 ns are 51.2 ticks. -/
def pairLinkAdmit (skew : Nat) (m : Mach) : Mach :=
  if !isManager m || !domOn m dPAIR then m
  else
    let m := setF (setF m PAIR_LINK_LOCK 0 3) PAIR_LINK_SKEW 0 (min 255 skew)
    if skew ≤ 51 then flag m PAIR_STAT_LINK_UP else m

/-- PAIR_LINK_ADMIT. -/
def execPairLinkAdmit (skew : Nat) (s : State) : Out := done (pairLinkAdmit skew) s

/-- BLOCK_LOCK_LOSS of a lane (R491). -/
def blockLockLoss (lane : Nat) (m : Mach) : Mach :=
  if 2 ≤ lane ∨ !(getF m PAIR_LINK_LOCK).testBit lane then m
  else hbLost (setF (setF m PAIR_LINK_LOCK 0 (andNot (getF m PAIR_LINK_LOCK) (2 ^ lane))) PAIR_STAT_LINK_UP 0 0)

/-- BLOCK_LOCK_LOSS. -/
def execBlockLockLoss (lane : Nat) (s : State) : Out := done (blockLockLoss lane) s

/-- PAIR_HEARTBEAT_LOST: no valid HEARTBEAT for HB_TO intervals (R491). -/
def execPairHeartbeatLost (s : State) : Out := done hbLost s

/-- ROLE_RESOLVE (R493): the first row that applies; `late` says that 8 ms have passed since the end of boot. -/
def roleResolve (late : Bool) (m : Mach) : Mach :=
  let link := onF m PAIR_STAT_LINK_UP
  let p := getF m PAIR_STAT_PARTNER
  if !isManager m || !domOn m dPAIR || getF m PAIR_STAT_ROLE != 0 || (m.mould.loaded && m.mould.config != 3) then m
  else if link && decide (0 < m.duo.run) && (p == 1 || p == 3) then enterResync 1 m
  else if link && decide (0 < m.duo.run) && p == 0 then setRole (1 + nodeId m % 2) m
  else if link || !late then m
  else if onF m TWI_SU_STAT_MASTER then setRole 3 m
  else if (getF m TWI_SU_STAT_REF == 1 - nodeId m && decide (4 ≤ twiState m)) || m.duo.heard then isolate m
  else m

/-- ROLE_RESOLVE. -/
def execRoleResolve (late : Bool) (s : State) : Out := done (roleResolve late) s

/-! ## HEARTBEAT -/

/-- The HEARTBEAT frame of this manager. -/
def hbFrame (m : Mach) : HbFrame :=
  let d := m.duo
  { role := getF m PAIR_STAT_ROLE, rank := nodeId m % 2, ack := d.got, swapAt := if isStandby m && !d.confirmed then none else d.swapA.map (· + 2),
    want := isStandby m && d.want && d.swapA.isNone, cls := getF m PAIR_STAT_CLASS, clean := onF m PAIR_STAT_CLEAN, locks := lockWord m.locks,
    tx := 4 * m.cyc.now, echoTx := d.echo.1, echoRx := d.echo.2 }

/-- HEARTBEAT_SEND at cell time `t`: a standby confirms a swap that it knows of by the end of P3 of cycle a + 1 (R503). -/
def heartbeatSend (t : Nat) (m : Mach) : Mach :=
  if !isManager m || !domOn m dPAIR || !onF m PAIR_STAT_LINK_UP then m
  else
    let m := at' m t
    let ok := isStandby m && m.duo.swapA.any (fun a => decide (m.cyc.n < a + 1) || (decide (m.cyc.n = a + 1) && !inP4 m))
    let m := if ok then onDuo m (fun d => { d with confirmed := true }) else m
    duoSend m (.heartbeat (hbFrame m))

/-- HEARTBEAT_SEND. -/
def execHeartbeatSend (t : Nat) (s : State) : Out := done (heartbeatSend t) s

/-- Inputs that the partner has acknowledged take effect in their order (R494). -/
def ackInputs (ack : Nat) (m : Mach) : Mach :=
  let go := m.duo.ins.takeWhile (fun x => seqLe x.seq ack)
  let m := onDuo m (fun d => { d with ins := d.ins.drop go.length, acked := if seqLe d.acked ack then ack else d.acked })
  go.foldl takeInput m

/-- What a HEARTBEAT frame brings the computing manager: acknowledgements, the verdict of the comparison, the standby's locks, the
confirmation of a swap and its wish for one. -/
def heartbeatActive (f : HbFrame) (m : Mach) : Mach :=
  let m := ackInputs f.ack m
  let m := setB (setF m PAIR_STAT_CLASS 0 f.cls) PAIR_STAT_CLEAN 0 f.clean
  let m := onDuo m (fun d => { d with bulkLocks := f.locks, confirmed := d.confirmed || (d.swapA.any (fun a => f.swapAt == some (a + 2) && (decide (m.cyc.n ≤ a) || !inP4 m))) })
  let m := if getF m PAIR_STAT_ROLE = 3 ∧ (f.role = 2 ∨ f.role = 7) then setRole 1 m else m
  feedModel (if f.want then askSwap m else m)

/-- What a HEARTBEAT frame brings the standby: acknowledgements of what it forwarded before a swap; the active manager's frame without
the swap that its MIRROR frame carried ends it (R503). -/
def heartbeatStandby (f : HbFrame) (m : Mach) : Mach :=
  let m := if m.duo.ins = [] then m else ackInputs f.ack m
  if f.role = 1 ∧ m.duo.swapA.isSome ∧ f.swapAt = none then dropSwap m 4 else m

/-- HEARTBEAT_RECEIVE: the frame's first block arrived at `t4` in 1/4 ticks (R490, R491, R498, R510). -/
def heartbeatReceive (f : HbFrame) (t4 : Nat) (m : Mach) : Mach :=
  let m := at' m (t4 / 4)
  let m := setF m PAIR_STAT_PARTNER 0 f.role
  let rtt : Int := ((t4 : Int) - f.echoTx) - ((f.tx : Int) - f.echoRx)
  let m := onDuo m (fun d => { d with run := d.run + 1, echo := (f.tx, t4), dly := if f.echoTx = 0 then d.dly else roundDiv rtt 2 })
  let m := if 16 ≤ m.duo.run then flag m PAIR_STAT_PAIR_HB else m
  let r := getF m PAIR_STAT_ROLE
  if r = 1 ∨ r = 3 then heartbeatActive f m
  else if r = 2 then heartbeatStandby f m
  else if (r = 4 ∨ r = 6) ∧ (f.role = 1 ∨ f.role = 3) then enterResync 1 m
  else m

/-- HEARTBEAT_RECEIVE. -/
def execHeartbeatReceive (crcOk : Bool) (f : HbFrame) (t4 : Nat) (s : State) : Out :=
  done (fun m => if onF m PAIR_STAT_LINK_UP && !crcOk then onDuo (duoFrame crcOk id m) (fun d => { d with run := 0 })
    else duoFrame crcOk (heartbeatReceive f t4) m) s

/-! ## INPUT -/

/-- INPUT_RECEIVE (R494): the input waits for the snapshot that names it; one that has come before is only acknowledged again. -/
def inputReceive (seq : Nat) (x : PairInput) (m : Mach) : Mach :=
  if !(isStandby m || getF m PAIR_STAT_ROLE == 7) then m
  else if m.duo.inbox.any (fun i => i.seq == seq) || (m.duo.got != 0 && seqLe seq m.duo.got) then m
  else irq (onDuo m (fun d => { d with got := seq, inbox := d.inbox ++ [inputOf seq x] })) 250

/-- INPUT_RECEIVE. -/
def execInputReceive (crcOk : Bool) (seq : Nat) (x : PairInput) (s : State) : Out := done (duoFrame crcOk (inputReceive seq x)) s

/-- PAIR_RETRANSMIT_TIMEOUT: the INPUT or BULK frame of a SEQ is sent again (R490). -/
def retransmit (seq : Nat) (m : Mach) : Mach :=
  let again (x : Nat × Nat × DuoFrame) : Bool := x.1 == seq && (match x.2.2 with | .input _ => true | .bulk _ => true | _ => false)
  if !onF m PAIR_STAT_LINK_UP || (m.duo.acked != 0 && seqLe seq m.duo.acked) then m
  else match m.duo.tx.find? again with
    | some x => onDuo m (fun d => { d with tx := d.tx ++ [(seq, m.cyc.n % 2 ^ 32, x.2.2)] })
    | none => m

/-- PAIR_RETRANSMIT_TIMEOUT. -/
def execPairRetransmitTimeout (seq : Nat) (s : State) : Out := done (retransmit seq) s

/-- INPUT_MIRROR_TIMEOUT: the job in the INPUT frame of a SEQ has waited 100 µs for its acknowledgement (R494). -/
def inputMirrorTimeout (seq : Nat) (m : Mach) : Mach :=
  match m.duo.ins.find? (fun x => x.seq == seq && x.job.isSome) with
  | some x =>
    let m := onDuo m (fun d => { d with ins := d.ins.filter (fun y => y.seq != seq) })
    match x.job with
    | some j => settleDeletes (addCompl m (failCompl (jcompl j 0 0 none) E_PAIR_NOT_MIRRORED seq))
    | none => m
  | none => m

/-- INPUT_MIRROR_TIMEOUT. -/
def execInputMirrorTimeout (seq : Nat) (s : State) : Out := done (inputMirrorTimeout seq) s

/-! ## SNAPSHOT -/

/-- The compute snapshot (02 R63): the Runner takes its inputs. -/
def snapNow (m : Mach) : Mach :=
  let m := runSnapshot m
  { m with cyc := { m.cyc with snapped := true } }

/-- Whether the manager may take its snapshot from its partner now: P2 has begun and no snapshot has been taken. -/
def snapDue (m : Mach) : Bool := followsPartner m && !m.cyc.skip && !m.cyc.snapped && decide (m.cyc.start + nth (plan m) 1 ≤ m.cyc.now)

/-- The graph opens with the snapshot (18 R517). -/
def snapOpen (m : Mach) : Mach :=
  let m := snapNow m
  if m.ladle.tpl.isEmpty || m.ladle.opened then m else graphOpen m

/-- SNAPSHOT_RECEIVE (R495). -/
def snapshotReceive (f : SnapFrame) (m : Mach) : Mach :=
  if !snapDue m then m
  else
    let m := takeInbox m (fun x => seqLe x.seq f.seq)
    let m := onDuo m (fun d => { d with limits := some f.limits, mps := f.mps, samples := f.samples, baseY := f.y })
    let m := f.ovr.foldl takeOvr m
    let m := setB (setF (setEpoch m f.epoch) TIME_CTRL_SEL 0 f.dom) TIME_STAT_FIRST_LOCK 0 f.first
    snapOpen m

/-- SNAPSHOT_RECEIVE. -/
def execSnapshotReceive (crcOk : Bool) (f : SnapFrame) (s : State) : Out := done (duoFrame crcOk (snapshotReceive f)) s

/-- SNAPSHOT_TIMEOUT: 2 µs after the start of P2 no SNAPSHOT frame has come (R495). -/
def snapshotTimeout (m : Mach) : Mach :=
  if !followsPartner m || m.cyc.skip || m.cyc.snapped then m
  else
    let m := at' m (m.cyc.start + nth (plan m) 1 + 1600)
    let m := onDuo m (fun d => { d with limits := none, mps := [], samples := [] })
    let m := flag (incF m PAIR_MIRROR_MISS_CNT_CNT 0 1) PAIR_FLAGS_MIRROR_MISSING
    snapOpen (logNode m E_PAIR_MIRROR_MISSING 0)

/-- SNAPSHOT_TIMEOUT. -/
def execSnapshotTimeout (s : State) : Out := done snapshotTimeout s

/-! ## DIGEST, MIRROR, TIME, BULK -/

/-- DIGEST_RECEIVE (R501). -/
def digestReceive (crcs att : List Nat) (m : Mach) : Mach :=
  if getF m PAIR_STAT_ROLE ≠ 1 then m
  else
    let m := onDuo m (fun d => { d with digGot := true })
    let own := digestOf m
    if padTo 32 crcs = own.1 ∧ padTo 64 att = own.2 then m else flag m PAIR_FLAGS_DIGEST

/-- DIGEST_RECEIVE. -/
def execDigestReceive (crcOk : Bool) (crcs att : List Nat) (s : State) : Out := done (duoFrame crcOk (digestReceive crcs att)) s

/-- MIRROR_RECEIVE (R497, R499): a frame that comes before the manager's own commit waits for it. -/
def mirrorReceive (f : MirrorFrame) (m : Mach) : Mach :=
  if !followsPartner m ∨ f.cycle ≠ m.cyc.n % 2 ^ 32 ∨ m.duo.mirGot then m
  else
    let m := setF m PAIR_MIRROR_CYC_CYC 0 f.cycle
    if m.cyc.committed then takeMirror f m else onDuo m (fun d => { d with mir := some f, mirGot := true })

/-- MIRROR_RECEIVE. -/
def execMirrorReceive (crcOk : Bool) (f : MirrorFrame) (s : State) : Out := done (duoFrame crcOk (mirrorReceive f)) s

/-- The largest correction of cell time by rate, 0.01 % in steps of 2^-32 (R498). -/
def duoRateMax : Int := 429497

/-- TIME_RECEIVE: the active manager's cell time `t` at the frame's first block, which arrived at `arr4` in 1/4 ticks of own cell time.
The first one steps cell time, which R57 permits; then the rate alone corrects (R493, R498). -/
def timeReceive (t arr4 : Nat) (m : Mach) : Mach :=
  let r := getF m PAIR_STAT_ROLE
  if !(r == 2 || (r == 7 && decide (2 ≤ phaseOfResync m))) then m
  else
    let m := at' m (arr4 / 4)
    let dq : Int := 4 * (t : Int) + m.duo.dly - arr4
    if !m.duo.aligned then
      let m := onDuo m (fun d => { d with aligned := true })
      if anyEnabled m then m else stepTime m (max 0 ((m.cyc.now : Int) + roundDiv dq 4)).toNat
    else
      let y := m.duo.baseY + clampI (-duoRateMax) duoRateMax (roundDiv (dq * 2 ^ 32) (4 * cycLen m))
      { m with time := { m.time with yNext := some y } }

/-- TIME_RECEIVE. -/
def execTimeReceive (crcOk : Bool) (t arr4 : Nat) (s : State) : Out := done (duoFrame crcOk (timeReceive t arr4)) s

/-- The image that BULK pieces make up, as far as it is complete. -/
def bulkImage (d : DuoSt) : List Nat :=
  (List.range d.bulk.length).foldl (fun img _ => match d.bulk.find? (fun p => p.1 == img.length && !p.2.isEmpty) with | some p => img ++ p.2 | none => img) []

/-- The lock state has come: the model is loaded, unless it is locked already, its SCHEDULE tags must equal the active manager's, and
the locks are set (04 R126, R140; R511). -/
def takeLocks (l : Nat) (tags : List Nat) (m : Mach) : Mach :=
  let fail (m : Mach) (code : Nat) : Mach := if getF m PAIR_STAT_ROLE = 7 then resyncFail m code else m
  let img := bulkImage m.duo
  if !m.locks.cfg ∧ (img.length ≠ m.duo.bulkTotal ∨ img = []) then m
  else
    let r : Mach × Option Nat := if m.locks.cfg then (m, none) else loadImage (field img 20 4) img m
    let m := onDuo r.1 (fun d => { d with bulk := [], bulkTotal := 0 })
    match r.2 with
    | some code => fail m code
    | none =>
      if (List.range 7).any (fun i => getF m TWI_TAG_TAG i != nth tags i) then fail m E_TWI_SCHED_INVALID
      else
        let k := setLocks l m
        if k.2 = 0 then k.1 else fail k.1 k.2

/-- BULK_RECEIVE (R493, R511). -/
def bulkReceive (seq : Nat) (c : BulkContent) (m : Mach) : Mach :=
  if !(isStandby m || getF m PAIR_STAT_ROLE == 7) || (m.duo.got != 0 && seqLe seq m.duo.got) then m
  else
    let m := irq (onDuo m (fun d => { d with got := seq })) 250
    match c with
    | .image total off l => onDuo m (fun d => { d with bulkTotal := total, bulk := d.bulk.filter (fun p => p.1 != off) ++ [(off, l)] })
    | .locks l tags => takeLocks l tags m
    | .memory a l => wrBytes m a l 11
    | .plan g d => setGrp m g { grp m g with com := d, front := d, depth := 0 }
    | .input x => onDuo m (fun d => { d with inbox := d.inbox ++ [inputOf seq x] })
    | .acts l => { m with run := { m.run with acts := l.map (fun a =>
        { kind := a.kind, grp := a.grp, data := a.data, segs := a.segs, gear := a.gear, change := a.change }) } }
    | .state f => onDuo (adopt (m.cyc.n) f m) (fun d => { d with since6 := m.cyc.n })

/-- BULK_RECEIVE. -/
def execBulkReceive (crcOk : Bool) (seq : Nat) (c : BulkContent) (s : State) : Out := done (duoFrame crcOk (bulkReceive seq c)) s

/-! ## Resynchronisation (R511) -/

/-- Phase 4 begins: the links train, or the node listens on those that are trained. -/
def rejoin (m : Mach) : Mach :=
  if (twiPorts m).any (fun p => getF m TWI_PORT_STATE p == 3) then setTwiState m 2 else startTraining m

/-- The end of RESYNC: STANDBY whatever the rank (R510). -/
def resyncDone (m : Mach) : Mach :=
  let m := setRole 2 (setF m PAIR_STAT_RESYNC_PHASE 0 0)
  notice m E_PAIR_RESYNC_DONE (min (2 ^ 32 - 1) (m.cyc.n - m.duo.since))

/-- RESYNC_PHASE_DONE: the phase's work is complete, or has failed with a code. A phase whose work the state does not show done goes
on. -/
def resyncPhaseDone (ok : Bool) (code : Nat) (m : Mach) : Mach :=
  let next (m : Mach) (p : Nat) : Mach := setF m PAIR_STAT_RESYNC_PHASE 0 p
  if getF m PAIR_STAT_ROLE ≠ 7 then m
  else if !ok then resyncFail m code
  else match phaseOfResync m with
    | 1 => if onF m PAIR_STAT_PAIR_HB then next m 2 else m
    | 2 => if m.duo.aligned then next m 3 else m
    | 3 => if m.mould.loaded ∧ lockWord m.locks = 7 then rejoin (next m 4) else m
    | 4 => if twiState m = 7 ∨ twiState m = 6 then next (refreshOwned (setTwiState m 6)) 5 else m
    | 5 => if m.duo.since6 ≠ 0 then onDuo (next m 6) (fun d => { d with hist := [], divRun := 0 }) else m
    | 6 => if onF m PAIR_STAT_CLEAN then resyncDone m else m
    | _ => m

/-- RESYNC_PHASE_DONE. -/
def execResyncPhaseDone (ok : Bool) (code : Nat) (s : State) : Out := done (resyncPhaseDone ok code) s

/-! ## Swap (R502) -/

/-- PAIR_SWAP: the job completes with the swap. -/
def pairSwap (j : Job) (m : Mach) : JobRes :=
  match swapCause m with
  | some c => jobDetail m E_PAIR_SWAP_REFUSED c
  | none =>
    if swapBusy m then jobDetail m E_PAIR_SWAP_BUSY (getF m PAIR_SWAP_AT_S)
    else { m := takeSwap m (some (jcompl j 0 0 none)), later := true }

/-- PAIR_SWAP. -/
def execPairSwap (j : Job) (s : State) : Out := done (runJob 0x0E01 pairSwap j) s

/-- PAIR_STATUS (03 R103; entry 41). -/
def execPairStatus (j : Job) (s : State) : Out := done (runJob 0x0E02 freeOut j) s

/-- PAIR_CTRL_SWAP: a write of PAIR_CTRL with SWAP set. -/
def execPairCtrlSwap (s : State) : Out := done (domWrite 14 0x40 (fun m => if inPair m then askSwap m else m)) s

/-- SWAP_PERIOD_EXPIRY: a period that finds the conditions unmet is tried again every 64 cycles. -/
def swapPeriod (m : Mach) : Mach :=
  if !inPair m || getF m PAIR_CFG_SWAP_PER == 0 || !(getF m PAIR_STAT_ROLE == 1 || getF m PAIR_STAT_ROLE == 3) || swapBusy m then m
  else match swapCause m with
    | none => takeSwap m none
    | some c =>
      if m.duo.deferred.isSome then m else notice (onDuo m (fun d => { d with deferred := some m.cyc.n })) E_PAIR_SWAP_DEFERRED c

/-- SWAP_PERIOD_EXPIRY. -/
def execSwapPeriodExpiry (s : State) : Out := done swapPeriod s

/-! ## SerDes clocks (23 R633) -/

/-- SERDES_PLL_LOCK_LOSS: PLL 0 clocks the Twira ports, PLL 1 the pair-link lanes. Its ports go to electrical idle. -/
def serdesLoss (k : Nat) (m : Mach) : Mach :=
  match k with
  | 0 => if !onF m SYS_CLK_STAT_TWI_LOCK then m
         else (List.range 8).foldl (fun m p => setF (linkDown p m) TWI_PORT_STATE p 0) (logNode (setF m SYS_CLK_STAT_TWI_LOCK 0 0) E_SYS_CLOCK 1)
  | 1 => if !onF m SYS_CLK_STAT_PAIR_LOCK then m
         else hbLost (setF (setF (logNode (setF m SYS_CLK_STAT_PAIR_LOCK 0 0) E_SYS_CLOCK 2) PAIR_LINK_LOCK 0 0) PAIR_STAT_LINK_UP 0 0)
  | _ => m

/-- SERDES_PLL_LOCK_LOSS. -/
def execSerdesPllLockLoss (k : Nat) (s : State) : Out := done (serdesLoss k) s

/-- SERDES_PLL_RELOCK: the ports leave electrical idle and train again. -/
def serdesRelock (k : Nat) (m : Mach) : Mach :=
  match k with
  | 0 =>
    if onF m SYS_CLK_STAT_TWI_LOCK || m.sys.inReset then m
    else
      let m := flag m SYS_CLK_STAT_TWI_LOCK
      if m.twi.started && !m.sys.clamp then (twiPorts m).foldl (fun m p => setF m TWI_PORT_STATE p 1) m else m
  | 1 => if m.sys.inReset then m else flag m SYS_CLK_STAT_PAIR_LOCK
  | _ => m

/-- SERDES_PLL_RELOCK. -/
def execSerdesPllRelock (k : Nat) (s : State) : Out := done (serdesRelock k) s

end Sys2Proof.Machine
end

