-- ==== Sys2Proof/Machine/Cycle.lean ====
section
/-! DEFINITION. The cell cycle (02): its boundary, a change of its length, the phase starts, the Runner's snapshot and commit in their
places, and the telemetry of a cycle (03 R99, R100). -/

namespace Sys2Proof.Machine

/-! ## Telemetry (03 R98 to R100) -/

/-- The cell axes of an out-stream's mask, ascending. -/
def maskedAxes (m : Mach) (k : Nat) : List Nat := (List.range 8).flatMap (fun i => (bitsOf 32 (getF m HIF_TMASK_AXES (8 * k + i))).map (· + 32 * i))

/-- The axis record of a telemetry block; what stands for an axis without a record is open (entry 6). -/
def telemetryRecord (r : Mach × List (List Nat)) (a : AxisRec) : Mach × List (List Nat) :=
  match stateRecord r.1 a with
  | some l => (r.1, r.2 ++ [l])
  | none => let f := fresh r.1 256; (f.2, r.2 ++ [leBytes 32 f.1])

/-- TELEMETRY_BLOCK_WRITE: out-stream `k` in the cycle in progress. DESIGN CHOICE (entry 83): of the cycles, decimation takes those
whose number is a multiple of 2^DECIM; a mask bit of a cell axis without an AXES record gives no record and does not count. While the
function may issue no requests the cycle is dropped as well (entry 79). -/
def telemetryBlock (k : Nat) (m : Mach) : Mach :=
  let sel := k < 32 && onF m HIF_STR_CTRL_ENABLE k && getF m HIF_STR_CTRL_STATE k == 1 && isOut m k && getF m HIF_STR_CFG_SRC k == 0
    && m.cyc.n % 2 ^ getF m HIF_STR_AUX_DECIM k == 0
  if !sel then m
  else
    let axes := (maskedAxes m k).filterMap (axisRec m)
    let lost := sget m.hif.lostCycles k 0
    if ringFree m 3 k < 1 + axes.length ∨ busMaster m = false then
      let m := report (incF m HIF_STR_DROP_CNT k 1) E_HIF_STREAM_DROP 0 4 k 3
      { m with hif := { m.hif with lostCycles := sput m.hif.lostCycles k (min 0xFFFF (lost + 1)) 0 } }
    else
      let r := axes.foldl telemetryRecord (m, [])
      let head := leBytes 8 m.cyc.n ++ leBytes 2 axes.length ++ leBytes 2 lost ++ List.replicate 20 0
      let m := outBlock k (head :: r.2) m.cyc.n r.1
      { m with hif := { m.hif with lostCycles := sdel m.hif.lostCycles k } }

/-- TELEMETRY_BLOCK_WRITE. -/
def execTelemetryBlockWrite (k : Nat) (s : State) : Out := done (telemetryBlock k) s

/-! ## Cell time at the boundary (R56, R61, R678) -/

/-- The length code that takes effect at tick `t`: the code that LEN holds now, if the node may use it and `t` is a multiple of its
length. DESIGN CHOICE (entry 81): a usable code that was written before and has not come into force is lost where another code,
usable or not, is written over it. -/
def lenDue (m : Mach) (t : Nat) : Option Nat :=
  let code := getF m TIME_CYCLE_CFG_LEN
  if code ≠ m.cyc.lenCode ∧ lenUsable m code ∧ t % lenTicks code = 0 then some code else none

/-- The phase plan that governs from this boundary (R60, R61). -/
def takePlan (m : Mach) : Mach :=
  let p := planWritten m
  let c := onF m TIME_CYCLE_CFG_PLAN_CUSTOM && planShape (cycLen m) p
  setB { m with cyc := { m.cyc with custom := c, starts := if c then p else [] } } TIME_PHASE_STAT_CUSTOM 0 c

/-- A counted boundary of unit TIME (25 R671, R672): the counter steps by STEP, so that the cycle lasts L - STEP ticks; RATE is added
to y for the cycle. -/
def testTime (servo : Bool) (m : Mach) : Mach :=
  let base := if servo then rateY m else rateY m - m.test.rate
  let r := testEvent m uTIME
  let rate : Int := if r.1 then getS m TEST_TIME_RATE_RATE else 0
  let step : Int := if r.1 then getS m TEST_TIME_STEP_STEP else 0
  let m := setS { r.2 with test := { r.2.test with rate := rate } } TIME_RATE_Y 0 (base + rate)
  shiftIsland step { m with cyc := { m.cyc with now := ((m.cyc.now : Int) + step).toNat }, time := { m.time with yInt := m.time.yInt + step * 2 ^ 32 } }

/-- Cell time reaches the end of the cycle in progress: the next one begins, with the length and the plan that are due. -/
def nextCycle (m : Mach) : Mach :=
  let m := measureEnd m
  let t := nextStart m
  let ticks := t - m.cyc.start
  let servo := m.time.yNext.isSome
  let m := ladleBoundary m t
  let code := (lenDue m t).getD m.cyc.lenCode
  let m := { m with cyc := { m.cyc with now := max m.cyc.now t, n := t / lenTicks code, start := t, lenCode := code, skip := false,
                                        snapped := false, committed := false } }
  testTime servo (timeBoundary (takePlan m) ticks)

/-- CYCLE_LENGTH_CHANGE (R678): the boundary at which a new length is due; the other actions of t = 0 follow with CYCLE_BOUNDARY. -/
def cycleLengthChange (m : Mach) : Mach :=
  if m.sys.inReset || cycleStopped m || m.cyc.pre || (lenDue m (nextStart m)).isNone then m
  else let m := nextCycle m; { m with cyc := { m.cyc with pre := true } }

/-- CYCLE_LENGTH_CHANGE. -/
def execCycleLengthChange (s : State) : Out := done cycleLengthChange s

/-! ## Setpoints (R67, 01 R33, 09 R274) -/

/-- The SETPOINT slot that this worker stores. -/
def setpointSlot (m : Mach) : Option Nat := ((slotsNow m).find? (fun e => e.kind == 1 && storesSlot m e)).map slotHandle

/-- A slot takes a fresh entry, or counts a repetition of age `a`. -/
def takeEntry (m : Mach) (s age : Nat) (e : List Int) : Mach :=
  if age = 0 then setpoint m s (nthI e 0) (nthI e 1) (nthI e 2) (nthI e 3) else stalepoint m s age

/-- A worker takes its entries from the view of its SETPOINT slot. -/
def takeWorker (m : Mach) : Mach :=
  let m := viewKinds m [1] (m.cyc.n - 1)
  let ax := nodeAxes m (nodeId m)
  let p := (setpointSlot m).bind (fun h => viewPayload m h (24 * ax.length))
  ax.zipIdx.foldl (fun m a =>
    match p with
    | some (l, age) =>
      let e := l.drop (24 * a.2)
      takeEntry m a.1.slot age [sgn 64 (field e 0 8), sgn 32 (field e 8 4), sgn 32 (field e 12 4), sgn 32 (field e 16 4)]
    | none => takeEntry m a.1.slot ((axlSt m a.1.slot).age + 1) []) m

/-- The axes of a node with a Runner of its own take the entries committed for the cycle; the SETPOINT slots that a standby stores have their
view instant too (12 R359). -/
def takeLocal (m : Mach) : Mach :=
  let m := viewKinds m [1] (m.cyc.n - 1)
  let ok := m.run.stage == 4 && m.run.snap + 1 == m.cyc.n
  (nodeAxes m (nodeId m)).foldl (fun m a =>
    takeEntry m a.slot (if ok then 0 else (axlSt m a.slot).age + 1) (sget m.run.ents a.axis [])) m

/-- t = 0 for the axes. -/
def takeSetpoints (m : Mach) : Mach := if runsRunner m then takeLocal m else takeWorker m

/-! ## CYCLE_BOUNDARY (R62) -/

/-- What the blocks do at t = 0 of the cycle that has begun. The setpoints come first: they were received under the mode before a
switch of this instant (R68). The start of the cycle is an event of the Tap's term 16 (20 R571). -/
def boundaryActions (m : Mach) : Mach :=
  let m := takeSetpoints { m with sys := { m.sys with mute := m.sys.stopped.isSome } }
  let m := tapEvent m 16 m.cyc.start
  let m := duoBoundary (twiBoundary m)
  let m := (List.range 16).foldl (fun m s => staleAction (axlBoundary m s) s) m
  irq (testBoundary m) 16

/-- CYCLE_BOUNDARY. -/
def cycleBoundary (m : Mach) : Mach :=
  if m.sys.inReset || cycleStopped m then m
  else if m.cyc.pre then boundaryActions { m with cyc := { m.cyc with pre := false } }
  else boundaryActions (nextCycle m)

/-- CYCLE_BOUNDARY. -/
def execCycleBoundary (s : State) : Out := done cycleBoundary s

/-! ## Phase starts (R62) -/

/-- The start of phase `k`, 1 to 4: none in a truncated cycle (R57). -/
def phaseStart (k : Nat) (m : Mach) : Mach := irq (at' m (m.cyc.start + nth (plan m) (k - 1))) (16 + k)

/-- Whether the phases of the cycle in progress take place. -/
def phased (m : Mach) : Bool := !m.sys.inReset && !m.cyc.skip && !m.cyc.pre

/-- PHASE_P1_START. -/
def execPhaseP1Start (s : State) : Out := done (fun m => if phased m then phaseStart 1 m else m) s

/-- PHASE_P3_START. -/
def execPhaseP3Start (s : State) : Out := done (fun m => if phased m then pairP3 (phaseStart 3 m) else m) s

/-- PHASE_P4_START. -/
def execPhaseP4Start (s : State) : Out := done (fun m => if phased m then pairP4 (twiP4 (phaseStart 4 m)) else m) s

/-! ## The snapshot (R63, 15 R450, 17 R495, R506) -/

/-- Motion groups that REACTIONS maps to sets in one of the given states. -/
def groupsOfSets (m : Mach) (sts : List Nat) : List Nat :=
  bitsOf 32 ((((mirSets m.safe.mir).zip m.mould.setMap).filter (fun x => sts.contains x.1)).foldl (fun a x => a ||| x.2) 0)

/-- The active manager follows the set states in the mirror: RAMP for sets in SS1 or SS2, HOLD for sets in SOS. -/
def followSets (m : Mach) : Mach :=
  if !isActive m && isManager m then m
  else
    let r (cls : Nat) (l : List Nat) : List React := l.map (fun g => { cls := cls, kind := 2, id := g })
    { m with reacts := m.reacts ++ r 2 (groupsOfSets m [3, 4]) ++ r 1 (groupsOfSets m [2]) }

/-- RUNNER_SNAPSHOT: the start of P2. A manager that computes with its partner waits for the SNAPSHOT frame. -/
def runnerSnapshot (m : Mach) : Mach :=
  if !phased m || m.cyc.snapped then m
  else
    let m := phaseStart 2 m
    let m := if domOn m dCRUC then openWindow m else m
    let m := viewKinds (viewKinds m [0] m.cyc.n) [3] (m.cyc.n - 1)
    let m := pairEval m
    if !runsRunner m || !computesAlone m || !domOn m dRUN then m
    else
      let m := followSets (mirrorLatch 3 m)
      let t := snapNow m
      if inPair m && onF m PAIR_STAT_LINK_UP && pairRole m == 1 then duoSend t (.snapshot { snapFrame m (snapMasters t) with samples := t.run.mports }) else t

/-- RUNNER_SNAPSHOT. -/
def execRunnerSnapshot (s : State) : Out := done runnerSnapshot s

/-! ## The commit (R64, R65) -/

/-- What follows a commit just made: the interrupt of the commit and the pair. -/
def afterCommit (was : Bool) (m : Mach) : Mach := if was || !m.cyc.committed then m else pairCommit (irq m 109)

/-- RUNNER_COMMIT (07 R223, R224). -/
def runnerCommit (m : Mach) : Mach := afterCommit m.cyc.committed (runCommit m)

/-- RUNNER_COMMIT. -/
def execRunnerCommit (s : State) : Out := done runnerCommit s

/-- Whether items of the open graph instance are not complete. -/
def graphIncomplete (m : Mach) : Bool := m.ladle.isOpen && m.ladle.items.any (fun f => f.graph && tagOpen m f)

/-- COMMIT_DEADLINE: the Runner commits whatever the state of the graph, and the instance closes (18 R517). -/
def commitAtDeadline (m : Mach) : Mach :=
  if !phased m then m
  else
    let m := irq (at' m (commitDeadline m)) 22
    let due := !m.cyc.committed && m.run.stage != 0 && m.run.stage != 4
    let m := if due && graphIncomplete m then incF (flag m TIME_PHASE_STAT_COMMIT_LATE) TIME_COMMIT_CNT_COMMIT_LATE_CNT 0 1 else m
    graphClose (if due then afterCommit false (commitWork m) else m)

/-- COMMIT_DEADLINE. -/
def execCommitDeadline (s : State) : Out := done commitAtDeadline s

end Sys2Proof.Machine
end

