-- ==== Sys2Proof/Machine/Jtag.lean ====
section
/-! DEFINITION. The JTAG port (24 R660): BYPASS, IDCODE, SAMPLE/PRELOAD, EXTEST. -/

namespace Sys2Proof.Machine

/-- BYPASS: the one-bit register, captured as 0. -/
def execBypass (s : State) : Out := done (fun m => { m with jtag := { m.jtag with ins := .bypass, dr := 0 } }) s

/-- The identification code: version 1, part 0x0256, the code of the manufacturer, 1. -/
def jtagId : Nat := 0x10256001 + Config.manufacturer % 2 ^ 11 * 2

/-- IDCODE. -/
def execIdcode (s : State) : Out := done (fun m => { m with jtag := { m.jtag with ins := .idcode, dr := jtagId } }) s

/-- Whether a cell belongs to the boundary-scan register: balls of the groups G18, G33, OD33, S33. -/
def scanned (c : JPin) : Bool := decide (c.group ≤ 3)

/-- SAMPLE_PRELOAD: the boundary-scan register captures the levels of the balls; the cells keep what is shifted in. Cells of S33
balls only observe. -/
def samplePreload (l : List JPin) (m : Mach) : Mach :=
  { m with jtag := { ins := .samplePreload, dr := 0, cells := l.filter scanned } }

/-- SAMPLE_PRELOAD. -/
def execSamplePreload (l : List JPin) (s : State) : Out := done (samplePreload l) s

/-- EXTEST: the cells drive their balls, accepted only with the TEST_EN strap; without it the instruction acts as BYPASS. -/
def extest (l : List JPin) (m : Mach) : Mach :=
  if onF m SYS_STRAP_TEST_EN then { m with jtag := { ins := .extest, dr := 0, cells := l.filter scanned } }
  else { m with jtag := { m.jtag with ins := .bypass, dr := 0 } }

/-- EXTEST. -/
def execExtest (l : List JPin) (s : State) : Out := done (extest l) s

/-- The balls that JTAG drives: those of the boundary-scan cells in EXTEST, never one of S33. -/
def jtagDrives (m : Mach) : List JPin := if m.jtag.ins = .extest then m.jtag.cells.filter (fun c => c.group != 3) else []

end Sys2Proof.Machine
end

