-- ==== Sys2Proof/Machine/Flags.lean ====
section
/-! DEFINITION. Saturation of the pool cores' arithmetic and the flags that it sets (19 R539 to R544): OVF and AOVF of ST. Each
function answers a value and whether it has saturated. -/

namespace Sys2Proof.Machine

/-- Saturation to `w` bits, signed. -/
def satTo (w : Nat) (v : Int) : Int × Bool := (sat w v, satHit w v)

/-- A part of an accumulator: the 80-bit range (R541). -/
def sat80 (v : Int) : Int × Bool := satTo 80 v

/-- The move out of an accumulator part: shift right by SHIFT, convergent rounding, saturation to `w` bits (R542). -/
def moveOut (w sh : Nat) (v : Int) : Int × Bool := satTo w (roundShift v sh)

/-- The sums of products that a mode adds to RE and IM; none leaves the part unchanged (R540). -/
def macTerms (mode : Nat) (ar ai br bi : Int) : Option Int × Option Int :=
  match mode % 4 with
  | 0 => (some (ar * br - ai * bi), some (ar * bi + ai * br))
  | 1 => (some (ar * br + ai * bi), some (ai * br - ar * bi))
  | 2 => (some (ar * br), some (ai * bi))
  | _ => (some (ar * br), none)

/-- One part of a multiply-accumulate: CLR clears a part that the mode writes, NEG subtracts (R540, R541). -/
def macPart (neg clr : Bool) (old : Int) (t : Option Int) : Int × Bool :=
  match t with
  | none => (old, false)
  | some v => sat80 ((if clr then 0 else old) + (if neg then -v else v))

/-- Leading bits equal to bit 63, excluding it (R553). -/
def leadBits (x : Nat) : Nat :=
  let s := x.testBit 63
  (((List.range 63).reverse).takeWhile (fun i => x.testBit i == s)).length

end Sys2Proof.Machine
end

