-- ==== Sys2Proof/Machine/Operands.lean ====
section
/-! DEFINITION. Operands of the core instructions (19 R535, R545, R546): registers, pointers and accumulators, addresses, and the
checks and accesses of loads and stores. Core 32 is the supervisor. -/

namespace Sys2Proof.Machine

/-! ## Registers (R535) -/

/-- A general register; x0 reads 0. -/
def xr (k : CoreSt) (i : Nat) : BitVec 64 := if i % 32 = 0 then 0 else sget k.b.x (i % 32) 0

/-- Writes a general register; a write to x0 is discarded. -/
def xw (k : CoreSt) (i : Nat) (v : BitVec 64) : CoreSt :=
  if i % 32 = 0 then k else { k with b := { k.b with x := sput k.b.x (i % 32) v 0 } }

/-- Bits [31:0] of a general register. -/
def xr32 (k : CoreSt) (i : Nat) : BitVec 32 := (xr k i).setWidth 32

/-- A pointer. -/
def pr (k : CoreSt) (i : Nat) : BitVec 32 := sget k.b.p (i % 8) 0
/-- Writes a pointer. -/
def pw (k : CoreSt) (i : Nat) (v : BitVec 32) : CoreSt := { k with b := { k.b with p := sput k.b.p (i % 8) v 0 } }
/-- An offset register. -/
def mr (k : CoreSt) (i : Nat) : BitVec 32 := sget k.b.m (i % 8) 0
/-- Writes an offset register. -/
def mw (k : CoreSt) (i : Nat) (v : BitVec 32) : CoreSt := { k with b := { k.b with m := sput k.b.m (i % 8) v 0 } }
/-- SHIFT of a scale register. -/
def sr (k : CoreSt) (i : Nat) : BitVec 6 := sget k.b.s (i % 4) 0
/-- Writes a scale register. -/
def sw (k : CoreSt) (i : Nat) (v : BitVec 6) : CoreSt := { k with b := { k.b with s := sput k.b.s (i % 4) v 0 } }
/-- An accumulator. -/
def ar (k : CoreSt) (i : Nat) : AccV := sget k.acc (i % 4) {}
/-- Writes an accumulator. -/
def aw (k : CoreSt) (i : Nat) (v : AccV) : CoreSt := { k with acc := sput k.acc (i % 4) v {} }

/-- Sets ST.OVF where a result has saturated. -/
def ovfIf (k : CoreSt) (h : Bool) : CoreSt := if h then { k with b := { k.b with ovf := true } } else k
/-- Sets ST.AOVF where an accumulator has saturated. -/
def aovfIf (k : CoreSt) (h : Bool) : CoreSt := if h then { k with b := { k.b with aovf := true } } else k

/-- ST (R544): LOOP stands while a loop is active (R548). -/
def stOf (b : Bank) : Nat := b2n b.ovf + 2 * b2n b.aovf + 4 * b2n (b.lc != 0)

/-- Pointer k with PM post-modified by its offset register (R545). -/
def postMod (k : CoreSt) (i : Nat) (pm : Bool) : CoreSt := if pm then pw k i (pr k i + mr k i) else k

/-- Base plus sign-extended 16-bit offset (R545). -/
def baseOff (k : CoreSt) (rs1 imm : Nat) : Nat := (xr32 k rs1 + (BitVec.ofNat 16 imm).signExtend 32).toNat

/-- The real part of a complex value in a word of 64 bits. -/
def rePart (v : BitVec 64) : Int := sgn 32 (v.toNat % 2 ^ 32)
/-- The imaginary part. -/
def imPart (v : BitVec 64) : Int := sgn 32 (v.toNat / 2 ^ 32)

/-- Sign extension or zero extension of `n` bytes. -/
def extend (n : Nat) (u : Bool) (v : Nat) : BitVec 64 := if u then BitVec.ofNat 64 v else BitVec.ofInt 64 (sgn (8 * n) v)

/-! ## Permissions (R43, R533, R546, R554, R559) -/

/-- The base of a pool core's local memory. -/
def localBase (c : Nat) : Nat := 0x50000000 + 0x10000 * c

/-- Whether an address lies in the memory that the core reaches without the fabric. -/
def isLocal (c a : Nat) : Bool := if c = 32 then decide (a < 0x100000) else decide (localBase c ≤ a ∧ a < localBase c + 0x10000)

/-- Whether [a, a + n) lies inside a write window of a user kernel, itself inside the free area (R559). -/
def inWindows (m : Mach) (k : CoreSt) (a n : Nat) : Bool :=
  k.win.any (fun w => decide (w.1 ≤ a ∧ a + n ≤ w.1 + w.2 ∧ allocBase m 9 ≤ w.1 ∧ w.1 + w.2 ≤ 0x11800000))

/-- Whether a region of UREG with the permission bit holds [a, a + n) (R554). -/
def inUreg (m : Mach) (bit a n : Nat) : Bool :=
  (List.range 4).any (fun r =>
    let base := (sget m.sup.ureg (0x10 + 2 * r) 0).toNat
    let lim := (sget m.sup.ureg (0x11 + 2 * r) 0).toNat
    base.testBit bit && decide (base / 32 * 32 ≤ a ∧ a + n ≤ lim))

/-- Whether the map lets a core make an access (R43, R533, R559). -/
def mapAllows (m : Mach) (c : Nat) (k : CoreSt) (wr : Bool) (a n : Nat) : Bool :=
  let p := corePort c
  if c = 32 then (if wr then portMayWrite m 0 a else portReads 0 a)
  else match regionOf a with
  | .local_ j => j == c && decide ((if wr then 0xC000 else 0x8000) ≤ a % 0x10000)
  | _ => if wr then portMayWrite m p a && (!k.user || inWindows m k a n) else portReads p a

/-- A memory access: its value, or a fault with cause and address. -/
inductive MemRes where
  | ok (v : Nat) (m : Mach)
  | bad (cause addr : Nat) (m : Mach)
  deriving Repr

/-- An access that fails its check is not issued (R545, R546, R554): misaligned, or not permitted. The supervisor reports what the map
denies here, a pool core at its fault; `user` says that the regions of UREG bind. -/
def accessFault (m : Mach) (c : Nat) (k : CoreSt) (user wr : Bool) (a n : Nat) : Option (Nat × Mach) :=
  if a % n ≠ 0 then some (2, m)
  else if c = 32 && user && !inUreg m (if wr then 1 else 0) a n then some (3, m)
  else if mapAllows m c k wr a n then none
  else some (3, if c = 32 then accessDenied m 0 a else m)

/-- A load of `n` bytes (R545, R546). -/
def loadMem (c : Nat) (k : CoreSt) (user : Bool) (a n : Nat) (m : Mach) : MemRes :=
  match accessFault m c k user false a n with
  | some f => .bad f.1 a f.2
  | none =>
    if isLocal c a then
      let r := eccRead m a n (corePort c)
      if r.2 then .bad 4 a r.1 else .ok (rdVal r.1 a n) r.1
    else
      let r := busRead (corePort c) a n m
      if r.2.1 then .bad 4 a r.2.2 else .ok r.1 r.2.2

/-- A store of `n` bytes. It is performed at once: the store buffer empties before anything could tell (R546). -/
def storeMem (c : Nat) (k : CoreSt) (user : Bool) (a n v : Nat) (m : Mach) : MemRes :=
  match accessFault m c k user true a n with
  | some f => .bad f.1 a f.2
  | none => .ok 0 (if isLocal c a then wrBytes m a (leBytes n v) (corePort c) else busWrite (corePort c) a (leBytes n v) m)

end Sys2Proof.Machine
end

