-- ==== Sys2Proof/Machine/Supervisor.lean ====
section
/-! DEFINITION. How a core carries out one instruction (19 R533, R548, R549), and the supervisor's entries and returns: exceptions, the
normal and the fast class (19 R554 to R556, 21 R594 to R598). -/

namespace Sys2Proof.Machine

/-! ## Entries -/

/-- The state of the supervisor core. -/
def supCore (m : Mach) : CoreSt := coreSt m 32

/-- Changes the supervisor's privileged state. -/
def onSup (m : Mach) (f : SupSt → SupSt) : Mach := { m with sup := f m.sup }

/-- A double fault (19 R556): the supervisor stops. -/
def doubleFault (m : Mach) : Mach :=
  let m := flag (onSup m (fun s => { s with xcause := 8 })) CORE_FLAGS_DOUBLE
  supStop 4 E_CORE_DOUBLE_FAULT (8 + m.sup.nra.toNat / 16 * 16) m

/-- The eight values that a normal entry pushes, in order (19 R555). -/
def frameOf (m : Mach) (k : CoreSt) : List Nat :=
  [m.sup.nra.toNat, stOf k.b, (xr k 31).toNat, (xr k 4).toNat, (xr k 5).toNat, (xr k 6).toNat, (xr k 7).toNat, (xr k 8).toNat]

/-- Stores of 8 B to ascending addresses; none where one of them fails. -/
def pushAll (k : CoreSt) : Nat → List Nat → Mach → Option Mach
  | _, [], m => some m
  | a, v :: r, m => match storeMem 32 k false a 8 v m with | .ok _ m => pushAll k (a + 8) r m | .bad _ _ _ => none

/-- The normal-class entry sequence to a vector with a return address (21 R595): the frame at x30 - 64, then mode, mask and PC. A push
that fails is an exception during the sequence: a double fault. -/
def normalEnter (vec : Nat) (ret : BitVec 32) (m : Mach) : Mach :=
  let k := supCore m
  let m1 := onSup m (fun s => { s with nra := ret, pUser := s.userMode, userMode := false, inN := true })
  let sp := xr k 30 - 64
  match pushAll k (sp.toNat % 2 ^ 32) (frameOf m1 k) m1 with
  | none => doubleFault m1
  | some m2 => putCore m2 32 { xw k 30 sp with pc := m2.sup.xbase + BitVec.ofNat 32 vec }

/-- A synchronous exception of the supervisor (19 R556). -/
def supException (cause data : Nat) (m : Mach) : Mach :=
  if m.sup.inN || m.sup.inF then doubleFault m
  else normalEnter 0 (supCore m).pc (onSup m (fun s => { s with xcause := cause, xdata := BitVec.ofNat 32 data }))

/-- Exchanges the registers that the fast class banks (19 R555). -/
def bankIn (cur new : Bank) : Bank :=
  { x := cur.x.filter (fun e => decide (e.1 < 17)) ++ new.x.filter (fun e => decide (17 ≤ e.1)),
    p := new.p.filter (fun e => decide (e.1 < 4)) ++ cur.p.filter (fun e => decide (4 ≤ e.1)),
    m := new.m.filter (fun e => decide (e.1 < 4)) ++ cur.m.filter (fun e => decide (4 ≤ e.1)),
    s := new.s.filter (fun e => decide (e.1 < 1)) ++ cur.s.filter (fun e => decide (1 ≤ e.1)),
    ovf := new.ovf, aovf := new.aovf, lc := new.lc, ls := new.ls, le := new.le }

/-- The banked registers of a bank alone. -/
def bankOut (b : Bank) : Bank :=
  { x := b.x.filter (fun e => decide (17 ≤ e.1)), p := b.p.filter (fun e => decide (e.1 < 4)), m := b.m.filter (fun e => decide (e.1 < 4)),
    s := b.s.filter (fun e => decide (e.1 < 1)), ovf := b.ovf, aovf := b.aovf, lc := b.lc, ls := b.ls, le := b.le }

/-- Switches the supervisor between its banks. -/
def switchBank (m : Mach) : Mach :=
  let k := supCore m
  onSup (putCore m 32 { k with b := bankIn k.b m.sup.other }) (fun s => { s with other := bankOut k.b })

/-- Whether the supervisor executes. -/
def supRuns (m : Mach) : Bool := !m.sys.inReset && m.sys.stopped.isNone

/-- Whether a request line of either class is asserted. -/
def anyReq (m : Mach) : Bool := reqLine m 0 || reqLine m 1

/-- An IDLE in progress retires once a request line is asserted (21 R598). -/
def wake (m : Mach) : Mach :=
  let m := levels m
  if m.sup.idle && anyReq m then
    let k := supCore m
    putCore (onSup m (fun s => { s with idle := false })) 32 { k with pc := k.pc + 4 }
  else m

/-- NORMAL_ENTRY (21 R595): taken where the class requests, is enabled and no handler is active. -/
def normalEntry (m : Mach) : Mach :=
  if !supRuns m then m
  else
    let m := wake m
    if reqLine m 0 && m.sup.nie && !m.sup.inN && !m.sup.inF then normalEnter 0x100 (supCore m).pc m else m

/-- NORMAL_ENTRY. -/
def execNormalEntry (s : State) : Out := done normalEntry s

/-- FAST_ENTRY (21 R595, R596): the fast class preempts the normal one at once. -/
def fastEntry (m : Mach) : Mach :=
  if !supRuns m then m
  else
    let m := wake m
    if reqLine m 1 && m.sup.fie && !m.sup.inF then
      let ret := (supCore m).pc
      let m := switchBank (onSup m (fun s => { s with fra := ret, pUser := s.userMode, userMode := false, inF := true }))
      putCore m 32 { supCore m with pc := m.sup.xbase + 0x200 }
    else m

/-- FAST_ENTRY. -/
def execFastEntry (s : State) : Out := done fastEntry s

/-! ## One instruction -/

/-- What an instruction comes to: the next instruction follows, control goes elsewhere, a fault, or the core holds or ends here. -/
inductive Ex where
  | seq (k : CoreSt) (m : Mach)
  | jump (k : CoreSt) (m : Mach) (tgt : BitVec 32)
  | fault (cause data : Nat) (m : Mach)
  | stay (m : Mach)
  deriving Repr

/-- A fault of a pool core, or an exception of the supervisor (19 R549, R556). -/
def raise (c cause data : Nat) (m : Mach) : Mach := if c = 32 then supException cause data m else poolFault m c cause data

/-- Whether a core carries out instructions now: a pool core runs an item, the supervisor neither idles nor has stopped. -/
def coreRuns (m : Mach) (c : Nat) : Bool :=
  if c = 32 then supRuns m && !m.sup.idle else coreOn m c && (running m c).isSome

/-- Whether the core may fetch at its PC (19 R533, R549, R554). -/
def fetchOk (m : Mach) (c : Nat) (k : CoreSt) : Bool :=
  let a := k.pc.toNat
  if c = 32 then decide (a + 4 ≤ 0x100000) && (!m.sup.userMode || inUreg m 2 a 4)
  else decide (localBase c ≤ a ∧ a + 4 ≤ localBase c + 0x8000)

/-- The next instruction in order; at the end of an active loop's body the next pass begins (19 R548). LS is the first instruction of
the body, LE the address after its last one. -/
def advance (k : CoreSt) : CoreSt :=
  let n := k.pc + 4
  if k.b.lc ≠ 0 ∧ n = k.b.le then
    let lc := k.b.lc - 1
    { k with pc := if lc = 0 then n else k.b.ls, b := { k.b with lc := lc } }
  else { k with pc := n }

/-- A core carries out one instruction. A taken branch or jump ends the loop (19 R548); a target that is not aligned to 4 B is a fault
(19 R549). -/
def runCore (c : Nat) (f : CoreSt → Mach → Ex) (m : Mach) : Mach :=
  let m := if c = 32 ∧ supRuns m = true then wake m else m
  if !coreRuns m c then m
  else
    let k := coreSt m c
    if k.pc.toNat % 4 ≠ 0 then raise c 2 k.pc.toNat m
    else if !fetchOk m c k then raise c 3 k.pc.toNat m
    else match f k m with
    | .seq k' m' => putCore m' c (advance k')
    | .jump k' m' tgt =>
      if tgt.toNat % 4 ≠ 0 then raise c 2 tgt.toNat m else putCore m' c { k' with pc := tgt, b := { k'.b with lc := 0 } }
    | .fault cause data m' => raise c cause data m'
    | .stay m' => m'

/-- A privileged instruction (19 R552, R554): on a pool core and in user mode it is illegal; `w` is its word. -/
def privCore (c w : Nat) (f : CoreSt → Mach → Ex) (m : Mach) : Mach :=
  runCore c (fun k m => if c ≠ 32 || m.sup.userMode then .fault 1 w m else f k m) m

/-! ## Words of the instructions that can be illegal (19 R551, R552) -/

/-- LOOP rs1, N. -/
def loopWord (rs1 n : Nat) : Nat := 0x1E * 2 ^ 26 + (n + 63) % 64 * 32 + rs1 % 32
/-- RDSR and WRSR. -/
def sregWord (rd rs1 num wr : Nat) : Nat := 0x39 * 2 ^ 26 + (wr * 4096 + num % 4096) * 1024 + rs1 % 32 * 32 + rd % 32
/-- The PRIV group. -/
def privWord (fn rs1 : Nat) : Nat := 0x3A * 2 ^ 26 + fn * 2 ^ 15 + rs1 % 32 * 32

/-! ## System registers (19 R554) -/

/-- CSTAT. -/
def cstat (s : SupSt) : Nat := b2n s.userMode + 2 * b2n s.pUser + 4 * b2n s.nie + 8 * b2n s.fie + 16 * b2n s.inN + 32 * b2n s.inF

/-- The value of a system register; none for a number that is not in the table. -/
def sysReg (m : Mach) (k : CoreSt) (n : Nat) : Option Nat :=
  match n with
  | 0 => some (cstat m.sup) | 1 => some m.sup.xcause | 2 => some m.sup.xdata.toNat | 3 => some m.sup.xbase.toNat
  | 4 => some m.sup.nra.toNat | 5 => some m.sup.fra.toNat
  | 0x20 => some k.b.lc.toNat | 0x21 => some k.b.ls.toNat | 0x22 => some k.b.le.toNat
  | _ => if 0x10 ≤ n ∧ n < 0x18 then some (sget m.sup.ureg n 0).toNat else none

/-- A write of a system register; none for one that cannot be written. -/
def setSysReg (m : Mach) (k : CoreSt) (n : Nat) (v : BitVec 32) : Option (CoreSt × Mach) :=
  let x := v.toNat
  match n with
  | 0 => some (k, onSup m (fun s => { s with userMode := x.testBit 0, pUser := x.testBit 1, nie := x.testBit 2, fie := x.testBit 3, inN := x.testBit 4, inF := x.testBit 5 }))
  | 3 => some (k, onSup m (fun s => { s with xbase := BitVec.ofNat 32 (x / 64 * 64) }))
  | 4 => some (k, onSup m (fun s => { s with nra := v }))
  | 5 => some (k, onSup m (fun s => { s with fra := v }))
  | 0x20 => some ({ k with b := { k.b with lc := v } }, m)
  | 0x21 => some ({ k with b := { k.b with ls := v } }, m)
  | 0x22 => some ({ k with b := { k.b with le := v } }, m)
  | _ =>
    if 0x10 ≤ n ∧ n < 0x18 then
      let w := BitVec.ofNat 32 (x / 32 * 32 + (if n % 2 = 0 then x % 8 else 0))
      some (k, onSup m (fun s => { s with ureg := sput s.ureg n w 0 }))
    else none

/-- RDSR. -/
def execRdsr (c rd num : Nat) (s : State) : Out :=
  done (privCore c (sregWord rd 0 num 0) (fun k m => match sysReg m k (num % 4096) with
    | some v => .seq (xw k rd (BitVec.ofNat 64 v)) m
    | none => .fault 1 (sregWord rd 0 num 0) m)) s

/-- WRSR: XCAUSE and XDATA are not writable. -/
def execWrsr (c rs1 num : Nat) (s : State) : Out :=
  done (privCore c (sregWord 0 rs1 num 1) (fun k m => match setSysReg m k (num % 4096) (xr32 k rs1) with
    | some r => .seq r.1 r.2
    | none => .fault 1 (sregWord 0 rs1 num 1) m)) s

/-! ## Returns (21 R595) -/

/-- Loads of 8 B from ascending addresses: the values, or the fault of the first that fails. -/
def popAll (k : CoreSt) : Nat → Nat → List Nat → Mach → MemRes × List Nat
  | 0, _, l, m => (.ok 0 m, l.reverse)
  | n + 1, a, l, m => match loadMem 32 k false a 8 m with
    | .ok v m => popAll k n (a + 8) (v :: l) m
    | .bad c d m => (.bad c d m, [])

/-- RETN: pops the frame, raises x30 by 64, returns to NRA in the mode before the entry. -/
def retn (k : CoreSt) (m : Mach) : Ex :=
  let sp := xr k 30
  match popAll k 8 (sp.toNat % 2 ^ 32) [] m with
  | (.bad c d m, _) => .fault c d m
  | (.ok _ m, l) =>
    let regs := [31, 4, 5, 6, 7, 8].zipIdx
    let k := regs.foldl (fun k r => xw k r.1 (BitVec.ofNat 64 (nth l (2 + r.2)))) k
    let k := xw k 30 (sp + 64)
    let st := nth l 1
    let ret := BitVec.ofNat 32 (nth l 0)
    .stay (putCore (onSup m (fun s => { s with nra := ret, userMode := s.pUser, inN := false })) 32
      { k with pc := ret, b := { k.b with ovf := st.testBit 0, aovf := st.testBit 1 } })

/-- RETN. -/
def execRetn (c : Nat) (s : State) : Out := done (privCore c (privWord 0 0) retn) s

/-- RETF: switches back to the bank before the entry and returns to FRA. -/
def retf (_ : CoreSt) (m : Mach) : Ex :=
  let m := if m.sup.inF then switchBank m else m
  let m := onSup m (fun s => { s with userMode := s.pUser, inF := false })
  .stay (putCore m 32 { supCore m with pc := m.sup.fra })

/-- RETF. -/
def execRetf (c : Nat) (s : State) : Out := done (privCore c (privWord 1 0) retf) s

/-- IDLE: retires with a request line asserted, else the supervisor stalls (21 R598). -/
def execIdleR (c : Nat) (s : State) : Out :=
  done (privCore c (privWord 2 0) (fun k m => if anyReq m then .seq k m else .stay (onSup m (fun s => { s with idle := true })))) s

/-- ENTU: user mode at the address in rs1. -/
def execEntu (c rs1 : Nat) (s : State) : Out :=
  done (privCore c (privWord 3 rs1) (fun k m => .jump k (onSup m (fun s => { s with userMode := true })) (xr32 k rs1))) s

end Sys2Proof.Machine
end

