-- ==== Sys2Proof/Machine/Pool.lean ====
section
/-! DEFINITION. The instructions of the cores (19 R539 to R553), each on the core named, 32 for the supervisor. Operand fields are the
numbers that the instruction word holds. The supervisor's privileged instructions stand in Machine/Supervisor.lean. -/

namespace Sys2Proof.Machine

/-! ## Integer group (R539, R553) -/

/-- An instruction that writes a function of two registers to rd. -/
def binOp (c rd rs1 rs2 : Nat) (f : BitVec 64 → BitVec 64 → BitVec 64) (m : Mach) : Mach :=
  runCore c (fun k m => .seq (xw k rd (f (xr k rs1) (xr k rs2))) m) m

/-- A saturating one: the exact result in the signed 64-bit range, with OVF. -/
def satOp (c rd rs1 rs2 : Nat) (f : Int → Int → Int) (m : Mach) : Mach :=
  runCore c (fun k m =>
    let r := satTo 64 (f (xr k rs1).toInt (xr k rs2).toInt)
    .seq (ovfIf (xw k rd (BitVec.ofInt 64 r.1)) r.2) m) m

/-- A 32-bit result, sign-extended. -/
def word32 (v : BitVec 64) : BitVec 64 := (v.setWidth 32).signExtend 64
/-- 1 or 0. -/
def bool64 (b : Bool) : BitVec 64 := if b then 1 else 0
/-- The shift amount in bits [5:0]. -/
def amount (v : BitVec 64) : Nat := v.toNat % 64

/-- ADD. -/
def execAddR (c rd rs1 rs2 : Nat) (s : State) : Out :=
  done (binOp c rd rs1 rs2 (fun a b => a + b)) s

/-- SUB. -/
def execSubR (c rd rs1 rs2 : Nat) (s : State) : Out :=
  done (binOp c rd rs1 rs2 (fun a b => a - b)) s

/-- AND. -/
def execAndR (c rd rs1 rs2 : Nat) (s : State) : Out :=
  done (binOp c rd rs1 rs2 (fun a b => a &&& b)) s

/-- OR. -/
def execOrR (c rd rs1 rs2 : Nat) (s : State) : Out :=
  done (binOp c rd rs1 rs2 (fun a b => a ||| b)) s

/-- XOR. -/
def execXorR (c rd rs1 rs2 : Nat) (s : State) : Out :=
  done (binOp c rd rs1 rs2 (fun a b => a ^^^ b)) s

/-- SHL. -/
def execShl (c rd rs1 rs2 : Nat) (s : State) : Out :=
  done (binOp c rd rs1 rs2 (fun a b => a <<< amount b)) s

/-- SHR. -/
def execShr (c rd rs1 rs2 : Nat) (s : State) : Out :=
  done (binOp c rd rs1 rs2 (fun a b => a >>> amount b)) s

/-- SHA. -/
def execSha (c rd rs1 rs2 : Nat) (s : State) : Out :=
  done (binOp c rd rs1 rs2 (fun a b => a.sshiftRight (amount b))) s

/-- LT. -/
def execLt (c rd rs1 rs2 : Nat) (s : State) : Out :=
  done (binOp c rd rs1 rs2 (fun a b => bool64 (a.slt b))) s

/-- LTU. -/
def execLtu (c rd rs1 rs2 : Nat) (s : State) : Out :=
  done (binOp c rd rs1 rs2 (fun a b => bool64 (a.ult b))) s

/-- MUL. -/
def execMul (c rd rs1 rs2 : Nat) (s : State) : Out :=
  done (binOp c rd rs1 rs2 (fun a b => a * b)) s

/-- MULH. -/
def execMulh (c rd rs1 rs2 : Nat) (s : State) : Out :=
  done (binOp c rd rs1 rs2 (fun a b => BitVec.ofInt 64 (a.toInt * b.toInt / 2 ^ 64))) s

/-- ADDS. -/
def execAdds (c rd rs1 rs2 : Nat) (s : State) : Out :=
  done (satOp c rd rs1 rs2 (· + ·)) s

/-- SUBS. -/
def execSubs (c rd rs1 rs2 : Nat) (s : State) : Out :=
  done (satOp c rd rs1 rs2 (· - ·)) s

/-- MIN. -/
def execMinR (c rd rs1 rs2 : Nat) (s : State) : Out :=
  done (binOp c rd rs1 rs2 (fun a b => if a.slt b then a else b)) s

/-- MAX. -/
def execMaxR (c rd rs1 rs2 : Nat) (s : State) : Out :=
  done (binOp c rd rs1 rs2 (fun a b => if a.slt b then b else a)) s

/-- CLS. -/
def execCls (c rd rs1 : Nat) (s : State) : Out :=
  done (binOp c rd rs1 0 (fun a _ => BitVec.ofNat 64 (leadBits a.toNat))) s

/-- ADD.W. -/
def execAddW (c rd rs1 rs2 : Nat) (s : State) : Out :=
  done (binOp c rd rs1 rs2 (fun a b => word32 (a + b))) s

/-- SUB.W. -/
def execSubW (c rd rs1 rs2 : Nat) (s : State) : Out :=
  done (binOp c rd rs1 rs2 (fun a b => word32 (a - b))) s

/-! ## Constants (R552) -/

/-- The 16-bit constant, sign-extended. -/
def kSign (x : Nat) : BitVec 64 := (BitVec.ofNat 16 x).signExtend 64
/-- The 16-bit constant, zero-extended. -/
def kZero (x : Nat) : BitVec 64 := BitVec.ofNat 64 (x % 65536)

/-- ADDK. -/
def execAddk (c rd rs1 k : Nat) (s : State) : Out :=
  done (binOp c rd rs1 0 (fun a _ => a + kSign k)) s

/-- ANDK. -/
def execAndk (c rd rs1 k : Nat) (s : State) : Out :=
  done (binOp c rd rs1 0 (fun a _ => a &&& kZero k)) s

/-- ORK. -/
def execOrk (c rd rs1 k : Nat) (s : State) : Out :=
  done (binOp c rd rs1 0 (fun a _ => a ||| kZero k)) s

/-- XORK. -/
def execXork (c rd rs1 k : Nat) (s : State) : Out :=
  done (binOp c rd rs1 0 (fun a _ => a ^^^ kZero k)) s

/-- SHLK. -/
def execShlk (c rd rs1 k : Nat) (s : State) : Out :=
  done (binOp c rd rs1 0 (fun a _ => a <<< (k % 64))) s

/-- SHRK. -/
def execShrk (c rd rs1 k : Nat) (s : State) : Out :=
  done (binOp c rd rs1 0 (fun a _ => a >>> (k % 64))) s

/-- SHAK. -/
def execShak (c rd rs1 k : Nat) (s : State) : Out :=
  done (binOp c rd rs1 0 (fun a _ => a.sshiftRight (k % 64))) s

/-- HIK. -/
def execHik (c rd k : Nat) (s : State) : Out :=
  done (binOp c rd 0 0 (fun _ _ => kSign k <<< 16)) s

/-- LTK. -/
def execLtk (c rd rs1 k : Nat) (s : State) : Out :=
  done (binOp c rd rs1 0 (fun a _ => bool64 (a.slt (kSign k)))) s

/-! ## Loads and stores (R545, R546) -/

/-- A load of `n` bytes to rd; `after` is what the addressing mode does to the core. -/
def load (c rd n : Nat) (u : Bool) (addr : CoreSt → Nat) (after : CoreSt → CoreSt) (m : Mach) : Mach :=
  runCore c (fun k m => match loadMem c k m.sup.userMode (addr k) n m with
    | .ok v m => .seq (xw (after k) rd (extend n u v)) m
    | .bad x a m => .fault x a m) m

/-- A store of the low `n` bytes of a register. -/
def store (c src n : Nat) (addr : CoreSt → Nat) (after : CoreSt → CoreSt) (m : Mach) : Mach :=
  runCore c (fun k m => match storeMem c k m.sup.userMode (addr k) n ((xr k src).toNat % 2 ^ (8 * n)) m with
    | .ok _ m => .seq (after k) m
    | .bad x a m => .fault x a m) m

/-- LD.B. -/
def execLdB (c rd rs1 k : Nat) (s : State) : Out :=
  done (load c rd 1 false (fun q => baseOff q rs1 k) id) s

/-- LD.H. -/
def execLdH (c rd rs1 k : Nat) (s : State) : Out :=
  done (load c rd 2 false (fun q => baseOff q rs1 k) id) s

/-- LD.W. -/
def execLdW (c rd rs1 k : Nat) (s : State) : Out :=
  done (load c rd 4 false (fun q => baseOff q rs1 k) id) s

/-- LD.D. -/
def execLdD (c rd rs1 k : Nat) (s : State) : Out :=
  done (load c rd 8 false (fun q => baseOff q rs1 k) id) s

/-- LD.BU. -/
def execLdBu (c rd rs1 k : Nat) (s : State) : Out :=
  done (load c rd 1 true (fun q => baseOff q rs1 k) id) s

/-- LD.HU. -/
def execLdHu (c rd rs1 k : Nat) (s : State) : Out :=
  done (load c rd 2 true (fun q => baseOff q rs1 k) id) s

/-- LD.WU. -/
def execLdWu (c rd rs1 k : Nat) (s : State) : Out :=
  done (load c rd 4 true (fun q => baseOff q rs1 k) id) s

/-- ST.B. -/
def execStB (c rs2 rs1 k : Nat) (s : State) : Out :=
  done (store c rs2 1 (fun q => baseOff q rs1 k) id) s

/-- ST.H. -/
def execStH (c rs2 rs1 k : Nat) (s : State) : Out :=
  done (store c rs2 2 (fun q => baseOff q rs1 k) id) s

/-- ST.W. -/
def execStW (c rs2 rs1 k : Nat) (s : State) : Out :=
  done (store c rs2 4 (fun q => baseOff q rs1 k) id) s

/-- ST.D. -/
def execStD (c rs2 rs1 k : Nat) (s : State) : Out :=
  done (store c rs2 8 (fun q => baseOff q rs1 k) id) s

/-- PLD: SZ gives the size, U the extension. -/
def execPld (c rd p : Nat) (pm : Bool) (sz : Nat) (u : Bool) (s : State) : Out :=
  done (load c rd (2 ^ (sz % 4)) u (fun q => (pr q p).toNat) (fun q => postMod q p pm)) s

/-- PST. -/
def execPst (c src p : Nat) (pm : Bool) (sz : Nat) (s : State) : Out :=
  done (store c src (2 ^ (sz % 4)) (fun q => (pr q p).toNat) (fun q => postMod q p pm)) s

/-! ## Pointers, offsets, scales (R543, R553) -/

/-- An instruction that changes registers of its core only. -/
def regOp (c : Nat) (f : CoreSt → CoreSt) (m : Mach) : Mach := runCore c (fun k m => .seq (f k) m) m

/-- PSET. -/
def execPset (c k rs1 : Nat) (s : State) : Out :=
  done (regOp c (fun q => pw q k (xr32 q rs1))) s

/-- PGET. -/
def execPget (c rd k : Nat) (s : State) : Out :=
  done (regOp c (fun q => xw q rd ((pr q k).setWidth 64))) s

/-- MSET. -/
def execMset (c k rs1 : Nat) (s : State) : Out :=
  done (regOp c (fun q => mw q k (xr32 q rs1))) s

/-- MGET. -/
def execMget (c rd k : Nat) (s : State) : Out :=
  done (regOp c (fun q => xw q rd ((mr q k).signExtend 64))) s

/-- SSET: modulo 64. -/
def execSset (c k rs1 : Nat) (s : State) : Out :=
  done (regOp c (fun q => sw q k ((xr q rs1).setWidth 6))) s

/-- SSET immediate. -/
def execSsetImmediate (c k sh : Nat) (s : State) : Out :=
  done (regOp c (fun q => sw q k (BitVec.ofNat 6 sh))) s

/-- SGET. -/
def execSget (c rd k : Nat) (s : State) : Out :=
  done (regOp c (fun q => xw q rd ((sr q k).setWidth 64))) s

/-- PADD. -/
def execPadd (c k rs1 : Nat) (s : State) : Out :=
  done (regOp c (fun q => pw q k (pr q k + xr32 q rs1))) s

/-! ## Control transfers (R548, R552) -/

/-- The target of an offset in words: 16 bits for a branch, 26 for a call. -/
def target (k : CoreSt) (w off : Nat) : BitVec 32 := k.pc + (BitVec.ofNat w off).signExtend 32 * 4

/-- A compare and branch. -/
def branch (c rs1 rs2 off : Nat) (t : BitVec 64 → BitVec 64 → Bool) (m : Mach) : Mach :=
  runCore c (fun k m => if t (xr k rs1) (xr k rs2) then .jump k m (target k 16 off) else .seq k m) m

/-- BR.EQ. -/
def execBrEq (c rs1 rs2 off : Nat) (s : State) : Out :=
  done (branch c rs1 rs2 off (fun a b => a == b)) s

/-- BR.NE. -/
def execBrNe (c rs1 rs2 off : Nat) (s : State) : Out :=
  done (branch c rs1 rs2 off (fun a b => a != b)) s

/-- BR.LT. -/
def execBrLt (c rs1 rs2 off : Nat) (s : State) : Out :=
  done (branch c rs1 rs2 off (fun a b => a.slt b)) s

/-- BR.GE. -/
def execBrGe (c rs1 rs2 off : Nat) (s : State) : Out :=
  done (branch c rs1 rs2 off (fun a b => b.sle a)) s

/-- BR.LTU. -/
def execBrLtu (c rs1 rs2 off : Nat) (s : State) : Out :=
  done (branch c rs1 rs2 off (fun a b => a.ult b)) s

/-- BR.GEU. -/
def execBrGeu (c rs1 rs2 off : Nat) (s : State) : Out :=
  done (branch c rs1 rs2 off (fun a b => b.ule a)) s

/-- Whether the PC lies in the body of an active loop. -/
def inLoop (k : CoreSt) : Bool := k.b.lc != 0 && k.b.ls.ule k.pc && k.pc.ult k.b.le

/-- LOOP rs1, N (R548): N is taken in [1, 64]. -/
def loopIns (c rs1 n : Nat) (k : CoreSt) (m : Mach) : Ex :=
  let len := (n + 63) % 64 + 1
  if inLoop k then .fault 1 (if c = 32 then loopWord rs1 n else 0) m
  else if xr32 k rs1 = 0 then .stay (putCore m c { k with pc := k.pc + 4 + BitVec.ofNat 32 (4 * len) })
  else
    let b := { k.b with lc := xr32 k rs1, ls := k.pc + 4, le := k.pc + 4 + BitVec.ofNat 32 (4 * len) }
    .stay (putCore m c { k with pc := k.pc + 4, b := b })

/-- LOOP. -/
def execLoopR (c rs1 n : Nat) (s : State) : Out := done (runCore c (loopIns c rs1 n)) s

/-- CALL. -/
def execCallR (c off : Nat) (s : State) : Out :=
  done (runCore c (fun k m => .jump (xw k 31 ((k.pc + 4).setWidth 64)) m (target k 26 off))) s

/-- CALLR: bits [1:0] of the target must be 0. -/
def execCallr (c rd rs1 k : Nat) (s : State) : Out :=
  done (runCore c (fun q m => .jump (xw q rd ((q.pc + 4).setWidth 64)) m (BitVec.ofNat 32 (baseOff q rs1 k)))) s

/-! ## Multiply-accumulate (R540, R541) -/

/-- The accumulator after a multiply-accumulate of two complex values. -/
def macAcc (k : CoreSt) (a mode : Nat) (neg clr : Bool) (x y : BitVec 64) : CoreSt :=
  let t := macTerms mode (rePart x) (imPart x) (rePart y) (imPart y)
  let old := ar k a
  let re := macPart neg clr old.re t.1
  let im := macPart neg clr old.im t.2
  aovfIf (aw k a { re := re.1, im := im.1 }) (re.2 || im.2)

/-- CMAC. -/
def execCmac (c a mode : Nat) (neg clr : Bool) (rs1 rs2 : Nat) (s : State) : Out :=
  done (regOp c (fun q => macAcc q a mode neg clr (xr q rs1) (xr q rs2))) s

/-- A CMAC.P operand: 8 B of the core's own data memory (R546); an address elsewhere is a fault with cause ACCESS. -/
def ownData (c : Nat) (k : CoreSt) (user : Bool) (a : Nat) (m : Mach) : MemRes :=
  if a % 8 ≠ 0 then .bad 2 a m
  else if isLocal c a then loadMem c k user a 8 m
  else .bad 3 a (if c = 32 then accessDenied m 0 a else m)

/-- CMAC.P: the pointers are post-modified after both reads, pa first (R545, R552). -/
def cmacP (c a mode : Nat) (neg clr : Bool) (pa pb : Nat) (pma pmb : Bool) (k : CoreSt) (m : Mach) : Ex :=
  match ownData c k m.sup.userMode (pr k pa).toNat m with
  | .bad x d m => .fault x d m
  | .ok u m => match ownData c k m.sup.userMode (pr k pb).toNat m with
    | .bad x d m => .fault x d m
    | .ok v m => .seq (macAcc (postMod (postMod k pa pma) pb pmb) a mode neg clr (BitVec.ofNat 64 u) (BitVec.ofNat 64 v)) m

/-- CMAC.P. -/
def execCmacP (c a mode : Nat) (neg clr : Bool) (pa pb : Nat) (pma pmb : Bool) (s : State) : Out :=
  done (runCore c (cmacP c a mode neg clr pa pb pma pmb)) s

/-- An accumulator computed per part, saturating with AOVF. -/
def accOp (c a : Nat) (f : CoreSt → AccV) (m : Mach) : Mach :=
  regOp c (fun q =>
    let v := f q
    let re := sat80 v.re
    let im := sat80 v.im
    aovfIf (aw q a { re := re.1, im := im.1 }) (re.2 || im.2)) m

/-- ACLR. -/
def execAclr (c a : Nat) (s : State) : Out := done (regOp c (fun q => aw q a {})) s
/-- AADD. -/
def execAadd (c a b : Nat) (s : State) : Out :=
  done (accOp c a (fun q => { re := (ar q a).re + (ar q b).re, im := (ar q a).im + (ar q b).im })) s
/-- ASUB. -/
def execAsub (c a b : Nat) (s : State) : Out :=
  done (accOp c a (fun q => { re := (ar q a).re - (ar q b).re, im := (ar q a).im - (ar q b).im })) s
/-- ANEG. -/
def execAneg (c a : Nat) (s : State) : Out := done (accOp c a (fun q => { re := -(ar q a).re, im := -(ar q a).im })) s
/-- ASWAP. -/
def execAswap (c a : Nat) (s : State) : Out := done (regOp c (fun q => aw q a { re := (ar q a).im, im := (ar q a).re })) s

/-- The result that PART selects (R542); PART 3 is none of the three, and the move is illegal. -/
def mvaVal (k : CoreSt) (a sc part : Nat) : BitVec 64 × Bool :=
  let sh := (sr k sc).toNat
  match part with
  | 0 =>
    let re := moveOut 32 sh (ar k a).re
    let im := moveOut 32 sh (ar k a).im
    (BitVec.ofNat 64 (unsg 32 re.1 + 2 ^ 32 * unsg 32 im.1), re.2 || im.2)
  | 1 => let re := moveOut 64 sh (ar k a).re; (BitVec.ofInt 64 re.1, re.2)
  | _ => let im := moveOut 64 sh (ar k a).im; (BitVec.ofInt 64 im.1, im.2)

/-- The word of MVA (R551, R552). -/
def mvaWord (rd a sc part : Nat) : Nat := 0x2C * 2 ^ 26 + part * 512 + sc % 4 * 128 + a % 4 * 32 + rd % 32

/-- MVA. -/
def execMva (c rd a sc part : Nat) (s : State) : Out :=
  done (runCore c (fun k m =>
    if 3 ≤ part then .fault 1 (if c = 32 then mvaWord rd a sc part else 0) m
    else let v := mvaVal k a sc part; .seq (ovfIf (xw k rd v.1) v.2) m)) s

/-- ALD. -/
def execAld (c a sc rd : Nat) (s : State) : Out :=
  done (accOp c a (fun q =>
    let w : Int := 2 ^ (sr q sc).toNat
    { re := rePart (xr q rd) * w, im := imPart (xr q rd) * w })) s

/-! ## Ladle instructions (R550) -/

/-- Whether the tag of the item that runs on the core has lost its instance (18 R517). -/
def tagGone (m : Mach) (c : Nat) : Bool := match running m c with | some (f, _) => !tagOpen m f | none => false

/-- A Ladle instruction: its action gives the answer in rd. -/
def ladleOp (c rd : Nat) (f : CoreSt → Mach → Nat × Mach) (m : Mach) : Mach :=
  runCore c (fun k m => let r := f k m; .seq (xw k rd (BitVec.ofNat 64 r.1)) r.2) m

/-- LSIG. -/
def lsig (c rs1 rs2 : Nat) (k : CoreSt) (m : Mach) : Nat × Mach :=
  let i := (xr k rs1).toNat
  if 4096 ≤ i then (1, m)
  else if !graphCounter m i && !feature m 1 then (2, m)
  else if tagGone m c then (0, m)
  else (0, decAll m (List.replicate ((xr k rs2).toNat % 65536) i))

/-- LSIG. -/
def execLsig (c rd rs1 rs2 : Nat) (s : State) : Out := done (ladleOp c rd (lsig c rs1 rs2)) s

/-- LSET. -/
def lset (c rs1 rs2 : Nat) (k : CoreSt) (m : Mach) : Nat × Mach :=
  let i := (xr k rs1).toNat
  if 4096 ≤ i then (1, m)
  else if !feature m 1 then (2, m)
  else if graphCounter m i then (3, m)
  else if tagGone m c then (0, m)
  else (0, setCounter m i ((xr k rs2).toNat % 65536))

/-- LSET. -/
def execLset (c rd rs1 rs2 : Nat) (s : State) : Out := done (ladleOp c rd (lset c rs1 rs2)) s

/-- LCNT. -/
def execLcnt (c rd rs1 : Nat) (s : State) : Out :=
  done (ladleOp c rd (fun k m => let i := (xr k rs1).toNat; (if 4096 ≤ i then 0xFFFFFFFF else counter m i, m))) s

/-- LSUB: the descriptor must lie in the core's scratch, aligned to 32 B. -/
def lsub (c rs1 : Nat) (k : CoreSt) (m : Mach) : Nat × Mach :=
  let a := (xr k rs1).toNat
  if c = 32 ∨ a % 32 ≠ 0 ∨ a < localBase c + 0xC000 ∨ localBase c + 0x10000 ≤ a then (8, m)
  else
    let d := rdBytes m a 32
    let r := submit m d (itemOf d []) false k.user
    (r.2, r.1)

/-- LSUB. -/
def execLsub (c rd rs1 : Nat) (s : State) : Out := done (ladleOp c rd (lsub c rs1)) s

/-- LSUBT: template entries from NTPL_G on, each with the EXT entries after it. -/
def lsubt (rs1 rs2 : Nat) (k : CoreSt) (m : Mach) : Nat × Mach :=
  let i := (xr k rs1).toNat
  let raw := graphRaw m.mould.image
  if raw.length ≤ i ∨ i < field (sec m.mould.image 9) 4 4 then (8, m)
  else
    let d := raw.getD i []
    let ext := (raw.drop (i + 1)).takeWhile (fun e => field e 0 1 == 4)
    let r := submit m d { itemOf d ext with arg := (xr32 k rs2).toNat } true k.user
    (r.2, r.1)

/-- LSUBT. -/
def execLsubt (c rd rs1 rs2 : Nat) (s : State) : Out := done (ladleOp c rd (lsubt rs1 rs2)) s

/-- DONE at cell time `t` (R537). The supervisor runs no item: nothing ends. -/
def execDoneR (c t : Nat) (s : State) : Out :=
  done (runCore c (fun k m => if c = 32 then .seq k m else .stay (coreEnd (at' m t) c 1))) s

/-! ## System group (R544, R553) -/

/-- DRAIN: every store has been performed. -/
def execDrain (c : Nat) (s : State) : Out := done (regOp c id) s
/-- STRD. -/
def execStrd (c rd : Nat) (s : State) : Out := done (regOp c (fun q => xw q rd (BitVec.ofNat 64 (stOf q.b)))) s
/-- STCLR. -/
def execStclr (c : Nat) (s : State) : Out := done (regOp c (fun q => { q with b := { q.b with ovf := false, aovf := false } })) s

/-- The core cycle of an item's first instruction, or of the supervisor's reset; two core cycles are one tick. -/
def coreZero (m : Mach) (c : Nat) : Nat :=
  if c = 32 then m.sup.t0 else match running m c with | some (_, since) => 2 * since | none => 0

/-- GETCYC at core cycle `t`, counted as cell time in half ticks. -/
def execGetcyc (c rd t : Nat) (s : State) : Out :=
  done (runCore c (fun k m => .seq (xw k rd (BitVec.ofNat 64 (t - coreZero m c))) (at' m (t / 2)))) s
/-- GETTIME at cell time `t`. -/
def execGettime (c rd t : Nat) (s : State) : Out :=
  done (runCore c (fun k m => let m := at' m t; .seq (xw k rd (BitVec.ofNat 64 m.cyc.now)) m)) s
/-- GETCORE. -/
def execGetcore (c rd : Nat) (s : State) : Out :=
  done (regOp c (fun q => xw q rd (BitVec.ofNat 64 (if c = 32 then 0x40 else c)))) s
/-- TRAP. -/
def execTrapR (c : Nat) (s : State) : Out := done (runCore c (fun k m => .fault 6 k.pc.toNat m)) s

end Sys2Proof.Machine
end

