-- ==== Sys2Proof/Machine/TapSample.lean ====
section
/-! DEFINITION. The probe values of a Tap sample (20 R563) and the command TAP_SAMPLE. -/

namespace Sys2Proof.Machine

/-- The gate outputs of a pair at tick `t`: high side, low side (10 R308, R316, R325, R328). The dead time after a fall or a cut may end in
the next period; a chopped high side that has reached its limit is off. -/
def pairGates (m : Mach) (s x t : Nat) : Bool × Bool :=
  let p := pairSt (if isChop m s then chopSettle m s x t else m) s x
  if m.sys.clamp || !gatesOn m s || (pwrSt m s).arming.isSome || (isDc m s && x == 2) then (false, false)
  else if p.offAt.any (fun o => decide (o ≤ t)) then (false, false)
  else if isChop m s then
    (p.high && decide (p.lastTr + p.apR ≤ t), !p.high && decide (p.lowFrom ≤ t))
  else match p.pulse with
    | none => (false, decide (p.lowFrom ≤ t))
    | some (r, f) =>
      let e := match p.lowAt with | some l => min l f | none => f
      if e ≤ r then (false, decide (p.lowFrom ≤ t)) else (decide (r + p.apR ≤ t ∧ t < e), decide (p.lowFrom ≤ t ∧ t < r ∨ e + p.apF ≤ t))

/-- The gate outputs of a slot: A high, A low, B high, B low, C high, C low from bit 0. -/
def gateBits (m : Mach) (s t : Nat) : Nat :=
  (List.range 3).foldl (fun v x => v + b2n (pairGates m s x t).1 * 4 ^ x + b2n (pairGates m s x t).2 * 4 ^ x * 2) 0

/-- The raw level of a trip input at tick `t`. -/
def tripRaw (m : Mach) (s i t : Nat) : Bool :=
  let a := sget (pwrSt m s).trips i (0, 0)
  decide (a.1 ≤ t ∧ t < a.2) != (tripCfg m s i).2.2.2.1

/-- Whether output `o` is inside one of its pulses at tick `t`. -/
def inPulse (m : Mach) (o t : Nat) : Bool := m.out.pulses.any (fun p => p.1 == o && decide (p.2.1 ≤ t ∧ t < p.2.2))

/-- The source value of a probe at tick `t`, 32 bits (R563). -/
def sourceValue (m : Mach) (src inst t : Nat) : Nat :=
  let a := axlSt m inst
  match src with
  | 0x01 => getF m AXL_PERR_VAL inst
  | 0x02 => getF m AXL_VCMD_VAL inst
  | 0x03 => getF m AXL_VINT_VAL inst
  | 0x04 => getF m AXL_IQREF_VAL inst
  | 0x05 => getF m AXL_IQ_VAL inst
  | 0x06 => getF m AXL_ID_VAL inst
  | 0x07 => getF m AXL_VQ_VAL inst
  | 0x08 => getF m AXL_VD_VAL inst
  | 0x09 => getF m AXL_THETA_THETA inst
  | 0x0A => unsg 32 a.u
  | 0x0B => unsg 32 a.pRef
  | 0x0C => unsg 32 a.vMeas
  | 0x10 => getF m PWR_CUR_A_I inst
  | 0x11 => getF m PWR_CUR_B_I inst
  | 0x12 => getF m PWR_CUR_C_I inst
  | 0x13 => gateBits m inst t
  | 0x14 => b2n (tripRaw m inst 0 t) + 2 * b2n (tripRaw m inst 1 t) + 4 * b2n (sget m.lims inst {}).rawP + 8 * b2n (sget m.lims inst {}).rawN
  | 0x20 => getF m ENC_POS_LO_C inst
  | 0x21 => getF m ENC_POS_HI_C inst
  | 0x22 => getF m ENC_SPD_V inst
  | 0x23 => regWord m 9 (0x1020 + 0x80 * inst)
  | 0x30 => t % 2 ^ 32
  | 0x31 => t / 2 ^ 32 % 2 ^ 32
  | 0x32 => (List.range 2).foldl (fun v l => v + b2n (!(inPulse m (8 + l) t || m.busLow.testBit l)) * 2 ^ l) 0
      + (List.range 8).foldl (fun v o => v + b2n (restHigh m o t != inPulse m o t) * 2 ^ (8 + o)) 0
  | 0x33 => m.cyc.n % 2 ^ 32
  | 0x38 => getF m TAP_USER_V 0
  | 0x39 => getF m TAP_USER_V 1
  | 0x3A => getF m TAP_USER_V 2
  | 0x3B => getF m TAP_USER_V 3
  | _ => 0

/-- The values of the enabled probes at tick `t`, in probe order. -/
def tapValues (m : Mach) (t : Nat) : List Nat :=
  (tapProbes m).map (fun p =>
    bits (sourceValue m (getF m TAP_PROBE_SRC p) (getF m TAP_PROBE_INST p) t) (getF m TAP_PROBE_LSB p) (probeWidth m p))

/-- Whether the sample clock has a sample event at tick `t` (R565). A clock that follows the passes or triggers of a slot has one wherever
the command comes (entry 70). -/
def sampleDue (m : Mach) (t : Nat) : Bool :=
  match getF m TAP_SAMPLE_CLK with
  | 0 => t % getF m TAP_SAMPLE_INTERVAL == 0
  | 4 => t == m.cyc.start
  | _ => true

/-- TAP_SAMPLE: a sample event of the sample clock at tick `t` (R565 to R573). -/
def tapSample (t : Nat) (m : Mach) : Mach :=
  let m := at' m t
  if sampleDue m t then takeSample m t (tapValues m t) else m

/-- TAP_SAMPLE. -/
def execTapSample (t : Nat) (s : State) : Out := done (tapSample t) s

end Sys2Proof.Machine
end

