-- ==== Sys2Proof/Machine/Dispatch.lean ====
section
/-! DEFINITION. The dispatch of a command to its meaning: one arm for each constructor. -/

namespace Sys2Proof.Machine

/-- The effect of a command on everything but the queue. -/
def exec (i : Instr) (s : State) : Host.Outcome State Fault Refusal :=
  match i with
  | .getInfo j => Sys2Proof.Machine.execGetInfo j s
  | .setLock j => Sys2Proof.Machine.execSetLock j s
  | .getFaultLog j => Sys2Proof.Machine.execGetFaultLog j s
  | .resetBlock j => Sys2Proof.Machine.execResetBlock j s
  | .modelLoad j => Sys2Proof.Machine.execModelLoad j s
  | .modelRead j => Sys2Proof.Machine.execModelRead j s
  | .createRing j => Sys2Proof.Machine.execCreateRing j s
  | .deleteRing j => Sys2Proof.Machine.execDeleteRing j s
  | .routeEvents j => Sys2Proof.Machine.execRouteEvents j s
  | .setCoalesce j => Sys2Proof.Machine.execSetCoalesce j s
  | .setDmaWindow j => Sys2Proof.Machine.execSetDmaWindow j s
  | .ladleStats j => Sys2Proof.Machine.execLadleStats j s
  | .crucStatus j => Sys2Proof.Machine.execCrucStatus j s
  | .movePtp j => Sys2Proof.Machine.execMovePtp j s
  | .movePath j => Sys2Proof.Machine.execMovePath j s
  | .moveSpline j => Sys2Proof.Machine.execMoveSpline j s
  | .streamBind j => Sys2Proof.Machine.execStreamBind j s
  | .feedHold j => Sys2Proof.Machine.execFeedHold j s
  | .resumeJob j => Sys2Proof.Machine.execResumeJob j s
  | .overrideJob j => Sys2Proof.Machine.execOverrideJob j s
  | .stopJob j => Sys2Proof.Machine.execStopJob j s
  | .gearSet j => Sys2Proof.Machine.execGearSet j s
  | .gearChangeAt j => Sys2Proof.Machine.execGearChangeAt j s
  | .sharedStart j => Sys2Proof.Machine.execSharedStart j s
  | .axisEnable j => Sys2Proof.Machine.execAxisEnable j s
  | .axisDisable j => Sys2Proof.Machine.execAxisDisable j s
  | .tuneInject j => Sys2Proof.Machine.execTuneInject j s
  | .netStart j => Sys2Proof.Machine.execNetStart j s
  | .modeSwitch j => Sys2Proof.Machine.execModeSwitch j s
  | .netStatus j => Sys2Proof.Machine.execNetStatus j s
  | .timedOut j => Sys2Proof.Machine.execTimedOut j s
  | .domainSelect j => Sys2Proof.Machine.execDomainSelect j s
  | .tapArm j => Sys2Proof.Machine.execTapArm j s
  | .tapStop j => Sys2Proof.Machine.execTapStop j s
  | .safeConfig j => Sys2Proof.Machine.execSafeConfig j s
  | .safeMirrorRead j => Sys2Proof.Machine.execSafeMirrorRead j s
  | .pairSwap j => Sys2Proof.Machine.execPairSwap j s
  | .pairStatus j => Sys2Proof.Machine.execPairStatus j s
  | .memErrLog j => Sys2Proof.Machine.execMemErrLog j s
  | .testPerturb j => Sys2Proof.Machine.execTestPerturb j s
  | .descriptorFetch rings => Sys2Proof.Machine.execDescriptorFetch rings s
  | .completionEntryWrite cq => Sys2Proof.Machine.execCompletionEntryWrite cq s
  | .eventEntryWrite k => Sys2Proof.Machine.execEventEntryWrite k s
  | .commandProducerDoorbell k v => Sys2Proof.Machine.execCommandProducerDoorbell k v s
  | .completionConsumerDoorbell k v => Sys2Proof.Machine.execCompletionConsumerDoorbell k v s
  | .eventConsumerDoorbell k v => Sys2Proof.Machine.execEventConsumerDoorbell k v s
  | .streamProducerDoorbell k v => Sys2Proof.Machine.execStreamProducerDoorbell k v s
  | .streamConsumerDoorbell k v => Sys2Proof.Machine.execStreamConsumerDoorbell k v s
  | .streamBlockFetch k els => Sys2Proof.Machine.execStreamBlockFetch k els s
  | .telemetryBlockWrite k => Sys2Proof.Machine.execTelemetryBlockWrite k s
  | .coalesceTimerExpiry v => Sys2Proof.Machine.execCoalesceTimerExpiry v s
  | .msixTableWrite v d x => Sys2Proof.Machine.execMsixTableWrite v d x s
  | .featureNegotiationGo x => Sys2Proof.Machine.execFeatureNegotiationGo x s
  | .featureNegotiationDone => Sys2Proof.Machine.execFeatureNegotiationDone s
  | .perst => Sys2Proof.Machine.execPerst s
  | .hotReset => Sys2Proof.Machine.execHotReset s
  | .functionLevelReset => Sys2Proof.Machine.execFunctionLevelReset s
  | .pcieLinkLoss => Sys2Proof.Machine.execPcieLinkLoss s
  | .pcieLinkUp link width => Sys2Proof.Machine.execPcieLinkUp link width s
  | .ringEnable kind k => Sys2Proof.Machine.execRingEnable kind k s
  | .ringDisable kind k => Sys2Proof.Machine.execRingDisable kind k s
  | .bar4Write off l => Sys2Proof.Machine.execBar4Write off l s
  | .registerWrite via addr x => Sys2Proof.Machine.execRegisterWrite via addr x s
  | .registerLoRead via addr => Sys2Proof.Machine.execRegisterLoRead via addr s
  | .cfgLockSet => Sys2Proof.Machine.execCfgLockSet s
  | .limitLockSet => Sys2Proof.Machine.execLimitLockSet s
  | .schedLockSet => Sys2Proof.Machine.execSchedLockSet s
  | .cycleCfgWrite x => Sys2Proof.Machine.execCycleCfgWrite x s
  | .cycleLengthChange => Sys2Proof.Machine.execCycleLengthChange s
  | .cycleBoundary => Sys2Proof.Machine.execCycleBoundary s
  | .phaseP1Start => Sys2Proof.Machine.execPhaseP1Start s
  | .runnerSnapshot => Sys2Proof.Machine.execRunnerSnapshot s
  | .graphOpen => Sys2Proof.Machine.execGraphOpen s
  | .runnerTargets => Sys2Proof.Machine.execRunnerTargets s
  | .runnerPrep => Sys2Proof.Machine.execRunnerPrep s
  | .runnerCommit => Sys2Proof.Machine.execRunnerCommit s
  | .refillComplete g => Sys2Proof.Machine.execRefillComplete g s
  | .streamUnderrunStop g => Sys2Proof.Machine.execStreamUnderrunStop g s
  | .gearMasterLost g => Sys2Proof.Machine.execGearMasterLost g s
  | .crucibleDeadline stops => Sys2Proof.Machine.execCrucibleDeadline stops s
  | .commitDeadline => Sys2Proof.Machine.execCommitDeadline s
  | .phaseP3Start => Sys2Proof.Machine.execPhaseP3Start s
  | .phaseP4Start => Sys2Proof.Machine.execPhaseP4Start s
  | .crucibleProgramStart k t => Sys2Proof.Machine.execCrucibleProgramStart k t s
  | .crucibleProgramEnd k t x => Sys2Proof.Machine.execCrucibleProgramEnd k t x s
  | .crucibleProgramAbort k t why => Sys2Proof.Machine.execCrucibleProgramAbort k t why s
  | .itemDispatch t => Sys2Proof.Machine.execItemDispatch t s
  | .runLimitExpiry c => Sys2Proof.Machine.execRunLimitExpiry c s
  | .ladleSubmit port l => Sys2Proof.Machine.execLadleSubmit port l s
  | .counterSet v => Sys2Proof.Machine.execCounterSet v s
  | .counterDecrement n => Sys2Proof.Machine.execCounterDecrement n s
  | .addR c rd rs1 rs2 => Sys2Proof.Machine.execAddR c rd rs1 rs2 s
  | .subR c rd rs1 rs2 => Sys2Proof.Machine.execSubR c rd rs1 rs2 s
  | .andR c rd rs1 rs2 => Sys2Proof.Machine.execAndR c rd rs1 rs2 s
  | .orR c rd rs1 rs2 => Sys2Proof.Machine.execOrR c rd rs1 rs2 s
  | .xorR c rd rs1 rs2 => Sys2Proof.Machine.execXorR c rd rs1 rs2 s
  | .shl c rd rs1 rs2 => Sys2Proof.Machine.execShl c rd rs1 rs2 s
  | .shr c rd rs1 rs2 => Sys2Proof.Machine.execShr c rd rs1 rs2 s
  | .sha c rd rs1 rs2 => Sys2Proof.Machine.execSha c rd rs1 rs2 s
  | .lt c rd rs1 rs2 => Sys2Proof.Machine.execLt c rd rs1 rs2 s
  | .ltu c rd rs1 rs2 => Sys2Proof.Machine.execLtu c rd rs1 rs2 s
  | .mul c rd rs1 rs2 => Sys2Proof.Machine.execMul c rd rs1 rs2 s
  | .mulh c rd rs1 rs2 => Sys2Proof.Machine.execMulh c rd rs1 rs2 s
  | .adds c rd rs1 rs2 => Sys2Proof.Machine.execAdds c rd rs1 rs2 s
  | .subs c rd rs1 rs2 => Sys2Proof.Machine.execSubs c rd rs1 rs2 s
  | .minR c rd rs1 rs2 => Sys2Proof.Machine.execMinR c rd rs1 rs2 s
  | .maxR c rd rs1 rs2 => Sys2Proof.Machine.execMaxR c rd rs1 rs2 s
  | .cls c rd rs1 => Sys2Proof.Machine.execCls c rd rs1 s
  | .addW c rd rs1 rs2 => Sys2Proof.Machine.execAddW c rd rs1 rs2 s
  | .subW c rd rs1 rs2 => Sys2Proof.Machine.execSubW c rd rs1 rs2 s
  | .addk c rd rs1 k => Sys2Proof.Machine.execAddk c rd rs1 k s
  | .andk c rd rs1 k => Sys2Proof.Machine.execAndk c rd rs1 k s
  | .ork c rd rs1 k => Sys2Proof.Machine.execOrk c rd rs1 k s
  | .xork c rd rs1 k => Sys2Proof.Machine.execXork c rd rs1 k s
  | .shlk c rd rs1 k => Sys2Proof.Machine.execShlk c rd rs1 k s
  | .shrk c rd rs1 k => Sys2Proof.Machine.execShrk c rd rs1 k s
  | .shak c rd rs1 k => Sys2Proof.Machine.execShak c rd rs1 k s
  | .hik c rd k => Sys2Proof.Machine.execHik c rd k s
  | .ltk c rd rs1 k => Sys2Proof.Machine.execLtk c rd rs1 k s
  | .ldB c rd rs1 k => Sys2Proof.Machine.execLdB c rd rs1 k s
  | .ldH c rd rs1 k => Sys2Proof.Machine.execLdH c rd rs1 k s
  | .ldW c rd rs1 k => Sys2Proof.Machine.execLdW c rd rs1 k s
  | .ldD c rd rs1 k => Sys2Proof.Machine.execLdD c rd rs1 k s
  | .ldBu c rd rs1 k => Sys2Proof.Machine.execLdBu c rd rs1 k s
  | .ldHu c rd rs1 k => Sys2Proof.Machine.execLdHu c rd rs1 k s
  | .ldWu c rd rs1 k => Sys2Proof.Machine.execLdWu c rd rs1 k s
  | .stB c rs2 rs1 k => Sys2Proof.Machine.execStB c rs2 rs1 k s
  | .stH c rs2 rs1 k => Sys2Proof.Machine.execStH c rs2 rs1 k s
  | .stW c rs2 rs1 k => Sys2Proof.Machine.execStW c rs2 rs1 k s
  | .stD c rs2 rs1 k => Sys2Proof.Machine.execStD c rs2 rs1 k s
  | .pld c rd p pm sz u => Sys2Proof.Machine.execPld c rd p pm sz u s
  | .pst c src p pm sz => Sys2Proof.Machine.execPst c src p pm sz s
  | .pset c k rs1 => Sys2Proof.Machine.execPset c k rs1 s
  | .pget c rd k => Sys2Proof.Machine.execPget c rd k s
  | .mset c k rs1 => Sys2Proof.Machine.execMset c k rs1 s
  | .mget c rd k => Sys2Proof.Machine.execMget c rd k s
  | .sset c k rs1 => Sys2Proof.Machine.execSset c k rs1 s
  | .ssetImmediate c k sh => Sys2Proof.Machine.execSsetImmediate c k sh s
  | .sget c rd k => Sys2Proof.Machine.execSget c rd k s
  | .padd c k rs1 => Sys2Proof.Machine.execPadd c k rs1 s
  | .brEq c rs1 rs2 off => Sys2Proof.Machine.execBrEq c rs1 rs2 off s
  | .brNe c rs1 rs2 off => Sys2Proof.Machine.execBrNe c rs1 rs2 off s
  | .brLt c rs1 rs2 off => Sys2Proof.Machine.execBrLt c rs1 rs2 off s
  | .brGe c rs1 rs2 off => Sys2Proof.Machine.execBrGe c rs1 rs2 off s
  | .brLtu c rs1 rs2 off => Sys2Proof.Machine.execBrLtu c rs1 rs2 off s
  | .brGeu c rs1 rs2 off => Sys2Proof.Machine.execBrGeu c rs1 rs2 off s
  | .loopR c rs1 n => Sys2Proof.Machine.execLoopR c rs1 n s
  | .callR c off => Sys2Proof.Machine.execCallR c off s
  | .callr c rd rs1 k => Sys2Proof.Machine.execCallr c rd rs1 k s
  | .cmac c a mode neg clr rs1 rs2 => Sys2Proof.Machine.execCmac c a mode neg clr rs1 rs2 s
  | .cmacP c a mode neg clr pa pb pma pmb => Sys2Proof.Machine.execCmacP c a mode neg clr pa pb pma pmb s
  | .aclr c a => Sys2Proof.Machine.execAclr c a s
  | .aadd c a b => Sys2Proof.Machine.execAadd c a b s
  | .asub c a b => Sys2Proof.Machine.execAsub c a b s
  | .aneg c a => Sys2Proof.Machine.execAneg c a s
  | .aswap c a => Sys2Proof.Machine.execAswap c a s
  | .mva c rd a sc part => Sys2Proof.Machine.execMva c rd a sc part s
  | .ald c a sc rd => Sys2Proof.Machine.execAld c a sc rd s
  | .lsig c rd rs1 rs2 => Sys2Proof.Machine.execLsig c rd rs1 rs2 s
  | .lset c rd rs1 rs2 => Sys2Proof.Machine.execLset c rd rs1 rs2 s
  | .lcnt c rd rs1 => Sys2Proof.Machine.execLcnt c rd rs1 s
  | .lsub c rd rs1 => Sys2Proof.Machine.execLsub c rd rs1 s
  | .lsubt c rd rs1 rs2 => Sys2Proof.Machine.execLsubt c rd rs1 rs2 s
  | .doneR c t => Sys2Proof.Machine.execDoneR c t s
  | .drain c => Sys2Proof.Machine.execDrain c s
  | .strd c rd => Sys2Proof.Machine.execStrd c rd s
  | .stclr c => Sys2Proof.Machine.execStclr c s
  | .getcyc c rd t => Sys2Proof.Machine.execGetcyc c rd t s
  | .gettime c rd t => Sys2Proof.Machine.execGettime c rd t s
  | .getcore c rd => Sys2Proof.Machine.execGetcore c rd s
  | .trapR c => Sys2Proof.Machine.execTrapR c s
  | .rdsr c rd num => Sys2Proof.Machine.execRdsr c rd num s
  | .wrsr c rs1 num => Sys2Proof.Machine.execWrsr c rs1 num s
  | .retn c => Sys2Proof.Machine.execRetn c s
  | .retf c => Sys2Proof.Machine.execRetf c s
  | .idleR c => Sys2Proof.Machine.execIdleR c s
  | .entu c rs1 => Sys2Proof.Machine.execEntu c rs1 s
  | .normalEntry => Sys2Proof.Machine.execNormalEntry s
  | .fastEntry => Sys2Proof.Machine.execFastEntry s
  | .intcClaimNormal port => Sys2Proof.Machine.execIntcClaimNormal port s
  | .intcClaimFast port => Sys2Proof.Machine.execIntcClaimFast port s
  | .intcComplete port x => Sys2Proof.Machine.execIntcComplete port x s
  | .intcPendSet w x => Sys2Proof.Machine.execIntcPendSet w x s
  | .intcPendClr w x => Sys2Proof.Machine.execIntcPendClr w x s
  | .externalLineEvent n level samples => Sys2Proof.Machine.execExternalLineEvent n level samples s
  | .lockstepMismatch => Sys2Proof.Machine.execLockstepMismatch s
  | .pvcPass x_s k dropped => Sys2Proof.Machine.execPvcPass x_s k dropped s
  | .cPass x_s a b c t dropped => Sys2Proof.Machine.execCPass x_s a b c t dropped s
  | .axlCommit x_s => Sys2Proof.Machine.execAxlCommit x_s s
  | .tuneGo x_s => Sys2Proof.Machine.execTuneGo x_s s
  | .tuneAbort x_s => Sys2Proof.Machine.execTuneAbort x_s s
  | .carrierBoundary x_s => Sys2Proof.Machine.execCarrierBoundary x_s s
  | .perWrite x_s x => Sys2Proof.Machine.execPerWrite x_s x s
  | .pwrCommit x_s => Sys2Proof.Machine.execPwrCommit x_s s
  | .evtCfgWrite x_s x => Sys2Proof.Machine.execEvtCfgWrite x_s x s
  | .switchNodeCrossing x_s x rising cross => Sys2Proof.Machine.execSwitchNodeCrossing x_s x rising cross s
  | .tripInput x_s x_i a held => Sys2Proof.Machine.execTripInput x_s x_i a held s
  | .fastChannelSample x_s ch sum t => Sys2Proof.Machine.execFastChannelSample x_s ch sum t s
  | .sdChannelFault x_s ch => Sys2Proof.Machine.execSdChannelFault x_s ch s
  | .encoderRequest k j low => Sys2Proof.Machine.execEncoderRequest k j low s
  | .encoderWord k fall raw => Sys2Proof.Machine.execEncoderWord k fall raw s
  | .encoderEnable k x => Sys2Proof.Machine.execEncoderEnable k x s
  | .xposWrite k x => Sys2Proof.Machine.execXposWrite k x s
  | .frameReceive p t4 last clean bytes reqs answers => Sys2Proof.Machine.execFrameReceive p t4 last clean bytes reqs answers s
  | .slotTransmit h => Sys2Proof.Machine.execSlotTransmit h s
  | .guardianCut p h => Sys2Proof.Machine.execGuardianCut p h s
  | .ownInsertionCut p h => Sys2Proof.Machine.execOwnInsertionCut p h s
  | .txPublish h => Sys2Proof.Machine.execTxPublish h s
  | .acquireView h => Sys2Proof.Machine.execAcquireView h s
  | .modeCtrlGo k => Sys2Proof.Machine.execModeCtrlGo k s
  | .linkFrameSend p t => Sys2Proof.Machine.execLinkFrameSend p t s
  | .linkFrameReceive p t4 clean bytes => Sys2Proof.Machine.execLinkFrameReceive p t4 clean bytes s
  | .linkDown p => Sys2Proof.Machine.execLinkDown p s
  | .listenTimeout => Sys2Proof.Machine.execListenTimeout s
  | .coldStartEnd => Sys2Proof.Machine.execColdStartEnd s
  | .passiveTimeout => Sys2Proof.Machine.execPassiveTimeout s
  | .syncLost => Sys2Proof.Machine.execSyncLost s
  | .discoveryStart => Sys2Proof.Machine.execDiscoveryStart s
  | .configPartCheck => Sys2Proof.Machine.execConfigPartCheck s
  | .operationalSwitch => Sys2Proof.Machine.execOperationalSwitch s
  | .autoStart => Sys2Proof.Machine.execAutoStart s
  | .ptpSyncReceive port dn src seq twoStep stamp origin => Sys2Proof.Machine.execPtpSyncReceive port dn src seq twoStep stamp origin s
  | .followUpReceive port dn src seq origin => Sys2Proof.Machine.execFollowUpReceive port dn src seq origin s
  | .pdelayReqReceive port seq stamp depart => Sys2Proof.Machine.execPdelayReqReceive port seq stamp depart s
  | .pdelayRespReceive port seq t2 t3 stamp => Sys2Proof.Machine.execPdelayRespReceive port seq t2 t3 stamp s
  | .announceReceive port dn src gm vec => Sys2Proof.Machine.execAnnounceReceive port dn src gm vec s
  | .signalingReceive port dn logSync => Sys2Proof.Machine.execSignalingReceive port dn logSync s
  | .managementReceive port => Sys2Proof.Machine.execManagementReceive port s
  | .ethernetFrameDiscard port => Sys2Proof.Machine.execEthernetFrameDiscard port s
  | .ptpSyncTransmit d t => Sys2Proof.Machine.execPtpSyncTransmit d t s
  | .pdelayReqTransmit port t => Sys2Proof.Machine.execPdelayReqTransmit port t s
  | .syncReceiptTimeout d => Sys2Proof.Machine.execSyncReceiptTimeout d s
  | .firstLockWaitExpiry => Sys2Proof.Machine.execFirstLockWaitExpiry s
  | .selWrite d => Sys2Proof.Machine.execSelWrite d s
  | .domainEnable d en => Sys2Proof.Machine.execDomainEnable d en s
  | .outGo o => Sys2Proof.Machine.execOutGo o s
  | .outStop o => Sys2Proof.Machine.execOutStop o s
  | .timedOutputPulse o => Sys2Proof.Machine.execTimedOutputPulse o s
  | .captureEdge x_i falling stamp held => Sys2Proof.Machine.execCaptureEdge x_i falling stamp held s
  | .captureHeadRemove x_i => Sys2Proof.Machine.execCaptureHeadRemove x_i s
  | .timeReferenceMarker t => Sys2Proof.Machine.execTimeReferenceMarker t s
  | .safetyCycleStart t edm mism => Sys2Proof.Machine.execSafetyCycleStart t edm mism s
  | .mirrorPublish => Sys2Proof.Machine.execMirrorPublish s
  | .mirrorLatchRead port => Sys2Proof.Machine.execMirrorLatchRead port s
  | .mirrorStale => Sys2Proof.Machine.execMirrorStale s
  | .safeInputChange x_i ch level => Sys2Proof.Machine.execSafeInputChange x_i ch level s
  | .testPulse x_i ch low => Sys2Proof.Machine.execTestPulse x_i ch low s
  | .discrepancyTimeout x_i => Sys2Proof.Machine.execDiscrepancyTimeout x_i s
  | .darkTest sto o low => Sys2Proof.Machine.execDarkTest sto o low s
  | .edmTimeout o => Sys2Proof.Machine.execEdmTimeout o s
  | .resetButtonRelease d => Sys2Proof.Machine.execResetButtonRelease d s
  | .resetStuck => Sys2Proof.Machine.execResetStuck s
  | .islandInternalFault => Sys2Proof.Machine.execIslandInternalFault s
  | .islandSelfTestDone ok pressed => Sys2Proof.Machine.execIslandSelfTestDone ok pressed s
  | .mailboxPost => Sys2Proof.Machine.execMailboxPost s
  | .configLoad => Sys2Proof.Machine.execConfigLoad s
  | .configSeal => Sys2Proof.Machine.execConfigSeal s
  | .configCommission => Sys2Proof.Machine.execConfigCommission s
  | .configKey => Sys2Proof.Machine.execConfigKey s
  | .confirmTimeout => Sys2Proof.Machine.execConfirmTimeout s
  | .sensorFrameReceive port t bytes => Sys2Proof.Machine.execSensorFrameReceive port t bytes s
  | .pairLinkAdmit skew => Sys2Proof.Machine.execPairLinkAdmit skew s
  | .roleResolve late => Sys2Proof.Machine.execRoleResolve late s
  | .heartbeatSend t => Sys2Proof.Machine.execHeartbeatSend t s
  | .heartbeatReceive crcOk f t4 => Sys2Proof.Machine.execHeartbeatReceive crcOk f t4 s
  | .inputReceive crcOk seq x => Sys2Proof.Machine.execInputReceive crcOk seq x s
  | .snapshotReceive crcOk f => Sys2Proof.Machine.execSnapshotReceive crcOk f s
  | .digestReceive crcOk crcs att => Sys2Proof.Machine.execDigestReceive crcOk crcs att s
  | .mirrorReceive crcOk f => Sys2Proof.Machine.execMirrorReceive crcOk f s
  | .timeReceive crcOk t arr4 => Sys2Proof.Machine.execTimeReceive crcOk t arr4 s
  | .bulkReceive crcOk seq c => Sys2Proof.Machine.execBulkReceive crcOk seq c s
  | .pairRetransmitTimeout seq => Sys2Proof.Machine.execPairRetransmitTimeout seq s
  | .inputMirrorTimeout seq => Sys2Proof.Machine.execInputMirrorTimeout seq s
  | .snapshotTimeout => Sys2Proof.Machine.execSnapshotTimeout s
  | .pairHeartbeatLost => Sys2Proof.Machine.execPairHeartbeatLost s
  | .swapPeriodExpiry => Sys2Proof.Machine.execSwapPeriodExpiry s
  | .pairCtrlSwap => Sys2Proof.Machine.execPairCtrlSwap s
  | .resyncPhaseDone ok code => Sys2Proof.Machine.execResyncPhaseDone ok code s
  | .scrubRead upsets => Sys2Proof.Machine.execScrubRead upsets s
  | .scrubPeriodExpiry => Sys2Proof.Machine.execScrubPeriodExpiry s
  | .correctedWriteBack k => Sys2Proof.Machine.execCorrectedWriteBack k s
  | .tapCtrlArm => Sys2Proof.Machine.execTapCtrlArm s
  | .tapCtrlStop => Sys2Proof.Machine.execTapCtrlStop s
  | .tapForce => Sys2Proof.Machine.execTapForce s
  | .tapSample t => Sys2Proof.Machine.execTapSample t s
  | .tapRearmEnd => Sys2Proof.Machine.execTapRearmEnd s
  | .drainBlockWrite waited => Sys2Proof.Machine.execDrainBlockWrite waited s
  | .triggerBusEdge l falling t own => Sys2Proof.Machine.execTriggerBusEdge l falling t own s
  | .limitInputChange x_s neg level held => Sys2Proof.Machine.execLimitInputChange x_s neg level held s
  | .powerOnReset => Sys2Proof.Machine.execPowerOnReset s
  | .supplyOutOfRange => Sys2Proof.Machine.execSupplyOutOfRange s
  | .chipResetRequest x => Sys2Proof.Machine.execChipResetRequest x s
  | .chipReset => Sys2Proof.Machine.execChipReset s
  | .resetRelease pcie => Sys2Proof.Machine.execResetRelease pcie s
  | .strapSample node src mgr test fuse uid grade hashes => Sys2Proof.Machine.execStrapSample node src mgr test fuse uid grade hashes s
  | .flashDiscovery header mode eye => Sys2Proof.Machine.execFlashDiscovery header mode eye s
  | .firmwareAuthentication l ms => Sys2Proof.Machine.execFirmwareAuthentication l ms s
  | .bootModelLoad l => Sys2Proof.Machine.execBootModelLoad l s
  | .bootLenWrite len ms => Sys2Proof.Machine.execBootLenWrite len ms s
  | .sidebandStatusRecord => Sys2Proof.Machine.execSidebandStatusRecord s
  | .powerControlWrite x => Sys2Proof.Machine.execPowerControlWrite x s
  | .domainTransitionDone d => Sys2Proof.Machine.execDomainTransitionDone d s
  | .refClkFailure => Sys2Proof.Machine.execRefClkFailure s
  | .serdesPllLockLoss k => Sys2Proof.Machine.execSerdesPllLockLoss k s
  | .watchdogKick x t => Sys2Proof.Machine.execWatchdogKick x t s
  | .watchdogExpiry t => Sys2Proof.Machine.execWatchdogExpiry t s
  | .recoveryReset => Sys2Proof.Machine.execRecoveryReset s
  | .managerLost => Sys2Proof.Machine.execManagerLost s
  | .testKeyWrite port x t => Sys2Proof.Machine.execTestKeyWrite port x t s
  | .testUnitEnable u => Sys2Proof.Machine.execTestUnitEnable u s
  | .testUnitDisable u => Sys2Proof.Machine.execTestUnitDisable u s
  | .testLock => Sys2Proof.Machine.execTestLock s
  | .bypass => Sys2Proof.Machine.execBypass s
  | .idcode => Sys2Proof.Machine.execIdcode s
  | .samplePreload l => Sys2Proof.Machine.execSamplePreload l s
  | .extest l => Sys2Proof.Machine.execExtest l s
  | .configurationRequest x => Sys2Proof.Machine.execConfigurationRequest x s
  | .hostReadCompletion err job kind k head => Sys2Proof.Machine.execHostReadCompletion err job kind k head s
  | .codeGroupSyncAcquired p => Sys2Proof.Machine.execCodeGroupSyncAcquired p s
  | .blockLockLoss lane => Sys2Proof.Machine.execBlockLockLoss lane s
  | .serdesPllRelock k => Sys2Proof.Machine.execSerdesPllRelock k s
  | .outputReadbackMismatch sto o => Sys2Proof.Machine.execOutputReadbackMismatch sto o s
  | .blockResetDone b => Sys2Proof.Machine.execBlockResetDone b s

end Sys2Proof.Machine
end

