-- ==== Sys2Proof/WellFormed.lean ====
section
/-! DEFINITION. Well-formed commands: operands within the widths and counts that the spec gives their places. A command's meaning does
not rest on this; it says which commands an outside can send. -/

namespace Sys2Proof

/-- Bytes. -/
def bytesOk (l : List Nat) : Bool := l.all (fun b => decide (b < 256))

/-- A command descriptor holds fields of the widths of 03 R86 and ten parameters at most. -/
def Desc.wf (d : Desc) : Bool :=
  decide (d.opcode < 65536) && decide (d.flags < 256) && decide (d.version < 256) && decide (d.tag < 2 ^ 32) && decide (d.dataAddr < 2 ^ 64)
    && decide (d.dataLen < 2 ^ 32) && decide (d.rsv < 2 ^ 32) && decide (d.params.length ≤ 10) && d.params.all (fun p => decide (p < 2 ^ 32))

/-- A job comes from one of 16 command rings, with bytes as its data. -/
def Job.wf (j : Job) : Bool := decide (j.ring < 16) && decide (j.head < 65536) && j.desc.wf && bytesOk j.data

/-- A piece of memory of `n` bytes. -/
def piece (n : Nat) (l : List Nat) : Bool := l.length == n && bytesOk l

/-- The content of a command ring: descriptors of 64 B (03 R86). -/
def RingDescs.wf (r : RingDescs) : Bool := decide (r.ring < 16) && r.descs.all (piece 64)

/-- An element of an in-stream (03 R96). -/
def StreamEl.wf (e : StreamEl) : Bool := decide (e.tag < 65536) && decide (e.axis < 128)

/-- A register access comes from a fabric port (01 R38) or through BAR2 or BAR4. -/
def Via.wf (v : Via) : Bool := match v with | .port p => decide (p < 13) | .bar2 => true | .bar4 => true

/-- A HEARTBEAT frame (17 R490). -/
def HbFrame.wf (f : HbFrame) : Bool := decide (f.role < 8) && decide (f.rank < 2) && decide (f.ack < 2 ^ 32) && decide (f.cls < 4)

/-- The content of an INPUT frame. -/
def PairInput.wf (x : PairInput) : Bool := match x with | .job j => j.wf | .block r _ els => decide (r < 32) && els.all StreamEl.wf

/-- A SNAPSHOT frame. -/
def SnapFrame.wf (f : SnapFrame) : Bool := decide (f.seq < 2 ^ 32) && decide (f.limits.length ≤ 32) && decide (f.dom < 4)

/-- A MIRROR frame. -/
def MirrorFrame.wf (f : MirrorFrame) : Bool := decide (f.cycle < 2 ^ 32) && decide (f.attempts.length ≤ 64) && decide (f.missRun.length ≤ 64)

/-- The content of a BULK frame. -/
def BulkContent.wf (c : BulkContent) : Bool :=
  match c with
  | .image _ _ l => bytesOk l
  | .locks l tags => decide (l < 8) && decide (tags.length ≤ 7)
  | .memory a l => decide (a < 2 ^ 32) && bytesOk l
  | .plan g _ => decide (g < 32)
  | .input x => x.wf
  | .acts l => l.all (fun a => decide (a.grp < 32))
  | .state f => f.wf

/-- A boundary-scan cell lies in one of four ball groups. -/
def JPin.wf (p : JPin) : Bool := decide (p.group < 4)

/-- What a run has met: variable IDs are words. -/
def RunMet.wf (x : RunMet) : Bool := x.viol.all (fun v => decide (v < 2 ^ 32))

/-- Well-formed commands. -/
def Instr.wf (i : Instr) : Bool :=
  match i with
  | .getInfo j => j.wf
  | .setLock j => j.wf
  | .getFaultLog j => j.wf
  | .resetBlock j => j.wf
  | .modelLoad j => j.wf
  | .modelRead j => j.wf
  | .createRing j => j.wf
  | .deleteRing j => j.wf
  | .routeEvents j => j.wf
  | .setCoalesce j => j.wf
  | .setDmaWindow j => j.wf
  | .ladleStats j => j.wf
  | .crucStatus j => j.wf
  | .movePtp j => j.wf
  | .movePath j => j.wf
  | .moveSpline j => j.wf
  | .streamBind j => j.wf
  | .feedHold j => j.wf
  | .resumeJob j => j.wf
  | .overrideJob j => j.wf
  | .stopJob j => j.wf
  | .gearSet j => j.wf
  | .gearChangeAt j => j.wf
  | .sharedStart j => j.wf
  | .axisEnable j => j.wf
  | .axisDisable j => j.wf
  | .tuneInject j => j.wf
  | .netStart j => j.wf
  | .modeSwitch j => j.wf
  | .netStatus j => j.wf
  | .timedOut j => j.wf
  | .domainSelect j => j.wf
  | .tapArm j => j.wf
  | .tapStop j => j.wf
  | .safeConfig j => j.wf
  | .safeMirrorRead j => j.wf
  | .pairSwap j => j.wf
  | .pairStatus j => j.wf
  | .memErrLog j => j.wf
  | .testPerturb j => j.wf
  | .descriptorFetch rings => rings.all RingDescs.wf
  | .completionEntryWrite cq => decide (cq < 16)
  | .eventEntryWrite k => decide (k < 4)
  | .commandProducerDoorbell k v => decide (k < 16) && decide (v < 2 ^ 32)
  | .completionConsumerDoorbell k v => decide (k < 16) && decide (v < 2 ^ 32)
  | .eventConsumerDoorbell k v => decide (k < 4) && decide (v < 2 ^ 32)
  | .streamProducerDoorbell k v => decide (k < 32) && decide (v < 2 ^ 32)
  | .streamConsumerDoorbell k v => decide (k < 32) && decide (v < 2 ^ 32)
  | .streamBlockFetch k els => decide (k < 32) && els.all (piece 16)
  | .telemetryBlockWrite k => decide (k < 32)
  | .coalesceTimerExpiry v => decide (v < 64)
  | .msixTableWrite v d x => decide (v < 64) && decide (d < 4) && decide (x < 2 ^ 32)
  | .featureNegotiationGo x => decide (x < 2 ^ 32)
  | .featureNegotiationDone => true
  | .perst => true
  | .hotReset => true
  | .functionLevelReset => true
  | .pcieLinkLoss => true
  | .pcieLinkUp link width => decide (link.speed < 8) && decide (width < 64)
  | .ringEnable kind k => decide (kind < 4) && decide (k < 32)
  | .ringDisable kind k => decide (kind < 4) && decide (k < 32)
  | .bar4Write off l => decide (off < 2 ^ 25) && bytesOk l
  | .registerWrite via addr x => via.wf && decide (addr < 2 ^ 32) && decide (x < 2 ^ 32)
  | .registerLoRead via addr => via.wf && decide (addr < 2 ^ 32)
  | .cfgLockSet => true
  | .limitLockSet => true
  | .schedLockSet => true
  | .cycleCfgWrite x => decide (x < 2 ^ 32)
  | .cycleLengthChange => true
  | .cycleBoundary => true
  | .phaseP1Start => true
  | .runnerSnapshot => true
  | .graphOpen => true
  | .runnerTargets => true
  | .runnerPrep => true
  | .runnerCommit => true
  | .refillComplete g => decide (g < 32)
  | .streamUnderrunStop g => decide (g < 32)
  | .gearMasterLost g => decide (g < 32)
  | .crucibleDeadline stops => stops.all (fun x => decide (x.1 < 64) && x.2.wf)
  | .commitDeadline => true
  | .phaseP3Start => true
  | .phaseP4Start => true
  | .crucibleProgramStart k _ => decide (k < 64)
  | .crucibleProgramEnd k _ _ => decide (k < 64)
  | .crucibleProgramAbort k _ why => decide (k < 64) && why.met.wf
  | .itemDispatch _ => true
  | .runLimitExpiry c => decide (c < 32)
  | .ladleSubmit port l => decide (port < 13) && bytesOk l
  | .counterSet v => decide (v < 65536)
  | .counterDecrement n => decide (n < 65536)
  | .addR c rd rs1 rs2 => decide (c < 33) && decide (rd < 32) && decide (rs1 < 32) && decide (rs2 < 32)
  | .subR c rd rs1 rs2 => decide (c < 33) && decide (rd < 32) && decide (rs1 < 32) && decide (rs2 < 32)
  | .andR c rd rs1 rs2 => decide (c < 33) && decide (rd < 32) && decide (rs1 < 32) && decide (rs2 < 32)
  | .orR c rd rs1 rs2 => decide (c < 33) && decide (rd < 32) && decide (rs1 < 32) && decide (rs2 < 32)
  | .xorR c rd rs1 rs2 => decide (c < 33) && decide (rd < 32) && decide (rs1 < 32) && decide (rs2 < 32)
  | .shl c rd rs1 rs2 => decide (c < 33) && decide (rd < 32) && decide (rs1 < 32) && decide (rs2 < 32)
  | .shr c rd rs1 rs2 => decide (c < 33) && decide (rd < 32) && decide (rs1 < 32) && decide (rs2 < 32)
  | .sha c rd rs1 rs2 => decide (c < 33) && decide (rd < 32) && decide (rs1 < 32) && decide (rs2 < 32)
  | .lt c rd rs1 rs2 => decide (c < 33) && decide (rd < 32) && decide (rs1 < 32) && decide (rs2 < 32)
  | .ltu c rd rs1 rs2 => decide (c < 33) && decide (rd < 32) && decide (rs1 < 32) && decide (rs2 < 32)
  | .mul c rd rs1 rs2 => decide (c < 33) && decide (rd < 32) && decide (rs1 < 32) && decide (rs2 < 32)
  | .mulh c rd rs1 rs2 => decide (c < 33) && decide (rd < 32) && decide (rs1 < 32) && decide (rs2 < 32)
  | .adds c rd rs1 rs2 => decide (c < 33) && decide (rd < 32) && decide (rs1 < 32) && decide (rs2 < 32)
  | .subs c rd rs1 rs2 => decide (c < 33) && decide (rd < 32) && decide (rs1 < 32) && decide (rs2 < 32)
  | .minR c rd rs1 rs2 => decide (c < 33) && decide (rd < 32) && decide (rs1 < 32) && decide (rs2 < 32)
  | .maxR c rd rs1 rs2 => decide (c < 33) && decide (rd < 32) && decide (rs1 < 32) && decide (rs2 < 32)
  | .cls c rd rs1 => decide (c < 33) && decide (rd < 32) && decide (rs1 < 32)
  | .addW c rd rs1 rs2 => decide (c < 33) && decide (rd < 32) && decide (rs1 < 32) && decide (rs2 < 32)
  | .subW c rd rs1 rs2 => decide (c < 33) && decide (rd < 32) && decide (rs1 < 32) && decide (rs2 < 32)
  | .addk c rd rs1 k => decide (c < 33) && decide (rd < 32) && decide (rs1 < 32) && decide (k < 65536)
  | .andk c rd rs1 k => decide (c < 33) && decide (rd < 32) && decide (rs1 < 32) && decide (k < 65536)
  | .ork c rd rs1 k => decide (c < 33) && decide (rd < 32) && decide (rs1 < 32) && decide (k < 65536)
  | .xork c rd rs1 k => decide (c < 33) && decide (rd < 32) && decide (rs1 < 32) && decide (k < 65536)
  | .shlk c rd rs1 k => decide (c < 33) && decide (rd < 32) && decide (rs1 < 32) && decide (k < 65536)
  | .shrk c rd rs1 k => decide (c < 33) && decide (rd < 32) && decide (rs1 < 32) && decide (k < 65536)
  | .shak c rd rs1 k => decide (c < 33) && decide (rd < 32) && decide (rs1 < 32) && decide (k < 65536)
  | .hik c rd k => decide (c < 33) && decide (rd < 32) && decide (k < 65536)
  | .ltk c rd rs1 k => decide (c < 33) && decide (rd < 32) && decide (rs1 < 32) && decide (k < 65536)
  | .ldB c rd rs1 k => decide (c < 33) && decide (rd < 32) && decide (rs1 < 32) && decide (k < 65536)
  | .ldH c rd rs1 k => decide (c < 33) && decide (rd < 32) && decide (rs1 < 32) && decide (k < 65536)
  | .ldW c rd rs1 k => decide (c < 33) && decide (rd < 32) && decide (rs1 < 32) && decide (k < 65536)
  | .ldD c rd rs1 k => decide (c < 33) && decide (rd < 32) && decide (rs1 < 32) && decide (k < 65536)
  | .ldBu c rd rs1 k => decide (c < 33) && decide (rd < 32) && decide (rs1 < 32) && decide (k < 65536)
  | .ldHu c rd rs1 k => decide (c < 33) && decide (rd < 32) && decide (rs1 < 32) && decide (k < 65536)
  | .ldWu c rd rs1 k => decide (c < 33) && decide (rd < 32) && decide (rs1 < 32) && decide (k < 65536)
  | .stB c rs2 rs1 k => decide (c < 33) && decide (rs2 < 32) && decide (rs1 < 32) && decide (k < 65536)
  | .stH c rs2 rs1 k => decide (c < 33) && decide (rs2 < 32) && decide (rs1 < 32) && decide (k < 65536)
  | .stW c rs2 rs1 k => decide (c < 33) && decide (rs2 < 32) && decide (rs1 < 32) && decide (k < 65536)
  | .stD c rs2 rs1 k => decide (c < 33) && decide (rs2 < 32) && decide (rs1 < 32) && decide (k < 65536)
  | .pld c rd p _ sz _ => decide (c < 33) && decide (rd < 32) && decide (p < 8) && decide (sz < 4)
  | .pst c src p _ sz => decide (c < 33) && decide (src < 32) && decide (p < 8) && decide (sz < 4)
  | .pset c k rs1 => decide (c < 33) && decide (k < 8) && decide (rs1 < 32)
  | .pget c rd k => decide (c < 33) && decide (rd < 32) && decide (k < 8)
  | .mset c k rs1 => decide (c < 33) && decide (k < 8) && decide (rs1 < 32)
  | .mget c rd k => decide (c < 33) && decide (rd < 32) && decide (k < 8)
  | .sset c k rs1 => decide (c < 33) && decide (k < 4) && decide (rs1 < 32)
  | .ssetImmediate c k sh => decide (c < 33) && decide (k < 4) && decide (sh < 64)
  | .sget c rd k => decide (c < 33) && decide (rd < 32) && decide (k < 4)
  | .padd c k rs1 => decide (c < 33) && decide (k < 8) && decide (rs1 < 32)
  | .brEq c rs1 rs2 off => decide (c < 33) && decide (rs1 < 32) && decide (rs2 < 32) && decide (off < 65536)
  | .brNe c rs1 rs2 off => decide (c < 33) && decide (rs1 < 32) && decide (rs2 < 32) && decide (off < 65536)
  | .brLt c rs1 rs2 off => decide (c < 33) && decide (rs1 < 32) && decide (rs2 < 32) && decide (off < 65536)
  | .brGe c rs1 rs2 off => decide (c < 33) && decide (rs1 < 32) && decide (rs2 < 32) && decide (off < 65536)
  | .brLtu c rs1 rs2 off => decide (c < 33) && decide (rs1 < 32) && decide (rs2 < 32) && decide (off < 65536)
  | .brGeu c rs1 rs2 off => decide (c < 33) && decide (rs1 < 32) && decide (rs2 < 32) && decide (off < 65536)
  | .loopR c rs1 n => decide (c < 33) && decide (rs1 < 32) && decide (1 ≤ n ∧ n ≤ 64)
  | .callR c off => decide (c < 33) && decide (off < 2 ^ 26)
  | .callr c rd rs1 k => decide (c < 33) && decide (rd < 32) && decide (rs1 < 32) && decide (k < 65536)
  | .cmac c a mode _ _ rs1 rs2 => decide (c < 33) && decide (a < 4) && decide (mode < 4) && decide (rs1 < 32) && decide (rs2 < 32)
  | .cmacP c a mode _ _ pa pb _ _ => decide (c < 33) && decide (a < 4) && decide (mode < 4) && decide (pa < 8) && decide (pb < 8)
  | .aclr c a => decide (c < 33) && decide (a < 4)
  | .aadd c a b => decide (c < 33) && decide (a < 4) && decide (b < 4)
  | .asub c a b => decide (c < 33) && decide (a < 4) && decide (b < 4)
  | .aneg c a => decide (c < 33) && decide (a < 4)
  | .aswap c a => decide (c < 33) && decide (a < 4)
  | .mva c rd a sc part => decide (c < 33) && decide (rd < 32) && decide (a < 4) && decide (sc < 4) && decide (part < 4)
  | .ald c a sc rd => decide (c < 33) && decide (a < 4) && decide (sc < 4) && decide (rd < 32)
  | .lsig c rd rs1 rs2 => decide (c < 33) && decide (rd < 32) && decide (rs1 < 32) && decide (rs2 < 32)
  | .lset c rd rs1 rs2 => decide (c < 33) && decide (rd < 32) && decide (rs1 < 32) && decide (rs2 < 32)
  | .lcnt c rd rs1 => decide (c < 33) && decide (rd < 32) && decide (rs1 < 32)
  | .lsub c rd rs1 => decide (c < 33) && decide (rd < 32) && decide (rs1 < 32)
  | .lsubt c rd rs1 rs2 => decide (c < 33) && decide (rd < 32) && decide (rs1 < 32) && decide (rs2 < 32)
  | .doneR c _ => decide (c < 33)
  | .drain c => decide (c < 33)
  | .strd c rd => decide (c < 33) && decide (rd < 32)
  | .stclr c => decide (c < 33)
  | .getcyc c rd _ => decide (c < 33) && decide (rd < 32)
  | .gettime c rd _ => decide (c < 33) && decide (rd < 32)
  | .getcore c rd => decide (c < 33) && decide (rd < 32)
  | .trapR c => decide (c < 33)
  | .rdsr c rd num => decide (c < 33) && decide (rd < 32) && decide (num < 65536)
  | .wrsr c rs1 num => decide (c < 33) && decide (rs1 < 32) && decide (num < 65536)
  | .retn c => decide (c < 33)
  | .retf c => decide (c < 33)
  | .idleR c => decide (c < 33)
  | .entu c rs1 => decide (c < 33) && decide (rs1 < 32)
  | .normalEntry => true
  | .fastEntry => true
  | .intcClaimNormal port => decide (port < 13)
  | .intcClaimFast port => decide (port < 13)
  | .intcComplete port x => decide (port < 13) && decide (x < 2 ^ 32)
  | .intcPendSet w x => decide (w < 16) && decide (x < 2 ^ 32)
  | .intcPendClr w x => decide (w < 16) && decide (x < 2 ^ 32)
  | .externalLineEvent n _ _ => decide (320 ≤ n ∧ n ≤ 386)
  | .lockstepMismatch => true
  | .pvcPass s k _ => decide (s < 16) && decide (k < 4)
  | .cPass s _ _ _ _ _ => decide (s < 16)
  | .axlCommit s => decide (s < 16)
  | .tuneGo s => decide (s < 16)
  | .tuneAbort s => decide (s < 16)
  | .carrierBoundary s => decide (s < 16)
  | .perWrite s x => decide (s < 16) && decide (x < 2 ^ 32)
  | .pwrCommit s => decide (s < 16)
  | .evtCfgWrite s x => decide (s < 16) && decide (x < 2 ^ 32)
  | .switchNodeCrossing s x _ _ => decide (s < 16) && decide (x < 3)
  | .tripInput s i _ _ => decide (s < 16) && decide (i < 2)
  | .fastChannelSample s ch _ _ => decide (s < 16) && decide (ch < 3)
  | .sdChannelFault s ch => decide (s < 16) && decide (ch < 3)
  | .encoderRequest k j _ => decide (k < 16) && decide (j < 4)
  | .encoderWord k _ raw => decide (k < 16) && decide (raw < 2 ^ 64)
  | .encoderEnable k x => decide (k < 16) && decide (x < 2 ^ 32)
  | .xposWrite k x => decide (k < 16) && decide (x < 2 ^ 64)
  | .frameReceive p _ _ _ bytes _ _ => decide (p < 8) && bytesOk bytes
  | .slotTransmit h => decide (h < 2048)
  | .guardianCut p h => decide (p < 8) && decide (h < 2048)
  | .ownInsertionCut p h => decide (p < 8) && decide (h < 2048)
  | .txPublish h => decide (h < 2 ^ 32)
  | .acquireView h => decide (h < 2 ^ 32)
  | .modeCtrlGo k => decide (k < 8)
  | .linkFrameSend p _ => decide (p < 8)
  | .linkFrameReceive p _ _ bytes => decide (p < 8) && bytesOk bytes
  | .linkDown p => decide (p < 8)
  | .listenTimeout => true
  | .coldStartEnd => true
  | .passiveTimeout => true
  | .syncLost => true
  | .discoveryStart => true
  | .configPartCheck => true
  | .operationalSwitch => true
  | .autoStart => true
  | .ptpSyncReceive port dn src seq _ _ _ => decide (port < 2) && decide (dn < 256) && decide (src < 2 ^ 80) && decide (seq < 65536)
  | .followUpReceive port dn src seq _ => decide (port < 2) && decide (dn < 256) && decide (src < 2 ^ 80) && decide (seq < 65536)
  | .pdelayReqReceive port seq _ _ => decide (port < 2) && decide (seq < 65536)
  | .pdelayRespReceive port seq _ _ _ => decide (port < 2) && decide (seq < 65536)
  | .announceReceive port dn src gm _ => decide (port < 2) && decide (dn < 256) && decide (src < 2 ^ 80) && decide (gm < 2 ^ 64)
  | .signalingReceive port dn _ => decide (port < 2) && decide (dn < 256)
  | .managementReceive port => decide (port < 2)
  | .ethernetFrameDiscard port => decide (port < 2)
  | .ptpSyncTransmit d _ => decide (d < 2)
  | .pdelayReqTransmit port _ => decide (port < 2)
  | .syncReceiptTimeout d => decide (d < 2)
  | .firstLockWaitExpiry => true
  | .selWrite d => decide (d < 2)
  | .domainEnable d _ => decide (d < 2)
  | .outGo o => decide (o < 8)
  | .outStop o => decide (o < 8)
  | .timedOutputPulse o => decide (o < 8)
  | .captureEdge i _ _ _ => decide (i < 8)
  | .captureHeadRemove i => decide (i < 8)
  | .timeReferenceMarker _ => true
  | .safetyCycleStart _ edm _ => decide (edm < 256)
  | .mirrorPublish => true
  | .mirrorLatchRead port => decide (port < 13)
  | .mirrorStale => true
  | .safeInputChange i ch _ => decide (i < 16) && decide (ch < 2)
  | .testPulse i ch _ => decide (i < 16) && decide (ch < 2)
  | .discrepancyTimeout i => decide (i < 16)
  | .darkTest sto o _ => decide (o < if sto then 16 else 8)
  | .edmTimeout o => decide (o < 8)
  | .resetButtonRelease _ => true
  | .resetStuck => true
  | .islandInternalFault => true
  | .islandSelfTestDone _ _ => true
  | .mailboxPost => true
  | .configLoad => true
  | .configSeal => true
  | .configCommission => true
  | .configKey => true
  | .confirmTimeout => true
  | .sensorFrameReceive port _ bytes => decide (port < 4) && bytesOk bytes
  | .pairLinkAdmit _ => true
  | .roleResolve _ => true
  | .heartbeatSend _ => true
  | .heartbeatReceive _ f _ => f.wf
  | .inputReceive _ seq x => decide (seq < 2 ^ 32) && x.wf
  | .snapshotReceive _ f => f.wf
  | .digestReceive _ _ _ => true
  | .mirrorReceive _ f => f.wf
  | .timeReceive _ _ _ => true
  | .bulkReceive _ seq c => decide (seq < 2 ^ 32) && c.wf
  | .pairRetransmitTimeout seq => decide (seq < 2 ^ 32)
  | .inputMirrorTimeout seq => decide (seq < 2 ^ 32)
  | .snapshotTimeout => true
  | .pairHeartbeatLost => true
  | .swapPeriodExpiry => true
  | .pairCtrlSwap => true
  | .resyncPhaseDone _ code => decide (code < 65536)
  | .scrubRead _ => true
  | .scrubPeriodExpiry => true
  | .correctedWriteBack _ => true
  | .tapCtrlArm => true
  | .tapCtrlStop => true
  | .tapForce => true
  | .tapSample _ => true
  | .tapRearmEnd => true
  | .drainBlockWrite _ => true
  | .triggerBusEdge l _ _ _ => decide (l < 2)
  | .limitInputChange s _ _ _ => decide (s < 16)
  | .powerOnReset => true
  | .supplyOutOfRange => true
  | .chipResetRequest x => decide (x < 2 ^ 32)
  | .chipReset => true
  | .resetRelease _ => true
  | .strapSample node src _ _ _ _ _ _ => decide (node < 64) && decide (src < 4)
  | .flashDiscovery _ mode _ => decide (mode < 8)
  | .firmwareAuthentication l _ => bytesOk l
  | .bootModelLoad l => bytesOk l
  | .bootLenWrite len _ => decide (len < 2 ^ 32)
  | .sidebandStatusRecord => true
  | .powerControlWrite x => decide (x < 2 ^ 32)
  | .domainTransitionDone d => decide (d < 14)
  | .refClkFailure => true
  | .serdesPllLockLoss k => decide (k < 2)
  | .watchdogKick x _ => decide (x < 2 ^ 32)
  | .watchdogExpiry _ => true
  | .recoveryReset => true
  | .managerLost => true
  | .testKeyWrite port x _ => decide (port < 13) && decide (x < 2 ^ 32)
  | .testUnitEnable u => decide (u < 7)
  | .testUnitDisable u => decide (u < 7)
  | .testLock => true
  | .bypass => true
  | .idcode => true
  | .samplePreload l => l.all JPin.wf
  | .extest l => l.all JPin.wf
  | .configurationRequest x => x.write.all (fun v => decide (v < 2 ^ 32))
  | .hostReadCompletion _ _ kind k _ => decide (kind < 4) && decide (k < 32)
  | .codeGroupSyncAcquired p => decide (p < 8)
  | .blockLockLoss lane => decide (lane < 2)
  | .serdesPllRelock k => decide (k < 2)
  | .outputReadbackMismatch sto o => decide (o < if sto then 16 else 8)
  | .blockResetDone b => decide (b < 17)

end Sys2Proof
end

