-- ==== Sys2Proof/Safety.lean ====
section
/-! DEFINITION. What counts as a safe run, and the terms the statements use: a step that answers a next state, a memory in canonical form,
a core about to carry out an instruction, and what retiring it, jumping or failing comes to. -/

namespace Sys2Proof.Machine

/-- Memory is in canonical form: addresses strictly rising, no entry equal to 0, which an unlisted byte reads as (entry 3). -/
def Memory.wf (l : List Host.Cell) : Bool := canonical (0 : BitVec 8) l

/-- A safe step: it answers a next state. -/
def SafeStep (s : State) : Prop := ∃ t, step s = .next t

/-- A safe run of `n` steps. -/
def SafeRun : Nat → State → Prop
  | 0, _ => True
  | n + 1, s => ∃ t, step s = .next t ∧ SafeRun n t

/-! ## Cores -/

/-- The machine in which core `c` carries out its next instruction: an IDLE that a request ends has retired (21 R598). -/
def atInstr (m : Mach) (c : Nat) : Mach := if c = 32 ∧ supRuns m = true then wake m else m

/-- The core's registers then. -/
def regsAt (m : Mach) (c : Nat) : CoreSt := coreSt (atInstr m c) c

/-- Core `c` is about to carry out the instruction at its PC: it runs, the PC is aligned to 4 B and may be fetched at. -/
def CoreReady (m : Mach) (c : Nat) : Prop :=
  coreRuns (atInstr m c) c = true ∧ (regsAt m c).pc.toNat % 4 = 0 ∧ fetchOk (atInstr m c) c (regsAt m c) = true

/-- The outcome in which the instruction retires with the core's registers `k` in machine `m`, and the next one in order follows. -/
def retires (s : State) (c : Nat) (k : CoreSt) (m : Mach) : Out := .next { s with m := putCore m c (advance k) }

/-- The outcome in which it retires and writes `v` to rd, and nothing else changes. -/
def writesRd (s : State) (c rd : Nat) (v : BitVec 64) : Out := retires s c (xw (regsAt s.m c) rd v) (atInstr s.m c)

/-- The outcome of a taken transfer to `tgt`: it ends an active loop (19 R548); a target not aligned to 4 B is a fault (19 R549). -/
def jumps (s : State) (c : Nat) (k : CoreSt) (tgt : BitVec 32) : Out :=
  let m := if tgt.toNat % 4 = 0 then putCore (atInstr s.m c) c { k with pc := tgt, b := { k.b with lc := 0 } }
    else raise c 2 tgt.toNat (atInstr s.m c)
  .next { s with m := m }

/-- The outcome of a fault of a pool core or an exception of the supervisor. -/
def faults (s : State) (c cause data : Nat) (m : Mach) : Out := .next { s with m := raise c cause data m }

/-- A memory access whose value goes on to `f`, or whose fault is taken. -/
def accesses (s : State) (c : Nat) (r : MemRes) (f : Nat → Mach → Out) : Out :=
  match r with
  | .ok v m => f v m
  | .bad cause a m => faults s c cause a m

/-- The registers with OVF of ST as said. -/
def withOvf (k : CoreSt) (o : Bool) : CoreSt := { k with b := { k.b with ovf := o } }
/-- The registers with AOVF of ST as said. -/
def withAovf (k : CoreSt) (o : Bool) : CoreSt := { k with b := { k.b with aovf := o } }

/-- A value held in the signed range of `w` bits. -/
def heldTo (w : Nat) (v : Int) : Int := max (-(2 ^ (w - 1))) (min (2 ^ (w - 1) - 1) v)
/-- A value outside the signed range of `w` bits. -/
def outside (w : Nat) (v : Int) : Prop := v < -(2 ^ (w - 1)) ∨ 2 ^ (w - 1) ≤ v

/-- Instruction `i` of core `c` retires with both parts of accumulator `a` computed, each held in the 80-bit range; AOVF is set where a
part has left it and else keeps its value. -/
def writesAcc (s : State) (c : Nat) (i : Instr) (q : CoreSt) (a : Nat) (re im : Int) : Prop :=
  ∃ o : Bool, exec i s = retires s c (withAovf (aw q a { re := heldTo 80 re, im := heldTo 80 im }) o) (atInstr s.m c) ∧
    (o = true ↔ q.b.aovf = true ∨ outside 80 re ∨ outside 80 im)

/-- The instructions of a core that touch its own registers alone (19 R539 to R544, R552, R553); MVA with PART 3 is illegal and none of
them. -/
def registerOnly : Instr → Bool
  | .addR .. | .subR .. | .andR .. | .orR .. | .xorR .. | .shl .. | .shr .. | .sha .. | .lt .. | .ltu .. | .mul .. | .mulh .. => true
  | .adds .. | .subs .. | .minR .. | .maxR .. | .cls .. | .addW .. | .subW .. => true
  | .addk .. | .andk .. | .ork .. | .xork .. | .shlk .. | .shrk .. | .shak .. | .hik .. | .ltk .. => true
  | .pset .. | .pget .. | .mset .. | .mget .. | .sset .. | .ssetImmediate .. | .sget .. | .padd .. => true
  | .cmac .. | .aclr .. | .aadd .. | .asub .. | .aneg .. | .aswap .. | .ald .. => true
  | .mva _ _ _ _ part => decide (part < 3)
  | .drain .. | .strd .. | .stclr .. | .getcore .. => true
  | _ => false

/-- The core that an instruction of `registerOnly` runs on. -/
def coreOfInstr : Instr → Nat
  | .addR c .. | .subR c .. | .andR c .. | .orR c .. | .xorR c .. | .shl c .. | .shr c .. | .sha c .. | .lt c .. | .ltu c .. | .mul c ..
  | .mulh c .. | .adds c .. | .subs c .. | .minR c .. | .maxR c .. | .cls c .. | .addW c .. | .subW c .. => c
  | .addk c .. | .andk c .. | .ork c .. | .xork c .. | .shlk c .. | .shrk c .. | .shak c .. | .hik c .. | .ltk c .. => c
  | .pset c .. | .pget c .. | .mset c .. | .mget c .. | .sset c .. | .ssetImmediate c .. | .sget c .. | .padd c .. => c
  | .cmac c .. | .aclr c .. | .aadd c .. | .asub c .. | .aneg c .. | .aswap c .. | .mva c .. | .ald c .. => c
  | .drain c | .strd c .. | .stclr c | .getcore c .. => c
  | _ => 0

/-- A value of an accumulator part (19 R541). -/
def inAccRange (v : Int) : Prop := ¬ outside 80 v

/-- What every core's registers satisfy: each accumulator part is in the 80-bit range, x0 is unlisted, the registers listed are x1 to x31,
p0 to p7, m0 to m7, s0 to s3 and acc0 to acc3, in canonical form. -/
def CoreWf (k : CoreSt) : Prop :=
  (∀ i, inAccRange (ar k i).re ∧ inAccRange (ar k i).im) ∧
  canonical (0 : BitVec 64) k.b.x = true ∧ k.b.x.all (fun e => decide (0 < e.1 ∧ e.1 < 32)) = true ∧
  canonical (0 : BitVec 32) k.b.p = true ∧ k.b.p.all (fun e => decide (e.1 < 8)) = true ∧
  canonical (0 : BitVec 32) k.b.m = true ∧ k.b.m.all (fun e => decide (e.1 < 8)) = true ∧
  canonical (0 : BitVec 6) k.b.s = true ∧ k.b.s.all (fun e => decide (e.1 < 4)) = true ∧
  canonical ({} : AccV) k.acc = true ∧ k.acc.all (fun e => decide (e.1 < 4)) = true

/-- The same of all cores. -/
def CoresWf (m : Mach) : Prop := ∀ c, CoreWf (coreSt m c)

/-! ## Jobs -/

/-- The job commands with their opcodes (03 R103). -/
def jobCommands : List ((Job → Instr) × Nat) :=
  [(.getInfo, 0x0001), (.setLock, 0x0002), (.getFaultLog, 0x0003), (.resetBlock, 0x0004), (.modelLoad, 0x0010),
   (.modelRead, 0x0011), (.createRing, 0x0101), (.deleteRing, 0x0102), (.routeEvents, 0x0103), (.setCoalesce, 0x0104),
   (.setDmaWindow, 0x0105), (.ladleStats, 0x0301), (.crucStatus, 0x0501), (.movePtp, 0x0601), (.movePath, 0x0602),
   (.moveSpline, 0x0603), (.streamBind, 0x0604), (.feedHold, 0x0605), (.resumeJob, 0x0606), (.overrideJob, 0x0607),
   (.stopJob, 0x0608), (.gearSet, 0x0609), (.gearChangeAt, 0x060A), (.sharedStart, 0x060B), (.axisEnable, 0x0701),
   (.axisDisable, 0x0702), (.tuneInject, 0x0703), (.netStart, 0x0A01), (.modeSwitch, 0x0A02), (.netStatus, 0x0A03),
   (.timedOut, 0x0B01), (.domainSelect, 0x0B02), (.tapArm, 0x0C01), (.tapStop, 0x0C02), (.safeConfig, 0x0D01),
   (.safeMirrorRead, 0x0D02), (.pairSwap, 0x0E01), (.pairStatus, 0x0E02), (.memErrLog, 0x0F01), (.testPerturb, 0x1001)]

/-- The job as the device takes it: its descriptor carries the command's opcode. -/
def asJob (opc : Nat) (j : Job) : Job := { j with desc := { j.desc with opcode := opc } }

/-- The job is due, passes the checks that hold for every job, and does not wait for the other manager of a pair (03 R87, R88, 17 R494). -/
def JobRuns (opc : Nat) (j : Job) (m : Mach) : Prop :=
  jobWaits m (asJob opc j) = false ∧ descCheck m (asJob opc j).desc = none ∧ mirrors m = false

/-- The job completes in machine `m'` with a status, a result and, where it waits for one, the cycle whose commit its entry waits for. -/
def jobEnds (s : State) (opc : Nat) (j : Job) (m' : Mach) (status result : Nat) (effect : Option Nat) (detail : Nat := 0) : Out :=
  .next { s with m := finishJob m' (asJob opc j) status result effect detail }

/-- The job fails in machine `m'` with no parameter at fault; the completion keeps the DETAIL of its code (03 R90, entry 88). -/
def jobFails (s : State) (opc : Nat) (j : Job) (m' : Mach) (status detail : Nat) : Out :=
  jobEnds s opc j m' status 0xFFFFFFFF none (detail % 2 ^ 32)

/-- Data out (03 R680): at most DATA_LEN bytes go to DATA_ADDR. -/
def putsOut (m : Mach) (j : Job) (l : List Nat) : Mach :=
  if j.desc.dataLen = 0 then m else { m with out := { m.out with host := m.out.host ++ [(j.desc.dataAddr, l.take j.desc.dataLen)] } }

end Sys2Proof.Machine
end

