-- ==== Sys2Proof/Certificates/Slice0/Obligations.lean ====
section
/-! DEFINITION. The statements for the provers, family by family. -/

section
open Sys2Proof Sys2Proof.Machine

/-- An integer instruction on two registers retires with its result in rd (x0 discards it) and changes nothing else but the PC (19 R539, R552,
R553). An instruction with a 16-bit constant retires with its result in rd and changes nothing else but the PC: the constant is
sign-extended, zero-extended for ANDK, ORK and XORK, and the shifts take its low 6 bits (19 R551, R552). -/
def Obligations.IntegerInstructionsRetire : Prop :=
  (∀ (c rd rs1 rs2 : Nat) (s : State), CoreReady s.m c →
    let a := xr (regsAt s.m c) rs1
    let b := xr (regsAt s.m c) rs2
    let n := b.toNat % 64
    exec (.addR c rd rs1 rs2) s = writesRd s c rd (a + b) ∧
    exec (.subR c rd rs1 rs2) s = writesRd s c rd (a - b) ∧
    exec (.andR c rd rs1 rs2) s = writesRd s c rd (a &&& b) ∧
    exec (.orR c rd rs1 rs2) s = writesRd s c rd (a ||| b) ∧
    exec (.xorR c rd rs1 rs2) s = writesRd s c rd (a ^^^ b) ∧
    exec (.shl c rd rs1 rs2) s = writesRd s c rd (a <<< n) ∧
    exec (.shr c rd rs1 rs2) s = writesRd s c rd (a >>> n) ∧
    exec (.sha c rd rs1 rs2) s = writesRd s c rd (a.sshiftRight n) ∧
    exec (.lt c rd rs1 rs2) s = writesRd s c rd (if a.toInt < b.toInt then 1 else 0) ∧
    exec (.ltu c rd rs1 rs2) s = writesRd s c rd (if a.toNat < b.toNat then 1 else 0) ∧
    exec (.minR c rd rs1 rs2) s = writesRd s c rd (if a.toInt < b.toInt then a else b) ∧
    exec (.maxR c rd rs1 rs2) s = writesRd s c rd (if a.toInt < b.toInt then b else a) ∧
    exec (.mul c rd rs1 rs2) s = writesRd s c rd (a * b) ∧
    exec (.addW c rd rs1 rs2) s = writesRd s c rd ((a.setWidth 32 + b.setWidth 32).signExtend 64) ∧
    exec (.subW c rd rs1 rs2) s = writesRd s c rd ((a.setWidth 32 - b.setWidth 32).signExtend 64)) ∧
  (∀ (c rd rs1 k : Nat) (s : State), CoreReady s.m c →
    let a := xr (regsAt s.m c) rs1
    let ks := (BitVec.ofNat 16 k).signExtend 64
    let kz := (BitVec.ofNat 16 k).zeroExtend 64
    exec (.addk c rd rs1 k) s = writesRd s c rd (a + ks) ∧
    exec (.andk c rd rs1 k) s = writesRd s c rd (a &&& kz) ∧
    exec (.ork c rd rs1 k) s = writesRd s c rd (a ||| kz) ∧
    exec (.xork c rd rs1 k) s = writesRd s c rd (a ^^^ kz) ∧
    exec (.shlk c rd rs1 k) s = writesRd s c rd (a <<< (k % 64)) ∧
    exec (.shrk c rd rs1 k) s = writesRd s c rd (a >>> (k % 64)) ∧
    exec (.shak c rd rs1 k) s = writesRd s c rd (a.sshiftRight (k % 64)) ∧
    exec (.hik c rd k) s = writesRd s c rd (ks <<< 16) ∧
    exec (.ltk c rd rs1 k) s = writesRd s c rd (if a.toInt < ks.toInt then 1 else 0))

/-- MULH retires with bits [127:64] of the signed product in rd (19 R539). CLS retires with the number n of leading bits of rs1 that equal bit
63, without that bit: the n bits below bit 63 equal it, and the next one does not unless n is 63 (19 R553). ADDS and SUBS retire with the
exact sum or difference held in the signed 64-bit range; OVF of ST is set where the exact result lies outside it and else keeps its value
(19 R539, R544). -/
def Obligations.WideAndSaturatingArithmetic : Prop :=
  (∀ (c rd rs1 rs2 : Nat) (s : State), CoreReady s.m c →
    exec (.mulh c rd rs1 rs2) s = writesRd s c rd
      (((xr (regsAt s.m c) rs1).signExtend 128 * (xr (regsAt s.m c) rs2).signExtend 128).extractLsb' 64 64)) ∧
  (∀ (c rd rs1 : Nat) (s : State), CoreReady s.m c →
    let x := xr (regsAt s.m c) rs1
    ∃ n : Nat, exec (.cls c rd rs1) s = writesRd s c rd (BitVec.ofNat 64 n) ∧ n ≤ 63 ∧
      (∀ i, i < n → x.getLsbD (62 - i) = x.getLsbD 63) ∧ (n < 63 → x.getLsbD (62 - n) ≠ x.getLsbD 63)) ∧
  (∀ (c rd rs1 rs2 : Nat) (s : State), CoreReady s.m c →
    let q := regsAt s.m c
    let a := (xr q rs1).toInt
    let b := (xr q rs2).toInt
    let gives (i : Instr) (v : Int) : Prop :=
      ∃ o : Bool, exec i s = retires s c (withOvf (xw q rd (BitVec.ofInt 64 (heldTo 64 v))) o) (atInstr s.m c) ∧
        (o = true ↔ q.b.ovf = true ∨ outside 64 v)
    gives (.adds c rd rs1 rs2) (a + b) ∧ gives (.subs c rd rs1 rs2) (a - b))

/-- A register write reads back, leaves every other register, and is discarded by x0, which reads 0 (19 R535); pointers, offsets, scales and
accumulators likewise. -/
def Obligations.CoreRegistersHoldWhatIsWritten : Prop :=
  ∀ (k : CoreSt) (i j : Nat), i < 32 → j < 32 →
    (∀ v, xr (xw k i v) j = if j = 0 then 0 else if i = j then v else xr k j) ∧
    (∀ v, (xw k i v).acc = k.acc ∧ (xw k i v).pc = k.pc ∧ (xw k i v).b = { k.b with x := (xw k i v).b.x }) ∧
    (i < 8 → j < 8 → ∀ v, pr (pw k i v) j = (if i = j then v else pr k j) ∧ mr (mw k i v) j = (if i = j then v else mr k j)) ∧
    (i < 4 → j < 4 → ∀ v, sr (sw k i v) j = if i = j then v else sr k j) ∧
    (i < 4 → j < 4 → ∀ v, ar (aw k i v) j = if i = j then v else ar k j)

/-- A load takes base plus sign-extended offset, or the pointer, which it then post-modifies with PM; the value goes to rd extended by its sign,
or by zeros for the U forms; a failed access faults and nothing else happens (19 R545, R549, R552). A store writes the low bytes of its
source at base plus sign-extended offset, or at the pointer, which it then post-modifies with PM; a failed access faults and nothing else
happens (19 R545, R549, R552). A store of a core to its own local memory changes the bytes stored to and no other: each of the `n` bytes at
the address holds its little-endian byte of the value, every other address reads as before (19 R545, R546; the frame of a store). An access
fails before it leaves the core: with cause ALIGN where its address is no multiple of its size, with cause ACCESS where the map denies it;
no byte of memory changes (19 R545, R546, R549). -/
def Obligations.LoadsAndStores : Prop :=
  (∀ (c rd rs1 k p : Nat) (pm u : Bool) (s : State), CoreReady s.m c →
    let m := atInstr s.m c
    let q := regsAt s.m c
    let ea := ((xr q rs1).setWidth 32 + (BitVec.ofNat 16 k).signExtend 32).toNat
    let ld (a n : Nat) (f : Nat → CoreSt) : Out :=
      accesses s c (loadMem c q m.sup.userMode a n m) (fun v m' => retires s c (f v) m')
    exec (.ldB c rd rs1 k) s = ld ea 1 (fun v => xw q rd ((BitVec.ofNat 8 v).signExtend 64)) ∧
    exec (.ldH c rd rs1 k) s = ld ea 2 (fun v => xw q rd ((BitVec.ofNat 16 v).signExtend 64)) ∧
    exec (.ldW c rd rs1 k) s = ld ea 4 (fun v => xw q rd ((BitVec.ofNat 32 v).signExtend 64)) ∧
    exec (.ldD c rd rs1 k) s = ld ea 8 (fun v => xw q rd (BitVec.ofNat 64 v)) ∧
    exec (.ldBu c rd rs1 k) s = ld ea 1 (fun v => xw q rd (BitVec.ofNat 64 v)) ∧
    exec (.ldHu c rd rs1 k) s = ld ea 2 (fun v => xw q rd (BitVec.ofNat 64 v)) ∧
    exec (.ldWu c rd rs1 k) s = ld ea 4 (fun v => xw q rd (BitVec.ofNat 64 v)) ∧
    (let post := if pm then pw q p (pr q p + mr q p) else q
     exec (.pld c rd p pm 0 u) s = ld (pr q p).toNat 1 (fun v => xw post rd (extend 1 u v)) ∧
     exec (.pld c rd p pm 1 u) s = ld (pr q p).toNat 2 (fun v => xw post rd (extend 2 u v)) ∧
     exec (.pld c rd p pm 2 u) s = ld (pr q p).toNat 4 (fun v => xw post rd (extend 4 u v)) ∧
     exec (.pld c rd p pm 3 u) s = ld (pr q p).toNat 8 (fun v => xw post rd (extend 8 u v)))) ∧
  (∀ (c src rs1 k p : Nat) (pm : Bool) (s : State), CoreReady s.m c →
    let m := atInstr s.m c
    let q := regsAt s.m c
    let ea := ((xr q rs1).setWidth 32 + (BitVec.ofNat 16 k).signExtend 32).toNat
    let x := (xr q src).toNat
    let st (a n v : Nat) (r : CoreSt) : Out :=
      accesses s c (storeMem c q m.sup.userMode a n v m) (fun _ m' => retires s c r m')
    let post := if pm then pw q p (pr q p + mr q p) else q
    exec (.stB c src rs1 k) s = st ea 1 (x % 2 ^ 8) q ∧
    exec (.stH c src rs1 k) s = st ea 2 (x % 2 ^ 16) q ∧
    exec (.stW c src rs1 k) s = st ea 4 (x % 2 ^ 32) q ∧
    exec (.stD c src rs1 k) s = st ea 8 x q ∧
    exec (.pst c src p pm 0) s = st (pr q p).toNat 1 (x % 2 ^ 8) post ∧
    exec (.pst c src p pm 1) s = st (pr q p).toNat 2 (x % 2 ^ 16) post ∧
    exec (.pst c src p pm 2) s = st (pr q p).toNat 4 (x % 2 ^ 32) post ∧
    exec (.pst c src p pm 3) s = st (pr q p).toNat 8 x post) ∧
  (∀ (c a n v : Nat) (k : CoreSt) (user : Bool) (m : Mach), Memory.wf m.mem = true → isLocal c a = true →
    accessFault m c k user true a n = none → (∀ w ∈ wordsIn a n, flipsOf m w = []) →
    ∃ m', storeMem c k user a n v m = .ok 0 m' ∧ Memory.wf m'.mem = true ∧
      (∀ i, i < n → rdByte m' (a + i) = v / 256 ^ i % 256) ∧
      (∀ b, (b < a ∨ a + n ≤ b) → rdByte m' b = rdByte m b)) ∧
  (∀ (c a n v : Nat) (k : CoreSt) (user : Bool) (m : Mach),
    (a % n ≠ 0 → loadMem c k user a n m = .bad 2 a m ∧ storeMem c k user a n v m = .bad 2 a m) ∧
    (a % n = 0 → mapAllows m c k true a n = false →
      ∃ m', storeMem c k user a n v m = .bad 3 a m' ∧ m'.mem = m.mem ∧ m'.cores = m.cores) ∧
    (a % n = 0 → mapAllows m c k false a n = false →
      ∃ m', loadMem c k user a n m = .bad 3 a m' ∧ m'.mem = m.mem ∧ m'.cores = m.cores))

/-- PSET, PGET, MSET, MGET, SSET, SGET and PADD move between the general and the pointer, offset and scale registers and retire; a scale value
is taken modulo 64 (19 R543, R553). -/
def Obligations.PointerOffsetAndScaleMovesRetire : Prop :=
  ∀ (c k rs1 rd sh : Nat) (s : State), CoreReady s.m c →
    let q := regsAt s.m c
    let x := (xr q rs1).setWidth 32
    exec (.pset c k rs1) s = retires s c (pw q k x) (atInstr s.m c) ∧
    exec (.pget c rd k) s = writesRd s c rd ((pr q k).zeroExtend 64) ∧
    exec (.mset c k rs1) s = retires s c (mw q k x) (atInstr s.m c) ∧
    exec (.mget c rd k) s = writesRd s c rd ((mr q k).signExtend 64) ∧
    exec (.sset c k rs1) s = retires s c (sw q k (BitVec.ofNat 6 ((xr q rs1).toNat % 64))) (atInstr s.m c) ∧
    exec (.ssetImmediate c k sh) s = retires s c (sw q k (BitVec.ofNat 6 (sh % 64))) (atInstr s.m c) ∧
    exec (.sget c rd k) s = writesRd s c rd ((sr q k).zeroExtend 64) ∧
    exec (.padd c k rs1) s = retires s c (pw q k (pr q k + x)) (atInstr s.m c)

/-- A branch goes to the PC plus four times its signed offset where its comparison holds, and on in order where it does not; CALL and CALLR link
the PC plus 4 and jump; a taken transfer ends an active loop, and a target not aligned to 4 B is a fault (19 R548, R549, R552). LOOP rs1, N
sets LC to bits [31:0] of rs1, LS to the body's first address and LE to its end; a count of 0 skips the body; inside an active body it is
illegal. In a body, the last instruction returns to LS while passes are left, and execution goes on after the body at the end of the last
one (19 R548). -/
def Obligations.BranchesCallsAndLoops : Prop :=
  (∀ (c rs1 rs2 off rd k : Nat) (s : State), CoreReady s.m c →
    let q := regsAt s.m c
    let a := xr q rs1
    let b := xr q rs2
    let br (t : Prop) [Decidable t] : Out :=
      if t then jumps s c q (q.pc + (BitVec.ofNat 16 off).signExtend 32 * 4) else retires s c q (atInstr s.m c)
    let link (r : Nat) : CoreSt := xw q r ((q.pc + 4).zeroExtend 64)
    exec (.brEq c rs1 rs2 off) s = br (a = b) ∧
    exec (.brNe c rs1 rs2 off) s = br (a ≠ b) ∧
    exec (.brLt c rs1 rs2 off) s = br (a.toInt < b.toInt) ∧
    exec (.brGe c rs1 rs2 off) s = br (b.toInt ≤ a.toInt) ∧
    exec (.brLtu c rs1 rs2 off) s = br (a.toNat < b.toNat) ∧
    exec (.brGeu c rs1 rs2 off) s = br (b.toNat ≤ a.toNat) ∧
    exec (.callR c off) s = jumps s c (link 31) (q.pc + (BitVec.ofNat 26 off).signExtend 32 * 4) ∧
    exec (.callr c rd rs1 k) s = jumps s c (link rd) ((xr q rs1).setWidth 32 + (BitVec.ofNat 16 k).signExtend 32)) ∧
  (∀ (c rs1 n : Nat) (s : State), CoreReady s.m c → 1 ≤ n → n ≤ 64 →
    let q := regsAt s.m c
    let cnt := (xr q rs1).setWidth 32
    let first := q.pc + 4
    let end_ := first + BitVec.ofNat 32 (4 * n)
    let active : Prop := q.b.lc ≠ 0 ∧ q.b.ls.toNat ≤ q.pc.toNat ∧ q.pc.toNat < q.b.le.toNat
    (¬ active → cnt = 0 → exec (.loopR c rs1 n) s = .next { s with m := putCore (atInstr s.m c) c { q with pc := end_ } }) ∧
    (¬ active → cnt ≠ 0 → exec (.loopR c rs1 n) s =
      .next { s with m := putCore (atInstr s.m c) c { q with pc := first, b := { q.b with lc := cnt, ls := first, le := end_ } } }) ∧
    (active → ∃ w, exec (.loopR c rs1 n) s = faults s c 1 w (atInstr s.m c)) ∧
    (q.b.lc ≠ 0 → first = q.b.le →
      (advance q).b.lc = q.b.lc - 1 ∧ (advance q).pc = (if q.b.lc = 1 then first else q.b.ls)) ∧
    (q.b.lc = 0 ∨ first ≠ q.b.le → advance q = { q with pc := first }))

/-- CMAC adds to the named accumulator the sums of products that its mode gives, subtracted with NEG, over a cleared part with CLR; a part that
the mode does not write is unchanged; a part that would leave [-2^79, 2^79) is set to the nearer bound with AOVF (19 R540, R541). CMAC.P
reads its operands, 8 B each and aligned, at two pointers in the core's own data memory; each pointer with its PM bit is post-modified after
both reads; an operand address elsewhere faults with cause ACCESS, a misaligned one with ALIGN (19 R545, R546, R552). -/
def Obligations.MultiplyAccumulate : Prop :=
  (∀ (c a mode rs1 rs2 : Nat) (neg clr : Bool) (s : State), CoreReady s.m c → mode < 4 →
    let q := regsAt s.m c
    let x := xr q rs1
    let y := xr q rs2
    let xre := (x.setWidth 32).toInt
    let xim := (x.extractLsb' 32 32).toInt
    let yre := (y.setWidth 32).toInt
    let yim := (y.extractLsb' 32 32).toInt
    let tre : Int := if mode = 0 then xre * yre - xim * yim else if mode = 1 then xre * yre + xim * yim else xre * yre
    let tim : Int := if mode = 0 then xre * yim + xim * yre else if mode = 1 then xim * yre - xre * yim else xim * yim
    let sum (old t : Int) : Int := (if clr then 0 else old) + (if neg then -t else t)
    let re := sum (ar q a).re tre
    let im := sum (ar q a).im tim
    (mode ≠ 3 → writesAcc s c (.cmac c a mode neg clr rs1 rs2) q a re im) ∧
    (mode = 3 → ∃ o : Bool, exec (.cmac c a mode neg clr rs1 rs2) s =
        retires s c (withAovf (aw q a { re := heldTo 80 re, im := (ar q a).im }) o) (atInstr s.m c) ∧
      (o = true ↔ q.b.aovf = true ∨ outside 80 re))) ∧
  (∀ (c a mode pa pb : Nat) (neg clr pma pmb : Bool) (s : State), CoreReady s.m c →
    let q := regsAt s.m c
    let m := atInstr s.m c
    let u := (pr q pa).toNat
    let v := (pr q pb).toNat
    let post (k : CoreSt) (i : Nat) (pm : Bool) : CoreSt := if pm then pw k i (pr k i + mr k i) else k
    let cm := Instr.cmacP c a mode neg clr pa pb pma pmb
    (u % 8 ≠ 0 → exec cm s = faults s c 2 u m) ∧
    (u % 8 = 0 → isLocal c u = false → ∃ m', exec cm s = faults s c 3 u m' ∧ m'.mem = m.mem) ∧
    (∀ x y m1 m2, u % 8 = 0 → isLocal c u = true → v % 8 = 0 → isLocal c v = true →
      loadMem c q m.sup.userMode u 8 m = .ok x m1 → loadMem c q m1.sup.userMode v 8 m1 = .ok y m2 →
      exec cm s = retires s c (macAcc (post (post q pa pma) pb pmb) a mode neg clr (BitVec.ofNat 64 x) (BitVec.ofNat 64 y)) m2))

/-- ACLR, AADD, ASUB, ANEG and ASWAP retire with the accumulator computed part by part; a part that would leave the 80-bit range is set to the
nearer bound and AOVF is set (19 R541, R553). MVA shifts an accumulator right by SHIFT, rounds convergently and saturates: PART 0 packs both
parts with 32 bits each, PART 1 takes RE and PART 2 IM with 64 bits; a saturation sets OVF, the accumulator is unchanged; PART 3 is illegal.
The rounded value lies within one half of the exact one, and is even where it lies just between two integers (19 R542, 05 R158). ALD loads
both 32-bit parts of a register, shifted left by SHIFT, into an accumulator, and sets AOVF where a part leaves the 80-bit range; ALD, then
MVA of PART 0 with the same scale register, gives back the register for every value that fits (19 R542). -/
def Obligations.AccumulatorInstructions : Prop :=
  (∀ (c a b : Nat) (s : State), CoreReady s.m c →
    let q := regsAt s.m c
    let x := ar q a
    let y := ar q b
    exec (.aclr c a) s = retires s c (aw q a { re := 0, im := 0 }) (atInstr s.m c) ∧
    writesAcc s c (.aadd c a b) q a (x.re + y.re) (x.im + y.im) ∧
    writesAcc s c (.asub c a b) q a (x.re - y.re) (x.im - y.im) ∧
    writesAcc s c (.aneg c a) q a (-x.re) (-x.im) ∧
    exec (.aswap c a) s = retires s c (aw q a { re := x.im, im := x.re }) (atInstr s.m c)) ∧
  (∀ (c rd a sc : Nat) (s : State), CoreReady s.m c →
    let q := regsAt s.m c
    let d : Int := 2 ^ (sr q sc).toNat
    let rounded (v r : Int) : Prop := d * (2 * r - 1) ≤ 2 * v ∧ 2 * v ≤ d * (2 * r + 1) ∧ ((2 * v = d * (2 * r - 1) ∨ 2 * v = d * (2 * r + 1)) → r % 2 = 0)
    let moves (part : Nat) (v : BitVec 64) (hit : Prop) : Prop :=
      ∃ o : Bool, exec (.mva c rd a sc part) s = retires s c (withOvf (xw q rd v) o) (atInstr s.m c) ∧ (o = true ↔ q.b.ovf = true ∨ hit)
    ∃ re im : Int, rounded (ar q a).re re ∧ rounded (ar q a).im im ∧
      moves 0 (BitVec.ofInt 32 (heldTo 32 im) ++ BitVec.ofInt 32 (heldTo 32 re)) (outside 32 re ∨ outside 32 im) ∧
      moves 1 (BitVec.ofInt 64 (heldTo 64 re)) (outside 64 re) ∧
      moves 2 (BitVec.ofInt 64 (heldTo 64 im)) (outside 64 im) ∧
      (∃ w, exec (.mva c rd a sc 3) s = faults s c 1 w (atInstr s.m c))) ∧
  (∀ (c rd a sc : Nat) (s : State), CoreReady s.m c →
    let q := regsAt s.m c
    let x := xr q rd
    let re := (x.setWidth 32).toInt * 2 ^ (sr q sc).toNat
    let im := (x.extractLsb' 32 32).toInt * 2 ^ (sr q sc).toNat
    writesAcc s c (.ald c a sc rd) q a re im ∧
    (¬ outside 80 re → ¬ outside 80 im → ∀ t o, CoreReady t.m c →
      regsAt t.m c = advance (withAovf (aw q a { re := heldTo 80 re, im := heldTo 80 im }) o) →
      ∀ r, exec (.mva c r a sc 0) t = writesRd t c r x))

/-- DRAIN, STRD, STCLR, GETCYC, GETTIME and GETCORE retire: rd takes ST, the core cycles since the item's first instruction (or the supervisor's
reset), the cell time, or the core's number with 0x40 for the supervisor; STCLR clears OVF and AOVF (19 R544, R553). TRAP faults a pool core
with cause TRAP, and is an exception of the supervisor; DONE at instant t ends the item that runs on a pool core, which leaves the Ladle
with its core idle and its registers gone (18 R522, 19 R537, R549, R553). -/
def Obligations.SystemInstructionsTrapAndDone : Prop :=
  (∀ (c rd t : Nat) (s : State), CoreReady s.m c →
    let q := regsAt s.m c
    let m := atInstr s.m c
    exec (.drain c) s = retires s c q m ∧
    exec (.strd c rd) s = writesRd s c rd
      (BitVec.ofNat 64 ((if q.b.ovf then 1 else 0) + (if q.b.aovf then 2 else 0) + (if q.b.lc = 0 then 0 else 4))) ∧
    exec (.stclr c) s = retires s c { q with b := { q.b with ovf := false, aovf := false } } m ∧
    exec (.getcore c rd) s = writesRd s c rd (BitVec.ofNat 64 (if c = 32 then 0x40 else c)) ∧
    exec (.gettime c rd t) s = retires s c (xw q rd (BitVec.ofNat 64 (max m.cyc.now t))) (at' m t) ∧
    (∀ f since, c < 32 → running m c = some (f, since) →
      exec (.getcyc c rd t) s = retires s c (xw q rd (BitVec.ofNat 64 (t - 2 * since))) (at' m (t / 2))) ∧
    (c = 32 → exec (.getcyc c rd t) s = retires s c (xw q rd (BitVec.ofNat 64 (t - m.sup.t0))) (at' m (t / 2)))) ∧
  (∀ (c t : Nat) (s : State), CoreReady s.m c →
    exec (.trapR c) s = faults s c 6 (regsAt s.m c).pc.toNat (atInstr s.m c) ∧
    (c < 32 → ∀ f since, running s.m c = some (f, since) → f.it.succs = [] →
      ∃ m', exec (.doneR c t) s = .next { s with m := m' } ∧ (∀ x ∈ m'.ladle.items, x.num ≠ f.num) ∧
        m'.cores = sdel s.m.cores c ∧ (getF m' CORE_RUN_RUN).testBit c = false ∧ getF m' LADLE_CORE_BUSY_ITEM c = 0xFFFF ∧
        m'.cyc.now = max s.m.cyc.now t))

/-- A fault of a pool core latches the cause, the kernel, the PC offset and, for ALIGN, ACCESS and POISON, the address in the core's registers,
sets FAULT, and takes the item off the core (18 R522, 19 R549, R561). RUN_LIMIT_EXPIRY stops the item on a core at its limit: the core
latches cause LIMIT, OVERRUN and FAULT are set, and the item leaves the Ladle; without an item it changes nothing (18 R522, 19 R549). -/
def Obligations.PoolCoreFaultsAndRunLimits : Prop :=
  (∀ (c cause addr : Nat) (m : Mach) (f : Flight) (since : Nat), c < 32 → 1 ≤ cause → cause < 8 → running m c = some (f, since) →
    f.it.succs = [] → f.it.target < 1024 →
    let m' := raise c cause addr m
    getF m' CORE_FSTAT_CAUSE c = cause ∧ getF m' CORE_FSTAT_KERNEL c = f.it.target ∧
    getF m' CORE_FPC_PC c = (coreSt m c).pc.toNat % 2 ^ 15 ∧
    getF m' CORE_FADDR_ADDR c = (if cause = 2 ∨ cause = 3 ∨ cause = 4 then addr % 2 ^ 32 else 0) ∧
    getF m' CORE_FLAGS_FAULT = 1 ∧ m'.cores = sdel m.cores c ∧ ∀ x ∈ m'.ladle.items, x.num ≠ f.num) ∧
  (∀ (c : Nat) (s : State), c < 32 →
    (running s.m c = none → exec (.runLimitExpiry c) s = .next s) ∧
    (∀ f since, running s.m c = some (f, since) → f.it.succs = [] → ∃ m', exec (.runLimitExpiry c) s = .next { s with m := m' } ∧
      getF m' CORE_FSTAT_CAUSE c = 7 ∧ getF m' LADLE_FLAGS_OVERRUN = 1 ∧ getF m' LADLE_FLAGS_FAULT = 1 ∧ m'.cores = sdel s.m.cores c ∧
      (∀ x ∈ m'.ladle.items, x.num ≠ f.num) ∧ m'.cyc.now = max s.m.cyc.now (since + ceilDiv (runLimit s.m f) 2)))

/-- The Ladle instructions write rd with 0 or a cause, and do what their action says: LSIG decrements, LSET sets a dynamic counter, LCNT reads,
LSUB submits a descriptor in scratch, LSUBT a template (19 R550). -/
def Obligations.LadleInstructions : Prop :=
  ∀ (c rd rs1 rs2 : Nat) (s : State), CoreReady s.m c → c < 32 →
    let q := regsAt s.m c
    let m := atInstr s.m c
    let i := (xr q rs1).toNat
    let v := (xr q rs2).toNat % 2 ^ 16
    let answers (n : Nat) (m' : Mach) : Out := retires s c (xw q rd (BitVec.ofNat 64 n)) m'
    (4096 ≤ i → exec (.lsig c rd rs1 rs2) s = answers 1 m ∧ exec (.lset c rd rs1 rs2) s = answers 1 m ∧
      exec (.lcnt c rd rs1) s = answers 0xFFFFFFFF m) ∧
    (i < 4096 → feature m 1 = true → tagGone m c = false →
      exec (.lsig c rd rs1 rs2) s = answers 0 (decAll m (List.replicate v i)) ∧
      (graphCounter m i = false → exec (.lset c rd rs1 rs2) s = answers 0 (setCounter m i v)) ∧
      (graphCounter m i = true → exec (.lset c rd rs1 rs2) s = answers 3 m)) ∧
    (i < 4096 → feature m 1 = false → graphCounter m i = false →
      exec (.lsig c rd rs1 rs2) s = answers 2 m ∧ exec (.lset c rd rs1 rs2) s = answers 2 m) ∧
    (i < 4096 → exec (.lcnt c rd rs1) s = answers (counter m i) m) ∧
    (i % 32 = 0 → 0x50000000 + 0x10000 * c + 0xC000 ≤ i → i < 0x50000000 + 0x10000 * (c + 1) →
      let r := submit m (rdBytes m i 32) (itemOf (rdBytes m i 32) []) false q.user
      exec (.lsub c rd rs1) s = answers r.2 r.1) ∧
    (i % 32 ≠ 0 ∨ i < 0x50000000 + 0x10000 * c + 0xC000 ∨ 0x50000000 + 0x10000 * (c + 1) ≤ i → exec (.lsub c rd rs1) s = answers 8 m) ∧
    (i < field (sec m.mould.image 9) 4 4 ∨ (graphRaw m.mould.image).length ≤ i → exec (.lsubt c rd rs1 rs2) s = answers 8 m) ∧
    (field (sec m.mould.image 9) 4 4 ≤ i → i < (graphRaw m.mould.image).length →
      let d := (graphRaw m.mould.image).getD i []
      let ext := ((graphRaw m.mould.image).drop (i + 1)).takeWhile (fun e => field e 0 1 == 4)
      let r := submit m d { itemOf d ext with arg := (xr q rs2).toNat % 2 ^ 32 } true q.user
      exec (.lsubt c rd rs1 rs2) s = answers r.2 r.1)

/-- A privileged instruction on a pool core, or in user mode on the supervisor, is illegal: it takes the fault or the exception with cause
ILLEGAL and its own word, and has none of its effect (19 R549, R552, R554). In privileged mode RDSR retires with a system register in rd and
WRSR with it written: CSTAT, XBASE (aligned to 64 B), NRA, FRA, the bounds of UREG (aligned to 32 B, bits [2:0] of a base being R, W, X),
LC, LS, LE; XCAUSE and XDATA are only read, any other number is illegal (19 R552, R554). -/
def Obligations.PrivilegedInstructionsAndSystemRegisters : Prop :=
  (∀ (c rd rs1 num : Nat) (s : State), CoreReady s.m c → (c ≠ 32 ∨ (atInstr s.m c).sup.userMode = true) →
    ∀ i, i = Instr.rdsr c rd num ∨ i = Instr.wrsr c rs1 num ∨ i = Instr.retn c ∨ i = Instr.retf c ∨ i = Instr.idleR c ∨ i = Instr.entu c rs1 →
      ∃ w, exec i s = faults s c 1 w (atInstr s.m c)) ∧
  (∀ (rd rs1 : Nat) (s : State), CoreReady s.m 32 → (atInstr s.m 32).sup.userMode = false →
    let q := regsAt s.m 32
    let m := atInstr s.m 32
    let p := m.sup
    let x := (xr q rs1).setWidth 32
    let reads (num v : Nat) : Prop := exec (.rdsr 32 rd num) s = writesRd s 32 rd (BitVec.ofNat 64 v)
    let writes (num : Nat) (p' : SupSt) : Prop := exec (.wrsr 32 rs1 num) s = retires s 32 q { m with sup := p' }
    let bit (b : Bool) (n : Nat) : Nat := if b then 2 ^ n else 0
    reads 0 (bit p.userMode 0 + bit p.pUser 1 + bit p.nie 2 + bit p.fie 3 + bit p.inN 4 + bit p.inF 5) ∧
    reads 1 p.xcause ∧ reads 2 p.xdata.toNat ∧ reads 3 p.xbase.toNat ∧ reads 4 p.nra.toNat ∧ reads 5 p.fra.toNat ∧
    reads 0x20 q.b.lc.toNat ∧ reads 0x21 q.b.ls.toNat ∧ reads 0x22 q.b.le.toNat ∧
    (∀ k, k < 8 → reads (0x10 + k) (sget p.ureg (0x10 + k) 0).toNat) ∧
    writes 0 { p with userMode := x.getLsbD 0, pUser := x.getLsbD 1, nie := x.getLsbD 2, fie := x.getLsbD 3, inN := x.getLsbD 4, inF := x.getLsbD 5 } ∧
    writes 3 { p with xbase := x &&& 0xFFFFFFC0 } ∧ writes 4 { p with nra := x } ∧ writes 5 { p with fra := x } ∧
    (∀ k, k < 4 → writes (0x10 + 2 * k) { p with ureg := sput p.ureg (0x10 + 2 * k) (x &&& 0xFFFFFFE7) 0 } ∧
      writes (0x11 + 2 * k) { p with ureg := sput p.ureg (0x11 + 2 * k) (x &&& 0xFFFFFFE0) 0 }) ∧
    exec (.wrsr 32 rs1 0x20) s = retires s 32 { q with b := { q.b with lc := x } } m ∧
    exec (.wrsr 32 rs1 0x21) s = retires s 32 { q with b := { q.b with ls := x } } m ∧
    exec (.wrsr 32 rs1 0x22) s = retires s 32 { q with b := { q.b with le := x } } m ∧
    (∀ num, num = 1 ∨ num = 2 ∨ 5 < num ∧ num < 0x10 ∨ 0x17 < num ∧ num < 0x20 ∨ 0x22 < num ∧ num < 4096 →
      (∃ w, exec (.wrsr 32 rs1 num) s = faults s 32 1 w m) ∧ (2 < num → ∃ w, exec (.rdsr 32 rd num) s = faults s 32 1 w m)))

/-- The normal class enters where its request line is asserted, it is enabled and no handler is active: NRA takes the PC, PMODE the mode, the
core goes to privileged mode with IN_NORMAL and to XBASE + 0x100; NRA, ST, x31, x4 to x8 are pushed at x30 - 64, which x30 becomes; a push
that fails is a double fault (19 R555, R556, 21 R595, R598). Where the stack is in the supervisor's own memory the eight values stand there
and no other byte has changed. The fast class enters at once where its request line is asserted, it is enabled and no fast handler is
active: FRA takes the PC, PMODE the mode, the core goes to privileged mode with IN_FAST, to XBASE + 0x200 and to the fast bank, and saves
nothing (19 R555, 21 R595, R596). A supervisor that idles first retires its IDLE (21 R598). A class that may not enter changes nothing
else. RETF returns to FRA in the mode before the entry and gives back the bank in use before it: after a fast entry the supervisor's
registers are as they were (19 R555, 21 R595). -/
def Obligations.InterruptEntries : Prop :=
  (∀ (s : State), let m := atInstr s.m 32
    let k := regsAt s.m 32
    let sp := xr k 30 - 64
    let m1 : Mach := { m with sup := { m.sup with nra := k.pc, pUser := m.sup.userMode, userMode := false, inN := true } }
    let due := reqLine m 0 = true ∧ m.sup.nie = true ∧ m.sup.inN = false ∧ m.sup.inF = false
    let frame := [k.pc.toNat, stOf k.b, (xr k 31).toNat, (xr k 4).toNat, (xr k 5).toNat, (xr k 6).toNat, (xr k 7).toNat, (xr k 8).toNat]
    let pushed := pushAll k (sp.toNat % 2 ^ 32) frame m1
    (supRuns s.m = false → exec .normalEntry s = .next s ∧ exec .fastEntry s = .next s) ∧
    (supRuns s.m = true → ¬ due → exec .normalEntry s = .next { s with m := m }) ∧
    (supRuns s.m = true → due →
      (∀ m2, pushed = some m2 → exec .normalEntry s = .next { s with m := putCore m2 32 { xw k 30 sp with pc := m2.sup.xbase + 0x100 } }) ∧
      (pushed = none → exec .normalEntry s = .next { s with m := doubleFault m1 }) ∧
      (Memory.wf m.mem = true → sp.toNat % 8 = 0 → sp.toNat + 64 ≤ 0x100000 → (∀ w, w < 0x100000 → flipsOf m w = []) →
        ∃ m', exec .normalEntry s = .next { s with m := m' } ∧
          m'.sup = { m.sup with nra := k.pc, pUser := m.sup.userMode, userMode := false, inN := true } ∧
          coreSt m' 32 = { xw k 30 sp with pc := m.sup.xbase + 0x100 } ∧
          (∀ i, i < 8 → rdVal m' (sp.toNat + 8 * i) 8 = frame.getD i 0) ∧
          (∀ a, a < sp.toNat ∨ sp.toNat + 64 ≤ a → rdByte m' a = rdByte m a) ∧ m'.regs = m.regs ∧ m'.intc = m.intc))) ∧
  (∀ (s : State), let m := atInstr s.m 32
    let k := regsAt s.m 32
    let due := reqLine m 1 = true ∧ m.sup.fie = true ∧ m.sup.inF = false
    (supRuns s.m = true → ¬ due → exec .fastEntry s = .next { s with m := m }) ∧
    (supRuns s.m = true → due →
      ∃ m', exec .fastEntry s = .next { s with m := m' } ∧
        m'.sup = { m.sup with fra := k.pc, pUser := m.sup.userMode, userMode := false, inF := true, other := bankOut k.b } ∧
        (coreSt m' 32).pc = m.sup.xbase + 0x200 ∧ (coreSt m' 32).acc = k.acc ∧
        (∀ r, r < 17 → xr (coreSt m' 32) r = xr k r) ∧
        (∀ r, 17 ≤ r → r < 32 → xr (coreSt m' 32) r = sget m.sup.other.x r 0) ∧
        (∀ r, r < 4 → pr (coreSt m' 32) r = sget m.sup.other.p r 0 ∧ mr (coreSt m' 32) r = sget m.sup.other.m r 0) ∧
        (∀ r, 4 ≤ r → r < 8 → pr (coreSt m' 32) r = pr k r ∧ mr (coreSt m' 32) r = mr k r) ∧
        (∀ r, 1 ≤ r → r < 4 → sr (coreSt m' 32) r = sr k r) ∧ sr (coreSt m' 32) 0 = sget m.sup.other.s 0 0 ∧
        m'.mem = m.mem ∧ m'.regs = m.regs ∧ m'.intc = m.intc)) ∧
  (∀ (s : State), CoreReady s.m 32 → (atInstr s.m 32).sup.userMode = false → (atInstr s.m 32).sup.inF = true →
    ∃ m', exec (.retf 32) s = .next { s with m := m' } ∧
      m'.sup.inF = false ∧ m'.sup.userMode = (atInstr s.m 32).sup.pUser ∧ (coreSt m' 32).pc = (atInstr s.m 32).sup.fra ∧
      (∀ r, r < 17 → xr (coreSt m' 32) r = xr (regsAt s.m 32) r) ∧
      (∀ r, 17 ≤ r → r < 32 → xr (coreSt m' 32) r = sget (atInstr s.m 32).sup.other.x r 0) ∧
      (∀ r, r < 4 → pr (coreSt m' 32) r = sget (atInstr s.m 32).sup.other.p r 0) ∧
      m'.mem = (atInstr s.m 32).mem ∧ m'.regs = (atInstr s.m 32).regs)

/-- RETN, RETF, IDLE and ENTU answer a next state in privileged mode: RETN pops the frame at x30 and returns to NRA with x30 raised by 64, RETF
leaves the fast class, IDLE retires with a request asserted and stalls without one, ENTU enters user mode at rs1 (21 R595, R598). -/
def Obligations.ReturnsIdleAndUserMode : Prop :=
  ∀ (rs1 : Nat) (s : State), CoreReady s.m 32 → (atInstr s.m 32).sup.userMode = false →
    let q := regsAt s.m 32
    let m := atInstr s.m 32
    let sp := (xr q 30).toNat
    (m.sup.inF = true → ∃ t, exec (.retf 32) s = .next t ∧ t.m.sup.inF = false ∧ (coreSt t.m 32).pc = m.sup.fra) ∧
    (anyReq m = true → exec (.idleR 32) s = retires s 32 q m) ∧
    (anyReq m = false → exec (.idleR 32) s = .next { s with m := { m with sup := { m.sup with idle := true } } }) ∧
    (let k' := { q with pc := (xr q rs1).setWidth 32, b := { q.b with lc := 0 } }
     (xr q rs1).toNat % 4 = 0 →
      exec (.entu 32 rs1) s = .next { s with m := putCore { m with sup := { m.sup with userMode := true } } 32 k' }) ∧
    (sp % 8 = 0 → sp + 64 ≤ 0x100000 → m.memb.flips = [] → m.memb.poison = [] →
      ∃ t, exec (.retn 32) s = .next t ∧ (coreSt t.m 32).pc = BitVec.ofNat 32 (rdVal m sp 8) ∧
        (coreSt t.m 32).pc = t.m.sup.nra ∧ t.m.sup.inN = false ∧ t.m.sup.userMode = m.sup.pUser ∧
        xr (coreSt t.m 32) 30 = xr q 30 + 64 ∧ xr (coreSt t.m 32) 31 = BitVec.ofNat 64 (rdVal m (sp + 16) 8) ∧
        (∀ r, 4 ≤ r → r < 9 → xr (coreSt t.m 32) r = BitVec.ofNat 64 (rdVal m (sp + 24 + 8 * (r - 4)) 8)) ∧
        (∀ r, r < 4 ∨ 9 ≤ r ∧ r < 30 → xr (coreSt t.m 32) r = xr q r) ∧ t.m.mem = m.mem ∧ t.m.regs = m.regs)

/-- A synchronous exception of the supervisor outside a handler enters at XBASE through the normal-class sequence, with XCAUSE and XDATA set and
NRA at the faulting instruction; inside a handler it is a double fault: XCAUSE is 8 and the supervisor stops (19 R556, 23 R635). -/
def Obligations.SupervisorExceptions : Prop :=
  ∀ (cause data : Nat) (m : Mach),
    let k := coreSt m 32
    let sp := (xr k 30 - 64).toNat
    let m' := raise 32 cause data m
    (m.sup.inN = false → m.sup.inF = false → sp % 8 = 0 → sp + 64 ≤ 0x100000 → m.memb.flips = [] →
      m'.sup = { m.sup with xcause := cause, xdata := BitVec.ofNat 32 data, nra := k.pc, pUser := m.sup.userMode, userMode := false, inN := true } ∧
      (coreSt m' 32).pc = m.sup.xbase ∧ xr (coreSt m' 32) 30 = xr k 30 - 64 ∧ m'.regs = m.regs) ∧
    (m.sup.inN = true ∨ m.sup.inF = true → m.sys.stopped = none →
      m'.sup = { m.sup with xcause := 8 } ∧ m'.sys.stopped = some 4 ∧ m'.cores = m.cores ∧ m'.mem = m.mem)

/-- Every job whose turn has come and that fails one of the checks that hold for every job completes with the status and RESULT of the first
failing check, and no part of it executes: it leaves the jobs in flight, its completion waits to be written, and nothing else changes (03
R87, R90). A refused host access is counted and reported beside that, and is left out here. The checks of a descriptor come in the order of
R87: a malformed one, an unknown opcode, no negotiation, a feature not accepted, a domain that the role marks Off, a standby, a data buffer
that no window permits, a parameter with a bit that the job leaves undefined or a value out of its range, a domain that is switched off.
The first seven are made when the descriptor is fetched, and all of them when the job executes. An AXL job that names an axis of another
node does not target the node's own domain (09 R284). -/
def Obligations.JobChecksInOrder : Prop :=
  (∀ p ∈ jobCommands, ∀ (j : Job) (s : State) (status result : Nat),
    jobWaits s.m (asJob p.2 j) = false → descCheck s.m (asJob p.2 j).desc = some (status, result) → status ≠ E_HIF_DMA_DENIED →
    s.m.hif.deleting = [] → j.ring < 16 →
    let gone (x : Job) : Bool := x.ring == j.ring && x.head == j.head && x.num == j.num && x.desc.tag == j.desc.tag
    let entry : Compl := { ring := j.ring, head := j.head, tag := j.desc.tag, num := j.num, blk := p.2 / 256, result := result % 2 ^ 32, status := status, quiet := j.desc.noCompl }
    let hif' := { s.m.hif with inflight := s.m.hif.inflight.filter (fun x => !gone x), compl := s.m.hif.compl ++ [entry] }
    exec (p.1 j) s = .next { s with m := { s.m with hif := hif' } }) ∧
  (∀ (m : Mach) (d : Desc),
    let fails (status result : Nat) : Prop := fetchCheck m d = some (status, result) ∧ descCheck m d = some (status, result)
    (d.version ≠ 2 ∨ d.rsv ≠ 0 ∨ 4 ≤ d.flags ∨ 2 ^ 24 < d.dataLen → fails E_HIF_BAD_DESC 0xFFFFFFFF) ∧
    (d.version = 2 → d.rsv = 0 → d.flags < 4 → d.dataLen ≤ 2 ^ 24 →
      (jobInfo d.opcode = none → fails E_HIF_BAD_OPCODE 0xFFFFFFFF) ∧
      (∀ i, jobInfo d.opcode = some i →
        let ready := d.opcode = 1 ∨ (getF m HIF_FEAT_ACK_DONE = 1 ∧ getF m HIF_FEAT_ACK_FAILED ≠ 1)
        let featured := (i.feat = none ∨ (∃ f, i.feat = some f ∧ (feature m f = true ∨ d.opcode = 0x1001 ∧ getF m TEST_STAT_UNLOCK = 2))) ∧
          (d.opcode ≠ 0x0101 ∨ d.par 0 % 4 ≠ 3 ∨ (d.par 1).testBit 24 = false ∨ bits (d.par 1) 25 2 ≠ 1 ∨ feature m 8 = true)
        let dom := domOf (d.opcode / 256)
        (¬ ready → fails E_HIF_NOT_NEGOTIATED 0xFFFFFFFF) ∧
        (ready → ¬ featured → fails E_HIF_FEATURE_OFF 0xFFFFFFFF) ∧
        (ready → featured →
          (domOff m dom = true → farAxis m d = false → fails E_SYS_ROLE_UNSUPPORTED 0xFFFFFFFF) ∧
          (domOff m dom = false ∨ farAxis m d = true →
            (i.std = true → isStandby m = true → fails E_HIF_STANDBY 0xFFFFFFFF) ∧
            ((i.std = false ∨ isStandby m = false) →
              (d.dataLen ≠ 0 → dmaOk m i.out d.dataAddr d.dataLen = false → fails E_HIF_DMA_DENIED 0xFFFFFFFF) ∧
              (d.dataLen = 0 ∨ dmaOk m i.out d.dataAddr d.dataLen = true → fetchCheck m d = none ∧
                (∀ k, badParam m i d = some k → descCheck m d = some (E_HIF_BAD_PARAM, k)) ∧
                (badParam m i d = none → i.powers = false → dom ≠ 1 → domOn m dom = false → farAxis m d = false →
                  descCheck m d = some (E_SYS_DOMAIN_OFF, 0xFFFFFFFF)) ∧
                (badParam m i d = none → domOn m dom = true ∨ farAxis m d = true → descCheck m d = none)))))))) ∧
  (∀ (m : Mach) (i : JobInfo) (d : Desc) (k : Nat),
    let undefinedBit (n : Nat) : Prop := andNot (d.par n) (nth i.masks n) ≠ 0
    badParam m i d = some k ↔
      k < 10 ∧ (undefinedBit k ∨ paramIn m d k = false) ∧ ∀ n, n < k → ¬ undefinedBit n ∧ paramIn m d n = true)

/-- Jobs with data out write at most DATA_LEN bytes of their result to DATA_ADDR, complete with E_OK and how many they wrote, and change nothing
else: GET_INFO its 256 B identity, SAFE_MIRROR_READ the 256 B mirror, LADLE_STATS its block; GET_FAULT_LOG and MEM_ERR_LOG whole entries of
16 B, the newest or the oldest first (03 R104, R680, 18 R531, 22 R611, 23 R638). CRUC_STATUS, NET_STATUS and PAIR_STATUS write a block that
the spec does not lay out: open values, at most DATA_LEN bytes, with E_OK and how many as RESULT; nothing but the count of open values
changes beside (03 R103, R680; the model's choice, entry 41). ROUTE_EVENTS, SET_COALESCE and SET_DMA_WINDOW write the registers of a block,
a vector or a window, complete with E_OK, and change nothing else; a block, vector or window out of range ends them with E_HIF_BAD_PARAM
for parameter 0; after LIMIT_LOCK a window is refused with E_SYS_LOCK_WRITE (03 R83, R94, R102). No entry pending on the vector is assumed. -/
def Obligations.JobsWithDataOut : Prop :=
  (∀ (j : Job) (s : State),
    let n := j.desc.dataLen
    let entries (k : Nat) : List Nat := (s.m.sys.flog.reverse.take k).flatMap (fun e => evBytes e 0 0)
    (JobRuns 0x0001 j s.m → exec (.getInfo j) s = jobEnds s 0x0001 j (putsOut s.m j (identity s.m)) 0 (min n 256) none) ∧
    (JobRuns 0x0D02 j s.m → exec (.safeMirrorRead j) s = jobEnds s 0x0D02 j (putsOut s.m j (padTo 256 s.m.safe.mir)) 0 (min n 256) none) ∧
    (JobRuns 0x0301 j s.m → exec (.ladleStats j) s = jobEnds s 0x0301 j (putsOut s.m j (ladleBlock s.m)) 0 (min n 3136) none) ∧
    (JobRuns 0x0003 j s.m →
      let k := min (j.desc.par 0) (min (n / 16) s.m.sys.flog.length)
      exec (.getFaultLog j) s = jobEnds s 0x0003 j (putsOut s.m j (entries k)) 0 k none) ∧
    (JobRuns 0x0F01 j s.m → (∀ r ∈ s.m.memb.log, r.length = 16) →
      let l := (s.m.memb.log.take (n / 16)).flatMap id
      exec (.memErrLog j) s = jobEnds s 0x0F01 j (putsOut s.m j l) 0 (if n = 0 then 0 else l.length) none)) ∧
  (∀ p ∈ [((Instr.crucStatus, 0x0501) : (Job → Instr) × Nat), (Instr.netStatus, 0x0A03), (Instr.pairStatus, 0x0E02)], ∀ (j : Job) (s : State),
    JobRuns p.2 j s.m → ∃ l : List Nat, l.length ≤ j.desc.dataLen ∧
      exec (p.1 j) s = jobEnds s p.2 j (putsOut { s.m with free := s.m.free + 2 } j l) 0 l.length none) ∧
  (∀ (j : Job) (s : State), let a := j.desc.par 0
    let reaches (opc : Nat) : Prop := jobWaits s.m (asJob opc j) = false ∧ fetchCheck s.m (asJob opc j).desc = none
    let w (i : Nat) (m : Mach) : Mach := putReg m 1 (0x100 + 0x20 * a + 4 * i) (j.desc.par (1 + i))
    (JobRuns 0x0103 j s.m →
      (a < 17 → exec (.routeEvents j) s = jobEnds s 0x0103 j
        (setF (setF s.m HIF_EVT_ROUTE_RING a (j.desc.par 1 % 4)) HIF_EVT_ROUTE_NOTICES a (j.desc.par 1 / 4 % 2)) 0 0 none)) ∧
    (reaches 0x0103 → 17 ≤ a → exec (.routeEvents j) s = jobEnds s 0x0103 j s.m E_HIF_BAD_PARAM 0 none) ∧
    (JobRuns 0x0104 j s.m →
      (a < 64 → sget s.m.hif.pend a 0 = 0 → exec (.setCoalesce j) s = jobEnds s 0x0104 j
        (setF (setF s.m HIF_COAL_COUNT a (j.desc.par 1 % 256)) HIF_COAL_TIME a (j.desc.par 1 / 256 % 65536)) 0 0 none)) ∧
    (reaches 0x0104 → 64 ≤ a → exec (.setCoalesce j) s = jobEnds s 0x0104 j s.m E_HIF_BAD_PARAM 0 none) ∧
    (JobRuns 0x0105 j s.m →
      (a < 16 → s.m.locks.lim = false → exec (.setDmaWindow j) s = jobEnds s 0x0105 j (w 4 (w 3 (w 2 (w 1 (w 0 s.m))))) 0 0 none) ∧
      (a < 16 → s.m.locks.lim = true → exec (.setDmaWindow j) s = jobEnds s 0x0105 j s.m E_SYS_LOCK_WRITE 0xFFFFFFFF none)) ∧
    (reaches 0x0105 → 16 ≤ a → exec (.setDmaWindow j) s = jobEnds s 0x0105 j s.m E_HIF_BAD_PARAM 0 none))

/-- CREATE_RING enables the ring that parameter 0 names with indices 0 and RUNNING where its values pass R106; RING_ENABLE does the same with
the values in its registers, once READY; DELETE_RING and RING_DISABLE stop it; a stopped ring is disabled and IDLE. A command ring with jobs
in flight drains instead: it is disabled in STATE 3, and the deletion waits (03 R79, R105 to R107). HIF is powered for the two register
writes. The blocks of a stopped in-stream are discarded, those too that wait for the partner of a pair. -/
def Obligations.RingsAreCreatedAndStopped : Prop :=
  ∀ (j : Job) (kind k : Nat) (s : State), kind < 4 → k < rCount kind → (k = 0 → kind = 3) →
    let m := s.m
    let running (m' : Mach) : Prop := getF m' (rState kind) k = 1 ∧ getF m' (rEn kind) k = 1 ∧ getF m' (rHead kind) k = 0 ∧ getF m' (rTail kind) k = 0
    let stopped (m' : Mach) : Prop := getF m' (rState kind) k = 0 ∧ (getF m (rState kind) k ≠ 0 → getF m' (rEn kind) k = 0)
    let noBlocks (m' : Mach) : Prop := (∀ b ∈ m'.hif.blocks, b.ring ≠ k) ∧ ∀ x ∈ m'.duo.ins, ∀ b, x.block = some b → b.ring ≠ k
    let wb := getF m HIF_STR_WB_LO_ADDR k * 8 + getF m HIF_STR_WB_HI_ADDR k * 2 ^ 32
    let names := j.desc.par 0 = kind + 256 * k
    let cfg := j.desc.par 1
    let out := kind == 3 && cfg.testBit 24
    let tele := out && bits cfg 25 2 == 0
    (JobRuns 0x0101 j m → names → j.desc.dataLen = (if tele then 32 else 0) → (out = false → j.desc.par 4 = 0 ∧ j.desc.par 5 = 0) →
      andNot (j.desc.par 6) 0x71F = 0 → andNot cfg 0xF73F3F1F = 0 →
      createFails m kind k cfg (j.desc.par 2 + j.desc.par 3 * 2 ^ 32) (j.desc.par 4 + j.desc.par 5 * 2 ^ 32) (j.desc.par 6) = none →
      ∃ m', exec (.createRing j) s = jobEnds s 0x0101 j m' 0 k none ∧ running m' ∧ getF m' (rLog kind) k = cfg % 32 ∧
        m'.mem = m.mem ∧ m'.sys = m.sys) ∧
    (blockOn m 1 = true → getF m HIF_STATUS_READY = 1 → (kind = 3 → isOut m k = false) →
      createFails m kind k (ringCfg m kind k) (ringBase m kind k) wb (getF m HIF_STR_AUX_DECIM k * 256) = none →
      ∃ m', exec (.ringEnable kind k) s = .next { s with m := m' } ∧ running m' ∧ getF m' (rLog kind) k = getF m (rLog kind) k) ∧
    ((kind = 1 → ∀ c, c < 16 → ringOn m 0 c = true → getF m HIF_CMD_CFG_CQ c ≠ k) →
      (JobRuns 0x0102 j m → names → (kind = 0 → ringBusy (dropFlight m (asJob 0x0102 j)) k = false) →
        ∃ m', exec (.deleteRing j) s = jobEnds s 0x0102 j m' 0 0 none ∧ stopped m' ∧
          (getF m (rState kind) k ≠ 0 → kind = 3 → noBlocks m')) ∧
      (blockOn m 1 = true → getF m HIF_STATUS_READY = 1 → getF m (rState kind) k ≠ 0 → (kind = 0 → ringBusy m k = false) →
        ∃ m', exec (.ringDisable kind k) s = .next { s with m := m' } ∧ stopped m' ∧ (kind = 3 → noBlocks m'))) ∧
    (kind = 0 → getF m HIF_CMD_CTRL_STATE k ≠ 0 →
      let drains (m' : Mach) : Prop := getF m' HIF_CMD_CTRL_STATE k = 3 ∧ getF m' HIF_CMD_CTRL_ENABLE k = 0 ∧ m'.mem = m.mem ∧
        ∃ c : Compl, m'.hif.deleting = m.hif.deleting ++ [(k, c)]
      (JobRuns 0x0102 j m → names → ringBusy (dropFlight m (asJob 0x0102 j)) k = true →
        ∃ m', exec (.deleteRing j) s = .next { s with m := m' } ∧ drains m') ∧
      (blockOn m 1 = true → getF m HIF_STATUS_READY = 1 → ringBusy m k = true →
        ∃ m', exec (.ringDisable kind k) s = .next { s with m := m' } ∧ drains m'))

/-- A doorbell with a value in the ring's range moves the index of an enabled ring and raises the ring's source: a producer index of a command
ring or in-stream, a consumer index of a completion or event ring or out-stream that does not pass the producer. The present value changes
nothing; any other write is ignored, counted and reported; a write that the host's settings keep from the function does nothing (03 R78, R81,
R82). DESCRIPTOR_FETCH takes at most 8 descriptors of the ring that
arbitration picks, in order: its consumer index moves past them, and one that passes its checks joins the jobs in flight; a ring whose next
descriptor no window permits enters FAULT instead (03 R84, R88, R89). A descriptor of 64 bytes holds its fields as R86 places them. -/
def Obligations.DoorbellsAndDescriptors : Prop :=
  (∀ (k v : Nat) (s : State),
    let m := s.m
    let bad (off : Nat) : Out := .next { s with m := doorbellBad m off v }
    let unseen (i : Instr) : Prop := hostSees m = false → exec i s = .next s
    let prod (i : Instr) (kind off src : Nat) : Prop := unseen i ∧ (hostSees m = true →
      (ringOn m kind k = true → (kind = 3 → isOut m k = false) → v < 2 ^ 16 → v < ringSize m kind k → v ≠ getF m (rTail kind) k →
        exec i s = .next { s with m := irq (setF m (rTail kind) k v) src }) ∧
      (ringOn m kind k = false ∨ ringSize m kind k ≤ v → exec i s = bad off) ∧
      (ringOn m kind k = true → (kind = 3 → isOut m k = false) → v < 2 ^ 16 → v < ringSize m kind k → v = getF m (rTail kind) k → exec i s = .next s))
    let cons (i : Instr) (kind off src : Nat) : Prop :=
      let size := ringSize m kind k
      let back := (v + size - getF m (rHead kind) k) % size
      unseen i ∧ (hostSees m = true →
      (ringOn m kind k = true → (kind = 3 → isOut m k = true) → v < 2 ^ 16 → v < size → back ≤ ringUsed m kind k → v ≠ getF m (rHead kind) k →
        exec i s = .next { s with m := irq (setF m (rHead kind) k v) src }) ∧
      (ringOn m kind k = false ∨ size ≤ v ∨ ringUsed m kind k < back → exec i s = bad off))
    prod (.commandProducerDoorbell k v) 0 (k * 0x400) (32 + k) ∧
    prod (.streamProducerDoorbell k v) 3 ((32 + k) * 0x400) (68 + k) ∧
    cons (.completionConsumerDoorbell k v) 1 (k * 0x400 + 4) (48 + k) ∧
    cons (.eventConsumerDoorbell k v) 2 ((16 + k) * 0x400 + 4) (64 + k) ∧
    cons (.streamConsumerDoorbell k v) 3 ((32 + k) * 0x400 + 4) (68 + k)) ∧
  (∀ (k : Nat) (l : List (List Nat)) (s : State), pickRing s.m = some k → getF s.m HIF_CMD_HEAD_INDEX k < ringSize s.m 0 k → ringSize s.m 0 k ≤ 2 ^ 16 →
    let m := s.m
    let idx (i : Nat) : Nat := (getF m HIF_CMD_HEAD_INDEX k + i) % ringSize m 0 k
    let a := ringBase m 0 k + 64 * getF m HIF_CMD_HEAD_INDEX k
    let n := min 8 (min (ringUsed m 0 k) (256 - jobsInFlight m))
    let p := getF m HIF_CMD_CFG_PRIO k
    ((∀ i, i < n → dmaOk m false (ringBase m 0 k + 64 * idx i) 64 = true) →
      ∃ m', exec (.descriptorFetch [{ ring := k, descs := l }]) s = .next { s with m := m' } ∧
        getF m' HIF_CMD_HEAD_INDEX k = idx (l.take n).length ∧ sget m'.hif.lastRing p 15 = k ∧ m'.mem = m.mem ∧
        (∀ b, l = [b] → fetchCheck (setF m HIF_CMD_HEAD_INDEX k (idx 1)) (descOf b) = none →
          m'.hif.inflight = m.hif.inflight ++ [{ ring := k, head := idx 1, num := m.hif.num, desc := descOf b }] ∧ m'.hif.compl = m.hif.compl)) ∧
    (∀ b, l = [b] → dmaOk m false a 64 = false → ∃ m', exec (.descriptorFetch [{ ring := k, descs := l }]) s = .next { s with m := m' } ∧
      getF m' HIF_CMD_CTRL_STATE k = 2 ∧ getF m' HIF_CMD_HEAD_INDEX k = getF m HIF_CMD_HEAD_INDEX k ∧ m'.hif.inflight = m.hif.inflight)) ∧
  (∀ (op flags version : Nat) (tag addr len rsv : Nat) (par : List Nat), op < 2 ^ 16 → flags < 2 ^ 8 → version < 2 ^ 8 → tag < 2 ^ 32 → addr < 2 ^ 64 →
    len < 2 ^ 32 → rsv < 2 ^ 32 → par.length = 10 → (∀ x ∈ par, x < 2 ^ 32) →
    descOf (leBytes 2 op ++ [flags, version] ++ leBytes 4 tag ++ leBytes 8 addr ++ leBytes 4 len ++ leBytes 4 rsv ++ par.flatMap (leBytes 4)) =
      { opcode := op, flags := flags, version := version, tag := tag, dataAddr := addr, dataLen := len, rsv := rsv, params := par })

/-- COMPLETION_ENTRY_WRITE writes the first finished job of a completion ring as an entry of 16 B: TAG, RESULT, status, the consumer index of
the command ring, its number, and PHASE in bit 31 of the last word. The producer index moves on and the job has left (03 R90, R92). A job
waits while the commit of its cycle of effect is to come, or while an earlier job of its ring with the same target block is to complete (03
R88).
EVENT_ENTRY_WRITE writes the oldest event held for an event ring as an entry of 16 B: code, scope kind and ID, DETAIL, cycle, then offset in
bits [19:0], class in [22:20], LOST in bit 23 and PHASE in bit 31. The producer index moves on and the event has left (03 R93, R95). -/
def Obligations.CompletionAndEventEntries : Prop :=
  (∀ (cq : Nat) (c : Compl) (s : State), let m := s.m
    m.hif.compl.find? (fun c => getF m HIF_CMD_CFG_CQ c.ring == cq && !complWaits m c) = some c → ringUp m 1 cq = true → ringFree m 1 cq ≠ 0 →
    ringSize m 1 cq ≤ 2 ^ 16 → m.hif.deleting = [] →
    let a := ringBase m 1 cq + 16 * getF m HIF_CPL_TAIL_INDEX cq
    dmaOk m true a 16 = true →
    ∃ m', exec (.completionEntryWrite cq) s = .next { s with m := m' } ∧
      m'.out.host = m.out.host ++ [(a, leBytes 4 c.tag ++ leBytes 4 c.result ++ leBytes 2 c.status ++ leBytes 2 c.head ++
        leBytes 4 (c.ring % 16 + phaseBit m 1 cq * 2 ^ 31))] ∧
      m'.hif.compl = m.hif.compl.erase c ∧ getF m' HIF_CPL_TAIL_INDEX cq = (getF m HIF_CPL_TAIL_INDEX cq + 1) % ringSize m 1 cq ∧
      m'.mem = m.mem ∧ m'.hif.inflight = m.hif.inflight) ∧
  (∀ (k : Nat) (e : Ev) (s : State), let m := s.m
    m.hif.held.find? (fun x => x.1 == k) = some (k, e) → ringUp m 2 k = true → ringFree m 2 k ≠ 0 → ringSize m 2 k ≤ 2 ^ 16 →
    let a := ringBase m 2 k + 16 * getF m HIF_EVT_TAIL_INDEX k
    dmaOk m true a 16 = true →
    ∃ m', exec (.eventEntryWrite k) s = .next { s with m := m' } ∧
      m'.out.host = m.out.host ++ [(a, leBytes 2 e.code ++ leBytes 1 e.kind ++ leBytes 1 e.id ++ leBytes 4 e.detail ++ leBytes 4 e.cycle ++
        leBytes 4 (e.offset % 2 ^ 20 + e.cls % 8 * 2 ^ 20 + (if k ∈ m.hif.lost then 2 ^ 23 else 0) + phaseBit m 2 k * 2 ^ 31))] ∧
      m'.hif.held = m.hif.held.erase (k, e) ∧ k ∉ m'.hif.lost ∧
      getF m' HIF_EVT_TAIL_INDEX k = (getF m HIF_EVT_TAIL_INDEX k + 1) % ringSize m 2 k)

/-- STREAM_BLOCK_FETCH takes the next block of an in-stream once its cycle is at most 64 ahead: its elements leave the ring, and a well-formed
block for a cycle that no snapshot has passed waits for that cycle; a late one, and a second one for its cycle, is discarded and counted; a
block further ahead stays in the ring (03 R96, R97). An element of 16 bytes holds its fields as R96 places them. TELEMETRY_BLOCK_WRITE
writes a block of an enabled telemetry stream in the cycles that its decimation selects: header, one record per configured axis of its mask,
and the write-back word; the producer index moves past it and the count of lost cycles starts anew. A ring without room, or that the host's settings
keep the function from (entry 79), drops the cycle: it
is counted and reported (03 R98 to R100). An element that no window permits puts the ring into FAULT before it is written (03 R83, R84).
Which cycles a decimation selects, and that unconfigured axes do not count, is the model's choice (entry 83). -/
def Obligations.StreamBlocks : Prop :=
  (∀ (k : Nat) (e : List Nat) (els : List (List Nat)) (s : State), let m := s.m
    let l := e :: els
    let nax := (groupAxes m (getF m HIF_STR_AUX_GROUP k)).length
    let c := resolveTag m.cyc.n (elOf e).tag
    let idx (i : Nat) : Nat := (getF m HIF_STR_HEAD_INDEX k + i) % ringSize m 3 k
    let moved := setF m HIF_STR_HEAD_INDEX k (idx nax)
    ringUp m 3 k = true → isOut m k = false → k ∉ m.run.unbound → l.length = nax → nax ≤ ringUsed m 3 k →
    (∀ i, i < nax → dmaOk m false (ringBase m 3 k + entrySize m 3 k * idx i) 16 = true) →
    ((m.cyc.n : Int) + 64 < c → exec (.streamBlockFetch k l) s = .next s) ∧
    ((m.cyc.n : Int) < c → c ≤ (m.cyc.n : Int) + 64 → (∀ p, m.hif.snapped = some p → (p : Int) < c) → blockFormed (l.map elOf) = true →
      (blockHere m k c = false → mirrors m = false →
        exec (.streamBlockFetch k l) s = .next { s with m := addBlock moved { ring := k, cycle := c.toNat, els := l.map elOf } }) ∧
      (blockHere m k c = true → exec (.streamBlockFetch k l) s = .next { s with m := dropBlock moved k E_HIF_STREAM_FORMAT })) ∧
    (c ≤ (m.cyc.n : Int) → exec (.streamBlockFetch k l) s = .next { s with m := dropBlock moved k E_HIF_STREAM_LATE })) ∧
  (∀ (pos vel : Int) (tag axis : Nat) (last : Bool), -(2 ^ 63) ≤ pos → pos < 2 ^ 63 → -(2 ^ 31) ≤ vel → vel < 2 ^ 31 → tag < 2 ^ 16 → axis < 2 ^ 8 →
    elOf (leBytes 8 (pos % 2 ^ 64).toNat ++ leBytes 4 (vel % 2 ^ 32).toNat ++ leBytes 2 tag ++ [axis, b2n last]) =
      { pos := pos, vel := vel, tag := tag, axis := axis, last := last }) ∧
  (∀ (k : Nat) (s : State), let m := s.m
    let axes := (maskedAxes m k).filterMap (axisRec m)
    let wb := getF m HIF_STR_WB_LO_ADDR k * 8 + getF m HIF_STR_WB_HI_ADDR k * 2 ^ 32
    let tail := getF m HIF_STR_TAIL_INDEX k
    let slot (i : Nat) : Nat := ringBase m 3 k + entrySize m 3 k * ((tail + i) % ringSize m 3 k)
    k < 32 → getF m HIF_STR_CTRL_ENABLE k = 1 → ringOn m 3 k = true → isOut m k = true → getF m HIF_STR_CFG_SRC k = 0 →
    m.cyc.n % 2 ^ getF m HIF_STR_AUX_DECIM k = 0 → ringSize m 3 k ≤ 2 ^ 16 →
    (busMaster m = true → 1 + axes.length ≤ ringFree m 3 k → (∀ i, i ≤ axes.length → dmaOk m true (slot i) (entrySize m 3 k) = true) → dmaOk m true wb 8 = true →
      ∃ m', exec (.telemetryBlockWrite k) s = .next { s with m := m' } ∧
      getF m' HIF_STR_TAIL_INDEX k = (tail + 1 + axes.length) % ringSize m 3 k ∧ sget m'.hif.lostCycles k 0 = 0 ∧
      m'.mem = m.mem ∧ ∃ recs : List (Nat × List Nat), recs.map (·.1) = (List.range axes.length).map (fun i => slot (1 + i)) ∧
      m'.out.host = m.out.host ++ [(slot 0, leBytes 8 m.cyc.n ++ leBytes 2 axes.length ++ leBytes 2 (sget m.hif.lostCycles k 0) ++ List.replicate 20 0)]
        ++ recs ++ [(wb, leBytes 8 (getF m' HIF_STR_TAIL_INDEX k + m.cyc.n % 2 ^ 32 * 2 ^ 32))]) ∧
    (busMaster m = true → 1 + axes.length ≤ ringFree m 3 k → dmaOk m true (slot 0) (entrySize m 3 k) = false →
      ∃ m', exec (.telemetryBlockWrite k) s = .next { s with m := m' } ∧ getF m' HIF_STR_CTRL_STATE k = 2 ∧ m'.out.host = m.out.host) ∧
    (ringFree m 3 k < 1 + axes.length ∨ busMaster m = false → ∃ m', exec (.telemetryBlockWrite k) s = .next { s with m := m' } ∧
      sget m'.hif.lostCycles k 0 = min 0xFFFF (sget m.hif.lostCycles k 0 + 1) ∧ m'.out.host = m.out.host ∧
      getF m' HIF_STR_TAIL_INDEX k = tail))

/-- The message of a vector goes out with address and data of its table entry, or sets its pending bit while masked, by its entry or as a whole
(the settings of PCI Express, entry 79). COALESCE_TIMER_EXPIRY sends
it where entries are pending, which are then no longer; MSIX_TABLE_WRITE writes a word of the table, and unmasking sends a message that is
pending and clears its bit (03 R79, R102). GO latches the requested features once; DONE accepts those of them that the node advertises,
without SUBMIT_PRIO beside DEP_COUNTERS, marks unknown and conflicting requests, and fails where bit 0 is not among them (03 R109, R110, 18
R525). HIF is powered for the writes. -/
def Obligations.MessagesAndNegotiation : Prop :=
  (∀ (v d x : Nat) (s : State), let m := s.m
    let entry (t : Sparse Nat) : Nat × Nat × Nat := (v, sget t (4 * v) 0 + 2 ^ 32 * sget t (4 * v + 1) 0, sget t (4 * v + 2) 0)
    let none_ := { m.hif with pend := sput m.hif.pend v 0 0 }
    (getF m HIF_COAL_TIME v ≠ 0 → sget m.hif.pend v 0 ≠ 0 →
      (sget m.hif.msix (4 * v + 3) 1 % 2 = 0 → msixOn m = true → exec (.coalesceTimerExpiry v) s =
        .next { s with m := { m with hif := none_, out := { m.out with msgs := m.out.msgs ++ [entry m.hif.msix] } } }) ∧
      (sget m.hif.msix (4 * v + 3) 1 % 2 = 1 ∨ msixOn m = false → exec (.coalesceTimerExpiry v) s =
        .next { s with m := { m with hif := { none_ with pba := m.hif.pba ||| 2 ^ v } } })) ∧
    (blockOn m 1 = true → v < 64 → d < 3 →
      let t := sput m.hif.msix (4 * v + d) (if d = 0 then x % 2 ^ 32 / 4 * 4 else x % 2 ^ 32) 0
      exec (.msixTableWrite v d x) s = .next { s with m := { m with hif := { m.hif with msix := t } } }) ∧
    (blockOn m 1 = true → v < 64 → x % 2 = 0 → m.hif.pba.testBit v = true → msixOn m = true →
      let t := sput m.hif.msix (4 * v + 3) 0 1
      let h := { m.hif with msix := t, pba := andNot m.hif.pba (2 ^ v) }
      exec (.msixTableWrite v 3 x) s = .next { s with m := { m with hif := h, out := { m.out with msgs := m.out.msgs ++ [entry t] } } }) ∧
    (blockOn m 1 = true → v < 64 → x % 2 = 1 ∨ m.hif.pba.testBit v = false →
      exec (.msixTableWrite v 3 x) s = .next { s with m := { m with hif := { m.hif with msix := sput m.hif.msix (4 * v + 3) (x % 2) 1 } } })) ∧
  (∀ (x : Nat) (s : State), let m := s.m
    (blockOn m 1 = true → getF m HIF_STATUS_READY = 1 → x.testBit 31 = true → m.hif.gone = false →
      let h := { m.hif with gone := true, latched := [0, 1, 2, 3].map (fun i => getF m HIF_FEAT_DRV_DRV i) }
      exec (.featureNegotiationGo x) s = .next { s with m := irq { m with hif := h } 101 }) ∧
    (blockOn m 1 = true → getF m HIF_STATUS_READY = 1 → x.testBit 31 = true → m.hif.gone = true →
      exec (.featureNegotiationGo x) s = .next { s with m := logNode m E_HIF_FEAT_LOCKED 0 }) ∧
    (m.hif.gone = true → getF m HIF_FEAT_ACK_DONE = 0 →
      let req := nth m.hif.latched 0
      let both := req &&& advertised m
      let clash := req.testBit 1 && both.testBit 2
      let acc := if clash then both - 4 else both
      ∃ m', exec .featureNegotiationDone s = .next { s with m := m' } ∧
        getF m' HIF_FEAT_DRV_DRV 0 = acc ∧ getF m' HIF_FEAT_ACK_DONE = 1 ∧ getF m' HIF_FEAT_ACK_CONFLICT = b2n clash ∧
        getF m' HIF_FEAT_ACK_FAILED = b2n (!acc.testBit 0) ∧
        getF m' LADLE_CTRL_MODE = (if !acc.testBit 0 then 2 else if acc.testBit 1 then 0 else if acc.testBit 2 then 1 else 2) ∧
        m'.mem = m.mem ∧ m'.mould = m.mould))

/-- The assertion of PERST#, a hot reset, a function level reset and the loss of the link reset HIF: rings, vectors, message table and what waited
for them are gone, the accepted features and the DMA windows stay, jobs in flight and jobs that units hold run on without an entry, their
flag is set, and E_HIF_LINK_RESET goes ahead of every event held for ring 0; bus mastering and MSI-X are off again. A function level reset leaves the
link and Max_Payload_Size as they are (03 R111; the last is the model's reading, entry 29). PCIE_LINK_UP records speed and width and reports E_HIF_LINK_UP, and ends the assertion of PERST#; a link
with PERST# asserted does not train, and no configuration request is answered. Else one meets a retry until the configuration space is loaded, then it is
answered: identification, class code, serial number, the sizes of the windows, and what was written to the size codes, the power state, the command
register and MSI-X message control (03 R78, R79, 23 R640; entry 79). A host read completion without error changes nothing, one with error fails its job in flight with E_HIF_HOST_ABORT or puts an
enabled ring into FAULT with E_HIF_HOST_ABORT and E_HIF_RING_FAULT (03 R113). The PCIE test unit is not active. -/
def Obligations.HifResetsAndTheLink : Prop :=
  (∀ (s : State), let m := s.m
    let common (i : Instr) (seen : Fld) (link : Bool) : Prop :=
      ∃ m', exec i s = .next { s with m := m' } ∧ getF m' seen = 1 ∧ m'.hif.compl = [] ∧ m'.hif.pend = [] ∧ m'.hif.msix = [] ∧
        m'.hif.inflight.length = m.hif.inflight.length ∧ (∀ j ∈ m'.hif.inflight, 16 ≤ j.ring) ∧
        (heldJobs m').length = (heldJobs m).length ∧ (∀ c ∈ heldJobs m', 16 ≤ c.ring) ∧
        (∀ k, k < 16 → getF m' HIF_CMD_CTRL_STATE k = 0) ∧ (∀ k, k < 32 → getF m' HIF_STR_CTRL_STATE k = 0) ∧
        (∀ i, i < 4 → getF m' HIF_FEAT_DRV_DRV i = getF m HIF_FEAT_DRV_DRV i) ∧ getF m' HIF_FEAT_ACK_DONE = getF m HIF_FEAT_ACK_DONE ∧
        (∀ i, i < 16 → getF m' HIF_DMAW_BASE_LO_ADDR i = getF m HIF_DMAW_BASE_LO_ADDR i ∧ getF m' HIF_DMAW_CTRL_EN i = getF m HIF_DMAW_CTRL_EN i) ∧
        getF m' HIF_STATUS_LINK_UP = (if link then getF m HIF_STATUS_LINK_UP else 0) ∧ m'.hif.d3 = false ∧
        m'.hif.mps = (if link then m.hif.mps else 0) ∧ m'.hif.mrrs = 2 ∧ m'.hif.cmd = 0 ∧ m'.hif.msixCtl = 0 ∧
        ((m'.hif.held.filter (fun x => x.1 == 0)).head?.map (fun x => x.2.code)) = some E_HIF_LINK_RESET ∧
        m'.mem = m.mem ∧ m'.mould = m.mould ∧ m'.locks = m.locks ∧ m'.cruc = m.cruc ∧ m'.ladle = m.ladle
    common .perst HIF_STATUS_FLR_SEEN false ∧ (∀ m', exec .perst s = .next { s with m := m' } → m'.hif.perstLow = true) ∧
    common .hotReset HIF_STATUS_FLR_SEEN false ∧
    common .functionLevelReset HIF_STATUS_FLR_SEEN true ∧ common .pcieLinkLoss HIF_STATUS_LINK_DOWN_SEEN false) ∧
  (∀ (speed width kind k head : Nat) (loaded : Bool) (item : CfgItem) (w : Option Nat) (s : State), let m := s.m
    let read (err job : Bool) : Instr := .hostReadCompletion err job kind k head
    let there : Prop := m.sys.inReset = false ∧ domOn m dHIF = true
    (there → speed < 8 → width < 8 → ∃ m', exec (.pcieLinkUp { speed := speed } width) s = .next { s with m := m' } ∧
      getF m' HIF_STATUS_LINK_UP = 1 ∧ getF m' HIF_STATUS_LINK_SPEED = speed ∧ getF m' HIF_STATUS_LINK_WIDTH = width ∧
      m'.hif = { m.hif with held := m'.hif.held, lost := m'.hif.lost, perstLow := false }) ∧
    exec (.pcieLinkUp { speed := speed, perst := true } width) s = .next s ∧
    (m.hif.perstLow = true → exec (.configurationRequest { loaded := loaded, item := item, write := w }) s = .next s) ∧
    (there → m.hif.perstLow = false → m.hif.cfgLoaded = false → exec (.configurationRequest { item := item, write := w }) s = .next { s with m := { m with out := { m.out with cfgAnswer := none } } }) ∧
    (there → m.hif.perstLow = false → loaded = true ∨ m.hif.cfgLoaded = true →
      (∃ v m', exec (.configurationRequest { loaded := loaded, item := item, write := w }) s = .next { s with m := m' } ∧ m'.out = { m.out with cfgAnswer := some v, msgs := m'.out.msgs } ∧ m'.hif.cfgLoaded = true ∧
        m'.regs = m.regs ∧
        (item = .ident → v / 2 ^ 16 = 0x0256) ∧ (item = .classCode → v = 0x118000) ∧ (item = .serial 0 → v = getF m SYS_UID_LO_UID) ∧ (item = .serial 1 → v = getF m SYS_UID_HI_UID) ∧
        (item = .barSize 0 → v = 2 * 2 ^ 20) ∧ (item = .barSize 2 → v = 64 * 2 ^ 10) ∧ (item = .barSize 4 → v = 32 * 2 ^ 20) ∧ (item = .maxPayloadCap → v = 2) ∧
        (item = .maxPayload → v = m'.hif.mps ∧ m'.hif.mps = (match w with | some x => min 2 (x % 8) | none => m.hif.mps)) ∧
        (item = .maxReadRequest → v = m'.hif.mrrs ∧ m'.hif.mrrs = (match w with | some x => min 2 (x % 8) | none => m.hif.mrrs)) ∧
        (item = .powerState → (w = some 3 → v = 3 ∧ m'.hif.d3 = true) ∧ (w = some 0 → v = 0 ∧ m'.hif.d3 = false)) ∧
        (item = .command → v = m'.hif.cmd ∧ m'.hif.cmd = (match w with | some x => x &&& 0x546 | none => m.hif.cmd)) ∧
        (item = .msixControl → v = 63 + m'.hif.msixCtl ∧ m'.hif.msixCtl = (match w with | some x => x &&& 0xC000 | none => m.hif.msixCtl)))) ∧
    (unitOn m uPCIE = false →
      (∀ job, exec (read false job) s = .next s) ∧
      (∀ j, m.hif.inflight.find? (fun j => j.ring == k && j.head == head) = some j →
        exec (read true true) s = .next { s with m := finishJob (logNode m E_HIF_HOST_ABORT 0) j E_HIF_HOST_ABORT 0xFFFFFFFF none }) ∧
      (ringOn m kind k = true → exec (read true false) s =
        .next { s with m := report (setF (report m E_HIF_HOST_ABORT 0 4 k kind) (rState kind) k 2) E_HIF_RING_FAULT 0 4 k kind })))

/-- A claim read by port 0 answers for its class with the highest enabled pending source that is not in service, which is then in service and
no longer pending; with one in service, or none pending, or from another port it answers 0 and changes nothing but the pending bits of
asserted level sources (21 R588, R592, R593). A write of INTC_COMPLETE by port 0 ends the service of its number in whichever class holds it; any other
number, and 0, is ignored with BAD_COMPLETE set, counted and reported; a write of another port does nothing (21 R594). -/
def Obligations.ClaimsAndCompletions : Prop :=
  (∀ (port n : Nat) (s : State), let m := levels s.m
    let cand (cls x : Nat) : Prop := x ∈ m.intc.pend ∧ getF m INTC_SRC_EN x = 1 ∧ getF m INTC_SRC_CLASS x = cls ∧ inService m x = false
    let best (cls : Nat) : Prop := cand cls n ∧ ∀ x, cand cls x → x ≤ n
    let pend' := m.intc.pend.filter (· != n)
    (m.intc.pend.Pairwise (· < ·) → m.intc.insvN = 0 → best 0 →
      exec (.intcClaimNormal 0) s = .next { s with m := { m with intc := { m.intc with pend := pend', insvN := n }, out := { m.out with answer := (n, false) } } }) ∧
    (m.intc.pend.Pairwise (· < ·) → m.intc.insvF = 0 → best 1 →
      exec (.intcClaimFast 0) s = .next { s with m := { m with intc := { m.intc with pend := pend', insvF := n }, out := { m.out with answer := (n, false) } } }) ∧
    (port ≠ 0 ∨ m.intc.insvN ≠ 0 ∨ (∀ x, ¬ cand 0 x) → 
      exec (.intcClaimNormal port) s = .next { s with m := { m with out := { m.out with answer := (0, false) } } }) ∧
    (port ≠ 0 ∨ m.intc.insvF ≠ 0 ∨ (∀ x, ¬ cand 1 x) → 
      exec (.intcClaimFast port) s = .next { s with m := { m with out := { m.out with answer := (0, false) } } })) ∧
  (∀ (port n : Nat) (s : State), n < 512 → let m := s.m
    (n ≠ 0 → m.intc.insvN = n → exec (.intcComplete 0 n) s = .next { s with m := levels { m with intc := { m.intc with insvN := 0 } } }) ∧
    (n ≠ 0 → m.intc.insvN ≠ n → m.intc.insvF = n →
      exec (.intcComplete 0 n) s = .next { s with m := levels { m with intc := { m.intc with insvF := 0 } } }) ∧
    (n = 0 ∨ (m.intc.insvN ≠ n ∧ m.intc.insvF ≠ n) → ∃ m', exec (.intcComplete 0 n) s = .next { s with m := m' } ∧
      getF m' INTC_FLAGS_BAD_COMPLETE = 1 ∧ getF m' INTC_BAD_CNT_CNT = min 65535 (getF m INTC_BAD_CNT_CNT + 1) ∧ m'.intc = m.intc ∧
      (∃ e, m'.sys.flog.getLast? = some e ∧ e.code = E_INTC_BAD_COMPLETE ∧ e.detail = n)) ∧
    (port ≠ 0 → exec (.intcComplete port n) s = .next s))

/-- INTC_PEND_SET_w sets the pending bits named in word w and INTC_PEND_CLR_w clears them, but for a level source that is still asserted, for
every source number but 0; other pending bits stay (21 R591, R592). A level on an external line is accepted once FILT + 1 samples show it:
with TYPE 1 the source is asserted while the accepted level is the active one that POL selects; with TYPE 0 an accepted change to it is one
event; a shorter run changes nothing (21 R589). -/
def Obligations.PendingBitsAndExternalLines : Prop :=
  (∀ (w x n : Nat) (s : State), w < 16 → n < 512 → let named := n / 32 = w ∧ x.testBit (n % 32) = true ∧ n ≠ 0
    (∃ m', exec (.intcPendSet w x) s = .next { s with m := m' } ∧ (n ∈ m'.intc.pend ↔ n ∈ s.m.intc.pend ∨ named) ∧
      m' = { s.m with intc := { s.m.intc with pend := m'.intc.pend } }) ∧
    (∃ m', exec (.intcPendClr w x) s = .next { s with m := m' } ∧
      (n ∈ m'.intc.pend ↔ (n ∈ s.m.intc.pend ∧ ¬ named) ∨ (n ∈ levelNumbers ∧ asserted s.m n = true ∧ inService s.m n = false)) ∧
      m' = { s.m with intc := { s.m.intc with pend := m'.intc.pend } })) ∧
  (∀ (n samples : Nat) (level : Bool) (s : State), 320 ≤ n → n ≤ 386 → let m := s.m
    let act := level != (getF m INTC_SRC_POL n == 1)
    let i := { m.intc with extHigh := if level then insNat n m.intc.extHigh else m.intc.extHigh.filter (· != n) }
    (samples ≤ getF m INTC_SRC_FILT n → exec (.externalLineEvent n level samples) s = .next s) ∧
    (getF m INTC_SRC_FILT n < samples →
      (getF m INTC_SRC_TYPE n = 1 → exec (.externalLineEvent n level samples) s = .next { s with m := levels { m with intc := i } }) ∧
      (getF m INTC_SRC_TYPE n = 0 → act = true → (n ∈ m.intc.extHigh ↔ level = false) →
        exec (.externalLineEvent n level samples) s = .next { s with m := irq { m with intc := i } n }) ∧
      (getF m INTC_SRC_TYPE n = 0 → act = false ∨ (n ∈ m.intc.extHigh ↔ level = true) →
        exec (.externalLineEvent n level samples) s = .next { s with m := { m with intc := i } })))

/-- Event counters saturate at their all-ones value: counting adds to the value held, up to all ones, and never wraps; an edge event sets its
source's pending bit, and one that finds it set is merged and counted (00 R16, 21 R591). -/
def Obligations.CountersSaturateAndEdgesMerge : Prop :=
  ∀ (m : Mach) (f : Fld) (i n k : Nat),
    getF (incF m f i n) f i = (if 2 ^ f.w - 1 ≤ getF m f i + n then 2 ^ f.w - 1 else getF m f i + n) ∧
    (∀ g j, g.key j ≠ f.key i → getF (incF m f i n) g j = getF m g j) ∧
    (k ∉ m.intc.pend → ∀ x, x ∈ (irq m k).intc.pend ↔ x = k ∨ x ∈ m.intc.pend) ∧
    (k ∈ m.intc.pend → (irq m k).intc = m.intc ∧ getF (irq m k) INTC_FLAGS_MERGED = 1 ∧
      getF (irq m k) INTC_MERGE_CNT_CNT = min 65535 (getF m INTC_MERGE_CNT_CNT + 1))

/-- GRAPH_OPEN opens the instance of the current cycle once, on a node that computes from its own snapshot, with the model's items in flight; it
leaves the state as it is without a graph, or after the instance of the cycle has opened (18 R517). ITEM_DISPATCH sends the only ready item
to its HOME core where that is idle: the item runs from 16 fabric cycles after the instant, the core is busy with it, and finds PC, x4 to
x6, x29 and x30 as R536 says and every other register 0. The kernel table entry is VALID and names the core, and no test delay acts (18
R521, 19 R536, R558). -/
def Obligations.GraphAndDispatch : Prop :=
  (∀ (s : State), let m := s.m
    (m.mould.loaded = true → m.ladle.tpl ≠ [] → m.ladle.opened = false → m.cyc.skip = false → runsRunner m = true → computesAlone m = true → domOn m dRUN = true →
      ∃ m', exec .graphOpen s = .next { s with m := m' } ∧ m'.ladle.isOpen = true ∧ m'.ladle.opened = true ∧ m'.ladle.cycle = m.cyc.n ∧
        m'.cyc.now = max m.cyc.now (m.cyc.start + nth (plan m) 1) ∧ m'.ladle.num = m.ladle.num + m.ladle.tpl.length ∧ m'.ladle.tpl = m.ladle.tpl) ∧
    (m.ladle.opened = true ∨ m.ladle.tpl = [] → exec .graphOpen s = .next s)) ∧
  (∀ (t ord rdy : Nat) (f : Flight) (s : State), let m := s.m
    let c := f.it.home
    let e := ktabEntry m f.it.target
    getF m LADLE_CTRL_EN = 1 → domOn m dRUN = true → m.ladle.items = [f] → f.st = .ready ord rdy → f.it.kind = 0 → c < 32 →
    f.it.affinity.testBit c = true → coreOn m c = true → unitOn m uLADLE = false → m.cyc.now ≤ t → t + 32 - rdy < 48 * 2 ^ 15 →
    (field e 2 1).testBit 0 = true → (field e 4 4).testBit c = true → f.it.target < 512 →
    ∃ m', exec (.itemDispatch t) s = .next { s with m := m' } ∧
      running m' c = some ({ f with st := .running c (t + 32), unb := false }, t + 32) ∧
      coreSt m' c = coreStart { f with st := .running c (t + 32), unb := false } c e ∧
      (coreSt m' c).pc.toNat = 0x50000000 + 0x10000 * c + 4 * field e 0 2 ∧ xr (coreSt m' c) 30 = BitVec.ofNat 64 (0x50000000 + 0x10000 * c + 0x10000) ∧
      xr (coreSt m' c) 4 = BitVec.ofNat 64 f.it.arg ∧ (coreSt m' c).acc = [] ∧
      (getF m' CORE_RUN_RUN).testBit c = true ∧ getF m' LADLE_CORE_BUSY_ITEM c = (if f.graph then f.idx % 2 ^ 16 else 0xFFFE) ∧ m'.mem = m.mem)

/-- COUNTER_SET sets the dynamic counter that CNT_IDX selects, with DEP_COUNTERS accepted; COUNTER_DECREMENT lowers it by n, an excess decrement
counting as an underflow; no item waits on it (18 R519, R520). LADLE_SUBMIT by the supervisor's port with a whole line of 32 B submits its
descriptor, and SUB_STAT gives the sequence number and the result; an accepted one without a counter is ready at once; a partial write, or
one of another port, is reported with cause 5 and ignored (18 R525, R526). -/
def Obligations.CountersAndSubmissions : Prop :=
  (∀ (v n : Nat) (s : State), let m := s.m
    let c := getF m LADLE_CNT_IDX_IDX
    blockOn m 3 = true → graphCounter m c = false → feature m 1 = true → (∀ f ∈ m.ladle.items, f.it.cnt ≠ some c) →
    (∃ m', exec (.counterSet v) s = .next { s with m := m' } ∧ counter m' c = v % 2 ^ 16 ∧ m'.ladle.items = m.ladle.items ∧ m'.mem = m.mem ∧
      ∀ k, k ≠ c → counter m' k = counter m k) ∧
    (n ≤ counter m c → counter m c < 2 ^ 16 → ∃ m', exec (.counterDecrement n) s = .next { s with m := m' } ∧ counter m' c = counter m c - n ∧
      m'.ladle.items = m.ladle.items ∧ m'.regs = m.regs ∧ ∀ k, k ≠ c → counter m' k = counter m k) ∧
    (counter m c = 0 → ∃ m', exec (.counterDecrement 1) s = .next { s with m := m' } ∧ counter m' c = 0 ∧ getF m' LADLE_FLAGS_UNDERFLOW = 1)) ∧
  (∀ (port : Nat) (l : List Nat) (s : State), let m := s.m
    let it := itemOf l []
    blockOn m 3 = true →
    (port ≠ 0 ∨ l.length ≠ 32 → exec (.ladleSubmit port l) s = .next { s with m := logNode m E_LADLE_SUBMIT (5 + 256 * 0x1F) }) ∧
    (l.length = 32 → ∃ m', exec (.ladleSubmit 0 l) s = .next { s with m := m' } ∧
      getF m' LADLE_SUB_STAT_RESULT = subCheck m l it false false ∧
      getF m' LADLE_SUB_STAT_SEQ = (getF m LADLE_SUB_STAT_SEQ + 1) % 2 ^ LADLE_SUB_STAT_SEQ.w ∧
      (subCheck m l it false false = 0 → it.kind = 0 → it.cnt = none → unitOn m uLADLE = false → (∀ f ∈ m.ladle.items, f.num < m.ladle.num) →
        m'.ladle.items = m.ladle.items ++ [{ num := m.ladle.num, idx := 0xFFFE, it := it, cycle := m.cyc.n,
                                             dlAt := if it.dl = 0 then none else some (m.cyc.now + 16 * it.dl),
                                             st := .ready m.ladle.ord m.cyc.now }]) ∧
      (subCheck m l it false false ≠ 0 → m'.ladle = m.ladle)))

/-- Each lock is set in its order where its checks pass, and reported. CFG_LOCK needs a loaded model whose stored image still has its lengths and
CRCs. LIMIT_LOCK needs CFG_LOCK, for each configured slot a trip threshold, a maximum duty below 100 % and a dead-time floor not above its
ceiling, and a rate limit for each timed output in use. SCHED_LOCK needs LIMIT_LOCK, a phase plan within 02 R61, on a networked node the
schedule checks of 12 R365, and sets PLAN_VALID. A lock already set stays as it is; without a model CFG_LOCK reports E_SYS_NO_MODEL; out of
order E_SYS_LOCK_ORDER is reported and nothing is set. SET_LOCK sets the locks asked for, one by one up to the first failure, here one, all
three or none, and gives SYS_LOCK as RESULT (04 R136, R137, 02 R77). -/
def Obligations.LocksAreSetInOrder : Prop :=
  ∀ (j : Job) (s : State), let m := s.m
    let len := lenTicks (getF m TIME_CYCLE_CFG_LEN)
    let p := planWritten m
    let cfgOk : Prop := m.mould.loaded = true ∧ rdBytes m 0x10000000 m.mould.image.length = m.mould.image ∧
      step1 (wholeModel m m.mould.image) m.mould.image = none
    let limOk : Prop := (∀ i ∈ configuredSlots m, getF m PWR_PEAK_TRIP_THR i ≠ 0 ∧ getF m PWR_MAX_DUTY_MAX i < 2 ^ 31 ∧
        getF m PWR_DT_LIM_DT_FLOOR i ≤ getF m PWR_DT_LIM_DT_CEIL i) ∧
      (∀ o, o < 8 → getF m TIME_OUT_RLIM_USED o = 1 → getF m TIME_OUT_RLIM_RLIM o ≠ 0)
    let schOk : Prop := lenUsable m (getF m TIME_CYCLE_CFG_LEN) = true ∧ nth p 0 < nth p 1 ∧ nth p 1 < nth p 2 ∧ nth p 2 < nth p 3 ∧
      4000 ≤ nth p 0 ∧ nth p 1 + 16000 ≤ nth p 2 ∧ nth p 3 + 2000 ≤ len ∧
      lineBound m (upBytes m) (nth p 1 - nth p 0) = true ∧ lineBound m (downBytes m) (nth p 3 - nth p 2) = true ∧
      (m.mould.config < 2 ∨ schedFail m = none)
    let set (l : Locks) (m : Mach) : Mach := notice { m with locks := l } E_SYS_LOCK_SET (lockWord l)
    let valid (m : Mach) : Mach := flag m TIME_PHASE_STAT_PLAN_VALID
    let lc : Locks := { m.locks with cfg := true }
    let ll : Locks := { m.locks with lim := true }
    let ls : Locks := { m.locks with sch := true }
    (m.locks.cfg = false → cfgOk → exec .cfgLockSet s = .next { s with m := set lc m }) ∧
    (m.locks.lim = false → m.locks.cfg = true → limOk → exec .limitLockSet s = .next { s with m := set ll m }) ∧
    (m.locks.sch = false → m.locks.lim = true → schOk → exec .schedLockSet s = .next { s with m := valid (set ls m) }) ∧
    (m.locks.cfg = true → exec .cfgLockSet s = .next s) ∧ (m.locks.lim = true → exec .limitLockSet s = .next s) ∧
    (m.locks.sch = true → exec .schedLockSet s = .next { s with m := valid m }) ∧
    (m.locks.cfg = false → m.mould.loaded = false → exec .cfgLockSet s = .next { s with m := logNode m E_SYS_NO_MODEL 0 }) ∧
    (m.locks.lim = false → m.locks.cfg = false → exec .limitLockSet s = .next { s with m := logNode m E_SYS_LOCK_ORDER 0 }) ∧
    (m.locks.sch = false → m.locks.lim = false → exec .schedLockSet s = .next { s with m := logNode m E_SYS_LOCK_ORDER 0 }) ∧
    (JobRuns 0x0002 j m →
      (j.desc.par 0 = 0 → exec (.setLock j) s = jobEnds s 0x0002 j m 0 (lockWord m.locks) none) ∧
      (j.desc.par 0 = 1 → m.locks.cfg = false → cfgOk → exec (.setLock j) s = jobEnds s 0x0002 j (set lc m) 0 (lockWord lc) none) ∧
      (j.desc.par 0 = 2 → m.locks.cfg = true → m.locks.lim = false → limOk →
        exec (.setLock j) s = jobEnds s 0x0002 j (set ll m) 0 (lockWord ll) none) ∧
      (j.desc.par 0 = 4 → m.locks.lim = true → m.locks.sch = false → schOk →
        exec (.setLock j) s = jobEnds s 0x0002 j (valid (set ls m)) 0 (lockWord ls) none) ∧
      (j.desc.par 0 = 7 → m.locks = {} → cfgOk → limOk → schOk →
        exec (.setLock j) s = jobEnds s 0x0002 j
          (valid (set { cfg := true, lim := true, sch := true } (set { cfg := true, lim := true } (set { cfg := true } m)))) 0 7 none) ∧
      (j.desc.par 0 = 7 → m.locks = {} → m.mould.loaded = false →
        exec (.setLock j) s = jobEnds s 0x0002 j (logNode m E_SYS_NO_MODEL 0) E_SYS_NO_MODEL 0 none))

/-- A write of a register reaches each field as its access code says: RW takes the value, W1C clears the bits written 1, W1S sets them, a
counter is cleared by a 1 in its lowest bit, RO and WO fields keep theirs; a field under a set lock keeps its value (00 R10, R17 to R19). -/
def Obligations.RegisterFieldsTakeWrites : Prop :=
  ∀ (x i : Nat) (f : Fld) (m : Mach), f ≠ TIME_CTRL_AUTO_SWITCH → getF m f i < 2 ^ f.w →
    let v := bits x f.lsb f.w
    let m' := writeField x m (f, i)
    (f.acc = .rw → getF m' f i = v) ∧
    (f.acc = .w1c → ∀ b, b < f.w → (getF m' f i).testBit b = ((getF m f i).testBit b && !v.testBit b)) ∧
    (f.acc = .w1s → ∀ b, b < f.w → (getF m' f i).testBit b = ((getF m f i).testBit b || v.testBit b)) ∧
    (f.acc = .cnt → getF m' f i = if v % 2 = 1 then 0 else getF m f i) ∧
    (f.acc = .ro ∨ f.acc = .wo → m' = m) ∧
    (f.acc = .rwlCfg ∨ f.acc = .rwlLim ∨ f.acc = .rwlSch → (fieldLocked m f = true → m' = m) ∧ (fieldLocked m f = false → getF m' f i = v)) ∧
    (∀ g j, g.key j ≠ f.key i → getF m' g j = getF m g j) ∧ m'.mem = m.mem ∧ m'.locks = m.locks ∧ m'.cores = m.cores

/-- REGISTER_WRITE of a register of a block that is on with nothing beyond its fields writes them (here MEM_CTRL); a port that may not write
registers is denied; a doorbell through BAR2 goes to its ring; in chip reset nothing happens. The host's accesses need HIF powered and the
function in D0 (the latter is PCI Express, entry 79). CYCLE_CFG_WRITE stores the new length and leaves that in force (01 R30, R43, R44, 02
R678, 03 R80). REGISTER_LO_READ: a read of the _LO register of a 64-bit quantity latches its _HI value, which the next read of _HI returns;
here of cell time by a port that may read registers, with no timed output to release (00 R13, 02 R77). A read of BAR2 returns 0; a read through BAR4 returns the working
store, before and after CFG_LOCK, and 0 above it (01 R45, R46, 03 R80). BAR4_WRITE writes its bytes to the working store before CFG_LOCK,
and no other byte of memory changes, which keeps its canonical form; after CFG_LOCK it is refused as a lock violation and writes nothing. No
test unit is active and no word of the store has bits in error (01 R45, R46). A command that is a register write of a block whose domain is
off is ignored and reported with E_SYS_DOMAIN_OFF (01 R31). -/
def Obligations.RegisterAccesses : Prop :=
  (∀ (p k x len cst : Nat) (s : State), let m := s.m
    (m.sys.inReset = true → exec (.registerWrite (.port p) 0x400F0000 x) s = .next s) ∧
    (m.sys.inReset = false →
      (p = 0 ∨ p = 1 ∧ hostSees m = true → domOn m 4 = true →
        exec (.registerWrite (.port p) 0x400F0000 x) s = .next { s with m := plainWrite 15 0 (x % 2 ^ 32) m }) ∧
      (p ≠ 0 → p ≠ 1 → exec (.registerWrite (.port p) 0x400F0000 x) s = .next { s with m := accessDenied m p 0x400F0000 }) ∧
      (k < 16 → hostSees m = true →
        exec (.registerWrite .bar2 (k * 0x400) x) s = .next { s with m := producerDoorbell 0 (k * 0x400) k x (32 + k) m }) ∧
      (hostSees m = true → domOn m dTIME = true → anyEnabled m = false → m.locks.sch = false → len < 5 → cst < 2 →
        ∃ m', exec (.cycleCfgWrite (len + 256 * cst)) s = .next { s with m := m' } ∧
        getF m' TIME_CYCLE_CFG_LEN = len ∧ getF m' TIME_CYCLE_CFG_PLAN_CUSTOM = cst ∧ m'.cyc = m.cyc ∧ m'.mem = m.mem))) ∧
  (∀ (p : Nat) (s : State), p = 0 ∨ p = 1 ∧ hostSees s.m = true → s.m.sys.inReset = false → domOn s.m dTIME = true →
    (∀ o, o < 8 → (outSt s.m o).ending = false) →
    let t := s.m.cyc.now
    let lo := regRead (.port p) 0x400B000C s.m
    exec (.registerLoRead (.port p) 0x400B000C) s = .next { s with m := { lo.2.2 with out := { lo.2.2.out with answer := (t % 2 ^ 32, false) } } } ∧
    lo.1 = t % 2 ^ 32 ∧ sget lo.2.2.hiLatch 0x400B0010 0 = t / 2 ^ 32 % 2 ^ 32 ∧ lo.2.2 = { s.m with hiLatch := lo.2.2.hiLatch } ∧
    ∀ d, (regRead (.port p) 0x400B0010 (at' lo.2.2 d)).1 = t / 2 ^ 32 % 2 ^ 32) ∧
  (∀ (off : Nat) (s : State), let m := s.m
    let answers (v : Nat) : Out := .next { s with m := { m with out := { m.out with answer := (v, false) } } }
    exec (.registerLoRead .bar2 off) s = answers 0 ∧
    (m.sys.inReset = false → hostSees m = true →
      (0x1800000 ≤ off → exec (.registerLoRead .bar4 off) s = answers 0) ∧
      (off + 4 ≤ 0x1800000 → off % 4 = 0 → unitOn m uFAB = false → m.test.fab = [] → m.memb.flips = [] → m.memb.poison = [] →
        exec (.registerLoRead .bar4 off) s = answers (rdVal m (0x10000000 + off) 4)))) ∧
  (∀ (off : Nat) (l : List Nat) (s : State), let m := s.m
    hostSees m = true → off + l.length ≤ 0x1800000 → l ≠ [] →
    (m.locks.cfg = true → exec (.bar4Write off l) s = .next { s with m := lockViolation m 0 off }) ∧
    (m.locks.cfg = false → Memory.wf m.mem = true → unitOn m uFAB = false → m.test.fab = [] → m.memb.flips = [] →
      ∃ m', exec (.bar4Write off l) s = .next { s with m := m' } ∧ Memory.wf m'.mem = true ∧
        (∀ i, i < l.length → rdByte m' (0x10000000 + off + i) = nth l i % 256) ∧
        (∀ a, a < 0x10000000 + off ∨ 0x10000000 + off + l.length ≤ a → rdByte m' a = rdByte m a) ∧ m'.regs = m.regs ∧ m'.cores = m.cores)) ∧
  (∀ (n x : Nat) (en : Bool) (l : List Nat) (s : State), s.m.sys.inReset = false → let m := s.m
    let off (i : Instr) (blk o : Nat) : Prop := blockOn m blk = false →
      exec i s = .next { s with m := irq (report (flag m SYS_FLAGS_DOMAIN_OFF) E_SYS_DOMAIN_OFF 0 5 blk o) 256 }
    off (.msixTableWrite n 0 x) 1 (0x8000 + 16 * n) ∧ off (.featureNegotiationGo x) 1 0x30 ∧
    off (.ringEnable 0 n) 1 (0x40C + 0x40 * n) ∧ off (.ringDisable 3 n) 1 (0x100C + 0x40 * n) ∧
    off (.counterSet x) 3 0x204 ∧ off (.counterDecrement x) 3 0x208 ∧ off (.ladleSubmit n l) 3 0x100 ∧
    (n < 16 → off (.axlCommit n) 7 (0x100C + 0x100 * n) ∧ off (.tuneAbort n) 7 (0x2018 + 0x40 * n)) ∧ off (.tuneGo n) 7 (0x2018 + 0x40 * n) ∧
    off (.perWrite n x) 8 (0x1004 + 0x100 * n) ∧ off (.pwrCommit n) 8 (0x1014 + 0x100 * n) ∧ off (.evtCfgWrite n x) 8 (0x1040 + 0x100 * n) ∧
    off (.encoderEnable n x) 9 (0x1000 + 0x80 * n) ∧ off (.xposWrite n x) 9 (0x103C + 0x80 * n) ∧
    off (.txPublish x) 10 0x400 ∧ off (.acquireView x) 10 0x404 ∧ off (.modeCtrlGo n) 10 8 ∧
    off (.selWrite n) 11 0 ∧ off (.domainEnable n en) 11 (0x100 + 0x30 * n) ∧ off (.outGo n) 11 (0x418 + 0x20 * n) ∧
    off (.outStop n) 11 (0x418 + 0x20 * n) ∧ off .tapCtrlArm 12 0 ∧ off .tapCtrlStop 12 0 ∧ off .tapForce 12 0 ∧ off .pairCtrlSwap 14 0x40)

/-- WATCHDOG_KICK with its key begins a new period, any other value leaves it running; WATCHDOG_EXPIRY after PER ms without a kick, and
LOCKSTEP_MISMATCH, stop the supervisor: the cause is held, SUP_STOPPED is set and HS_ALERT_N goes low; before the period has passed nothing
happens (21 R586, 23 R634, R635). CHIP_RESET_REQUEST with the key, and REF_CLK_FAILURE, hold the outputs and request a chip reset; without
the key the request is ignored and reported; RESET_RELEASE takes the block out of reset with the base domains on, the watchdog running and
the supervisor at its reset state (23 R618, R624, R633, R634). -/
def Obligations.WatchdogAndResetRequests : Prop :=
  (∀ (x t : Nat) (s : State), let m := s.m
    let stops (c : Nat) (i : Instr) : Prop := ∃ m', exec i s = .next { s with m := m' } ∧ m'.sys.stopped = some c ∧ m'.sys.alert = true ∧
      m'.cores = m.cores ∧ m'.mem = m.mem
    (m.sys.wdtOn = true → exec (.watchdogKick 0xC3A5 t) s = .next { s with m := { at' m t with sys := { m.sys with wdtAt := max m.cyc.now t } } }) ∧
    (x ≠ 0xC3A5 → exec (.watchdogKick x t) s = .next { s with m := at' m t }) ∧
    (m.sys.stopped = none → m.sys.wdtOn = true → m.sys.wdtAt + 800000 * getF m SYS_WDT_CFG_PER ≤ t → stops 2 (.watchdogExpiry t)) ∧
    (t < m.sys.wdtAt + 800000 * getF m SYS_WDT_CFG_PER → exec (.watchdogExpiry t) s = .next s) ∧
    (m.sys.stopped = none → m.sys.inReset = false → stops 3 .lockstepMismatch)) ∧
  (∀ (x : Nat) (pcie : Bool) (s : State), let m := s.m
    (m.sys.inReset = false →
      (x.testBit 0 = true → bits x 8 8 = 0xA5 → ∃ m', exec (.chipResetRequest x) s = .next { s with m := m' } ∧ m'.sys.chipRst = some 1 ∧
        m'.sys.clamp = true ∧ m'.mem = m.mem ∧ m'.locks = m.locks) ∧
      (x.testBit 0 = true → bits x 8 8 ≠ 0xA5 → exec (.chipResetRequest x) s = .next { s with m := badCfg m 0 0x1C }) ∧
      (x.testBit 0 = false → exec (.chipResetRequest x) s = .next s) ∧
      (∃ m', exec .refClkFailure s = .next { s with m := m' } ∧ m'.sys.chipRst = some 5 ∧ m'.sys.clamp = true ∧ getF m' SYS_CLK_STAT_REF_OK = 0 ∧
        m'.mem = m.mem)) ∧
    (m.sys.inReset = true → ∃ m', exec (.resetRelease pcie) s = .next { s with m := m' } ∧ m'.sys.inReset = false ∧ m'.sys.chipRst = none ∧
      m'.sys.wdtOn = true ∧ m'.sys.wdtAt = m.cyc.now ∧ m'.sup = { t0 := 2 * m.cyc.now } ∧ m'.safe.st = 1 ∧
      getF m' SYS_PWR_STAT_ON = 0x17 ∧ getF m' SYS_CLK_STAT_ROOT_LOCK = 1 ∧ getF m' SYS_CLK_STAT_PCIE_REF = b2n pcie ∧ m'.mem = m.mem))

/-- POWER_ON_RESET and SUPPLY_OUT_OF_RANGE put the block to its reset state but for the fuses, what has left it and what lies outside; a chip
reset asked for, and a recovery reset after a supervisor stop, do too, but keep the fault log, count the reset and record its cause (23
R616, R618, R623, R635). RESET_BLOCK resets a block that may be reset: the job completes when BLOCK_RESET_DONE comes, which reports
E_SYS_BLOCK_RESET; another block is E_HIF_BAD_PARAM, one in use E_SYS_RESET_BUSY, both with nothing reset (23 R617). -/
def Obligations.ResetsStartAnew : Prop :=
  (∀ (s : State), let m := s.m
    let fresh (m' : Mach) : Prop := m'.locks = {} ∧ m'.mem = [] ∧ m'.hif = {} ∧ m'.ladle = {} ∧ m'.cores = [] ∧ m'.sup = {} ∧ m'.mould = {} ∧
      m'.cyc = {} ∧ m'.run = {} ∧ m'.duo = {} ∧ m'.tap = {} ∧ m'.twi = {} ∧ m'.sys.inReset = true ∧ m'.out = m.out ∧
      getF m' SYS_UID_LO_UID = getF m SYS_UID_LO_UID % 2 ^ 32
    let chip (i : Instr) (cause : Fld) : Prop := ∃ m', exec i s = .next { s with m := m' } ∧ fresh m' ∧ m'.sys.flog = m.sys.flog ∧
      getF m' cause = 1 ∧ getF m' SYS_RST_CAUSE_POR = 0 ∧ getF m' SYS_RST_CAUSE_COUNT = min 255 (getF m SYS_RST_CAUSE_COUNT + 1)
    (∃ m', exec .powerOnReset s = .next { s with m := m' } ∧ fresh m' ∧ m'.sys.flog = []) ∧
    (∃ m', exec .supplyOutOfRange s = .next { s with m := m' } ∧ fresh m' ∧ m'.sys.flog = []) ∧
    (m.sys.chipRst = some 1 → chip .chipReset SYS_RST_CAUSE_SOFT) ∧ (m.sys.chipRst = some 5 → chip .chipReset SYS_RST_CAUSE_CLOCK) ∧
    (m.sys.stopped = some 2 → getF m SYS_CTRL_RECOVER_MS ≠ 0 → chip .recoveryReset SYS_RST_CAUSE_WDT) ∧
    (m.sys.stopped = some 2 → getF m SYS_CTRL_RECOVER_MS = 0 → exec .recoveryReset s = .next s)) ∧
  (∀ (j : Job) (b : Nat) (c : Compl) (s : State), let m := s.m
    (JobRuns 0x0004 j m →
      (j.desc.par 0 = 12 → ∃ m', exec (.resetBlock j) s = .next { s with m := m' } ∧ m'.tap = {} ∧ m'.locks = m.locks ∧ m'.mould.image = m.mould.image ∧
        m'.sys.resetting = m.sys.resetting ++ [(12, jcompl (asJob 0x0004 j) 0 0 none)]) ∧
      (∀ a ∈ ([3, 5, 6, 7, 8, 9, 10, 11, 14] : List Nat), j.desc.par 0 = a →
        (anyEnabled m = false → (∃ st ∈ ([0, 1, 2, 5, 8] : List Nat), getF m TWI_STATUS_STATE = st) →
          ∃ m', exec (.resetBlock j) s = .next { s with m := m' } ∧ m'.locks = m.locks ∧ m'.mould.image = m.mould.image ∧ m'.mem = m.mem ∧
            m'.sys.resetting = m.sys.resetting ++ [(a, jcompl (asJob 0x0004 j) 0 0 none)]) ∧
        (anyEnabled m = true ∨ getF m TWI_STATUS_STATE = 3 ∨ getF m TWI_STATUS_STATE = 4 →
          exec (.resetBlock j) s = jobFails s 0x0004 j m E_SYS_RESET_BUSY a))) ∧
    (jobWaits m (asJob 0x0004 j) = false → fetchCheck m (asJob 0x0004 j).desc = none →
      (∃ a ∈ ([0, 1, 2, 4, 13, 15] : List Nat), j.desc.par 0 = a) ∨ 17 ≤ j.desc.par 0 →
      exec (.resetBlock j) s = jobEnds s 0x0004 j m E_HIF_BAD_PARAM 0 none) ∧
    (m.sys.resetting = [(b, c)] → m.hif.deleting = [] → c.ring < 16 → c.quiet = false →
      ∃ m', exec (.blockResetDone b) s = .next { s with m := m' } ∧ m'.sys.resetting = [] ∧ m'.hif.compl = m.hif.compl ++ [c]) ∧
    (m.sys.resetting = [] → exec (.blockResetDone b) s = .next s))

/-- POWER_CONTROL_WRITE begins to switch the domains whose bit changes, each judged on its own, here the Tap's: one in use is refused with
E_SYS_RESET_BUSY; DOMAIN_TRANSITION_DONE ends the transition, with the domain on or off; off, a domain with memory loses exactly that memory
(what it reads as then is entry 3's). A sideband record is sent while HS_ALERT_N is low, and in each boot phase before READY (23 R621, R630,
R631). -/
def Obligations.PowerDomainsAndSideband : Prop :=
  ∀ (s : State), let m := s.m
    let on := getF m SYS_PWR_CTRL_ON
    (m.sys.inReset = false → on.testBit 12 = false → on < 2 ^ 14 → domOff m 12 = false → m.sys.trans = [] → (getF m SYS_PWR_STAT_ON).testBit 12 = false →
      ∃ m', exec (.powerControlWrite (on + 2 ^ 12)) s = .next { s with m := m' } ∧ m'.sys.trans = [(12, true)] ∧ (getF m' SYS_PWR_STAT_TRANS).testBit 12 = true ∧
        getF m' SYS_PWR_CTRL_ON = on + 2 ^ 12 ∧ m'.mem = m.mem) ∧
    (m.sys.inReset = false → on.testBit 12 = true → on < 2 ^ 14 → getF m TAP_STAT_STATE ≠ tIdle →
      exec (.powerControlWrite (on - 2 ^ 12)) s = .next { s with m := logNode m E_SYS_RESET_BUSY 12 }) ∧
    (m.sys.trans = [(12, true)] → getF m SYS_PWR_STAT_ON < 2 ^ 14 → ∃ m', exec (.domainTransitionDone 12) s = .next { s with m := m' } ∧ m'.sys.trans = [] ∧
      (getF m' SYS_PWR_STAT_ON).testBit 12 = true ∧ (getF m' SYS_PWR_STAT_TRANS).testBit 12 = false ∧ m'.tap = {} ∧ m'.mem = m.mem) ∧
    (∀ d, d = 5 ∨ d = 6 ∨ d = 7 ∨ d = 12 → m.sys.trans = [(d, false)] → ∃ m', exec (.domainTransitionDone d) s = .next { s with m := m' } ∧ m'.sys.trans = [] ∧
      (getF m' SYS_PWR_STAT_ON).testBit d = false ∧ m'.mem = m.mem.filter (fun c => !inDomain d c.1)) ∧
    (let rec_ (code det : Nat) : List Nat := let l := 0x7E :: (leBytes 2 code ++ leBytes 4 det); l ++ [(l.drop 1).foldl (· ^^^ ·) 0]
     let sends (l : List Nat) : Out := .next { s with m := { m with out := { m.out with sideband := m.out.sideband ++ [l] } } }
     m.sys.inReset = false →
      (m.sys.alert = true → exec .sidebandStatusRecord s = sends (rec_ m.sys.sideCode m.sys.sideDetail)) ∧
      (m.sys.alert = false → getF m HIF_STATUS_READY ≠ 1 → exec .sidebandStatusRecord s = sends (rec_ E_SYS_BOOT_PHASE (getF m SYS_BOOT_STAT_PHASE))) ∧
      (m.sys.alert = false → getF m HIF_STATUS_READY = 1 → exec .sidebandStatusRecord s = .next s))

/-- STRAP_SAMPLE takes the straps and what the fuses hold; a valid combination sets VALID, an invalid one leaves only the always-on domain, with
E_SYS_STRAP_INVALID on the host sideband (23 R614, R615). The JTAG instructions select and capture their data register: BYPASS one bit 0,
IDCODE version 1 and part 0x0256 with the manufacturer's code (left open) and bit 0 set, SAMPLE/PRELOAD and EXTEST the boundary-scan cells,
EXTEST only with the TEST_EN strap, else as BYPASS; nothing but JTAG changes (24 R660). -/
def Obligations.StrapsAndJtag : Prop :=
  (∀ (node src fuse uid grade : Nat) (mgr test : Bool) (hashes : List (List Nat)) (s : State), s.m.sys.inReset = false → node < 64 → src < 4 →
    let i := Instr.strapSample node src mgr test fuse uid grade hashes
    ∃ m', exec i s = .next { s with m := m' } ∧ getF m' SYS_STRAP_NODE_ID = node ∧ getF m' SYS_STRAP_ROLE = b2n mgr ∧
      getF m' SYS_STRAP_TEST_EN = b2n test ∧ getF m' SYS_STRAP_BOOT_SRC = src ∧ getF m' SYS_UID_LO_UID = uid % 2 ^ 32 ∧ m'.sys.hash = hashes ∧
      (strapsValid node src mgr (getF s.m SYS_STRAP_PCIE_CLK == 1) = true → getF m' SYS_STRAP_VALID = 1) ∧
      (strapsValid node src mgr (getF s.m SYS_STRAP_PCIE_CLK == 1) = false →
        m'.sys.alert = true ∧ m'.sys.sideCode = E_SYS_STRAP_INVALID ∧ getF m' SYS_PWR_STAT_ON = 1 ∧ m'.sys.trans = []) ∧
      m'.mem = s.m.mem ∧ m'.locks = s.m.locks) ∧
  (∀ (l : List JPin) (s : State), let m := s.m
    let cells := l.filter (fun c => decide (c.group ≤ 3))
    exec .bypass s = .next { s with m := { m with jtag := { m.jtag with ins := .bypass, dr := 0 } } } ∧
    (∃ code, code < 2 ^ 11 ∧ exec .idcode s = .next { s with m := { m with jtag := { m.jtag with ins := .idcode, dr := 0x10256001 + 2 * code } } }) ∧
    exec (.samplePreload l) s = .next { s with m := { m with jtag := { ins := .samplePreload, dr := 0, cells := cells } } } ∧
    (getF m SYS_STRAP_TEST_EN = 1 → exec (.extest l) s = .next { s with m := { m with jtag := { ins := .extest, dr := 0, cells := cells } } }) ∧
    (getF m SYS_STRAP_TEST_EN = 0 → exec (.extest l) s = .next { s with m := { m with jtag := { m.jtag with ins := .bypass, dr := 0 } } }))

/-- Boot finds the flash with a valid header and a run of at least 4 good delays, and goes on to authentication; firmware that passes every step
runs at its entry, with READY; a first copy that fails gives way to the second, and after it boot fails or falls back to PCIe; an image over
PCIe that fails ends boot in phase 6. The model image of the flash is loaded where it passes both authentication and the checks of a model;
without one, or with one that fails, boot ends all the same (23 R625 to R629, 04 R126). -/
def Obligations.BootAuthenticatesFirmware : Prop :=
  ∀ (l : List Nat) (ms mode len : Nat) (eye : List Bool) (s : State), let m := s.m
    booting m = true →
    (m.sys.pcie = false → getF m SYS_BOOT_STAT_PHASE = 0 → 4 ≤ longestRun (eye.take 16) 0 0 → ∃ m', exec (.flashDiscovery true mode eye) s = .next { s with m := m' } ∧
      getF m' SYS_BOOT_STAT_PHASE = 2 ∧ getF m' SYS_BOOT_STAT_MODE = min mode 2 ∧ m'.mem = m.mem) ∧
    (m.sys.pcie = false → getF m SYS_BOOT_STAT_PHASE = 2 → imgFail m false l = 0 → ∃ m', exec (.firmwareAuthentication l ms) s = .next { s with m := m' } ∧
      getF m' SYS_BOOT_STAT_PHASE = 4 ∧ getF m' HIF_STATUS_READY = 1 ∧ (coreSt m' 32).pc = BitVec.ofNat 32 (field l 20 4) ∧ m'.sys.clamp = false ∧
      getF m' SYS_FW_VER_VERSION = field l 12 4 ∧ m'.mem = (loadSegs m l).mem) ∧
    (m.sys.pcie = false → getF m SYS_BOOT_STAT_PHASE = 2 → imgFail m false l ≠ 0 → m.sys.bootTries = 0 →
      exec (.firmwareAuthentication l ms) s = .next { s with m := { m with sys := { m.sys with bootTries := 1 } } }) ∧
    (m.sys.pcie = false → getF m SYS_BOOT_STAT_PHASE = 2 → imgFail m false l ≠ 0 → m.sys.bootTries = 1 → getF m SYS_STRAP_BOOT_SRC = 0 →
      ∃ m', exec (.firmwareAuthentication l ms) s = .next { s with m := m' } ∧ getF m' SYS_BOOT_STAT_PHASE = 6 ∧ m'.sys.alert = true ∧ m'.mem = m.mem) ∧
    (let m1 := setF m SYS_BOOT_LEN_LEN 0 len
     let img := rdBytes m1 0x10000000 (getF m1 SYS_BOOT_LEN_LEN)
     (m.sys.pcie = true → imgFail m1 false img = 0 → ∃ m', exec (.bootLenWrite len ms) s = .next { s with m := m' } ∧ getF m' SYS_BOOT_STAT_PHASE = 4 ∧
        getF m' HIF_STATUS_READY = 1 ∧ getF m' SYS_BOOT_STAT_COPY = 2 ∧ (coreSt m' 32).pc = BitVec.ofNat 32 (field img 20 4) ∧ m'.mem = (loadSegs m1 img).mem) ∧
     (m.sys.pcie = true → imgFail m1 false img ≠ 0 → ∃ m', exec (.bootLenWrite len ms) s = .next { s with m := m' } ∧ getF m' SYS_BOOT_STAT_PHASE = 6 ∧ m'.mem = m.mem)) ∧
    (getF m SYS_BOOT_STAT_PHASE = 4 → field l 0 4 = 0xFFFFFFFF → ∃ m', exec (.bootModelLoad l) s = .next { s with m := m' } ∧
      getF m' SYS_BOOT_STAT_PHASE = 5 ∧ m'.mould = m.mould ∧ m'.mem = m.mem) ∧
    (let seg := (imgSegs l).headD (0, 0, 0, 0)
     let img := (l.drop seg.2.2.1).take seg.2.1
     let acc := acceptedSet m
     getF m SYS_BOOT_STAT_PHASE = 4 → field l 0 4 ≠ 0xFFFFFFFF → imgFail m true l = 0 →
      (imageFail (discardModel m) acc img = none → ∃ m', exec (.bootModelLoad l) s = .next { s with m := m' } ∧ getF m' SYS_BOOT_STAT_PHASE = 5 ∧
        m'.mould.loaded = true ∧ m'.mould.image = img ∧ m'.mould.modelId = field img 12 4 ∧ m'.mem = (loadImage acc img m).1.mem ∧
        (isManager m = true → m'.locks = m.locks)) ∧
      (imageFail (discardModel m) acc img ≠ none → ∃ m', exec (.bootModelLoad l) s = .next { s with m := m' } ∧ getF m' SYS_BOOT_STAT_PHASE = 5 ∧
        m'.mould.loaded = false ∧ m'.locks = m.locks)) ∧
    (getF m SYS_BOOT_STAT_PHASE = 4 → field l 0 4 ≠ 0xFFFFFFFF → imgFail m true l ≠ 0 → ∃ m', exec (.bootModelLoad l) s = .next { s with m := m' } ∧
      getF m' SYS_BOOT_STAT_PHASE = 5 ∧ m'.mould = m.mould)

/-- The test registers unlock after the three key values, in order, by one port, each within 1 ms, while the mirror shows COMMISSIONING; another
value starts anew. TEST_LOCK ends the session with every unit off. Unit PCIE is enabled with a notice and takes effect at the next boundary;
its disable stops it at once; TEST_PERTURB for a locked node is E_HIF_FEATURE_OFF, and stops a unit on request (25 R667, R668, R670, R675). -/
def Obligations.TestUnlockAndUnits : Prop :=
  ∀ (port x t : Nat) (j : Job) (s : State), let m := s.m
    let now (m : Mach) : Mach := at' m t
    let step (n : Nat) : Mach := { now m with test := { m.test with step := n, port := port, at_ := t } }
    (port < 2 → getF m TEST_STAT_UNLOCK = 0 → commissioning m = true →
      (m.test.step = 0 → exec (.testKeyWrite port 0x7E57 t) s = .next { s with m := step 1 }) ∧
      (m.test.step = 1 → m.test.port = port → t ≤ m.test.at_ + 800000 → exec (.testKeyWrite port 0xC0DE t) s = .next { s with m := step 2 }) ∧
      (m.test.step = 2 → m.test.port = port → t ≤ m.test.at_ + 800000 →
        exec (.testKeyWrite port 0x0A11 t) s = .next { s with m := setF { now m with test := { m.test with step := 0 } } TEST_STAT_UNLOCK 0 2 }) ∧
      (x ≠ 0x7E57 → x ≠ 0xC0DE → x ≠ 0x0A11 → exec (.testKeyWrite port x t) s = .next { s with m := { now m with test := { m.test with step := 0 } } })) ∧
    (getF m TEST_STAT_UNLOCK = 2 → ∃ m', exec .testLock s = .next { s with m := m' } ∧ getF m' TEST_STAT_UNLOCK = 0 ∧ getF m' TEST_CTRL_EN = 0 ∧
      getF m' TEST_STAT_ACTIVE = 0 ∧ m'.mem = m.mem) ∧
    (getF m TEST_STAT_UNLOCK = 2 → getF m TEST_CTRL_EN = 0 → ∃ m', exec (.testUnitEnable uPCIE) s = .next { s with m := m' } ∧ getF m' TEST_CTRL_EN = 2 ^ uPCIE ∧
      getF m' TEST_STAT_ACTIVE = getF m TEST_STAT_ACTIVE ∧ m'.mem = m.mem) ∧
    (getF m TEST_STAT_UNLOCK = 2 → getF m TEST_CTRL_EN = 2 ^ uPCIE → getF m TEST_STAT_ACTIVE = 2 ^ uPCIE →
      ∃ m', exec (.testUnitDisable uPCIE) s = .next { s with m := m' } ∧ getF m' TEST_CTRL_EN = 0 ∧ getF m' TEST_STAT_ACTIVE = 0) ∧
    (JobRuns 0x1001 j m → getF m TEST_STAT_UNLOCK = 0 → exec (.testPerturb j) s = jobEnds s 0x1001 j m E_HIF_FEATURE_OFF 0xFFFFFFFF none) ∧
    (JobRuns 0x1001 j m → getF m TEST_STAT_UNLOCK ≠ 0 → j.desc.dataLen = 64 → j.data = [6, 1, 0, 0] →
      exec (.testPerturb j) s = jobEnds s 0x1001 j (stopUnit m uPCIE 1) 0 m.cyc.n none)

/-- The scrubber reads its next line: new upsets of one or two bits are corrected and counted and the word is due for its write-back, three make
it poisoned, and the scrubber goes on to the next line; while the Crucible window is open it does not read Crucible memory. A write-back
clears the bits in error of its word (22 R604, R606, R607, R610). -/
def Obligations.ScrubbingCorrectsAndPoisons : Prop :=
  ∀ (k a b c : Nat) (s : State), let m := s.m
    let line := getF m MEM_SCRUB_STAT_LINE
    let w := 0x10000000 + 32 * line
    (getF m MEM_CTRL_SCRUB_EN = 1 → m.memb.ended = false → getF m MEM_SCRUB_STAT_REGION = 0 → line + 1 < 786432 → m.memb.flips = [] → m.memb.poison = [] →
      a < 80 → b < 80 → c < 80 → a < b → b < c →
      (exec (.scrubRead []) s = .next { s with m := setF m MEM_SCRUB_STAT_LINE 0 (line + 1) }) ∧
      (getF m MEM_CTRL_WB_EN = 1 → ∃ m', exec (.scrubRead [(0, [a, b])]) s = .next { s with m := m' } ∧ w ∈ m'.memb.due ∧ m'.memb.poison = [] ∧
        getF m' MEM_CE_CNT_CNT 0 = min (2 ^ MEM_CE_CNT_CNT.w - 1) (getF m MEM_CE_CNT_CNT 0 + 1) ∧ m'.mem = m.mem ∧ getF m' MEM_SCRUB_STAT_LINE = line + 1) ∧
      (∃ m', exec (.scrubRead [(0, [a, b, c])]) s = .next { s with m := m' } ∧ m'.memb.poison = [w] ∧ m'.memb.flips = [] ∧
        getF m' MEM_LAST_ADDR_ADDR = w ∧ getF m' MEM_UE_CNT_CNT = min (2 ^ MEM_UE_CNT_CNT.w - 1) (getF m MEM_UE_CNT_CNT + 1) ∧
        getF m' MEM_SCRUB_STAT_LINE = line + 1)) ∧
    (getF m MEM_CTRL_SCRUB_EN = 1 → getF m MEM_SCRUB_STAT_REGION = 2 → getF m CRUC_STATUS_WINDOW = 1 → exec (.scrubRead []) s = .next s) ∧
    (k ∈ m.memb.due → ∃ m', exec (.correctedWriteBack k) s = .next { s with m := m' } ∧ k ∉ m'.memb.due ∧ flipsOf m' k = [] ∧
      (∀ x, x ≠ k → flipsOf m' x = flipsOf m x) ∧ m'.mem = m.mem ∧ m'.regs = m.regs) ∧
    (k ∉ m.memb.due → exec (.correctedWriteBack k) s = .next s) ∧
    (getF m MEM_CTRL_SCRUB_EN = 1 →
      (m.memb.ended = true → exec .scrubPeriodExpiry s = .next { s with m := { m with memb := { m.memb with ended := false } } }) ∧
      (m.memb.ended = false → ∃ m', exec .scrubPeriodExpiry s = .next { s with m := m' } ∧ m'.memb.late = true ∧ getF m' MEM_FLAGS_SCRUB_LATE = 1 ∧ m'.mem = m.mem))

/-- A motion job that passes its checks asks what it says of the next snapshot, and completes with the cycle of effect as RESULT once that cycle
is committed: a MOVE job gives its segments, numbered by SEG_ID and with descriptors, at the queue's end or in its place; the others act on
every unit of their mask, here of one unit. GEAR_SET and GEAR_CHANGE_AT are judged at that snapshot and complete then; a gear that waits for
a start completes when it is armed. A job that a check turns away changes nothing and carries its status (07 R201 to R204, R213, R215, R219,
R220, R225, R232 to R235, 08 R243, R244, R248, R254 to R256).
TRIGGER_BUS_EDGE on the line of the shared start shows its level. A rising edge in the ready state, on a line that this start owns and has
seen low since its arming for at least ARM_MIN, sets the start to DELAY after it, less COMP, though not before the first entry planned after
it (08 R256, R257). -/
def Obligations.MotionJobsAndSharedStarts : Prop :=
  (∀ (j : Job) (g : GroupRec) (s : State), g.group < 32 → let m := s.m
    let p := j.desc.par
    let e := effectCycle m
    let d := (grp m g.group).com
    let n := (unitAxes m g).length
    let rep := p 1 % 4 = 1
    let words (o : Nat) : List Int := (List.range n).map (fun i => sgn 64 (field j.data (o + 8 * i) 8))
    -- the job is accepted, and asks `acts` of the next snapshot; `more` holds of the machine it leaves
    let asks (i : Instr) (opc : Nat) (acts : List Act → Prop) (more : Mach → Prop) : Prop :=
      ∃ m' l, exec i s = jobEnds s opc j m' 0 (e % 2 ^ 32) (some e) ∧ m'.run.acts = m.run.acts ++ l ∧ acts l ∧ more m' ∧
        m'.mem = m.mem ∧ m'.locks = m.locks ∧ m'.mould = m.mould ∧ m'.cyc = m.cyc
    let refuses (i : Instr) (opc status detail : Nat) : Prop := exec i s = jobFails s opc j m status detail
    -- the segments of a MOVE job
    let moves (i : Instr) (opc descs : Nat) (segs : List Seg → Prop) : Prop :=
      streamBusy m g = false →
      (descs ≤ (freeDescs m g).length → asks i opc
        (fun l => ∃ q, l = [{ kind := 1, grp := g.group, data := [if rep then 1 else 0], segs := q }] ∧ segs q ∧ (∀ x ∈ q, x.sid = p 1 / 65536) ∧
          (q.head?.map (·.wait)) = some ((p 1).testBit 2) ∧ (q.flatMap (·.ix)).length = descs)
        (fun m' => rep → (grp m' g.group).pend = (grp m g.group).pend ||| 1)) ∧
      ((freeDescs m g).length < descs → refuses i opc E_RUN_QUEUE_FULL (freeDescs m g).length)
    let modeOk := p 1 % 4 < 2 ∧ bits (p 1) 3 13 = 0
    let single := groupRec m (p 0) = some g ∧ g.set = 0xFF
    let virtual : Prop := d.engaged = true ∧ d.gsrc = 2
    -- jobs on the units of a mask
    let mask (i : Instr) (opc : Nat) (a : Act) (more : Mach → Prop) : Prop :=
      maskUnits m (p 0) = some [g] → asks i opc (fun l => l = [{ a with grp := g.group }]) more
    (single → modeOk → g.kind ≠ 2 →
      (JobRuns 0x0601 j m → g.kind < 4 → p 2 ≤ 2 ^ 30 → p 3 ≤ 2 ^ 30 →
        (j.desc.dataLen = 8 * n → moves (.movePtp j) 0x0601 ((n + 11) / 12) (fun q => ∃ x, q = [x] ∧ x.typ = 0 ∧ x.target = words 0)) ∧
        (j.desc.dataLen ≠ 8 * n → refuses (.movePtp j) 0x0601 E_RUN_BAD_DATA (min (j.desc.dataLen / 8) n))) ∧
      (JobRuns 0x0602 j m → g.kind = 1 → p 2 = 0 → j.desc.dataLen % 64 = 0 → j.desc.dataLen ≠ 0 →
        let items := records j.data 0 64 (j.desc.dataLen / 64)
        (pathFault m g (decide rep) items = none → moves (.movePath j) 0x0602 (j.desc.dataLen / 64) (fun q => q.map (·.raw) = items)) ∧
        (∀ k, pathFault m g (decide rep) items = some k → refuses (.movePath j) 0x0602 E_RUN_BAD_DATA k)) ∧
      (JobRuns 0x0604 j m → g.kind = 0 ∨ g.kind = 3 → p 1 < 32 → getF m HIF_STR_CTRL_STATE (p 1) = 1 → getF m HIF_STR_CFG_DIR (p 1) = 0 →
        getF m HIF_STR_AUX_GROUP (p 1) = g.group →
        (streamBusy m g = false → atRest d = true → queueView m g.group = [] →
          asks (.streamBind j) 0x0604 (fun l => l = [{ kind := 6, grp := g.group, data := [(p 1 : Int)] }]) (fun _ => True)) ∧
        (streamBusy m g = true ∨ atRest d = false ∨ queueView m g.group ≠ [] → refuses (.streamBind j) 0x0604 E_RUN_GROUP_BUSY (groupState d)))) ∧
    (single → modeOk → JobRuns 0x0603 j m → g.kind ≠ 2 → g.kind < 4 → 1 ≤ p 2 → p 2 < 65536 → n ≠ 0 → j.desc.dataLen ≠ 0 → j.desc.dataLen % (8 * n) = 0 →
      streamBusy m g = false → j.desc.dataLen / (8 * n) * ((n + 11) / 12) ≤ (freeDescs m g).length →
      ∃ m' x, exec (.moveSpline j) s = jobEnds s 0x0603 j m' 0 (e % 2 ^ 32) (some e) ∧ m'.mem = m.mem ∧ p 2 ≤ x.interval ∧ x.typ = 3 ∧
        m'.run.acts = m.run.acts ++ [{ kind := 1, grp := g.group, data := [if rep then 1 else 0], segs := [x] }]) ∧
    (JobRuns 0x0605 j m → mask (.feedHold j) 0x0605 { kind := 2 } (fun m' => (grp m' g.group).pend = (grp m g.group).pend ||| (if d.fh then 0 else 4))) ∧
    (JobRuns 0x0606 j m →
      (d.mode ≠ 3 → d.mode ≠ 5 → g.kind ≠ 2 ∨ virtual → mask (.resumeJob j) 0x0606 { kind := 3 } (fun m' =>
        (grp m' g.group).pend = (grp m g.group).pend ||| (if d.fh ∨ d.mode = 4 then 4 else 0))) ∧
      (d.mode = 3 ∨ d.mode = 5 → maskUnits m (p 0) = some [g] → refuses (.resumeJob j) 0x0606 E_RUN_RAMP_ACTIVE 0) ∧
      (d.mode ≠ 3 → d.mode ≠ 5 → g.kind = 2 → ¬ virtual → maskUnits m (p 0) = some [g] →
        refuses (.resumeJob j) 0x0606 E_RUN_GEAR_NOT_ENGAGED 0)) ∧
    (JobRuns 0x0607 j m → groupRec m (p 0) = some g → unitOf m g = g → (members m g).map (·.group) = [g.group] →
      (p 1 ≤ 2 ^ 30 → d.engaged = false ∨ d.gsrc = 2 → asks (.overrideJob j) 0x0607 (fun l => l = []) (fun m' => getF m' RUN_GRP_OVR_OVR g.group = p 1)) ∧
      (d.engaged = true → d.gsrc ≠ 2 → refuses (.overrideJob j) 0x0607 E_RUN_BAD_KIND g.kind)) ∧
    (jobWaits m (asJob 0x0607 j) = false → fetchCheck m (asJob 0x0607 j).desc = none → groupRec m (p 0) = some g → 2 ^ 30 < p 1 →
      exec (.overrideJob j) s = jobEnds s 0x0607 j m E_HIF_BAD_PARAM 1 none) ∧
    (JobRuns 0x0608 j m → mask (.stopJob j) 0x0608 { kind := 5 } (fun m' =>
      (grp m' g.group).pend = (grp m g.group).pend ||| 1 ∧ g.group ∉ m'.run.start.groups)) ∧
    (single → g.kind = 2 →
      (JobRuns 0x0609 j m →
        (gearHeaderOk j.data j.desc.dataLen n = false → ∃ k, refuses (.gearSet j) 0x0609 E_RUN_BAD_DATA k) ∧
        (gearHeaderOk j.data j.desc.dataLen n = true → gearSource m (field j.data 0 1) (field j.data 2 1) (field j.data 3 1) = true →
          (field j.data 1 1).testBit 3 = false →
          (d.engaged = true ∨ atRest d = false → refuses (.gearSet j) 0x0609 E_RUN_GROUP_BUSY (groupState d)) ∧
          (d.engaged = false → atRest d = true → ∃ m' a w, exec (.gearSet j) s = .next { s with m := dropFlight m' (asJob 0x0609 j) } ∧
            m'.run.acts = m.run.acts ++ [a] ∧ a.kind = 7 ∧ a.grp = g.group ∧ a.job = some (jcompl (asJob 0x0609 j) 0 0 none) ∧ a.gear = some w ∧
            a.data = [0, (b2n ((field j.data 1 1).testBit 0) : Int), (b2n ((field j.data 1 1).testBit 2) : Int)] ∧
            getF m' RUN_GEAR_CFG_LEAD g.group = field j.data 8 2 ∧ w.engaged = true ∧ w.gsrc = field j.data 0 1 ∧
            (field j.data 0 1 = 2 → w.master.v = sgn 64 (field j.data 24 8)) ∧
            (grp m' g.group).pend = (grp m g.group).pend ||| 32 ∧ m'.mem = m.mem))) ∧
      (JobRuns 0x060A j m → let l := j.data
        j.desc.dataLen = 32 + 8 * n → (∀ r ∈ ratios l n 32, r.2 = 0 → r.1 = 0) → field l 8 1 ≤ 1 → field l 9 1 ≤ 1 → field l 10 2 = 0 → field l 20 8 = 0 →
        field l 28 4 = 0 → (field l 9 1 = 1 ↔ field l 12 4 ≠ 0) →
        let c : Change := { pc := sgn 64 (field l 0 8), fall := field l 8 1 == 1, w := field l 12 4, tag := field l 16 4 % 65536, ratios := ratios l n 32 }
        let a : Act := { kind := 8, grp := g.group, job := some (jcompl (asJob 0x060A j) 0 0 none), change := some c }
        ∃ m', exec (.gearChangeAt j) s = .next { s with m := dropFlight m' (asJob 0x060A j) } ∧ m'.run.acts = m.run.acts ++ [a] ∧
          (grp m' g.group).pend = (grp m g.group).pend ||| 32 ∧ m'.mem = m.mem)) ∧
    (JobRuns 0x060B j m →
      (p 0 = 0 → ∃ m', exec (.sharedStart j) s = jobEnds s 0x060B j m' 0 (e % 2 ^ 32) (some e) ∧ m'.run.start = {} ∧ getF m' RUN_START_STAT_STATE = 0 ∧
        m'.run.acts = m.run.acts) ∧
      (maskUnits m (p 0) = some [g] → p 0 ≠ 0 → p 1 + p 2 * 2 ^ 32 ≠ 0 → groupWaits m g.group = true →
        let t := p 1 + p 2 * 2 ^ 32
        ∃ m', exec (.sharedStart j) s = jobEnds s 0x060B j m' 0 (e % 2 ^ 32) (some e) ∧ m'.run.start.groups = [g.group] ∧
          m'.run.start.ts = some (max t (e * cycLen m)) ∧ m'.run.start.moved = decide (t < e * cycLen m) ∧ getF m' RUN_START_STAT_STATE = 2))) ∧
  (∀ (l t : Nat) (own : Bool) (s : State), let m := s.m
    let st := m.run.start
    (2 ≤ l → ∀ f, exec (.triggerBusEdge l f t own) s = .next s) ∧
    (l < 2 → getF m RUN_START_CFG_LINE = l → st.line = true → ownerOf m 2 l = some 3 → getF m RUN_START_STAT_STATE = 2 → st.ts = none → st.lowSince = some st.armTick →
      st.armTick ≤ t → 800 * getF m RUN_START_CFG_ARM_MIN ≤ t - st.armTick →
      ∃ m', exec (.triggerBusEdge l false t own) s = .next { s with m := m' } ∧ getF m' RUN_START_STAT_LEVEL = 1 ∧ m'.run.acts = m.run.acts ∧
        m'.run.start.ts = some (max (t + startDelay m - getF m RUN_START_COMP_COMP) (effectCycle m * cycLen m)) ∧ m'.mem = m.mem))

/-- AXIS_ENABLE and AXIS_DISABLE of an axis of this node take effect at t = 0 of the next cycle, which is their RESULT; enabling needs
LIMIT_LOCK, on a networked worker a mode in force (13 R387; its status is the model's choice, entry 120), and a permitted mode of the loop,
whose failed rule is the DETAIL; for an axis of another node a request goes over the line. TUNE_INJECT sets an injection up likewise, or is
refused with the status of the check that fails. TUNE_GO starts one whose checks pass and TUNE_ABORT ends one as aborted; a failed check
starts nothing. AXL_COMMIT makes a commit pending. The last three are register writes and need the block on (09 R283 to R285, R291, R296,
R299, R300, 01 R31). -/
def Obligations.AxesAndInjection : Prop :=
  ∀ (j : Job) (a : AxisRec) (k : Nat) (s : State), k < 16 → let m := s.m
    let c := m.cyc.n + 1
    let x := axlSt m a.slot
    let ends (i : Instr) (opc status : Nat) : Prop := exec i s = jobFails s opc j m status 0
    let mine := maskAxes j.desc = [a.axis] ∧ axisRec m a.axis = some a ∧ a.node = nodeId m
    let hasMode := isManager m = true ∨ m.mould.config = 0 ∨ getF m TWI_STATUS_MODE ≠ 0
    (mine → JobRuns 0x0701 j m →
      (m.locks.lim = true → hasMode → modeRule m a = none →
        exec (.axisEnable j) s = jobEnds s 0x0701 j (setAxl m a.slot { x with enAt := some c }) 0 c (some c)) ∧
      (∀ r, m.locks.lim = true → hasMode → modeRule m a = some r → exec (.axisEnable j) s = jobFails s 0x0701 j m E_AXL_MODE r) ∧
      (m.locks.lim = false ∨ ¬ hasMode → ends (.axisEnable j) 0x0701 E_SYS_NOT_LOCKED)) ∧
    (mine → JobRuns 0x0702 j m →
      exec (.axisDisable j) s = jobEnds s 0x0702 j (setAxl m a.slot { x with disAt := some (c, 0) }) 0 c (some c)) ∧
    (maskAxes j.desc = [a.axis] → axisRec m a.axis = some a → a.node ≠ nodeId m → JobRuns 0x0702 j m → ∃ q : NetReq,
      q.nodes = [a.node] ∧ q.kind = 2 ∧ m.cyc.n < q.cycle ∧
      exec (.axisDisable j) s = .next { s with m := dropFlight { m with twi := { m.twi with reqs := m.twi.reqs ++ [q] } } (asJob 0x0702 j) }) ∧
    (JobRuns 0x0703 j m → axisRec m (j.desc.par 0) = some a → a.node = nodeId m → a.slot < 16 → j.desc.dataLen = 32 → field (padTo 32 j.data) 24 8 = 0 →
      (m.locks.lim = false → ends (.tuneInject j) 0x0703 E_SYS_NOT_LOCKED) ∧
      (∀ e d, m.locks.lim = true → field (padTo 32 j.data) 16 4 % 2 ^ 24 ≠ 0 → injCheck (injLoad m a.slot (padTo 32 j.data)) a.slot = some (e, d) →
        exec (.tuneInject j) s = (if e = E_HIF_BAD_PARAM then jobEnds s 0x0703 j m e d none
          else jobFails s 0x0703 j (if e = E_RESOURCE_BUSY then logNode m e d else m) e d)) ∧
      (m.locks.lim = true → field (padTo 32 j.data) 16 4 % 2 ^ 24 ≠ 0 →
        injCheck (injLoad m a.slot (padTo 32 j.data)) a.slot = none → getF (injLoad m a.slot (padTo 32 j.data)) AXL_TUNE_CFG_CAPTURE a.slot = 0 →
        ∃ m', exec (.tuneInject j) s = jobEnds s 0x0703 j m' 0 c (some c) ∧ (axlSt m' a.slot).injAt = some c ∧ m'.mem = m.mem ∧
          getF m' AXL_TUNE_LEN_LEN a.slot = field (padTo 32 j.data) 16 4 % 2 ^ 24)) ∧
    (blockOn m 7 = true → getF m AXL_TUNE_LEN_LEN k ≠ 0 →
      (injCheck m k = none → getF m AXL_TUNE_CFG_CAPTURE k = 0 → ∃ m', exec (.tuneGo k) s = .next { s with m := m' } ∧ getF m' AXL_TUNE_STAT_RUN k = 1 ∧
        getF m' AXL_TUNE_STAT_SAMPLE k = 0 ∧ (getF m' AXL_SUMMARY_INJECT).testBit k = true ∧ ownerOf m' 7 k = some 12 ∧ m'.mem = m.mem ∧ m'.tap = m.tap) ∧
      (∀ e d, injCheck m k = some (e, d) → e ≠ E_RESOURCE_BUSY → exec (.tuneGo k) s = .next s) ∧
      (∀ d, injCheck m k = some (E_RESOURCE_BUSY, d) → exec (.tuneGo k) s = .next { s with m := logNode m E_RESOURCE_BUSY d })) ∧
    (blockOn m 7 = true → getF m AXL_TUNE_STAT_RUN k = 1 → m.tap.inj = false → ∃ m', exec (.tuneAbort k) s = .next { s with m := m' } ∧ getF m' AXL_TUNE_STAT_RUN k = 0 ∧
      getF m' AXL_TUNE_STAT_ABORTED k = 1 ∧ (getF m' AXL_SUMMARY_INJECT).testBit k = false ∧ m'.mem = m.mem) ∧
    (blockOn m 7 = true → getF m AXL_TUNE_STAT_RUN k = 0 → (axlSt m k).injAt = none → exec (.tuneAbort k) s = .next s) ∧
    (blockOn m 7 = true → exec (.axlCommit k) s = .next { s with m := setF m AXL_STAT_COMMIT_PEND k 1 })

/-- A pass of an enabled engine: with no word of its encoder a miss is counted, and from ENC_MISS_MAX on each is a feedback fault; in open-loop
mode, outside a local stop, PVC_PASS and C_PASS put the voltage in force, held in its limit, as vq with vd 0, and V_LIM says that it meets
the limit; C_PASS gives the currents, which are the sinc3 sums of the data bits, scaled and less their offset; it comes where the window of the
main filters ends after a SYNC event, and else changes nothing. The velocity law computes iq_ref and its integrator with their limits and
back-calculation; a slot without an enabled engine does no pass (09 R267, R271, R279, R280, R289, 10 R321 to R323). -/
def Obligations.EnginePassesFollowTheLaws : Prop :=
  ∀ (n k p t : Nat) (sa sb sc : List Bool) (aref : Int) (s : State), n < 16 → let m := s.m
    let vlim : Int := getV m AXL_VLIM_LIM n
    let idle := (axlSt m n).ending = none ∧ (axlSt m n).stop = none ∧ getF m AXL_TUNE_STAT_RUN n = 0 ∧ getF m AXL_STAT_COMMIT_PEND n = 0
    let vq := clampI (-vlim) vlim (getVS m AXL_OLV_V n)
    let cur (ch : Nat) (bits : List Bool) : Int :=
      let w := getF m PWR_SD_CFG_OSR n + 3
      sat 32 (sincSum 3 (2 ^ w) bits * 2 ^ (30 - 3 * w) - getS m (sdOffF ch) n)
    (mainDue m n t = false → ∀ d, exec (.cPass n sa sb sc t d) s = .next s) ∧
    (slotPort m n = none → ∀ d, exec (.pvcPass n k d) s = .next s) ∧
    (slotPort m n = some p → k < posN m n → getF m AXL_STAT_STATE n = 0 → getF m AXL_STAT_COMMIT_PEND n = 0 → exec (.pvcPass n k false) s = .next s) ∧
    (slotPort m n = some p → k < posN m n → idle → getF m AXL_STAT_STATE n = 1 → getF m ENC_STAT_VALID p = 0 → (axlSt m n).miss + 1 < getV m AXL_SUPV_ENC_MISS_MAX n →
      exec (.pvcPass n k false) s = .next { s with m := setAxl m n { axlSt m n with miss := (axlSt m n).miss + 1 } }) ∧
    (slotPort m n = some p → k < posN m n → idle → getF m AXL_STAT_STATE n = 1 → getF m ENC_STAT_VALID p = 0 → getV m AXL_SUPV_ENC_MISS_MAX n ≤ (axlSt m n).miss + 1 →
      ∃ m', exec (.pvcPass n k false) s = .next { s with m := m' } ∧ getF m' AXL_FLAGS_FEEDBACK n = 1 ∧ 112 + n ∈ m'.intc.pend) ∧
    (idle → getF m AXL_STAT_STATE n = 2 → getF m AXL_MODE_LOOP_MODE n = 3 → isChop m n = false → vlim < 2 ^ 31 →
      (slotPort m n = some p → k < posN m n → getF m ENC_STAT_VALID p = 1 → 
        absI (getS m ENC_SPD_V p) ≤ getV m AXL_VMEAS_MAX_MAX n → (sget m.lims n {}).pos = none → (sget m.lims n {}).neg = none →
        (sget m.lims n {}).both = none → ∃ m', exec (.pvcPass n k false) s = .next { s with m := m' } ∧ getS m' AXL_VQ_VAL n = vq ∧ getF m' AXL_VD_VAL n = 0 ∧
          getF m' AXL_STAT_V_LIM n = b2n (absI vq == vlim) ∧ (axlSt m' n).vMeas = getS m ENC_SPD_V p ∧ (axlSt m' n).miss = 0 ∧ m'.mem = m.mem) ∧
      (mainDue m n t = true → (pwrSt m n).sdFail = 0 → getF m PWR_SD_CFG_EN n = 7 → ∃ m', exec (.cPass n sa sb sc t false) s = .next { s with m := m' } ∧ getS m' AXL_VQ_VAL n = vq ∧ getF m' AXL_VD_VAL n = 0 ∧
        getS m' PWR_CUR_A_I n = cur 0 sa ∧ getS m' PWR_CUR_B_I n = cur 1 sb ∧ getS m' PWR_CUR_C_I n = cur 2 sc ∧ getF m' PWR_STAT_SD_VALID n = 7 ∧
        m'.cyc.now = max m.cyc.now t ∧ m'.mem = m.mem)) ∧
    (let il : Int := getV m AXL_IQ_LIM_LIM n
     let vl : Int := getV m AXL_INT_LIM_LIM n
     let ev := sat 32 (getS m AXL_VCMD_VAL n - (axlSt m n).vMeas)
     let vint := getS m AXL_VINT_VAL n
     let u := roundShift (getVS m AXL_KVP_K n * ev) (shA m n 4) + vint + (roundShift (getVS m AXL_KAF_K n * aref) (shA m n 2)
       + roundShift (getVS m AXL_KTF_K n * (axlSt m n).tff) (shA m n 3))
     let iq := clampI (-il) il (sat 32 (u + injAt m n 2))
     let back := roundShift (getVS m AXL_KBC_K n * sat 32 (iq - u)) (shB m n 0)
     let m' := (velLaw m n aref).2
     il < 2 ^ 31 → getS m' AXL_IQREF_VAL n = iq ∧
       getS m' AXL_VINT_VAL n = sat 32 (clampI (-vl) vl (vint + roundShift (getVS m AXL_KVI_K n * ev) (shA m n 5) + back)) ∧ m'.mem = m.mem)

/-- PER_WRITE takes a period that divides the cycle and leaves room for the pulses, as a shadow, and refuses any other; PWR_COMMIT asks for the
transfer of what was written, and does nothing in immediate mode; EVT_CFG_WRITE selects the event, source 6 only while the Tap owns the
comparator. All three are register writes and need the block on. CARRIER_BOUNDARY brings a committed transfer into force and goes on to the
slot's next period; at the boundary after a PER of 0 has transferred the gates go low and the carrier stands, and at a boundary of a carrier
that runs the gates of an enabled slot are released; the first period of a current period has the SYNC event. A pulse takes the whole ticks
of its on-time, and the rest is carried to the next period (10 R302, R303, R305, R306, R308, R320, R323, R328, 01 R31). -/
def Obligations.CarrierPeriodsFormPulses : Prop :=
  ∀ (n x v b p : Nat) (was : Bool) (s : State), n < 16 → x < 3 → let m := s.m
    let st := pwrSt m n
    let per := v % 2 ^ 24
    let fits := per = 0 ∨ (16 * cycLen m % per = 0 ∧ 16 * (2 * getF m PWR_PROT_MIN_PULSE n + 2 * getF m PWR_DT_LIM_DT_CEIL n) ≤ per)
    (blockOn m 8 = true → per ≤ 12800000 → fits → ∃ m', exec (.perWrite n v) s = .next { s with m := m' } ∧ getF m' PWR_PER_PER n = per ∧ (pwrSt m' n).perPend = true ∧
      m'.force = m.force ∧ m'.mem = m.mem) ∧
    (blockOn m 8 = true → 12800000 < per ∨ ¬ fits → exec (.perWrite n v) s = .next { s with m := badCfg m 8 (0x1004 + 0x100 * n) }) ∧
    (blockOn m 8 = true → getF m PWR_CFG_UPD_MODE n = 0 → ∃ m', exec (.pwrCommit n) s = .next { s with m := m' } ∧
      pwrSt m' n = { st with goPend := true } ∧ getF m' PWR_STAT_PEND n = 1 ∧ m'.force = m.force ∧ m'.mem = m.mem) ∧
    (blockOn m 8 = true → getF m PWR_CFG_UPD_MODE n = 1 → exec (.pwrCommit n) s = .next s) ∧
    (blockOn m 8 = true → v % 8 = 7 → exec (.evtCfgWrite n v) s = .next { s with m := badCfg m 8 (0x1040 + 0x100 * n) }) ∧
    (blockOn m 8 = true → v % 8 = 6 → ownerOf m 6 n ≠ some 11 →
      exec (.evtCfgWrite n v) s = .next { s with m := logNode m E_RESOURCE_BUSY (busyDetail m 6 n ((ownerOf m 6 n).getD 10)) }) ∧
    (blockOn m 8 = true → v % 8 ≠ 7 → (v % 8 = 6 → ownerOf m 6 n = some 11) → ∃ m', exec (.evtCfgWrite n v) s = .next { s with m := m' } ∧
      getF m' PWR_EVT_CFG_SRC n = v % 8 ∧ getF m' PWR_EVT_CFG_PRESC n = v / 16 % 16 ∧ pwrSt m' n = { st with presc := 0 } ∧ m'.mem = m.mem) ∧
    (nextIdx m n = none → exec (.carrierBoundary n) s = .next s) ∧
    (∀ i, nextIdx m n = some i → getF m PWR_PER_PER n = 0 → getV m PWR_PER_PER n = 0 → st.goPend = false → st.dutyPend = 0 →
      ∃ m', exec (.carrierBoundary n) s = .next { s with m := m' } ∧ gatesOn m' n = false ∧ nextIdx m' n = none ∧ m'.mem = m.mem) ∧
    (∀ i, nextIdx m n = some i → getV m PWR_PER_PER n ≠ 0 → st.trips = [] → getF m PWR_EVT_CFG_SRC n = 0 → getF m PWR_CFG_UPD_MODE n = 0 → st.perPend = false →
      ∃ m', exec (.carrierBoundary n) s = .next { s with m := m' } ∧ m'.cyc.now = max m.cyc.now (m.cyc.start + i * getV m PWR_PER_PER n / 16) ∧
        (pwrSt m' n).cyc = some m.cyc.n ∧ (pwrSt m' n).count = st.count + 1 ∧ m'.mem = m.mem ∧
        (2 ≤ getF m AXL_STAT_STATE n → gatesOn m' n = true) ∧
        (st.goPend = false → m'.force = m.force ∧ (pwrSt m' n).idx = i ∧
          (i % max 1 (getF m AXL_MODE_CUR_DIV n) = 0 → getF m PWR_SD_CFG_SYNC n = 0 →
            (pwrSt m' n).sync = some (m.cyc.start + i * getV m PWR_PER_PER n / 16))) ∧
        (st.goPend = true → (pwrSt m' n).goPend = false ∧ getV m' PWR_DUTY_A_DUTY n = getF m PWR_DUTY_A_DUTY n ∧
          getV m' PWR_DUTY_B_DUTY n = getF m PWR_DUTY_B_DUTY n ∧ getV m' PWR_DUTY_C_DUTY n = getF m PWR_DUTY_C_DUTY n)) ∧
    (let q := pairSt m n x
     let mn : Int := getF m PWR_PROT_MIN_PULSE n
     let want := onRequest m n x
     let tmx := roundShift ((getF m PWR_MAX_DUTY_MAX n * carrier m n : Nat) : Int) 31
     let t := (if tmx < want then tmx else want) + q.res
     let r := pairSt (formPulse m n x b p was) n x
     (16 * (mn + q.apR) ≤ t → t ≤ 16 * ((p : Int) - mn - q.apF) → 0 ≤ t → ∃ k : Nat, 16 * (k : Int) ≤ t ∧ t < 16 * k + 16 ∧ r.res = t - 16 * k ∧
       r.pulse = some (emitAt m n b p k)) ∧
     (t < 16 * (mn + q.apR) → t ≤ 16 * ((p : Int) - mn - q.apF) → r.res = t ∧ r.pulse = none))

/-- FAST_CHANNEL_SAMPLE above the peak threshold, and SD_CHANNEL_FAULT, cut the slot: gates low, the engine disabled, the flag set, the source
raised; a sample, the sinc2 sum of the data bits scaled and less its offset, below it is the channel's value; a channel that has failed is
not valid from then on. A natural switch-node transition that crosses within the dead time moves the adaptive dead
time towards it; any other moves nothing. TRIP_INPUT, once accepted, ends the pulse of its pairs for the period and is counted (10 R313,
R314, R316, R318, R319, R321, R322, R324). -/
def Obligations.ProtectionCutsTheStage : Prop :=
  ∀ (n ch t c i a held : Nat) (sum : List Bool) (s : State), n < 16 → ch < 3 → i < 2 → let m := s.m
    let enabled := (getF m PWR_SD_CFG_EN n).testBit ch = true
    let k := getF m PWR_SD_CFG_OSR_F n + 2
    let v := sat 32 (sincSum 2 (2 ^ k) sum * 2 ^ (30 - 2 * k) - getS m (sdOffF ch) n)
    let thr : Int := getF m PWR_PEAK_TRIP_THR n
    let cut (m' : Mach) : Prop := gatesOn m' n = false ∧ getF m' AXL_STAT_STATE n = 0 ∧ (getF m' AXL_SUMMARY_ENABLED).testBit n = false ∧
      176 + n ∈ m'.intc.pend ∧ (m.tap.inj = false → m'.mem = m.mem)
    let p := pairSt m n ch
    (enabled → thr < absI v → (getF m PWR_SUMMARY_OC).testBit n = false → ∃ m', exec (.fastChannelSample n ch sum t) s = .next { s with m := m' } ∧ cut m' ∧
      getF m' PWR_FLAGS_OVERCURRENT n = 1 ∧ (getF m' PWR_SUMMARY_OC).testBit n = true) ∧
    (enabled → absI v ≤ thr → isChop m n = false → ∃ m', exec (.fastChannelSample n ch sum t) s = .next { s with m := m' } ∧
      pairSt m' n ch = { p with fast := v } ∧
      ((pwrSt m n).sdFail.testBit ch = false → (getF m' PWR_STAT_SD_VALID n).testBit ch = true) ∧ m'.cyc.now = max m.cyc.now t ∧ m'.mem = m.mem) ∧
    (¬ enabled → exec (.fastChannelSample n ch sum t) s = .next s ∧ exec (.sdChannelFault n ch) s = .next s) ∧
    (enabled → ∃ m', exec (.sdChannelFault n ch) s = .next { s with m := m' } ∧ cut m' ∧ getF m' PWR_FLAGS_SD_FAULT n = 1 ∧
      (getF m' PWR_STAT_SD_VALID n).testBit ch = false ∧ (pwrSt m' n).sdFail.testBit ch = true) ∧
    (let cur : Int := if isDc m n = true ∧ ch = 1 then -(pairSt m n 0).fast else p.fast
     let imin : Int := 64 * getF m PWR_SN_CFG_IMIN n
     (cur < -imin → c ≤ p.apR → adapts m n = true → ∃ m', exec (.switchNodeCrossing n ch true (some c)) s = .next { s with m := m' } ∧ m'.regs = m.regs ∧
        (pairSt m' n ch).dtR = p.dtR + roundShift (16 * ((c : Int) - getF m PWR_SN_CFG_SN_DLY n + getF m PWR_DT_CFG_MARGIN n) - p.dtR) (getF m PWR_DT_CFG_GAIN n) ∧
        (pairSt m' n ch).dtF = p.dtF ∧ m'.mem = m.mem) ∧
     (-imin ≤ cur → ∀ o, exec (.switchNodeCrossing n ch true o) s = .next { s with m := setPair m n ch { p with lateR := false } }) ∧
     (cur ≤ imin → ∀ o, exec (.switchNodeCrossing n ch false o) s = .next { s with m := setPair m n ch { p with lateF := false } })) ∧
    (let f := tripCfg m n i
     let noted := setPwr m n { pwrSt m n with trips := sput (pwrSt m n).trips i (a, a + held) (0, 0) }
     let blank := if ownerOf m 6 n = some 11 then 0 else getF m PWR_AUX_CMP_VAL n
     let at_ := acceptTick f.1 blank (maskEdges m n 1) a
     (f.2.2.1 = false → exec (.tripInput n i a held) s = .next { s with m := noted }) ∧
     (f.2.2.1 = true → f.2.1 = false → f.2.2.2.2 = 1 → gatesOn m n = true → (pwrSt m n).arming = none → (pwrSt m n).cutNow = 0 → isChop m n = false →
        at_ < a + held → at_ < max (a + 1) (nextTick m n) → (pairSt m n 0).lowAt = none → (∃ r e, (pairSt m n 0).pulse = some (r, e) ∧ at_ < e) →
        getF m PWR_PROT_TRIP_MAX n = 0 → getF m PWR_EVT_CFG_SRC n ≠ 3 →
        ∃ m', exec (.tripInput n i a held) s = .next { s with m := m' } ∧ (pairSt m' n 0).lowAt = some at_ ∧ getF m' PWR_STAT_CUT n = 2 ^ i ∧
          (getF m' PWR_FLAGS_TRIP n).testBit i = true ∧ getF m' PWR_TRIP_CNT_CNT n = min (2 ^ PWR_TRIP_CNT_CNT.w - 1) (getF m PWR_TRIP_CNT_CNT n + 1) ∧
          176 + n ∈ m'.intc.pend ∧ m'.cyc.now = max m.cyc.now at_ ∧ m'.mem = m.mem))

/-- ENCODER_ENABLE of an idle port with a complete layout enables it anew; ENCODER_REQUEST begins a transfer at its tick, or fails the word where
the line is low or a transfer is in progress; none goes out in the rest of a truncated cycle or while domain AXIS is off. ENCODER_WORD without a
response fails it; a first word that passes its check sets the counter, the stamp at the middle of the response, and standstill; a later one
extends the counter by its step. XPOS_WRITE takes an extension whose low 40 bits are the sampled counter, which is then current (11 R332, R333, R336, R337, R339 to
R341, R343, R350). -/
def Obligations.EncoderWordsAreSampled : Prop :=
  ∀ (k j x raw t d : Nat) (s : State), k < 16 → let m := s.m
    let e := encSt m k
    let len := getF m ENC_FRAME_LEN k
    let pos := getF m ENC_FRAME_POS_BITS k
    let t0 := m.cyc.start + j * cycLen m / portN m k + getF m ENC_REQ_REQ k
    let failed (m' : Mach) (f : Fld) : Prop := getF m' ENC_STAT_VALID k = 0 ∧ getF m' f k = 1 ∧ getF m' ENC_STAT_FAIL_RUN k = satAdd (2 ^ ENC_STAT_FAIL_RUN.w - 1) (getF m ENC_STAT_FAIL_RUN k) 1 ∧
      encC m' k = encC m k ∧ (getF m ENC_STAT_FAIL_RUN k = 0 → 160 + k ∈ m'.intc.pend) ∧ m'.mem = m.mem
    (blockOn m 9 = true → portIdle m k = true → portLayoutOk m k = true → bits x 4 2 ≠ 3 → getF m ENC_CFG_EN k = 0 →
      ∃ m', exec (.encoderEnable k x) s = .next { s with m := m' } ∧ getF m' ENC_CFG_EN k = 1 ∧ getF m' ENC_CFG_CODE k = bits x 1 1 ∧ getF m' ENC_CFG_INV k = bits x 2 1 ∧
        (encSt m' k).seen = false ∧ (encSt m' k).busy = none ∧ m'.mem = m.mem) ∧
    (blockOn m 9 = true → portIdle m k = false ∨ portLayoutOk m k = false ∨ bits x 4 2 = 3 → exec (.encoderEnable k x) s = .next { s with m := badCfg m 9 (0x1000 + 0x80 * k) }) ∧
    (blockOn m 9 = true → m.cyc.skip = false → getF m ENC_CFG_EN k = 1 → getF m ENC_CFG_OWNER k ≠ 0 → j < portN m k →
      (e.busy = none → ∃ m', exec (.encoderRequest k j false) s = .next { s with m := m' } ∧ encSt m' k = { e with busy := some (t0, j) } ∧
        m'.cyc.now = max m.cyc.now t0 ∧ m'.regs = m.regs ∧ m'.mem = m.mem) ∧
      (∃ m', exec (.encoderRequest k j true) s = .next { s with m := m' } ∧ failed m' ENC_FLAGS_NOT_IDLE ∧ m'.cyc.now = max m.cyc.now t0 ∧ (encSt m' k).busy = e.busy)) ∧
    (getF m ENC_CFG_EN k ≠ 1 ∨ m.cyc.skip = true ∨ blockOn m 9 = false → ∀ low, exec (.encoderRequest k j low) s = .next s) ∧
    (e.busy = none ∨ blockOn m 9 = false → ∀ o, exec (.encoderWord k o raw) s = .next s) ∧
    (blockOn m 9 = true → e.busy = some (t, j) → getF m ENC_CFG_LDC k = 0 → (∃ m', exec (.encoderWord k none raw) s = .next { s with m := m' } ∧ failed m' ENC_FLAGS_NO_RESPONSE ∧ (encSt m' k).busy = none)) ∧
    (blockOn m 9 = true → e.busy = some (t, j) → getF m ENC_CFG_LDC k = 0 → d ≤ 800 → unitOn m uENC = false → getF m ENC_CHK_TYPE k = 0 → getF m ENC_CHK_CHK_LEN k = 0 →
      getF m ENC_FRAME_STAT_BITS k = 0 → getF m ENC_CHK_ERR_MASK k = 0 → getF m ENC_CFG_CODE k = 0 → getF m ENC_CFG_INV k = 0 → pos ≤ 40 → 1 ≤ pos →
      raw < 2 ^ len → raw < 2 ^ pos →
      let step := sgn pos (raw + 2 ^ pos - e.wp % 2 ^ pos)
      let ok (m' : Mach) (c : Nat) : Prop := encC m' k = c ∧ getF m' ENC_TSTAMP_T k = (t + d / 2) % 2 ^ 32 ∧ getF m' ENC_STAT_VALID k = 1 ∧ getF m' ENC_DELAY_D k = d ∧
        getF m' ENC_STAT_FAIL_RUN k = 0 ∧ (encSt m' k).busy = none ∧ (encSt m' k).wp = raw ∧ (encSt m' k).seen = true ∧ m'.mem = m.mem
      (e.seen = false → ∃ m', exec (.encoderWord k (some d) raw) s = .next { s with m := m' } ∧ ok m' raw ∧ getF m' ENC_STAT_STANDSTILL k = 1 ∧ getF m' ENC_SPD_V k = 0) ∧
      (e.seen = true → getF m ENC_JUMP_JUMP_MAX k = 0 → ∃ m', exec (.encoderWord k (some d) raw) s = .next { s with m := m' } ∧ ok m' (unsg 40 (encC m k + step)))) ∧
    (blockOn m 9 = true → x % 2 ^ 40 = get64 m ENC_SAMP_LO_SAMP ENC_SAMP_HI_SAMP k → x < 2 ^ 64 →
      ∃ m', exec (.xposWrite k x) s = .next { s with m := m' } ∧ get64 m' ENC_XPOS_LO_X ENC_XPOS_HI_X k = x ∧ (encSt m' k).xposOk = true ∧
        m'.mem = m.mem ∧ m'.hif = m.hif) ∧
    (blockOn m 9 = true → x % 2 ^ 40 ≠ get64 m ENC_SAMP_LO_SAMP ENC_SAMP_HI_SAMP k → ∃ m', exec (.xposWrite k x) s = .next { s with m := m' } ∧
      getF m' ENC_FLAGS_EXT_MISMATCH k = 1 ∧ get64 m' ENC_XPOS_LO_X ENC_XPOS_HI_X k = get64 m ENC_XPOS_LO_X ENC_XPOS_HI_X k ∧ m'.mem = m.mem)

/-- CYCLE_BOUNDARY begins the next cycle at its tick, with the length that is due, and raises its source; CYCLE_LENGTH_CHANGE takes a length
that is due and leaves the rest of t = 0 to the boundary. The phase starts and COMMIT_DEADLINE come at their instants of the plan and raise
their sources; none comes in a truncated cycle (02 R56, R57, R60 to R62, R64, R678). A worker that has not integrated yet has no cycle (13
R394). Unit TIME is not active and no switch of the domain is pending. -/
def Obligations.CyclesAndPhasesBegin : Prop :=
  ∀ (k : Nat) (s : State), 1 ≤ k → k ≤ 4 → let m := s.m
    let t := nextStart m
    let code := (lenDue m t).getD m.cyc.lenCode
    let begins (m' : Mach) : Prop := m'.cyc.n = t / lenTicks code ∧ m'.cyc.start = t ∧ m'.cyc.lenCode = code ∧ m'.cyc.now = max m.cyc.now t ∧
      m'.cyc.snapped = false ∧ m'.cyc.committed = false ∧ m'.cyc.skip = false ∧ m'.mem = m.mem ∧ m'.locks = m.locks
    let starts (i : Nat) : Mach := irq (at' m (m.cyc.start + nth (plan m) (i - 1))) (16 + i)
    (m.sys.inReset = true ∨ cycleStopped m = true → exec .cycleBoundary s = .next s ∧ exec .cycleLengthChange s = .next s) ∧
    (m.sys.inReset = false → cycleStopped m = false → m.time.target = none → unitOn m uTIME = false → begins (nextCycle m) ∧
      (m.cyc.pre = false → exec .cycleBoundary s = .next { s with m := boundaryActions (nextCycle m) } ∧ 16 ∈ (boundaryActions (nextCycle m)).intc.pend) ∧
      (m.cyc.pre = false → lenDue m t ≠ none → ∃ m', exec .cycleLengthChange s = .next { s with m := m' } ∧ begins m' ∧ m'.cyc.pre = true)) ∧
    (m.cyc.pre = true → m.sys.inReset = false → cycleStopped m = false → exec .cycleBoundary s = .next { s with m := boundaryActions { m with cyc := { m.cyc with pre := false } } }) ∧
    (lenDue m t = none → exec .cycleLengthChange s = .next s) ∧
    (phased m = true → exec .phaseP1Start s = .next { s with m := starts 1 } ∧
      (starts k).cyc.now = max m.cyc.now (m.cyc.start + nth (plan m) (k - 1)) ∧ 16 + k ∈ (starts k).intc.pend ∧
      (inPair m = false → exec .phaseP3Start s = .next { s with m := { starts 3 with duo := { m.duo with digGot := false, digMiss := 0 } } }) ∧
      (m.twi.exch = none → m.duo.swapA = none → m.duo.want = false → exec .phaseP4Start s = .next { s with m := starts 4 }) ∧
      (m.run.stage = 0 ∨ m.run.stage = 4 ∨ m.cyc.committed = true → m.ladle.isOpen = false →
        exec .commitDeadline s = .next { s with m := irq (at' m (m.cyc.start + nth (plan m) 2 - 800)) 22 })) ∧
    (phased m = false → exec .phaseP1Start s = .next s ∧ exec .phaseP3Start s = .next s ∧ exec .phaseP4Start s = .next s ∧ exec .commitDeadline s = .next s)

/-- The Runner's steps come in order, each in its turn: the snapshot takes in what jobs have asked, TARGETS, PREP and the commit follow, and a
step out of its turn changes nothing. The commit of a unit writes its entry to the setpoint ring; streams without blocks and gears without a
master are stopped or reported where the snapshot found them due, and a refill, which goes on while an invalidation is pending, ends with the
window (02 R63 to R65, 07 R206, R221, R223,
R224, R228, 08 R239). None of the steps comes in a truncated cycle (02 R57). Where the Ladle has items in flight, theirs is a further
effect. -/
def Obligations.TheRunnerStepsInOrder : Prop :=
  ∀ (u : GroupRec) (a : AxisRec) (d : Dyn) (s : State), let m := s.m
    let x := grp m u.group
    let quiet := m.ladle.items = [] ∧ m.ladle.tpl = []
    (phased m = false ∨ m.cyc.snapped = true → exec .runnerSnapshot s = .next s) ∧
    (phased m = true → m.cyc.snapped = false → isManager m = true → computesAlone m = true → domOn m dRUN = true → getF m RUN_CTRL_EN = 1 →
      inPair m = false → (slotsNow m).filter (fun e => storesSlot m e) = [] →
      ∃ m', exec .runnerSnapshot s = .next { s with m := m' } ∧ m'.cyc.snapped = true ∧ m'.run.acts = []) ∧
    (m.run.stage ≠ 1 → exec .runnerTargets s = .next s ∧ exec (.streamUnderrunStop u.group) s = .next s ∧ exec (.gearMasterLost u.group) s = .next s) ∧
    (m.run.stage ≠ 2 → exec .runnerPrep s = .next s) ∧
    (m.run.stage = 0 ∨ m.run.stage = 4 → exec .runnerCommit s = .next s) ∧
    (m.cyc.skip = true → exec .runnerTargets s = .next s ∧ exec .runnerPrep s = .next s ∧ exec .runnerCommit s = .next s) ∧
    (quiet → m.cyc.skip = false → m.run.stage = 1 → ∃ m', exec .runnerTargets s = .next { s with m := m' } ∧ m'.run.stage = 2 ∧ m'.cyc = m.cyc ∧
      (planUnits m = [] → m' = { m with run := { m.run with stage := 2 } })) ∧
    (quiet → m.cyc.skip = false → m.run.stage = 2 → ∃ m', exec .runnerPrep s = .next { s with m := m' } ∧ m'.run.stage = 3 ∧ m'.cyc = m.cyc ∧
      (m.memb.flips = [] → m'.mem = m.mem)) ∧
    (quiet → m.cyc.skip = false → m.run.stage = 3 → m.cyc.committed = false → inPair m = false → planUnits m = [] → m.run.start.ts = none →
      (slotsNow m).filter (fun e => e.kind == 1 && ownsSlot m e) = [] →
      ∃ m', exec .runnerCommit s = .next { s with m := m' } ∧ m'.run.stage = 4 ∧ m'.cyc.committed = true ∧ 109 ∈ m'.intc.pend ∧ m'.mem = m.mem ∧
        ∀ c ∈ m'.hif.compl, ∀ e, c.effect = some e → m.run.snap + 1 < e) ∧
    (x.cur = some d → unitAxes m u = [a] → u.kind = 0 → reactFor m u = 0 → d.events = [] → d.gev = [] → d.mode = 0 → d.engaged = false → x.stuck = false → x.com.segs = [] → x.com.after = [] →
      let e := sget m.run.ents a.axis []
      let m' := commitUnit m u
      m'.mem = (wrBytes m (ringAddr m a.axis d.c) (entryBytes e d.c 1) 3).mem ∧ (grp m' u.group).com = { d with events := [], gev := [] } ∧ (grp m' u.group).cur = none) ∧
    (m.run.stage = 1 → (planUnits m).find? (fun v => v.group == u.group) = some u →
      (x.due % 2 = 1 → ∃ m', exec (.streamUnderrunStop u.group) s = .next { s with m := m' } ∧ (grp m' u.group).due = x.due - 1 ∧ (grp m' u.group).depth = 0 ∧
        (grp m' u.group).com = (grp m' u.group).front ∧ m'.mem = m.mem) ∧
      (x.due % 2 = 0 → exec (.streamUnderrunStop u.group) s = .next s) ∧
      (2 ≤ x.due →
        let cls := reacClass m E_RUN_GEAR_MASTER_LOST u.group 2
        let m1 := setGrp m u.group { x with due := x.due - 2 }
        exec (.gearMasterLost u.group) s = .next { s with m := report m1 E_RUN_GEAR_MASTER_LOST cls 2 u.group x.com.master.miss u.group }) ∧
      (x.due < 2 → exec (.gearMasterLost u.group) s = .next s)) ∧
    ((planUnits m).find? (fun v => v.group == u.group) = some u →
      (x.fill = false ∨ m.run.stage = 1 → exec (.refillComplete u.group) s = .next s) ∧
      (x.fill = true → m.run.stage ≠ 1 → ∃ m', exec (.refillComplete u.group) s = .next { s with m := m' } ∧
        (grp m' u.group).fill = false ∧ (grp m' u.group).rb = (if x.rb = 1 then 1 else 0)))

/-- A ready program of the Crucible starts in the open window once 16 fabric cycles have passed, one behind a busy group as soon as its groups
are idle, with its lane groups free and no earlier one that may start, and latches its registers; its end leaves its groups free, and one whose input does not serve the cycle publishes nothing and is
held; an abort is flagged and reported. The deadline closes the window: a program in use that has not ended is a miss; it leaves the other
runs alone. In a truncated cycle no program starts and the deadline does not come (05 R154, R156, R163, R165, 06 R193 to R197, 02 R57). -/
def Obligations.CrucibleProgramsRunInTheWindow : Prop :=
  ∀ (k t : Nat) (r : CrucRun) (x : ProgramRun) (why : RunAbort) (stops : List (Nat × RunMet)) (s : State), let m := s.m
    let c := m.cruc
    let free (p : Nat) := c.run.all (fun r => (slotGroups m r.slot &&& slotGroups m p) == 0)
    let due (rdy : Nat) (queued : Bool) : Nat := if queued then rdy else rdy + 32
    let groups (l : List CrucRun) : Nat := l.foldl (fun b r => b ||| slotGroups m r.slot) 0
    (∀ rdy queued rest, c.wait = (k, rdy, queued) :: rest → c.isOpen = true → m.cyc.skip = false → c.en = true → due rdy queued ≤ t → t < crucDeadline m →
      free k = true → slotKind m k ≠ 3 →
      ∃ m', exec (.crucibleProgramStart k t) s = .next { s with m := m' } ∧ m'.mem = m.mem ∧ m'.cyc.now = max m.cyc.now t ∧
        m'.cruc.wait = rest.filter (fun w => w.1 != k) ∧ m'.cruc.isOpen = true ∧
        (∃ st, st.slot = k ∧ st.start = max m.cyc.now t ∧ st.cycle = m.cyc.n ∧ st.latch = latchOf m k ∧ m'.cruc.run = c.run ++ [st] ∧
          getF m' CRUC_STATUS_BUSY = groups (c.run ++ [st]) % 2 ^ CRUC_STATUS_BUSY.w)) ∧
    (∀ rdy queued rest, c.wait = (k, rdy, queued) :: rest → (c.isOpen = false ∨ m.cyc.skip = true ∨ c.en = false ∨ t < due rdy queued ∨ crucDeadline m ≤ t ∨ free k = false) →
      exec (.crucibleProgramStart k t) s = .next s) ∧
    (∀ p rdy queued rest, c.wait = (p, rdy, queued) :: rest → p ≠ k → due rdy queued ≤ t → free p = true → exec (.crucibleProgramStart k t) s = .next s) ∧
    ((∀ w ∈ c.wait, w.1 ≠ k) → exec (.crucibleProgramStart k t) s = .next s) ∧
    ((∀ r ∈ c.run, r.slot ≠ k) → exec (.crucibleProgramEnd k t x) s = .next s ∧ exec (.crucibleProgramAbort k t why) s = .next s) ∧
    (c.run = [r] → r.slot = k → m.ladle.items = [] →
      (crucDeadline m ≤ t → exec (.crucibleProgramEnd k t x) s = .next s) ∧
      (t < crucDeadline m → ∃ m', exec (.crucibleProgramEnd k t x) s = .next { s with m := m' } ∧ m'.cruc.run = [] ∧ m'.cruc.fin = c.fin ++ [k] ∧
        m'.crucSecs = (placeSection m k x.off).crucSecs ∧ getF m' CRUC_STATUS_BUSY = 0 ∧ m'.cyc.now = max m.cyc.now t) ∧
      (t ≤ crucDeadline m → ∃ m', exec (.crucibleProgramAbort k t why) s = .next { s with m := m' } ∧ m'.cruc.run = [] ∧ m'.cruc.fin = c.fin ++ [k] ∧
        getF m' CRUC_FLAGS_PROG_FAULT = 1 ∧ (why.poison = true → getF m' CRUC_FLAGS_POISON = 1) ∧ 108 ∈ m'.intc.pend ∧ m'.cyc.now = max m.cyc.now t)) ∧
    (c.isOpen = false ∨ m.cyc.skip = true → exec (.crucibleDeadline stops) s = .next s) ∧
    (c.isOpen = true → m.cyc.skip = false → (∀ p ∈ usedSlots m, p ∈ c.fin) → ∃ m', exec (.crucibleDeadline stops) s = .next { s with m := m' } ∧ m'.cruc.isOpen = false ∧ m'.cruc.run = [] ∧
      m'.cruc.wait = [] ∧ getF m' CRUC_STATUS_WINDOW = 0 ∧ 21 ∈ m'.intc.pend ∧ m'.cyc.now = max m.cyc.now (crucDeadline m) ∧ m'.mem = m.mem) ∧
    (k < 64 → let m' := missSlot stops m k
      getF m' CRUC_DL_FLAGS_MISS = 1 ∧ getF m' CRUC_DL_LAST_SLOT = k % 2 ^ CRUC_DL_LAST_SLOT.w ∧
      getF m' CRUC_MISS_RUN_RUN k = satAdd (2 ^ CRUC_MISS_RUN_RUN.w - 1) (getF m CRUC_MISS_RUN_RUN k) 1 ∧ 108 ∈ m'.intc.pend ∧ m'.cruc = { c with keep := m'.cruc.keep } ∧
      ((∀ r ∈ c.run, r.slot ≠ k) → m'.cruc = c))

/-- A fault of an input, an output, its read-back or its EDM feedback is noted once and, while the island supervises, locks it out: its state is
LOCKOUT with the code as cause, and its outputs de-energise at the next cycle start. What is no fault changes nothing. The filtered level of an
input changes after FILT samples in a row at the other level, and no sooner; a test pulse is judged by its last sample and reaches no filter.
Presses of the reset input, markers (while domain TIME is on and out of reset, 01 R34) and sensor frames are taken as they come; a self-test
that fails, or an internal fault, halts the island with every output de-energised (14 R431, 15 R435, R437, R439 to R444, R455, R456, 16 R476). -/
def Obligations.IslandFaultsLockOut : Prop :=
  ∀ (i o ch d t : Nat) (sto : Bool) (samples : List Bool) (l : List Nat) (s : State), i < 16 → o < 8 → ch < 2 → let m := s.m
    let f := m.safe
    -- the fault with code `code` of the command `c`, noted by `noted`
    let locks (c : Instr) (code : Nat) (noted : SafeSt → Prop) : Prop :=
      ∃ m', exec c s = .next { s with m := m' } ∧ noted m'.safe ∧ m'.mem = m.mem ∧ m'.regs = m.regs ∧ m'.hif = m.hif ∧ m'.safe.out = f.out ∧ m'.safe.sto = f.sto ∧
        (islandActive m = true → m'.safe.st = 5 ∧ m'.safe.cause = code ∧ m'.safe.was = f.st ∧ m'.safe.outNext = 0 ∧ m'.safe.stoNext = 0) ∧
        (f.st = 5 → m'.safe.st = 5 ∧ m'.safe.cause = f.cause)
    let set (c : Instr) (f' : SafeSt) : Prop := exec c s = .next { s with m := { m with safe := f' } }
    let same (c : Instr) : Prop := exec c s = .next s
    let halts (c : Instr) : Prop := ∃ m', exec c s = .next { s with m := m' } ∧
      m'.safe = { f with st := 6, out := 0, outNext := 0, sto := 0, stoNext := 0 } ∧ m'.mem = m.mem
    let lv (g : SafeSt) : Bool := (if ch = 0 then g.lvA else g.lvB).testBit i
    let cnt (g : SafeSt) : Nat := sget g.filt (2 * i + ch) 0
    (f.st ≠ 0 → f.st ≠ 6 → ∀ n b, ∃ g, set (.safeInputChange i ch (List.replicate n b)) g ∧
      (lv f = b → lv g = b ∧ (1 ≤ n → cnt g = 0)) ∧
      (lv f ≠ b → (lv g = b ↔ 1 ≤ n ∧ field (inRec f.cfg i) 4 2 ≤ cnt f + n) ∧ (lv g ≠ b → cnt g = cnt f + n)) ∧
      (∀ k, k ≠ i → g.lvA.testBit k = f.lvA.testBit k ∧ g.lvB.testBit k = f.lvB.testBit k) ∧ g.inFault = f.inFault ∧ g.st = f.st) ∧
    (f.st = 0 ∨ f.st = 6 → same (.safeInputChange i ch samples)) ∧
    (islandConfigured m = true → inMode m i ≠ 0 →
      (chanRun m i 0 ≠ chanRun m i 1 → f.inFault.testBit i = false → locks (.discrepancyTimeout i) E_SAFE_DISCREPANCY (fun g => g.inFault.testBit i = true)) ∧
      (chanRun m i 0 = chanRun m i 1 → same (.discrepancyTimeout i)) ∧
      ((field (inRec f.cfg i) 1 1).testBit ch = true → ∀ (early late : List Bool) (q b : Bool), late.length = 9 →
        let c := Instr.testPulse i ch (early ++ [q] ++ late ++ [b])
        let tested := (if ch = 0 then f.rawA.testBit i else f.rawB.testBit i != (inMode m i == 2)) = true
        (tested → q = true → f.inFault.testBit i = false → locks c E_SAFE_TESTPULSE (fun g => g.inFault.testBit i = true)) ∧
        (¬ tested ∨ q = false → ∃ g, set c g ∧ g.lvA = f.lvA ∧ g.lvB = f.lvB ∧ g.filt = f.filt ∧ g.inFault = f.inFault ∧ g.st = f.st))) ∧
    (islandConfigured m = true →
      (f.outFault.testBit o = false → locks (.outputReadbackMismatch false o) E_SAFE_READBACK (fun g => g.outFault.testBit o = true)) ∧
      (f.stoFault.testBit o = false → locks (.outputReadbackMismatch true o) E_SAFE_READBACK (fun g => g.stoFault.testBit o = true)) ∧
      (f.out.testBit o = true → f.outFault.testBit o = false → locks (.darkTest false o false) E_SAFE_READBACK (fun g => g.outFault.testBit o = true)) ∧
      same (.darkTest sto o true) ∧
      (edmOn m o = true → f.edmFault.testBit o = false → locks (.edmTimeout o) E_SAFE_EDM (fun g => g.edmFault.testBit o = true)) ∧
      (edmOn m o = false → same (.edmTimeout o))) ∧
    (islandConfigured m = false → same (.outputReadbackMismatch sto o) ∧ same (.edmTimeout o) ∧ same (.testPulse i ch samples) ∧ same (.discrepancyTimeout i) ∧
      ∀ k, same (.sensorFrameReceive k t l)) ∧
    (f.oldPress = false → 2 ≤ f.st → f.st ≠ 6 → 5000 ≤ d → d < 500000 → set (.resetButtonRelease d) { f with presses := f.presses + 1 }) ∧
    (f.oldPress = false → d < 5000 ∨ 500000 ≤ d → same (.resetButtonRelease d)) ∧
    (f.oldPress = true → set (.resetButtonRelease d) { f with oldPress := false }) ∧
    (f.st ≠ 0 → f.st ≠ 6 → f.stuck = false → set .resetStuck { f with stuck := true, news := f.news ++ [(E_SAFE_RESET_STUCK, 0, 1, nodeId m, 0)] }) ∧
    (f.st = 1 → (∀ p, set (.islandSelfTestDone true p) { f with st := 2, oldPress := p }) ∧ (∀ p, halts (.islandSelfTestDone false p))) ∧
    (f.st ≠ 0 → f.st ≠ 6 → halts .islandInternalFault) ∧
    (crosses m 11 = true → t % 200000 = 0 → m.time.markerFrom ≤ t → isManager m = true →
      exec (.timeReferenceMarker t) s =
        .next { s with m := { at' m t with safe := { f with markAge := 0, anew := if f.anew = 1 then 2 else f.anew } } }) ∧
    (crosses m 11 = false ∨ t % 200000 ≠ 0 ∨ t < m.time.markerFrom ∨ (networked m = true ∧ m.time.valid = false) → same (.timeReferenceMarker t)) ∧
    (islandConfigured m = true → ∀ k, k < 4 → sensRec m k ≠ none → set (.sensorFrameReceive k t l)
      { f with sens := sput f.sens k { sget f.sens k {} with rx := lastN 16 ((sget f.sens k {}).rx ++ [(t, l)]) } {} })

/-- A safety cycle starts one cycle after the last within 40 ticks; where a marker has come since, it is steered to the instant of its number in
cell time by at most 200 ticks (02 R72, R73 with entry 84). It takes the next number, puts the outputs
computed in the one before into force and judges the presses; the mirror is published with the island's
news, latched by a read and stale two cycles later. A frame is posted to the mailbox by a write or by SAFE_CONFIG where the mailbox is free.
A LOAD installs its frame, and SEAL, COMMISSION and KEY take effect once confirmed, and not before; a confirmation that does not come is
dropped, and a halted island carries out none of them (02 R72, 15 R437, R438, R443, R459, R460, R463 to R465, R468). -/
def Obligations.SafetyCycleMirrorAndConfiguration : Prop :=
  ∀ (j : Job) (t edm mism port op : Nat) (d fr : List Nat) (s : State), let m := s.m
    let f := m.safe
    let set (c : Instr) (f' : SafeSt) : Prop := exec c s = .next { s with m := { m with safe := f' } }
    let same (c : Instr) : Prop := exec c s = .next s
    let free := getF m SAFE_MBX_STAT_STATE ≠ 1 ∧ getF m SAFE_MBX_STAT_STATE ≠ 2
    (f.st = 0 ∨ f.st = 6 → same (.safetyCycleStart t edm mism) ∧ same .mirrorPublish) ∧
    (f.st ≠ 0 → f.st ≠ 6 → ∃ m', exec (.safetyCycleStart t edm mism) s = .next { s with m := m' } ∧ m'.safe.out = f.outNext ∧ m'.safe.sto = f.stoNext ∧
      m'.safe.start = (safetyStart m t : Int) ∧ m'.safe.begun = true ∧ m'.cyc.now = max m.cyc.now (safetyStart m t) ∧ (f.st ≠ 1 → m'.safe.presses = 0) ∧ m'.mem = m.mem ∧
      (f.begun = false → safetyStart m t = t ∧ m'.safe.k = (t + 100000) / 200000 % 2 ^ 64) ∧
      (f.begun = true → f.anew ≠ 2 → m'.safe.k = (f.k + 1) % 2 ^ 64)) ∧
    (f.begun = true → 240 ≤ f.start + 200000 →
      let p := f.start + 200000
      let at_ : Int := safetyStart m t
      let z : Int := safetyNumber m p.toNat * 200000
      let steers := f.markAge = 0 ∧ f.anew ≠ 1
      p - 240 ≤ at_ ∧ at_ ≤ p + 240 ∧ (¬ steers → p - 40 ≤ at_ ∧ at_ ≤ p + 40) ∧
      (steers → z - 200 ≤ p → p ≤ z + 200 → z - 40 ≤ at_ ∧ at_ ≤ z + 40)) ∧
    (f.st ≠ 0 → f.st ≠ 6 → f.begun = true → (∀ g ∈ m.mould.groups, g.group < 32) → ∃ m', exec .mirrorPublish s = .next { s with m := m' } ∧ m'.safe.mir = mirrorBytes (at' m (f.start + 144000).toNat) ∧
      m'.safe.pubAt = some (max m.cyc.now (f.start + 144000).toNat) ∧ m'.safe.news = [] ∧ getF m' SAFE_MIR_STAT_MIRROR_STALE = 0) ∧
    set (.mirrorLatchRead port) { f with latch := sput f.latch port f.mir [] } ∧
    (getF m SAFE_MIR_STAT_MIRROR_STALE = 0 → (∀ g ∈ m.mould.groups, g.group < 32) → ∃ m', exec .mirrorStale s = .next { s with m := m' } ∧ getF m' SAFE_MIR_STAT_MIRROR_STALE = 1 ∧ getF m' SAFE_MIR_STAT_STALE_SEEN = 1 ∧
      getF m' SAFE_STALE_CNT_CNT = satAdd (2 ^ SAFE_STALE_CNT_CNT.w - 1) (getF m SAFE_STALE_CNT_CNT) 1 ∧ m'.safe = f ∧ m'.mem = m.mem) ∧
    (getF m SAFE_MIR_STAT_MIRROR_STALE = 1 → same .mirrorStale) ∧
    (free → ∃ m', exec .mailboxPost s = .next { s with m := m' } ∧ getF m' SAFE_MBX_STAT_STATE = 1 ∧
      getF m' SAFE_MBX_STAT_SEQ = (getF m SAFE_MBX_STAT_SEQ + 1) % 2 ^ SAFE_MBX_STAT_SEQ.w ∧ m'.safe = f) ∧
    (¬ free → exec .mailboxPost s = .next { s with m := logNode m E_SAFE_MBX_BUSY (getF m SAFE_MBX_STAT_SEQ) }) ∧
    (JobRuns 0x0D01 j m →
      (j.desc.dataLen < 256 ∨ 32768 < j.desc.dataLen → exec (.safeConfig j) s = jobFails s 0x0D01 j m E_SAFE_CFG_FORMAT 8) ∧
      (256 ≤ j.desc.dataLen → j.desc.dataLen ≤ 32768 →
        (¬ free → exec (.safeConfig j) s = jobFails s 0x0D01 j m E_SAFE_MBX_BUSY (getF m SAFE_MBX_STAT_SEQ)) ∧
        (free → ∃ m', exec (.safeConfig j) s = .next { s with m := dropFlight m' (asJob 0x0D01 j) } ∧ getF m' SAFE_MBX_STAT_STATE = 1 ∧
          getF m' SAFE_MBX_LEN_LEN = j.desc.dataLen ∧ m'.safe.job = some (jcompl (asJob 0x0D01 j) 0 0 none) ∧
          (∀ i, i < j.desc.dataLen → sget m'.safe.mbox i 0 = nth j.data i % 256)))) ∧
    (f.taken = none → same .configLoad) ∧
    (f.taken = some fr → f.st = 2 → ∃ m', exec .configLoad s = .next { s with m := m' } ∧ m'.safe.cfg = fr ∧ m'.safe.digest = sha384 (cfgSigned fr) ∧
      m'.safe.taken = none ∧ m'.safe.st = (if f.seals = [] then 3 else 4) ∧ m'.safe.outNext = 0 ∧ m'.safe.stoNext = 0 ∧ m'.safe.sets = [] ∧ m'.safe.mbx = 0 ∧
      m'.safe.seals = f.seals ∧ m'.safe.key = f.key ∧ m'.mem = m.mem) ∧
    (f.st = 0 ∨ f.st = 6 → same .configLoad ∧ same .configSeal ∧ same .configCommission ∧ same .configKey ∧ same .confirmTimeout) ∧
    (f.st ≠ 0 → f.st ≠ 6 → f.confirm = some (1, d, true) → f.st ≠ 5 →
      let news' := f.news ++ [(E_SAFE_SEALED, 7, 1, nodeId m, f.seals.length)]
      set .configSeal { f with confirm := none, seals := f.seals ++ [d], st := (if f.st = 3 then 4 else f.st), news := news' }) ∧
    (f.st ≠ 0 → f.st ≠ 6 → f.confirm = some (2, d, true) → set .configCommission { f with confirm := none, st := 3, was := 3, hold := true, outNext := 0, stoNext := 0 }) ∧
    (f.st ≠ 0 → f.st ≠ 6 → f.confirm = some (3, d, true) → set .configKey { f with confirm := none, key := (if f.key = [] then d else f.key) }) ∧
    (f.confirm = none ∨ f.confirm = some (op, d, false) → same .configSeal ∧ same .configCommission ∧ same .configKey) ∧
    (f.st ≠ 0 → f.st ≠ 6 → f.confirm = some (op, d, false) → set .confirmTimeout { f with confirm := none, news := f.news ++ [(E_SAFE_CONFIRM_TIMEOUT, 0, 1, nodeId m, op)] }) ∧
    (f.confirm = none → same .confirmTimeout)

/-- PTP messages reach the enabled domain of their port and number: a Sync of its grandmaster gives a sample with its stamp and PTP time, at
once or with its Follow_Up, and a domain that listens goes to LOCKING; an Announce that beats, or any in a domain whose Sync has timed out
(entry 32), takes its source as grandmaster; an interval
request in range is honoured; a delay request is answered with arrival and departure, and a response gives the mean link delay with the rate
ratio of the neighbour (entry 31); anything else is counted or ignored. The grandmaster sends Sync, Follow_Up and Announce with its priority
vector. A domain without Sync is lost, with hold-over where it is selected, and a grandmaster-capable one is its own grandmaster again
(entry 32); a switch or an enable takes the domain's rules (14 R411 to R416, R418 to R421). -/
def Obligations.PtpMessagesReachTheirDomain : Prop :=
  ∀ (port dn d src seq stamp t gm : Nat) (origin t2 t3 ls : Int) (vec : List Nat) (s : State), port < 2 → d < 2 → let m := s.m
    let x := domSt m d
    let c : Int := (stamp : Int) - getF m TIME_ETH_LAT_ING_LAT port
    let egr := getF m TIME_ETH_LAT_EGR_LAT port
    let used := portUsed m port = true
    let here := instanceOf m port dn = [d]
    let sampled (m' : Mach) (a ref : Int) : Prop := domState m' d = 2 ∧
      (domSt m' d).samples = lastN 16 (x.samples ++ [(a, ref, origin + linkDelay m port)]) ∧ (domSt m' d).wait = none ∧ m'.mem = m.mem
    (here → x.gm ≠ some src → ∀ two, exec (.ptpSyncReceive port dn src seq two stamp origin) s = .next { s with m := at' m stamp }) ∧
    (here → x.gm = some src →
      exec (.ptpSyncReceive port dn src seq true stamp origin) s = .next { s with m := setDom (at' m stamp) d { x with wait := some (seq, c, refTime m c) } } ∧
      (domState m d = 1 → ∃ m', exec (.ptpSyncReceive port dn src seq false stamp origin) s = .next { s with m := m' } ∧ sampled m' c (refTime m c) ∧
        m'.cyc.now = max m.cyc.now stamp) ∧
      (∀ w ref, domState m d = 1 → x.wait = some (seq, w, ref) → ∃ m', exec (.followUpReceive port dn src seq origin) s = .next { s with m := m' } ∧ sampled m' w ref) ∧
      (x.wait = none → exec (.followUpReceive port dn src seq origin) s = .next s)) ∧
    (let msg1 : PtpMsg := { port := port, typ := 3, seq := seq, time := ptpAt m c }
     let msg2 : PtpMsg := { port := port, typ := 10, seq := seq, time := ptpAt m ((t : Int) + egr) }
     used → ∃ m', exec (.pdelayReqReceive port seq stamp t) s = .next { s with m := m' } ∧ m'.out.ptp = m.out.ptp ++ [msg1, msg2] ∧ m'.cyc.now = max m.cyc.now (max stamp t) ∧
       m'.time = m.time ∧ m'.regs = m.regs) ∧
    (used → ∃ m', exec (.pdelayReqTransmit port t) s = .next { s with m := m' } ∧ m'.out.ptp = m.out.ptp ++ [{ port := port, typ := 2, seq := m.time.seq % 65536 }] ∧
      sget m'.time.req port (65536, 0) = (m.time.seq % 65536, (t : Int) + egr) ∧ m'.cyc.now = max m.cyc.now t ∧ m'.regs = m.regs) ∧
    (¬ used → exec (.pdelayReqTransmit port t) s = .next s ∧ exec (.pdelayReqReceive port seq stamp t) s = .next s) ∧
    (let r := sget m.time.req port (65536, 0)
     let near := cellNs c - cellNs r.2
     (r.1 = seq → ∃ m', exec (.pdelayRespReceive port seq t2 t3 stamp) s = .next { s with m := m' } ∧
        (sget m.time.nbr port none = none → linkDelay m' port = roundDiv (near - (t3 - t2)) 2) ∧
        (∀ p3 p4, sget m.time.nbr port none = some (p3, p4) → p3 < t3 → p4 < cellNs c →
          linkDelay m' port = roundDiv (near * (t3 - p3) - (t3 - t2) * (cellNs c - p4)) (2 * (cellNs c - p4).toNat)) ∧
        sget m'.time.nbr port none = some (t3, cellNs c) ∧ m'.cyc.now = max m.cyc.now stamp ∧ m'.regs = m.regs) ∧
     (r.1 ≠ seq → exec (.pdelayRespReceive port seq t2 t3 stamp) s = .next s)) ∧
    (here → x.gm = none → getF m TIME_DOM_CFG_GM_EN d = 0 → ∃ m', exec (.announceReceive port dn src gm vec) s = .next { s with m := m' } ∧
      domSt m' d = { x with gm := some src, vec := vec ++ [gm] } ∧ getF m' TIME_DOM_GM_HI_GM d = gm % 2 ^ 32 ∧ getF m' TIME_DOM_GM_LO_GM d = gm / 2 ^ 32 % 2 ^ 32 ∧
      getF m' TIME_DOM_STAT_GM_SELF d = 0 ∧ m'.mem = m.mem) ∧
    (here → domState m d = 4 → getF m TIME_DOM_CFG_GM_EN d = 0 → ∃ m', exec (.announceReceive port dn src gm vec) s = .next { s with m := m' } ∧
      (domSt m' d).gm = some src ∧ (domSt m' d).vec = vec ++ [gm] ∧ domState m' d = 4 ∧ m'.mem = m.mem) ∧
    (here → domState m d ≠ 4 → (∃ y, x.gm = some y ∧ y ≠ src) → better (vec ++ [gm]) x.vec = false → exec (.announceReceive port dn src gm vec) s = .next s) ∧
    (here → -5 ≤ ls → ls ≤ 3 → exec (.signalingReceive port dn ls) s = .next { s with m := setF m TIME_DOM_STAT_LOG_SYNC d (unsg 8 ls) }) ∧
    (ls < -5 ∨ 3 < ls → exec (.signalingReceive port dn ls) s = .next s) ∧
    exec (.managementReceive port) s = .next s ∧
    (∃ m', exec (.ethernetFrameDiscard port) s = .next { s with m := m' } ∧
      getF m' TIME_ETH_DROP_CNT_CNT port = satAdd (2 ^ TIME_ETH_DROP_CNT_CNT.w - 1) (getF m TIME_ETH_DROP_CNT_CNT port) 1 ∧ m'.time = m.time ∧ m'.mem = m.mem) ∧
    (getF m TIME_DOM_CFG_EN d = 1 → getF m TIME_DOM_STAT_GM_SELF d = 1 →
      let p := getF m TIME_DOM_CFG_PORT d
      let n := getF m TIME_DOM_CFG_DOMAIN d
      let q := m.time.seq % 65536
      let sync : PtpMsg := { port := p, typ := 0, domain := n, seq := q }
      let follow : PtpMsg := { sync with typ := 8, time := ptpAt m ((t : Int) + getF m TIME_ETH_LAT_EGR_LAT p) }
      ∃ m', exec (.ptpSyncTransmit d t) s = .next { s with m := m' } ∧ m'.out.ptp = m.out.ptp ++ [sync, follow, { sync with typ := 11, vec := ownVec m d }] ∧
        m'.time.seq = (q + 1) % 65536 ∧ m'.cyc.now = max m.cyc.now t ∧ m'.regs = m.regs) ∧
    (getF m TIME_DOM_STAT_GM_SELF d = 0 → exec (.ptpSyncTransmit d t) s = .next s) ∧
    (domState m d = 3 → servoRole m = true → selDom m = d → ∃ m', exec (.syncReceiptTimeout d) s = .next { s with m := m' } ∧ domState m' d = 4 ∧
      getF m' TIME_STAT_HOLDOVER = 1 ∧ getF m' TIME_STAT_SERVO = 0 ∧ m'.mem = m.mem ∧
      getF m' TIME_DOM_LOSS_CNT_CNT d = satAdd (2 ^ TIME_DOM_LOSS_CNT_CNT.w - 1) (getF m TIME_DOM_LOSS_CNT_CNT d) 1) ∧
    (domState m d = 0 ∨ (domState m d ≠ 3 ∧ (getF m TIME_DOM_CFG_GM_EN d = 0 ∨ x.gm = none)) → exec (.syncReceiptTimeout d) s = .next s) ∧
    (domState m d ≠ 0 → getF m TIME_DOM_CFG_GM_EN d = 1 → ∀ y, x.gm = some y → ∃ m', exec (.syncReceiptTimeout d) s = .next { s with m := m' } ∧
      getF m' TIME_DOM_STAT_GM_SELF d = 1 ∧ (domSt m' d).gm = none ∧ m'.mem = m.mem) ∧
    (m.twi.waiting = false → exec .firstLockWaitExpiry s = .next s) ∧
    (m.twi.waiting = true → exec .firstLockWaitExpiry s = .next { s with m := startTraining m }) ∧
    (blockOn m 11 = true → networked m = false → domState m d = 3 →
      (selDom m = d → exec (.selWrite d) s = .next s) ∧
      (selDom m ≠ d → ∃ m', exec (.selWrite d) s = .next { s with m := m' } ∧ m'.time.target = some d ∧ getF m' TIME_STAT_SWITCH_PEND = 1 ∧ selDom m' = selDom m)) ∧
    (blockOn m 11 = true → networked m = true ∨ domState m d ≠ 3 → exec (.selWrite d) s = .next { s with m := report m E_TIME_BAD_CFG 0 5 11 0 }) ∧
    (blockOn m 11 = true → networked m = true → ∀ en, exec (.domainEnable d en) s = .next s) ∧
    (blockOn m 11 = true → networked m = false → getF m TIME_DOM_CFG_EN d = 0 → d = 0 ∨ feature m 9 = true → ∃ m', exec (.domainEnable d true) s = .next { s with m := m' } ∧
      getF m' TIME_DOM_CFG_EN d = 1 ∧ domState m' d = 1 ∧ domSt m' d = {} ∧ getS m' TIME_DOM_STAT_LOG_SYNC d = -3 ∧ getF m' TIME_DOM_STAT_GM_SELF d = b2n (onF m TIME_DOM_CFG_GM_EN d) ∧ m'.mem = m.mem) ∧
    (blockOn m 11 = true → networked m = false → domState m d ≠ 3 → ∃ m', exec (.domainEnable d false) s = .next { s with m := m' } ∧ getF m' TIME_DOM_CFG_EN d = 0 ∧ domState m' d = 0 ∧
      domSt m' d = {} ∧ m'.mem = m.mem)

/-- A timed output takes a set-up that passes its checks, to take effect at the next cycle boundary, with the output claimed; a busy output, a
rate beyond its limit or a start that has passed is refused, by the job or by a write of GO. STOP switches it off at the boundary. A pulse
due goes out at its instant and is counted. A capture input queues up to 16 stamped edges of the directions selected and loses further ones
with a count; a read of the head removes it. DOMAIN_SELECT asks for a switch to a LOCKED domain (14 R420, R423 to R425, R427, R429, R430,
R433). -/
def Obligations.TimedOutputsAndCaptures : Prop :=
  ∀ (j : Job) (o i t held : Nat) (c : OutSet) (falling : Bool) (s : State), o < 8 → i < 8 → let m := s.m
    let next := nextStart m
    let settled := ∀ k, k < 8 → (outSt m k).ending = false
    let waits (m' : Mach) (c : OutSet) : Prop := (outSt m' o).next = some (c, next) ∧ (c.mode ≠ 0 → ownerOf m' 3 o = some 4) ∧ m'.mem = m.mem ∧ m'.cyc = m.cyc
    let tm := blockOn m 11 = true
    (JobRuns 0x0B01 j m → settled → j.desc.par 0 = o + 0x3F00 → outSetOf false (padTo j.desc.dataLen j.data) = some c → (field j.data 1 1).testBit 1 = false →
      (ownerOf m 3 o = none → outCheck m o c next = none → ∃ m', exec (.timedOut j) s = jobEnds s 0x0B01 j m' 0 0 none ∧ waits m' c) ∧
      (ownerOf m 3 o = none → ∀ e, outCheck m o c next = some e → exec (.timedOut j) s = jobFails s 0x0B01 j m e o) ∧
      (∀ b, ownerOf m 3 o ≠ some 4 → firstBusy m [(3, o)] = some b →
        exec (.timedOut j) s = jobFails s 0x0B01 j (logNode m E_RESOURCE_BUSY b) E_RESOURCE_BUSY b)) ∧
    (JobRuns 0x0B01 j m → j.desc.par 0 = o + 0x3F00 → outSetOf false (padTo j.desc.dataLen j.data) = none →
      exec (.timedOut j) s = jobEnds s 0x0B01 j m E_HIF_BAD_PARAM 0xFFFFFFFF none) ∧
    (let g := outRegs m o
     (tm → settled → ∀ b, ownerOf m 3 o ≠ some 4 → firstBusy m [(3, o)] = some b → exec (.outGo o) s = .next { s with m := logNode m E_RESOURCE_BUSY b }) ∧
     (tm → settled → ownerOf m 3 o = none →
      (outCheck m o g next = none → ∃ m', exec (.outGo o) s = .next { s with m := m' } ∧ waits m' g) ∧
      (outCheck m o g next = some E_TIME_OUT_PAST → exec (.outGo o) s = .next s) ∧
      (outCheck m o g next = some E_TIME_OUT_RATE → exec (.outGo o) s = .next { s with m := logNode m E_TIME_OUT_RATE o }))) ∧
    (tm → ownerOf m 3 o = some 4 → ∃ m', exec (.outStop o) s = .next { s with m := m' } ∧ (outSt m' o).next = some ({}, next) ∧ m'.regs = m.regs ∧ m'.mem = m.mem) ∧
    (tm → ownerOf m 3 o ≠ some 4 → exec (.outStop o) s = .next s) ∧
    ((outSt m o).due = [] → exec (.timedOutputPulse o) s = .next s) ∧
    (∀ w rest, settled → (outSt m o).due = (t, w) :: rest → (outSt m o).set.mode = 1 → (outSt m o).lastEdge = none → getF m TIME_OUT_RLIM_RLIM o ≤ w → ∃ m', exec (.timedOutputPulse o) s = .next { s with m := m' } ∧
      m'.out.pulses = m.out.pulses ++ [(o, t, t + w)] ∧ (outSt m' o).due = [] ∧ (outSt m' o).ending = true ∧ (outSt m' o).lastEdge = some (t + w) ∧
      getF m' TIME_OUT_CNT_PULSES o = satAdd (2 ^ TIME_OUT_CNT_PULSES.w - 1) (getF m TIME_OUT_CNT_PULSES o) 1 ∧ m'.cyc.now = max m.cyc.now t ∧ m'.mem = m.mem) ∧
    (∀ w rest, settled → (outSt m o).due = (t, w) :: rest →
      w < getF m TIME_OUT_RLIM_RLIM o ∨ (∃ e, (outSt m o).lastEdge = some e ∧ t < e + getF m TIME_OUT_RLIM_RLIM o) → ∃ m',
      exec (.timedOutputPulse o) s = .next { s with m := m' } ∧ m'.out.pulses = m.out.pulses ∧ getF m' TIME_FLAGS_RLIM_HIT = 1) ∧
    (held < getF m TIME_CAP_CFG_FILT i + 1 ∨ ¬ tm → exec (.captureEdge i falling t held) s = .next s) ∧
    (tm → getF m TIME_CAP_CFG_FILT i + 1 ≤ held → getF m TIME_CAP_CFG_EN i = 1 → (if falling then getF m TIME_CAP_CFG_EDGE i / 2 = 1 else getF m TIME_CAP_CFG_EDGE i % 2 = 1) →
      ((capQ m i).length < 16 → ∃ m', exec (.captureEdge i falling t held) s = .next { s with m := m' } ∧ capQ m' i = capQ m i ++ [(t, falling)] ∧
        getF m' TIME_CAP_STAT_COUNT i = (capQ m i).length + 1 ∧ getF m' TIME_CAP_STAT_LEVEL i = b2n (!falling) ∧ m'.mem = m.mem) ∧
      (16 ≤ (capQ m i).length → ∃ m', exec (.captureEdge i falling t held) s = .next { s with m := m' } ∧ capQ m' i = capQ m i ∧ getF m' TIME_FLAGS_OVERFLOW = 1 ∧
        getF m' TIME_OVF_CNT_CNT i = satAdd (2 ^ TIME_OVF_CNT_CNT.w - 1) (getF m TIME_OVF_CNT_CNT i) 1)) ∧
    (capQ m i = [] ∨ ¬ tm → exec (.captureHeadRemove i) s = .next s) ∧
    (∀ h q, tm → capQ m i = h :: q → q.length < 16 → ∃ m', exec (.captureHeadRemove i) s = .next { s with m := m' } ∧ capQ m' i = q ∧ getF m' TIME_CAP_STAT_COUNT i = q.length ∧
      getF m' TIME_CAP_LO_STAMP i = (q.headD (0, false)).1 % 2 ^ 32 ∧ m'.mem = m.mem) ∧
    (JobRuns 0x0B02 j m → j.desc.par 0 < 2 → networked m = false →
      let d := j.desc.par 0
      (domState m d ≠ 3 → exec (.domainSelect j) s = jobFails s 0x0B02 j m E_TIME_DOMAIN_NOT_LOCKED d) ∧
      (domState m d = 3 → selDom m = d → exec (.domainSelect j) s = jobEnds s 0x0B02 j m 0 0 none) ∧
      (domState m d = 3 → selDom m ≠ d → ∃ m', exec (.domainSelect j) s = .next { s with m := dropFlight m' (asJob 0x0B02 j) } ∧ m'.time.target = some d ∧
        m'.time.jobs = m.time.jobs ++ [jcompl (asJob 0x0B02 j) 0 0 none] ∧ getF m' TIME_STAT_SWITCH_PEND = 1))

/-- A Tap whose set-up passes its checks and whose resources no function owns arms, with its claims taken; a set-up that fails changes
nothing, and an owned resource is reported, by the job with its DETAIL (entry 88). ARM, FORCE and STOP are register writes and
need the block on. A
sample at an instant of the sample clock is recorded with the values of the enabled probes, or lost where it comes too soon. A forced trigger is an event of the search; an
event during a re-arm is missed. The re-arm opens the next segment. A stop ends the capture at once, or once the drain has emptied; the
drain writes a marker whole (20 R565 to R568, R571, R575 to R579, R584). -/
def Obligations.TapCapturesAndDrains : Prop :=
  ∀ (j : Job) (t n : Nat) (waited : Bool) (s : State), let m := s.m
    let p := m.tap
    let st := getF m TAP_STAT_STATE
    let on := blockOn m 12 = true
    let settled := ∀ k, k < 8 → (outSt m k).ending = false
    let same (c : Instr) : Prop := exec c s = .next s
    let cont := getF m TAP_CFG_CONT = 1
    let start (m' : Mach) : Prop := getF m' TAP_STAT_STATE = (if cont ∨ getF m TAP_PRE_N = 0 then 2 else 1) ∧ getF m' TAP_STAT_SEQ_STATE = 0 ∧
      m'.mem = m.mem ∧ m'.tap.trig = none ∧ m'.tap.cnt = 0 ∧ m'.tap.entry = m.cyc.now
    -- arming
    (on → tapCheck m ≠ none → same .tapCtrlArm) ∧
    (on → settled → tapCheck m = none → firstBusy m (tapClaims m) = some n → exec .tapCtrlArm s = .next { s with m := logNode m E_RESOURCE_BUSY n }) ∧
    (on → settled → tapCheck m = none → firstBusy m (tapClaims m) = none → ∃ m', exec .tapCtrlArm s = .next { s with m := m' } ∧ start m' ∧
      getF m' TAP_REC_RLOG2 = recLog2 m % 2 ^ TAP_REC_RLOG2.w ∧ getF m' TAP_STAT_SEG = 0 ∧ m'.tap.armTick = m.cyc.now ∧ m'.tap.recs = [] ∧ m'.tap.seq = 0 ∧
      (∀ x ∈ tapClaims m, ownerOf m' x.1 x.2 ≠ none)) ∧
    (JobRuns 0x0C01 j m →
      (j.desc.par 0 = 0x3F → ∀ m', tapArmHere m (padTo j.desc.dataLen j.data) = .inr m' → exec (.tapArm j) s = jobEnds s 0x0C01 j m' 0 0 none) ∧
      (j.desc.par 0 = 0x3F → ∀ e d, tapArmHere m (padTo j.desc.dataLen j.data) = .inl (e, d) →
        exec (.tapArm j) s = jobFails s 0x0C01 j (if e = E_RESOURCE_BUSY then logNode m e d else m) e d) ∧
      (j.desc.par 0 = 0x3F → j.desc.dataLen ≠ 640 → exec (.tapArm j) s = jobFails s 0x0C01 j m E_TAP_BAD_SETUP (min j.desc.dataLen 640))) ∧
    -- a sample
    let due := (getF m TAP_SAMPLE_CLK = 0 → t % getF m TAP_SAMPLE_INTERVAL = 0) ∧ (getF m TAP_SAMPLE_CLK = 4 → t = m.cyc.start)
    (sampling m = false ∨ ¬ due → exec (.tapSample t) s = .next { s with m := at' m t }) ∧
    (sampling m = true → due →
      (∀ l, p.lastTick = some l → 100 * (t - l) < 16 * recSize m → ∃ m', exec (.tapSample t) s = .next { s with m := m' } ∧ m'.tap = { p with seq := p.seq + 1 } ∧
        getF m' TAP_LOST_CNT_CNT = satAdd (2 ^ TAP_LOST_CNT_CNT.w - 1) (getF m TAP_LOST_CNT_CNT) 1 ∧ getF m' TAP_FLAGS_LOST = 1 ∧ m'.mem = m.mem) ∧
      ((∀ l, p.lastTick = some l → 16 * recSize m ≤ 100 * (t - l)) → segSlots m ≠ 0 →
        let v := tapValues (at' m t) t
        ∃ m', exec (.tapSample t) s = .next { s with m := m' } ∧ m'.tap.recs.getLast? = some { seq := p.seq, tick := t, slot := p.wr, vals := v } ∧
          m'.tap.seq = p.seq + 1 ∧ m'.tap.prev = v ∧ m'.tap.lastTick = some t ∧ m'.tap.wr = (p.wr + 1) % segSlots m ∧ m'.cyc.now = max m.cyc.now t)) ∧
    -- a forced trigger
    (on → st = 0 ∨ st = 3 ∨ st = 5 ∨ st = 6 ∨ termUsed m 12 = false → same .tapForce) ∧
    (on → st = 1 ∨ st = 2 → p.stopping = false → termUsed m 12 = true → p.recs = [] →
      exec .tapForce s = .next { s with m := { m with tap := { p with evs := p.evs ++ [(12, m.cyc.now)] } } }) ∧
    (on → st = 4 → termUsed m 12 = true → ∃ m', exec .tapForce s = .next { s with m := m' } ∧ getF m' TAP_FLAGS_MISSED = 1 ∧ m'.mem = m.mem ∧
      getF m' TAP_MISSED_CNT = satAdd (2 ^ TAP_MISSED_CNT.w - 1) (getF m TAP_MISSED_CNT) 1 ∧ m'.tap = { p with missed := p.missed + 1, missedHdr := p.missedHdr + 1 }) ∧
    -- re-arm
    (st ≠ 4 ∨ p.stopping = true → same .tapRearmEnd) ∧
    (st = 4 → p.stopping = false → ¬ cont → ∃ m', exec .tapRearmEnd s = .next { s with m := m' } ∧ start m' ∧ m'.tap.recs = [] ∧ m'.tap.missed = 0 ∧
      getF m' TAP_STAT_SEG = (getF m TAP_STAT_SEG + 1) % 2 ^ TAP_STAT_SEG.w ∧ m'.tap.seq = p.seq) ∧
    -- stop
    (on → st = 0 ∨ p.stopping = true → same .tapCtrlStop) ∧
    (on → st ≠ 0 → st ≠ 3 → p.stopping = false → p.inj = false → p.jobs = [] →
      (p.items = [] ∨ getF m TAP_DRAIN_CFG_EN = 0 ∨ feature m 8 = false → ∃ m', exec .tapCtrlStop s = .next { s with m := m' } ∧ getF m' TAP_STAT_STATE = 0 ∧
        getF m' TAP_STAT_SEQ_STATE = 0 ∧ m'.tap.items = [] ∧ m'.mem = m.mem) ∧
      (p.items ≠ [] → getF m TAP_DRAIN_CFG_EN = 1 → feature m 8 = true → exec .tapCtrlStop s = .next { s with m := { m with tap := { p with stopping := true } } })) ∧
    (JobRuns 0x0C02 j m →
      (j.desc.par 0 ≠ 0 → exec (.tapStop j) s = jobEnds s 0x0C02 j m E_HIF_BAD_PARAM 0 none) ∧
      (j.desc.par 0 = 0 → st = 0 → exec (.tapStop j) s = jobEnds s 0x0C02 j m 0 0 none) ∧
      (j.desc.par 0 = 0 → st ≠ 0 → st ≠ 3 → p.stopping = false → p.inj = false → p.items ≠ [] → getF m TAP_DRAIN_CFG_EN = 1 → feature m 8 = true →
        let m' := { m with tap := { p with stopping := true, jobs := p.jobs ++ [jcompl (asJob 0x0C02 j) 0 0 none] } }
        exec (.tapStop j) s = .next { s with m := dropFlight m' (asJob 0x0C02 j) })) ∧
    -- drain
    (p.items = [] ∨ getF m TAP_DRAIN_CFG_EN = 0 → same (.drainBlockWrite waited)) ∧
    (getF m TAP_DRAIN_CFG_EN = 1 → feature m 8 = true → ringUp m 3 (getF m TAP_DRAIN_CFG_RING) = true → p.gap = 0 → p.stopping = false →
      ∀ x r, p.items = x :: r → x.mark ≠ [] → let els := markElems m x.mark
      (els.length ≤ ringFree m 3 (getF m TAP_DRAIN_CFG_RING) → ∃ m', exec (.drainBlockWrite waited) s = .next { s with m := m' } ∧ m'.tap.items = r ∧
        m' = { outBlock (getF m TAP_DRAIN_CFG_RING) els 0 m with tap := { p with items := r } }) ∧
      (ringFree m 3 (getF m TAP_DRAIN_CFG_RING) < els.length → same (.drainBlockWrite waited)))

/-- Twira links and slots. A port in training synchronises, exchanges LINK frames, in mode 0 outside every window alone, is admitted after 16
good ones and goes down once. A frame that fails its checks is counted; one that passes and lies in the window of its own slot is stored as
the newest of that slot. A published buffer goes out at START of the slot with
age 0, an old one is repeated as stale, and a node that may not insert sends nothing. A view takes the newest frame, says whether it is
fresh and counts the occurrences missed since the last view. A frame cut is counted and reported, once in a cycle (12 R352, R358, R370 to
R373, R375 to R378; 13 R383 to R386, R388). -/
def Obligations.TwiraFramesGoInTheirSlots : Prop :=
  ∀ (p t last h : Nat) (clean : Bool) (b : List Nat) (rq : List AsyncReq) (an : List AsyncAns) (s : State), p < 8 → h < 2048 → let m := s.m
    let w := m.twi
    let x := portSt m p
    let q := slotSt m h
    let on := blockOn m 10 = true
    let same (c : Instr) : Prop := exec c s = .next s
    let st := getF m TWI_PORT_STATE p
    let l := b.drop 16
    let up (f : Fld) (m' : Mach) : Prop := getF m' f p = satAdd (2 ^ f.w - 1) (getF m f p) 1
    -- links
    (st = 1 → exec (.codeGroupSyncAcquired p) s = .next { s with m := setF m TWI_PORT_STATE p 2 }) ∧
    (st ≠ 1 → same (.codeGroupSyncAcquired p)) ∧
    (st = 3 → ∃ m', exec (.linkDown p) s = .next { s with m := m' } ∧ getF m' TWI_PORT_STATE p = 1 ∧ portSt m' p = { again := true } ∧ m'.mem = m.mem) ∧
    (st ≠ 3 → same (.linkDown p)) ∧
    (st < 2 → same (.linkFrameSend p t) ∧ same (.linkFrameReceive p t clean b)) ∧
    (let sends := ∃ m' w, exec (.linkFrameSend p t) s = .next { s with m := m' } ∧ m'.out.frames = m.out.frames ++ [(p, w ++ leBytes 4 (crc32 w))] ∧
       w.length = 48 ∧ field w 16 8 = 4 * t % 2 ^ 64 ∧ field w 40 1 = nodeId m ∧ m'.twi = m.twi ∧ m'.regs = m.regs ∧ m'.mem = m.mem
     let silent := exec (.linkFrameSend p t) s = .next { s with m := at' m t }
     let timed := twiMode m = 0 ∧ (twiState m = 3 ∨ twiState m = 4 ∨ twiState m = 5)
     (st = 2 ∨ st = 4 → ¬ timed → sends) ∧ (2 ≤ st → timed → linkFits m p t = true → sends) ∧ (2 ≤ st → timed → linkFits m p t = false → silent) ∧
     (st = 3 → ¬ timed → twiState m ≠ 1 → twiState m ≠ 2 → silent)) ∧
    (2 ≤ st → clean = false ∨ frameCrcOk b = false ∨ b.length ≠ 52 → ∃ m', exec (.linkFrameReceive p t clean b) s = .next { s with m := m' } ∧
      up TWI_PORT_RX_CRC_CNT m' ∧ getF m' TWI_FLAGS_CRC_ERR = 1 ∧ portSt m' p = { x with run := 0 } ∧ m'.mem = m.mem) ∧
    (2 ≤ st → clean = true → frameCrcOk b = true → b.length = 52 → field l 8 8 = 0 →
      let mean := if x.samples = [] then 0 else roundDiv (x.samples.foldl (· + ·) 0) (2 * x.samples.length)
      let y : PortSt := { x with run := x.run + 1, echoTx := field l 0 8, echoRx := t }
      (x.run + 1 < 16 ∨ st = 3 → ∃ m', exec (.linkFrameReceive p t clean b) s = .next { s with m := m' } ∧ up TWI_PORT_RX_GOOD_CNT m' ∧ portSt m' p = y ∧
        getF m' TWI_PORT_PEER p = field l 24 1 % 2 ^ TWI_PORT_PEER.w ∧ getF m' TWI_PORT_STATE p = st) ∧
      (16 ≤ x.run + 1 → st = 2 → admitFail m p l mean = none → ∃ m', exec (.linkFrameReceive p t clean b) s = .next { s with m := m' } ∧
        getF m' TWI_PORT_STATE p = 3 ∧ portSt m' p = { y with refused := 0, blocked := x.again } ∧ (isManager m = false → twiState m = 1 → twiState m' = 2)) ∧
      (16 ≤ x.run + 1 → st = 2 → ∀ e d, admitFail m p l mean = some (e, d) → ∃ m', exec (.linkFrameReceive p t clean b) s = .next { s with m := m' } ∧
        getF m' TWI_PORT_STATE p = 4 ∧ portSt m' p = { y with refused := e })) ∧
    -- reception
    (st ≠ 3 ∨ twiState m < 2 ∨ (twiState m = 8 ∧ m.twi.silent = false) → same (.frameReceive p t last clean b rq an)) ∧
    (portUp m p = true → isManager m = true → twiState m = 6 → getF m TEST_TWI_CFG_SRC ≠ 1 → t / 4 ≤ last →
      (clean = false ∨ frameCrcOk b = false ∨ 1044 < b.length → ∃ m', exec (.frameReceive p t last clean b rq an) s = .next { s with m := m' } ∧
        up TWI_PORT_RX_CRC_CNT m' ∧ getF m' TWI_FLAGS_CRC_ERR = 1 ∧ m'.twi.slots = m.twi.slots ∧ m'.mem = m.mem) ∧
      (clean = true → frameCrcOk b = true → b.length ≤ 1044 → assign m p t ≠ none → ∀ e, rxSlot m p (hdrOf b) b.length = .inl e → slotHandle e = h →
        4 * (recvWindow m e).1 ≤ t → (last : Int) < (recvWindow m e).2 → 2 ≤ (hdrOf b).node → e.kind = 0 ∨ e.kind = 4 ∨ e.kind = 6 → storesSlot m e = true →
        ∃ m', exec (.frameReceive p t last clean b rq an) s = .next { s with m := m' } ∧ up TWI_PORT_RX_GOOD_CNT m' ∧
          slotSt m' h = { q with nxt := some (freeBuf q), isNew := true, got := q.got + 1, nxtHdr := (field b 4 4, field b 3 1, (field b 2 1).testBit 4) } ∧
          (m.memb.flips = [] → m'.mem = (wrBytes m (bufAddr m h (freeBuf q)) (b.take (16 + e.plen)) 8).mem) ∧ m'.out = m.out)) ∧
    -- transmission
    (∀ e, slotOf m h = some e → flipsOf m (schedKey { e with line := lineOf m e.line }) = [] →
      (mayInsert m e = false → same (.slotTransmit h)) ∧
      (mayInsert m e = true → e.kind = 1 ∨ e.kind = 4 ∨ e.kind = 6 → (q.isNew = false ∨ q.nxt = none) →
        (q.cur = none → exec (.slotTransmit h) s = .next { s with m := at' m (m.cyc.start + e.start) }) ∧
        (q.cur ≠ none → modeClass m (twiMode m) = 0 → ∃ m', exec (.slotTransmit h) s = .next { s with m := m' } ∧ getF m' TWI_SLOT_STAT_STALE h = 1 ∧
          slotSt m' h = { q with sentAge := min 255 (q.sentAge + 1), sent := some m.cyc.n })) ∧
      (mayInsert m e = true → e.kind = 1 ∨ e.kind = 4 ∨ e.kind = 6 → q.isNew = true → q.nxt ≠ none → ∃ m', exec (.slotTransmit h) s = .next { s with m := m' } ∧
        slotSt m' h = { q with cur := q.nxt, nxt := none, isNew := false, sentAge := 0, sent := some m.cyc.n } ∧ getF m' TWI_SLOT_STAT_STALE h = 0 ∧
        getF m' TWI_SLOT_STAT_AGE h = 0 ∧ getF m' TWI_SLOT_STAT_EMPTY h = 0 ∧ m'.cyc.now = max m.cyc.now (m.cyc.start + e.start)) ∧
      -- publication and views
      (on → ownsSlot m e = true → ∃ m', exec (.txPublish h) s = .next { s with m := m' } ∧ slotSt m' h = { q with nxt := some (freeBuf q), isNew := true } ∧ m'.mem = m.mem) ∧
      (on → ownsSlot m e = false → exec (.txPublish h) s = .next { s with m := report m E_TWI_BAD_CFG 0 5 10 0x400 }) ∧
      (on → e.kind = 4 ∨ e.kind = 5 ∨ e.kind = 6 → storesSlot m e = true → m.memb.flips = [] → m.memb.poison = [] →
        let y := if q.isNew then { q with cur := q.nxt, nxt := none, isNew := false, curHdr := q.nxtHdr } else q
        let isFresh := y.cur ≠ none ∧ y.curHdr.1 = latestOcc m e % 2 ^ 32
        let latest := latestOcc m e
        let missed (b : Bool) := missedSince y latest b
        let view (b : Bool) (m' : Mach) : Prop := exec (.acquireView h) s = .next { s with m := m' } ∧ m'.mem = m.mem ∧
          slotSt m' h = { y with wasFresh := b, acct := some (max latest (y.acct.getD 0)), got := 0 } ∧
          (missed b = 0 → getF m' TWI_MISS_CNT_CNT = getF m TWI_MISS_CNT_CNT) ∧
          (missed b ≠ 0 → getF m' TWI_FLAGS_MISS = 1 ∧ getF m' TWI_MISS_CNT_CNT = satAdd (2 ^ TWI_MISS_CNT_CNT.w - 1) (getF m TWI_MISS_CNT_CNT) (missed b))
        (isFresh → ∃ m', view true m' ∧ getF m' TWI_SLOT_STAT_EMPTY h = 0 ∧ getF m' TWI_SLOT_STAT_AGE h = y.curHdr.2.1 % 2 ^ TWI_SLOT_STAT_AGE.w) ∧
        (¬ isFresh → ∃ m', view false m' ∧ (y.cur = none ∨ modeClass m (twiMode m) ≠ 0 → getF m' TWI_SLOT_STAT_EMPTY h = 1)))) ∧
    (on → slotOf m h = none → same (.slotTransmit h) ∧ exec (.txPublish h) s = .next { s with m := report m E_TWI_BAD_CFG 0 5 10 0x400 } ∧
      exec (.acquireView h) s = .next { s with m := report m E_TWI_BAD_CFG 0 5 10 0x404 }) ∧
    -- cuts
    (let arrives := portUp m p = true ∧ farPort m p ≠ none ∧ forwards m = true ∧ slotOf m h ≠ none ∧ p * 2048 + h ∉ w.used ∧ ∀ c ∈ w.cuts, c.1 ≠ p * 2048 + h
     (arrives → ∀ own : Bool, ∃ m', exec (if own then .ownInsertionCut p h else .guardianCut p h) s = .next { s with m := m' } ∧
       up TWI_PORT_FWD_CUT_CNT m' ∧ getF m' TWI_FLAGS_FWD_CUT = 1 ∧ m'.twi = { w with cuts := w.cuts ++ [(p * 2048 + h, own)] } ∧ m'.mem = m.mem) ∧
     (¬ arrives → same (.guardianCut p h) ∧ same (.ownInsertionCut p h)))

/-- The network starts, switches modes and loses nodes: NET_START begins training, a LISTEN that times out attempts a cold start, the attempt
makes the manager time master, discovery walks a line, a worker checks its part, and the operational switch begins the exchange; a mode
switch is exchanged once at a time; a node without measurement goes passive and then listens, a worker without its manager stops its axes
(12 R366, R367, R381; 13 R383, R391, R392, R398, R399, R403, R404; 23 R636). -/
def Obligations.TheNetworkStartsAndSwitches : Prop :=
  ∀ (j : Job) (l k t : Nat) (s : State), let m := s.m
    let w := m.twi
    let same (c : Instr) : Prop := exec c s = .next s
    let begun (m' : Mach) (mode : Nat) (start : Bool) (job : Option Compl) : Prop :=
      let gone : Prop := if start then m.cyc.start + 21400 ≤ m.cyc.now else inP4 m = true
      ∃ a, (gone → a = m.cyc.n + 1) ∧ (¬ gone → a = m.cyc.n) ∧ m'.twi.exch = some { m := mode, s := a + 3, a := a, start := start, job := job } ∧
      getF m' TWI_STATUS_EXCH = 1 ∧ getF m' TWI_STATUS_TARGET = mode % 2 ^ TWI_STATUS_TARGET.w ∧ getF m' TWI_MODE_STAT_S = (a + 3) % 2 ^ 32 ∧ m'.mem = m.mem
    (JobRuns 0x0A01 j m →
      (isManager m = false → exec (.netStart j) s = jobFails s 0x0A01 j m E_SYS_ROLE_UNSUPPORTED dTWI) ∧
      (isManager m = true → m.locks.sch = true → twiMode m ≠ 0 → exec (.netStart j) s = jobEnds s 0x0A01 j m 0 m.cyc.n none) ∧
      (isManager m = true → m.locks.sch = true → twiMode m = 0 → w.netJob = none → twiState m = 0 → getF m TIME_CTRL_WAIT_MS = 0 →
        ∃ m', exec (.netStart j) s = .next { s with m := dropFlight m' (asJob 0x0A01 j) } ∧ twiState m' = 1 ∧ (∀ p ∈ twiPorts m, getF m' TWI_PORT_STATE p = 1) ∧
          m'.twi.netJob = some (jcompl (asJob 0x0A01 j) 0 0 none) ∧ m'.twi.started = true ∧ m'.mem = m.mem)) ∧
    (jobWaits m (asJob 0x0A02 j) = false → fetchCheck m (asJob 0x0A02 j).desc = none → j.desc.par 0 = 0 ∨ 8 ≤ j.desc.par 0 →
      exec (.modeSwitch j) s = jobEnds s 0x0A02 j m E_HIF_BAD_PARAM 0 none) ∧
    (JobRuns 0x0A02 j m → let i := j.desc.par 0
      (i < 8 → modeClass m i ≠ 3 → isManager m = true →
        (i = twiMode m → exec (.modeSwitch j) s = jobEnds s 0x0A02 j m 0 (m.cyc.n + 1) (some (m.cyc.n + 1))) ∧
        (i ≠ twiMode m → ∀ x, w.exch = some x → exec (.modeSwitch j) s = jobFails s 0x0A02 j m E_TWI_MODE_BUSY x.m) ∧
        (i ≠ twiMode m → w.exch = none → m.locks.sch = true → ∃ m', exec (.modeSwitch j) s = .next { s with m := dropFlight m' (asJob 0x0A02 j) } ∧
          begun m' i false (some (jcompl (asJob 0x0A02 j) 0 0 none))))) ∧
    (isActive m = false → (blockOn m 10 = true → same (.modeCtrlGo k)) ∧ same .discoveryStart ∧ same .operationalSwitch) ∧
    (isActive m = true →
      (blockOn m 10 = true → k = 0 ∨ 8 ≤ k ∨ modeClass m k = 3 → same (.modeCtrlGo k)) ∧
      (blockOn m 10 = true → k < 8 → modeClass m k ≠ 3 → k ≠ twiMode m → w.exch = none → m.locks.sch = true → ∃ m', exec (.modeCtrlGo k) s = .next { s with m := m' } ∧ begun m' k false none) ∧
      (blockOn m 10 = true → k ≠ 0 → k < 8 → modeClass m k ≠ 3 → k = twiMode m → exec (.modeCtrlGo k) s = .next { s with m := setF m TWI_MODE_CTRL_TARGET 0 k }) ∧
      (twiState m = 5 → servedLines m = [l] → l < 4 → (lineSt m l).step = 0 → getF m TWI_PORT_STATE (2 * l) = 3 → let peer := getF m TWI_PORT_PEER (2 * l)
        (2 ≤ peer → ∃ m', exec .discoveryStart s = .next { s with m := m' } ∧ m'.regs = m.regs ∧
          lineSt m' l = { lineSt m l with step := 1, target := peer, found := [], since := m.cyc.n, pollNode := none, cfgNode := none }) ∧
        (peer < 2 → ∃ m', exec .discoveryStart s = .next { s with m := m' } ∧ lineSt m' l = { lineSt m l with step := 2, found := [], since := m.cyc.n })) ∧
      (twiState m ≠ 5 → same .discoveryStart ∧ same .operationalSwitch) ∧
      (twiState m = 5 → twiMode m = 0 → w.exch = none → m.locks.sch = true → m.mould.config ≠ 3 → (∀ n ∈ servedLines m, (lineSt m n).step = 4) →
        (∀ n ∈ servedLines m, ∀ r ∈ lineWorkers m n, r.node ∈ (lineSt m n).locked) →
        ∃ m', exec .operationalSwitch s = .next { s with m := m' } ∧ begun m' (getF m TWI_SU_CFG_START_MODE) true w.netJob ∧ m'.twi.netJob = none)) ∧
    (w.listenEnd = none ∨ isManager m = false ∨ twiState m ≠ 2 → same .listenTimeout) ∧
    (w.listenEnd = some t → isManager m = true → twiState m = 2 → ∃ m', exec .listenTimeout s = .next { s with m := m' } ∧ twiState m' = 3 ∧
      m'.twi.cold = some (ceilDiv t (cycLen m)) ∧ m'.twi.listenEnd = none ∧ m'.cyc.now = max m.cyc.now t ∧ m'.mem = m.mem) ∧
    (w.cold = none ∨ twiState m ≠ 3 → same .coldStartEnd) ∧
    (w.cold = some t → twiState m = 3 → ∃ m', exec .coldStartEnd s = .next { s with m := m' } ∧ twiState m' = 5 ∧ getF m' TWI_SU_STAT_MASTER = 1 ∧
      getF m' TWI_SU_STAT_REF = nodeId m % 2 ^ TWI_SU_STAT_REF.w ∧ m'.twi.cold = none ∧ m'.cyc.now = max m.cyc.now (t * cycLen m + cycLen m) ∧ m'.mem = m.mem) ∧
    (twiState m = 6 → 4 ≤ w.missMeas → ∃ m', exec .passiveTimeout s = .next { s with m := m' } ∧ twiState m' = 7 ∧ m'.twi.outSince = some m.cyc.n ∧ m'.twi.good = 0 ∧
      getF m' TWI_PASSIVE_CNT_CNT = satAdd (2 ^ TWI_PASSIVE_CNT_CNT.w - 1) (getF m TWI_PASSIVE_CNT_CNT) 1 ∧ m'.mem = m.mem) ∧
    (twiState m ≠ 6 ∨ w.missMeas < 4 → same .passiveTimeout) ∧
    (twiState m = 6 ∨ twiState m = 7 → 16 ≤ w.missMeas → ∃ m', exec .syncLost s = .next { s with m := m' } ∧ twiState m' = 2 ∧ getF m' TWI_SU_STAT_REF = 0x3F ∧
      m'.twi.missMeas = 0 ∧ m'.twi.silent = true ∧ m'.mem = m.mem) ∧
    ((twiState m ≠ 6 ∧ twiState m ≠ 7) ∨ w.missMeas < 16 → same .syncLost) ∧
    (isManager m = true ∨ w.part.st ≠ 1 → same .configPartCheck) ∧
    (isManager m = false → w.part.st = 1 → let p := w.part
      let put (m1 : Mach) (st code : Nat) : Mach := { m1 with twi := { m1.twi with part := { p with st := st, code := code, detail := 0 } } }
      (p.bytes.length ≠ p.total ∨ crc32 p.bytes ≠ p.crc → exec .configPartCheck s = .next { s with m := put m 3 E_SYS_MODEL_FORMAT }) ∧
      (p.bytes.length = p.total → crc32 p.bytes = p.crc → sget w.tables 0 [] = [] → ∀ m1, loadImage (field p.bytes 20 4) p.bytes m = (m1, none) →
        exec .configPartCheck s = .next { s with m := put (setLocks 7 m1).1 (if (setLocks 7 m1).2 = 0 then 2 else 3) (setLocks 7 m1).2 })) ∧
    (isManager m = true ∨ getF m SYS_MGR_STAT_MISS_RUN < 3 ∨ getF m SYS_MGR_STAT_LOST = 1 → same .managerLost) ∧
    (isManager m = false → getF m SYS_MGR_STAT_MISS_RUN = 3 → getF m SYS_MGR_STAT_LOST = 0 →
      ∃ m1, exec .managerLost s = .next { s with m := (bitsOf 16 (getF m AXL_SUMMARY_ENABLED)).foldl (fun m n => localStop m n 1) m1 } ∧
        getF m1 SYS_MGR_STAT_LOST = 1 ∧ getF m1 SYS_FLAGS_MGR_LOST = 1 ∧ m1.reacts = m.reacts ∧ m1.mem = m.mem ∧ m1.axl = m.axl)

/-- The pair link and its frames. The link is admitted on both lanes within the skew and lost with a lane or its heartbeat; a frame with a wrong
CRC, or without an admitted link, brings nothing. HEARTBEAT frames carry role, acknowledgement and locks, and the active manager's without a swap ends the standby's; inputs wait at the standby; its
snapshot takes limits and M_p from the frame or, without one, is noted as missing; the digest is compared; the mirror waits for the own
commit; time is stepped once and then corrected by rate (17 R489 to R501). Roles of the pair: resolution, resynchronisation and swaps. The
role follows the partner's and the rank; a phase of RESYNC whose work is done goes on, a failure isolates the manager; a swap is taken where
its conditions hold and none is pending, else refused or deferred (17 R493, R502, R510, R511). A SerDes PLL that loses lock takes its ports
or the pair link down; locked again they train (23 R633). -/
def Obligations.PairFramesAndRoles : Prop :=
  (∀ (t q l k : Nat) (f : HbFrame) (x : PairInput) (sf : SnapFrame) (mf : MirrorFrame) (c : BulkContent) (u v : List Nat) (s : State), let m := s.m
    let d := m.duo
    let role := getF m PAIR_STAT_ROLE
    let same (c : Instr) : Prop := exec c s = .next s
    let set (c : Instr) (d' : DuoSt) : Prop := exec c s = .next { s with m := { m with duo := d' } }
    let on := domOn m dPAIR = true
    let up := getF m PAIR_STAT_LINK_UP = 1
    let fresh := d.got = 0 ∨ seqLe q d.got = false
    let lost (m' : Mach) : Prop := getF m' PAIR_STAT_PAIR_HB = 0 ∧ m'.duo.run = 0 ∧ m'.mem = m.mem ∧ (getF m PAIR_STAT_PAIR_HB = 1 → getF m' PAIR_FLAGS_HB_LOST = 1 ∧
      249 ∈ m'.intc.pend ∧ getF m' PAIR_HB_MISS_CNT_CNT = satAdd (2 ^ PAIR_HB_MISS_CNT_CNT.w - 1) (getF m PAIR_HB_MISS_CNT_CNT) 1)
    -- the link
    (isManager m = false ∨ ¬ on → same (.pairLinkAdmit k) ∧ same (.heartbeatSend t)) ∧
    (isManager m = true → on → ∃ m', exec (.pairLinkAdmit k) s = .next { s with m := m' } ∧ getF m' PAIR_LINK_LOCK = 3 ∧ getF m' PAIR_LINK_SKEW = min 255 k ∧
      (k ≤ 51 → getF m' PAIR_STAT_LINK_UP = 1) ∧ (51 < k → getF m' PAIR_STAT_LINK_UP = getF m PAIR_STAT_LINK_UP) ∧ m'.duo = d) ∧
    (2 ≤ l ∨ (getF m PAIR_LINK_LOCK).testBit l = false → same (.blockLockLoss l)) ∧
    (l < 2 → (getF m PAIR_LINK_LOCK).testBit l = true → role ≠ 7 → ∃ m', exec (.blockLockLoss l) s = .next { s with m := m' } ∧
      (getF m' PAIR_LINK_LOCK).testBit l = false ∧ getF m' PAIR_STAT_LINK_UP = 0 ∧ lost m') ∧
    (role ≠ 7 → ∃ m', exec .pairHeartbeatLost s = .next { s with m := m' } ∧ lost m') ∧
    -- frames that bring nothing
    (¬ up ∨ ¬ on → ∀ b, same (.inputReceive b q x) ∧ same (.snapshotReceive b sf) ∧ same (.digestReceive b u v) ∧ same (.mirrorReceive b mf) ∧
      same (.timeReceive b t k) ∧ same (.bulkReceive b q c)) ∧
    (up → on → let bad := setF m PAIR_LINK_CRC_CNT 0 (satAdd (2 ^ PAIR_LINK_CRC_CNT.w - 1) (getF m PAIR_LINK_CRC_CNT) 1)
      ∀ i, i = Instr.inputReceive false q x ∨ i = .snapshotReceive false sf ∨ i = .digestReceive false u v ∨ i = .mirrorReceive false mf ∨
        i = .timeReceive false t k ∨ i = .bulkReceive false q c → exec i s = .next { s with m := bad }) ∧
    -- heartbeats
    (isManager m = true → on → up → ∃ m' g, exec (.heartbeatSend t) s = .next { s with m := m' } ∧
      m'.duo.tx = d.tx ++ [((d.seq + 1) % 2 ^ 32, m.cyc.n % 2 ^ 32, .heartbeat g)] ∧ g.role = role ∧ g.ack = d.got ∧ g.locks = lockWord m.locks ∧
      g.tx = 4 * max m.cyc.now t ∧ m'.duo.seq = (d.seq + 1) % 2 ^ 32 ∧ m'.regs = m.regs ∧ m'.mem = m.mem) ∧
    (on → up → role = 2 → d.ins = [] → ∃ m', exec (.heartbeatReceive true f t) s = .next { s with m := m' } ∧ getF m' PAIR_STAT_PARTNER = f.role % 8 ∧ m'.duo.run = d.run + 1 ∧
      m'.duo.echo = (f.tx, t) ∧ (15 ≤ d.run → getF m' PAIR_STAT_PAIR_HB = 1) ∧ m'.cyc.now = max m.cyc.now (t / 4) ∧ m'.mem = m.mem ∧
      m'.duo.swapA = if f.role = 1 ∧ f.swapAt = none then none else d.swapA) ∧
    (on → up → role = 4 ∨ role = 6 → f.role = 1 ∨ f.role = 3 → d.swapA = none → d.want = false → ∃ m', exec (.heartbeatReceive true f t) s = .next { s with m := m' } ∧
      getF m' PAIR_STAT_ROLE = 7 ∧ getF m' PAIR_STAT_RESYNC_PHASE = 1) ∧
    (on → up → ∃ m', exec (.heartbeatReceive false f t) s = .next { s with m := m' } ∧ m'.duo.run = 0 ∧
      getF m' PAIR_LINK_CRC_CNT = satAdd (2 ^ PAIR_LINK_CRC_CNT.w - 1) (getF m PAIR_LINK_CRC_CNT) 1 ∧ m'.mem = m.mem) ∧
    -- inputs and bulk content at the standby
    (on → up → isStandby m = true → fresh →
      (d.inbox = [] → ∃ m', exec (.inputReceive true q x) s = .next { s with m := m' } ∧ m'.duo.inbox = [inputOf q x] ∧ m'.duo.got = q ∧ 250 ∈ m'.intc.pend ∧ m'.mem = m.mem) ∧
      (∃ m', exec (.bulkReceive true q (.image t k u)) s = .next { s with m := m' } ∧ m'.duo.bulkTotal = t ∧
        m'.duo.bulk = d.bulk.filter (fun p => p.1 != k) ++ [(k, u)] ∧ m'.duo.got = q ∧ 250 ∈ m'.intc.pend ∧ m'.mem = m.mem) ∧
      (m.memb.flips = [] → ∃ m', exec (.bulkReceive true q (.memory k u)) s = .next { s with m := m' } ∧ m'.mem = (wrBytes m k u 11).mem ∧ m'.duo.got = q)) ∧
    (on → up → (isStandby m = false ∧ role ≠ 7) ∨ (d.got ≠ 0 ∧ seqLe q d.got = true) → same (.inputReceive true q x) ∧ same (.bulkReceive true q c)) ∧
    (∀ y ∈ d.ins, ∀ j, y.seq = q → y.job = some j → d.ins = [y] → exec (.inputMirrorTimeout q) s =
      .next { s with m := settleDeletes (addCompl { m with duo := { d with ins := [] } } (failCompl (jcompl j 0 0 none) E_PAIR_NOT_MIRRORED q)) }) ∧
    ((∀ y ∈ d.ins, y.seq ≠ q ∨ y.job = none) → same (.inputMirrorTimeout q)) ∧
    (up → d.acked = 0 → ∀ n g r, d.tx = (q, n, .input g) :: r → set (.pairRetransmitTimeout q) { d with tx := d.tx ++ [(q, m.cyc.n % 2 ^ 32, .input g)] }) ∧
    (¬ up → same (.pairRetransmitTimeout q)) ∧
    -- snapshot, digest, mirror, time
    (on → up → snapDue m = false → same (.snapshotReceive true sf)) ∧
    (on → up → snapDue m = true → d.inbox = [] → sf.ovr = [] → ∃ m1, exec (.snapshotReceive true sf) s = .next { s with m := snapOpen m1 } ∧
      m1.duo = { d with limits := some sf.limits, mps := sf.mps, samples := sf.samples, baseY := sf.y } ∧ getF m1 TIME_CTRL_SEL = sf.dom % 2 ^ TIME_CTRL_SEL.w ∧
      getF m1 TIME_STAT_FIRST_LOCK = b2n sf.first ∧ m1.mem = m.mem) ∧
    (followsPartner m = false ∨ m.cyc.skip = true ∨ m.cyc.snapped = true → same .snapshotTimeout) ∧
    (followsPartner m = true → m.cyc.skip = false → m.cyc.snapped = false → ∃ m1, exec .snapshotTimeout s = .next { s with m := snapOpen m1 } ∧
      m1.duo = { d with limits := none, mps := [], samples := [] } ∧ getF m1 PAIR_FLAGS_MIRROR_MISSING = 1 ∧
      getF m1 PAIR_MIRROR_MISS_CNT_CNT = satAdd (2 ^ PAIR_MIRROR_MISS_CNT_CNT.w - 1) (getF m PAIR_MIRROR_MISS_CNT_CNT) 1 ∧
      m1.cyc.now = max m.cyc.now (m.cyc.start + nth (plan m) 1 + 1600) ∧ m1.mem = m.mem) ∧
    (on → up →
      (role ≠ 1 → same (.digestReceive true u v)) ∧
      (role = 1 → padTo 32 u = (digestOf m).1 → padTo 64 v = (digestOf m).2 → set (.digestReceive true u v) { d with digGot := true }) ∧
      (role = 1 → padTo 32 u ≠ (digestOf m).1 ∨ padTo 64 v ≠ (digestOf m).2 → ∃ m', exec (.digestReceive true u v) s = .next { s with m := m' } ∧
        getF m' PAIR_FLAGS_DIGEST = 1 ∧ m'.duo = { d with digGot := true } ∧ m'.mem = m.mem) ∧
      (followsPartner m = false ∨ mf.cycle ≠ m.cyc.n % 2 ^ 32 ∨ d.mirGot = true → same (.mirrorReceive true mf)) ∧
      (followsPartner m = true → mf.cycle = m.cyc.n % 2 ^ 32 → d.mirGot = false → m.cyc.committed = false → ∃ m', exec (.mirrorReceive true mf) s = .next { s with m := m' } ∧
        m'.duo = { d with mir := some mf, mirGot := true } ∧ getF m' PAIR_MIRROR_CYC_CYC = mf.cycle ∧ m'.mem = m.mem) ∧
      (role ≠ 2 → role ≠ 7 → same (.timeReceive true t k)) ∧
      (let dq : Int := 4 * (t : Int) + d.dly - k
       role = 2 →
        (d.aligned = true → let y := d.baseY + clampI (-duoRateMax) duoRateMax (roundDiv (dq * 2 ^ 32) (4 * cycLen m))
          exec (.timeReceive true t k) s = .next { s with m := { at' m (k / 4) with time := { m.time with yNext := some y } } }) ∧
        (d.aligned = false → anyEnabled m = false → ∃ m', exec (.timeReceive true t k) s = .next { s with m := m' } ∧ m'.duo.aligned = true ∧
          m'.cyc.now = (max 0 ((max m.cyc.now (k / 4) : Nat) + roundDiv dq 4)).toNat)))) ∧
  (∀ (j : Job) (k code : Nat) (late : Bool) (s : State), let m := s.m
    let d := m.duo
    let role := getF m PAIR_STAT_ROLE
    let p := getF m PAIR_STAT_PARTNER
    let same (c : Instr) : Prop := exec c s = .next s
    let link := getF m PAIR_STAT_LINK_UP = 1
    let quiet := d.swapA = none ∧ d.want = false
    let a := if m.cyc.committed then m.cyc.n + 1 else m.cyc.n
    let taken (m' : Mach) (job : Option Compl) : Prop := m'.duo = { d with swapA := some a, confirmed := false, job := job, deferred := none } ∧
      getF m' PAIR_STAT_SWAP_PEND = 1 ∧ getF m' PAIR_SWAP_AT_S = (a + 2) % 2 ^ 32 ∧ m'.mem = m.mem
    -- roles
    (isManager m = false ∨ role ≠ 0 → same (.roleResolve late)) ∧
    (isManager m = true → domOn m dPAIR = true → role = 0 → (m.mould.loaded = true → m.mould.config = 3) → quiet →
      (link → 0 < d.run → p = 1 ∨ p = 3 → ∃ m', exec (.roleResolve late) s = .next { s with m := m' } ∧ getF m' PAIR_STAT_ROLE = 7 ∧ getF m' PAIR_STAT_RESYNC_PHASE = 1 ∧
        248 ∈ m'.intc.pend ∧ m'.mem = m.mem) ∧
      (link → 0 < d.run → p = 0 → ∃ m', exec (.roleResolve late) s = .next { s with m := m' } ∧ getF m' PAIR_STAT_ROLE = 1 + nodeId m % 2 ∧ 248 ∈ m'.intc.pend ∧ m'.mem = m.mem) ∧
      (¬ link → getF m TWI_SU_STAT_MASTER = 1 → ∃ m', exec (.roleResolve true) s = .next { s with m := m' } ∧ getF m' PAIR_STAT_ROLE = 3 ∧ 248 ∈ m'.intc.pend ∧ m'.mem = m.mem) ∧
      (¬ link → same (.roleResolve false))) ∧
    -- RESYNC
    (role ≠ 7 → ∀ ok, same (.resyncPhaseDone ok code)) ∧
    (role = 7 →
      (quiet → ∃ m', exec (.resyncPhaseDone false code) s = .next { s with m := m' } ∧ getF m' PAIR_STAT_ROLE = 6 ∧ getF m' PAIR_STAT_RESYNC_PHASE = 0 ∧ twiState m' = 9) ∧
      (phaseOfResync m = 1 → getF m PAIR_STAT_PAIR_HB = 1 → exec (.resyncPhaseDone true code) s = .next { s with m := setF m PAIR_STAT_RESYNC_PHASE 0 2 }) ∧
      (phaseOfResync m = 2 → d.aligned = true → exec (.resyncPhaseDone true code) s = .next { s with m := setF m PAIR_STAT_RESYNC_PHASE 0 3 }) ∧
      (phaseOfResync m = 6 → getF m PAIR_STAT_CLEAN = 1 → quiet → ∃ m', exec (.resyncPhaseDone true code) s = .next { s with m := m' } ∧
        getF m' PAIR_STAT_ROLE = 2 ∧ getF m' PAIR_STAT_RESYNC_PHASE = 0) ∧
      (phaseOfResync m = 1 → getF m PAIR_STAT_PAIR_HB = 0 → same (.resyncPhaseDone true code))) ∧
    -- swaps
    (jobWaits m (asJob 0x0E01 j) = false → descCheck m (asJob 0x0E01 j).desc = none →
      (∀ c, swapCause m = some c → exec (.pairSwap j) s = jobFails s 0x0E01 j m E_PAIR_SWAP_REFUSED c) ∧
      (swapCause m = none → ¬ quiet → exec (.pairSwap j) s = jobFails s 0x0E01 j m E_PAIR_SWAP_BUSY (getF m PAIR_SWAP_AT_S)) ∧
      (swapCause m = none → quiet → role = 1 → ∃ m', exec (.pairSwap j) s = .next { s with m := dropFlight m' (asJob 0x0E01 j) } ∧
        taken m' (some (jcompl (asJob 0x0E01 j) 0 0 none)))) ∧
    (inPair m = true → blockOn m 14 = true →
      (swapCause m = none → quiet → role = 1 → ∃ m', exec .pairCtrlSwap s = .next { s with m := m' } ∧ taken m' none) ∧
      (swapCause m ≠ none ∨ ¬ quiet → same .pairCtrlSwap)) ∧
    (inPair m = false ∨ getF m PAIR_CFG_SWAP_PER = 0 ∨ ¬ quiet → same .swapPeriodExpiry) ∧
    (inPair m = true → getF m PAIR_CFG_SWAP_PER ≠ 0 → quiet → role = 1 →
      (swapCause m = none → ∃ m', exec .swapPeriodExpiry s = .next { s with m := m' } ∧ taken m' none) ∧
      (∀ c, swapCause m = some c → d.deferred = none → ∃ m', exec .swapPeriodExpiry s = .next { s with m := m' } ∧ m'.duo = { d with deferred := some m.cyc.n } ∧ m'.mem = m.mem)) ∧
    -- SerDes clocks
    (2 ≤ k → same (.serdesPllLockLoss k) ∧ same (.serdesPllRelock k)) ∧
    (getF m SYS_CLK_STAT_TWI_LOCK = 1 → ∃ m', exec (.serdesPllLockLoss 0) s = .next { s with m := m' } ∧ getF m' SYS_CLK_STAT_TWI_LOCK = 0 ∧
      (∀ i < 8, getF m' TWI_PORT_STATE i = 0) ∧ m'.mem = m.mem) ∧
    (getF m SYS_CLK_STAT_TWI_LOCK = 0 → same (.serdesPllLockLoss 0)) ∧
    (getF m SYS_CLK_STAT_PAIR_LOCK = 1 → role ≠ 7 → ∃ m', exec (.serdesPllLockLoss 1) s = .next { s with m := m' } ∧ getF m' SYS_CLK_STAT_PAIR_LOCK = 0 ∧
      getF m' PAIR_LINK_LOCK = 0 ∧ getF m' PAIR_STAT_LINK_UP = 0 ∧ getF m' PAIR_STAT_PAIR_HB = 0 ∧ m'.duo.run = 0 ∧ m'.mem = m.mem) ∧
    (getF m SYS_CLK_STAT_TWI_LOCK = 0 → m.sys.inReset = false → ∃ m', exec (.serdesPllRelock 0) s = .next { s with m := m' } ∧ getF m' SYS_CLK_STAT_TWI_LOCK = 1 ∧
      (m.twi.started = true → m.sys.clamp = false → ∀ i ∈ twiPorts m, getF m' TWI_PORT_STATE i = 1) ∧ m'.mem = m.mem) ∧
    (m.sys.inReset = false → exec (.serdesPllRelock 1) s = .next { s with m := setF m SYS_CLK_STAT_PAIR_LOCK 0 1 }))

/-- MODEL_LOAD puts an image that passes every check into force, and ends with the status of the first check it fails; MODEL_READ gives a section
back, LIMITS, SCHEDULE and LOOPS with the values in force, and nothing of one that reads poisoned; a model that says AUTO sets the locks and
starts the network; a worker that may be in a network trains once its firmware runs (the model's choice, entry 121). A limit input is accepted
after FILT, raises its source and clamps its direction at the measured position; released, the clamp goes (04 R117, R124, R126, 08 R260 to R262,
13 R405). -/
def Obligations.ModelsLoadAndLimitsClamp : Prop :=
  ∀ (j : Job) (n held : Nat) (neg level : Bool) (s : State), let m := s.m
    let img := padTo j.desc.dataLen j.data
    let acc := acceptedSet m
    (JobRuns 0x0010 j m →
      (m.locks.cfg = true ∨ anyEnabled m = true ∨ getF m TWI_STATUS_MODE ≠ 0 → exec (.modelLoad j) s = jobEnds s 0x0010 j m E_SYS_MODEL_BUSY 0xFFFFFFFF none) ∧
      (m.locks.cfg = false → anyEnabled m = false → getF m TWI_STATUS_MODE = 0 → let r := loadImage acc img m
        (imageFail (discardModel m) acc img = none → exec (.modelLoad j) s = jobEnds s 0x0010 j r.1 0 (field img 12 4) none ∧
          r.1.mould.loaded = true ∧ r.1.mould.image = img ∧ r.1.mould.modelId = field img 12 4 ∧ r.1.locks = m.locks) ∧
        (∀ code sc idx, imageFail (discardModel m) acc img = some (code, sc, idx) → exec (.modelLoad j) s = jobEnds s 0x0010 j r.1 code 0xFFFFFFFF none ∧
          r.1 = logNode (discardModel m) code (idx % 2 ^ 24 + sc % 256 * 2 ^ 24)))) ∧
    (jobWaits m (asJob 0x0011 j) = false → fetchCheck m (asJob 0x0011 j).desc = none → j.desc.par 0 = 0 ∨ 14 < j.desc.par 0 →
      exec (.modelRead j) s = jobEnds s 0x0011 j m E_HIF_BAD_PARAM 0 none) ∧
    (JobRuns 0x0011 j m → let id := j.desc.par 0
      (1 ≤ id → id ≤ 14 → m.mould.loaded = false → exec (.modelRead j) s = jobEnds s 0x0011 j m E_SYS_NO_MODEL 0xFFFFFFFF none) ∧
      (1 ≤ id → id ≤ 14 → m.mould.loaded = true → secOf m.mould.image id = none → exec (.modelRead j) s = jobEnds s 0x0011 j m 0 0 none) ∧
      (m.mould.loaded = true → secOf m.mould.image id ≠ none →
        let back (l : List Nat) : Prop := exec (.modelRead j) s = jobEnds s 0x0011 j (putsOut m j l) 0 (min j.desc.dataLen l.length) none
        (id = 12 → back ((limitsRaw m.mould.image).flatMap (recInForce m 8 pwrRecordOffs))) ∧
        (id = 13 → back (schedInForce m m.mould.image)) ∧
        (id = 14 → back ((loopsRaw m.mould.image).flatMap (recInForce m 7 axlRecordOffs)))) ∧
      (1 ≤ id → id ≤ 11 → m.mould.loaded = true →
        (∀ e, secOf m.mould.image id ≠ none → (secTable m.mould.image).find? (fun e => e.id == id) = some e → m.memb.flips = [] →
          let a := 0x10000000 + e.off
          let len := min e.len j.desc.dataLen
          (m.memb.poison = [] → exec (.modelRead j) s = jobEnds s 0x0011 j (putsOut m j (rdBytes m a e.len)) 0 (min j.desc.dataLen e.len) none) ∧
          (poisoned m a len = true → ∃ m', exec (.modelRead j) s = jobFails s 0x0011 j m' E_MEM_POISON_READ (poisonAt m a len) ∧
            m'.out.host = m.out.host ∧ m'.mem = m.mem)))) ∧
    (let auto := isManager m = true ∧ m.mould.loaded = true ∧ getF m TWI_SU_CFG_AUTO = 1
     let r := setLocks 7 m
     let trains := isManager m = false ∧ blockOn m 10 = true ∧ getF m SYS_BOOT_STAT_PHASE = 4 ∧ ¬ (m.mould.loaded = true ∧ m.mould.config = 0)
     (¬ auto → ¬ trains → exec .autoStart s = .next s) ∧ (trains → exec .autoStart s = .next { s with m := netBegin m }) ∧ (auto → r.2 ≠ 0 → exec .autoStart s = .next { s with m := r.1 }) ∧
     (auto → r.2 = 0 → exec .autoStart s = .next { s with m := netBegin r.1 } ∧
       (twiState r.1 = 0 → getF r.1 TIME_CTRL_WAIT_MS = 0 → twiState (netBegin r.1) = 1 ∧ ∀ p ∈ twiPorts r.1, getF (netBegin r.1) TWI_PORT_STATE p = 1))) ∧
    (16 ≤ n ∨ blockOn m 7 = false → exec (.limitInputChange n neg level held) s = .next s) ∧
    (n < 16 → blockOn m 7 = true → let l := sget m.lims n {}
      let raw := if neg then { l with rawN := level } else { l with rawP := level }
      let mode := getF m (if neg then RUN_LIM_CFG_N_MODE else RUN_LIM_CFG_P_MODE) n
      let act := level != (getF m (if neg then RUN_LIM_CFG_N_POL else RUN_LIM_CFG_P_POL) n == 1)
      let st := if neg then RUN_LIM_STAT_N_ACT else RUN_LIM_STAT_P_ACT
      let other := if neg then RUN_LIM_STAT_P_ACT else RUN_LIM_STAT_N_ACT
      let was := (getF m st).testBit n
      let d : Int := if mode = 2 then getF m RUN_LIM_MARGIN_MARGIN n else 0
      let p := measuredPos m n
      (mode = 0 ∨ held < getF m RUN_LIM_CFG_FILT n ∨ act = was → ∃ m', exec (.limitInputChange n neg level held) s = .next { s with m := m' } ∧
        m'.lims = sput m.lims n raw {} ∧ m'.regs = m.regs ∧ m'.mem = m.mem ∧ m'.hif = m.hif ∧ m'.intc = m.intc ∧ m'.out = m.out ∧ m'.cyc = m.cyc) ∧
      (mode ≠ 0 → getF m RUN_LIM_CFG_FILT n ≤ held → getF m RUN_LIM_CFG_ALT n = 0 → act ≠ was → (getF m other).testBit n = false →
        ∃ m', exec (.limitInputChange n neg level held) s = .next { s with m := m' } ∧ (getF m' st).testBit n = act ∧ 192 + n ∈ m'.intc.pend ∧ m'.mem = m.mem ∧
          (act = true → sget m'.lims n {} = if neg then { raw with neg := some (p - d) } else { raw with pos := some (p + d) }) ∧
          (act = false → sget m'.lims n {} = { raw with neg := if neg then none else raw.neg, pos := if neg then raw.pos else none, said := false, both := none })) ∧
      (mode ≠ 0 → getF m RUN_LIM_CFG_FILT n ≤ held → getF m RUN_LIM_CFG_ALT n = 0 → act = true → was = false → (getF m other).testBit n = true →
        ∃ m', exec (.limitInputChange n neg level held) s = .next { s with m := m' } ∧ (getF m' st).testBit n = true ∧ m'.mem = m.mem ∧
          sget m'.lims n {} = if neg then { raw with neg := some (p - d), both := some p } else { raw with pos := some (p + d), both := some p }))

/-- One step takes the command at the front of the queue and answers what exec answers for it with the queue's rest; an empty queue idles, which
is the model's choice (entry 1). -/
def Obligations.AStepRunsTheFrontCommand : Prop :=
  (∀ (c : Instr) (s : State), step { s with pending := c :: s.pending } = exec c s) ∧ ∀ s : State, s.pending = [] → step s = .next s

/-- What reset leaves: every register field at the reset value of its table, written or in force, no model, no lock, the Safety Island before
its self-test, cell time 0, nothing pending, an empty queue, and a well-formed machine (00 R12, 04 R125, 15 R436, 21 R591, 23 R614). -/
def Obligations.ResetLeavesTheStatedState : Prop :=
  let m := State.reset.m
  State.reset.pending = [] ∧ Memory.wf m.mem = true ∧ CoresWf m ∧ m.mould.loaded = false ∧ m.locks = {} ∧ m.intc.pend = [] ∧ m.safe.st = 0 ∧
    m.cyc.now = 0 ∧ m.reacts = [] ∧ m.ladle.items = [] ∧ m.out.frames = [] ∧
    (∀ blk, blk < 17 → ∀ f ∈ fieldsOf blk, ∀ i, i < f.n → getF m f i = f.rst i ∧ f.rst i < 2 ^ f.w ∧ getV m f i = f.rst i)

/-- Every step of every state answers a next state and takes exactly the front command off the queue: what waits behind it keeps its order,
nothing is added, and a queue of n commands is empty after n steps, from where on the block idles. -/
def Obligations.TheQueueDrainsInOrder : Prop :=
  (∀ s : State, ∃ t, step s = .next t ∧ t.pending = s.pending.tail) ∧
  (∀ (n : Nat) (s : State), SafeRun n s) ∧
  ∀ s : State, ∃ r : Nat → State, r 0 = s ∧ (∀ n, step (r n) = .next (r (n + 1)) ∧ (r n).pending = s.pending.drop n) ∧
    ∀ n, s.pending.length ≤ n → r n = r s.pending.length

/-- Every core's registers stay well-formed through any step in which a core that is ready carries out one of the instructions that touch its
own registers alone: every accumulator part stays in the 80-bit range, x0 stays unwritten, and the register lists stay in canonical form.
Such a step of a pool core leaves everything but that core alone (19 R535, R539 to R544, R552, R553). -/
def Obligations.CoreRegistersStayWellFormed : Prop :=
  ∀ (c : Instr) (s t : State), registerOnly c = true → s.pending.head? = some c → CoreReady s.m (coreOfInstr c) → step s = .next t →
    (CoresWf s.m → CoresWf t.m) ∧
    (coreOfInstr c ≠ 32 → { t.m with cores := s.m.cores } = s.m ∧ ∀ d, d ≠ coreOfInstr c → coreSt t.m d = coreSt s.m d)

end
end

