-- ==== Sys2Proof/Laws/State.lean ====
section
/-! SUPPORT. Sparse data, memory and the record updates of the state: what a read gives after a write, and that writes keep the
canonical form. -/

namespace Sys2Proof.Machine

/-! ## Sparse data -/

/-- A key that has been dropped reads as the default. -/
@[simp] theorem sget_sdel_self {α : Type} (l : Sparse α) (k : Nat) (d : α) : sget (sdel l k) k d = d := by
  induction l with
  | nil => rfl
  | cons e r ih =>
    obtain ⟨a, u⟩ := e
    by_cases h : a = k
    · simp [sdel, h, ih]
    · simp [sdel, sget, h, ih]

/-- Dropping a key leaves the others. -/
theorem sget_sdel_ne {α : Type} (l : Sparse α) {j k : Nat} (d : α) (h : j ≠ k) : sget (sdel l k) j d = sget l j d := by
  induction l with
  | nil => rfl
  | cons e r ih =>
    obtain ⟨a, u⟩ := e
    by_cases ha : a = k
    · have : a ≠ j := by omega
      simp [sdel, sget, ha, ih, show k ≠ j by omega]
    · simp [sdel, sget, ha, ih]

/-- A key that has been listed reads as its value. -/
@[simp] theorem sget_sins_self {α : Type} (l : Sparse α) (k : Nat) (v d : α) : sget (sins l k v) k d = v := by
  induction l with
  | nil => simp [sins, sget]
  | cons e r ih =>
    obtain ⟨a, u⟩ := e
    unfold sins
    split
    · simp [sget]
    · split
      · simp [sget]
      · rename_i h; simp [sget, h, ih]

/-- Listing a key leaves the others. -/
theorem sget_sins_ne {α : Type} (l : Sparse α) {j k : Nat} (v d : α) (h : j ≠ k) : sget (sins l k v) j d = sget l j d := by
  have h' : k ≠ j := fun e => h e.symm
  induction l with
  | nil => simp [sins, sget, h']
  | cons e r ih =>
    obtain ⟨a, u⟩ := e
    unfold sins
    split
    · simp [sget, h']
    · split
      · rename_i ha; subst ha; simp [sget, h']
      · simp [sget, ih]

/-- A write reads back. -/
@[simp] theorem sget_sput_self {α : Type} [DecidableEq α] (l : Sparse α) (k : Nat) (v d : α) : sget (sput l k v d) k d = v := by
  unfold sput
  split
  · rename_i h; simp [h]
  · simp

/-- A write leaves every other key. -/
theorem sget_sput_ne {α : Type} [DecidableEq α] (l : Sparse α) {j k : Nat} (v d : α) (h : j ≠ k) :
    sget (sput l k v d) j d = sget l j d := by
  unfold sput
  split
  · exact sget_sdel_ne l d h
  · exact sget_sins_ne l v d h

/-- Keys rise strictly when they do in the tail and the head's lies below every key of the tail. -/
theorem sortedKeys_cons {α : Type} (e : Nat × α) (r : Sparse α) :
    sortedKeys (e :: r) = true ↔ (∀ x ∈ r, e.1 < x.1) ∧ sortedKeys r = true := by
  induction r generalizing e with
  | nil => simp [sortedKeys]
  | cons y r ih =>
    obtain ⟨a, u⟩ := e
    obtain ⟨b, w⟩ := y
    have hy := ih (b, w)
    simp only [sortedKeys, Bool.and_eq_true, decide_eq_true_eq]
    constructor
    · rintro ⟨hab, hs⟩
      refine ⟨?_, hs⟩
      intro x hx
      rcases List.mem_cons.1 hx with rfl | hx
      · exact hab
      · exact lt_trans hab ((hy.1 hs).1 x hx)
    · rintro ⟨hlt, hs⟩
      exact ⟨hlt _ (List.mem_cons_self ..), hs⟩

/-- What remains after a key is dropped was there before. -/
theorem mem_sdel {α : Type} {l : Sparse α} {k : Nat} {x : Nat × α} (h : x ∈ sdel l k) : x ∈ l := by
  induction l with
  | nil => exact h
  | cons e r ih =>
    obtain ⟨a, u⟩ := e
    unfold sdel at h
    split at h
    · exact List.mem_cons_of_mem _ (ih h)
    · rcases List.mem_cons.1 h with rfl | h
      · exact List.mem_cons_self ..
      · exact List.mem_cons_of_mem _ (ih h)

/-- What is listed after a key has been listed was there before, or is the new entry. -/
theorem mem_sins {α : Type} {l : Sparse α} {k : Nat} {v : α} {x : Nat × α} (h : x ∈ sins l k v) : x = (k, v) ∨ x ∈ l := by
  induction l with
  | nil => exact .inl (by simpa [sins] using h)
  | cons e r ih =>
    obtain ⟨a, u⟩ := e
    unfold sins at h
    split at h
    · rcases List.mem_cons.1 h with h | h
      · exact .inl h
      · exact .inr h
    · split at h
      · rcases List.mem_cons.1 h with h | h
        · exact .inl h
        · exact .inr (List.mem_cons_of_mem _ h)
      · rcases List.mem_cons.1 h with rfl | h
        · exact .inr (List.mem_cons_self ..)
        · rcases ih h with h | h
          · exact .inl h
          · exact .inr (List.mem_cons_of_mem _ h)

/-- Dropping a key keeps the order of keys. -/
theorem sortedKeys_sdel {α : Type} {l : Sparse α} (k : Nat) (h : sortedKeys l = true) : sortedKeys (sdel l k) = true := by
  induction l with
  | nil => rfl
  | cons e r ih =>
    obtain ⟨a, u⟩ := e
    obtain ⟨hlt, hs⟩ := (sortedKeys_cons _ _).1 h
    unfold sdel
    split
    · exact ih hs
    · exact (sortedKeys_cons _ _).2 ⟨fun x hx => hlt x (mem_sdel hx), ih hs⟩

/-- Listing a key keeps the order of keys. -/
theorem sortedKeys_sins {α : Type} {l : Sparse α} (k : Nat) (v : α) (h : sortedKeys l = true) : sortedKeys (sins l k v) = true := by
  induction l with
  | nil => rfl
  | cons e r ih =>
    obtain ⟨a, u⟩ := e
    obtain ⟨hlt, hs⟩ := (sortedKeys_cons _ _).1 h
    unfold sins
    split
    · rename_i hk
      refine (sortedKeys_cons _ _).2 ⟨fun x hx => ?_, h⟩
      rcases List.mem_cons.1 hx with rfl | hx
      · exact hk
      · exact lt_trans hk (hlt x hx)
    · split
      · rename_i hk
        subst hk
        exact (sortedKeys_cons _ _).2 ⟨fun x hx => hlt x hx, hs⟩
      · rename_i h1 h2
        refine (sortedKeys_cons _ _).2 ⟨fun x hx => ?_, ih hs⟩
        rcases mem_sins hx with rfl | hx
        · change a < k; omega
        · exact hlt x hx

/-- A write keeps the canonical form. -/
theorem canonical_sput {α : Type} [DecidableEq α] {l : Sparse α} {d : α} (k : Nat) (v : α) (h : canonical d l = true) :
    canonical d (sput l k v d) = true := by
  simp only [canonical, Bool.and_eq_true, List.all_eq_true, decide_eq_true_eq] at h ⊢
  unfold sput
  split
  · exact ⟨sortedKeys_sdel k h.1, fun x hx => h.2 x (mem_sdel hx)⟩
  · rename_i hv
    refine ⟨sortedKeys_sins k v h.1, fun x hx => ?_⟩
    rcases mem_sins hx with rfl | hx
    · exact hv
    · exact h.2 x hx

/-! ## Memory -/

/-- Writing a byte keeps memory in canonical form. -/
theorem wrByte_wf {m : Mach} (a v : Nat) (h : Memory.wf m.mem = true) : Memory.wf (wrByte m a v).mem = true :=
  canonical_sput a _ h

/-- A byte written reads back, cut to 8 bits. -/
@[simp] theorem rdByte_wrByte_self (m : Mach) (a v : Nat) : rdByte (wrByte m a v) a = v % 256 := by
  simp [rdByte, wrByte]

/-- Writing a byte leaves every other address. -/
theorem rdByte_wrByte_ne (m : Mach) {a b : Nat} (v : Nat) (h : b ≠ a) : rdByte (wrByte m a v) b = rdByte m b := by
  simp [rdByte, wrByte, sget_sput_ne _ _ _ h]

/-- Writing bytes one after another keeps memory in canonical form. -/
theorem wrByte_fold_wf (l : List (Nat × Nat)) (m : Mach) (h : Memory.wf m.mem = true) :
    Memory.wf (l.foldl (fun m x => wrByte m x.2 x.1) m).mem = true := by
  induction l generalizing m with
  | nil => exact h
  | cons x r ih => exact ih _ (wrByte_wf x.2 x.1 h)

/-! ## Register fields -/

/-- A field written reads back, cut to its width. -/
@[simp] theorem getF_setF_self (m : Mach) (f : Fld) (i v : Nat) : getF (setF m f i v) f i = v % 2 ^ f.w := by
  simp [getF, setF]

/-- Writing a field leaves every field of another key. -/
theorem getF_setF_ne (m : Mach) (f g : Fld) (i j v : Nat) (h : g.key j ≠ f.key i) : getF (setF m f i v) g j = getF m g j := by
  simp only [getF, setF]
  unfold sput
  split
  · rw [sget_sdel_ne _ _ h]
  · rw [sget_sins_ne _ _ _ h]

/-! ## Updates of the machine, component by component -/

@[simp] theorem setF_mem (m : Mach) (f : Fld) (i v : Nat) : (setF m f i v).mem = m.mem := rfl
@[simp] theorem setF_locks (m : Mach) (f : Fld) (i v : Nat) : (setF m f i v).locks = m.locks := rfl
@[simp] theorem setF_cyc (m : Mach) (f : Fld) (i v : Nat) : (setF m f i v).cyc = m.cyc := rfl
@[simp] theorem setF_sys (m : Mach) (f : Fld) (i v : Nat) : (setF m f i v).sys = m.sys := rfl
@[simp] theorem setF_hif (m : Mach) (f : Fld) (i v : Nat) : (setF m f i v).hif = m.hif := rfl
@[simp] theorem setF_intc (m : Mach) (f : Fld) (i v : Nat) : (setF m f i v).intc = m.intc := rfl
@[simp] theorem setF_ladle (m : Mach) (f : Fld) (i v : Nat) : (setF m f i v).ladle = m.ladle := rfl
@[simp] theorem setF_cores (m : Mach) (f : Fld) (i v : Nat) : (setF m f i v).cores = m.cores := rfl
@[simp] theorem setF_sup (m : Mach) (f : Fld) (i v : Nat) : (setF m f i v).sup = m.sup := rfl
@[simp] theorem setF_memb (m : Mach) (f : Fld) (i v : Nat) : (setF m f i v).memb = m.memb := rfl
@[simp] theorem setF_mould (m : Mach) (f : Fld) (i v : Nat) : (setF m f i v).mould = m.mould := rfl
@[simp] theorem setF_force (m : Mach) (f : Fld) (i v : Nat) : (setF m f i v).force = m.force := rfl
@[simp] theorem setF_out (m : Mach) (f : Fld) (i v : Nat) : (setF m f i v).out = m.out := rfl
@[simp] theorem setF_time (m : Mach) (f : Fld) (i v : Nat) : (setF m f i v).time = m.time := rfl
@[simp] theorem setF_twi (m : Mach) (f : Fld) (i v : Nat) : (setF m f i v).twi = m.twi := rfl
@[simp] theorem setF_enc (m : Mach) (f : Fld) (i v : Nat) : (setF m f i v).enc = m.enc := rfl
@[simp] theorem setF_axl (m : Mach) (f : Fld) (i v : Nat) : (setF m f i v).axl = m.axl := rfl
@[simp] theorem setF_pwr (m : Mach) (f : Fld) (i v : Nat) : (setF m f i v).pwr = m.pwr := rfl
@[simp] theorem setF_safe (m : Mach) (f : Fld) (i v : Nat) : (setF m f i v).safe = m.safe := rfl
@[simp] theorem setF_cruc (m : Mach) (f : Fld) (i v : Nat) : (setF m f i v).cruc = m.cruc := rfl
@[simp] theorem setF_run (m : Mach) (f : Fld) (i v : Nat) : (setF m f i v).run = m.run := rfl
@[simp] theorem setF_duo (m : Mach) (f : Fld) (i v : Nat) : (setF m f i v).duo = m.duo := rfl
@[simp] theorem setF_tap (m : Mach) (f : Fld) (i v : Nat) : (setF m f i v).tap = m.tap := rfl
@[simp] theorem setF_test (m : Mach) (f : Fld) (i v : Nat) : (setF m f i v).test = m.test := rfl
@[simp] theorem setF_reacts (m : Mach) (f : Fld) (i v : Nat) : (setF m f i v).reacts = m.reacts := rfl
@[simp] theorem setF_free (m : Mach) (f : Fld) (i v : Nat) : (setF m f i v).free = m.free := rfl
@[simp] theorem setF_hiLatch (m : Mach) (f : Fld) (i v : Nat) : (setF m f i v).hiLatch = m.hiLatch := rfl
@[simp] theorem setF_loHeld (m : Mach) (f : Fld) (i v : Nat) : (setF m f i v).loHeld = m.loHeld := rfl
@[simp] theorem setF_jtag (m : Mach) (f : Fld) (i v : Nat) : (setF m f i v).jtag = m.jtag := rfl
@[simp] theorem setF_sched (m : Mach) (f : Fld) (i v : Nat) : (setF m f i v).sched = m.sched := rfl
@[simp] theorem setF_schedOff (m : Mach) (f : Fld) (i v : Nat) : (setF m f i v).schedOff = m.schedOff := rfl
@[simp] theorem setF_crucSecs (m : Mach) (f : Fld) (i v : Nat) : (setF m f i v).crucSecs = m.crucSecs := rfl
@[simp] theorem setF_lims (m : Mach) (f : Fld) (i v : Nat) : (setF m f i v).lims = m.lims := rfl
@[simp] theorem setF_busLow (m : Mach) (f : Fld) (i v : Nat) : (setF m f i v).busLow = m.busLow := rfl

@[simp] theorem at_now (m : Mach) (t : Nat) : (at' m t).cyc.now = max m.cyc.now t := rfl
@[simp] theorem at_regs (m : Mach) (t : Nat) : (at' m t).regs = m.regs := rfl
@[simp] theorem at_mem (m : Mach) (t : Nat) : (at' m t).mem = m.mem := rfl
@[simp] theorem at_cores (m : Mach) (t : Nat) : (at' m t).cores = m.cores := rfl
@[simp] theorem at_hif (m : Mach) (t : Nat) : (at' m t).hif = m.hif := rfl
@[simp] theorem at_intc (m : Mach) (t : Nat) : (at' m t).intc = m.intc := rfl
@[simp] theorem at_ladle (m : Mach) (t : Nat) : (at' m t).ladle = m.ladle := rfl
@[simp] theorem at_locks (m : Mach) (t : Nat) : (at' m t).locks = m.locks := rfl
@[simp] theorem at_free (m : Mach) (t : Nat) : (at' m t).free = m.free := rfl
@[simp] theorem at_reacts (m : Mach) (t : Nat) : (at' m t).reacts = m.reacts := rfl
@[simp] theorem at_hiLatch (m : Mach) (t : Nat) : (at' m t).hiLatch = m.hiLatch := rfl
@[simp] theorem at_loHeld (m : Mach) (t : Nat) : (at' m t).loHeld = m.loHeld := rfl
@[simp] theorem at_out (m : Mach) (t : Nat) : (at' m t).out = m.out := rfl
@[simp] theorem at_sys (m : Mach) (t : Nat) : (at' m t).sys = m.sys := rfl
@[simp] theorem at_sup (m : Mach) (t : Nat) : (at' m t).sup = m.sup := rfl
@[simp] theorem at_memb (m : Mach) (t : Nat) : (at' m t).memb = m.memb := rfl
@[simp] theorem at_test (m : Mach) (t : Nat) : (at' m t).test = m.test := rfl
@[simp] theorem at_jtag (m : Mach) (t : Nat) : (at' m t).jtag = m.jtag := rfl
@[simp] theorem at_mould (m : Mach) (t : Nat) : (at' m t).mould = m.mould := rfl
@[simp] theorem at_force (m : Mach) (t : Nat) : (at' m t).force = m.force := rfl
@[simp] theorem at_sched (m : Mach) (t : Nat) : (at' m t).sched = m.sched := rfl
@[simp] theorem at_schedOff (m : Mach) (t : Nat) : (at' m t).schedOff = m.schedOff := rfl
@[simp] theorem at_crucSecs (m : Mach) (t : Nat) : (at' m t).crucSecs = m.crucSecs := rfl
@[simp] theorem at_time (m : Mach) (t : Nat) : (at' m t).time = m.time := rfl
@[simp] theorem at_twi (m : Mach) (t : Nat) : (at' m t).twi = m.twi := rfl
@[simp] theorem at_enc (m : Mach) (t : Nat) : (at' m t).enc = m.enc := rfl
@[simp] theorem at_axl (m : Mach) (t : Nat) : (at' m t).axl = m.axl := rfl
@[simp] theorem at_pwr (m : Mach) (t : Nat) : (at' m t).pwr = m.pwr := rfl
@[simp] theorem at_lims (m : Mach) (t : Nat) : (at' m t).lims = m.lims := rfl
@[simp] theorem at_busLow (m : Mach) (t : Nat) : (at' m t).busLow = m.busLow := rfl
@[simp] theorem at_safe (m : Mach) (t : Nat) : (at' m t).safe = m.safe := rfl
@[simp] theorem at_cruc (m : Mach) (t : Nat) : (at' m t).cruc = m.cruc := rfl
@[simp] theorem at_run (m : Mach) (t : Nat) : (at' m t).run = m.run := rfl
@[simp] theorem at_duo (m : Mach) (t : Nat) : (at' m t).duo = m.duo := rfl
@[simp] theorem at_tap (m : Mach) (t : Nat) : (at' m t).tap = m.tap := rfl

@[simp] theorem wrByte_regs (m : Mach) (a v : Nat) : (wrByte m a v).regs = m.regs := rfl
@[simp] theorem wrByte_cores (m : Mach) (a v : Nat) : (wrByte m a v).cores = m.cores := rfl
@[simp] theorem wrByte_cyc (m : Mach) (a v : Nat) : (wrByte m a v).cyc = m.cyc := rfl
@[simp] theorem wrByte_hif (m : Mach) (a v : Nat) : (wrByte m a v).hif = m.hif := rfl
@[simp] theorem wrByte_locks (m : Mach) (a v : Nat) : (wrByte m a v).locks = m.locks := rfl
@[simp] theorem wrByte_free (m : Mach) (a v : Nat) : (wrByte m a v).free = m.free := rfl
@[simp] theorem wrByte_reacts (m : Mach) (a v : Nat) : (wrByte m a v).reacts = m.reacts := rfl
@[simp] theorem wrByte_hiLatch (m : Mach) (a v : Nat) : (wrByte m a v).hiLatch = m.hiLatch := rfl
@[simp] theorem wrByte_loHeld (m : Mach) (a v : Nat) : (wrByte m a v).loHeld = m.loHeld := rfl
@[simp] theorem wrByte_out (m : Mach) (a v : Nat) : (wrByte m a v).out = m.out := rfl
@[simp] theorem wrByte_sys (m : Mach) (a v : Nat) : (wrByte m a v).sys = m.sys := rfl
@[simp] theorem wrByte_intc (m : Mach) (a v : Nat) : (wrByte m a v).intc = m.intc := rfl
@[simp] theorem wrByte_ladle (m : Mach) (a v : Nat) : (wrByte m a v).ladle = m.ladle := rfl
@[simp] theorem wrByte_sup (m : Mach) (a v : Nat) : (wrByte m a v).sup = m.sup := rfl
@[simp] theorem wrByte_memb (m : Mach) (a v : Nat) : (wrByte m a v).memb = m.memb := rfl
@[simp] theorem wrByte_test (m : Mach) (a v : Nat) : (wrByte m a v).test = m.test := rfl
@[simp] theorem wrByte_jtag (m : Mach) (a v : Nat) : (wrByte m a v).jtag = m.jtag := rfl
@[simp] theorem wrByte_mould (m : Mach) (a v : Nat) : (wrByte m a v).mould = m.mould := rfl
@[simp] theorem wrByte_force (m : Mach) (a v : Nat) : (wrByte m a v).force = m.force := rfl
@[simp] theorem wrByte_sched (m : Mach) (a v : Nat) : (wrByte m a v).sched = m.sched := rfl
@[simp] theorem wrByte_schedOff (m : Mach) (a v : Nat) : (wrByte m a v).schedOff = m.schedOff := rfl
@[simp] theorem wrByte_crucSecs (m : Mach) (a v : Nat) : (wrByte m a v).crucSecs = m.crucSecs := rfl
@[simp] theorem wrByte_time (m : Mach) (a v : Nat) : (wrByte m a v).time = m.time := rfl
@[simp] theorem wrByte_twi (m : Mach) (a v : Nat) : (wrByte m a v).twi = m.twi := rfl
@[simp] theorem wrByte_enc (m : Mach) (a v : Nat) : (wrByte m a v).enc = m.enc := rfl
@[simp] theorem wrByte_axl (m : Mach) (a v : Nat) : (wrByte m a v).axl = m.axl := rfl
@[simp] theorem wrByte_pwr (m : Mach) (a v : Nat) : (wrByte m a v).pwr = m.pwr := rfl
@[simp] theorem wrByte_lims (m : Mach) (a v : Nat) : (wrByte m a v).lims = m.lims := rfl
@[simp] theorem wrByte_busLow (m : Mach) (a v : Nat) : (wrByte m a v).busLow = m.busLow := rfl
@[simp] theorem wrByte_safe (m : Mach) (a v : Nat) : (wrByte m a v).safe = m.safe := rfl
@[simp] theorem wrByte_cruc (m : Mach) (a v : Nat) : (wrByte m a v).cruc = m.cruc := rfl
@[simp] theorem wrByte_run (m : Mach) (a v : Nat) : (wrByte m a v).run = m.run := rfl
@[simp] theorem wrByte_duo (m : Mach) (a v : Nat) : (wrByte m a v).duo = m.duo := rfl
@[simp] theorem wrByte_tap (m : Mach) (a v : Nat) : (wrByte m a v).tap = m.tap := rfl

/-- Cell time at an instant does not touch a register field. -/
@[simp] theorem getF_at (m : Mach) (t : Nat) (f : Fld) (i : Nat) : getF (at' m t) f i = getF m f i := rfl

end Sys2Proof.Machine
end

