-- ==== Sys2Proof/Laws/Memory.lean ====
section
/-! SUPPORT. Every operation that writes memory keeps it in canonical form: the error correction's read and its writes, on which all
others rest; reports and counts leave memory alone. -/

namespace Sys2Proof.Machine

@[simp] theorem incF_mem (m : Mach) (f : Fld) (i n : Nat) : (incF m f i n).mem = m.mem := rfl
@[simp] theorem flag_mem (m : Mach) (f : Fld) (i : Nat) : (flag m f i).mem = m.mem := rfl
@[simp] theorem setFlips_mem (m : Mach) (k : Nat) (l : List Nat) : (setFlips m k l).mem = m.mem := rfl

/-- An interrupt source's event leaves memory. -/
@[simp] theorem irq_mem (m : Mach) (n : Nat) : (irq m n).mem = m.mem := by
  unfold irq; split <;> rfl

/-- An event held for a ring leaves memory. -/
@[simp] theorem holdEv_mem (m : Mach) (k : Nat) (e : Ev) : (holdEv m k e).mem = m.mem := by
  unfold holdEv; split <;> rfl

/-- The fault log leaves memory. -/
@[simp] theorem logEv_mem (m : Mach) (e : Ev) : (logEv m e).mem = m.mem := by
  simp only [logEv, setF_mem, apply_ite Mach.mem, incF_mem, ite_self]

/-- A report leaves memory. -/
@[simp] theorem report_mem (m : Mach) (code cls kind id detail : Nat) : (report m code cls kind id detail).mem = m.mem := by
  simp only [report, apply_ite Mach.mem, holdEv_mem, logEv_mem, ite_self]

/-- An error of node scope leaves memory. -/
@[simp] theorem logNode_mem (m : Mach) (code detail : Nat) : (logNode m code detail).mem = m.mem := report_mem ..
/-- A notice leaves memory. -/
@[simp] theorem notice_mem (m : Mach) (code detail : Nat) : (notice m code detail).mem = m.mem := report_mem ..

/-- A corrected error leaves memory. -/
@[simp] theorem corrected_mem (m : Mach) (region : Nat) (pos : List Nat) : (corrected m region pos).mem = m.mem := by
  simp only [corrected, apply_ite Mach.mem, notice_mem, irq_mem, setF_mem, incF_mem, flag_mem, ite_self]

/-- The detection of an uncorrectable word leaves memory. -/
@[simp] theorem uncorrectable_mem (m : Mach) (k region source port : Nat) : (uncorrectable m k region source port).mem = m.mem := by
  simp [uncorrectable]

/-- The schedule memory's differences leave memory. -/
@[simp] theorem setXor_mem (m : Mach) (k x : Nat) : (setXor m k x).mem = m.mem := rfl

/-- Bytes written by any rule for address and value keep memory in canonical form. -/
theorem foldBytes_wf {α : Type} (l : List α) (a v : Mach → α → Nat) (m : Mach) (h : Memory.wf m.mem = true) :
    Memory.wf (l.foldl (fun m x => wrByte m (a m x) (v m x)) m).mem = true := by
  induction l generalizing m with
  | nil => exact h
  | cons x r ih => exact ih _ (wrByte_wf _ _ h)

/-- Flipped data bits keep memory in canonical form. -/
theorem flipData_wf {m : Mach} (k : Nat) (l : List Nat) (h : Memory.wf m.mem = true) : Memory.wf (flipData m k l).mem = true := by
  unfold flipData
  split_ifs
  · exact h
  · exact foldBytes_wf _ _ _ _ h

/-- A word marked as poisoned keeps memory in canonical form. -/
theorem poisonWord_wf {m : Mach} (k : Nat) (l : List Nat) (h : Memory.wf m.mem = true) : Memory.wf (poisonWord m k l).mem = true :=
  flipData_wf _ _ h

/-- Decoding a stored word keeps memory in canonical form. -/
theorem decodeWord_wf {m : Mach} (k source port : Nat) (h : Memory.wf m.mem = true) : Memory.wf (decodeWord m k source port).mem = true := by
  simp only [decodeWord]
  split_ifs
  · exact h
  · simpa using h
  · simpa using h
  · exact poisonWord_wf _ _ (by simpa using h)
  · exact poisonWord_wf _ _ (by simpa [fresh] using h)
  · exact h
  · exact foldBytes_wf _ _ _ _ h

/-- Decoding words one after another keeps memory in canonical form. -/
theorem decodeWords_wf (l : List Nat) (source port : Nat) (m : Mach) (h : Memory.wf m.mem = true) :
    Memory.wf (l.foldl (fun m k => decodeWord m k source port) m).mem = true := by
  induction l generalizing m with
  | nil => exact h
  | cons k r ih => exact ih _ (decodeWord_wf k source port h)

/-- A read through the error correction keeps memory in canonical form. -/
theorem eccRead_wf {m : Mach} (a n port : Nat) (h : Memory.wf m.mem = true) : Memory.wf (eccRead m a n port).1.mem = true := by
  simp only [eccRead]
  split_ifs
  · simpa using decodeWords_wf _ _ _ _ h
  · exact decodeWords_wf _ _ _ _ h

/-- Words written in part are decoded first, which keeps memory in canonical form. -/
theorem partialWords_wf (l : List Nat) (port : Nat) (m : Mach) (h : Memory.wf m.mem = true) :
    Memory.wf (l.foldl (fun m k =>
      let m := decodeWord m k 4 port
      setFlips { m with memb := { m.memb with due := m.memb.due.filter (· != k) } } k []) m).mem = true := by
  induction l generalizing m with
  | nil => exact h
  | cons k r ih => exact ih _ (decodeWord_wf k 4 port h)

/-- A write of bytes keeps memory in canonical form. -/
theorem wrBytes_wf {m : Mach} (a : Nat) (l : List Nat) (port : Nat) (h : Memory.wf m.mem = true) :
    Memory.wf (wrBytes m a l port).mem = true :=
  wrByte_fold_wf _ _ (partialWords_wf _ port m h)

/-- A write of a value keeps memory in canonical form. -/
theorem wrVal_wf {m : Mach} (a n v port : Nat) (h : Memory.wf m.mem = true) : Memory.wf (wrVal m a n v port).mem = true :=
  wrBytes_wf _ _ _ h

/-- Memory after reset is in canonical form. -/
theorem reset_mem_wf : Memory.wf State.reset.m.mem = true := rfl

end Sys2Proof.Machine
end

