-- ==== Sys2Proof/Laws/Blocks.lean ====
section
/-! SUPPORT. What the operations that blocks share can do, said once each: register writes of a block that is on or off, releases, time
that passes the assembly of a payload, logged reads. -/

namespace Sys2Proof.Machine

/-! ## Register writes of a block (01 R31) -/

/-- A register write of a block that is on is carried out. -/
theorem domWrite_on {m : Mach} {blk : Nat} (h : blockOn m blk = true) (off : Nat) (f : Mach → Mach) : domWrite blk off f m = f m := by
  simp [domWrite, h]

/-- A register write of a block whose domain is off is ignored and reported. -/
theorem domWrite_off {m : Mach} {blk : Nat} (h : blockOn m blk = false) (hr : m.sys.inReset = false) (off : Nat) (f : Mach → Mach) :
    domWrite blk off f m = domainOffWrite m blk off := by
  simp [domWrite, h, hr]

/-- In chip reset nothing is written. -/
theorem domWrite_reset {m : Mach} (h : m.sys.inReset = true) (blk off : Nat) (f : Mach → Mach) : domWrite blk off f m = m := by
  simp [domWrite, blockOn, h]

/-- A write that a domain off turns away leaves memory. -/
@[simp] theorem domainOffWrite_mem (m : Mach) (blk off : Nat) : (domainOffWrite m blk off).mem = m.mem := by
  simp [domainOffWrite]

/-- What crosses the isolation cells comes from a block that is on. -/
theorem blockOn_of_crosses {m : Mach} {blk : Nat} (h : crosses m blk = true) : blockOn m blk = true := by
  simp only [crosses, Bool.and_eq_true] at h; exact h.1

/-! ## Claims (04 R145, R148) -/

/-- A release takes away claims of its own function, kind and instance alone. -/
theorem mem_release {m : Mach} {func kind inst : Nat} (o : OwnRec) :
    o ∈ (release m func kind inst).mould.claims ↔ o ∈ m.mould.claims ∧ ¬ (o.kind = kind ∧ o.inst = inst ∧ o.func = func) := by
  simp [release]; grind

/-- A claim adds its instances, with its function, behind those that are there. -/
theorem claims_claim (m : Mach) (func : Nat) (l : List (Nat × Nat)) :
    (claim m func l).mould.claims = m.mould.claims ++ l.map (fun x => { kind := x.1, inst := x.2, node := nodeId m, func := func }) := rfl

/-! ## Time and the payload of AXIS_STATE (12 R360) -/

/-- The payload is read from the machine; assembling it ends the reports of faults in the records and changes nothing else. -/
theorem statePayload_frame (m : Mach) : ∃ a, (statePayload m).2 = { m with axl := a } := by
  have key : ∀ (l : List AxisRec) (b : List Nat) (m : Mach), ∃ a, (l.foldl (fun (x : List Nat × Mach) a =>
      let y := axisRecord x.2 a
      (x.1 ++ y.1, y.2)) (b, m)).2 = { m with axl := a } := by
    intro l
    induction l with
    | nil => exact fun _ m => ⟨m.axl, rfl⟩
    | cons r l ih =>
      intro b m
      obtain ⟨a, h⟩ := ih (b ++ (axisRecord m r).1) (axisRecord m r).2
      exact ⟨a, h⟩
  exact key _ _ _

/-- Time that passes to a tick moves cell time there; it may assemble the payload of the cycle, and does nothing else. -/
theorem passTo_frame (m : Mach) (t : Nat) : ∃ a e, passTo m t = { at' m t with axl := a, twi := { m.twi with early := e } } := by
  unfold passTo
  split
  · split
    · obtain ⟨a, h⟩ := statePayload_frame m
      exact ⟨a, some (m.cyc.n, (statePayload m).1), by simp only [h]; rfl⟩
    · exact ⟨m.axl, m.twi.early, rfl⟩
  · exact ⟨m.axl, m.twi.early, rfl⟩

/-! ## Logged reads (22 R609) -/

/-- The report of a poisoned read leaves memory. -/
@[simp] theorem poisonLog_mem (m : Mach) (w : Nat) : (poisonLog m w).mem = m.mem := by
  simp [poisonLog]

/-- A logged read keeps memory in canonical form. -/
theorem logRead_wf {m : Mach} (a n port : Nat) (h : Memory.wf m.mem = true) : Memory.wf (logRead a n port m).1.mem = true := by
  simp only [logRead]
  split
  · simpa using eccRead_wf a n port h
  · exact eccRead_wf a n port h

end Sys2Proof.Machine
end

