-- ==== Sys2Proof/Laws/Core.lean ====
section
/-! SUPPORT. What carrying out one instruction comes to. -/

namespace Sys2Proof.Machine

/-- A core that is ready carries out the instruction: what it answers is the next machine. -/
theorem runCore_ready {m : Mach} {c : Nat} (h : CoreReady m c) (f : CoreSt → Mach → Ex) :
    runCore c f m = match f (regsAt m c) (atInstr m c) with
      | .seq k' m' => putCore m' c (advance k')
      | .jump k' m' tgt =>
        if tgt.toNat % 4 ≠ 0 then raise c 2 tgt.toNat (atInstr m c) else putCore m' c { k' with pc := tgt, b := { k'.b with lc := 0 } }
      | .fault cause data m' => raise c cause data m'
      | .stay m' => m' := by
  obtain ⟨h1, h2, h3⟩ := h
  simp only [regsAt, atInstr] at h1 h2 h3 ⊢
  simp only [runCore, h1, h2, h3, Bool.not_true, if_false, ne_eq, not_true_eq_false, Bool.false_eq_true]
  all_goals
    generalize (if c = 32 ∧ supRuns m = true then wake m else m) = x
    cases f (coreSt x c) x <;> rfl

/-- An instruction that writes a function of two registers retires with it in rd. -/
theorem binOp_ready {m : Mach} {c : Nat} (h : CoreReady m c) (rd rs1 rs2 : Nat) (f : BitVec 64 → BitVec 64 → BitVec 64) :
    binOp c rd rs1 rs2 f m =
      putCore (atInstr m c) c (advance (xw (regsAt m c) rd (f (xr (regsAt m c) rs1) (xr (regsAt m c) rs2)))) := by
  simp only [binOp, runCore_ready h]

/-- An instruction that changes registers only retires with them. -/
theorem regOp_ready {m : Mach} {c : Nat} (h : CoreReady m c) (f : CoreSt → CoreSt) :
    regOp c f m = putCore (atInstr m c) c (advance (f (regsAt m c))) := by
  simp only [regOp, runCore_ready h]

/-- A load ends with its value in rd, or with the fault of its access. -/
theorem load_ready {m : Mach} {c : Nat} (h : CoreReady m c) (rd n : Nat) (u : Bool) (addr : CoreSt → Nat) (after : CoreSt → CoreSt) :
    load c rd n u addr after m =
      match loadMem c (regsAt m c) (atInstr m c).sup.userMode (addr (regsAt m c)) n (atInstr m c) with
      | .ok v m' => putCore m' c (advance (xw (after (regsAt m c)) rd (extend n u v)))
      | .bad x a m' => raise c x a m' := by
  simp only [load, runCore_ready h]
  cases loadMem c (regsAt m c) (atInstr m c).sup.userMode (addr (regsAt m c)) n (atInstr m c) <;> rfl

/-- A store ends with its bytes written, or with the fault of its access. -/
theorem store_ready {m : Mach} {c : Nat} (h : CoreReady m c) (src n : Nat) (addr : CoreSt → Nat) (after : CoreSt → CoreSt) :
    store c src n addr after m =
      match storeMem c (regsAt m c) (atInstr m c).sup.userMode (addr (regsAt m c)) n ((xr (regsAt m c) src).toNat % 2 ^ (8 * n)) (atInstr m c) with
      | .ok _ m' => putCore m' c (advance (after (regsAt m c)))
      | .bad x a m' => raise c x a m' := by
  simp only [store, runCore_ready h]
  cases storeMem c (regsAt m c) (atInstr m c).sup.userMode (addr (regsAt m c)) n ((xr (regsAt m c) src).toNat % 2 ^ (8 * n)) (atInstr m c) <;> rfl

end Sys2Proof.Machine
end

