-- ==== Sys2Proof/Tests/Slice0.lean ====
section
/-! SUPPORT. The model's own tests: ill-formed commands that the well-formedness check refuses, single steps, checks against values made outside
the model (SHA-384, ECDSA, CRC-32), and for each statement with hypotheses states and operands that meet them (`witness_…`), each clause
at values of its own. -/

namespace Sys2Proof.Tests
open Sys2Proof Sys2Proof.Machine

-- One theorem is checked at a time: the kernel evaluations of many at once ask for more threads than a build may have.
set_option Elab.async false

/-! ## Small machines -/

/-- A machine with register fields set. -/
def put (l : List (Fld × Nat × Nat)) (m : Mach) : Mach := l.foldl (fun m x => setF m x.1 x.2.1 x.2.2) m

/-- The machine out of reset with every domain on, READY, and every feature accepted. -/
def up : Mach :=
  put [(SYS_PWR_STAT_ON, 0, 0x3FFF), (SYS_PWR_CTRL_ON, 0, 0x3FFF), (HIF_STATUS_READY, 0, 1), (HIF_FEAT_ACK_DONE, 0, 1), (HIF_FEAT_DRV_DRV, 0, 0xFFFF)]
    { sys := { inReset := false, clamp := false } }

/-- An item that runs on pool core 0 since tick 0. -/
def onCore : Flight := { it := { target := 5 }, st := .running 0 0 }

/-- Registers of core 0 at the start of its kernel area. -/
def regs0 : CoreSt := { pc := 0x50000000, busy := true, item := 0 }

/-- The registers with one general register set. -/
def withX (k : CoreSt) (i v : Nat) : CoreSt := xw k i (BitVec.ofNat 64 v)

/-- Core 0 runs the item with registers `k`; the supervisor runs at address 0. -/
def running0 (k : CoreSt) : Mach := { up with ladle := { up.ladle with items := [onCore] }, cores := [(0, k)] }

/-- Core 0 at its first instruction. -/
def cores : Mach := running0 regs0

/-- The supervisor with registers `k` and privileged state `p`. -/
def super (k : CoreSt) (p : SupSt) : Mach := { up with cores := sput [] 32 k {}, sup := p }

/-- A model image whose only section is a graph of one template of 32 B: header, directory, section. -/
def tplImage : List Nat :=
  List.replicate 6 0 ++ [1, 0] ++ List.replicate 56 0 ++ leBytes 2 9 ++ leBytes 2 0 ++ leBytes 4 80 ++ leBytes 4 64 ++ leBytes 4 0 ++
    leBytes 4 0 ++ leBytes 4 0 ++ leBytes 4 1 ++ List.replicate 52 0

/-! ## Well-formed commands -/

/-- A job that is well-formed, and one for each bound that is not. -/
theorem test_wf_jobs :
    Instr.wf (.getInfo { ring := 15, desc := { opcode := 1, params := List.replicate 10 0 }, data := [255] }) = true ∧
    (∀ j ∈ ([{ ring := 16 }, { head := 65536 }, { data := [256] }, { desc := { opcode := 65536 } }, { desc := { flags := 256 } }, { desc := { version := 256 } },
        { desc := { tag := 2 ^ 32 } }, { desc := { dataAddr := 2 ^ 64 } }, { desc := { dataLen := 2 ^ 32 } }, { desc := { rsv := 2 ^ 32 } },
        { desc := { params := List.replicate 11 0 } }, { desc := { params := [2 ^ 32] } }] : List Job), ∀ c ∈ jobCommands, (c.1 j).wf = false) := by
  decide +kernel

/-- Commands of the host interface and the fabric that are ill-formed, each in one operand. -/
theorem test_wf_host : ∀ i ∈ ([.descriptorFetch [{ ring := 16 }], .descriptorFetch [{ descs := [[256]] }], .completionEntryWrite 16, .eventEntryWrite 4,
    .commandProducerDoorbell 16 0, .commandProducerDoorbell 0 (2 ^ 32), .completionConsumerDoorbell 16 0, .eventConsumerDoorbell 4 0, .streamProducerDoorbell 32 0,
    .streamConsumerDoorbell 32 0, .streamBlockFetch 32 [], .streamBlockFetch 0 [[256]], .telemetryBlockWrite 32,
    .coalesceTimerExpiry 64, .msixTableWrite 64 0 0, .msixTableWrite 0 4 0, .featureNegotiationGo (2 ^ 32), .pcieLinkUp { speed := 8 } 0, .pcieLinkUp {} 64, .ringEnable 4 0,
    .ringEnable 0 32, .ringDisable 4 0, .bar4Write (2 ^ 25) [], .bar4Write 0 [256], .registerWrite (.port 13) 0 0, .registerWrite .bar2 (2 ^ 32) 0,
    .registerWrite .bar2 0 (2 ^ 32), .registerLoRead (.port 13) 0, .cycleCfgWrite (2 ^ 32)] : List Instr), i.wf = false := by
  decide +kernel

/-- Commands of the cores, the Ladle and interrupts that are ill-formed. -/
theorem test_wf_cores : ∀ i ∈ ([.addR 33 0 0 0, .addR 0 32 0 0, .addR 0 0 32 0, .addR 0 0 0 32, .addk 0 0 0 65536, .hik 0 32 0, .ldW 0 0 0 65536, .stW 0 32 0 0,
    .pset 0 8 0, .sset 0 4 0, .ssetImmediate 0 0 64, .brEq 0 0 0 65536, .loopR 0 0 0, .loopR 0 0 65, .callR 0 (2 ^ 26), .aclr 0 4, .aadd 0 0 4, .mva 0 0 0 4 0, .ald 0 0 4 0,
    .rdsr 0 0 65536, .trapR 33, .refillComplete 32, .crucibleProgramStart 64 0, .runLimitExpiry 32, .ladleSubmit 13 [], .ladleSubmit 0 [256], .counterSet 65536,
    .intcClaimNormal 13, .intcComplete 0 (2 ^ 32), .intcPendSet 16 0, .intcPendClr 0 (2 ^ 32), .externalLineEvent 319 true 1, .externalLineEvent 387 true 1] : List Instr),
    i.wf = false := by
  decide +kernel

/-- Commands of axes, networks, time, safety, the pair and the system that are ill-formed. -/
theorem test_wf_blocks : ∀ i ∈ ([.pvcPass 16 0 false, .pvcPass 0 4 false, .perWrite 16 0, .tripInput 0 2 0 0, .fastChannelSample 0 3 [] 0, .sdChannelFault 0 3,
    .switchNodeCrossing 0 3 true none, .encoderRequest 16 0 false, .encoderWord 0 none (2 ^ 64), .xposWrite 0 (2 ^ 64), .slotTransmit 2048, .guardianCut 8 0, .modeCtrlGo 8,
    .linkDown 8, .managementReceive 2, .signalingReceive 0 256 0, .selWrite 2, .outGo 8, .captureHeadRemove 8, .mirrorLatchRead 13, .safeInputChange 16 0 [],
    .safeInputChange 0 2 [], .darkTest false 8 true, .darkTest true 16 true, .outputReadbackMismatch false 8, .edmTimeout 8, .sensorFrameReceive 4 0 [],
    .heartbeatReceive true { role := 8 } 0, .heartbeatReceive true { cls := 4 } 0, .inputReceive true (2 ^ 32) (.block 0 0 []), .inputReceive true 0 (.block 32 0 []),
    .inputReceive true 0 (.job { ring := 16 }), .snapshotReceive true { dom := 4 }, .snapshotReceive true { limits := List.replicate 33 0 }, .mirrorReceive true { cycle := 2 ^ 32 },
    .mirrorReceive true { attempts := List.replicate 65 0 }, .bulkReceive true 0 (.image 0 0 [256]), .bulkReceive true 0 (.locks 8 []), .bulkReceive true 0 (.memory (2 ^ 32) []),
    .resyncPhaseDone true 65536, .triggerBusEdge 2 true 0 false, .limitInputChange 16 true true 0, .chipResetRequest (2 ^ 32), .strapSample 64 0 true true 0 0 0 [],
    .flashDiscovery true 8 [], .bootLenWrite (2 ^ 32) 0, .domainTransitionDone 14, .serdesPllLockLoss 2, .watchdogKick (2 ^ 32) 0, .testUnitEnable 7,
    .samplePreload [{ group := 4 }], .blockLockLoss 2, .serdesPllRelock 2, .blockResetDone 17] : List Instr), i.wf = false := by
  decide +kernel

/-- Commands at the ends of their ranges that are well-formed. -/
theorem test_wf_ends : ∀ i ∈ ([.bar4Write (2 ^ 25 - 1) [255], .loopR 32 31 1, .loopR 32 31 64, .externalLineEvent 320 true 1, .externalLineEvent 386 true 1, .darkTest true 15 true,
    .registerWrite (.port 12) (2 ^ 32 - 1) (2 ^ 32 - 1), .sensorFrameReceive 3 0 [255], .xposWrite 15 (2 ^ 64 - 1), .slotTransmit 2047, .testUnitEnable 6, .blockResetDone 16,
    .heartbeatReceive true { role := 7, rank := 1, cls := 3 } 0, .powerOnReset, .cycleBoundary] : List Instr), i.wf = true := by
  decide +kernel

/-! ## Single steps -/

/-- The state that a command or step leaves; a fault or a refusal leaves none. -/
def left (o : Host.Outcome State Fault Refusal) : Option State := match o with | .next t => some t | _ => none

/-- A queue's front command runs, and the rest keeps its place: the block is released from chip reset (23 R624). -/
theorem test_step_front :
    (left (step { State.reset with pending := [.resetRelease true, .cycleBoundary] })).map (fun t => (t.m.sys.inReset, t.pending)) =
      some (false, [.cycleBoundary]) := by
  decide +kernel

/-- ADD wraps at 64 bits (19 R539): the sum of all ones and 1 is 0, and the next instruction stands 4 bytes on. -/
theorem test_add_wraps :
    (left (exec (.addR 0 5 6 7) { m := running0 (withX (withX regs0 6 (2 ^ 64 - 1)) 7 1), pending := [] })).map
      (fun t => ((xr (coreSt t.m 0) 5).toNat, (coreSt t.m 0).pc.toNat)) = some (0, 0x50000004) := by
  decide +kernel

/-- A subtraction that goes below the most negative number saturates there and sets OVF (19 R539). -/
theorem test_subs_saturates :
    (left (exec (.subs 0 5 6 7) { m := running0 (withX (withX regs0 6 (2 ^ 63)) 7 1), pending := [] })).map
      (fun t => ((xr (coreSt t.m 0) 5).toNat, (coreSt t.m 0).b.ovf)) = some (2 ^ 63, true) := by
  decide +kernel

/-- x0 discards what is written (19 R535). -/
theorem test_x0_discards :
    (left (exec (.addk 0 0 0 5) { m := cores, pending := [] })).map (fun t => (xr (coreSt t.m 0) 0).toNat) = some 0 := by
  decide +kernel

/-- The sinc3 and sinc2 sums of a constant stream are the decimation to the power of the order (10 R321, R322), and the first bit alone weighs 1. -/
theorem test_sinc_sums :
    sincSum 3 8 (List.replicate 30 true) = 512 ∧ sincSum 2 4 (List.replicate 9 false) = -16 ∧ sincSum 3 8 (List.replicate 22 true) = 512 ∧ sincSum 3 8 [true] = 1 := by
  decide +kernel

/-- A level is taken with the last of FILT samples in a row, and a sample of the level in force starts the count anew (15 R439). -/
theorem test_filter :
    [true, true, true].foldl (filterStep 3) (false, 0) = (true, 0) ∧ [true, true, false, true].foldl (filterStep 3) (false, 0) = (false, 1) := by
  decide +kernel

/-- No row of the table has bits: no word spells a command. -/
theorem test_no_words : decodeTableWord 32 0 = none ∧ State.withFetchWord State.reset 32 0 = State.reset := by
  decide +kernel

/-! ## Hypotheses met: the cores -/

/-- A core that is ready, of the pool and the supervisor: the hypothesis of IntegerInstructionsRetire, WideAndSaturatingArithmetic,
PointerOffsetAndScaleMovesRetire, AccumulatorInstructions, and of the first clauses of LoadsAndStores, BranchesCallsAndLoops,
MultiplyAccumulate (every mode), SystemInstructionsTrapAndDone. -/
theorem witness_core_ready : CoreReady cores 0 ∧ CoreReady cores 32 := by delta CoreReady; decide +kernel

/-- CoreRegistersHoldWhatIsWritten. -/
theorem witness_registers : 31 < 32 ∧ 7 < 8 ∧ 3 < 4 := by decide

/-- LoadsAndStores: an aligned access to the core's own memory, misaligned ones, and ones that the map denies. -/
theorem witness_loads_and_stores :
    (Memory.wf cores.mem = true ∧ isLocal 0 0x5000C000 = true ∧ accessFault cores 0 regs0 false true 0x5000C000 8 = none ∧
      ∀ w ∈ wordsIn 0x5000C000 8, flipsOf cores w = []) ∧
    (isLocal 32 0xFFFF8 = true ∧ accessFault cores 32 {} false true 0xFFFF8 8 = none ∧ ∀ w ∈ wordsIn 0xFFFF8 8, flipsOf cores w = []) ∧
    0x5000C001 % 2 ≠ 0 ∧
    (0x50000000 % 8 = 0 ∧ mapAllows cores 0 regs0 true 0x50000000 8 = false ∧ mapAllows cores 0 regs0 false 0x50000000 8 = false) ∧
    (mapAllows cores 32 {} true 0x100000 8 = false ∧ mapAllows cores 32 {} false 0x100000 8 = false) := by decide +kernel

/-- Registers in a loop of one instruction at the PC with `n` passes left. -/
def looping (n : Nat) (le : BitVec 32) : CoreSt :=
  { regs0 with b := { lc := BitVec.ofNat 32 n, ls := 0x50000000, le := le } }

/-- BranchesCallsAndLoops: outside a loop with a count of 0 and another, inside one, at the end of a body with passes left and on the last. -/
theorem witness_loops :
    let active (k : CoreSt) : Prop := k.b.lc ≠ 0 ∧ k.b.ls.toNat ≤ k.pc.toNat ∧ k.pc.toNat < k.b.le.toNat
    (CoreReady cores 0 ∧ ¬ active (regsAt cores 0) ∧ (xr (regsAt cores 0) 1).setWidth 32 = (0 : BitVec 32)) ∧
    (CoreReady (running0 (withX regs0 1 3)) 0 ∧ ¬ active (regsAt (running0 (withX regs0 1 3)) 0) ∧
      (xr (regsAt (running0 (withX regs0 1 3)) 0) 1).setWidth 32 ≠ (0 : BitVec 32)) ∧
    (CoreReady (running0 (looping 2 0x50000008)) 0 ∧ active (regsAt (running0 (looping 2 0x50000008)) 0)) ∧
    (∀ n ∈ [1, 2], CoreReady (running0 (looping n 0x50000004)) 0 ∧ (looping n 0x50000004).b.lc ≠ 0 ∧
      (looping n 0x50000004).pc + 4 = (looping n 0x50000004).b.le) := by
  delta CoreReady; decide +kernel

/-- Registers with pointer 0 and 1 set. -/
def pointing (u v : Nat) : CoreSt := pw (pw regs0 0 (BitVec.ofNat 32 u)) 1 (BitVec.ofNat 32 v)

/-- MultiplyAccumulate: pointers misaligned, outside the core's memory, and good ones. -/
theorem witness_pointer_operands :
    (CoreReady (running0 (pointing 4 0)) 0 ∧ (pr (pointing 4 0) 0).toNat % 8 ≠ 0) ∧
    (CoreReady (running0 (pointing 8 0)) 0 ∧ (pr (pointing 8 0) 0).toNat % 8 = 0 ∧ isLocal 0 (pr (pointing 8 0) 0).toNat = false) ∧
    (let k := pointing 0x5000C000 0x5000FFF8
     let m := running0 k
     CoreReady m 0 ∧ (pr k 0).toNat % 8 = 0 ∧ isLocal 0 (pr k 0).toNat = true ∧ (pr k 1).toNat % 8 = 0 ∧ isLocal 0 (pr k 1).toNat = true ∧
      accessFault m 0 k false false 0x5000C000 8 = none ∧ (eccRead m 0x5000C000 8 (corePort 0)) = (m, false) ∧
      accessFault m 0 k false false 0x5000FFF8 8 = none ∧ (eccRead m 0x5000FFF8 8 (corePort 0)) = (m, false)) := by
  delta CoreReady; decide +kernel

/-- AccumulatorInstructions: ALD with scale 0, and the state in which MVA gives back what it loaded. -/
theorem witness_ald :
    let q := withX regs0 1 0x7FFFFFFF80000000
    let m := running0 q
    let re : Int := ((xr q 1).setWidth 32).toInt * 2 ^ (sr q 0).toNat
    let im : Int := ((xr q 1).extractLsb' 32 32).toInt * 2 ^ (sr q 0).toNat
    let t := running0 (advance (withAovf (aw q 0 { re := heldTo 80 re, im := heldTo 80 im }) false))
    CoreReady m 0 ∧ ¬ outside 80 re ∧ ¬ outside 80 im ∧ CoreReady t 0 ∧
      regsAt t 0 = advance (withAovf (aw (regsAt m 0) 0 { re := heldTo 80 re, im := heldTo 80 im }) false) := by
  delta CoreReady outside; decide +kernel

/-- SystemInstructionsTrapAndDone and PoolCoreFaultsAndRunLimits: an item runs on core 0, none on core 1. -/
theorem witness_item_on_core :
    CoreReady cores 0 ∧ running cores 0 = some (onCore, 0) ∧ onCore.it.succs = [] ∧ onCore.it.target < 1024 ∧ running cores 1 = none := by
  delta CoreReady; decide +kernel

/-- LadleInstructions: numbers out of range; a dynamic counter with the feature, one of the graph, the feature off; a descriptor in scratch at
both ends of it, others; a template and numbers that name none. -/
theorem witness_ladle_instructions :
    let m (k : CoreSt) : Mach := running0 k
    let at_ (i : Nat) : CoreSt := withX regs0 1 i
    let graph (k : CoreSt) : Mach := put [(LADLE_GRAPH_NCNT, 0, 1)] (m k)
    let off (k : CoreSt) : Mach := put [(HIF_FEAT_DRV_DRV, 0, 1)] (m k)
    let tpl (k : CoreSt) : Mach := { m k with mould := { loaded := true, image := tplImage } }
    (∀ i ∈ [4096, 4095, 0, 0x5000C000, 0x5000FFE0, 0x5000BFE0, 0x50010000, 1], CoreReady (m (at_ i)) 0) ∧
    (feature (m (at_ 4095)) 1 = true ∧ tagGone (m (at_ 4095)) 0 = false ∧ graphCounter (m (at_ 4095)) 4095 = false) ∧
    (CoreReady (graph (at_ 0)) 0 ∧ feature (graph (at_ 0)) 1 = true ∧ tagGone (graph (at_ 0)) 0 = false ∧ graphCounter (graph (at_ 0)) 0 = true) ∧
    (CoreReady (off (at_ 0)) 0 ∧ feature (off (at_ 0)) 1 = false ∧ graphCounter (off (at_ 0)) 0 = false) ∧
    (∀ i ∈ [0x5000C000, 0x5000FFE0], i % 32 = 0 ∧ 0x50000000 + 0x10000 * 0 + 0xC000 ≤ i ∧ i < 0x50000000 + 0x10000 * (0 + 1)) ∧
    (CoreReady (tpl (at_ 0)) 0 ∧ field (sec (tpl (at_ 0)).mould.image 9) 4 4 ≤ 0 ∧ 0 < (graphRaw (tpl (at_ 0)).mould.image).length ∧
      (graphRaw (tpl (at_ 0)).mould.image).length ≤ 1) := by
  delta CoreReady; decide +kernel

/-- PrivilegedInstructionsAndSystemRegisters: a pool core, the supervisor in user mode with its code readable, and in privileged mode. -/
theorem witness_privileged :
    let user := super {} { userMode := true, ureg := [(0x10, 7), (0x11, 0x1000)] }
    CoreReady cores 0 ∧ (CoreReady user 32 ∧ (atInstr user 32).sup.userMode = true) ∧
      (CoreReady cores 32 ∧ (atInstr cores 32).sup.userMode = false) := by
  delta CoreReady; decide +kernel

/-! ## Hypotheses met: the supervisor and the host interface -/

/-- The supervisor with source 1 pending and enabled for class `cls`, its stack at 0x200. -/
def requested (cls : Nat) (p : SupSt) : Mach :=
  put [(INTC_SRC_EN, 1, 1), (INTC_SRC_CLASS, 1, cls)] { super (withX {} 30 0x200) p with intc := { pend := [1] } }

/-- InterruptEntries: each class requested and enabled, with the supervisor at work and idle; a stack outside the memory, whose push fails; a
class without a request, one that is not enabled; a supervisor that does not run; a return from the fast class. -/
theorem witness_interrupt_entries :
    (∀ idle ∈ [false, true], let m := atInstr (requested 0 { nie := true, idle := idle }) 32
     let sp := (xr (regsAt (requested 0 { nie := true, idle := idle }) 32) 30 - 64).toNat
     supRuns (requested 0 { nie := true, idle := idle }) = true ∧ (reqLine m 0 = true ∧ m.sup.nie = true ∧ m.sup.inN = false ∧ m.sup.inF = false) ∧
      Memory.wf m.mem = true ∧ sp % 8 = 0 ∧ sp + 64 ≤ 0x100000 ∧ m.memb.flips = []) ∧
    (let k : CoreSt := withX {} 30 0x100020
     let m := { requested 0 { nie := true } with cores := sput [] 32 k {} }
     supRuns m = true ∧ (atInstr m 32).sup.nie = true ∧ (pushAll k (0x100020 - 64) (List.replicate 8 0) (atInstr m 32)).isNone = true) ∧
    (∀ idle ∈ [false, true], let s := requested 1 { fie := true, idle := idle }
     let m := atInstr s 32
     supRuns s = true ∧ reqLine m 1 = true ∧ m.sup.fie = true ∧ m.sup.inF = false) ∧
    (supRuns cores = true ∧ reqLine (atInstr cores 32) 0 = false ∧ reqLine (atInstr cores 32) 1 = false) ∧
    (∀ cls ∈ [0, 1], supRuns (requested cls {}) = true ∧ (atInstr (requested cls {}) 32).sup.nie = false ∧ (atInstr (requested cls {}) 32).sup.fie = false) ∧
    supRuns State.reset.m = false ∧
    (let m := super {} { inF := true, fra := 0x40 }
     CoreReady m 32 ∧ (atInstr m 32).sup.userMode = false ∧ (atInstr m 32).sup.inF = true) := by
  delta CoreReady; decide +kernel

/-- A machine without stored bits in error has none in any word. -/
theorem flipsOf_nil (m : Mach) (h : m.memb.flips = []) : ∀ w, w < 0x100000 → flipsOf m w = [] := by
  intro w _; simp [flipsOf, h]

/-- InterruptEntries: RETF answers a next state there. -/
theorem witness_retf : ∃ t, exec (.retf 32) { m := super {} { inF := true, fra := 0x40 } } = .next t := ⟨_, rfl⟩

/-- ReturnsIdleAndUserMode: in the fast class; with and without a request; a target aligned to 4 B; a frame at both ends of the memory. -/
theorem witness_returns :
    (CoreReady (super {} { inF := true }) 32 ∧ (atInstr (super {} { inF := true }) 32).sup.userMode = false ∧ (atInstr (super {} { inF := true }) 32).sup.inF = true) ∧
    (CoreReady (requested 0 {}) 32 ∧ anyReq (atInstr (requested 0 {}) 32) = true) ∧
    anyReq (atInstr cores 32) = false ∧ (xr (regsAt cores 32) 1).toNat % 4 = 0 ∧
    (∀ sp ∈ [0, 0xFFFC0], let m := super (withX {} 30 sp) {}
      CoreReady m 32 ∧ (xr (regsAt m 32) 30).toNat % 8 = 0 ∧ (xr (regsAt m 32) 30).toNat + 64 ≤ 0x100000 ∧ m.memb.flips = [] ∧ m.memb.poison = []) := by
  delta CoreReady; decide +kernel

/-- SupervisorExceptions: outside a handler with room for the frame; inside each class. -/
theorem witness_exceptions :
    (let m := super (withX {} 30 64) {}
     let sp := (xr (coreSt m 32) 30 - 64).toNat
     m.sup.inN = false ∧ m.sup.inF = false ∧ sp % 8 = 0 ∧ sp + 64 ≤ 0x100000 ∧ m.memb.flips = []) ∧
    (super {} { inN := true }).sup.inN = true ∧ (super {} { inF := true }).sup.inF = true ∧ (super {} { inN := true }).sys.stopped = none := by
  decide +kernel

/-- A manager with a DMA window over the first 4 GiB of host memory, whose function may use the bus. -/
def host : Mach :=
  put [(SYS_STRAP_ROLE, 0, 1), (HIF_DMAW_CTRL_EN, 0, 1), (HIF_DMAW_CTRL_RD, 0, 1), (HIF_DMAW_CTRL_WR, 0, 1), (HIF_DMAW_END_HI_ADDR, 0, 1)]
    { up with hif := { up.hif with cmd := 6, msixCtl := 0x8000 } }

/-- A worker with the same window. -/
def worker : Mach := put [(SYS_STRAP_ROLE, 0, 0), (SYS_STRAP_NODE_ID, 0, 2)] host

/-- A job with parameters, and data of `n` bytes. -/
def job (ps : List Nat) (n : Nat := 0) (data : List Nat := []) : Job := { desc := { params := ps, dataAddr := 0x1000, dataLen := n }, data := data }

/-- JobChecksInOrder: a job that fails each check, with what fails it, and one that passes all. -/
theorem witness_checks :
    let d (opc : Nat) (ps : List Nat) (n : Nat) : Desc := { opcode := opc, params := ps, dataLen := n }
    let raw := put [(HIF_FEAT_ACK_DONE, 0, 0)] host
    let few := put [(HIF_FEAT_DRV_DRV, 0, 1)] host
    let closed := put [(HIF_DMAW_CTRL_EN, 0, 0)] host
    let dark := put [(SYS_PWR_STAT_ON, 0, 0xFFF)] host
    let standby := put [(PAIR_STAT_ROLE, 0, 2)] host
    let both (m : Mach) (x : Desc) (status result : Nat) : Prop := fetchCheck m x = some (status, result) ∧ descCheck m x = some (status, result)
    (jobWaits host (asJob 1 (job [])) = false ∧ host.hif.deleting = [] ∧ (job []).ring < 16) ∧
    (∀ x ∈ [{ opcode := 1, version := 3 }, { opcode := 1, rsv := 1 }, { opcode := 1, flags := 4 }, d 1 [] (2 ^ 24 + 1)],
      both host x E_HIF_BAD_DESC 0xFFFFFFFF) ∧
    (jobInfo 0xFFFF = none ∧ both host (d 0xFFFF [] 0) E_HIF_BAD_OPCODE 0xFFFFFFFF) ∧
    both raw (d 2 [] 0) E_HIF_NOT_NEGOTIATED 0xFFFFFFFF ∧ descCheck raw (d 1 [] 0) = none ∧
    both few (d 0x0E01 [] 0) E_HIF_FEATURE_OFF 0xFFFFFFFF ∧
    (let m := { worker with mould := { loaded := true, config := 1 } }
     domOff m (domOf 5) = true ∧ farAxis m (d 0x0501 [] 0) = false ∧ both m (d 0x0501 [] 0) E_SYS_ROLE_UNSUPPORTED 0xFFFFFFFF) ∧
    (isStandby standby = true ∧ both standby (d 4 [3] 0) E_HIF_STANDBY 0xFFFFFFFF) ∧
    (dmaOk closed true 0 1 = false ∧ both closed (d 1 [] 1) E_HIF_DMA_DENIED 0xFFFFFFFF) ∧
    (fetchCheck host (d 2 [8] 0) = none ∧ descCheck host (d 2 [8] 0) = some (E_HIF_BAD_PARAM, 0)) ∧
    (domOn dark 12 = false ∧ fetchCheck dark (d 0x0C02 [0] 0) = none ∧ descCheck dark (d 0x0C02 [0] 0) = some (E_SYS_DOMAIN_OFF, 0xFFFFFFFF)) ∧
    descCheck host (d 0x0C02 [0] 0) = none := by
  and_intros <;> decide +kernel

/-- JobsWithDataOut: each job that writes data passes its checks, with 16 and with no bytes of data; both ends of each range of numbers. -/
theorem witness_data_out :
    (∀ opc ∈ [0x0001, 0x0D02, 0x0301, 0x0003, 0x0F01, 0x0501, 0x0A03, 0x0E02], ∀ n ∈ [0, 16], JobRuns opc (job [] n) host) ∧
    (∀ r ∈ host.memb.log, r.length = 16) ∧
    (∀ a ∈ [0, 16], JobRuns 0x0103 (job [a, 7]) host ∧ (job [a, 7]).desc.par 0 = a) ∧
    (∀ a ∈ [0, 63], JobRuns 0x0104 (job [a, 0x1FF]) host ∧ (job [a, 0x1FF]).desc.par 0 = a ∧ sget host.hif.pend a 0 = 0) ∧
    (∀ a ∈ [0, 15], JobRuns 0x0105 (job [a, 0, 0, 0x1000, 0, 7]) host ∧ JobRuns 0x0105 (job [a, 0, 0, 0x1000, 0, 7]) { host with locks := { lim := true } }) ∧
    (∀ x ∈ [(0x0103, 17), (0x0104, 64), (0x0105, 16)],
      jobWaits host (asJob x.1 (job [x.2])) = false ∧ fetchCheck host (asJob x.1 (job [x.2])).desc = none) ∧
    host.locks.lim = false := by
  delta JobRuns; decide +kernel

/-- Ring values for a kind: CFG of 64 entries, on completion ring 1, in-streams with elements of 16 B. -/
def ringValue (kind : Nat) : Nat := if kind = 0 then 0x10006 else if kind = 3 then 0x40000006 else 6

/-- RingsAreCreatedAndStopped: a ring of each kind, the first and the last, created, enabled by register, deleted and disabled; a telemetry
stream. -/
theorem witness_rings :
    (∀ x ∈ [(0, 1), (1, 2), (2, 1), (3, 0), (0, 15), (1, 15), (2, 3), (3, 31)],
      let m := put [(HIF_CPL_CTRL_STATE, 1, 1)] host
      let j := job [x.1 + 256 * x.2, ringValue x.1, 0x1000, 0]
      let regs := putReg m 1 (ringOff x.1 x.2 + 8) (ringValue x.1)
      let on := put [(rState x.1, x.2, 1), (rEn x.1, x.2, 1)] m
      x.1 < 4 ∧ x.2 < rCount x.1 ∧ (x.2 = 0 → x.1 = 3) ∧ JobRuns 0x0101 j m ∧ j.desc.par 0 = x.1 + 256 * x.2 ∧ j.desc.dataLen = 0 ∧
        andNot (j.desc.par 6) 0x71F = 0 ∧ andNot (j.desc.par 1) 0xF73F3F1F = 0 ∧
        createFails m x.1 x.2 (j.desc.par 1) (j.desc.par 2 + j.desc.par 3 * 2 ^ 32) (j.desc.par 4 + j.desc.par 5 * 2 ^ 32) (j.desc.par 6) = none ∧
        getF regs HIF_STATUS_READY = 1 ∧ isOut regs x.2 = false ∧
        createFails regs x.1 x.2 (ringCfg regs x.1 x.2) (ringBase regs x.1 x.2)
          (getF regs HIF_STR_WB_LO_ADDR x.2 * 8 + getF regs HIF_STR_WB_HI_ADDR x.2 * 2 ^ 32) (getF regs HIF_STR_AUX_DECIM x.2 * 256) = none ∧
        (∀ c, c < 16 → ringOn on 0 c = true → x.1 = 1 → getF on HIF_CMD_CFG_CQ c ≠ x.2) ∧ JobRuns 0x0102 (job [x.1 + 256 * x.2]) on ∧
        ringBusy (dropFlight on (asJob 0x0102 (job [x.1 + 256 * x.2]))) x.2 = false ∧ getF on HIF_STATUS_READY = 1 ∧ getF on (rState x.1) x.2 ≠ 0) ∧
    (let j := job [3, 0x51000006, 0x1000, 0, 8, 0, 0x600] 32
     JobRuns 0x0101 j host ∧ andNot (j.desc.par 6) 0x71F = 0 ∧ andNot (j.desc.par 1) 0xF73F3F1F = 0 ∧
      createFails host 3 0 (j.desc.par 1) (j.desc.par 2 + j.desc.par 3 * 2 ^ 32) (j.desc.par 4 + j.desc.par 5 * 2 ^ 32) (j.desc.par 6) = none) := by
  delta JobRuns; decide +kernel

/-! ## Hypotheses met: rings, interrupts, the Ladle -/

/-- Ring `k` of a kind enabled with 64 entries at host address 0x1000, and completion ring 1. -/
def ringK (kind k : Nat) (l : List (Fld × Nat × Nat)) : Mach :=
  put ([(HIF_CPL_CTRL_STATE, 1, 1), (rLog 1, 1, 6), (HIF_CMD_CFG_CQ, k, 1), (rState kind, k, 1), (rEn kind, k, 1), (rLog kind, k, 6), (rBaseLo kind, k, 1)] ++ l) host

/-- DoorbellsAndDescriptors: producer and consumer indices at the first and the last value, the present one, one out of range; a fetch with and
without a window. -/
theorem witness_doorbells :
    (∀ x ∈ [(0, 15), (3, 31)], let m := ringK x.1 x.2 []
      ringOn m x.1 x.2 = true ∧ (x.1 = 3 → isOut m x.2 = false) ∧ ringSize m x.1 x.2 = 64 ∧ getF m (rTail x.1) x.2 = 0) ∧
    (∀ x ∈ [(1, 15), (2, 3), (3, 31)], let m := ringK x.1 x.2 [(rTail x.1, x.2, 63), (HIF_STR_CFG_DIR, 31, 1)]
      ringOn m x.1 x.2 = true ∧ (x.1 = 3 → isOut m x.2 = true) ∧ ringSize m x.1 x.2 = 64 ∧ ringUsed m x.1 x.2 = 63 ∧ getF m (rHead x.1) x.2 = 0) ∧
    ringOn host 0 0 = false ∧ hostSees host = true ∧ hostSees up = false ∧
    (let m := ringK 1 15 [(rTail 1, 15, 1)]
     ringUsed m 1 15 < (2 + ringSize m 1 15 - getF m (rHead 1) 15) % ringSize m 1 15) ∧
    (let m := ringK 0 3 [(rTail 0, 3, 1)]
     let b := leBytes 2 1 ++ [0, 2] ++ List.replicate 60 0
     pickRing m = some 3 ∧ getF m HIF_CMD_HEAD_INDEX 3 < ringSize m 0 3 ∧ ringSize m 0 3 ≤ 2 ^ 16 ∧ ringUsed m 0 3 = 1 ∧ jobsInFlight m = 0 ∧
      dmaOk m false (ringBase m 0 3) 64 = true ∧ fetchCheck (setF m HIF_CMD_HEAD_INDEX 3 1) (descOf b) = none ∧ (descOf b).opcode = 1) ∧
    (let m := put [(HIF_DMAW_CTRL_EN, 0, 0)] (ringK 0 3 [(rTail 0, 3, 1)])
     pickRing m = some 3 ∧ dmaOk m false (ringBase m 0 3) 64 = false) := by
  decide +kernel

/-- CompletionAndEventEntries: a finished job and an event, each with room at its ring's last place. -/
theorem witness_entries :
    (let c : Compl := { tag := 7 }
     let m0 := ringK 1 0 [(rTail 1, 0, 63), (rHead 1, 0, 5)]
     let m := { m0 with hif := { m0.hif with compl := [c] } }
     m.hif.compl.find? (fun c => getF m HIF_CMD_CFG_CQ c.ring == 1 && !complWaits m c) = some c ∧ ringUp m 1 1 = true ∧ ringFree m 1 1 ≠ 0 ∧ ringSize m 1 1 ≤ 2 ^ 16 ∧
      m.hif.deleting = [] ∧ dmaOk m true (ringBase m 1 1 + 16 * getF m HIF_CPL_TAIL_INDEX 1) 16 = true) ∧
    (let e : Ev := { code := 0x101 }
     let m0 := ringK 2 3 [(rTail 2, 3, 63), (rHead 2, 3, 5)]
     let m := { m0 with hif := { m0.hif with held := [(3, e)], lost := [3] } }
     m.hif.held.find? (fun x => x.1 == 3) = some (3, e) ∧ ringUp m 2 3 = true ∧ ringFree m 2 3 ≠ 0 ∧ ringSize m 2 3 ≤ 2 ^ 16 ∧
      dmaOk m true (ringBase m 2 3 + 16 * getF m HIF_EVT_TAIL_INDEX 3) 16 = true) := by
  decide +kernel

/-- A model with one group of one axis, of slot 0 of this node. -/
def oneAxis (node : Nat) : MouldSt :=
  { loaded := true, config := 1, nodes := [{ node := node, role := 1 }], axes := [{ axis := 0, node := node, slot := 0 }],
    groups := [{ group := 0, axes := 1, cfg := 0, kt := 1, ovr := 1 }], axLims := [{ axis := 0, vmax := 1, amax := 1, jmax := 1 }] }

/-- The manager with that model. -/
def celled : Mach := { host with mould := oneAxis 0 }

/-- StreamBlocks: a block too far ahead, one 64 cycles ahead, one for the present cycle, one for a cycle that has a block; a telemetry stream
with room and without, and with no window. -/
theorem witness_streams :
    (∀ tag ∈ [65, 64, 1, 0], let m := { ringK 3 31 [(rTail 3, 31, 1)] with mould := oneAxis 0 }
      let e := List.replicate 12 0 ++ leBytes 2 tag ++ [0, 1]
      ringUp m 3 31 = true ∧ isOut m 31 = false ∧ 31 ∉ m.run.unbound ∧ [e].length = (groupAxes m (getF m HIF_STR_AUX_GROUP 31)).length ∧ 1 ≤ ringUsed m 3 31 ∧
        mirrors m = false ∧ dmaOk m false (ringBase m 3 31 + entrySize m 3 31 * getF m HIF_STR_HEAD_INDEX 31) 16 = true ∧
        resolveTag m.cyc.n (elOf e).tag = tag ∧ blockFormed [elOf e] = true ∧ m.hif.snapped = none ∧ blockHere m 31 tag = false ∧
        blockHere { m with hif := { m.hif with blocks := [{ ring := 31, cycle := tag, els := [] }] } } 31 tag = true) ∧
    (∀ tail ∈ [0, 63], let m := ringK 3 31 [(rTail 3, 31, tail), (HIF_STR_CFG_DIR, 31, 1), (HIF_STR_CFG_ESIZE, 31, 5)]
      let slot := ringBase m 3 31 + entrySize m 3 31 * (tail % ringSize m 3 31)
      getF m HIF_STR_CTRL_ENABLE 31 = 1 ∧ ringOn m 3 31 = true ∧ isOut m 31 = true ∧ getF m HIF_STR_CFG_SRC 31 = 0 ∧
        m.cyc.n % 2 ^ getF m HIF_STR_AUX_DECIM 31 = 0 ∧ ringSize m 3 31 ≤ 2 ^ 16 ∧ (maskedAxes m 31).filterMap (axisRec m) = [] ∧
        busMaster m = true ∧ busMaster up = false ∧ (tail = 0 → 1 ≤ ringFree m 3 31) ∧ (tail = 63 → ringFree m 3 31 < 1) ∧ dmaOk m true slot (entrySize m 3 31) = true ∧
        dmaOk (put [(HIF_DMAW_CTRL_EN, 0, 0)] m) true slot (entrySize m 3 31) = false ∧
        dmaOk m true (getF m HIF_STR_WB_LO_ADDR 31 * 8 + getF m HIF_STR_WB_HI_ADDR 31 * 2 ^ 32) 8 = true) := by
  decide +kernel

/-- MessagesAndNegotiation: entries pending on a vector, masked and not; a message pending at vector 63; GO given and not; DONE due. -/
theorem witness_negotiation :
    (∀ mask ∈ [0, 1], let m := put [(HIF_COAL_TIME, 63, 5)] { host with hif := { pend := [(63, 1)], msix := sput [] 255 mask 1, cmd := 6, msixCtl := 0x8000 } }
      getF m HIF_COAL_TIME 63 ≠ 0 ∧ sget m.hif.pend 63 0 ≠ 0 ∧ sget m.hif.msix (4 * 63 + 3) 1 % 2 = mask ∧ msixOn m = true) ∧ msixOn up = false ∧
    (let m := { host with hif := { host.hif with pba := 2 ^ 63 } }
     msixOn m = true ∧ blockOn m 1 = true ∧ 63 < 64 ∧ m.hif.pba.testBit 63 = true ∧ m.hif.pba.testBit 0 = false) ∧
    (blockOn host 1 = true ∧ getF host HIF_STATUS_READY = 1 ∧ (2 ^ 31).testBit 31 = true ∧ host.hif.gone = false) ∧
    (let m := put [(HIF_FEAT_ACK_DONE, 0, 0)] { host with hif := { gone := true, latched := [7, 0, 0, 0] } }
     getF m HIF_STATUS_READY = 1 ∧ m.hif.gone = true ∧ getF m HIF_FEAT_ACK_DONE = 0) := by
  decide +kernel

/-- HifResetsAndTheLink: the block out of reset with HIF on, PERST# de-asserted or asserted, the configuration space loaded or not, the PCIE unit off, a job
in flight, an enabled ring. -/
theorem witness_link :
    let j : Job := { ring := 2, head := 1 }
    let m0 := ringK 0 2 []
    let m := { m0 with hif := { m0.hif with inflight := [j] } }
    { m.hif with perstLow := true }.perstLow = true ∧ { m.hif with cfgLoaded := true }.cfgLoaded = true ∧ m.hif.cfgLoaded = false ∧
    m.sys.inReset = false ∧ domOn m dHIF = true ∧ m.hif.perstLow = false ∧ unitOn m uPCIE = false ∧ m.hif.inflight.find? (fun j => j.ring == 2 && j.head == 1) = some j ∧
      ringOn m 0 2 = true := by
  decide +kernel

/-- ClaimsAndCompletions: source 1 best of each class; one in service of each class, and another number. -/
theorem witness_claims :
    (∀ cls ∈ [0, 1], let m := levels (requested cls {})
      m.intc.pend.Pairwise (· < ·) ∧ m.intc.insvN = 0 ∧ m.intc.insvF = 0 ∧ 1 ∈ m.intc.pend ∧ getF m INTC_SRC_EN 1 = 1 ∧ getF m INTC_SRC_CLASS 1 = cls ∧
        inService m 1 = false ∧ ∀ x ∈ m.intc.pend, getF m INTC_SRC_EN x = 1 → getF m INTC_SRC_CLASS x = cls → x ≤ 1) ∧
    (∀ x ∈ (levels host).intc.pend, getF host INTC_SRC_EN x = 0) ∧
    (let m := { host with intc := { insvN := 511, insvF := 1 } }
     511 < 512 ∧ m.intc.insvN = 511 ∧ m.intc.insvN ≠ 1 ∧ m.intc.insvF = 1 ∧ m.intc.insvN ≠ 2 ∧ m.intc.insvF ≠ 2) := by
  decide +kernel

/-- PendingBitsAndExternalLines: the last source; the first and the last external line, of either type, accepted active before or not. -/
theorem witness_external_lines :
    (511 / 32 = 15 ∧ (2 ^ 31).testBit (511 % 32) = true) ∧
    (∀ n ∈ [320, 386], ∀ typ ∈ [0, 1], let m := put [(INTC_SRC_TYPE, n, typ), (INTC_SRC_FILT, n, 3), (INTC_SRC_POL, n, 0)] { host with intc := { extHigh := [386] } }
      320 ≤ n ∧ n ≤ 386 ∧ getF m INTC_SRC_TYPE n = typ ∧ getF m INTC_SRC_FILT n = 3 ∧ (true != (getF m INTC_SRC_POL n == 1)) = true ∧ (n = 320 → (n ∈ m.intc.extHigh ↔ true = false)) ∧
        (n = 386 → (n ∈ m.intc.extHigh ↔ true = true))) := by
  decide +kernel

/-- CountersSaturateAndEdgesMerge: a counter at its top, a source pending and not, a field of another key. -/
theorem witness_counters :
    (let m := put [(INTC_MERGE_CNT_CNT, 0, 65535)] { host with intc := { pend := [5] } }
     getF m INTC_MERGE_CNT_CNT = 65535 ∧ 5 ∈ m.intc.pend ∧ 6 ∉ m.intc.pend ∧ INTC_BAD_CNT_CNT.key 0 ≠ INTC_MERGE_CNT_CNT.key 0) := by
  decide +kernel

/-- GraphAndDispatch: a graph not yet opened in the cycle; opened; without a graph. The only ready item, for core 31, with a valid kernel. -/
theorem witness_graph :
    (let m := { celled with ladle := { tpl := [{}] } }
     m.mould.loaded = true ∧ m.ladle.tpl ≠ [] ∧ m.ladle.opened = false ∧ m.cyc.skip = false ∧ runsRunner m = true ∧ computesAlone m = true ∧ domOn m dRUN = true) ∧
    (host.ladle.tpl = []) ∧
    (let f : Flight := { it := { home := 31, affinity := 2 ^ 31, target := 511 }, st := .ready 0 0 }
     let m0 := put [(LADLE_CTRL_EN, 0, 1)] { host with ladle := { items := [f] } }
     let m := wrBytes m0 (32 * 511) (leBytes 2 0x2000 ++ [1, 0] ++ leBytes 4 (2 ^ 31))
     let e := ktabEntry m f.it.target
     getF m LADLE_CTRL_EN = 1 ∧ domOn m dRUN = true ∧ m.ladle.items = [f] ∧ f.it.kind = 0 ∧ f.it.affinity.testBit 31 = true ∧ coreOn m 31 = true ∧ unitOn m uLADLE = false ∧
      m.cyc.now ≤ 100 ∧ 100 + 32 - 0 < 48 * 2 ^ 15 ∧ (field e 2 1).testBit 0 = true ∧ (field e 4 4).testBit 31 = true ∧ f.it.target < 512) := by
  decide +kernel

/-- CountersAndSubmissions: a dynamic counter at its ends; a descriptor that is accepted at once, and one that is refused. -/
theorem witness_submissions :
    (let m := put [(LADLE_CNT_IDX_IDX, 0, 4095)] { host with ladle := { cnt := [(4095, 65535)] } }
     let c := getF m LADLE_CNT_IDX_IDX
     blockOn m 3 = true ∧ graphCounter m c = false ∧ feature m 1 = true ∧ (∀ f ∈ m.ladle.items, f.it.cnt ≠ some c) ∧ counter m c < 2 ^ 16 ∧ 65535 ≤ counter m c) ∧
    (counter host (getF host LADLE_CNT_IDX_IDX) = 0 ∧ graphCounter host 0 = false) ∧
    (let d : List Nat := [0, 0, 5, 0, 1, 0, 0, 0] ++ List.replicate 12 255 ++ List.replicate 12 0
     let m := put [(LADLE_CTRL_MODE, 0, 0)] host
     d.length = 32 ∧ subCheck m d (itemOf d []) false false = 0 ∧ (itemOf d []).kind = 0 ∧ (itemOf d []).cnt = none ∧ unitOn m uLADLE = false ∧
      (∀ f ∈ m.ladle.items, f.num < m.ladle.num) ∧ subCheck host (List.replicate 32 0) (itemOf (List.replicate 32 0) []) false false ≠ 0) := by
  decide +kernel

/-! ## A signed image -/

/-- The header and the segment table of an image of one segment under a key made for this test. -/
def signedHeader (magic len entry size : Nat) : List Nat :=
  leBytes 4 magic ++ leBytes 2 1 ++ [0, 0] ++ leBytes 4 len ++ leBytes 4 7 ++ leBytes 4 1 ++ leBytes 4 entry ++ leBytes 2 1 ++ List.replicate 38 0 ++
    beBytes 48 0x5c1048b4cefb624d2277b2409db708c5f5340e630ca7f91fbb7750a14638336cb8bf3e9e05652f1718b23a0308f88e7b ++
    beBytes 48 0xd7b7b3704c1defb02711f8634afe9bb13058a35985f839c8fe72b43ae75138452b785be1577722b6ebe4ee06ac58e218 ++
    List.replicate 96 0 ++ leBytes 4 entry ++ leBytes 4 size ++ leBytes 4 272 ++ leBytes 4 0

/-- A firmware image of one segment of 16 B, signed outside the model with ECDSA over P-384. -/
def fwImage : List Nat :=
  signedHeader 0x4C4E4657 512 0x1000 16 ++ (List.range 16).map (· + 1) ++ List.replicate 128 0 ++ beBytes 48 0x33170b0036f4d753fc66dd9a24dab12fe3e141378750bfe991842cafc23a67568ed5830cfb028396c00e54e8161d3800 ++
    beBytes 48 0x7371aa617a92778cefd9a2f6be43b83d985729ecad0b0d0a1644e6ac58130e854bca7ade5655b47e06b5355343070fce

/-- The hash of the key, as SHA-384 implementations give it. -/
def keyHash : List Nat := beBytes 48 0xbb279c9c1925b01a27f87ba73ec737a17b51cc13e2896bf296f4f23f24c0447134f3f662840ff14bc5d52004a82857ab

/-- SHA-384 of "abc" is the value that FIPS 180 gives. -/
theorem test_sha384_abc : sha384 [0x61, 0x62, 0x63] =
    beBytes 48 0xcb00753f45a35e8bb5a03d699ac65007272c32ab0eded1631a8b605a43ff5bed8086072ba1e7cc2358baeca134c825a7 := by
  decide +kernel

/-- Boot after discovery, with the hash of the key in the fuses, and the image in the working store. -/
def bootM : Mach :=
  { put [(SYS_STRAP_VALID, 0, 1), (SYS_BOOT_STAT_PHASE, 0, 2), (SYS_BOOT_LEN_LEN, 0, 512), (SYS_FUSE_KEY_VALID, 0, 1), (HIF_STATUS_READY, 0, 0)] up with
    sys := { inReset := false, hash := [keyHash] } }

/-- The image passes every step of its authentication: a hash and a signature made outside the model. -/
theorem test_fw_accepted : imgFail bootM false fwImage = 0 := by decide +kernel

/-- An image with one bit of its version changed fails in its signature. -/
theorem test_fw_version_flipped : imgFail bootM false (fwImage.set 12 6) = 5 := by decide +kernel

/-! ## Hypotheses met: the system, boot, tests, memory, registers -/

/-- WatchdogAndResetRequests: the watchdog running, at its period and before it; a chip reset request with the key, without it, without its bit;
the block in reset. -/
theorem witness_watchdog :
    (let m := put [(SYS_WDT_CFG_PER, 0, 1)] { up with sys := { inReset := false, wdtOn := true, wdtAt := 5 } }
     m.sys.wdtOn = true ∧ m.sys.stopped = none ∧ m.sys.inReset = false ∧ m.sys.wdtAt + 800000 * getF m SYS_WDT_CFG_PER ≤ 800005 ∧
      800004 < m.sys.wdtAt + 800000 * getF m SYS_WDT_CFG_PER) ∧ 0 ≠ 0xC3A5 ∧
    (Nat.testBit 0xA501 0 = true ∧ bits 0xA501 8 8 = 0xA5 ∧ Nat.testBit 0xA401 0 = true ∧ bits 0xA401 8 8 ≠ 0xA5 ∧ Nat.testBit 0xA500 0 = false) ∧
    State.reset.m.sys.inReset = true := by
  decide +kernel

/-- ResetsStartAnew: each reset asked for; a block that may be reset, two that may not, one in use; one about to be done. -/
theorem witness_resets :
    (let c : Compl := { tag := 3, ring := 15 }
     let m := { host with sys := { host.sys with chipRst := some 1, stopped := some 2, resetting := [(12, c)] } }
     m.sys.chipRst = some 1 ∧ (∀ per ∈ [0, 1], getF (setF m SYS_CTRL_RECOVER_MS 0 per) SYS_CTRL_RECOVER_MS = per) ∧ m.sys.resetting = [(12, c)] ∧ m.hif.deleting = [] ∧
      c.ring < 16 ∧ c.quiet = false) ∧ host.sys.resetting = [] ∧
    (∀ b ∈ [3, 5, 6, 7, 8, 9, 10, 11, 12, 14], JobRuns 0x0004 (job [b]) host) ∧ anyEnabled host = false ∧ getF host TWI_STATUS_STATE = 0 ∧
    (∀ b ∈ [0, 1, 2, 4, 13, 15, 17], jobWaits host (asJob 0x0004 (job [b])) = false ∧ fetchCheck host (asJob 0x0004 (job [b])).desc = none) ∧
    (let m := put [(AXL_SUMMARY_ENABLED, 0, 1)] host
     JobRuns 0x0004 (job [7]) m ∧ anyEnabled m = true) ∧
    (∀ st ∈ [3, 4], JobRuns 0x0004 (job [14]) (put [(TWI_STATUS_STATE, 0, st)] host)) := by
  delta JobRuns; decide +kernel

/-- PowerDomainsAndSideband: the Tap's domain off and to be switched on, on and to be switched off while it captures, and in transition, to on and to off, with a byte that goes; the three
cases of a record. -/
theorem witness_domains :
    (let m := put [(SYS_PWR_CTRL_ON, 0, 0xFFF), (SYS_PWR_STAT_ON, 0, 0xFFF)] host
     let on := getF m SYS_PWR_CTRL_ON
     m.sys.inReset = false ∧ on.testBit 12 = false ∧ on < 2 ^ 14 ∧ domOff m 12 = false ∧ m.sys.trans = [] ∧ (getF m SYS_PWR_STAT_ON).testBit 12 = false) ∧
    (let m := put [(TAP_STAT_STATE, 0, 2)] host
     let on := getF m SYS_PWR_CTRL_ON
     on.testBit 12 = true ∧ on < 2 ^ 14 ∧ getF m TAP_STAT_STATE ≠ tIdle) ∧
    (let m := put [(SYS_PWR_STAT_ON, 0, 0xFFF)] { host with sys := { host.sys with trans := [(12, true)] } }
     m.sys.trans = [(12, true)] ∧ getF m SYS_PWR_STAT_ON < 2 ^ 14) ∧
    (∀ d ∈ [5, 6, 7, 12], inDomain d (match d with | 5 => 0x50000000 | 6 => 0x501FFFFF | 7 => 0x303FFFFF | _ => 0x20000000) = true ∧
      { host with sys := { host.sys with trans := [(d, false)] } }.sys.trans = [(d, false)]) ∧
    (host.sys.alert = false ∧ getF host HIF_STATUS_READY = 1 ∧ getF (setF host HIF_STATUS_READY 0 0) HIF_STATUS_READY ≠ 1) := by
  decide +kernel

/-- StrapsAndJtag: a valid combination of straps and an invalid one; the TEST_EN strap at either level. -/
theorem witness_straps :
    host.sys.inReset = false ∧ strapsValid 1 0 true false = true ∧ strapsValid 33 0 false false = true ∧ strapsValid 63 3 true false = false ∧ 63 < 64 ∧ 3 < 4 ∧
    (∀ v ∈ [0, 1], getF (setF host SYS_STRAP_TEST_EN 0 v) SYS_STRAP_TEST_EN = v) := by
  decide +kernel

/-- BootAuthenticatesFirmware, but for the image over PCIe that is accepted (`witness_boot_pcie`): discovery; an image that is accepted (`test_fw_accepted`) and one that is not, from
the first copy and from the second; over PCIe; the model region erased, and not a model. -/
theorem witness_boot :
    (booting bootM = true ∧ bootM.sys.pcie = false ∧ getF bootM SYS_BOOT_STAT_PHASE = 2 ∧ bootM.sys.bootTries = 0 ∧ getF bootM SYS_STRAP_BOOT_SRC = 0 ∧
      imgFail bootM false [] ≠ 0) ∧
    (let m := setF bootM SYS_BOOT_STAT_PHASE 0 0
     booting m = true ∧ getF m SYS_BOOT_STAT_PHASE = 0 ∧ 4 ≤ longestRun ([false, true, true, true, true].take 16) 0 0) ∧
    (let m := { bootM with sys := { bootM.sys with bootTries := 1, pcie := true } }
     let m1 := setF m SYS_BOOT_LEN_LEN 0 512
     booting m = true ∧ m.sys.bootTries = 1 ∧ m.sys.pcie = true ∧ imgFail m1 false (rdBytes m1 0x10000000 (getF m1 SYS_BOOT_LEN_LEN)) ≠ 0) ∧
    (let m := setF bootM SYS_BOOT_STAT_PHASE 0 4
     booting m = true ∧ getF m SYS_BOOT_STAT_PHASE = 4 ∧ field [255, 255, 255, 255] 0 4 = 0xFFFFFFFF ∧ field [] 0 4 ≠ 0xFFFFFFFF ∧ imgFail m true [] ≠ 0) := by
  decide +kernel

/-- A commissioning node: the mirror shows COMMISSIONING and is fresh. -/
def testM (unlock : Nat) (l : List (Fld × Nat × Nat)) : Mach :=
  put ([(SAFE_MIR_STAT_MIRROR_STALE, 0, 0), (TEST_STAT_UNLOCK, 0, unlock)] ++ l) { host with safe := { mir := [0, 0, 0, 0, 0, 0, 0, 0, 3] } }

/-- TestUnlockAndUnits: locked at each step of the key; unlocked with the unit off, and on; the job locked and unlocked. -/
theorem witness_test_units :
    (∀ n ∈ [0, 1, 2], let m := { testM 0 [] with test := { step := n, port := 1, at_ := 5 } }
      getF m TEST_STAT_UNLOCK = 0 ∧ commissioning m = true ∧ m.test.step = n ∧ m.test.port = 1 ∧ 800005 ≤ m.test.at_ + 800000) ∧
    (getF (testM 2 []) TEST_STAT_UNLOCK = 2 ∧ getF (testM 2 []) TEST_CTRL_EN = 0) ∧
    (let m := testM 2 [(TEST_CTRL_EN, 0, 2 ^ uPCIE), (TEST_STAT_ACTIVE, 0, 2 ^ uPCIE)]
     getF m TEST_STAT_UNLOCK = 2 ∧ getF m TEST_CTRL_EN = 2 ^ uPCIE ∧ getF m TEST_STAT_ACTIVE = 2 ^ uPCIE) ∧
    (JobRuns 0x1001 (job []) (testM 0 []) ∧ getF (testM 0 []) TEST_STAT_UNLOCK = 0) ∧
    (let j := job [] 64 [6, 1, 0, 0]
     JobRuns 0x1001 j (testM 2 []) ∧ getF (testM 2 []) TEST_STAT_UNLOCK ≠ 0 ∧ j.desc.dataLen = 64 ∧ j.data = [6, 1, 0, 0]) := by
  delta JobRuns; decide +kernel

/-- ScrubbingCorrectsAndPoisons: the scrubber on at its first and last line but one, with and without write-back; in Crucible memory while the window
is open; a word due and none; the period with the pass ended and not. -/
theorem witness_scrub :
    (∀ line ∈ [0, 786430], let m := put [(MEM_CTRL_SCRUB_EN, 0, 1), (MEM_CTRL_WB_EN, 0, 1), (MEM_SCRUB_STAT_LINE, 0, line)] host
      getF m MEM_CTRL_SCRUB_EN = 1 ∧ m.memb.ended = false ∧ getF m MEM_SCRUB_STAT_REGION = 0 ∧ getF m MEM_SCRUB_STAT_LINE + 1 < 786432 ∧ m.memb.flips = [] ∧
        m.memb.poison = [] ∧ getF m MEM_CTRL_WB_EN = 1) ∧ (0 < 78 ∧ 78 < 79 ∧ 79 < 80) ∧
    (let m := put [(MEM_CTRL_SCRUB_EN, 0, 1), (MEM_SCRUB_STAT_REGION, 0, 2), (CRUC_STATUS_WINDOW, 0, 1)] { host with memb := { due := [64], ended := true } }
     getF m MEM_CTRL_SCRUB_EN = 1 ∧ getF m MEM_SCRUB_STAT_REGION = 2 ∧ getF m CRUC_STATUS_WINDOW = 1 ∧ 64 ∈ m.memb.due ∧ 0 ∉ m.memb.due ∧ m.memb.ended = true) := by
  decide +kernel

/-- RegisterFieldsTakeWrites: a field of each access code, which holds no more than its width, with its lock set and not set. -/
theorem witness_fields :
    (∀ x ∈ [(MEM_CTRL_SCRUB_EN, Acc.rw), (MEM_FLAGS_SCRUB_LATE, .w1c), (INTC_PEND_SET_SET, .w1s), (INTC_BAD_CNT_CNT, .cnt), (SYS_PWR_STAT_ON, .ro), (PWR_COMMIT_GO, .wo),
        (TWI_SU_CFG_AUTO, .rwlCfg), (PWR_MAX_DUTY_MAX, .rwlLim), (TWI_MODE_CLASS_CLASS, .rwlSch)],
      x.1.acc = x.2 ∧ x.1 ≠ TIME_CTRL_AUTO_SWITCH ∧ getF host x.1 0 < 2 ^ x.1.w) ∧
    (∀ b ∈ [false, true], ∀ f ∈ [TWI_SU_CFG_AUTO, PWR_MAX_DUTY_MAX, TWI_MODE_CLASS_CLASS],
      fieldLocked { host with locks := { cfg := b, lim := b, sch := b } } f = b) ∧
    MEM_CTRL_SCRUB_EN.key 0 ≠ SYS_PWR_STAT_ON.key 0 := by
  decide +kernel

/-- RegisterAccesses: the block on and out of reset; the working store open and locked, with bytes up to its last; every block of a register
write off. -/
theorem witness_accesses :
    hostSees host = true ∧ host.memb.poison = [] ∧ (∀ o, o < 8 → (outSt host o).ending = false) ∧
    (let m := put [(SYS_PWR_STAT_ON, 0, 1)] host
     m.sys.inReset = false ∧ ∀ b ∈ [1, 3, 7, 8, 9, 10, 11, 12, 14], blockOn m b = false) ∧
    host.sys.inReset = false ∧ domOn host 4 = true ∧ domOn host dHIF = true ∧ domOn host dTIME = true ∧ anyEnabled host = false ∧ host.locks.sch = false ∧
    Memory.wf host.mem = true ∧ unitOn host uFAB = false ∧ host.test.fab = [] ∧ host.memb.flips = [] ∧ host.locks.cfg = false ∧
    (0x17FFFFF + [1].length ≤ 0x1800000 ∧ [1] ≠ ([] : List Nat)) ∧ ({ host with locks := { cfg := true } } : Mach).locks.cfg = true := by
  decide +kernel

/-! ## Hypotheses met: motion -/

/-- The group of the small cell, of a kind. -/
def unitK (kind : Nat) : GroupRec := { group := 0, kind := kind, axes := 1, cfg := 0, kt := 1, ovr := 1 }

/-- A manager with one axis of group 0, of a kind, on node `node`, slot `slot`. -/
def cellK (kind : Nat) : Mach := { host with mould := { oneAxis 0 with groups := [unitK kind] } }

/-- The cell with the state of group 0. -/
def withGrp (m : Mach) (x : GrpSt) : Mach := { m with run := { m.run with grps := [(0, x)] } }

/-- MotionJobsAndSharedStarts, MOVE jobs: a point-to-point move with room for its descriptor and without, of too short data; a path of one item that is
whole, and one that is not; a spline of one interval. -/
theorem witness_moves :
    (∀ k ∈ [0, 1, 3], let m := cellK k
      JobRuns 0x0601 (job [0, 0, 2 ^ 30, 2 ^ 30] 8) m ∧ groupRec m 0 = some (unitK k) ∧ (unitK k).set = 0xFF ∧ (unitAxes m (unitK k)).length = 1 ∧
        streamBusy m (unitK k) = false ∧ (1 + 11) / 12 ≤ (freeDescs m (unitK k)).length) ∧
    (let m := withGrp (cellK 0) { com := { segs := [{ ix := List.range 256 }] } }
     JobRuns 0x0601 (job [0, 0] 8) m ∧ streamBusy m (unitK 0) = false ∧ (freeDescs m (unitK 0)).length < (1 + 11) / 12) ∧
    JobRuns 0x0601 (job [0, 0] 7) (cellK 0) ∧
    (let it (v : Nat) : List Nat := [1, 0, 0, 0] ++ List.replicate 12 0 ++ leBytes 4 (2 ^ 30) ++ List.replicate 24 0 ++ leBytes 4 v ++ leBytes 4 1 ++ leBytes 4 1 ++ leBytes 4 1 ++ List.replicate 4 0
     let m := cellK 1
     (∀ v ∈ [0, 2 ^ 31], JobRuns 0x0602 (job [0, 1] 64 (it v)) m) ∧ pathFault m (unitK 1) true (records (it 0) 0 64 1) = none ∧
      pathFault m (unitK 1) true (records (it (2 ^ 31)) 0 64 1) = some 0 ∧ 1 ≤ (freeDescs m (unitK 1)).length ∧ streamBusy m (unitK 1) = false) ∧
    (let m := cellK 0
     (∀ iv ∈ [1, 65535], JobRuns 0x0603 (job [0, 0, iv] 8) m) ∧ 8 / (8 * 1) * ((1 + 11) / 12) ≤ (freeDescs m (unitK 0)).length) := by
  delta JobRuns; and_intros <;> decide +kernel

/-- MotionJobsAndSharedStarts, jobs on a unit: a stream bound at rest and not at rest; hold, resume in and out of a ramp, override in and out of range,
stop; the shared start cleared and armed, and its line. -/
theorem witness_units :
    (let m := put [(HIF_STR_CTRL_STATE, 1, 1)] (cellK 0)
     JobRuns 0x0604 (job [0, 1]) m ∧ getF m HIF_STR_CTRL_STATE 1 = 1 ∧ getF m HIF_STR_CFG_DIR 1 = 0 ∧ getF m HIF_STR_AUX_GROUP 1 = 0 ∧
      streamBusy m (unitK 0) = false ∧ atRest (grp m 0).com = true ∧ queueView m 0 = [] ∧ atRest (grp (withGrp m { com := { vel := [1] } }) 0).com = false) ∧
    (∀ fh ∈ [false, true], let m := withGrp (cellK 0) { com := { fh := fh } }
      JobRuns 0x0605 (job [1]) m ∧ maskUnits m 1 = some [unitK 0] ∧ JobRuns 0x0606 (job [1]) m ∧ JobRuns 0x0608 (job [1]) m ∧ (grp m 0).com.fh = fh ∧
        (grp m 0).com.mode ≠ 3 ∧ (grp m 0).com.mode ≠ 5) ∧
    (∀ k ∈ [3, 5], let m := withGrp (cellK 0) { com := { mode := k } }
      JobRuns 0x0606 (job [1]) m ∧ maskUnits m 1 = some [unitK 0] ∧ (grp m 0).com.mode = k) ∧
    (let m := cellK 0
     (∀ o ∈ [0, 2 ^ 30], JobRuns 0x0607 (job [0, o]) m) ∧ jobWaits m (asJob 0x0607 (job [0, 2 ^ 30 + 1])) = false ∧
      fetchCheck m (asJob 0x0607 (job [0, 2 ^ 30 + 1])).desc = none ∧ groupRec m 0 = some (unitK 0) ∧ unitOf m (unitK 0) = unitK 0 ∧
      (members m (unitK 0)).map (·.group) = [0] ∧ (grp m 0).com.engaged = false) ∧
    (let m := withGrp (cellK 0) { com := { segs := [{ wait := true }] } }
     JobRuns 0x060B (job [0]) m ∧ JobRuns 0x060B (job [1, 7]) m ∧ maskUnits m 1 = some [unitK 0] ∧ groupWaits m 0 = true ∧
      7 < effectCycle m * cycLen m ∧ ¬ 2 ^ 32 < effectCycle m * cycLen m) ∧
    (let m0 := put [(RUN_START_CFG_LINE, 0, 0), (RUN_START_STAT_STATE, 0, 2), (RUN_START_CFG_ARM_MIN, 0, 1)] host
     let m := { m0 with run := { m0.run with start := { line := true, armTick := 5, lowSince := some 5 } },
                        mould := { m0.mould with claims := [{ kind := 2, inst := 0, func := 3 }] } }
     let st := m.run.start
     getF m RUN_START_CFG_LINE = 0 ∧ st.line = true ∧ ownerOf m 2 0 = some 3 ∧ getF m RUN_START_STAT_STATE = 2 ∧ st.ts = none ∧ st.lowSince = some st.armTick ∧ st.armTick ≤ 805 ∧
      800 * getF m RUN_START_CFG_ARM_MIN ≤ 805 - st.armTick) := by
  delta JobRuns; and_intros <;> decide +kernel

/-- MotionJobsAndSharedStarts, gears: a set-up with a virtual master, with a ratio's denominator 0, and a change of ratios at a count. -/
theorem witness_gears :
    (let m := cellK 2
     let set (o : Nat) : List Nat := [2, 4, 0, 0] ++ List.replicate 60 0 ++ leBytes 4 1 ++ leBytes 4 o
     let chg : List Nat := leBytes 8 5 ++ List.replicate 24 0 ++ leBytes 4 1 ++ leBytes 4 1
     (∀ o ∈ [0, 1], JobRuns 0x0609 (job [0, 0] 72 (set o)) m) ∧ gearHeaderOk (set 1) 72 1 = true ∧ gearHeaderOk (set 0) 72 1 = false ∧ gearSource m 2 0 0 = true ∧
      (field (set 1) 1 1).testBit 3 = false ∧ (field (set 1) 1 1).testBit 2 = true ∧ (grp m 0).com.engaged = false ∧ atRest (grp m 0).com = true ∧
      JobRuns 0x060A (job [0] 40 chg) m ∧ (∀ r ∈ ratios chg 1 32, r.2 = 0 → r.1 = 0) ∧ field chg 8 1 ≤ 1 ∧ field chg 9 1 ≤ 1 ∧ field chg 10 2 = 0 ∧ field chg 20 8 = 0 ∧
      field chg 28 4 = 0 ∧ (field chg 9 1 = 1 ↔ field chg 12 4 ≠ 0)) := by
  delta JobRuns; and_intros <;> decide +kernel

/-- A machine with register fields set, and in force. -/
def putV (l : List (Fld × Nat × Nat)) (m : Mach) : Mach := l.foldl (fun m x => enforce (setF m x.1 x.2.1 x.2.2) x.1 x.2.1) m

/-- The cell with the slot's settings: carrier period, current conversion, pole and encoder counts that permit the current and position loops. -/
def slotK (l : List (Fld × Nat × Nat)) : Mach := putV l { cellK 0 with locks := { cfg := true, lim := true } }

/-- AxesAndInjection: an axis of this node that may be enabled, one whose mode forbids it, without LIMIT_LOCK; an axis of another node; an injection
that passes its checks and one that does not; the injector running and idle. -/
theorem witness_axes :
    (let m := slotK [(PWR_PER_PER, 0, 400000), (AXL_MODE_MOTOR, 0, 1), (AXL_MODE_LOOP_MODE, 0, 3)]
     let a : AxisRec := { axis := 0, node := 0, slot := 0 }
     maskAxes (job [1]).desc = [0] ∧ axisRec m 0 = some a ∧ a.node = nodeId m ∧ m.locks.lim = true ∧ isManager m = true ∧ modeRule m a = none ∧ JobRuns 0x0701 (job [1]) m ∧ JobRuns 0x0702 (job [1]) m ∧
      modeRule (slotK []) a ≠ none ∧ JobRuns 0x0701 (job [1]) (cellK 0) ∧ (cellK 0).locks.lim = false) ∧
    (let m := { host with mould := oneAxis 2 }
     axisRec m 0 = some { axis := 0, node := 2, slot := 0 } ∧ 2 ≠ nodeId m ∧ JobRuns 0x0702 (job [1]) m) := by
  delta JobRuns; and_intros <;> decide +kernel

/-- Every block whose register writes are commands of their own is on, and its crossings are: the hypothesis of their clauses. -/
theorem witness_blocks_on : ∀ b ∈ [1, 3, 7, 8, 9, 10, 11, 12, 14], blockOn host b = true ∧ crosses host b = true ∧ blockOn (put [(SYS_PWR_STAT_ON, 0, 1)] host) b = false := by
  decide +kernel

/-! ## Hypotheses met: axes, power stages, encoders, cycles, the Runner -/

/-- AxesAndInjection, the injector: a set-up that passes on an enabled engine; GO that passes, that fails, that finds the injector taken; running and idle. -/
theorem witness_injection :
    (let m := slotK [(AXL_STAT_STATE, 0, 2), (PWR_PER_PER, 0, 400000)]
     let l := List.replicate 8 0 ++ leBytes 4 1 ++ leBytes 4 1 ++ leBytes 4 1 ++ leBytes 4 1 ++ List.replicate 8 0
     let j := job [0] 32 l
     JobRuns 0x0703 j m ∧ axisRec m (j.desc.par 0) = some { axis := 0, node := 0, slot := 0 } ∧ nodeId m = 0 ∧ field (padTo 32 l) 24 8 = 0 ∧
      field (padTo 32 l) 16 4 % 2 ^ 24 ≠ 0 ∧ getF m AXL_TUNE_STAT_RUN 0 = 0 ∧ (axlSt m 0).injAt = none ∧ injCheck (injLoad m 0 (padTo 32 l)) 0 = none ∧
      getF (injLoad m 0 (padTo 32 l)) AXL_TUNE_CFG_CAPTURE 0 = 0 ∧ JobRuns 0x0703 j (cellK 0)) ∧
    (let m := slotK [(AXL_TUNE_LEN_LEN, 0, 1), (AXL_TUNE_F0_F, 0, 1), (AXL_TUNE_F1_F, 0, 1)]
     let on := put [(AXL_STAT_STATE, 0, 2)] m
     let taken := { on with mould := { on.mould with claims := [{ kind := 7, func := 12 }] } }
     blockOn m 7 = true ∧ getF m AXL_TUNE_LEN_LEN 0 ≠ 0 ∧ injCheck m 0 = some (E_AXL_NOT_ENABLED, 0) ∧ E_AXL_NOT_ENABLED ≠ E_RESOURCE_BUSY ∧ injCheck on 0 = none ∧
      getF on AXL_TUNE_CFG_CAPTURE 0 = 0 ∧ (injCheck taken 0).map (·.1) = some E_RESOURCE_BUSY) ∧
    (let m := slotK [(AXL_TUNE_STAT_RUN, 15, 1)]
     getF m AXL_TUNE_STAT_RUN 15 = 1 ∧ m.tap.inj = false ∧ getF m AXL_TUNE_STAT_RUN 0 = 0 ∧ (axlSt m 0).injAt = none) := by
  delta JobRuns; and_intros <;> decide +kernel

/-- EnginePassesFollowTheLaws: a slot without an axis; the engine off, enabling without a word, and enabled in open-loop mode with one; the main
filters due and not. -/
theorem witness_passes :
    slotPort host 0 = none ∧
    (let m := slotK []
     slotPort m 0 = some 0 ∧ 0 < posN m 0 ∧ getF m AXL_STAT_STATE 0 = 0 ∧ getF m AXL_STAT_COMMIT_PEND 0 = 0) ∧
    (let m := slotK [(AXL_STAT_STATE, 0, 1)]
     (axlSt m 0).ending = none ∧ (axlSt m 0).stop = none ∧ getF m AXL_TUNE_STAT_RUN 0 = 0 ∧ getF m AXL_STAT_COMMIT_PEND 0 = 0 ∧ getF m AXL_STAT_STATE 0 = 1 ∧
      getF m ENC_STAT_VALID 0 = 0 ∧ getV (putV [(AXL_SUPV_ENC_MISS_MAX, 0, 1)] m) AXL_SUPV_ENC_MISS_MAX 0 ≤ (axlSt m 0).miss + 1 ∧
      (axlSt m 0).miss + 1 < getV (putV [(AXL_SUPV_ENC_MISS_MAX, 0, 2)] m) AXL_SUPV_ENC_MISS_MAX 0) ∧
    (let m := slotK [(AXL_STAT_STATE, 0, 2), (AXL_MODE_LOOP_MODE, 0, 3), (ENC_STAT_VALID, 0, 1), (PWR_SD_CFG_EN, 0, 7), (AXL_SUPV_FOLLOW_N, 0, 1)]
     getF m AXL_STAT_STATE 0 = 2 ∧ getF m AXL_MODE_LOOP_MODE 0 = 3 ∧ isChop m 0 = false ∧ getV m AXL_VLIM_LIM 0 < 2 ^ 31 ∧ slotPort m 0 = some 0 ∧ 0 < posN m 0 ∧
      getF m ENC_STAT_VALID 0 = 1 ∧ getV m AXL_SUPV_FOLLOW_N 0 ≠ 0 ∧ absI (getS m ENC_SPD_V 0) ≤ getV m AXL_VMEAS_MAX_MAX 0 ∧ (sget m.lims 0 {}).pos = none ∧
      (sget m.lims 0 {}).neg = none ∧ (sget m.lims 0 {}).both = none ∧ getF m PWR_SD_CFG_EN 0 = 7 ∧ (pwrSt m 0).sdFail = 0 ∧ getV m AXL_IQ_LIM_LIM 0 < 2 ^ 31) ∧
    (let m := { put [(PWR_SD_CFG_MDIV, 0, 10), (PWR_SD_CFG_OSR, 0, 1)] host with pwr := [(0, { sync := some 100 })] }
     (∀ t ∈ [260, 284], mainDue m 0 t = true) ∧ ∀ t ∈ [259, 285], mainDue m 0 t = false) := by
  and_intros <;> decide +kernel

/-- CarrierPeriodsFormPulses: a period that fits, none, one beyond the range and one that does not divide the cycle; the events; a slot's next period, and
none after the last; a pulse within the period, one too short. -/
theorem witness_carrier :
    (let m := host
     blockOn m 8 = true ∧ let fits (per : Nat) : Prop := per = 0 ∨ (16 * cycLen m % per = 0 ∧ 16 * (2 * getF m PWR_PROT_MIN_PULSE 0 + 2 * getF m PWR_DT_LIM_DT_CEIL 0) ≤ per)
     fits 0 ∧ fits (16 * 10000) ∧ ¬ fits 12799999 ∧ 12799999 ≤ 12800000 ∧ 12800000 < 12800001 % 2 ^ 24) ∧
    (7 % 8 = 7 ∧ 6 % 8 ≠ 7 ∧ ownerOf { host with mould := { claims := [{ kind := 6, inst := 0, func := 11 }] } } 6 0 = some 11 ∧ getF host PWR_CFG_UPD_MODE 0 = 0) ∧
    (let m0 := putV [(PWR_PER_PER, 0, 160000)] host
     ∀ go ∈ [false, true], let m := { m0 with pwr := [(0, { goPend := go })] }
      nextIdx m 0 = some 0 ∧ getV m PWR_PER_PER 0 ≠ 0 ∧ (pwrSt m 0).trips = [] ∧ getF m PWR_EVT_CFG_SRC 0 = 0 ∧ getF m PWR_CFG_UPD_MODE 0 = 0 ∧
        (pwrSt m 0).perPend = false ∧ (pwrSt m 0).goPend = go ∧ 0 % max 1 (getF m AXL_MODE_CUR_DIV 0) = 0 ∧ getF m PWR_SD_CFG_SYNC 0 = 0) ∧
    (∀ st ∈ [2, 3], 2 ≤ getF (put [(AXL_STAT_STATE, 0, st)] host) AXL_STAT_STATE 0) ∧
    nextIdx { putV [(PWR_PER_PER, 0, 160000)] host with pwr := [(0, { cyc := some 0, idx := 1000000 })] } 0 = none ∧
    (let m := { host with pwr := [(0, { last := some 160000 })] }
     nextIdx m 0 = some 0 ∧ getF m PWR_PER_PER 0 = 0 ∧ getV m PWR_PER_PER 0 = 0 ∧ (pwrSt m 0).goPend = false ∧ (pwrSt m 0).dutyPend = 0) ∧
    getF (put [(PWR_CFG_UPD_MODE, 0, 1)] host) PWR_CFG_UPD_MODE 0 = 1 ∧
    (let m := putV [(PWR_PER_PER, 0, 160000), (PWR_MAX_DUTY_MAX, 0, 2 ^ 31), (PWR_DUTY_A_DUTY, 0, 2 ^ 30)] host
     let tmx := roundShift ((getF m PWR_MAX_DUTY_MAX 0 * carrier m 0 : Nat) : Int) 31
     let t := (if tmx < onRequest m 0 0 then tmx else onRequest m 0 0) + (pairSt m 0 0).res
     let mn : Int := getF m PWR_PROT_MIN_PULSE 0
     16 * (mn + (pairSt m 0 0).apR) ≤ t ∧ t ≤ 16 * (10000 - mn - (pairSt m 0 0).apF) ∧ 0 ≤ t) ∧
    (let m := put [(PWR_PROT_MIN_PULSE, 0, 1)] host
     let tmx := roundShift ((getF m PWR_MAX_DUTY_MAX 0 * carrier m 0 : Nat) : Int) 31
     let t := (if tmx < onRequest m 0 0 then tmx else onRequest m 0 0) + (pairSt m 0 0).res
     let mn : Int := getF m PWR_PROT_MIN_PULSE 0
     t < 16 * (mn + (pairSt m 0 0).apR) ∧ t ≤ 16 * (10000 - mn - (pairSt m 0 0).apF)) := by
  and_intros <;> decide +kernel

/-- ProtectionCutsTheStage: a channel enabled with samples about its threshold, and not enabled; the switch node of an adapting pair; a trip that is
disabled, and one that ends a pulse. -/
theorem witness_protection :
    (let m := put [(PWR_SD_CFG_EN, 0, 4), (PWR_PEAK_TRIP_THR, 0, 100)] host
     let k := getF m PWR_SD_CFG_OSR_F 0 + 2
     let v (bits : List Bool) : Int := sat 32 (sincSum 2 (2 ^ k) bits * 2 ^ (30 - 2 * k) - getS m (sdOffF 2) 0)
     (pwrSt m 0).sdFail.testBit 2 = false ∧ (getF m PWR_SD_CFG_EN 0).testBit 2 = true ∧ (getF m PWR_SD_CFG_EN 0).testBit 0 = false ∧ (getF m PWR_PEAK_TRIP_THR 0 : Int) < absI (v [true]) ∧
      absI (v []) ≤ getF m PWR_PEAK_TRIP_THR 0 ∧ (getF m PWR_SUMMARY_OC).testBit 0 = false ∧ isChop m 0 = false ∧ m.tap.inj = false) ∧
    (let m := { put [(PWR_DT_CFG_ADAPT, 0, 1)] host with pwr := [(0, { pairs := [(0, { fast := -5000, apR := 10 }), (1, { fast := 5000 })] })] }
     let imin : Int := 64 * getF m PWR_SN_CFG_IMIN 0
     (pairSt m 0 0).fast < -imin ∧ 10 ≤ (pairSt m 0 0).apR ∧ adapts m 0 = true ∧ -imin ≤ (pairSt m 0 1).fast ∧ (pairSt m 0 0).fast ≤ imin ∧ isDc m 0 = false) ∧
    ((tripCfg host 0 0).2.2.1 = false) ∧
    (let m0 := putV [(PWR_TRIP_CFG_EN_0, 0, 1), (PWR_TRIP_CFG_PAIRS_0, 0, 1), (PWR_SUMMARY_GATES, 0, 1), (PWR_PROT_TRIP_MAX, 0, 0), (PWR_PER_PER, 0, 160000)] host
     let m := { m0 with pwr := [(0, { cyc := some 0, pairs := [(0, { pulse := some (100, 5000) })] })] }
     let f := tripCfg m 0 0
     let at_ := acceptTick f.1 (if ownerOf m 6 0 = some 11 then 0 else getF m PWR_AUX_CMP_VAL 0) (maskEdges m 0 1) 1000
     f.2.2.1 = true ∧ f.2.1 = false ∧ f.2.2.2.2 = 1 ∧ gatesOn m 0 = true ∧ (pwrSt m 0).arming = none ∧ (pwrSt m 0).cutNow = 0 ∧ isChop m 0 = false ∧
      at_ < 1000 + 100 ∧ at_ < max (1000 + 1) (nextTick m 0) ∧ (pairSt m 0 0).lowAt = none ∧ (pairSt m 0 0).pulse = some (100, 5000) ∧ at_ < 5000 ∧
      getF m PWR_PROT_TRIP_MAX 0 = 0 ∧ getF m PWR_EVT_CFG_SRC 0 ≠ 3) := by
  and_intros <;> decide +kernel

/-- EncoderWordsAreSampled: an idle port with a complete layout; a port of a running axis; a request, with a transfer in progress and without; a word for
each kind of transfer; an extension that matches and one that does not. -/
theorem witness_encoders :
    (blockOn host 9 = true ∧ host.cyc.skip = false ∧ portIdle host 15 = true ∧ portLayoutOk host 15 = true ∧ bits 0 4 2 ≠ 3 ∧ bits 48 4 2 = 3 ∧ getF host ENC_CFG_EN 15 = 0 ∧
      portIdle (slotK [(AXL_STAT_STATE, 0, 2)]) 0 = false) ∧
    (let m := put [(ENC_CFG_EN, 0, 1), (ENC_CFG_OWNER, 0, 1)] host
     getF m ENC_CFG_EN 0 = 1 ∧ getF m ENC_CFG_OWNER 0 ≠ 0 ∧ 0 < portN m 0 ∧ (encSt m 0).busy = none ∧ getF m ENC_CFG_EN 1 ≠ 1) ∧
    (∀ seen ∈ [false, true], let m := { host with enc := [(0, { busy := some (500, 0), seen := seen })] }
      (encSt m 0).busy = some (500, 0) ∧ getF m ENC_CFG_LDC 0 = 0 ∧ 800 ≤ 800 ∧ unitOn m uENC = false ∧ getF m ENC_CHK_TYPE 0 = 0 ∧ getF m ENC_CHK_CHK_LEN 0 = 0 ∧
        getF m ENC_FRAME_STAT_BITS 0 = 0 ∧ getF m ENC_CHK_ERR_MASK 0 = 0 ∧ getF m ENC_CFG_CODE 0 = 0 ∧ getF m ENC_CFG_INV 0 = 0 ∧ getF m ENC_FRAME_POS_BITS 0 ≤ 40 ∧
        1 ≤ getF m ENC_FRAME_POS_BITS 0 ∧ 2 ^ 25 - 1 < 2 ^ getF m ENC_FRAME_LEN 0 ∧ 2 ^ 25 - 1 < 2 ^ getF m ENC_FRAME_POS_BITS 0 ∧ (encSt m 0).seen = seen ∧
        getF m ENC_JUMP_JUMP_MAX 0 = 0) ∧
    (get64 host ENC_SAMP_LO_SAMP ENC_SAMP_HI_SAMP 0 = 0 ∧ 2 ^ 40 % 2 ^ 40 = 0 ∧ 2 ^ 40 < 2 ^ 64 ∧ 1 % 2 ^ 40 ≠ get64 host ENC_SAMP_LO_SAMP ENC_SAMP_HI_SAMP 0) := by
  and_intros <;> decide +kernel

/-- CyclesAndPhasesBegin: out of reset and in it, with a cycle and without one; a length that is due; the rest of a boundary; phases in a whole cycle and in a cut one. -/
theorem witness_cycles :
    (cycleStopped host = false ∧ cycleStopped { worker with twi := { started := true } } = true) ∧
    (host.sys.inReset = false ∧ host.time.target = none ∧ unitOn host uTIME = false ∧ host.cyc.pre = false ∧ lenDue host (nextStart host) = none ∧ phased host = true ∧
      inPair host = false ∧ host.twi.exch = none ∧ host.duo.swapA = none ∧ host.duo.want = false ∧ host.run.stage = 0 ∧ host.ladle.isOpen = false) ∧
    lenDue { put [(TIME_CYCLE_CFG_LEN, 0, 2)] host with cyc := { start := 3 * 200000 } } (3 * 200000 + 200000) ≠ none ∧
    (let m := { host with cyc := { pre := true } }
     m.cyc.pre = true ∧ m.sys.inReset = false ∧ cycleStopped m = false ∧ phased m = false) ∧ ({} : Mach).sys.inReset = true := by
  and_intros <;> decide +kernel

/-- TheRunnerStepsInOrder: a snapshot due; each stage without and with the small cell; the commit of its unit; streams and gears found due; a refill. -/
theorem witness_runner :
    (let m := put [(RUN_CTRL_EN, 0, 1)] host
     phased m = true ∧ m.cyc.snapped = false ∧ isManager m = true ∧ computesAlone m = true ∧ domOn m dRUN = true ∧ getF m RUN_CTRL_EN = 1 ∧ inPair m = false ∧
      (slotsNow m).filter (fun e => storesSlot m e) = []) ∧
    (∀ k ∈ [1, 2, 3], let m := { host with run := { stage := k } }
      m.run.stage = k ∧ m.cyc.skip = false ∧ m.memb.flips = [] ∧ m.ladle.items = [] ∧ m.ladle.tpl = [] ∧ m.cyc.committed = false ∧ inPair m = false ∧ planUnits m = [] ∧ m.run.start.ts = none ∧
        (slotsNow m).filter (fun e => e.kind == 1 && ownsSlot m e) = []) ∧
    (let m := withGrp (cellK 0) { cur := some {} }
     let x := grp m 0
     x.cur = some {} ∧ x.stuck = false ∧ unitAxes m (unitK 0) = [{ axis := 0, node := 0, slot := 0 }] ∧ reactFor m (unitK 0) = 0 ∧ x.com.segs = [] ∧ x.com.after = []) ∧
    (∀ due ∈ [0, 1, 2, 3], let m := withGrp { cellK 0 with run := { stage := 1 } } { due := due }
      m.run.stage = 1 ∧ (planUnits m).find? (fun v => v.group == 0) = some (unitK 0) ∧ (grp m 0).due = due) ∧
    (∀ fill ∈ [false, true], ∀ rb ∈ [1, 3], let m := withGrp (cellK 0) { rb := rb, fill := fill }
      (planUnits m).find? (fun v => v.group == 0) = some (unitK 0) ∧ (grp m 0).rb = rb ∧ (grp m 0).fill = fill ∧ m.run.stage ≠ 1) := by
  and_intros <;> decide +kernel

/-! ## Hypotheses met: the Crucible, safety, time, the Tap -/

/-- CrucibleProgramsRunInTheWindow: a program waiting whose time has come, with its groups free, behind a busy group or not; too early, and after the
deadline; another ahead of it; one running, with the window open and closed. -/
theorem witness_crucible :
    (let c : CrucSt := { isOpen := true, en := true, wait := [(63, 5, false)] }
     let m := { host with cruc := c }
     m.cruc.wait = [(63, 5, false)] ∧ m.cyc.skip = false ∧ ({ m with cyc := { m.cyc with skip := true } } : Mach).cyc.skip = true ∧ c.isOpen = true ∧ c.en = true ∧ 5 + 32 < crucDeadline m ∧ slotKind m 63 ≠ 3 ∧
      c.run.all (fun r => (slotGroups m r.slot &&& slotGroups m 63) == 0) = true ∧ (∀ w ∈ c.wait, w.1 ≠ 1) ∧ (∀ r ∈ c.run, r.slot ≠ 63) ∧ 36 < 5 + 32 ∧
      (∀ p ∈ usedSlots m, p ∈ c.fin)) ∧
    (let c : CrucSt := { isOpen := true, en := true, wait := [(63, 5, true), (2, 5, false)] }
     let m := { host with cruc := c }
     m.cruc.wait = [(63, 5, true), (2, 5, false)] ∧ 5 < crucDeadline m ∧ 4 < 5 ∧ 63 ≠ 2 ∧ slotKind m 63 ≠ 3 ∧ c.run.all (fun r => (slotGroups m r.slot &&& slotGroups m 63) == 0) = true) ∧
    (let m := { host with cruc := { isOpen := true, run := [{ slot := 3 }] } }
     m.cruc.run = [{ slot := 3 }] ∧ m.ladle.items = [] ∧ 0 < crucDeadline m) ∧ host.cruc.isOpen = false ∧ 63 < 64 := by
  and_intros <;> decide +kernel

/-- A configuration frame of one input of mode 1 with test pulses on both channels, one output with EDM, and one sensor. -/
def safeFrame : List Nat :=
  List.replicate 8 0 ++ leBytes 4 428 ++ List.replicate 148 0 ++ ([2, 0, 16, 0, 1, 3] ++ List.replicate 14 0) ++ ([3, 0, 16, 0, 0, 0, 1, 1] ++ List.replicate 12 0) ++
    ([8, 0, 128, 0, 0, 0, 0, 1] ++ List.replicate 124 0) ++ List.replicate 96 0

/-- The island in a state, with that configuration. -/
def island (st : Nat) (f : SafeSt := {}) : Mach := { host with safe := { f with st := st, cfg := safeFrame } }

/-- IslandFaultsLockOut: the island in each state; the input with its channels apart and alike, tested; the output on with EDM, another without; presses of
each length; the sensor configured and another not; markers with domain TIME on and off. -/
theorem witness_island :
    (crosses (island 3) 11 = true ∧ crosses (put [(SYS_PWR_STAT_ON, 0, 1)] (island 3)) 11 = false) ∧
    (let w := { worker with mould := { config := 1 } }
     networked w = true ∧ w.time.valid = false ∧ 5 < (5 : Nat) + 1 ∧ ({ host with time := { host.time with markerFrom := 6 } } : Mach).time.markerFrom = 6) ∧
    (∀ l ∈ [0, 1], (island 3 { lvA := l }).safe.lvA = l ∧ ∀ n ∈ [0, 1], field (inRec (island 3).safe.cfg 0) 4 2 ≤ 0 + n ∧ (List.replicate 9 true).length = 9) ∧
    (∀ r ∈ [0, 1], let m := island 3 { rawA := r, rawB := r }
     m.safe.rawA.testBit 0 = (r == 1) ∧ (m.safe.rawB.testBit 0 != (inMode m 0 == 2)) = (r == 1) ∧ m.safe.inFault.testBit 0 = false) ∧
    (∀ st ∈ [3, 4, 5], islandConfigured (island st) = true ∧ (island st).safe.st ≠ 0 ∧ (island st).safe.st ≠ 6 ∧ 2 ≤ (island st).safe.st ∧
      (islandActive (island st) = true ↔ st ≠ 5)) ∧
    (∀ st ∈ [0, 1, 2], islandConfigured (island st) = false) ∧
    (let m := island 3 { lvA := 1, out := 1 }
     inMode m 0 ≠ 0 ∧ chanRun m 0 0 ≠ chanRun m 0 1 ∧ m.safe.inFault.testBit 0 = false ∧ (field (inRec m.safe.cfg 0) 1 1).testBit 0 = true ∧ chanRun m 0 0 = true ∧
      m.safe.outFault.testBit 0 = false ∧ m.safe.stoFault.testBit 7 = false ∧ m.safe.out.testBit 0 = true ∧ edmOn m 0 = true ∧ edmOn m 1 = false ∧
      m.safe.edmFault.testBit 0 = false ∧ m.safe.oldPress = false ∧ m.safe.stuck = false) ∧
    chanRun (island 3) 0 0 = chanRun (island 3) 0 1 ∧ (island 3 { oldPress := true }).safe.oldPress = true ∧
    (sensRec (island 3) 0 ≠ none ∧ 0 < 4 ∧ isManager (island 3) = true ∧ 200000 % 200000 = 0 ∧ (island 3).time.markerFrom ≤ 200000 ∧ 1 % 200000 ≠ 0) := by
  and_intros <;> decide +kernel

/-- SafetyCycleMirrorAndConfiguration: the island stopped and running; a cycle within and without its tolerance, with the marker there and lost,
and after a step of cell time; the mirror fresh and stale; the mailbox free and taken, and its job; a frame taken;
each operation confirmed, not confirmed, and none. -/
theorem witness_safety :
    (∀ anew ∈ [0, 1, 2], ∀ age ∈ [0, 1], ∀ start ∈ [(199800 : Int), 200000, 200200], let m := island 3 { begun := true, anew := anew, markAge := age, start := start, k := 1 }
      let f := m.safe
      let p := f.start + 200000
      let z : Int := safetyNumber m p.toNat * 200000
      f.begun = true ∧ f.anew = anew ∧ f.markAge = age ∧ 240 ≤ p ∧ z - 200 ≤ p ∧ p ≤ z + 200) ∧
    ((island 0).safe.st = 0 ∧ (island 3 { begun := true }).safe.begun = true ∧ (island 3).safe.begun = false ∧ (∀ g ∈ celled.mould.groups, g.group < 32)) ∧
    (∀ v ∈ [0, 1], getF (put [(SAFE_MIR_STAT_MIRROR_STALE, 0, v)] host) SAFE_MIR_STAT_MIRROR_STALE = v) ∧
    (∀ v ∈ [1, 2], ∀ n ∈ [255, 256, 32768, 32769], JobRuns 0x0D01 (job [] n) (put [(SAFE_MBX_STAT_STATE, 0, v)] host) ∧ JobRuns 0x0D01 (job [] n) host ∧
      getF (put [(SAFE_MBX_STAT_STATE, 0, v)] host) SAFE_MBX_STAT_STATE = v ∧ getF host SAFE_MBX_STAT_STATE = 0) ∧
    ((island 2).safe.taken = none ∧ (island 2 { taken := some [1] }).safe.taken = some [1] ∧ (island 2).safe.st = 2 ∧ (island 2).safe.confirm = none) ∧
    (∀ op ∈ [1, 2, 3], ∀ b ∈ [false, true], (island 3 { confirm := some (op, [7], b) }).safe.confirm = some (op, [7], b) ∧ (island 3).safe.st ≠ 5 ∧ (island 6).safe.st = 6) := by
  delta JobRuns; and_intros <;> decide +kernel

/-- Domain 0 enabled on port 0 in a state, with what it has received. -/
def domK (st : Nat) (x : DomSt) (l : List (Fld × Nat × Nat)) : Mach :=
  let m := put ([(TIME_DOM_CFG_EN, 0, 1), (TIME_DOM_CFG_PORT, 0, 0), (TIME_DOM_STAT_STATE, 0, st), (TIME_DOM_STAT_GM_SELF, 0, 0)] ++ l) host
  { m with time := { m.time with doms := [(0, x)] } }

/-- PtpMessagesReachTheirDomain: a domain that listens, with a grandmaster and without, with a Sync that waits for its Follow_Up; LOCKED and selected;
the delay of a request answered; a port not used; a worker of a network. -/
theorem witness_ptp :
    (let m := domK 1 { gm := some 7, wait := some (3, 100, 100), vec := [1] } []
     instanceOf m 0 (getF m TIME_DOM_CFG_DOMAIN 0) = [0] ∧ (domSt m 0).gm = some 7 ∧ 7 ≠ 8 ∧ domState m 0 = 1 ∧ (domSt m 0).wait = some (3, 100, 100) ∧ portUsed m 0 = true ∧
      (sget m.time.req 0 (65536, 0)).1 ≠ 0 ∧ portUsed m 1 = false ∧ better ([2] ++ [9]) (domSt m 0).vec = false ∧ getF m TIME_DOM_STAT_GM_SELF 0 = 0 ∧
      networked m = false ∧ domState m 0 ≠ 3 ∧ m.twi.waiting = false ∧ getF m TIME_DOM_CFG_EN 1 = 0 ∧ feature m 9 = true) ∧
    (let m := domK 4 { gm := some 7, vec := [1] } [(TIME_DOM_CFG_GM_EN, 0, 0)]
     instanceOf m 0 (getF m TIME_DOM_CFG_DOMAIN 0) = [0] ∧ domState m 0 = 4 ∧ getF m TIME_DOM_CFG_GM_EN 0 = 0) ∧
    (let m := domK 1 {} [(TIME_DOM_CFG_GM_EN, 0, 0)]
     (domSt m 0).gm = none ∧ (domSt m 0).wait = none ∧ getF m TIME_DOM_CFG_GM_EN 0 = 0) ∧
    (let m := domK 3 {} []
     domState m 0 = 3 ∧ servoRole m = true ∧ selDom m = 0 ∧ selDom (put [(TIME_CTRL_SEL, 0, 1)] m) ≠ 0 ∧ domState (put [(TIME_CTRL_SEL, 0, 1)] m) 0 = 3) ∧
    (∀ st ∈ [1, 4], let m := domK st { gm := some 7 } [(TIME_DOM_CFG_GM_EN, 0, 1)]
     domState m 0 = st ∧ getF m TIME_DOM_CFG_GM_EN 0 = 1 ∧ (domSt m 0).gm = some 7) ∧ domState host 0 = 0 ∧
    (sget host.time.nbr 0 none = none ∧ sget ({ host with time := { host.time with nbr := [(0, some (5, 6))] } } : Mach).time.nbr 0 none = some (5, 6) ∧ (5 : Int) < 6 ∧
      (6 : Int) < cellNs 1) ∧
    (let m := domK 3 {} [(TIME_DOM_STAT_GM_SELF, 0, 1)]
     getF m TIME_DOM_CFG_EN 0 = 1 ∧ getF m TIME_DOM_STAT_GM_SELF 0 = 1) ∧
    ({ host with time := { host.time with req := [(0, (5, 100))] } } : Mach).time.req = [(0, (5, 100))] ∧ ({ host with twi := { waiting := true } } : Mach).twi.waiting = true ∧
    networked { worker with mould := { config := 1 } } = true ∧ (-5 : Int) ≤ 3 ∧ (-6 : Int) < -5 := by
  and_intros <;> decide +kernel

/-- TimedOutputsAndCaptures: a set-up of each mode that passes, one of each refusal, one that is ill-formed; the same by registers; an output owned; a pulse
due, alone and too soon after an edge; a capture queue empty, with an edge and full; a domain not LOCKED, LOCKED and selected, LOCKED alone. -/
theorem witness_outputs :
    (let l (mode start width : Nat) : List Nat := [mode, 0, 0, 0] ++ leBytes 8 start ++ leBytes 4 0 ++ leBytes 4 width ++ List.replicate 12 0
     let j (mode start width : Nat) : Job := job [7 + 0x3F00] 32 (l mode start width)
     let m := put [(TIME_OUT_RLIM_RLIM, 7, 5)] host
     let c (start width : Nat) : OutSet := { mode := 1, group := 0, order := 0, start := start, width := width }
     (∀ k, k < 8 → (outSt m k).ending = false) ∧ ownerOf m 3 7 = none ∧
      (∀ x ∈ [(2 ^ 40, 5), (0, 5), (2 ^ 40, 4)], JobRuns 0x0B01 (j 1 x.1 x.2) m ∧ outSetOf false (padTo 32 (l 1 x.1 x.2)) = some (c x.1 x.2)) ∧
      (field (l 1 0 5) 1 1).testBit 1 = false ∧ outCheck m 7 (c (2 ^ 40) 5) (nextStart m) = none ∧ outCheck m 7 (c 0 5) (nextStart m) = some E_TIME_OUT_PAST ∧
      outCheck m 7 (c (2 ^ 40) 4) (nextStart m) = some E_TIME_OUT_RATE ∧ JobRuns 0x0B01 (j 4 0 5) m ∧ outSetOf false (padTo 32 (l 4 0 5)) = none) ∧
    (let m (hi w : Nat) : Mach := put [(TIME_OUT_RLIM_RLIM, 0, 5), (TIME_OUT_CFG_MODE, 0, 1), (TIME_OUT_START_HI_START, 0, hi), (TIME_OUT_WIDTH_TICKS, 0, w)] host
     outCheck (m 9 5) 0 (outRegs (m 9 5) 0) (nextStart (m 9 5)) = none ∧ outCheck (m 0 5) 0 (outRegs (m 0 5) 0) (nextStart (m 0 5)) = some E_TIME_OUT_PAST ∧
      outCheck (m 9 4) 0 (outRegs (m 9 4) 0) (nextStart (m 9 4)) = some E_TIME_OUT_RATE) ∧
    (let m := { host with mould := { claims := [{ kind := 3, inst := 7, func := 12 }] } }
     (∀ k, k < 8 → (outSt m k).ending = false) ∧ ownerOf m 3 7 ≠ some 4 ∧ firstBusy m [(3, 7)] ≠ none ∧
      JobRuns 0x0B01 (job [7 + 0x3F00] 32 ([1, 0, 0, 0] ++ leBytes 8 (2 ^ 40) ++ leBytes 4 0 ++ leBytes 4 5 ++ List.replicate 12 0)) m) ∧
    ownerOf { host with mould := { claims := [{ kind := 3, inst := 0, func := 4 }] } } 3 0 = some 4 := by
  delta JobRuns; and_intros <;> decide +kernel

/-- TimedOutputsAndCaptures, pulses, captures and the selected domain. -/
theorem witness_captures :
    (let m := { host with time := { host.time with outs := [(0, { due := [(100, 5)], set := { mode := 1 } }), (1, { due := [(100, 5)], lastEdge := some 99 })] } }
     (∀ k, k < 8 → (outSt m k).ending = false) ∧ getF m TIME_OUT_RLIM_RLIM 0 ≤ 5 ∧ 5 < getF (put [(TIME_OUT_RLIM_RLIM, 0, 6)] m) TIME_OUT_RLIM_RLIM 0 ∧
      (outSt m 0).due = [(100, 5)] ∧ (outSt m 0).set.mode = 1 ∧ (outSt m 0).lastEdge = none ∧ (outSt m 2).due = [] ∧ (outSt m 1).due = [(100, 5)] ∧
      (outSt m 1).lastEdge = some 99 ∧ 100 < 99 + getF (put [(TIME_OUT_RLIM_RLIM, 1, 5)] m) TIME_OUT_RLIM_RLIM 1) ∧
    (let m (n : Nat) := { put [(TIME_CAP_CFG_EN, 0, 1), (TIME_CAP_CFG_EDGE, 0, 3), (TIME_CAP_CFG_FILT, 0, 2)] host with
        time := { host.time with caps := [(0, List.replicate n (5, false))] } }
     (∀ n ∈ [0, 1, 15, 16], getF (m n) TIME_CAP_CFG_FILT 0 = 2 ∧ getF (m n) TIME_CAP_CFG_EN 0 = 1 ∧ getF (m n) TIME_CAP_CFG_EDGE 0 / 2 = 1 ∧
      getF (m n) TIME_CAP_CFG_EDGE 0 % 2 = 1 ∧ (capQ (m n) 0).length = n) ∧ capQ host 0 = []) ∧
    (∀ st ∈ [1, 3], JobRuns 0x0B02 (job [0]) (domK st {} []) ∧ domState (domK st {} []) 0 = st ∧ networked (domK st {} []) = false) ∧
    (selDom (domK 3 {} []) = 0 ∧ (domK 3 {} []).time.target = none ∧ selDom (domK 3 {} [(TIME_CTRL_SEL, 0, 1)]) ≠ 0 ∧
      JobRuns 0x0B02 (job [0]) (domK 3 {} [(TIME_CTRL_SEL, 0, 1)])) := by
  delta JobRuns; and_intros <;> decide +kernel

/-- The Tap in a state, set up for one slot's cycle. -/
def tapK (st : Nat) (p : TapSt) (l : List (Fld × Nat × Nat)) : Mach :=
  { put ([(TAP_STAT_STATE, 0, st), (TAP_CFG_NSEG_LOG2, 0, 0), (TAP_SAMPLE_CLK, 0, 4), (TAP_SAMPLE_INTERVAL, 0, 1), (TAP_POST_N, 0, 1), (TAP_BUS_CFG_PULSE, 0, 1),
      (TAP_DRAIN_CFG_BLK, 0, 1)] ++ l) host with tap := p }

/-- TapCapturesAndDrains: a set-up that passes, one that fails, one whose resource is taken; samples in time and too soon; a forced trigger armed, in a re-arm,
and not used; stops with the drain empty and not; a marker with room and without. -/
theorem witness_tap :
    (let m := tapK 0 {} []
     let taken := { m with mould := { m.mould with claims := [{ kind := 8, inst := 0, func := 12 }] } }
     (∀ k, k < 8 → (outSt m k).ending = false) ∧ getF m TAP_STAT_STATE = 0 ∧ tapCheck m = none ∧ firstBusy m (tapClaims m) = none ∧ tapCheck taken = none ∧ firstBusy taken (tapClaims taken) ≠ none ∧
      tapCheck (tapK 0 {} [(TAP_POST_N, 0, 0)]) ≠ none ∧ sampling m = false ∧ JobRuns 0x0C02 (job [0]) m ∧ JobRuns 0x0C02 (job [1]) m ∧
      JobRuns 0x0C01 (job [0x3F] 639) m) ∧
    (∀ st ∈ [1, 2], let m := tapK st { lastTick := some 50 } [(TAP_ST_CFG_TERM_A, 0, 12)]
      sampling m = true ∧ 100 * (50 - 50) < 16 * recSize m ∧ 16 * recSize m ≤ 100 * (2 ^ 20 - 50) ∧ segSlots m ≠ 0 ∧ m.tap.stopping = false ∧ termUsed m 12 = true ∧
        m.tap.recs = [] ∧ m.tap.inj = false ∧ m.tap.jobs = [] ∧ m.tap.items = []) ∧
    (let m := tapK 4 {} [(TAP_ST_CFG_TERM_A, 0, 12)]
     getF m TAP_STAT_STATE = 4 ∧ termUsed m 12 = true ∧ m.tap.stopping = false ∧ getF m TAP_CFG_CONT ≠ 1) ∧
    termUsed (tapK 1 {} []) 12 = false ∧ (tapK 4 { stopping := true } []).tap.stopping = true ∧
    (let x : TapItem := { mark := [1] }
     let m := tapK 5 { items := [x] } [(TAP_DRAIN_CFG_EN, 0, 1), (TAP_DRAIN_CFG_RING, 0, 31), (rState 3, 31, 1), (rEn 3, 31, 1), (rLog 3, 31, 6)]
     let full := put [(rTail 3, 31, 63)] m
     m.tap.items = [x] ∧ getF m TAP_DRAIN_CFG_EN = 1 ∧ feature m 8 = true ∧ ringUp m 3 (getF m TAP_DRAIN_CFG_RING) = true ∧ m.tap.gap = 0 ∧ m.tap.stopping = false ∧
      x.mark ≠ [] ∧ (markElems m x.mark).length ≤ ringFree m 3 (getF m TAP_DRAIN_CFG_RING) ∧ ringFree full 3 (getF full TAP_DRAIN_CFG_RING) < (markElems full x.mark).length ∧
      JobRuns 0x0C02 (job [0]) m) := by
  delta JobRuns; and_intros <;> decide +kernel

/-! ## Hypotheses met: the network and the pair -/

/-- A manager with line 0 in operation, in mode 1 with one slot of a kind; port 0 is admitted. -/
def lineK (kind owner : Nat) (q : SlotSt := {}) (l : List (Fld × Nat × Nat) := []) : Mach :=
  { put ([(TWI_LINE_CFG_EN, 0, 1), (TWI_STATUS_MODE, 0, 1), (TWI_STATUS_STATE, 0, 6), (TWI_PORT_STATE, 0, 3), (TWI_MODE_CLASS_CLASS, 0, 0)] ++ l) host with
    sched := [{ mode := 1, line := 0, ch := 0, slot := 0, kind := kind, start := 20000, plen := 32, owner := owner, rx := 2 ^ 64 - 1 }], twi := { slots := [(0, q)] } }

/-- The slot. -/
def slotE (kind owner : Nat) : SchedEnt := { mode := 1, line := 0, ch := 0, slot := 0, kind := kind, start := 20000, plen := 32, owner := owner, rx := 2 ^ 64 - 1 }

/-- A frame of node 2 for that slot, with its CRC. -/
def frameB : List Nat :=
  let l := [2, 0, 1, 0] ++ leBytes 4 0 ++ leBytes 2 32 ++ List.replicate 38 0
  l ++ leBytes 4 (crc32 l)

/-- A LINK frame of node 2, with its CRC. -/
def linkB (flags : Nat) : List Nat :=
  let l := List.replicate 40 0 ++ [2, flags] ++ List.replicate 6 0
  l ++ leBytes 4 (crc32 l)

/-- TwiraFramesGoInTheirSlots, links: a port in each state; LINK frames good and bad, below 16 and the sixteenth, admitted and miswired. -/
theorem witness_links :
    (∀ st ∈ [0, 1, 2, 3, 4], getF (put [(TWI_PORT_STATE, 7, st)] host) TWI_PORT_STATE 7 = st) ∧
    (∀ f ∈ [0, 2], frameCrcOk (linkB f) = true ∧ (linkB f).length = 52 ∧ field ((linkB f).drop 16) 8 8 = 0) ∧ frameCrcOk [] = false ∧
    (let m := { put [(TWI_PORT_STATE, 0, 2)] host with twi := { ports := [(0, { run := 15 })] } }
     16 ≤ (portSt m 0).run + 1 ∧ (portSt m 0).samples = [] ∧ admitFail m 0 ((linkB 0).drop 16) 0 = none ∧ admitFail m 0 ((linkB 2).drop 16) 0 ≠ none ∧
      (portSt host 0).run + 1 < 16) ∧
    (∀ st ∈ [3, 4, 5], let m := put [(TWI_STATUS_STATE, 0, st), (TWI_PORT_STATE, 0, 2), (TWI_LINE_CFG_EN, 0, 1)] host
      twiMode m = 0 ∧ twiState m = st ∧ linkFits m 0 60000 = true ∧ linkFits m 0 99900 = false) := by
  and_intros <;> decide +kernel

/-- TwiraFramesGoInTheirSlots, frames: a good frame of the slot, and ports that take none; the slot empty, old and new; a view of an owned slot and of a
fresh and an old one; a cut on a worker. -/
theorem witness_frames :
    (∀ k ∈ [0, 4, 6], let m := lineK k 2
      portUp m 0 = true ∧ isManager m = true ∧ twiState m = 6 ∧ getF m TEST_TWI_CFG_SRC ≠ 1 ∧ frameCrcOk frameB = true ∧ frameB.length ≤ 1044 ∧
        assign m 0 80000 = some (slotE k 2) ∧ rxSlot m 0 (hdrOf frameB) frameB.length = .inl (slotE k 2) ∧ slotHandle (slotE k 2) = 0 ∧ 80000 / 4 ≤ 20000 ∧ 4 * (recvWindow m (slotE k 2)).1 ≤ 80000 ∧
        (20000 : Int) < (recvWindow m (slotE k 2)).2 ∧ 2 ≤ (hdrOf frameB).node ∧ storesSlot m (slotE k 2) = true ∧ m.memb.flips = []) ∧
    (portUp host 0 = false ∧ slotOf host 0 = none) ∧ (twiState (lineK 4 2 {} [(TWI_STATUS_STATE, 0, 8)]) = 8 ∧ (lineK 4 2).twi.silent = false) ∧
    (∀ q ∈ [({} : SlotSt), { cur := some 0 }, { nxt := some 1, isNew := true }], let m := lineK 4 0 q
      slotOf m 0 = some (slotE 4 0) ∧ flipsOf m (schedKey { slotE 4 0 with line := lineOf m 0 }) = [] ∧ mayInsert m (slotE 4 0) = true ∧ ownsSlot m (slotE 4 0) = true ∧ slotSt m 0 = q ∧ modeClass m (twiMode m) = 0) ∧
    mayInsert (lineK 4 2) (slotE 4 2) = false ∧ ownsSlot (lineK 4 2) (slotE 4 2) = false ∧
    (∀ c ∈ [0, 5], let m := lineK 4 2 { nxt := some 1, isNew := true, nxtHdr := (c, 0, false) }
      slotOf m 0 = some (slotE 4 2) ∧ storesSlot m (slotE 4 2) = true ∧ (c = latestOcc m (slotE 4 2) % 2 ^ 32 ↔ c = 0) ∧ m.memb.poison = []) ∧
    (let m := put [(TWI_STATUS_STATE, 0, 6), (TWI_PORT_STATE, 0, 3)] worker
     m.twi.used = [] ∧ m.twi.cuts = [] ∧ portUp m 0 = true ∧ farPort m 0 ≠ none ∧ forwards m = true ∧ slotOf m 0 ≠ none ∧ farPort (lineK 4 2) 0 = none) := by
  and_intros <;> decide +kernel

/-- TheNetworkStartsAndSwitches, jobs and modes: a start by a worker, by a manager in operation, by one that is off; modes out of range, in force, and to be
switched to, with an exchange pending and without; the end of discovery. -/
theorem witness_modes :
    (let off := { host with locks := { cfg := true, lim := true, sch := true } }
     let on := { lineK 4 2 with locks := { cfg := true, lim := true, sch := true } }
     JobRuns 0x0A01 (job []) worker ∧ isManager worker = false ∧ JobRuns 0x0A01 (job []) on ∧ twiMode on ≠ 0 ∧ JobRuns 0x0A01 (job []) off ∧ isManager off = true ∧
      off.locks.sch = true ∧ twiMode off = 0 ∧ off.twi.netJob = none ∧ twiState off = 0 ∧ getF off TIME_CTRL_WAIT_MS = 0) ∧
    (∀ i ∈ [0, 8], let m := { lineK 4 2 with locks := { cfg := true, lim := true, sch := true } }
      jobWaits m (asJob 0x0A02 (job [i])) = false ∧ fetchCheck m (asJob 0x0A02 (job [i])).desc = none) ∧
    (∀ i ∈ [1, 7], let m := { lineK 4 2 with locks := { cfg := true, lim := true, sch := true } }
      JobRuns 0x0A02 (job [i]) m ∧ modeClass m i ≠ 3 ∧ twiMode m = 1 ∧ m.twi.exch = none ∧ isActive m = true ∧ isManager m = true) ∧
    JobRuns 0x0A02 (job [7]) { lineK 4 2 with twi := { exch := some { m := 1 } } } ∧ isActive worker = false ∧ modeClass (put [(TWI_MODE_CLASS_CLASS, 0, 0xFFFFFFFF)] host) 1 = 3 ∧
    (∀ peer ∈ [1, 2], let m := put [(TWI_STATUS_STATE, 0, 5), (TWI_LINE_CFG_EN, 3, 1), (TWI_PORT_STATE, 6, 3), (TWI_PORT_PEER, 6, peer)] host
      isActive m = true ∧ twiState m = 5 ∧ servedLines m = [3] ∧ (lineSt m 3).step = 0 ∧ getF m TWI_PORT_STATE (2 * 3) = 3 ∧ getF m TWI_PORT_PEER (2 * 3) = peer) ∧
    (let m := { put [(TWI_STATUS_STATE, 0, 5), (TWI_LINE_CFG_EN, 0, 1)] host with locks := { cfg := true, lim := true, sch := true }, twi := { lines := [(0, { step := 4 })] } }
     twiState m = 5 ∧ twiMode m = 0 ∧ m.twi.exch = none ∧ m.locks.sch = true ∧ m.mould.config ≠ 3 ∧ (∀ n ∈ servedLines m, (lineSt m n).step = 4) ∧
      (∀ n ∈ servedLines m, ∀ r ∈ lineWorkers m n, r.node ∈ (lineSt m n).locked)) := by
  delta JobRuns; and_intros <;> decide +kernel

/-- TheNetworkStartsAndSwitches, start-up and losses: each state and count at its bounds. -/
theorem witness_startup :
    (let m := { put [(TWI_STATUS_STATE, 0, 2)] host with twi := { listenEnd := some 500 } }
     m.twi.listenEnd = some 500 ∧ isManager m = true ∧ twiState m = 2 ∧ host.twi.listenEnd = none) ∧
    (let m := { put [(TWI_STATUS_STATE, 0, 3)] host with twi := { cold := some 2 } }
     m.twi.cold = some 2 ∧ twiState m = 3 ∧ host.twi.cold = none) ∧
    (∀ k ∈ [3, 4, 15, 16], let m := { put [(TWI_STATUS_STATE, 0, 6)] host with twi := { missMeas := k } }
      twiState m = 6 ∧ m.twi.missMeas = k) ∧
    (worker.twi.part.st ≠ 1 ∧ isManager worker = false ∧ (let p : PartSt := { total := 1, st := 1 }; p.bytes.length ≠ p.total)) ∧
    (∀ k ∈ [2, 3], ∀ l ∈ [0, 1], let m := put [(SYS_MGR_STAT_MISS_RUN, 0, k), (SYS_MGR_STAT_LOST, 0, l)] worker
      getF m SYS_MGR_STAT_MISS_RUN = k ∧ getF m SYS_MGR_STAT_LOST = l ∧ isManager m = false) := by
  and_intros <;> decide +kernel

/-- A manager of a pair in a role, with the partner's role and the link up. -/
def pairK (role partner : Nat) (d : DuoSt := {}) (l : List (Fld × Nat × Nat) := []) : Mach :=
  { put ([(PAIR_STAT_ROLE, 0, role), (PAIR_STAT_PARTNER, 0, partner), (PAIR_STAT_LINK_UP, 0, 1), (PAIR_STAT_CLEAN, 0, 1), (PAIR_LINK_LOCK, 0, 3)] ++ l) host with duo := d }

/-- PairFramesAndRoles, frames: the link up and down, its heartbeat kept and lost; the standby with frames new and old; inputs that wait, with a job and
without; the snapshot due and not; digests alike and not; time aligned and not. -/
theorem witness_pair_frames :
    (let m := pairK 2 1
     isManager m = true ∧ domOn m dPAIR = true ∧ getF m PAIR_STAT_LINK_UP = 1 ∧ getF m PAIR_STAT_ROLE ≠ 7 ∧ (getF m PAIR_LINK_LOCK).testBit 1 = true ∧
      isStandby m = true ∧ m.duo.got = 0 ∧ m.duo.ins = [] ∧ m.duo.inbox = [] ∧ m.memb.flips = [] ∧ followsPartner m = true ∧ m.cyc.skip = false ∧ m.cyc.snapped = false ∧
      m.cyc.committed = false ∧ m.duo.mirGot = false ∧ 0 = m.cyc.n % 2 ^ 32 ∧ snapDue m = false ∧ m.duo.aligned = false ∧ anyEnabled m = false ∧ 51 ≤ 51 ∧ 51 < 52) ∧
    (getF host PAIR_STAT_LINK_UP = 0 ∧ isManager worker = false ∧ (getF host PAIR_LINK_LOCK).testBit 0 = false) ∧
    (let m := pairK 2 1 { got := 7, aligned := true }
     seqLe 8 m.duo.got = false ∧ seqLe 7 m.duo.got = true ∧ m.duo.got ≠ 0 ∧ m.duo.aligned = true) ∧
    (∀ r ∈ [4, 6], (pairK r 0).duo.swapA = none ∧ (pairK r 0).duo.want = false ∧ getF (pairK r 0) PAIR_STAT_ROLE = r) ∧
    (isStandby (pairK 1 2) = false ∧ getF (pairK 1 2) PAIR_STAT_ROLE = 1) ∧
    (let m := { pairK 2 1 with cyc := { now := nth (plan host) 1 } }
     snapDue m = true ∧ m.duo.inbox = []) ∧
    (let m := pairK 1 2
     padTo 32 (digestOf m).1 = (digestOf m).1 ∧ padTo 64 (digestOf m).2 = (digestOf m).2 ∧ padTo 32 [1] ≠ (digestOf m).1 ∧ followsPartner m = false) := by
  and_intros <;> decide +kernel

/-- PairFramesAndRoles, roles: a manager without a role, with the partner active, without a role either, and with the link down; RESYNC in each phase; a swap
taken, refused and one pending; SerDes clocks locked and not. -/
theorem witness_pair_roles :
    (∀ p ∈ [0, 1, 3], let m := pairK 0 p { run := 1 }
      isManager m = true ∧ domOn m dPAIR = true ∧ getF m PAIR_STAT_ROLE = 0 ∧ m.mould.loaded = false ∧ m.duo.swapA = none ∧ m.duo.want = false ∧
        getF m PAIR_STAT_LINK_UP = 1 ∧ 0 < m.duo.run ∧ getF m PAIR_STAT_PARTNER = p) ∧
    (let m := put [(TWI_SU_STAT_MASTER, 0, 1)] host
     getF m PAIR_STAT_LINK_UP ≠ 1 ∧ getF m PAIR_STAT_ROLE = 0 ∧ getF m TWI_SU_STAT_MASTER = 1) ∧
    (∀ ph ∈ [1, 2, 6], ∀ hb ∈ [0, 1], let m := pairK 7 1 { aligned := true } [(PAIR_STAT_RESYNC_PHASE, 0, ph), (PAIR_STAT_PAIR_HB, 0, hb)]
      getF m PAIR_STAT_ROLE = 7 ∧ phaseOfResync m = ph ∧ getF m PAIR_STAT_PAIR_HB = hb ∧ m.duo.aligned = true ∧ getF m PAIR_STAT_CLEAN = 1 ∧ m.duo.swapA = none) ∧
    (∀ x ∈ [(pairK 1 2, none), (pairK 1 0, some 1)], let m := x.1
      jobWaits m (asJob 0x0E01 (job [])) = false ∧ descCheck m (asJob 0x0E01 (job [])).desc = none ∧ swapCause m = x.2 ∧ getF m PAIR_STAT_ROLE = 1 ∧ inPair m = true ∧
        domOn m dPAIR = true ∧ m.duo.swapA = none ∧ m.duo.want = false ∧ m.duo.deferred = none ∧ getF (put [(PAIR_CFG_SWAP_PER, 0, 1)] m) PAIR_CFG_SWAP_PER ≠ 0) ∧
    (let m := pairK 1 2 { swapA := some 4 }
     swapCause m = none ∧ m.duo.swapA ≠ none ∧ jobWaits m (asJob 0x0E01 (job [])) = false ∧ descCheck m (asJob 0x0E01 (job [])).desc = none) ∧
    (∀ v ∈ [0, 1], let m := put [(SYS_CLK_STAT_TWI_LOCK, 0, v), (SYS_CLK_STAT_PAIR_LOCK, 0, v)] host
      getF m SYS_CLK_STAT_TWI_LOCK = v ∧ getF m SYS_CLK_STAT_PAIR_LOCK = v ∧ m.sys.inReset = false ∧ getF m PAIR_STAT_ROLE ≠ 7) ∧
    (let j := job []
     ({ host with duo := { ins := [{ seq := 3, job := some j }] } } : Mach).duo.ins = [{ seq := 3, job := some j }]) := by
  and_intros <;> decide +kernel

/-- CoreRegistersStayWellFormed: an instruction that touches its core's registers alone, on a core that is ready, with every core well-formed. -/
theorem witness_register_only :
    registerOnly (.addR 0 5 6 7) = true ∧ CoreReady cores (coreOfInstr (.addR 0 5 6 7)) ∧ CoresWf cores ∧
      ({ m := cores, pending := [.addR 0 5 6 7] } : State).pending.head? = some (.addR 0 5 6 7) := by
  refine ⟨by decide, by delta CoreReady; decide +kernel, fun c => ?_, rfl⟩
  have h0 : ∀ k ∈ [regs0, {}], canonical (0 : BitVec 64) k.b.x = true ∧ k.b.x.all (fun e => decide (0 < e.1 ∧ e.1 < 32)) = true ∧
      canonical (0 : BitVec 32) k.b.p = true ∧ k.b.p.all (fun e => decide (e.1 < 8)) = true ∧
      canonical (0 : BitVec 32) k.b.m = true ∧ k.b.m.all (fun e => decide (e.1 < 8)) = true ∧
      canonical (0 : BitVec 6) k.b.s = true ∧ k.b.s.all (fun e => decide (e.1 < 4)) = true ∧
      canonical ({} : AccV) k.acc = true ∧ k.acc.all (fun e => decide (e.1 < 4)) = true ∧ k.acc = [] := by decide +kernel
  have hm : coreSt cores c ∈ [regs0, {}] := by
    by_cases h : c = 0
    · subst h; simp [coreSt, cores, running0, sget]
    · simp [coreSt, cores, running0, sget, show (0 : Nat) ≠ c from fun e => h e.symm]
  obtain ⟨h1, h2, h3, h4, h5, h6, h7, h8, h9, h10, h11⟩ := h0 _ hm
  refine ⟨fun i => ?_, h1, h2, h3, h4, h5, h6, h7, h8, h9, h10⟩
  rw [ar, h11]
  have : inAccRange 0 := by delta inAccRange outside; decide
  exact ⟨this, this⟩

/-- TapCapturesAndDrains: a set-up that TAP_ARM brings passes. -/
theorem witness_tap_arm :
    let l := List.replicate 580 0 ++ leBytes 4 0x104 ++ leBytes 4 0 ++ leBytes 4 1 ++ List.replicate 12 0 ++ leBytes 4 0x10000 ++ leBytes 4 0 ++ leBytes 4 0x40 ++ List.replicate 24 0
    l.length = 640 ∧ JobRuns 0x0C01 (job [0x3F] 640 l) host ∧ (tapArmHere host (padTo 640 l)).isRight = true := by
  delta JobRuns; and_intros <;> decide +kernel

/-! ## A cell model that is accepted, and the locks -/

/-- The smallest model of a standalone worker: one group without axes, a graph of the Runner's commit alone, every other required section
empty. Its checksums are those that zlib gives for these bytes (IEEE 802.3, 12 R357). -/
def smallImage : List Nat :=
  let row (id off len crc : Nat) : List Nat := leBytes 2 id ++ (leBytes 2 0 ++ (leBytes 4 off ++ (leBytes 4 len ++ leBytes 4 crc)))
  List.flatten
    [leBytes 4 0x4D4C4455, leBytes 2 2, leBytes 2 6, leBytes 4 624, leBytes 4 0x1234, leBytes 2 1, List.replicate 10 0, leBytes 4 0x8F15A069,
     List.replicate 32 0, row 2 160 0 0, row 3 160 112 0x06595EDB, row 9 272 64 0xEECA1EF1, row 10 336 272 0x0A26CF75,
     row 11 608 16 0xECBB4B55, row 12 624 0 0,
     1 :: List.replicate 17 0, [0xFF, 0xFF], List.replicate 92 0,
     leBytes 2 1, leBytes 2 0, leBytes 4 1, leBytes 4 1, List.replicate 20 0, 2 :: 0 :: 3 :: List.replicate 5 0, List.replicate 12 0xFF, List.replicate 12 0,
     0 :: 0 :: 1 :: List.replicate 285 0]

/-- A standalone worker with a DMA window, whose firmware runs and has yet to load a model, that has the image as the part of a model that its
manager has sent; no optional feature is accepted. -/
def alone : Mach :=
  { put [(SYS_STRAP_ROLE, 0, 0), (SYS_STRAP_NODE_ID, 0, 2), (SYS_STRAP_VALID, 0, 1), (SYS_BOOT_STAT_PHASE, 0, 4), (SYS_FUSE_KEY_VALID, 0, 1), (HIF_FEAT_DRV_DRV, 0, 0)] host with
    sys := { host.sys with hash := [keyHash] }, twi := { part := { total := 624, crc := crc32 smallImage, bytes := smallImage, st := 1 } } }

/-- A node without a network holds the whole model. -/
theorem small_whole (m : Mach) : wholeModel m smallImage = true := by
  rw [wholeModel, show field smallImage 18 2 = 0 by decide +kernel, Bool.or_eq_true]; exact .inr rfl

/-- The image passes the format checks, its checksums among them. -/
theorem test_image_format : step1 true smallImage = none := by decide +kernel

/-- Keys that no entry has can be dropped. -/
theorem sdel_high (l : Sparse Nat) (b k : Nat) (h : ∀ x ∈ l, x.1 < b) (hk : b ≤ k) : sdel l k = l := by
  induction l with
  | nil => rfl
  | cons e r ih =>
    have h1 := h e (by simp)
    simp only [sdel]
    rw [if_neg (by omega), ih (fun x hx => h x (by simp [hx]))]

/-- Every key of blocks 7 to 11 lies above those of the blocks before. -/
theorem key_high : ∀ blk ∈ [7, 8, 10, 11], ∀ f ∈ fieldsOf blk, 34374418432 ≤ f.key 0 := by decide +kernel

/-- A machine with registers of blocks 0 to 6 alone has none of a later block to put back. -/
theorem unloadReg_same (m : Mach) (blk off : Nat) (hf : m.force = []) (hr : ∀ x ∈ m.regs, x.1 < 34374418432)
    (hb : ∀ f ∈ fieldsOf blk, 34374418432 ≤ f.key 0) : unloadReg m blk off = m := by
  have key : ∀ l : List (Fld × Nat), (∀ x ∈ l, 34374418432 ≤ x.1.key 0) →
      l.foldl (fun m x => { m with regs := sdel m.regs (x.1.key x.2), force := sdel m.force (x.1.key x.2) }) m = m := by
    intro l
    induction l with
    | nil => intro _; rfl
    | cons x r ih =>
      intro hl
      have hx := hl x (by simp)
      have hk : 34374418432 ≤ x.1.key x.2 := by simp only [Fld.key, Fld.addr] at hx ⊢; omega
      rw [List.foldl_cons, sdel_high m.regs _ _ hr hk, hf]
      have : ({ m with force := [] } : Mach) = m := by rw [← hf]
      simpa only [sdel, this] using ih (fun y hy => hl y (by simp [hy]))
  refine key _ (fun x hx => ?_)
  unfold fieldsAt at hx
  split at hx
  · simp at hx
  · simp only [List.mem_filterMap, Option.map_eq_some_iff] at hx
    obtain ⟨f, hf, i, -, rfl⟩ := hx
    exact hb f hf

/-- A fold whose every step leaves its state. -/
theorem foldl_same {α β : Type} (f : α → β → α) (l : List β) (a : α) (h : ∀ x ∈ l, f a x = a) : l.foldl f a = a := by
  induction l with
  | nil => rfl
  | cons x r ih => rw [List.foldl_cons, h x (by simp), ih (fun y hy => h y (by simp [hy]))]

/-- Without a model in force, only registers go back to reset. -/
theorem discard_none (m : Mach) (h1 : m.mould = {}) (h2 : m.sched = []) (h3 : m.run = {}) (h4 : m.cruc = {}) (h5 : m.crucSecs = []) (h6 : m.ladle = {})
    (h7 : crucSync m = m) : discardModel m = resetFields (schedRegs.foldl (fun m x => unloadReg m x.1 x.2)
      ((List.range 16).foldl (fun m s => axlRecordOffs.foldl (fun m o => unloadReg m 7 (0x1000 + 0x100 * s + o)) m)
        ((List.range 16).foldl (fun m s => pwrRecordOffs.foldl (fun m o => unloadReg m 8 (0x1000 + 0x100 * s + o)) m) m))) [ENC_CFG_OWNER, CRUC_CL_CFG_SLOT, CRUC_CL_CFG_VALID] := by
  have h : discardModel m = resetFields (schedRegs.foldl (fun m x => unloadReg m x.1 x.2)
      ((List.range 16).foldl (fun m s => axlRecordOffs.foldl (fun m o => unloadReg m 7 (0x1000 + 0x100 * s + o)) m)
        ((List.range 16).foldl (fun m s => pwrRecordOffs.foldl (fun m o => unloadReg m 8 (0x1000 + 0x100 * s + o)) m) (crucSync m)))) [ENC_CFG_OWNER, CRUC_CL_CFG_SLOT, CRUC_CL_CFG_VALID] := by
    cases m
    dsimp only at h1 h2 h3 h4 h5 h6
    subst h1 h2 h3 h4 h5 h6
    rfl
  rw [h, h7]

/-- Nothing of an earlier model is there to discard. -/
theorem test_nothing_to_discard : discardModel alone = alone := by
  have hr : ∀ x ∈ alone.regs, x.1 < 34374418432 := by decide +kernel
  have un (blk off : Nat) (hb : blk ∈ [7, 8, 10, 11]) : unloadReg alone blk off = alone := unloadReg_same alone blk off rfl hr (key_high blk hb)
  rw [discard_none alone rfl rfl rfl rfl rfl rfl (by decide +kernel),
    foldl_same _ (List.range 16) alone (fun s _ => foldl_same _ _ alone (fun o _ => un 8 _ (by decide))),
    foldl_same _ (List.range 16) alone (fun s _ => foldl_same _ _ alone (fun o _ => un 7 _ (by decide))),
    foldl_same _ schedRegs alone (fun x hx => un x.1 x.2 ((show ∀ x ∈ schedRegs, x.1 ∈ [7, 8, 10, 11] by decide +kernel) x hx))]
  decide +kernel

/-- The image passes every further step of its checks. -/
theorem test_image_steps :
    step2 alone smallImage = none ∧ step3 true 0 smallImage = none ∧ step4 0 smallImage = none ∧ step4Cruc alone smallImage = none ∧ step5 alone smallImage = none ∧
    step6 true smallImage = none ∧ step7 smallImage = none ∧ step8 smallImage = none ∧ step9 alone smallImage = none ∧ step10 smallImage = none ∧ step11 smallImage = none := by
  and_intros <;> decide +kernel

/-- The second of two checks, where the first passes. -/
theorem none_orElse {α : Type} (f : Unit → Option α) : Option.orElse none f = f () := rfl

/-- The image passes every check on the standalone worker. -/
theorem test_image_accepted : imageFail (discardModel alone) 0 smallImage = none := by
  obtain ⟨h2, h3, h4, h4c, h5, h6, h7, h8, h9, h10, h11⟩ := test_image_steps
  rw [test_nothing_to_discard, imageFail, small_whole, test_image_format, none_orElse, h2, none_orElse, h3, none_orElse, h4, none_orElse, h4c, none_orElse, h5, none_orElse,
    h6, none_orElse, h7, none_orElse, h8, none_orElse, h9, none_orElse, h10, none_orElse, h11]

/-- The listed cells of bytes from an address on. -/
def cells : Nat → List Nat → List Host.Cell
  | _, [] => []
  | a, b :: r => if b % 256 = 0 then cells (a + 1) r else (a, BitVec.ofNat 8 b) :: cells (a + 1) r

/-- Cells list nothing below their first address. -/
theorem sget_cells_lt (l : List Nat) (a j : Nat) (h : j < a) : sget (cells a l) j 0 = 0 := by
  induction l generalizing a with
  | nil => rfl
  | cons b r ih =>
    unfold cells
    split
    · exact ih (a + 1) (by omega)
    · simpa [sget, show a ≠ j by omega] using ih (a + 1) (by omega)

/-- Cells read as the bytes. -/
theorem rdBytes_cells (l : List Nat) (a : Nat) (m : Mach) (hm : m.mem = cells a l) (h : ∀ b ∈ l, b < 256) : rdBytes m a l.length = l := by
  have key : ∀ (l : List Nat) (a i : Nat), i < l.length → sget (cells a l) (a + i) 0 = BitVec.ofNat 8 (l.getD i 0) := by
    intro l
    induction l with
    | nil => intro a i hi; exact absurd hi (by simp)
    | cons b r ih =>
      intro a i hi
      unfold cells
      cases i with
      | zero =>
        split
        · rename_i hb
          rw [sget_cells_lt r (a + 1) (a + 0) (by omega)]
          apply BitVec.eq_of_toNat_eq; simp [hb]
        · simp [sget]
      | succ i =>
        have := ih (a + 1) i (by simpa using hi)
        rw [show a + 1 + i = a + (i + 1) by omega] at this
        split
        · simpa using this
        · simpa [sget] using this
  apply List.ext_getElem
  · simp [rdBytes]
  · intro i h1 h2
    simp only [rdBytes, List.getElem_map, List.getElem_range, rdByte, hm, key l a i h2, List.getD_eq_getElem _ _ h2]
    simp [Nat.mod_eq_of_lt (h _ (List.getElem_mem h2))]

/-- A machine with the image in force and in memory. -/
def loaded (m : Mach) : Mach := { m with mould := { loaded := true, image := smallImage }, mem := cells 0x10000000 smallImage }

/-- The image in memory is the one in force, and keeps its format: the condition of CFG_LOCK. -/
theorem loaded_image (m : Mach) (h2 : m.mould.image = smallImage) (h3 : m.mem = cells 0x10000000 smallImage) :
    rdBytes m 0x10000000 m.mould.image.length = m.mould.image ∧ step1 (wholeModel m m.mould.image) m.mould.image = none := by
  rw [h2, small_whole]
  exact ⟨rdBytes_cells smallImage _ m h3 (by decide +kernel), test_image_format⟩

/-- The image in memory still has its checksums. -/
theorem loaded_cfgLock (m : Mach) (h1 : m.mould.loaded = true) (h2 : m.mould.image = smallImage) (h3 : m.mem = cells 0x10000000 smallImage) :
    cfgLockFail m = none := by
  have h : rdBytes m 0x10000000 smallImage.length = smallImage := rdBytes_cells smallImage _ m h3 (by decide +kernel)
  rw [cfgLockFail, h2, h, small_whole, test_image_format, h1]; rfl

/-- The locks of the loaded manager can be set. -/
theorem test_locks_set : let m := loaded (put [(TWI_SU_CFG_AUTO, 0, 1)] host)
    (setLocks 7 m).2 = 0 ∧ twiState (setLocks 7 m).1 = 0 ∧ getF (setLocks 7 m).1 TIME_CTRL_WAIT_MS = 0 := by
  have h : cfgLockFail (loaded (put [(TWI_SU_CFG_AUTO, 0, 1)] host)) = none := loaded_cfgLock _ rfl rfl rfl
  simp only [setLocks, setCfgLock, h]
  and_intros <;> decide +kernel

/-- LocksAreSetInOrder: each lock's conditions hold on the loaded model (that of the image in memory by `loaded_image`), in its turn; the locks before it. -/
theorem witness_locks :
    (let m := loaded host
     let p := planWritten m
     m.mould.loaded = true ∧ configuredSlots m = [] ∧ (∀ o ∈ List.range 8, getF m TIME_OUT_RLIM_USED o = 0) ∧ lenUsable m (getF m TIME_CYCLE_CFG_LEN) = true ∧
      nth p 0 < nth p 1 ∧ nth p 1 < nth p 2 ∧ nth p 2 < nth p 3 ∧ 4000 ≤ nth p 0 ∧ nth p 1 + 16000 ≤ nth p 2 ∧
      nth p 3 + 2000 ≤ lenTicks (getF m TIME_CYCLE_CFG_LEN) ∧ lineBound m (upBytes m) (nth p 1 - nth p 0) = true ∧
      lineBound m (downBytes m) (nth p 3 - nth p 2) = true ∧ m.mould.config < 2 ∧
      ∀ x ∈ [0, 1, 2, 4, 7], JobRuns 0x0002 (job [x]) m ∧ JobRuns 0x0002 (job [x]) { m with locks := { cfg := true, lim := true } }) ∧
    (host.mould.loaded = false ∧ JobRuns 0x0002 (job [7]) host) ∧
    (let m := loaded host
     m.locks = {} ∧ JobRuns 0x0002 (job [1]) m ∧ (job [1]).desc.par 0 % 8 = 1) ∧
    (let m := { loaded host with locks := { cfg := true } }
     m.locks.cfg = true ∧ limitLockFail m = none ∧ m.locks.lim = false) ∧
    (let m := { loaded host with locks := { cfg := true, lim := true } }
     m.locks.lim = true ∧ schedLockFail m = none ∧ m.locks.sch = false) := by
  delta JobRuns; and_intros <;> decide +kernel

/-- ModelsLoadAndLimitsClamp: an image that is accepted (`test_image_accepted`) and one that is not; each reason to turn a load away; a section there, one not
there, and no model; the automatic start that succeeds (`test_locks_set`), that fails, and that is not asked; a limit input of each direction and level, ignored and accepted. -/
theorem witness_models :
    (JobRuns 0x0010 (job [] 624 smallImage) alone ∧ acceptedSet alone = 0 ∧ alone.locks.cfg = false ∧ anyEnabled alone = false ∧ getF alone TWI_STATUS_MODE = 0) ∧
    padTo 624 smallImage = smallImage ∧
    (JobRuns 0x0010 (job [] 64 []) alone ∧ imageFail (discardModel alone) 0 (padTo 64 []) ≠ none) ∧
    JobRuns 0x0010 (job [] 64 []) { alone with locks := { cfg := true } } ∧
    (∀ id ∈ [1, 2, 3, 11, 12, 13, 14], JobRuns 0x0011 (job [id] 16) (loaded alone)) ∧
    (∀ id ∈ [0, 15], jobWaits alone (asJob 0x0011 (job [id] 16)) = false ∧ fetchCheck alone (asJob 0x0011 (job [id] 16)).desc = none) ∧ (loaded alone).mould.loaded = true ∧ alone.mould.loaded = false ∧
    secOf smallImage 1 = none ∧ secOf smallImage 3 ≠ none ∧ secOf smallImage 12 ≠ none ∧ (secTable smallImage).find? (fun e => e.id == 3) ≠ none ∧
    (let m := loaded (put [(TWI_SU_CFG_AUTO, 0, 1)] host)
     isManager m = true ∧ m.mould.loaded = true ∧ getF m TWI_SU_CFG_AUTO = 1 ∧ (setLocks 7 { m with mem := [] }).2 ≠ 0) ∧ isManager alone = false ∧
    (∀ mo ∈ [({} : MouldSt), { loaded := true, config := 1 }], let m := put [(SYS_BOOT_STAT_PHASE, 0, 4)] { worker with mould := mo }
      isManager m = false ∧ blockOn m 10 = true ∧ getF m SYS_BOOT_STAT_PHASE = 4 ∧ ¬ (m.mould.loaded = true ∧ m.mould.config = 0)) ∧
    (∀ n ∈ [0, 15], ∀ neg ∈ [false, true],
      let m := put [(RUN_LIM_CFG_N_MODE, n, 1), (RUN_LIM_CFG_P_MODE, n, 2), (RUN_LIM_CFG_N_POL, n, 0), (RUN_LIM_CFG_P_POL, n, 0), (RUN_LIM_CFG_FILT, n, 3), (RUN_LIM_CFG_ALT, n, 0)] host
      getF m (if neg then RUN_LIM_CFG_N_MODE else RUN_LIM_CFG_P_MODE) n ≠ 0 ∧ getF m RUN_LIM_CFG_FILT n = 3 ∧ getF m RUN_LIM_CFG_ALT n = 0 ∧
        (getF m (if neg then RUN_LIM_STAT_P_ACT else RUN_LIM_STAT_N_ACT)).testBit n = false ∧ (getF m (if neg then RUN_LIM_STAT_N_ACT else RUN_LIM_STAT_P_ACT)).testBit n = false ∧
        getF m (if neg then RUN_LIM_CFG_N_POL else RUN_LIM_CFG_P_POL) n = 0 ∧
        (getF (put [(if neg then RUN_LIM_STAT_P_ACT else RUN_LIM_STAT_N_ACT, 0, 2 ^ n)] m) (if neg then RUN_LIM_STAT_P_ACT else RUN_LIM_STAT_N_ACT)).testBit n = true) := by
  delta JobRuns; and_intros <;> decide +kernel

/-- A part of a model that a worker checks loads it (TheNetworkStartsAndSwitches). -/
theorem witness_part :
    alone.twi.part.bytes.length = alone.twi.part.total ∧ crc32 alone.twi.part.bytes = alone.twi.part.crc ∧ sget alone.twi.tables 0 [] = [] ∧ alone.twi.part.st = 1 ∧
      ∃ m1, loadImage (field alone.twi.part.bytes 20 4) alone.twi.part.bytes alone = (m1, none) := by
  refine ⟨by decide +kernel, by decide +kernel, by decide +kernel, by decide +kernel, ?_⟩
  rw [show alone.twi.part.bytes = smallImage from rfl, show field smallImage 20 4 = 0 by decide +kernel, loadImage]
  simp only [test_image_accepted]
  exact ⟨_, rfl⟩

/-- The image as the one segment of a model image, signed outside the model with ECDSA over P-384. -/
def flashModel : List Nat :=
  signedHeader 0x4C4E4D44 992 0 624 ++ smallImage ++ beBytes 48 0x33794619babdb050d57f1242cb593f9aa3cf2937be9782caaa140f70895bf11a69c23c4bbea9c794586f009513e5ae1f ++
    beBytes 48 0xfda031287fbcfe1886166f018890f2f32ddf7e28ce19f94b565715f3a49bbf32c4178c155a850442cbbdfb8128414633

/-- BootAuthenticatesFirmware: a model image of the flash that is authentic, and whose model is accepted (`test_image_accepted`). -/
theorem witness_boot_model :
    booting alone = true ∧ getF alone SYS_BOOT_STAT_PHASE = 4 ∧ field flashModel 0 4 ≠ 0xFFFFFFFF ∧ imgFail alone true flashModel = 0 ∧ acceptedSet alone = 0 ∧
      (let seg := (imgSegs flashModel).headD (0, 0, 0, 0)
       (flashModel.drop seg.2.2.1).take seg.2.1 = smallImage) := by
  and_intros <;> decide +kernel

/-- Whether boot goes over PCIe, and what memory holds, make no difference to an image's checks. -/
theorem imgFail_same (m : Mach) (b : Bool) (mem : List Host.Cell) (model : Bool) (l : List Nat) :
    imgFail { m with sys := { m.sys with pcie := b }, mem := mem } model l = imgFail m model l := by
  cases m; rfl

/-- Boot over PCIe with the image in the working store. -/
def bootP : Mach := { bootM with sys := { bootM.sys with pcie := true }, mem := cells 0x10000000 fwImage }

/-- BootAuthenticatesFirmware: the image over PCIe is accepted. -/
theorem witness_boot_pcie : let m1 := setF bootP SYS_BOOT_LEN_LEN 0 512
    booting bootP = true ∧ bootP.sys.pcie = true ∧ imgFail m1 false (rdBytes m1 0x10000000 (getF m1 SYS_BOOT_LEN_LEN)) = 0 := by
  have h1 : setF bootP SYS_BOOT_LEN_LEN 0 512 = bootP := by decide +kernel
  have h2 : getF bootP SYS_BOOT_LEN_LEN = fwImage.length := by decide +kernel
  have h3 : rdBytes bootP 0x10000000 fwImage.length = fwImage := rdBytes_cells fwImage _ bootP rfl (by decide +kernel)
  refine ⟨by decide +kernel, rfl, ?_⟩
  rw [h1, h2, h3, bootP, imgFail_same]
  exact test_fw_accepted

end Sys2Proof.Tests
end

section
/-! PROOFS. Facts about the register file and its writes, and the statements of 00_scope that rest on them. -/

namespace Sys2Proof.Machine

/-! ## Numbers -/

/-- Bits taken from a value fit their number. -/
theorem bits_lt (x lo w : Nat) : bits x lo w < 2 ^ w := Nat.mod_lt _ (Nat.two_pow_pos w)

/-- Bits beyond those taken are not there to cut. -/
@[simp] theorem bits_mod (x lo w : Nat) : bits x lo w % 2 ^ w = bits x lo w := Nat.mod_eq_of_lt (bits_lt x lo w)

/-- The saturating sum is the smaller of the sum and the largest value. -/
theorem satAdd_eq_min (mx x n : Nat) : satAdd mx x n = min mx (x + n) := by
  unfold satAdd; split <;> omega

/-- Clearing bits acts on the lowest bit and on the rest by themselves. -/
theorem andNot_halves (a b : Nat) :
    (andNot a b % 2 = 1 ↔ a % 2 = 1 ∧ b % 2 ≠ 1) ∧ andNot a b / 2 = andNot (a / 2) (b / 2) := by
  have hle : a &&& b ≤ a := Nat.and_le_left
  have hodd : (a &&& b) % 2 = 1 ↔ a % 2 = 1 ∧ b % 2 = 1 := Nat.and_mod_two_eq_one
  have hhalf : (a &&& b) / 2 = a / 2 &&& b / 2 := Nat.and_div_two
  simp only [andNot, ← hhalf]
  omega

/-- Clearing takes exactly the named bits away. -/
theorem testBit_andNot (a b k : Nat) : (andNot a b).testBit k = (a.testBit k && !b.testBit k) := by
  induction k generalizing a b with
  | zero =>
    rw [Bool.eq_iff_iff]
    simp [Nat.testBit_zero, (andNot_halves a b).1]
  | succ k ih => simp only [Nat.testBit_succ, (andNot_halves a b).2, ih]

/-- A list of sources with one inserted. -/
theorem mem_insNat (k x : Nat) (l : List Nat) : x ∈ insNat k l ↔ x = k ∨ x ∈ l := by
  induction l with
  | nil => simp [insNat]
  | cons a r ih =>
    unfold insNat
    split_ifs with hlt heq
    · simp
    · subst heq; simp
    · simp only [List.mem_cons, ih]; tauto

/-! ## Register fields -/

/-- Counting ends at all ones. -/
theorem getF_incF_self (m : Mach) (f : Fld) (i n : Nat) : getF (incF m f i n) f i = min (2 ^ f.w - 1) (getF m f i + n) := by
  have hpos := Nat.two_pow_pos f.w
  rw [incF, getF_setF_self, satAdd_eq_min, Nat.mod_eq_of_lt]
  omega

/-- Counting leaves every field of another key. -/
theorem getF_incF_ne (m : Mach) (f g : Fld) (i j n : Nat) (h : g.key j ≠ f.key i) : getF (incF m f i n) g j = getF m g j :=
  getF_setF_ne m f g i j _ h

/-- A flag set reads 1. -/
theorem getF_flag_self (m : Mach) (f : Fld) (i : Nat) (h : 0 < f.w) : getF (flag m f i) f i = 1 := by
  rw [flag, getF_setF_self, Nat.mod_eq_of_lt (Nat.one_lt_two_pow (by omega))]

/-! ## Interrupt sources (21 R591) -/

/-- An event of a source that is not pending makes it pending. -/
theorem irq_of_not_mem {m : Mach} {k : Nat} (h : k ∉ m.intc.pend) :
    irq m k = { m with intc := { m.intc with pend := insNat k m.intc.pend } } := if_neg h

/-- An event of a source that is pending is merged and counted. -/
theorem irq_of_mem {m : Mach} {k : Nat} (h : k ∈ m.intc.pend) :
    irq m k = incF (flag m INTC_FLAGS_MERGED) INTC_MERGE_CNT_CNT 0 1 := if_pos h

/-! ## Writes of a field by its access code (00 R10, R17 to R19) -/

/-- Of the register file and the memory blocks' bookkeeping, and of nothing else, `m'` differs from `m`, and no field of another key than
that of instance `i` of `f` reads anew. -/
structure FieldWritten (f : Fld) (i : Nat) (m m' : Mach) : Prop where
  rest : m' = { m with regs := m'.regs, memb := m'.memb }
  fields : ∀ g j, g.key j ≠ f.key i → getF m' g j = getF m g j

namespace FieldWritten
variable {f : Fld} {i : Nat} {m m' : Mach}

theorem refl : FieldWritten f i m m := ⟨rfl, fun _ _ _ => rfl⟩

theorem of_setF (v : Nat) : FieldWritten f i m (setF m f i v) := ⟨rfl, fun g j h => getF_setF_ne m f g i j v h⟩

theorem of_setF_memb (v : Nat) (b : MemSt) : FieldWritten f i m { setF m f i v with memb := b } :=
  ⟨rfl, fun g j h => getF_setF_ne m f g i j v h⟩

/-- Either branch of a choice. -/
theorem ite {c : Prop} [Decidable c] {a b : Mach} (ha : FieldWritten f i m a) (hb : FieldWritten f i m b) :
    FieldWritten f i m (if c then a else b) := by
  split
  · exact ha
  · exact hb

theorem mem (h : FieldWritten f i m m') : m'.mem = m.mem := by rw [h.rest]
theorem locks (h : FieldWritten f i m m') : m'.locks = m.locks := by rw [h.rest]
theorem cores (h : FieldWritten f i m m') : m'.cores = m.cores := by rw [h.rest]

end FieldWritten

/-- A write reaches one field, whatever its access code (00 R10). -/
theorem writeField_written (x i : Nat) (f : Fld) (m : Mach) : FieldWritten f i m (writeField x m (f, i)) := by
  cases hacc : f.acc with simp only [writeField, hacc]
  | ro | wo | rwBoot => exact .refl
  | w1c | w1s | shadow => exact .of_setF _
  | rw => exact .ite (.of_setF _) (.of_setF _)
  | rwlCfg | rwlLim | rwlSch | rwGo | rwOnce => exact .ite .refl (.of_setF _)
  | rwExt => exact .ite (.of_setF _) .refl
  | rwIdle => exact .ite .refl (.ite (.of_setF _) .refl)
  | cnt => exact .ite (.ite (.of_setF_memb _ _) (.of_setF _)) .refl

section
variable {f : Fld} {m : Mach} (x i : Nat)

/-- RW takes the value. -/
theorem writeField_rw (h : f.acc = .rw) (hne : f ≠ TIME_CTRL_AUTO_SWITCH) :
    writeField x m (f, i) = setF m f i (bits x f.lsb f.w) := by
  simp [writeField, h, hne]

/-- W1C clears the bits written 1. -/
theorem writeField_w1c (h : f.acc = .w1c) : writeField x m (f, i) = setF m f i (andNot (getF m f i) (bits x f.lsb f.w)) := by
  simp [writeField, h]

/-- W1S sets the bits written 1. -/
theorem writeField_w1s (h : f.acc = .w1s) : writeField x m (f, i) = setF m f i (getF m f i ||| bits x f.lsb f.w) := by
  simp [writeField, h]

/-- A counter is cleared by a 1 in its lowest bit (00 R17). -/
theorem getF_writeField_cnt (h : f.acc = .cnt) :
    getF (writeField x m (f, i)) f i = if bits x f.lsb f.w % 2 = 1 then 0 else getF m f i := by
  have zero : getF (setF m f i 0) f i = 0 := by simp
  simp only [writeField, h, Nat.testBit_zero, decide_eq_true_eq]
  split_ifs
  · exact zero
  · exact zero
  · rfl

/-- RO and WO fields keep what they hold. -/
theorem writeField_readOnly (h : f.acc = .ro ∨ f.acc = .wo) : writeField x m (f, i) = m := by
  rcases h with h | h <;> simp [writeField, h]

/-- A field with a lock takes the value unless the lock is set (00 R18, R19). -/
theorem writeField_lockable (h : f.acc = .rwlCfg ∨ f.acc = .rwlLim ∨ f.acc = .rwlSch) :
    writeField x m (f, i) = if fieldLocked m f then m else setF m f i (bits x f.lsb f.w) := by
  rcases h with h | h | h <;> simp [writeField, h]

end

/-! ## What reset leaves (00 R12) -/

/-- The largest reset value of a field's instances fits its width, and where 21 R587 gives the reset value by the source's number, a bit is
there for it. -/
def Fld.rstFits (f : Fld) : Bool := decide (0 < f.w) && decide (f.reset + f.rstep * (f.n - 1) < 2 ^ f.w)

/-- Every table of registers gives reset values that fit. -/
theorem fieldsOf_rstFits : ∀ blk, blk < 17 → ∀ f ∈ fieldsOf blk, f.rstFits = true := by decide

/-- The reset value of every instance fits its field. -/
theorem Fld.rst_lt {f : Fld} (h : f.rstFits = true) {i : Nat} (hi : i < f.n) : f.rst i < 2 ^ f.w := by
  simp only [Fld.rstFits, Bool.and_eq_true, decide_eq_true_eq] at h
  obtain ⟨hw, hmax⟩ := h
  have hbit : 1 < 2 ^ f.w := Nat.one_lt_two_pow (by omega)
  have hstep : f.rstep * i ≤ f.rstep * (f.n - 1) := Nat.mul_le_mul_left _ (by omega)
  unfold Fld.rst
  split_ifs <;> omega

/-- A field whose reset value fits reads it where nothing has been written. -/
theorem getF_of_regs_nil {m : Mach} (hm : m.regs = []) {f : Fld} {i : Nat} (h : f.rst i < 2 ^ f.w) : getF m f i = f.rst i := by
  rw [getF, hm, sget, Nat.mod_eq_of_lt h]

/-- A shadowed field's value in force is its reset value where nothing has been put into force. -/
theorem getV_of_force_nil {m : Mach} (hm : m.force = []) {f : Fld} {i : Nat} (h : f.rst i < 2 ^ f.w) : getV m f i = f.rst i := by
  rw [getV, hm, sget, Nat.mod_eq_of_lt h]

/-- The registers of a core at reset are well-formed: none is listed, and 0 is in the range of an accumulator part. -/
theorem coreWf_default : CoreWf {} := by
  have hzero : inAccRange 0 := by simp [inAccRange, outside]
  exact ⟨fun _ => ⟨hzero, hzero⟩, rfl, rfl, rfl, rfl, rfl, rfl, rfl, rfl, rfl, rfl⟩

/-! ## The statements -/

/-- Settles O26: `getF_incF_self` and the two cases of `irq`. -/
theorem countersSaturateAndEdgesMerge : Obligations.CountersSaturateAndEdgesMerge := by
  intro m f i n k
  refine ⟨?_, fun g j h => getF_incF_ne m f g i j n h, fun h x => ?_, fun h => ?_⟩
  · rw [getF_incF_self]; split <;> omega
  · rw [irq_of_not_mem h]; exact mem_insNat k x _
  · rw [irq_of_mem h]
    refine ⟨rfl, ?_, ?_⟩
    · rw [getF_incF_ne _ _ _ _ _ _ (by decide)]
      exact getF_flag_self m _ 0 (by decide)
    · rw [getF_incF_self, flag, getF_setF_ne _ _ _ _ _ _ (by decide)]
      rfl

/-- Settles O30: one lemma for each access code, and what a write leaves by `writeField_written`. -/
theorem registerFieldsTakeWrites : Obligations.RegisterFieldsTakeWrites := by
  intro x i f m hne _ v m'
  have hw : FieldWritten f i m m' := writeField_written x i f m
  refine ⟨fun h => ?_, fun h b hb => ?_, fun h b hb => ?_, getF_writeField_cnt x i, writeField_readOnly x i,
    fun h => ⟨fun hl => ?_, fun hl => ?_⟩, hw.fields, hw.mem, hw.locks, hw.cores⟩
  · simp only [m', v, writeField_rw x i h hne, getF_setF_self, bits_mod]
  · simp only [m', v, writeField_w1c x i h, getF_setF_self, Nat.testBit_mod_two_pow, hb, decide_true, Bool.true_and, testBit_andNot]
  · simp only [m', v, writeField_w1s x i h, getF_setF_self, Nat.testBit_mod_two_pow, hb, decide_true, Bool.true_and, Nat.testBit_or]
  · simp only [m', writeField_lockable x i h, hl, if_true]
  · simp only [m', v, writeField_lockable x i h, hl, Bool.false_eq_true, if_false, getF_setF_self, bits_mod]

/-- Settles O58: nothing is listed at reset, so every field reads the reset value of its table. -/
theorem resetLeavesTheStatedState : Obligations.ResetLeavesTheStatedState := by
  refine ⟨rfl, reset_mem_wf, fun _ => coreWf_default, rfl, rfl, rfl, rfl, rfl, rfl, rfl, rfl, fun blk hblk f hf i hi => ?_⟩
  have hfit : f.rst i < 2 ^ f.w := Fld.rst_lt (fieldsOf_rstFits blk hblk f hf) hi
  exact ⟨getF_of_regs_nil rfl hfit, hfit, getV_of_force_nil rfl hfit⟩

end Sys2Proof.Machine
end

section
/-! PROOFS. Registers and memory as the ports and the host's BARs reach them (01 R29 to R31, R43 to R46), and the statement on them. -/

namespace Sys2Proof.Machine

/-! ## The commands of this statement -/

/-- REGISTER_WRITE carries out `regWrite`. -/
theorem exec_registerWrite (via : Via) (addr x : Nat) (s : State) :
    exec (.registerWrite via addr x) s = .next { s with m := regWrite via addr x s.m } := rfl

/-- CYCLE_CFG_WRITE is the host's write of TIME_CYCLE_CFG. -/
theorem exec_cycleCfgWrite (x : Nat) (s : State) :
    exec (.cycleCfgWrite x) s = .next { s with m := regWrite (.port 1) 0x400B0200 x s.m } := rfl

/-- BAR4_WRITE carries out `bar4Write`. -/
theorem exec_bar4Write (off : Nat) (l : List Nat) (s : State) : exec (.bar4Write off l) s = .next { s with m := bar4Write off l s.m } := rfl

/-- REGISTER_LO_READ carries out `regRead`, and its answer leaves the block. -/
theorem exec_registerLoRead (via : Via) (addr : Nat) (s : State) :
    exec (.registerLoRead via addr) s =
      .next { s with m := { (regRead via addr s.m).2.2 with
        out := { (regRead via addr s.m).2.2.out with answer := ((regRead via addr s.m).1, (regRead via addr s.m).2.1) } } } := rfl

/-! ## Register writes of a block whose domain is off (01 R31) -/

/-- A command that writes a register of a block whose domain is off is ignored and reported. -/
theorem done_domWrite_off {s : State} {blk : Nat} (hr : s.m.sys.inReset = false) (off : Nat) (f : Mach → Mach)
    (h : blockOn s.m blk = false) : done (domWrite blk off f) s = .next { s with m := domainOffWrite s.m blk off } := by
  rw [done, domWrite_off h hr]

/-- The control register of command ring `k` (03 R114). -/
theorem ringCtrlOff_command (k : Nat) : ringCtrlOff 0 k = 0x40C + 0x40 * k := by simp only [ringCtrlOff, ringOff]; omega

/-- The control register of stream ring `k` (03 R114). -/
theorem ringCtrlOff_stream (k : Nat) : ringCtrlOff 3 k = 0x100C + 0x40 * k := by simp only [ringCtrlOff, ringOff]; omega

/-- A slot's command acts where there is such a slot. -/
theorem done_slot {n : Nat} (h : n < 16) (f : Mach → Mach) (s : State) : done (fun m => if 16 ≤ n then m else f m) s = done f s := by
  rw [done, if_neg (Nat.not_le.2 h)]; rfl

/-! ## Registers reached over a port (01 R29 to R31, R43, R44) -/

/-- A host that sees the block sees it out of reset. -/
theorem inReset_of_hostSees {m : Mach} (h : hostSees m = true) : m.sys.inReset = false := by
  simp only [hostSees, blockOn, Bool.and_eq_true, Bool.not_eq_true'] at h
  obtain ⟨⟨⟨hr, _⟩, _⟩, _⟩ := h
  exact hr

section
variable {p blk off a : Nat} {m : Mach}

/-- The block and the offset of a register's address. -/
theorem regAddr_parts (ho : off < 0x10000) (h4 : off % 4 = 0) :
    (regAddr blk off - 0x40000000) / 0x10000 = blk ∧ regAddr blk off % 0x10000 / 4 * 4 = off := by
  unfold regAddr; omega

/-- A write by the supervisor, or by a host that sees the block, reaches the register window. -/
theorem regWrite_reaches (hr : m.sys.inReset = false) (hp : p = 0 ∨ p = 1 ∧ hostSees m = true) (ha : regionOf a = .registers) (x : Nat) :
    regWrite (.port p) a x m = windowWrite p a x m := by
  have hs : (p = 1 && !hostSees m) = false := by rcases hp with rfl | ⟨rfl, h⟩ <;> simp [*]
  have hw : portWrites p a = true := by
    rcases hp with rfl | ⟨rfl, _⟩ <;> simp [portWrites, ha]
  simp [regWrite, hr, hs, hw, ha]

/-- A write by any other port is denied. -/
theorem regWrite_denied (hr : m.sys.inReset = false) (h0 : p ≠ 0) (h1 : p ≠ 1) (ha : regionOf a = .registers) (x : Nat) :
    regWrite (.port p) a x m = accessDenied m p a := by
  simp [regWrite, hr, portWrites, ha, h0, h1]

/-- A read by the supervisor, or by a host that sees the block, reaches the register window. -/
theorem regRead_reaches (hr : m.sys.inReset = false) (hp : p = 0 ∨ p = 1 ∧ hostSees m = true) (ha : regionOf a = .registers) :
    regRead (.port p) a m = ((windowRead p a m).1, false, (windowRead p a m).2) := by
  have hs : (p = 1 && !hostSees m) = false := by rcases hp with rfl | ⟨rfl, h⟩ <;> simp [*]
  have hw : portReads p a = true := by
    rcases hp with rfl | ⟨rfl, _⟩ <;> simp [portReads, ha]
  simp [regRead, hr, hs, hw, ha]

/-- A write in the window of a block that is on reaches the block. -/
theorem windowWrite_on (hb : blk < 16) (ho : off < 0x10000) (h4 : off % 4 = 0) {d : Nat} (hdom : domOf blk = d) (hd : domOn m d = true) (x : Nat) :
    windowWrite p (regAddr blk off) x m = halfWrite p blk off (x % 2 ^ 32) m := by
  obtain ⟨hblk, hoff⟩ := regAddr_parts (blk := blk) ho h4
  have hin : ¬ (17 ≤ blk ∨ (blk = 16 ∧ off ≠ 0 ∧ getF m TEST_STAT_UNLOCK = 0)) := by omega
  simp [windowWrite, hblk, hoff, hin, hdom, hd]

/-- A register that is no half of a 64-bit quantity is written at once. -/
theorem halfWrite_whole (hb : blk ≠ 1) (hlo : loIn writePairs blk off = false) (hhi : hiIn writePairs blk off = false) (x : Nat) :
    halfWrite p blk off x m = blockWrite p blk off x m := by
  simp [halfWrite, hb, hlo, hhi]

/-- A read in the window of a block that is on reaches the block. -/
theorem windowRead_on (hb : blk < 16) (h6 : blk ≠ 6) (ho : off < 0x10000) (h4 : off % 4 = 0) {d : Nat} (hdom : domOf blk = d)
    (hd : domOn m d = true) :
    windowRead p (regAddr blk off) m = blockRead p blk off m := by
  obtain ⟨hblk, hoff⟩ := regAddr_parts (blk := blk) ho h4
  have hin : ¬ (17 ≤ blk ∨ (blk = 16 ∧ getF m TEST_STAT_UNLOCK = 0) ∨ (blk ≠ 13 ∧ domOn m (domOf blk) = false)) := by
    rw [hdom]
    rintro (h | ⟨h, _⟩ | ⟨_, h⟩)
    · omega
    · omega
    · exact absurd (hd.symm.trans h) (by decide)
  simp only [windowRead, hblk, hoff, if_neg hin, if_neg h6]

end

/-- A write that the register accepts, with no field that must be idle and none under a set lock, reaches each field. -/
theorem plainWrite_accepted {m : Mach} {blk off x : Nat} {fs : List (Fld × Nat)} (hfs : fieldsAt blk off = fs) (hne : fs ≠ [])
    (hok : writeOk m blk off x = true) (hidle : fs.any (fun f => f.1.acc == .rwIdle) = false)
    (hlock : ∀ f ∈ fs, fieldLocked m f.1 = false) : plainWrite blk off x m = fs.foldl (writeField x) m := by
  have hhit : fs.any (fun f => fieldLocked m f.1 && getF m f.1 f.2 != bits x f.1.lsb f.1.w) = false :=
    List.any_eq_false.2 fun f hf => by simp [hlock f hf]
  simp [plainWrite, hfs, hne, hok, hidle, hhit]

/-- TIME_CYCLE_CFG has the fields LEN and PLAN_CUSTOM. -/
theorem fieldsAt_cycleCfg : fieldsAt 11 0x200 = [(TIME_CYCLE_CFG_LEN, 0), (TIME_CYCLE_CFG_PLAN_CUSTOM, 0)] := by decide

/-- A field under the schedule lock takes the value while the lock is open. -/
theorem writeField_schOpen {f : Fld} {m : Mach} (h : f.acc = .rwlSch) (hl : m.locks.sch = false) (x i : Nat) :
    writeField x m (f, i) = setF m f i (bits x f.lsb f.w) := by
  have hopen : fieldLocked m f = false := by simp [fieldLocked, h, hl]
  rw [writeField_lockable x i (.inr (.inr h)), hopen, if_neg Bool.false_ne_true]

/-- With the schedule lock open and no axis enabled, a write of TIME_CYCLE_CFG stores its two fields (02 R77). -/
theorem cycleCfgWrite_stores {m : Mach} (ha : anyEnabled m = false) (hl : m.locks.sch = false) (x : Nat) :
    cycleCfgWrite x m = setF (setF m TIME_CYCLE_CFG_LEN 0 (bits x 0 3)) TIME_CYCLE_CFG_PLAN_CUSTOM 0 (bits x 8 1) := by
  have hok : writeOk m 11 0x200 x = true := by
    rw [writeOk, fieldsAt_cycleCfg]; rfl
  have hlock : ∀ f ∈ [(TIME_CYCLE_CFG_LEN, 0), (TIME_CYCLE_CFG_PLAN_CUSTOM, 0)], fieldLocked m f.1 = false := by
    simp only [List.forall_mem_cons]
    exact ⟨hl, hl, List.forall_mem_nil _⟩
  rw [cycleCfgWrite, ha, if_neg Bool.false_ne_true,
    plainWrite_accepted fieldsAt_cycleCfg (List.cons_ne_nil _ _) hok (by decide) hlock]
  simp only [List.foldl_cons, List.foldl_nil]
  rw [writeField_schOpen rfl hl, writeField_schOpen rfl (by exact hl)]
  rfl

/-! ## Cell time read through its registers (00 R13, 02 R77) -/

theorem fieldsAt_timeNowLo : fieldsAt 11 0xC = [(TIME_NOW_LO_C, 0)] := by decide
theorem fieldsAt_timeNowHi : fieldsAt 11 0x10 = [(TIME_NOW_HI_C, 0)] := by decide

/-- TIME_NOW_LO reads the low half of cell time. -/
theorem regValue_timeNowLo (m : Mach) (p : Nat) : regValue m p 11 0xC = m.cyc.now % 2 ^ 32 := by
  simp [regValue, fieldsAt_timeNowLo, fieldRead, TIME_NOW_LO_C]

/-- TIME_NOW_HI reads the high half of cell time. -/
theorem regValue_timeNowHi (m : Mach) (p : Nat) : regValue m p 11 0x10 = m.cyc.now / 2 ^ 32 % 2 ^ 32 := by
  simp [regValue, fieldsAt_timeNowHi, fieldRead, TIME_NOW_LO_C, TIME_NOW_HI_C]

/-- A fold whose every step leaves the value leaves it. -/
theorem foldl_fixed_of_mem {α β : Type} {f : α → β → α} {a : α} {l : List β} (h : ∀ x ∈ l, f a x = a) : l.foldl f a = a := by
  induction l with
  | nil => rfl
  | cons x r ih =>
    rw [List.foldl_cons, h x (List.mem_cons_self ..)]
    exact ih fun y hy => h y (List.mem_cons_of_mem _ hy)

/-- With no timed output about to end, none is released. -/
theorem settleOuts_none {m : Mach} (h : ∀ o, o < 8 → (outSt m o).ending = false) : settleOuts m = m :=
  foldl_fixed_of_mem fun o ho => by simp [outEnded, h o (List.mem_range.1 ho)]

/-- A read of TIME_NOW_LO gives the low half and latches the high one. -/
theorem blockRead_timeNowLo {m : Mach} (h : ∀ o, o < 8 → (outSt m o).ending = false) (p : Nat) :
    blockRead p 11 0xC m = (m.cyc.now % 2 ^ 32,
      { m with hiLatch := sins (sdel m.hiLatch 0x400B0010) 0x400B0010 (m.cyc.now / 2 ^ 32 % 2 ^ 32) }) := by
  have hlo : loIn readPairs 11 0xC = true := by decide
  simp [blockRead, settleOuts_none h, hlo, regValue_timeNowLo, regValue_timeNowHi, regAddr]

/-- A read of TIME_NOW_HI gives what is latched for it. -/
theorem blockRead_timeNowHi {m : Mach} (h : ∀ o, o < 8 → (outSt m o).ending = false) (p : Nat) :
    (blockRead p 11 0x10 m).1 = sget m.hiLatch 0x400B0010 (m.cyc.now / 2 ^ 32 % 2 ^ 32) := by
  have hlo : loIn readPairs 11 0x10 = false := by decide
  have hhi : hiIn readPairs 11 0x10 = true := by decide
  simp [blockRead, settleOuts_none h, hlo, hhi, regValue_timeNowHi, regAddr]

/-! ## Memory without words in error -/

/-- A port is not delayed while no test unit acts on the fabric. -/
theorem portUse_off {m : Mach} (h : unitOn m uFAB = false) (p : Nat) : portUse m p = m := by simp [portUse, h]

/-- A port's words have no errors where none is asked for. -/
theorem portFlips_nil {m : Mach} (h : m.test.fab = []) (p : Nat) : portFlips m p = ([], m) := by simp [portFlips, h]

/-- Without words in error decoding finds nothing. -/
theorem decodeWord_clean {m : Mach} (h : m.memb.flips = []) (k source port : Nat) : decodeWord m k source port = m := by
  simp [decodeWord, flipsOf, h]

/-- A read of memory without words in error changes nothing, and is not poisoned. -/
theorem eccRead_clean {m : Mach} (hf : m.memb.flips = []) (hp : m.memb.poison = []) (a n port : Nat) : eccRead m a n port = (m, false) := by
  have hfold : (wordsIn a n).foldl (fun m k => decodeWord m k 0 port) m = m :=
    foldl_fixed_of_mem fun k _ => decodeWord_clean hf k 0 port
  have hpois : poisoned m a n = false := by simp [poisoned, hp]
  simp [eccRead, hfold, hpois]

/-- A little-endian value fits its bytes. -/
theorem leNat_lt (l : List Nat) : leNat l < 2 ^ (8 * l.length) := by
  induction l with
  | nil => simp [leNat]
  | cons b r ih =>
    have hb : b % 256 < 256 := Nat.mod_lt _ (by decide)
    rw [leNat, List.length_cons, Nat.mul_succ, Nat.pow_add]
    omega

/-- A value read from memory fits its bytes. -/
theorem rdVal_lt (m : Mach) (a n : Nat) : rdVal m a n < 2 ^ (8 * n) := by
  simpa [rdVal, rdBytes] using leNat_lt (rdBytes m a n)

/-- The working store lies at its offset in the internal map (01 R43). -/
theorem regionOf_store {off : Nat} (h : off < 0x1800000) : regionOf (0x10000000 + off) = .store := by
  rw [regionOf, if_neg (by omega), if_pos (by omega)]

/-- Without words in error a host's read of the working store gives what it holds. -/
theorem busRead_store {m : Mach} {off : Nat} (h : off < 0x1800000) (hu : unitOn m uFAB = false) (ht : m.test.fab = [])
    (hf : m.memb.flips = []) (hp : m.memb.poison = []) (n : Nat) :
    busRead 1 (0x10000000 + off) n m = (rdVal m (0x10000000 + off) n, false, m) := by
  have hreads : portReads 1 (0x10000000 + off) = true := by simp [portReads, regionOf_store h]
  simp [busRead, portUse_off hu, hreads, regionOf_store h, eccRead_clean hf hp, portFlips_nil ht, pathWord, Nat.mod_eq_of_lt (rdVal_lt m _ n)]

/-- Bytes written one after another read back, and other bytes stay. -/
theorem rdByte_writeBytes (l : List Nat) (a b : Nat) (m : Mach) :
    rdByte ((l.zipIdx a).foldl (fun m x => wrByte m x.2 x.1) m) b =
      if a ≤ b ∧ b < a + l.length then nth l (b - a) % 256 else rdByte m b := by
  induction l generalizing a m with
  | nil => rw [if_neg (by simp)]; rfl
  | cons v r ih =>
    rw [List.zipIdx_cons, List.foldl_cons, ih, List.length_cons]
    by_cases hb : b = a
    · subst hb
      rw [if_neg (by omega), if_pos (by omega), rdByte_wrByte_self, Nat.sub_self]; rfl
    · rw [rdByte_wrByte_ne m v hb]
      by_cases hin : a + 1 ≤ b ∧ b < a + 1 + r.length
      · rw [if_pos hin, if_pos (by omega), show b - a = b - (a + 1) + 1 by omega]; rfl
      · rw [if_neg hin, if_neg (by omega)]

/-- Bytes written change memory alone. -/
theorem writeBytes_frame (l : List (Nat × Nat)) (m : Mach) : ∃ mem, l.foldl (fun m x => wrByte m x.2 x.1) m = { m with mem := mem } := by
  induction l generalizing m with
  | nil => exact ⟨m.mem, rfl⟩
  | cons x r ih =>
    obtain ⟨mem, h⟩ := ih (wrByte m x.2 x.1)
    exact ⟨mem, h⟩

/-- Without words in error the words written in part are left as they are, but for the bookkeeping. -/
theorem partialWords_clean (l : List Nat) (port : Nat) (m : Mach) (h : m.memb.flips = []) : ∃ b, l.foldl (fun m k =>
      let m := decodeWord m k 4 port
      setFlips { m with memb := { m.memb with due := m.memb.due.filter (· != k) } } k []) m = { m with memb := b } := by
  induction l generalizing m with
  | nil => exact ⟨m.memb, rfl⟩
  | cons k r ih =>
    rw [List.foldl_cons, decodeWord_clean h]
    obtain ⟨b, hb⟩ := ih (setFlips { m with memb := { m.memb with due := m.memb.due.filter (· != k) } } k []) (by simp [setFlips, h])
    exact ⟨b, hb⟩

/-- Without words in error a write writes its bytes, and beside them the bookkeeping alone. -/
theorem wrBytes_clean {m : Mach} (h : m.memb.flips = []) (a : Nat) (l : List Nat) (port : Nat) :
    ∃ b, wrBytes m a l port = (l.zipIdx a).foldl (fun m x => wrByte m x.2 x.1) { m with memb := b } := by
  obtain ⟨b, hb⟩ := partialWords_clean _ port m h
  exact ⟨_, by rw [wrBytes, hb]⟩

/-! ## The host's BARs (01 R45, R46, 03 R80) -/

/-- A doorbell of command ring `k` lies in page `k` of BAR2 (03 R80). -/
theorem bar2Write_command {m : Mach} {k : Nat} (hk : k < 16) (x : Nat) :
    bar2Write (k * 0x400) x m = producerDoorbell 0 (k * 0x400) k x (32 + k) m := by
  have hpage : k * 0x400 / 0x400 = k := by omega
  have ho : k * 0x400 % 0x400 = 0 := by omega
  simp [bar2Write, hpage, ho, hk]

/-- A read of BAR2 returns 0. -/
theorem regRead_bar2 (off : Nat) (m : Mach) : regRead .bar2 off m = (0, false, m) := ite_self _

/-- A read of BAR4 by a host that sees the block is performed. -/
theorem regRead_bar4 {m : Mach} (h : hostSees m = true) (off : Nat) : regRead .bar4 off m = bar4Read off m := by
  simp [regRead, inReset_of_hostSees h, h]

/-- Without words in error a read of BAR4 returns the working store. -/
theorem bar4Read_store {m : Mach} {off : Nat} (h : off < 0x1800000) (hu : unitOn m uFAB = false) (ht : m.test.fab = [])
    (hf : m.memb.flips = []) (hp : m.memb.poison = []) : bar4Read off m = (rdVal m (0x10000000 + off) 4, false, m) := by
  simp [bar4Read, busRead_store h hu ht hf hp, Nat.not_le.2 h]

/-- Before CFG_LOCK a host's write through BAR4 writes the working store. -/
theorem bar4Write_open {m : Mach} {off : Nat} {l : List Nat} (hs : hostSees m = true) (h : off < 0x1800000) (hl : m.locks.cfg = false)
    (hu : unitOn m uFAB = false) (ht : m.test.fab = []) :
    bar4Write off l m = wrBytes m (0x10000000 + off) (l.map (· % 256)) 1 := by
  simp [bar4Write, hs, Nat.not_le.2 h, hl, portUse_off hu, memWrite, portFlips_nil ht, pathWord]

/-- After CFG_LOCK it is refused as a lock violation. -/
theorem bar4Write_locked {m : Mach} {off : Nat} (hs : hostSees m = true) (h : off < 0x1800000) (hl : m.locks.cfg = true) (l : List Nat) :
    bar4Write off l m = lockViolation m 0 off := by
  simp [bar4Write, hs, Nat.not_le.2 h, hl]

/-- What a host's write through BAR4 before CFG_LOCK leaves: its bytes in the working store, and every other byte as it was. -/
theorem bar4Write_effect {m : Mach} {off : Nat} {l : List Nat} (hs : hostSees m = true) (h : off < 0x1800000) (hl : m.locks.cfg = false)
    (hwf : Memory.wf m.mem = true) (hu : unitOn m uFAB = false) (ht : m.test.fab = []) (hf : m.memb.flips = []) :
    Memory.wf (bar4Write off l m).mem = true ∧
      (∀ i, i < l.length → rdByte (bar4Write off l m) (0x10000000 + off + i) = nth l i % 256) ∧
      (∀ a, a < 0x10000000 + off ∨ 0x10000000 + off + l.length ≤ a → rdByte (bar4Write off l m) a = rdByte m a) ∧
      (bar4Write off l m).regs = m.regs ∧ (bar4Write off l m).cores = m.cores := by
  rw [bar4Write_open hs h hl hu ht]
  have hkeep := wrBytes_wf (0x10000000 + off) (l.map (· % 256)) 1 hwf
  obtain ⟨b, hb⟩ := wrBytes_clean hf (0x10000000 + off) (l.map (· % 256)) 1
  obtain ⟨mem, hmem⟩ := writeBytes_frame ((l.map (· % 256)).zipIdx (0x10000000 + off)) { m with memb := b }
  refine ⟨hkeep, fun i hi => ?_, fun a ha => ?_, by rw [hb, hmem], by rw [hb, hmem]⟩
  · rw [hb, rdByte_writeBytes, List.length_map, if_pos (by omega), Nat.add_sub_cancel_left]
    simp [nth, hi]
  · rw [hb, rdByte_writeBytes, List.length_map, if_neg (by omega)]
    rfl

/-! ## The registers that the statement names, and the statement -/

/-- A register write in chip reset does nothing. -/
theorem regWrite_inReset {m : Mach} (h : m.sys.inReset = true) (via : Via) (addr x : Nat) : regWrite via addr x m = m := if_pos h

/-- MEM_CTRL holds nothing but its fields: a write stores them. -/
theorem regWrite_memCtrl {m : Mach} {p : Nat} (hr : m.sys.inReset = false) (hp : p = 0 ∨ p = 1 ∧ hostSees m = true) (hd : domOn m 4 = true)
    (x : Nat) : regWrite (.port p) 0x400F0000 x m = plainWrite 15 0 (x % 2 ^ 32) m := by
  change regWrite (.port p) (regAddr 15 0) x m = _
  rw [regWrite_reaches hr hp (by decide), windowWrite_on (blk := 15) (d := 4) (by decide) (by decide) rfl rfl hd,
    halfWrite_whole (by decide) (by decide) (by decide)]
  rfl

/-- A host's doorbell for command ring `k` goes to that ring. -/
theorem regWrite_commandDoorbell {m : Mach} {k : Nat} (hk : k < 16) (hs : hostSees m = true) (x : Nat) :
    regWrite .bar2 (k * 0x400) x m = producerDoorbell 0 (k * 0x400) k x (32 + k) m := by
  have hoff : k * 0x400 % 0x10000 = k * 0x400 := by omega
  simp only [regWrite, inReset_of_hostSees hs, Bool.false_eq_true, if_false, hs, if_true, hoff, bar2Write_command hk]

/-- CYCLE_CFG_WRITE by a host that sees the block reaches TIME_CYCLE_CFG. -/
theorem regWrite_cycleCfg {m : Mach} (hs : hostSees m = true) (hd : domOn m dTIME = true) (x : Nat) :
    regWrite (.port 1) 0x400B0200 x m = cycleCfgWrite (x % 2 ^ 32) m := by
  change regWrite (.port 1) (regAddr 11 0x200) x m = _
  rw [regWrite_reaches (inReset_of_hostSees hs) (.inr ⟨rfl, hs⟩) (by decide),
    windowWrite_on (blk := 11) (d := dTIME) (by decide) (by decide) rfl rfl hd,
    halfWrite_whole (by decide) (by decide) (by decide)]
  rfl

/-- A read of TIME_NOW_LO answers the low half and latches the high one (00 R13). -/
theorem regRead_timeNowLo {m : Mach} {p : Nat} (hp : p = 0 ∨ p = 1 ∧ hostSees m = true) (hr : m.sys.inReset = false)
    (hd : domOn m dTIME = true) (ho : ∀ o, o < 8 → (outSt m o).ending = false) :
    regRead (.port p) 0x400B000C m = (m.cyc.now % 2 ^ 32, false,
      { m with hiLatch := sins (sdel m.hiLatch 0x400B0010) 0x400B0010 (m.cyc.now / 2 ^ 32 % 2 ^ 32) }) := by
  change regRead (.port p) (regAddr 11 0xC) m = _
  rw [regRead_reaches hr hp (by decide), windowRead_on (blk := 11) (d := dTIME) (by decide) (by decide) (by decide) rfl rfl hd,
    blockRead_timeNowLo ho]

/-- A read of TIME_NOW_HI answers what is latched for it, whatever cell time is by then. -/
theorem regRead_timeNowHi {m : Mach} {p : Nat} (hp : p = 0 ∨ p = 1 ∧ hostSees m = true) (hr : m.sys.inReset = false)
    (hd : domOn m dTIME = true) (ho : ∀ o, o < 8 → (outSt m o).ending = false) :
    (regRead (.port p) 0x400B0010 m).1 = sget m.hiLatch 0x400B0010 (m.cyc.now / 2 ^ 32 % 2 ^ 32) := by
  change (regRead (.port p) (regAddr 11 0x10) m).1 = _
  rw [regRead_reaches hr hp (by decide), windowRead_on (blk := 11) (d := dTIME) (by decide) (by decide) (by decide) rfl rfl hd]
  dsimp only
  rw [blockRead_timeNowHi ho]

/-- The next read of TIME_NOW_HI returns what was latched, at whatever instant it comes. -/
theorem regRead_timeNowHi_latched {m : Mach} {p : Nat} (hp : p = 0 ∨ p = 1 ∧ hostSees m = true) (hr : m.sys.inReset = false)
    (hd : domOn m dTIME = true) (ho : ∀ o, o < 8 → (outSt m o).ending = false) (r : Sparse Nat) (v t : Nat) :
    (regRead (.port p) 0x400B0010 (at' { m with hiLatch := sins r 0x400B0010 v } t)).1 = v := by
  rw [regRead_timeNowHi (m := at' { m with hiLatch := sins r 0x400B0010 v } t) hp hr hd ho]
  exact sget_sins_self r 0x400B0010 v _

/-- Settles O31: register writes; cell time read in two halves; reads and writes of the BARs; writes of blocks whose domain is off. -/
theorem registerAccesses : Obligations.RegisterAccesses := by
  refine ⟨?_, ?_, ?_, ?_, ?_⟩
  · intro p k x len cst s m
    refine ⟨fun hr => ?_, fun hr => ⟨fun hp hd => ?_, fun h0 h1 => ?_, fun hk hs => ?_, fun hs hd ha hl hlen hcst => ?_⟩⟩
    · rw [exec_registerWrite, regWrite_inReset hr]
    · rw [exec_registerWrite, regWrite_memCtrl hr hp hd]
    · rw [exec_registerWrite, regWrite_denied hr h0 h1 (by decide)]
    · rw [exec_registerWrite, regWrite_commandDoorbell hk hs]
    · rw [exec_cycleCfgWrite, regWrite_cycleCfg hs hd, cycleCfgWrite_stores ha hl]
      refine ⟨_, rfl, ?_, ?_, rfl, rfl⟩
      · rw [getF_setF_ne _ _ _ _ _ _ (by decide), getF_setF_self]
        simp only [bits, TIME_CYCLE_CFG_LEN]
        omega
      · rw [getF_setF_self]
        simp only [bits, TIME_CYCLE_CFG_PLAN_CUSTOM]
        omega
  · intro p s hp hr hd ho t lo
    have hlo : lo = _ := regRead_timeNowLo hp hr hd ho
    have hlatch : sget lo.2.2.hiLatch 0x400B0010 0 = t / 2 ^ 32 % 2 ^ 32 := by rw [hlo]; exact sget_sins_self ..
    refine ⟨?_, by rw [hlo], hlatch, by rw [hlo], fun d => ?_⟩
    · rw [exec_registerLoRead]
      change Host.Outcome.next { s with m := { lo.2.2 with out := { lo.2.2.out with answer := (lo.1, lo.2.1) } } } = _
      rw [hlo]
    · rw [hlo]
      exact regRead_timeNowHi_latched hp hr hd ho _ _ d
  · intro off s m answers
    refine ⟨?_, fun hr hs => ⟨fun h => ?_, fun h _ hu ht hf hpo => ?_⟩⟩
    · rw [exec_registerLoRead, regRead_bar2]
    · rw [exec_registerLoRead, regRead_bar4 hs, bar4Read, if_pos h]
    · rw [exec_registerLoRead, regRead_bar4 hs, bar4Read_store (by omega) hu ht hf hpo]
  · intro off l s m hs hlen hne
    have hin : off < 0x1800000 := by have := List.length_pos_iff.2 hne; omega
    refine ⟨fun hl => ?_, fun hl hwf hu ht hf => ⟨_, exec_bar4Write off l s, bar4Write_effect hs hin hl hwf hu ht hf⟩⟩
    rw [exec_bar4Write, bar4Write_locked hs hin hl]
  · intro n x en l s hr m off
    have offd (blk o : Nat) (f : Mach → Mach) := done_domWrite_off (blk := blk) hr o f
    refine ⟨offd _ _ _, offd _ _ _, ?_, ?_, offd _ _ _, offd _ _ _, offd _ _ _, fun hn => ⟨?_, ?_⟩, offd _ _ _, offd _ _ _, offd _ _ _,
      offd _ _ _, offd _ _ _, offd _ _ _, offd _ _ _, offd _ _ _, offd _ _ _, offd _ _ _, offd _ _ _, offd _ _ _, offd _ _ _, offd _ _ _,
      offd _ _ _, offd _ _ _, offd _ _ _⟩
    · exact ringCtrlOff_command n ▸ offd 1 (ringCtrlOff 0 n) (ringEnable 0 n)
    · exact ringCtrlOff_stream n ▸ offd 1 (ringCtrlOff 3 n) (ringDisable 3 n)
    · exact fun h => (done_slot hn _ s).trans (offd 7 _ _ h)
    · exact fun h => (done_slot hn _ s).trans (offd 7 _ _ h)

end Sys2Proof.Machine
end

section
/-! PROOFS. What the statements of 01_architecture share: one bit of a mask, keys of different fields, and what a report leaves. -/

namespace Sys2Proof.Machine

/-! ## One bit of a mask -/

/-- Replacing a bit above the lowest acts on the rest alone. -/
theorem setBits_succ (x i v : Nat) : setBits x (i + 1) 1 v % 2 = x % 2 ∧ setBits x (i + 1) 1 v / 2 = setBits (x / 2) i 1 v := by
  have hpow : (2 : Nat) ^ (i + 1) = 2 ^ i * 2 := Nat.pow_succ ..
  have hbit : bits x (i + 1) 1 = bits (x / 2) i 1 := by simp only [bits, hpow, Nat.mul_comm _ 2, Nat.div_div_eq_div_mul]
  have hle : bits (x / 2) i 1 * 2 ^ i ≤ x / 2 := (Nat.mul_le_mul_right _ (Nat.mod_le ..)).trans (Nat.div_mul_le_self ..)
  simp only [setBits, hbit, hpow, ← Nat.mul_assoc]
  omega

/-- The bit replaced reads as the new one, every other bit as before. -/
theorem testBit_setBits (x i v k : Nat) : (setBits x i 1 v).testBit k = if k = i then v.testBit 0 else x.testBit k := by
  induction i generalizing x k with
  | zero =>
    have hlow : setBits x 0 1 v % 2 = v % 2 ∧ setBits x 0 1 v / 2 = x / 2 := by simp only [setBits, bits]; omega
    cases k with
    | zero => simp [Nat.testBit_zero, hlow.1]
    | succ k => simp [Nat.testBit_succ, hlow.2]
  | succ i ih =>
    obtain ⟨hlow, hrest⟩ := setBits_succ x i v
    cases k with
    | zero => simp [Nat.testBit_zero, hlow]
    | succ k => simp [Nat.testBit_succ, hrest, ih]

/-- A condition as a bit. -/
theorem testBit_b2n (b : Bool) : (b2n b).testBit 0 = b := by cases b <;> rfl

/-- The bit replaced reads as the condition. -/
theorem testBit_setBits_self (x i : Nat) (b : Bool) : (setBits x i 1 (b2n b)).testBit i = b := by
  rw [testBit_setBits, if_pos rfl, testBit_b2n]

/-- The other bits stay. -/
theorem testBit_setBits_ne (x v : Nat) {i k : Nat} (h : k ≠ i) : (setBits x i 1 v).testBit k = x.testBit k := by simp [testBit_setBits, h]

/-! ## Keys of different fields (01 R29) -/

/-- Two fields of registers that lie equally far apart have different keys at every instance where they have at the first. -/
theorem Fld.key_ne_of_stride {f g : Fld} (h : g.stride = f.stride ∧ g.key 0 ≠ f.key 0) (i : Nat) : g.key i ≠ f.key i := by
  obtain ⟨hs, h0⟩ := h
  simp only [Fld.key, Fld.addr] at h0 ⊢
  rw [hs]
  omega

/-- Writing a field leaves the same instance of another one whose registers lie equally far apart. -/
theorem getF_setF_other {f g : Fld} (h : g.stride = f.stride ∧ g.key 0 ≠ f.key 0) (m : Mach) (i v : Nat) :
    getF (setF m f i v) g i = getF m g i :=
  getF_setF_ne m f g i i v (Fld.key_ne_of_stride h i)

/-- The keys of a field rise with the instance. -/
theorem Fld.key_mono (f : Fld) {i j : Nat} (h : i ≤ j) : f.key i ≤ f.key j := by
  have := Nat.mul_le_mul_left f.stride h
  simp only [Fld.key, Fld.addr]
  omega

/-- Writing a field leaves one that lies below all its instances. -/
theorem getF_setF_above {f g : Fld} {j : Nat} (h : g.key j < f.key 0) (m : Mach) (i v : Nat) : getF (setF m f i v) g j = getF m g j :=
  getF_setF_ne m f g i j v (Nat.ne_of_lt (Nat.lt_of_lt_of_le h (f.key_mono (Nat.zero_le i))))

/-- Writing a field leaves one that lies above it. -/
theorem getF_setF_below {f g : Fld} {i : Nat} (h : f.key i < g.key 0) (m : Mach) (j v : Nat) : getF (setF m f i v) g j = getF m g j :=
  getF_setF_ne m f g i j v (Nat.ne_of_gt (Nat.lt_of_lt_of_le h (g.key_mono (Nat.zero_le j))))

/-- A flag of one bit per slot set or cleared reads so. -/
theorem testBit_setSlotBit {f : Fld} {k : Nat} (hk : k < f.w) (m : Mach) (b : Bool) : (getF (setSlotBit m f k b) f).testBit k = b := by
  rw [setSlotBit, getF_setF_self, Nat.testBit_mod_two_pow, testBit_setBits_self]
  simp [hk]

/-! ## What a report leaves (00 R20 to R22) -/

/-- Of the machine, `m'` differs from `m` in the held events, the fault log, the requested reactions and registers of the blocks SYS and HIF
alone. -/
structure Reported (m m' : Mach) : Prop where
  rest : ∃ r h s a, m' = { m with regs := r, hif := h, sys := s, reacts := a }
  fields : ∀ (g : Fld) j, 2 ≤ g.blk → getF m' g j = getF m g j

namespace Reported
variable {m m' m'' : Mach}

theorem refl : Reported m m := ⟨⟨_, _, _, _, rfl⟩, fun _ _ _ => rfl⟩

theorem trans (h : Reported m m') (h' : Reported m' m'') : Reported m m'' := by
  obtain ⟨⟨r, x, y, a, rfl⟩, hf⟩ := h
  obtain ⟨⟨r', x', y', a', rfl⟩, hf'⟩ := h'
  exact ⟨⟨r', x', y', a', rfl⟩, fun g j hg => (hf' g j hg).trans (hf g j hg)⟩

theorem ite {c : Prop} [Decidable c] {a b : Mach} (ha : Reported m a) (hb : Reported m b) : Reported m (if c then a else b) := by
  split
  · exact ha
  · exact hb

/-- A register of SYS or HIF written. -/
theorem of_setF {f : Fld} {i : Nat} (v : Nat) (h : f.key i < 0x40020000 * 32) : Reported m (setF m f i v) :=
  ⟨⟨_, m.hif, m.sys, m.reacts, rfl⟩, fun g j hg => getF_setF_below (Nat.lt_of_lt_of_le h (by simp only [Fld.key, Fld.addr]; omega)) m j v⟩

/-- Anything else of them changed. -/
theorem of_eq (h : ∃ x y a, m' = { m with hif := x, sys := y, reacts := a }) : Reported m m' := by
  obtain ⟨x, y, a, rfl⟩ := h
  exact ⟨⟨m.regs, x, y, a, rfl⟩, fun _ _ _ => rfl⟩

end Reported

/-- An event held for one of the four rings. -/
theorem holdEv_reported (m : Mach) {k : Nat} (hk : k < 4) (e : Ev) : Reported m (holdEv m k e) := by
  have hkey : HIF_EVT_DROP_CNT.key k < 0x40020000 * 32 := by simp only [Fld.key, Fld.addr, HIF_EVT_DROP_CNT]; omega
  exact .ite ((Reported.of_setF _ hkey).trans (.of_eq ⟨_, _, _, rfl⟩)) (.of_eq ⟨_, _, _, rfl⟩)

/-- An error logged. -/
theorem logEv_reported (m : Mach) (e : Ev) : Reported m (logEv m e) := by
  have hcount : Reported m (if 256 < (m.sys.flog ++ [e]).length then incF m SYS_FLOG_CNT_OVERWRITTEN 0 1 else m) :=
    .ite (.of_setF _ (by decide)) .refl
  exact (hcount.trans (.of_eq ⟨_, _, _, rfl⟩)).trans (.of_setF _ (by decide))

/-- A report holds its event, logs an error and requests the reaction, and does nothing else. -/
theorem report_reported (m : Mach) (code cls kind id detail index : Nat) : Reported m (report m code cls kind id detail index) := by
  have hring : ∀ b, getF m HIF_EVT_ROUTE_RING b < 4 := fun b => Nat.mod_lt _ (by decide)
  simp only [report]
  refine .ite (.trans ?_ (.of_eq ⟨_, _, _, rfl⟩)) ?_ <;>
    exact (Reported.ite (holdEv_reported m (hring _) _) .refl).trans (.ite (logEv_reported _ _) .refl)

namespace Reported
variable {m m' : Mach} (h : Reported m m')
include h

theorem mem : m'.mem = m.mem := by obtain ⟨⟨_, _, _, _, rfl⟩, _⟩ := h; rfl
theorem safe : m'.safe = m.safe := by obtain ⟨⟨_, _, _, _, rfl⟩, _⟩ := h; rfl
theorem cyc : m'.cyc = m.cyc := by obtain ⟨⟨_, _, _, _, rfl⟩, _⟩ := h; rfl
theorem force : m'.force = m.force := by obtain ⟨⟨_, _, _, _, rfl⟩, _⟩ := h; rfl
theorem pwr : m'.pwr = m.pwr := by obtain ⟨⟨_, _, _, _, rfl⟩, _⟩ := h; rfl
theorem tap : m'.tap = m.tap := by obtain ⟨⟨_, _, _, _, rfl⟩, _⟩ := h; rfl

end Reported

end Sys2Proof.Machine
end

section
/-! PROOFS. The safety island's inputs, faults, lock-out and halt (14 R431, 15 R435 to R456, 16 R476), and the statement on them. -/

namespace Sys2Proof.Machine

/-! ## The commands of this statement -/

theorem exec_safeInputChange (i ch : Nat) (l : List Bool) (s : State) : exec (.safeInputChange i ch l) s = done (safeInputChange i ch l) s := rfl
theorem exec_discrepancyTimeout (i : Nat) (s : State) : exec (.discrepancyTimeout i) s = done (discrepancyTimeout i) s := rfl
theorem exec_testPulse (i ch : Nat) (l : List Bool) (s : State) : exec (.testPulse i ch l) s = done (testPulse i ch l) s := rfl
theorem exec_outputReadbackMismatch (sto : Bool) (o : Nat) (s : State) :
    exec (.outputReadbackMismatch sto o) s = done (fun m => readBackFault m sto o) s := rfl
theorem exec_darkTest (sto : Bool) (o : Nat) (low : Bool) (s : State) : exec (.darkTest sto o low) s = done (darkTest sto o low) s := rfl
theorem exec_edmTimeout (o : Nat) (s : State) : exec (.edmTimeout o) s = done (edmTimeout o) s := rfl
theorem exec_resetButtonRelease (d : Nat) (s : State) : exec (.resetButtonRelease d) s = done (pressRelease d) s := rfl
theorem exec_resetStuck (s : State) : exec .resetStuck s = done resetStuck s := rfl
theorem exec_islandSelfTestDone (ok p : Bool) (s : State) : exec (.islandSelfTestDone ok p) s = done (islandSelfTest ok p) s := rfl
theorem exec_islandInternalFault (s : State) : exec .islandInternalFault s = done islandHalt s := rfl
theorem exec_timeReferenceMarker (t : Nat) (s : State) : exec (.timeReferenceMarker t) s = done (timeMarker t) s := rfl
theorem exec_sensorFrameReceive (k t : Nat) (l : List Nat) (s : State) : exec (.sensorFrameReceive k t l) s = done (sensorFrame k t l) s := rfl

/-- A command whose effect leaves the machine leaves the state. -/
theorem done_same {f : Mach → Mach} {s : State} (h : f s.m = s.m) : done f s = .next s := by rw [done, h]

/-- A command's effect on the machine gives the next state. -/
theorem done_eq {f : Mach → Mach} {s : State} {m' : Mach} (h : f s.m = m') : done f s = .next { s with m := m' } := by rw [done, h]

/-! ## The input filter (15 R439) -/

/-- Samples at the filtered level end every count. -/
theorem filter_replicate_same (filt : Nat) (b : Bool) (n c : Nat) :
    (List.replicate n b).foldl (filterStep filt) (b, c) = (b, if n = 0 then c else 0) := by
  induction n generalizing c with
  | zero => rfl
  | succ n ih =>
    rw [List.replicate_succ, List.foldl_cons, show filterStep filt (b, c) b = (b, 0) from if_pos rfl, ih, ite_self]
    simp

/-- Samples at the other level are counted until there are as many as the filter asks for; the level then changes. -/
theorem filter_replicate_other (filt : Nat) {b lv : Bool} (h : lv ≠ b) (n c : Nat) :
    (List.replicate n b).foldl (filterStep filt) (lv, c) = if 1 ≤ n ∧ filt ≤ c + n then (b, 0) else (lv, c + n) := by
  induction n generalizing c with
  | zero => simp
  | succ n ih =>
    rw [List.replicate_succ, List.foldl_cons]
    by_cases hc : filt ≤ c + 1
    · have hstep : filterStep filt (lv, c) b = (b, 0) := by simp [filterStep, h.symm, hc]
      rw [hstep, filter_replicate_same, ite_self, if_pos (by omega)]
    · have hstep : filterStep filt (lv, c) b = (lv, c + 1) := by simp [filterStep, h.symm, hc]
      rw [hstep, ih]
      refine ite_congr (propext ?_) (fun _ => rfl) (fun _ => by rw [Nat.add_assoc, Nat.add_comm 1])
      omega

/-- The filtered level of a channel of an input. -/
def level (ch : Nat) (f : SafeSt) (i : Nat) : Bool := (if ch = 0 then f.lvA else f.lvB).testBit i

/-- The newest raw levels are all that a sample of them changes. -/
theorem putRaw_frame (i ch : Nat) (b : Bool) (m : Mach) :
    ∃ x y, putRaw i ch b m = { m with safe := { m.safe with rawA := x, rawB := y } } := by
  unfold putRaw onSafe
  split
  · exact ⟨_, m.safe.rawB, rfl⟩
  · exact ⟨m.safe.rawA, _, rfl⟩

/-- The channel's filter takes a level and a count. -/
def putFilter (i ch : Nat) (x : Bool × Nat) (f : SafeSt) : SafeSt :=
  if ch = 0 then { f with filt := sput f.filt (2 * i + ch) x.2 0, lvA := setBits f.lvA i 1 (b2n x.1) }
  else { f with filt := sput f.filt (2 * i + ch) x.2 0, lvB := setBits f.lvB i 1 (b2n x.1) }

/-- It then holds them, and the other inputs' filters are as they were. -/
theorem putFilter_holds (i : Nat) {ch : Nat} (hch : ch < 2) (x : Bool × Nat) (f : SafeSt) :
    (level ch (putFilter i ch x f) i, sget (putFilter i ch x f).filt (2 * i + ch) 0) = x ∧
      (∀ k, k ≠ i → (putFilter i ch x f).lvA.testBit k = f.lvA.testBit k ∧ (putFilter i ch x f).lvB.testBit k = f.lvB.testBit k) ∧
      (putFilter i ch x f).inFault = f.inFault ∧ (putFilter i ch x f).st = f.st := by
  obtain rfl | rfl : ch = 0 ∨ ch = 1 := by omega
  · exact ⟨Prod.ext (testBit_setBits_self ..) (sget_sput_self ..), fun k hk => ⟨testBit_setBits_ne _ _ hk, rfl⟩, rfl, rfl⟩
  · exact ⟨Prod.ext (testBit_setBits_self ..) (sget_sput_self ..), fun k hk => ⟨rfl, testBit_setBits_ne _ _ hk⟩, rfl, rfl⟩

/-- SAFE_INPUT_CHANGE of an island that samples: the channel's filter takes the samples, and other inputs' filters are as they were. -/
theorem safeInputChange_samples {m : Mach} {i ch : Nat} (hi : i < 16) (hch : ch < 2) (hruns : islandRuns m = true) (l : List Bool) :
    ∃ g, safeInputChange i ch l m = { m with safe := g } ∧
      (level ch g i, sget g.filt (2 * i + ch) 0) =
        l.foldl (filterStep (field (inRec m.safe.cfg i) 4 2)) (level ch m.safe i, sget m.safe.filt (2 * i + ch) 0) ∧
      (∀ k, k ≠ i → g.lvA.testBit k = m.safe.lvA.testBit k ∧ g.lvB.testBit k = m.safe.lvB.testBit k) ∧
      g.inFault = m.safe.inFault ∧ g.st = m.safe.st := by
  have hguard : (decide (16 ≤ i) || decide (2 ≤ ch) || !islandRuns m) = false := by simp [hruns]; omega
  rw [safeInputChange, hguard, if_neg Bool.false_ne_true]
  generalize hx : l.foldl (filterStep (field (inRec m.safe.cfg i) 4 2)) (level ch m.safe i, sget m.safe.filt (2 * i + ch) 0) = x
  cases l.getLast? with
  | none => exact ⟨putFilter i ch x m.safe, by rw [← hx]; rfl, putFilter_holds i hch x m.safe⟩
  | some b =>
    obtain ⟨rA, rB, hraw⟩ := putRaw_frame i ch b m
    refine ⟨putFilter i ch x { m.safe with rawA := rA, rawB := rB }, ?_, putFilter_holds i hch x _⟩
    rw [← hx]
    exact congrArg (onSafe · (putFilter i ch _)) hraw

/-! ## Faults and the lock-out (15 R442 to R444, R455) -/

/-- What the island as a whole does about a fault with a code that takes it from `m` to `m'`: while it supervises it goes to LOCKOUT, and its
outputs de-energise at the next cycle start; a lock-out that stands keeps its cause. -/
def LockedOut (m m' : Mach) (code : Nat) : Prop :=
  m'.mem = m.mem ∧ m'.regs = m.regs ∧ m'.hif = m.hif ∧ m'.safe.out = m.safe.out ∧ m'.safe.sto = m.safe.sto ∧
    (islandActive m = true → m'.safe.st = 5 ∧ m'.safe.cause = code ∧ m'.safe.was = m.safe.st ∧ m'.safe.outNext = 0 ∧ m'.safe.stoNext = 0) ∧
    (m.safe.st = 5 → m'.safe.st = 5 ∧ m'.safe.cause = m.safe.cause)

/-- Changes of the island one after the other. -/
theorem onSafe_onSafe (m : Mach) (f g : SafeSt → SafeSt) : onSafe (onSafe m f) g = onSafe m (g ∘ f) := rfl

/-- A counter of the mirror counts one. -/
def countOne (k : Nat) (f : SafeSt) : SafeSt := { f with cnt := sput f.cnt k (satAdd 0xFFFF (sget f.cnt k 0) 1) 0 }

theorem safeCount_eq (m : Mach) (k : Nat) : safeCount m k = onSafe m (countOne k) := rfl

/-- An error of node scope is told to the main side. -/
def tellNode (node code d : Nat) (f : SafeSt) : SafeSt := { f with news := f.news ++ [(code, 3, 1, node, d)] }

theorem safeNode_eq (m : Mach) (mark : SafeSt → SafeSt) (code d : Nat) :
    safeNode (onSafe m mark) code 3 d = onSafe m (tellNode (nodeId m) code d ∘ mark) := rfl

/-- An island that supervises goes to LOCKOUT. -/
def goLockout (code : Nat) (f : SafeSt) : SafeSt :=
  if f.st == 3 || f.st == 4 then
    countOne 13 { f with was := f.st, st := 5, cause := code, outNext := 0, stoNext := 0 }
  else f

/-- The lock-out concerns the island alone. -/
theorem lockIsland_eq (m : Mach) (code : Nat) : lockIsland m code = onSafe m (goLockout code) := by
  unfold lockIsland onSafe goLockout islandActive
  split
  · rfl
  · rfl

/-- A fault that `mark` notes, counted, told and answered with a lock-out. -/
def noteFault (mark : SafeSt → SafeSt) (node cntr code d : Nat) : SafeSt → SafeSt :=
  goLockout code ∘ tellNode node code d ∘ countOne cntr ∘ mark

/-- So the island's operations do it. -/
theorem noteFault_eq (m : Mach) (mark : SafeSt → SafeSt) (cntr code d : Nat) :
    lockIsland (safeNode (safeCount (onSafe m mark) cntr) code 3 d) code = onSafe m (noteFault mark (nodeId m) cntr code d) := by
  rw [safeCount_eq, onSafe_onSafe, safeNode_eq, lockIsland_eq, onSafe_onSafe, noteFault]

/-- It locks the island out. -/
theorem noteFault_locks {m : Mach} {mark : SafeSt → SafeSt} {g : SafeSt} (hg : mark m.safe = g) (hst : g.st = m.safe.st)
    (hout : g.out = m.safe.out) (hsto : g.sto = m.safe.sto) (hcause : g.cause = m.safe.cause) (node cntr code d : Nat) :
    LockedOut m (onSafe m (noteFault mark node cntr code d)) code := by
  have hsafe : (onSafe m (noteFault mark node cntr code d)).safe = goLockout code (tellNode node code d (countOne cntr g)) := by rw [← hg]; rfl
  refine ⟨rfl, rfl, rfl, ?_, ?_, fun ha => ?_, fun h5 => ?_⟩ <;> rw [hsafe]
  · unfold goLockout; split <;> exact hout
  · unfold goLockout; split <;> exact hsto
  · rw [goLockout, if_pos (by rw [tellNode, countOne, hst]; exact ha)]
    exact ⟨rfl, rfl, hst, rfl, rfl⟩
  · rw [goLockout, if_neg (by rw [tellNode, countOne, hst, h5]; decide)]
    exact ⟨hst.trans h5, hcause⟩

/-- A lock-out leaves what has been noted. -/
theorem goLockout_noted (code : Nat) (f : SafeSt) : (goLockout code f).inFault = f.inFault ∧ (goLockout code f).outFault = f.outFault ∧
    (goLockout code f).stoFault = f.stoFault ∧ (goLockout code f).edmFault = f.edmFault := by
  unfold goLockout
  split
  · exact ⟨rfl, rfl, rfl, rfl⟩
  · exact ⟨rfl, rfl, rfl, rfl⟩

/-- An input is marked as being in FAULT. -/
def markInput (i : Nat) (f : SafeSt) : SafeSt := { f with inFault := setBits f.inFault i 1 1 }
/-- An output is marked as faulty. -/
def markOutput (o : Nat) (f : SafeSt) : SafeSt := { f with outFault := setBits f.outFault o 1 1 }
/-- An STO output is marked as faulty. -/
def markSto (o : Nat) (f : SafeSt) : SafeSt := { f with stoFault := setBits f.stoFault o 1 1 }
/-- An output is marked with an EDM fault. -/
def markEdm (o : Nat) (f : SafeSt) : SafeSt := { f with edmFault := setBits f.edmFault o 1 1 }

/-- A fault of an input that has none locks the island out, and the input is in FAULT. -/
theorem inputFault_locks {m : Mach} {i : Nat} (h : m.safe.inFault.testBit i = false) (code cntr : Nat) :
    (inputFault m i code cntr).safe.inFault.testBit i = true ∧ LockedOut m (inputFault m i code cntr) code := by
  have heq : inputFault m i code cntr = onSafe m (noteFault (markInput i) (nodeId m) cntr code i) := by
    rw [inputFault, h, if_neg Bool.false_ne_true]; exact noteFault_eq m (markInput i) ..
  rw [heq]
  exact ⟨(congrArg (·.testBit i) (goLockout_noted code _).1).trans (testBit_setBits_self _ i true),
    noteFault_locks (mark := markInput i) rfl rfl rfl rfl rfl ..⟩

/-- The channels of an input of a configured island have disagreed for too long. -/
theorem discrepancyTimeout_apart {m : Mach} {i : Nat} (hc : islandConfigured m = true) (hi : i < 16) (hin : inMode m i ≠ 0)
    (h : chanRun m i 0 ≠ chanRun m i 1) : discrepancyTimeout i m = inputFault m i E_SAFE_DISCREPANCY 0 := by
  simp [discrepancyTimeout, hc, hin, h, Nat.not_le.2 hi]

/-- Channels that agree are no fault. -/
theorem discrepancyTimeout_alike {m : Mach} {i : Nat} (h : chanRun m i 0 = chanRun m i 1) : discrepancyTimeout i m = m := by
  simp [discrepancyTimeout, h]

/-- The sample before the last ten is the last one in the pulse. -/
theorem pulseLast_eq {early late : List Bool} {q b : Bool} (h : late.length = 9) : pulseLast (early ++ [q] ++ late ++ [b]) = some q := by
  simp [pulseLast, h]

/-- A test pulse of a tested channel: the newest raw level, and a fault where the channel's last sample in the pulse is high. -/
theorem testPulse_judged {m : Mach} {i ch : Nat} (hc : islandConfigured m = true) (hi : i < 16) (hch : ch < 2) (hin : inMode m i ≠ 0)
    (ht : (field (inRec m.safe.cfg i) 1 1).testBit ch = true) {early late : List Bool} {q b : Bool} (hl : late.length = 9) :
    testPulse i ch (early ++ [q] ++ late ++ [b]) m =
      if rawRun m i ch = true ∧ q = true then inputFault (putRaw i ch b m) i E_SAFE_TESTPULSE 1 else putRaw i ch b m := by
  have hlast : (early ++ [q] ++ late ++ [b]).getLast? = some b := List.getLast?_concat ..
  have hguard : (!islandConfigured m || decide (16 ≤ i) || decide (2 ≤ ch) || inMode m i == 0 ||
      !(field (inRec m.safe.cfg i) 1 1).testBit ch) = false := by simp [hc, ht, hin]; omega
  simp only [testPulse, hguard, pulseLast_eq hl, hlast, Bool.false_eq_true, if_false]
  cases rawRun m i ch <;> cases q <;> rfl

/-- A read-back that differs at an output without a fault is noted. -/
theorem readBackFault_output {m : Mach} {o : Nat} (hc : islandConfigured m = true) (ho : o < 8) (h : m.safe.outFault.testBit o = false) :
    (readBackFault m false o).safe.outFault.testBit o = true ∧ LockedOut m (readBackFault m false o) E_SAFE_READBACK := by
  have heq : readBackFault m false o = onSafe m (noteFault (markOutput o) (nodeId m) 3 E_SAFE_READBACK (o + 128 * b2n false)) := by
    rw [readBackFault, if_neg (by simp [hc, h, ho])]; exact noteFault_eq m (markOutput o) ..
  rw [heq]
  exact ⟨(congrArg (·.testBit o) (goLockout_noted _ _).2.1).trans (testBit_setBits_self _ o true),
    noteFault_locks (mark := markOutput o) rfl rfl rfl rfl rfl ..⟩

/-- The same of an STO output. -/
theorem readBackFault_sto {m : Mach} {o : Nat} (hc : islandConfigured m = true) (ho : o < 16) (h : m.safe.stoFault.testBit o = false) :
    (readBackFault m true o).safe.stoFault.testBit o = true ∧ LockedOut m (readBackFault m true o) E_SAFE_READBACK := by
  have heq : readBackFault m true o = onSafe m (noteFault (markSto o) (nodeId m) 3 E_SAFE_READBACK (o + 128 * b2n true)) := by
    rw [readBackFault, if_neg (by simp [hc, h, ho])]; exact noteFault_eq m (markSto o) ..
  rw [heq]
  exact ⟨(congrArg (·.testBit o) (goLockout_noted _ _).2.2.1).trans (testBit_setBits_self _ o true),
    noteFault_locks (mark := markSto o) rfl rfl rfl rfl rfl ..⟩

/-- No read-back is judged without a configuration. -/
theorem readBackFault_unconfigured {m : Mach} (hc : islandConfigured m = false) (sto : Bool) (o : Nat) : readBackFault m sto o = m := by
  simp [readBackFault, hc]

/-- The dark pulse of an energised output whose read-back stays high is a read-back that differs. -/
theorem darkTest_high {m : Mach} {o : Nat} (h : m.safe.out.testBit o = true) : darkTest false o false m = readBackFault m false o := by
  simp [darkTest, h]

/-- An EDM feedback that is not as required at an output without an EDM fault is noted. -/
theorem edmTimeout_locks {m : Mach} {o : Nat} (hc : islandConfigured m = true) (ho : o < 8) (hon : edmOn m o = true)
    (h : m.safe.edmFault.testBit o = false) :
    (edmTimeout o m).safe.edmFault.testBit o = true ∧ LockedOut m (edmTimeout o m) E_SAFE_EDM := by
  have heq : edmTimeout o m = onSafe m (noteFault (markEdm o) (nodeId m) 2 E_SAFE_EDM o) := by
    rw [edmTimeout, if_pos (by simp [hc, ho, hon]), edmFail, h, if_neg Bool.false_ne_true]; exact noteFault_eq m (markEdm o) ..
  rw [heq]
  exact ⟨(congrArg (·.testBit o) (goLockout_noted _ _).2.2.2).trans (testBit_setBits_self _ o true),
    noteFault_locks (mark := markEdm o) rfl rfl rfl rfl rfl ..⟩

/-! ## Halt (15 R435) -/

/-- HALT de-energises every output at once; the code is reported, and nothing else changes. -/
theorem islandHalt_halts {m : Mach} (h0 : m.safe.st ≠ 0) (h6 : m.safe.st ≠ 6) :
    (islandHalt m).safe = { m.safe with st := 6, out := 0, outNext := 0, sto := 0, stoNext := 0 } ∧ (islandHalt m).mem = m.mem := by
  rw [islandHalt, if_neg (by simp [h0, h6])]
  have hr := report_reported (onSafe m fun s => { s with st := 6, out := 0, outNext := 0, sto := 0, stoNext := 0 })
    E_SAFE_HALT (reacClass m E_SAFE_HALT 0xFFFF 3) 1 (nodeId m) 0 0xFFFF
  exact ⟨hr.safe, hr.mem⟩

/-! ## Markers and sensor frames (14 R431, 16 R476) -/

/-- A marker of valid cell time resets the age of the last one. -/
theorem timeMarker_taken {m : Mach} {t : Nat} (hx : crosses m 11 = true) (ht : t % 200000 = 0) (hf : m.time.markerFrom ≤ t)
    (hm : isManager m = true) :
    timeMarker t m = { at' m t with safe := { m.safe with markAge := 0, anew := if m.safe.anew = 1 then 2 else m.safe.anew } } := by
  have hnet : networked m = false := by simp [networked, hm]
  rw [timeMarker, if_neg (by simp [hx, ht, hnet, Nat.not_lt.2 hf])]
  rfl

/-- A sensor frame of a configured port is kept. -/
theorem sensorFrame_kept {m : Mach} {k : Nat} (hk : k < 4) (hc : islandConfigured m = true) (hr : sensRec m k ≠ none) (t : Nat) (l : List Nat) :
    sensorFrame k t l m = { m with safe := { m.safe with
      sens := sput m.safe.sens k { sget m.safe.sens k {} with rx := lastN 16 ((sget m.safe.sens k {}).rx ++ [(t, l)]) } {} } } := by
  rw [sensorFrame, if_neg (by simp [hc, hr, Nat.not_le.2 hk])]
  rfl

/-! ## The reset input (15 R456) -/

/-- A press of valid length counts once the island has left START. -/
theorem pressRelease_valid {m : Mach} {d : Nat} (hp : m.safe.oldPress = false) (h2 : 2 ≤ m.safe.st) (h6 : m.safe.st ≠ 6) (h5 : 5000 ≤ d)
    (hd : d < 500000) : pressRelease d m = { m with safe := { m.safe with presses := m.safe.presses + 1 } } := by
  rw [pressRelease, if_neg (by simp [hp]), if_neg (by omega)]
  rfl

/-- A press that is too short or too long does not. -/
theorem pressRelease_invalid {m : Mach} {d : Nat} (hp : m.safe.oldPress = false) (hd : d < 5000 ∨ 500000 ≤ d) : pressRelease d m = m := by
  rw [pressRelease, if_neg (by simp [hp]), if_pos (by omega)]

/-- A press of more than 5 s is told once. -/
theorem resetStuck_told {m : Mach} (h0 : m.safe.st ≠ 0) (h6 : m.safe.st ≠ 6) (hs : m.safe.stuck = false) :
    resetStuck m = { m with safe := { m.safe with stuck := true, news := m.safe.news ++ [(E_SAFE_RESET_STUCK, 0, 1, nodeId m, 0)] } } := by
  rw [resetStuck, if_neg (by simp [h0, h6, hs])]
  rfl

/-! ## The statement -/

/-- Settles O48: the filter by induction on the samples, the faults through `noteFault_locks`, the halt through `islandHalt_halts`. -/
theorem islandFaultsLockOut : Obligations.IslandFaultsLockOut := by
  intro i o ch d t sto samples l s hi ho hch m f locks set same halts lv cnt
  have keeps {c : Instr} {g : Mach → Mach} (hc : exec c s = done g s) (h : g m = m) : same c := hc.trans (done_same h)
  have sets {c : Instr} {g : Mach → Mach} {f' : SafeSt} (hc : exec c s = done g s) (h : g m = { m with safe := f' }) : set c f' :=
    hc.trans (done_eq h)
  refine ⟨fun h0 h6 n b => ?_, fun h => ?_, fun hc hin => ⟨fun h hf => ?_, fun h => ?_, fun ht early late q b hl => ?_⟩,
    fun hc => ⟨fun h => ?_, fun h => ?_, fun hon h => ?_, ?_, fun hon h => ?_, fun hon => ?_⟩,
    fun hc => ⟨?_, ?_, ?_, ?_, fun k => ?_⟩, fun hp h2 h6 h5 hd => ?_, fun hp hd => ?_, fun hp => ?_, fun h0 h6 hs => ?_,
    fun h1 => ⟨fun p => ?_, fun p => ?_⟩, fun h0 h6 => ?_, fun hx ht hf hm => ?_, fun h => ?_,
    fun hc k hk hr => ?_⟩
  · have hruns : islandRuns m = true := by simp [islandRuns, show m.safe.st ≠ 0 from h0, show m.safe.st ≠ 6 from h6]
    obtain ⟨g, hg, hpair, hrest⟩ := safeInputChange_samples hi hch hruns (List.replicate n b)
    have hfilt : (lv g, cnt g) = (List.replicate n b).foldl (filterStep (field (inRec f.cfg i) 4 2)) (lv f, cnt f) := hpair
    refine ⟨g, sets (exec_safeInputChange ..) hg, fun h => ?_, fun h => ?_, hrest⟩
    · rw [h, filter_replicate_same] at hfilt
      obtain ⟨hlv, hcnt⟩ := Prod.mk.inj hfilt
      exact ⟨hlv, fun hn => hcnt.trans (if_neg (by omega))⟩
    · rw [filter_replicate_other _ h] at hfilt
      split at hfilt
      case isTrue hcond =>
        obtain ⟨hlv, -⟩ := Prod.mk.inj hfilt
        exact ⟨iff_of_true hlv hcond, fun hne => absurd hlv hne⟩
      case isFalse hcond =>
        obtain ⟨hlv, hcnt⟩ := Prod.mk.inj hfilt
        exact ⟨iff_of_false (fun hb => h (hlv.symm.trans hb)) hcond, fun _ => hcnt⟩
  · refine keeps (exec_safeInputChange ..) (if_pos ?_)
    rcases h with h | h <;> simp [islandRuns, show m.safe.st = _ from h]
  · refine ⟨_, exec_discrepancyTimeout i s, ?_⟩
    rw [discrepancyTimeout_apart hc hi hin h]
    exact inputFault_locks hf ..
  · exact keeps (exec_discrepancyTimeout i s) (discrepancyTimeout_alike h)
  · have heq := testPulse_judged hc hi hch hin ht (early := early) (q := q) (b := b) hl
    obtain ⟨x, y, hraw⟩ := putRaw_frame i ch b m
    rw [hraw] at heq
    refine ⟨fun htest hq hf => ⟨_, exec_testPulse .., ?_⟩, fun hn => ⟨_, sets (exec_testPulse ..) (heq.trans (if_neg ?_)), rfl, rfl, rfl, rfl, rfl⟩⟩
    · rw [heq, if_pos ⟨htest, hq⟩]
      exact inputFault_locks (m := { m with safe := { m.safe with rawA := x, rawB := y } }) hf ..
    · rintro ⟨htest, hq⟩
      exact hn.elim (fun h => h htest) (fun h => absurd (hq.symm.trans h) (by decide))
  · exact ⟨_, exec_outputReadbackMismatch false o s, readBackFault_output hc ho h⟩
  · exact ⟨_, exec_outputReadbackMismatch true o s, readBackFault_sto hc (by omega) h⟩
  · refine ⟨_, exec_darkTest false o false s, ?_⟩
    rw [darkTest_high hon]
    exact readBackFault_output hc ho h
  · exact keeps (exec_darkTest sto o true s) rfl
  · exact ⟨_, exec_edmTimeout o s, edmTimeout_locks hc ho hon h⟩
  · exact keeps (exec_edmTimeout o s) (if_neg (by simp [hon]))
  · exact keeps (exec_outputReadbackMismatch sto o s) (readBackFault_unconfigured hc sto o)
  · exact keeps (exec_edmTimeout o s) (if_neg (by simp [hc]))
  · exact keeps (exec_testPulse i ch samples s) (if_pos (by simp [hc]))
  · exact keeps (exec_discrepancyTimeout i s) (if_pos (by simp [hc]))
  · exact keeps (exec_sensorFrameReceive k t l s) (if_pos (by simp [hc]))
  · exact sets (exec_resetButtonRelease d s) (pressRelease_valid hp h2 h6 h5 hd)
  · exact keeps (exec_resetButtonRelease d s) (pressRelease_invalid hp hd)
  · exact sets (exec_resetButtonRelease d s) (if_pos hp)
  · exact sets (exec_resetStuck s) (resetStuck_told h0 h6 hs)
  · exact sets (exec_islandSelfTestDone true p s) (if_neg (fun h => h h1))
  · have h1' : m.safe.st = 1 := h1
    exact ⟨islandHalt m, (exec_islandSelfTestDone false p s).trans (done_eq (if_neg (fun h => h h1))),
      islandHalt_halts (by rw [h1']; decide) (by rw [h1']; decide)⟩
  · exact ⟨islandHalt m, exec_islandInternalFault s, islandHalt_halts h0 h6⟩
  · exact (exec_timeReferenceMarker t s).trans (done_eq (timeMarker_taken hx ht hf hm))
  · exact keeps (exec_timeReferenceMarker t s) (if_pos (by simpa only [Bool.and_eq_true, Bool.not_eq_true'] using h))
  · exact sets (exec_sensorFrameReceive k t l s) (sensorFrame_kept hk hc hr t l)

end Sys2Proof.Machine
end

section
/-! PROOFS. Axes enabled and disabled, tuning injection, the commit of an axis (09 R283 to R300), and the statement on them. -/

namespace Sys2Proof.Machine

/-! ## The commands of this statement -/

theorem exec_axisEnable (j : Job) (s : State) : exec (.axisEnable j) s = done (runJob 0x0701 (axisSwitch true) j) s := rfl
theorem exec_axisDisable (j : Job) (s : State) : exec (.axisDisable j) s = done (runJob 0x0702 (axisSwitch false) j) s := rfl
theorem exec_tuneInject (j : Job) (s : State) : exec (.tuneInject j) s = done (runJob 0x0703 tuneInject j) s := rfl
theorem exec_tuneGo (k : Nat) (s : State) : exec (.tuneGo k) s = done (domWrite 7 (0x2018 + 0x40 * k) (tuneGo k)) s := rfl

/-- TUNE_ABORT of a slot of a block that is on. -/
theorem exec_tuneAbort {k : Nat} {s : State} (hk : k < 16) (hb : blockOn s.m 7 = true) :
    exec (.tuneAbort k) s = .next { s with m := injAbort s.m k } := by
  change done (fun m => if 16 ≤ k then m else domWrite 7 (0x2018 + 0x40 * k) (injAbort · k) m) s = _
  rw [done_slot hk, done, domWrite_on hb]

/-- AXL_COMMIT of a slot of a block that is on. -/
theorem exec_axlCommit {k : Nat} {s : State} (hk : k < 16) (hb : blockOn s.m 7 = true) :
    exec (.axlCommit k) s = .next { s with m := setF s.m AXL_STAT_COMMIT_PEND k 1 } := by
  change done (fun m => if 16 ≤ k then m else domWrite 7 (0x100C + 0x100 * k) (setF · AXL_STAT_COMMIT_PEND k 1) m) s = _
  rw [done_slot hk, done, domWrite_on hb]

/-- A register write of a block that is on. -/
theorem done_domWrite_on {s : State} {blk : Nat} (hb : blockOn s.m blk = true) (off : Nat) (f : Mach → Mach) :
    done (domWrite blk off f) s = .next { s with m := f s.m } := by
  rw [done, domWrite_on hb]

/-! ## Jobs that run (03 R87, R90) -/

section
variable {opc : Nat} {eff : Job → Mach → JobRes} {j : Job} {s : State} (h : JobRuns opc j s.m)
include h

/-- A job that runs ends with what its effect answers, or is dropped from the flight until it completes later. -/
theorem runJob_runs : runJob opc eff j s.m =
    if (eff (asJob opc j) s.m).later then dropFlight (eff (asJob opc j) s.m).m (asJob opc j)
    else finishJob (eff (asJob opc j) s.m).m (asJob opc j) (eff (asJob opc j) s.m).status (eff (asJob opc j) s.m).result
      (eff (asJob opc j) s.m).effect (eff (asJob opc j) s.m).detail := by
  obtain ⟨hw, hd, hm⟩ := h
  unfold asJob at hw hd ⊢
  simp only [runJob, hw, hd, hm, Bool.and_false, Bool.false_eq_true, if_false]

theorem job_ends {m' : Mach} {status result : Nat} {effect : Option Nat}
    (he : eff (asJob opc j) s.m = { m := m', status := status, result := result, effect := effect }) :
    done (runJob opc eff j) s = jobEnds s opc j m' status result effect := by
  rw [done, runJob_runs h, he]; rfl

theorem job_fails {m' : Mach} {status detail : Nat} (he : eff (asJob opc j) s.m = jobDetail m' status detail) :
    done (runJob opc eff j) s = jobFails s opc j m' status detail := by
  rw [done, runJob_runs h, he]; rfl

/-- A refusal: of a parameter at fault the RESULT says which, of another code the DETAIL is kept; a busy resource is also an event. -/
theorem job_refused {e d : Nat} (he : eff (asJob opc j) s.m = jobRefused s.m e d) :
    done (runJob opc eff j) s = if e = E_HIF_BAD_PARAM then jobEnds s opc j s.m e d none
      else jobFails s opc j (if e = E_RESOURCE_BUSY then logNode s.m e d else s.m) e d := by
  rw [jobRefused] at he
  split_ifs at he with hb hp
  · subst hb
    rw [if_neg (by decide), if_pos rfl]
    exact job_fails h he
  · rw [if_pos hp]
    exact job_ends h he
  · rw [if_neg hp, if_neg hb]
    exact job_fails h he

/-- A refusal for neither keeps its DETAIL. -/
theorem job_refused_detail {e d : Nat} (he : eff (asJob opc j) s.m = jobRefused s.m e d) (hne : e ≠ E_RESOURCE_BUSY ∧ e ≠ E_HIF_BAD_PARAM) :
    done (runJob opc eff j) s = jobFails s opc j s.m e d := by
  rw [job_refused h he, if_neg hne.2, if_neg hne.1]

theorem job_later {m' : Mach} (he : eff (asJob opc j) s.m = { m := m', later := true }) :
    done (runJob opc eff j) s = .next { s with m := dropFlight m' (asJob opc j) } := by
  rw [done, runJob_runs h, he]; rfl

end

/-! ## Enable and disable (09 R283 to R285) -/

section
variable {m : Mach} {j : Job} {a : AxisRec} (hj : maskAxes j.desc = [a.axis]) (ha : axisRec m a.axis = some a)
include hj ha

/-- AXIS_ENABLE of one axis of this node that is taken. -/
theorem axisEnable_taken (hn : a.node = nodeId m) {m' : Mach} (h : enableHere m (m.cyc.n + 1) [a] = .inr m') :
    axisSwitch true j m = { m := m', result := m.cyc.n + 1, effect := some (m.cyc.n + 1) } := by
  simp [axisSwitch, hj, ha, hn, h]

/-- AXIS_ENABLE of one axis of this node that is refused. -/
theorem axisEnable_refused (hn : a.node = nodeId m) {e d : Nat} (h : enableHere m (m.cyc.n + 1) [a] = .inl (e, d)) :
    axisSwitch true j m = jobRefused m e d := by
  simp [axisSwitch, hj, ha, hn, h]

/-- AXIS_DISABLE of one axis of this node. -/
theorem axisDisable_taken (hn : a.node = nodeId m) : axisSwitch false j m =
    { m := setAxl m a.slot { axlSt m a.slot with disAt := some (m.cyc.n + 1, 0) }, result := m.cyc.n + 1, effect := some (m.cyc.n + 1) } := by
  simp [axisSwitch, hj, ha, hn, disableHere]

/-- AXIS_DISABLE of one axis of another node asks that node, for a cycle to come. -/
theorem axisDisable_far (hn : a.node ≠ nodeId m) : ∃ q : NetReq, q.nodes = [a.node] ∧ q.kind = 2 ∧ m.cyc.n < q.cycle ∧
    axisSwitch false j m = { m := { m with twi := { m.twi with reqs := m.twi.reqs ++ [q] } }, later := true } := by
  have heq : axisSwitch false j m = netRequest m 2 j [a.node] (maskOf [a.axis]) [] := by
    simp [axisSwitch, hj, ha, hn, disableHere]
  refine ⟨_, rfl, rfl, ?_, heq⟩
  change m.cyc.n < if inP4 m then m.cyc.n + 2 else m.cyc.n + 1
  split <;> omega

end

section
variable {m : Mach} (c : Nat) {a : AxisRec}

/-- A slot with a mode that is permitted is enabled at t = 0 of cycle `c`. -/
theorem enableHere_permitted (hl : m.locks.lim = true) (hm : isManager m = true ∨ m.mould.config = 0 ∨ getF m TWI_STATUS_MODE ≠ 0)
    (hr : modeRule m a = none) : enableHere m c [a] = .inr (setAxl m a.slot { axlSt m a.slot with enAt := some c }) := by
  have hmode : (!isManager m && m.mould.config != 0 && getF m TWI_STATUS_MODE == 0) = false := by
    rcases hm with h | h | h <;> simp [h]
  simp [enableHere, hl, hmode, hr]

/-- A mode that is not permitted is refused, with the rule that it fails. -/
theorem enableHere_rule {r : Nat} (hl : m.locks.lim = true) (hm : isManager m = true ∨ m.mould.config = 0 ∨ getF m TWI_STATUS_MODE ≠ 0)
    (hr : modeRule m a = some r) : enableHere m c [a] = .inl (E_AXL_MODE, r) := by
  have hmode : (!isManager m && m.mould.config != 0 && getF m TWI_STATUS_MODE == 0) = false := by
    rcases hm with h | h | h <;> simp [h]
  simp [enableHere, hl, hmode, hr]

/-- Without LIMIT_LOCK, or on a networked worker without a mode in force, nothing is enabled. -/
theorem enableHere_unlocked (h : m.locks.lim = false ∨ ¬ (isManager m = true ∨ m.mould.config = 0 ∨ getF m TWI_STATUS_MODE ≠ 0)) (l : List AxisRec) :
    enableHere m c l = .inl (E_SYS_NOT_LOCKED, 0) := by
  rw [enableHere, if_pos]
  simpa [not_or, and_assoc] using h

end

/-! ## The set-up of an injection (09 R291, R299) -/

/-- A value put into a register changes the register file alone. -/
theorem putReg_frame (m : Mach) (blk off v : Nat) : ∃ r, putReg m blk off v = { m with regs := r } := by
  have key : ∀ (l : List (Fld × Nat)) (m : Mach), ∃ r, l.foldl (fun m x => setF m x.1 x.2 (bits v x.1.lsb x.1.w)) m = { m with regs := r } := by
    intro l
    induction l with
    | nil => exact fun m => ⟨m.regs, rfl⟩
    | cons x l ih =>
      intro m
      obtain ⟨r, h⟩ := ih (setF m x.1 x.2 (bits v x.1.lsb x.1.w))
      exact ⟨r, h⟩
  exact key _ m

/-- The data of TUNE_INJECT change the register file alone. -/
theorem injLoad_frame (m : Mach) (k : Nat) (l : List Nat) : ∃ r, injLoad m k l = { m with regs := r } := by
  have key : ∀ (is : List Nat) (m : Mach), ∃ r, is.foldl (fun m i => putReg m 7 (0x2000 + 0x40 * k + 4 * i) (field l (4 * i) 4)) m =
      { m with regs := r } := by
    intro is
    induction is with
    | nil => exact fun m => ⟨m.regs, rfl⟩
    | cons i is ih =>
      intro m
      obtain ⟨r, h⟩ := putReg_frame m 7 (0x2000 + 0x40 * k + 4 * i) (field l (4 * i) 4)
      obtain ⟨r', h'⟩ := ih { m with regs := r }
      exact ⟨r', by rw [List.foldl_cons, h, h']⟩
  exact key _ m

/-- LEN and SEED are registers of their own (09 R299). -/
theorem fieldsAt_tune : ∀ k, k < 16 → fieldsAt 7 (0x2000 + 0x40 * k + 16) = [(AXL_TUNE_LEN_LEN, k)] ∧
    fieldsAt 7 (0x2000 + 0x40 * k + 20) = [(AXL_TUNE_SEED_SEED, k)] := by decide

/-- LEN takes its word of the data. -/
theorem getF_injLoad_len {k : Nat} (hk : k < 16) (m : Mach) (l : List Nat) :
    getF (injLoad m k l) AXL_TUNE_LEN_LEN k = field l 16 4 % 2 ^ 24 := by
  obtain ⟨hlen, hseed⟩ := fieldsAt_tune k hk
  have hlast : injLoad m k l = putReg (putReg ((List.range 4).foldl (fun m i => putReg m 7 (0x2000 + 0x40 * k + 4 * i) (field l (4 * i) 4)) m)
    7 (0x2000 + 0x40 * k + 16) (field l 16 4)) 7 (0x2000 + 0x40 * k + 20) (field l 20 4) := rfl
  rw [hlast]
  simp only [putReg, hlen, hseed, List.foldl_cons, List.foldl_nil]
  rw [getF_setF_other (by decide), getF_setF_self, bits_mod, bits, AXL_TUNE_LEN_LEN]
  simp

/-- The injector of a set-up that passes has no owner. -/
theorem ownerOf_of_injCheck {m : Mach} {k : Nat} (h : injCheck m k = none) : ownerOf m 7 k = none := by
  simp only [injCheck] at h
  split_ifs at h
  all_goals
    split at h
    · exact absurd h (by simp)
    · rename_i hfree
      cases howner : ownerOf m 7 k with
      | none => rfl
      | some f => simp [firstBusy, busyOwner, howner] at hfree

/-- An instance without an owner is the function's that claims it, as long as the claims stand. -/
theorem ownerOf_claim {m m' : Mach} {kind inst func : Nat} (h : ownerOf m kind inst = none)
    (hm : m'.mould.claims = (claim m func [(kind, inst)]).mould.claims) : ownerOf m' kind inst = some func := by
  have hclaims : m.mould.claims.find? (fun o => o.kind == kind && o.inst == inst) = none := by
    unfold ownerOf at h
    split at h
    · exact absurd h (by simp)
    · assumption
  simp [ownerOf, hm, claims_claim, List.find?_append, hclaims]

/-- Without a capture the injector alone is claimed. -/
theorem injClaim_alone {m : Mach} {k : Nat} (h : getF m AXL_TUNE_CFG_CAPTURE k = 0) : injClaim m k = claim m 12 [(7, k)] := by
  have hcap : onF (claim m 12 [(7, k)]) AXL_TUNE_CFG_CAPTURE k = false := by
    change (getF m AXL_TUNE_CFG_CAPTURE k == 1) = false
    rw [h]; rfl
  rw [injClaim, hcap, if_neg Bool.false_ne_true]

/-! ## Start and end of an injection (09 R296, R300) -/

/-- The injection of a claimed injector runs from sample 0. -/
theorem injStart_runs {k : Nat} (hk : k < 16) (m : Mach) : getF (injStart m k) AXL_TUNE_STAT_RUN k = 1 ∧
    getF (injStart m k) AXL_TUNE_STAT_SAMPLE k = 0 ∧ (getF (injStart m k) AXL_SUMMARY_INJECT).testBit k = true := by
  refine ⟨?_, ?_, ?_⟩
  · change getF (setF (setF (setF (setF m AXL_TUNE_STAT_SAMPLE k 0) AXL_TUNE_STAT_RUN k 1) AXL_TUNE_STAT_ABORTED k 0) AXL_SUMMARY_INJECT 0 _) _ k = 1
    rw [getF_setF_below (by decide), getF_setF_other (by decide), getF_setF_self]
    rfl
  · change getF (setF (setF (setF (setF m AXL_TUNE_STAT_SAMPLE k 0) AXL_TUNE_STAT_RUN k 1) AXL_TUNE_STAT_ABORTED k 0) AXL_SUMMARY_INJECT 0 _) _ k = 0
    rw [getF_setF_below (by decide), getF_setF_other (by decide), getF_setF_other (by decide), getF_setF_self]
    rfl
  · exact testBit_setSlotBit hk (setF (setF (setF m AXL_TUNE_STAT_SAMPLE k 0) AXL_TUNE_STAT_RUN k 1) AXL_TUNE_STAT_ABORTED k 0) true

/-- What the end of a running injection leaves before it is told: the injector stopped, released, and no longer in the summary. -/
def injStopped (m : Mach) (k : Nat) (aborted : Bool) : Mach :=
  let m := release (setB (setF m AXL_TUNE_STAT_RUN k 0) AXL_TUNE_STAT_ABORTED k aborted) 12 7 k
  setF m AXL_SUMMARY_INJECT 0 (andNot (getF m AXL_SUMMARY_INJECT) (2 ^ k))

/-- The end of a running injection is told, and does nothing else. -/
theorem endInjection_reported {m : Mach} {k : Nat} (h : getF m AXL_TUNE_STAT_RUN k = 1) (aborted : Bool) :
    Reported (injStopped m k aborted) (endInjection m k aborted) := by
  have hrun : (!onF m AXL_TUNE_STAT_RUN k) = false := by simp [onF, h]
  simp only [endInjection, hrun, Bool.false_eq_true, if_false]
  split
  · exact report_reported ..
  · exact report_reported ..

/-- An injector that has stopped does not run; it says whether it was aborted. -/
theorem injStopped_fields (k : Nat) (m : Mach) (aborted : Bool) : getF (injStopped m k aborted) AXL_TUNE_STAT_RUN k = 0 ∧
    getF (injStopped m k aborted) AXL_TUNE_STAT_ABORTED k = b2n aborted ∧ (getF (injStopped m k aborted) AXL_SUMMARY_INJECT).testBit k = false := by
  refine ⟨?_, ?_, ?_⟩
  · rw [injStopped, getF_setF_below (by decide)]
    change getF (setF (setF m AXL_TUNE_STAT_RUN k 0) AXL_TUNE_STAT_ABORTED k (b2n aborted)) AXL_TUNE_STAT_RUN k = 0
    rw [getF_setF_other (by decide), getF_setF_self]
    rfl
  · rw [injStopped, getF_setF_below (by decide)]
    change getF (setF (setF m AXL_TUNE_STAT_RUN k 0) AXL_TUNE_STAT_ABORTED k (b2n aborted)) AXL_TUNE_STAT_ABORTED k = b2n aborted
    rw [getF_setF_self]
    cases aborted <;> rfl
  · rw [injStopped, getF_setF_self, Nat.testBit_mod_two_pow, testBit_andNot, Nat.testBit_two_pow_self]
    simp

/-- An injection that runs without a capture ends as aborted. -/
theorem injAbort_running {m : Mach} {k : Nat} (h : getF m AXL_TUNE_STAT_RUN k = 1) (ht : m.tap.inj = false) :
    getF (injAbort m k) AXL_TUNE_STAT_RUN k = 0 ∧ getF (injAbort m k) AXL_TUNE_STAT_ABORTED k = 1 ∧
      (getF (injAbort m k) AXL_SUMMARY_INJECT).testBit k = false ∧ (injAbort m k).mem = m.mem := by
  have hend := endInjection_reported (m := release (setAxl m k { axlSt m k with injAt := none }) 12 7 k) h true
  have heq : injAbort m k = endInjection (release (setAxl m k { axlSt m k with injAt := none }) 12 7 k) k true := by
    have hrun : (!onF m AXL_TUNE_STAT_RUN k && (axlSt m k).injAt.isNone) = false := by simp [onF, h]
    have htap : (endInjection (release (setAxl m k { axlSt m k with injAt := none }) 12 7 k) k true).tap.inj = false := by rw [hend.tap]; exact ht
    simp only [injAbort, hrun, htap, Bool.false_eq_true, if_false, Bool.false_and]
  obtain ⟨hr, hab, hsum⟩ := injStopped_fields k (release (setAxl m k { axlSt m k with injAt := none }) 12 7 k) true
  rw [heq, hend.fields _ _ (by decide), hend.fields _ _ (by decide), hend.fields _ _ (by decide), hend.mem]
  exact ⟨hr, hab, hsum, rfl⟩

/-- Nothing is aborted where no injection runs or waits. -/
theorem injAbort_idle {m : Mach} {k : Nat} (h : getF m AXL_TUNE_STAT_RUN k = 0) (hw : (axlSt m k).injAt = none) : injAbort m k = m := by
  rw [injAbort, if_pos (by simp [onF, h, hw])]

/-! ## TUNE_INJECT and TUNE_GO -/

/-- The injector of slot `k` set up from the data `l` and claimed, to start at t = 0 of cycle `c`. -/
def injWaiting (m : Mach) (k c : Nat) (l : List Nat) : Mach :=
  setAxl (claim (injLoad m k l) 12 [(7, k)]) k { axlSt (claim (injLoad m k l) 12 [(7, k)]) k with injAt := some c }

/-- A claim and a change of an engine's state leave the registers, memory and cell time. -/
theorem setAxl_claim_frame (m : Mach) (func k : Nat) (l : List (Nat × Nat)) (a : AxlSt) (f : Fld) (i : Nat) :
    getF (setAxl (claim m func l) k a) f i = getF m f i ∧ (setAxl (claim m func l) k a).mem = m.mem ∧
      (setAxl (claim m func l) k a).cyc = m.cyc := ⟨rfl, rfl, rfl⟩

/-- It waits for its cycle with the length of the data, and memory and cell time are as they were. -/
theorem injWaiting_waits {k : Nat} (hk : k < 16) (m : Mach) (c : Nat) (l : List Nat) :
    (axlSt (injWaiting m k c l) k).injAt = some c ∧ (injWaiting m k c l).mem = m.mem ∧
      getF (injWaiting m k c l) AXL_TUNE_LEN_LEN k = field l 16 4 % 2 ^ 24 ∧ (injWaiting m k c l).cyc = m.cyc := by
  obtain ⟨r, hload⟩ := injLoad_frame m k l
  obtain ⟨hf, hmem, hcyc⟩ := setAxl_claim_frame (injLoad m k l) 12 k [(7, k)]
    { axlSt (claim (injLoad m k l) 12 [(7, k)]) k with injAt := some c } AXL_TUNE_LEN_LEN k
  have hax : axlSt (injWaiting m k c l) k = { axlSt (claim (injLoad m k l) 12 [(7, k)]) k with injAt := some c } := sget_sput_self ..
  exact ⟨by rw [hax], hmem.trans (by rw [hload]), hf.trans (getF_injLoad_len hk m l), hcyc.trans (by rw [hload])⟩

section
variable {m : Mach} {j : Job} {a : AxisRec} (ha : axisRec m (j.desc.par 0) = some a) (hn : a.node = nodeId m) (hd : j.desc.dataLen = 32)
  (h0 : field (padTo 32 j.data) 24 8 = 0)
include ha hn hd h0

/-- TUNE_INJECT of an axis of this node that is refused. -/
theorem tuneInject_refused {e d : Nat} (h : injHere m a.slot (m.cyc.n + 1) (padTo 32 j.data) = .inl (e, d)) :
    tuneInject j m = jobRefused m e d := by
  simp [tuneInject, ha, hn, hd, h0, h]

/-- TUNE_INJECT of an axis of this node that is taken. -/
theorem tuneInject_taken {m' : Mach} (hc : m'.cyc.n = m.cyc.n) (h : injHere m a.slot (m.cyc.n + 1) (padTo 32 j.data) = .inr m') :
    tuneInject j m = { m := m', result := m.cyc.n + 1, effect := some (m.cyc.n + 1) } := by
  simp [tuneInject, ha, hn, hd, h0, h, hc]

end

section
variable {m : Mach} {k : Nat} (c : Nat) {l : List Nat}

/-- Without LIMIT_LOCK no injection is set up. -/
theorem injHere_unlocked (h : m.locks.lim = false) : injHere m k c l = .inl (E_SYS_NOT_LOCKED, 0) := by
  simp [injHere, h]

/-- A set-up that fails a check is refused with its status. -/
theorem injHere_checked {e d : Nat} (hl : m.locks.lim = true) (hlen : field l 16 4 % 2 ^ 24 ≠ 0) (h : injCheck (injLoad m k l) k = some (e, d)) :
    injHere m k c l = .inl (e, d) := by
  rw [injHere, hl, Bool.not_true, if_neg Bool.false_ne_true, if_neg hlen, h]

/-- One that passes and wants no capture claims the injector and waits for its start. -/
theorem injHere_taken (hl : m.locks.lim = true) (hlen : field l 16 4 % 2 ^ 24 ≠ 0) (h : injCheck (injLoad m k l) k = none)
    (hcap : getF (injLoad m k l) AXL_TUNE_CFG_CAPTURE k = 0) : injHere m k c l = .inr (injWaiting m k c l) := by
  rw [injHere, hl, Bool.not_true, if_neg Bool.false_ne_true, if_neg hlen, h]
  simp only [injClaim_alone hcap, injWaiting]

end

/-- A write of GO whose checks pass starts the injection of a claimed injector. -/
theorem tuneGo_starts {m : Mach} {k : Nat} (hk : k < 16) (hlen : getF m AXL_TUNE_LEN_LEN k ≠ 0) (h : injCheck m k = none)
    (hcap : getF m AXL_TUNE_CFG_CAPTURE k = 0) : tuneGo k m = injStart (claim m 12 [(7, k)]) k := by
  simp [tuneGo, hlen, h, Nat.not_le.2 hk, injClaim_alone hcap]

/-- A check that fails starts nothing; a busy resource is reported. -/
theorem tuneGo_fails {m : Mach} {k e d : Nat} (hk : k < 16) (hlen : getF m AXL_TUNE_LEN_LEN k ≠ 0) (h : injCheck m k = some (e, d)) :
    tuneGo k m = if e = E_RESOURCE_BUSY then logNode m e d else m := by
  simp [tuneGo, hlen, h, Nat.not_le.2 hk]

/-! ## The statement -/

/-- Settles O40: what each job and register write answers, by the branch it takes. -/
theorem axesAndInjection : Obligations.AxesAndInjection := by
  intro j a k s hk m c x ends mine hasMode
  refine ⟨fun ⟨hj, ha, hn⟩ hrun => ⟨fun hl hm hr => ?_, fun r hl hm hr => ?_, fun h => ?_⟩, fun ⟨hj, ha, hn⟩ hrun => ?_, fun hj ha hn hrun => ?_,
    fun hrun ha hn hs hd h0 => ⟨fun hl => ?_, fun e d hl hlen h => ?_, fun hl hlen h hcap => ?_⟩,
    fun hb hlen => ⟨fun h hcap => ?_, fun e d h he => ?_, fun d h => ?_⟩, fun hb hr ht => ?_, fun hb hr hi => ?_, fun hb => exec_axlCommit hk hb⟩
  · exact job_ends hrun (axisEnable_taken (j := asJob 0x0701 j) hj ha hn (enableHere_permitted c hl hm hr))
  · exact job_refused_detail hrun (axisEnable_refused (j := asJob 0x0701 j) hj ha hn (enableHere_rule c hl hm hr)) (by decide)
  · exact job_refused_detail hrun (axisEnable_refused (j := asJob 0x0701 j) hj ha hn (enableHere_unlocked c h [a])) (by decide)
  · exact job_ends hrun (axisDisable_taken (j := asJob 0x0702 j) hj ha hn)
  · obtain ⟨q, hnodes, hkind, hcyc, heff⟩ := axisDisable_far (j := asJob 0x0702 j) hj ha hn
    exact ⟨q, hnodes, hkind, hcyc, job_later hrun heff⟩
  · exact job_refused_detail hrun (tuneInject_refused (j := asJob 0x0703 j) ha hn hd h0 (injHere_unlocked _ hl)) (by decide)
  · exact job_refused hrun (tuneInject_refused (j := asJob 0x0703 j) ha hn hd h0 (injHere_checked _ hl hlen h))
  · obtain ⟨hat, hmem, hlen', hcyc⟩ := injWaiting_waits hs m c (padTo 32 j.data)
    have heff := tuneInject_taken (j := asJob 0x0703 j) ha hn hd h0 (congrArg CycSt.n hcyc) (injHere_taken c hl hlen h hcap)
    exact ⟨injWaiting m a.slot c (padTo 32 j.data), job_ends hrun heff, hat, hmem, hlen'⟩
  · obtain ⟨hrun, hsample, hsum⟩ := injStart_runs hk (claim m 12 [(7, k)])
    refine ⟨injStart (claim m 12 [(7, k)]) k, ?_, hrun, hsample, hsum, ownerOf_claim (ownerOf_of_injCheck h) rfl, rfl, rfl⟩
    rw [exec_tuneGo, done_domWrite_on hb, tuneGo_starts hk hlen h hcap]
  · rw [exec_tuneGo, done_domWrite_on hb, tuneGo_fails hk hlen h, if_neg he]
  · rw [exec_tuneGo, done_domWrite_on hb, tuneGo_fails hk hlen h, if_pos rfl]
  · exact ⟨_, exec_tuneAbort hk hb, injAbort_running hr ht⟩
  · rw [exec_tuneAbort hk hb, injAbort_idle hr hi]

end Sys2Proof.Machine
end

section
/-! PROOFS. Carrier periods of the power stage (10 R302 to R328): set-up by register writes, boundaries, pulses, and the statement on them. -/

namespace Sys2Proof.Machine

/-! ## The commands of this statement -/

theorem exec_perWrite (n v : Nat) (s : State) : exec (.perWrite n v) s = done (domWrite 8 (0x1004 + 0x100 * n) (perWrite n v)) s := rfl
theorem exec_pwrCommit (n : Nat) (s : State) : exec (.pwrCommit n) s = done (domWrite 8 (0x1014 + 0x100 * n) (pwrCommit n)) s := rfl
theorem exec_evtCfgWrite (n v : Nat) (s : State) : exec (.evtCfgWrite n v) s = done (domWrite 8 (0x1040 + 0x100 * n) (evtCfgWrite n v)) s := rfl
theorem exec_carrierBoundary (n : Nat) (s : State) : exec (.carrierBoundary n) s = done (carrierBoundary n) s := rfl

/-! ## The state of a slot and the values in force -/

/-- The state of a slot reads back. -/
@[simp] theorem pwrSt_setPwr (m : Mach) (n : Nat) (p : PwrSt) : pwrSt (setPwr m n p) n = p := sget_sput_self ..

/-- The state of a pair reads back. -/
@[simp] theorem pairSt_setPair (m : Mach) (n x : Nat) (p : PairSt) : pairSt (setPair m n x p) n x = p := by
  rw [pairSt, setPair, pwrSt_setPwr]
  exact sget_sput_self ..

/-- A write leaves every other key, whatever the key's default. -/
theorem sget_sput_other {α : Type} [DecidableEq α] (l : Sparse α) {j k : Nat} (v d e : α) (h : j ≠ k) : sget (sput l k v d) j e = sget l j e := by
  unfold sput
  split
  · exact sget_sdel_ne l e h
  · exact sget_sins_ne l v e h

/-- The value written of a shadowed field is in force once it has been put there. -/
theorem getV_enforce_self (m : Mach) (f : Fld) (i : Nat) : getV (enforce m f i) f i = getF m f i := by
  simp [getV, enforce, getF]

/-- Another field of registers that lie equally far apart keeps its value in force. -/
theorem getV_enforce_other {f g : Fld} (h : g.stride = f.stride ∧ g.key 0 ≠ f.key 0) (m : Mach) (i : Nat) :
    getV (enforce m f i) g i = getV m g i := by
  exact congrArg (· % 2 ^ g.w) (sget_sput_other m.force _ _ _ (Fld.key_ne_of_stride h i))

/-! ## Register writes (10 R302, R305, R306, R320) -/

/-- A period that fits the cycle and the pulses (10 R302). -/
def perFits (m : Mach) (n per : Nat) : Prop :=
  per = 0 ∨ (16 * cycLen m % per = 0 ∧ 16 * (2 * getF m PWR_PROT_MIN_PULSE n + 2 * getF m PWR_DT_LIM_DT_CEIL n) ≤ per)

/-- The slot with a period that waits as a shadow. -/
def perTaken (m : Mach) (n per : Nat) : Mach :=
  let m := setF m PWR_PER_PER n per
  pendFlag (setPwr m n { pwrSt m n with
    perPend := true, dutyPend := (pwrSt m n).dutyPend ||| (if onF m PWR_CFG_UPD_MODE n then 8 else 0) }) n

/-- A period that fits waits as a shadow. -/
theorem perWrite_taken {m : Mach} {n v : Nat} (hn : n < 16) (hv : v % 2 ^ 24 ≤ 12800000) (h : perFits m n (v % 2 ^ 24)) :
    perWrite n v m = perTaken m n (v % 2 ^ 24) :=
  (if_neg (Nat.not_le.2 hn)).trans (if_neg (not_or.2 ⟨Nat.not_lt.2 hv, not_not.2 h⟩))

theorem perTaken_waits (m : Mach) (n : Nat) {per : Nat} (hper : per < 2 ^ 24) :
    getF (perTaken m n per) PWR_PER_PER n = per ∧ (pwrSt (perTaken m n per) n).perPend = true ∧ (perTaken m n per).force = m.force ∧
      (perTaken m n per).mem = m.mem := by
  refine ⟨?_, congrArg PwrSt.perPend (pwrSt_setPwr ..), rfl, rfl⟩
  exact (getF_setF_other (f := PWR_STAT_PEND) (by decide) ..).trans ((getF_setF_self m PWR_PER_PER n per).trans (Nat.mod_eq_of_lt hper))

/-- Any other is refused. -/
theorem perWrite_refused {m : Mach} {n v : Nat} (hn : n < 16) (h : 12800000 < v % 2 ^ 24 ∨ ¬ perFits m n (v % 2 ^ 24)) :
    perWrite n v m = badCfg m 8 (0x1004 + 0x100 * n) :=
  (if_neg (Nat.not_le.2 hn)).trans (if_pos h)

/-- A commit asks for the transfer of what was written. -/
theorem pwrCommit_asks {m : Mach} {n : Nat} (hn : n < 16) (h : getF m PWR_CFG_UPD_MODE n = 0) :
    pwrSt (pwrCommit n m) n = { pwrSt m n with goPend := true } ∧ getF (pwrCommit n m) PWR_STAT_PEND n = 1 ∧
      (pwrCommit n m).force = m.force ∧ (pwrCommit n m).mem = m.mem := by
  have himm : onF m PWR_CFG_UPD_MODE n = false := by simp [onF, h]
  have himm' : onF (setPwr m n { pwrSt m n with goPend := true }) PWR_CFG_UPD_MODE n = false := himm
  rw [pwrCommit, himm, if_neg (by simp [hn])]
  refine ⟨pwrSt_setPwr .., ?_, rfl, rfl⟩
  rw [pendFlag, himm', pwrSt_setPwr]
  exact getF_setF_self ..

/-- In immediate mode it does nothing. -/
theorem pwrCommit_immediate {m : Mach} {n : Nat} (h : getF m PWR_CFG_UPD_MODE n = 1) : pwrCommit n m = m := by
  rw [pwrCommit, if_pos (by simp [onF, h])]

/-- An event with its prescaler is taken, and the count begins anew. -/
theorem evtCfgWrite_taken {m : Mach} {n v : Nat} (hn : n < 16) (h7 : v % 8 ≠ 7) (h6 : v % 8 = 6 → ownerOf m 6 n = some 11) :
    getF (evtCfgWrite n v m) PWR_EVT_CFG_SRC n = v % 8 ∧ getF (evtCfgWrite n v m) PWR_EVT_CFG_PRESC n = v / 16 % 16 ∧
      pwrSt (evtCfgWrite n v m) n = { pwrSt m n with presc := 0 } ∧ (evtCfgWrite n v m).mem = m.mem := by
  rw [evtCfgWrite, if_neg (Nat.not_le.2 hn), if_neg h7, if_neg (fun h => h.2 (h6 h.1))]
  refine ⟨?_, ?_, pwrSt_setPwr .., rfl⟩
  · refine (getF_setF_other (f := PWR_EVT_CFG_PRESC) (by decide) ..).trans ((getF_setF_self ..).trans ?_)
    exact Nat.mod_mod ..
  · exact (getF_setF_self ..).trans (bits_mod v 4 4)

/-- Source 7 is none. -/
theorem evtCfgWrite_refused {m : Mach} {n v : Nat} (hn : n < 16) (h : v % 8 = 7) : evtCfgWrite n v m = badCfg m 8 (0x1040 + 0x100 * n) := by
  rw [evtCfgWrite, if_neg (Nat.not_le.2 hn), if_pos h]

/-- Source 6 needs the comparator. -/
theorem evtCfgWrite_busy {m : Mach} {n v : Nat} (hn : n < 16) (h : v % 8 = 6) (ho : ownerOf m 6 n ≠ some 11) :
    evtCfgWrite n v m = logNode m E_RESOURCE_BUSY (busyDetail m 6 n ((ownerOf m 6 n).getD 10)) := by
  rw [evtCfgWrite, if_neg (Nat.not_le.2 hn), if_neg (by omega), if_pos ⟨h, ho⟩]

/-! ## What the end and the begin of a period leave -/

/-- The fields of a slot that its boundaries read. -/
def periodFields : List Fld :=
  [PWR_CFG_UPD_MODE, PWR_EVT_CFG_SRC, PWR_PER_PER, PWR_DUTY_A_DUTY, PWR_DUTY_B_DUTY, PWR_DUTY_C_DUTY, PWR_SD_CFG_SYNC, AXL_STAT_STATE,
   AXL_MODE_CUR_DIV]

/-- The fields of a slot that the end and the begin of a period write. -/
def periodWrites : List Fld :=
  [PWR_STAT_PEND, PWR_STAT_CUT, PWR_STAT_CHOP, PWR_FLAGS_DUTY_MAX, PWR_FLAGS_PARTIAL_UPDATE, PWR_FLAGS_DUTY_FIT, PWR_FLAGS_SUPPRESSED,
   PWR_CLAMP_CNT_CNT, PWR_SUPPR_CNT_CNT, PWR_DT_A_DT_R, PWR_DT_B_DT_R, PWR_DT_C_DT_R, PWR_DT_A_DT_F, PWR_DT_B_DT_F, PWR_DT_C_DT_F]

/-- They are different fields, and the gates' summary lies below them. -/
theorem periodWrites_apart : ∀ f ∈ periodWrites, (∀ g ∈ periodFields, g.stride = f.stride ∧ g.key 0 ≠ f.key 0) ∧
    PWR_SUMMARY_GATES.key 0 < f.key 0 := by decide

/-- None of them is a register of SYS or HIF. -/
theorem periodFields_blk : ∀ g ∈ periodFields, 2 ≤ g.blk := by decide

/-- A slot's state but for its pairs and what a period keeps to itself. -/
def slotSide (p : PwrSt) : PwrSt :=
  { p with partialRun := false, pairs := [], acc := 0, cutNow := 0, runs := [], arming := none, neg := false }

/-- Of what a boundary of slot `n` goes by, nothing differs from `m` to `m'`. -/
structure PeriodKeeps (n : Nat) (m m' : Mach) : Prop where
  mem : m'.mem = m.mem
  cyc : m'.cyc = m.cyc
  force : m'.force = m.force
  fields : ∀ g ∈ periodFields, getF m' g n = getF m g n
  gates : getF m' PWR_SUMMARY_GATES = getF m PWR_SUMMARY_GATES
  slot : slotSide (pwrSt m' n) = slotSide (pwrSt m n)

namespace PeriodKeeps
variable {n : Nat} {m m' m'' : Mach}

theorem refl : PeriodKeeps n m m := ⟨rfl, rfl, rfl, fun _ _ => rfl, rfl, rfl⟩

theorem trans (h : PeriodKeeps n m m') (h' : PeriodKeeps n m' m'') : PeriodKeeps n m m'' :=
  ⟨h'.mem.trans h.mem, h'.cyc.trans h.cyc, h'.force.trans h.force, fun g hg => (h'.fields g hg).trans (h.fields g hg),
    h'.gates.trans h.gates, h'.slot.trans h.slot⟩

theorem ite {c : Prop} [Decidable c] {a b : Mach} (ha : PeriodKeeps n m a) (hb : PeriodKeeps n m b) : PeriodKeeps n m (if c then a else b) := by
  split
  · exact ha
  · exact hb

/-- Steps that keep it, one after another. -/
theorem foldl {α : Type} {f : Mach → α → Mach} (h : ∀ m x, PeriodKeeps n m (f m x)) (l : List α) (m : Mach) : PeriodKeeps n m (l.foldl f m) := by
  induction l generalizing m with
  | nil => exact refl
  | cons x l ih => exact (h m x).trans (ih (f m x))

/-- A field of a period written. -/
theorem setF (h : PeriodKeeps n m m') {f : Fld} {v : Nat} (hf : f ∈ periodWrites) : PeriodKeeps n m (setF m' f n v) := by
  obtain ⟨hother, hgates⟩ := periodWrites_apart f hf
  exact h.trans ⟨rfl, rfl, rfl, fun g hg => getF_setF_other (hother g hg) m' n v, getF_setF_above hgates m' n v, rfl⟩

/-- What a period keeps to itself changed. -/
theorem setPwr (h : PeriodKeeps n m m') {p : PwrSt} (hp : slotSide p = slotSide (pwrSt m' n)) : PeriodKeeps n m (setPwr m' n p) :=
  h.trans ⟨rfl, rfl, rfl, fun _ _ => rfl, rfl, by rw [pwrSt_setPwr, hp]⟩

/-- A pair changed. -/
theorem setPair (h : PeriodKeeps n m m') {x : Nat} {p : PairSt} : PeriodKeeps n m (setPair m' n x p) := h.setPwr rfl

/-- Pairs changed one after another. -/
theorem setPairs (h : PeriodKeeps n m m') (p : Mach → Nat → PairSt) (l : List Nat) :
    PeriodKeeps n m (l.foldl (fun m x => Machine.setPair m n x (p m x)) m') := h.trans (.foldl (fun _ _ => refl.setPair) l m')

/-- A report. -/
theorem report (h : PeriodKeeps n m m') (hr : Reported m' m'') : PeriodKeeps n m m'' :=
  h.trans ⟨hr.mem, hr.cyc, hr.force, fun g hg => hr.fields g n (periodFields_blk g hg), hr.fields _ 0 (by decide), by rw [pwrSt, hr.pwr]; rfl⟩

/-- A shadow put into force on both sides. -/
theorem enforce (h : PeriodKeeps n m m') {f : Fld} (hf : f ∈ periodFields) : PeriodKeeps n (enforce m f n) (enforce m' f n) := by
  refine ⟨h.mem, h.cyc, ?_, h.fields, h.gates, h.slot⟩
  change sput m'.force _ (getF m' f n) _ = sput m.force _ (getF m f n) _
  rw [h.force, h.fields f hf]

end PeriodKeeps

/-- A report of the power stage. -/
theorem pwrReport_reported (m : Mach) (n code cls detail : Nat) : Reported m (pwrReport m n code cls detail) := by
  unfold pwrReport
  split
  · exact report_reported ..
  · exact report_reported ..

/-- A shadow that waits shows in STAT. -/
theorem pendFlag_keeps (m : Mach) (n : Nat) : PeriodKeeps n m (pendFlag m n) := .setF .refl (by decide)

/-- A chopped pair that settles. -/
theorem chopSettle_keeps (m : Mach) (n x t : Nat) : PeriodKeeps n m (chopSettle m n x t) := .ite (.setPair .refl) .refl

/-- The end of a period. -/
theorem closePeriod_keeps (m : Mach) (n b : Nat) : PeriodKeeps n m (closePeriod m n b) := by
  unfold closePeriod
  extract_lets m₁ m₂ p runs
  have h₁ : PeriodKeeps n m m₁ := .foldl (fun m x => .ite (chopSettle_keeps m n x b) .refl) _ m
  have h₂ : PeriodKeeps n m m₂ := h₁.setPairs _ _
  clear_value m₂ runs
  exact .setF (.setPwr h₂ (by rfl)) (by decide)

/-- The dead times of every pair are written. -/
theorem dtF_written (x : Nat) : dtRF x ∈ periodWrites ∧ dtFF x ∈ periodWrites := by
  unfold dtRF dtFF
  split <;> decide

/-- The applied dead times of a pair. -/
theorem latchDt_keeps (m : Mach) (n x : Nat) : PeriodKeeps n m (latchDt m n x) :=
  .setF (.setF (.setPair .refl) (dtF_written x).1) (dtF_written x).2

/-- A pulse formed. -/
theorem formPulse_keeps (m : Mach) (n x b p : Nat) (was : Bool) : PeriodKeeps n m (formPulse m n x b p was) := by
  unfold formPulse
  extract_lets q mn want tmx m₁ t top len m₂ said st m₃ len'
  have h₁ : PeriodKeeps n m m₁ := .ite (.setF .refl (by decide)) .refl
  have h₂ : PeriodKeeps n m m₂ := .setF (.setPair h₁) (by decide)
  have h₃ : PeriodKeeps n m m₃ := .setF (.setPwr h₂ (by rfl)) (by decide)
  exact .ite (.ite (.ite h₃ (h₃.report (pwrReport_reported ..))) (.setF h₂ (by decide)))
    (.ite (.setF (.setF (.setPair h₁) (by decide)) (by decide)) (.setPair h₁))

/-- The begin of a period. -/
theorem openPeriod_keeps (m : Mach) (n b p : Nat) : PeriodKeeps n m (openPeriod m n b p) := by
  unfold openPeriod
  extract_lets m₁ neg turn was wait rise st m₂ m₃ m₄ m₅
  have h₁ : PeriodKeeps n m m₁ := .foldl (fun m x => latchDt_keeps m n x) _ m
  have h₂ : PeriodKeeps n m m₂ := .setPwr h₁ (by rfl)
  have h₃ : PeriodKeeps n m m₃ := .ite (h₂.setPairs _ _) h₂
  have h₄ : PeriodKeeps n m m₄ := .ite (h₃.setPairs _ _) h₃
  have h₅ : PeriodKeeps n m m₅ := h₄.trans (.foldl (fun m x => formPulse_keeps m n x b p was) _ m₄)
  exact .ite (.ite (.setF h₄ (by decide)) h₄) (.ite h₅ (h₅.setPairs _ _))

/-- Gates held low. -/
theorem gatesLow_keeps (m : Mach) (n : Nat) : PeriodKeeps n (setSlotBit m PWR_SUMMARY_GATES n false) (gatesLow m n) := by
  unfold gatesLow
  extract_lets m₁ m₂
  have h₂ : PeriodKeeps n m₁ m₂ := PeriodKeeps.refl.setPairs _ _
  exact .setF (.setPwr h₂ (by rfl)) (by decide)

/-! ## A boundary, in its two halves -/

/-- A boundary is counted; a carrier that ran its last period has done so. -/
def countBoundary (n : Nat) (m : Mach) : Mach := setPwr m n { pwrSt m n with count := (pwrSt m n).count + 1, last := none }

/-- The period before ends at tick `b`. -/
def boundaryClose (n b : Nat) (m : Mach) : Mach := countBoundary n (closePeriod (passTo m b) n b)

/-- The slot stands at boundary `idx` of its cycle. -/
def boundaryAt (n b idx : Nat) (m : Mach) : Mach :=
  pendFlag (setPwr m n { pwrSt m n with cyc := some m.cyc.n, idx := idx, tick := b }) n

/-- A carrier that runs again frees the gates of an enabled slot (10 R328). -/
def releaseGates (n : Nat) (m : Mach) : Mach :=
  if !gatesOn m n && decide (2 ≤ getF m AXL_STAT_STATE n) then setSlotBit m PWR_SUMMARY_GATES n true else m

/-- The SYNC event of the first carrier period of a current period (10 R323). -/
def markSync (n b p idx : Nat) (m : Mach) : Mach :=
  if idx % max 1 (getF m AXL_MODE_CUR_DIV n) = 0 then
    setPwr m n { pwrSt m n with sync := some (if onF m PWR_SD_CFG_SYNC n then periodEvent m n b p else b) }
  else m

/-- The period of a carrier that runs begins at tick `b`. -/
def periodBegin (n b p idx : Nat) (m : Mach) : Mach :=
  let m := markSync n b p idx (releaseGates n m)
  tripAgain (offerEvent (openPeriod m n b p) n b p) n b p

/-- What follows the transfers at boundary `b`: a new period, or gates held low where the carrier stands. -/
def boundaryOpen (n b : Nat) (r : Mach × Nat) : Mach :=
  let m := boundaryAt n b r.2 r.1
  let per := carrier r.1 n
  if per = 0 then gatesLow m n else periodBegin n b (boundaryTick m per (r.2 + 1) - b) r.2 m

/-- A boundary is both halves with the transfers between them. -/
theorem carrierBoundary_eq {m : Mach} {n i : Nat} (hn : n < 16) (h : nextIdx m n = some i) :
    carrierBoundary n m = boundaryOpen n (boundaryTick m (carrier m n) i) (transfers (boundaryClose n (boundaryTick m (carrier m n) i) m) n i) := by
  rw [carrierBoundary, if_neg (Nat.not_le.2 hn), h]
  rfl

/-- Without a next boundary in the cycle nothing happens. -/
theorem carrierBoundary_none {m : Mach} {n : Nat} (h : nextIdx m n = none) : carrierBoundary n m = m := by
  rw [carrierBoundary, h, ite_self]

/-- Time that passes leaves memory, the registers, the values in force and the power stage. -/
theorem passTo_facts (m : Mach) (t : Nat) : (passTo m t).mem = m.mem ∧ (passTo m t).cyc = (at' m t).cyc ∧ (passTo m t).force = m.force ∧
    (passTo m t).regs = m.regs ∧ (passTo m t).pwr = m.pwr := by
  obtain ⟨a, e, hpass⟩ := passTo_frame m t
  rw [hpass]
  exact ⟨rfl, rfl, rfl, rfl, rfl⟩

/-- Counting a boundary changes the slot's state alone. -/
theorem countBoundary_frame (n : Nat) (m : Mach) : (countBoundary n m).mem = m.mem ∧ (countBoundary n m).cyc = m.cyc ∧
    (countBoundary n m).force = m.force ∧ (countBoundary n m).regs = m.regs ∧
    pwrSt (countBoundary n m) n = { pwrSt m n with count := (pwrSt m n).count + 1, last := none } := ⟨rfl, rfl, rfl, rfl, pwrSt_setPwr ..⟩

/-- Slots alike are so after a boundary. -/
theorem slotSide_counted {p q : PwrSt} (h : slotSide p = slotSide q) :
    slotSide { p with count := p.count + 1, last := none } = slotSide { q with count := q.count + 1, last := none } :=
  congrArg (fun r : PwrSt => { r with count := r.count + 1, last := none }) h

/-- Registers that are as they were hold what they held. -/
theorem getF_of_regs {m m' : Mach} (h : m'.regs = m.regs) (f : Fld) (i : Nat) : getF m' f i = getF m f i := by rw [getF, h, getF]

/-- What the first half leaves. -/
theorem boundaryClose_frame (n b : Nat) (m : Mach) :
    (boundaryClose n b m).mem = m.mem ∧ (boundaryClose n b m).cyc = (at' m b).cyc ∧ (boundaryClose n b m).force = m.force ∧
      (∀ g ∈ periodFields, getF (boundaryClose n b m) g n = getF m g n) ∧
      slotSide (pwrSt (boundaryClose n b m) n) = slotSide { pwrSt m n with count := (pwrSt m n).count + 1, last := none } := by
  obtain ⟨hmem, hcyc, hforce, hregs, hpwr⟩ := passTo_facts m b
  have hk := closePeriod_keeps (passTo m b) n b
  obtain ⟨hmem', hcyc', hforce', hregs', hpwr'⟩ := countBoundary_frame n (closePeriod (passTo m b) n b)
  have hslot : slotSide (pwrSt (closePeriod (passTo m b) n b) n) = slotSide (pwrSt m n) := by rw [hk.slot, pwrSt, hpwr, pwrSt]
  unfold boundaryClose
  refine ⟨(hmem'.trans hk.mem).trans hmem, (hcyc'.trans hk.cyc).trans hcyc, (hforce'.trans hk.force).trans hforce, fun g hg => ?_, ?_⟩
  · rw [getF_of_regs hregs', hk.fields g hg, getF_of_regs hregs]
  · rw [hpwr']
    exact slotSide_counted hslot

/-! ## Transfers (10 R303, R305, R306) -/

/-- With no commit nothing is transferred. -/
theorem transfers_uncommitted {m : Mach} {n : Nat} (i : Nat) (hu : getF m PWR_CFG_UPD_MODE n = 0) (hg : (pwrSt m n).goPend = false) :
    transfers m n i = (m, i) := by
  simp [transfers, onF, hu, hg]

/-- In immediate mode with no duty that waits nothing is transferred either. -/
theorem transfers_unwritten {m : Mach} {n : Nat} (i : Nat) (hu : onF m PWR_CFG_UPD_MODE n = true) (hd : (pwrSt m n).dutyPend = 0) :
    transfers m n i = (setPwr m n { pwrSt m n with dutyPend := 0, goPend := false }, i) := by
  simp [transfers, hu, hd, takeDuties, bitsOf]

/-- Shadows that wait for nothing are not transferred: the carrier, the values in force and the slot's place are as they were. -/
theorem transfers_idle {m : Mach} {n : Nat} (i : Nat) (hg : (pwrSt m n).goPend = false) (hd : (pwrSt m n).dutyPend = 0) :
    (transfers m n i).1.mem = m.mem ∧ (transfers m n i).1.force = m.force ∧ (pwrSt (transfers m n i).1 n).last = (pwrSt m n).last := by
  by_cases hu : onF m PWR_CFG_UPD_MODE n = true
  · rw [transfers_unwritten i hu hd]
    exact ⟨rfl, rfl, by rw [pwrSt_setPwr]⟩
  · have hu0 : getF m PWR_CFG_UPD_MODE n = 0 := by
      have hlt : getF m PWR_CFG_UPD_MODE n < 2 ^ 1 := Nat.mod_lt _ (by decide)
      simp only [onF, beq_iff_eq] at hu
      omega
    rw [transfers_uncommitted i hu0 hg]
    exact ⟨rfl, rfl, rfl⟩

/-- The duties of the three pairs put into force. -/
def enforceDuties (m : Mach) (n : Nat) : Mach := enforce (enforce (enforce m PWR_DUTY_A_DUTY n) PWR_DUTY_B_DUTY n) PWR_DUTY_C_DUTY n

/-- Transferring all duties puts them into force; the pairs remember the boundary. -/
theorem takeDuties_all (m : Mach) (n : Nat) : PeriodKeeps n (enforceDuties m n) (takeDuties m n 7) := by
  have hmask : bitsOf 3 7 = [0, 1, 2] := by decide
  rw [takeDuties, hmask]
  have step (m m' : Mach) (x : Nat) (p : PairSt) (hx : dutyF x ∈ periodFields) (h : PeriodKeeps n m m') :
      PeriodKeeps n (enforce m (dutyF x) n) (setPair (enforce m' (dutyF x) n) n x p) := (h.enforce hx).setPair
  exact step _ _ 2 _ (by decide) (step _ _ 1 _ (by decide) (step _ _ 0 _ (by decide) .refl))

/-- The duties in force are then those written. -/
theorem enforceDuties_values (m : Mach) (n : Nat) : getV (enforceDuties m n) PWR_DUTY_A_DUTY n = getF m PWR_DUTY_A_DUTY n ∧
    getV (enforceDuties m n) PWR_DUTY_B_DUTY n = getF m PWR_DUTY_B_DUTY n ∧ getV (enforceDuties m n) PWR_DUTY_C_DUTY n = getF m PWR_DUTY_C_DUTY n := by
  refine ⟨?_, ?_, getV_enforce_self _ PWR_DUTY_C_DUTY n⟩
  · rw [enforceDuties, getV_enforce_other (by decide), getV_enforce_other (by decide), getV_enforce_self]
  · rw [enforceDuties, getV_enforce_other (by decide), getV_enforce_self]
    rfl

/-- A commit has been carried out. -/
def committed (m : Mach) (n : Nat) : Mach := setPwr m n { pwrSt m n with goPend := false, dutyPend := 0 }

/-- That changes the slot's state alone. -/
theorem committed_frame (m : Mach) (n : Nat) : (committed m n).mem = m.mem ∧ (committed m n).cyc = m.cyc ∧
    (∀ f j, getF (committed m n) f j = getF m f j) ∧ (∀ f j, getV (committed m n) f j = getV m f j) ∧
    pwrSt (committed m n) n = { pwrSt m n with goPend := false, dutyPend := 0 } := ⟨rfl, rfl, fun _ _ => rfl, fun _ _ => rfl, pwrSt_setPwr ..⟩

/-- Values in force that are as they were. -/
theorem getV_of_force {m m' : Mach} (h : m'.force = m.force) (f : Fld) (i : Nat) : getV m' f i = getV m f i := by rw [getV, h, getV]

/-- Slots that are alike but for what a period keeps to itself. -/
theorem slotSide_parts {p q : PwrSt} (h : slotSide p = slotSide q) : p.cyc = q.cyc ∧ p.idx = q.idx ∧ p.count = q.count ∧ p.perPend = q.perPend ∧
    p.goPend = q.goPend ∧ p.dutyPend = q.dutyPend ∧ p.trips = q.trips ∧ p.sync = q.sync ∧ p.last = q.last := by
  simp only [slotSide, PwrSt.mk.injEq] at h
  obtain ⟨hc, hi, -, hn, hp, hg, hd, -, -, -, -, -, -, -, -, -, hl, ht, hs, -⟩ := h
  exact ⟨hc, hi, hn, hp, hg, hd, ht, hs, hl⟩

/-- A transfer of PER puts it into force; after a PER of 0 the carrier runs one more period of the one before. -/
theorem takePer_runs {m : Mach} {n : Nat} (i : Nat) (hv : getV m PWR_PER_PER n ≠ 0) :
    (takePer m n i).1.mem = m.mem ∧ (takePer m n i).1.cyc = m.cyc ∧ (∀ f j, getF (takePer m n i).1 f j = getF m f j) ∧
      (pwrSt (takePer m n i).1 n).count = (pwrSt m n).count ∧ (pwrSt (takePer m n i).1 n).trips = (pwrSt m n).trips ∧
      (pwrSt (takePer m n i).1 n).goPend = (pwrSt m n).goPend ∧ carrier (takePer m n i).1 n ≠ 0 ∧
      ∀ g : Fld, g.stride = PWR_PER_PER.stride ∧ g.key 0 ≠ PWR_PER_PER.key 0 → getV (takePer m n i).1 g n = getV m g n := by
  simp only [takePer]
  refine ⟨rfl, rfl, fun _ _ => rfl, by rw [pwrSt_setPwr]; rfl, by rw [pwrSt_setPwr]; rfl, by rw [pwrSt_setPwr]; rfl, ?_,
    fun g hg => getV_enforce_other hg m n⟩
  change (if getV (enforce m PWR_PER_PER n) PWR_PER_PER n = 0 then _ else getV (enforce m PWR_PER_PER n) PWR_PER_PER n) ≠ 0
  split
  case isTrue h =>
    rw [pwrSt_setPwr, if_pos ⟨h, hv⟩]
    exact hv
  case isFalse h => exact h

/-- What a transfer comes to for a slot whose carrier runs and whose period has not been written: nothing without a commit, the duties with
one; the carrier runs on. -/
theorem transfers_running {m : Mach} {n : Nat} (i : Nat) (hu : getF m PWR_CFG_UPD_MODE n = 0) (hp : (pwrSt m n).perPend = false)
    (hv : getV m PWR_PER_PER n ≠ 0) :
    (transfers m n i).1.mem = m.mem ∧ (transfers m n i).1.cyc = m.cyc ∧ (∀ g ∈ periodFields, getF (transfers m n i).1 g n = getF m g n) ∧
      (pwrSt (transfers m n i).1 n).count = (pwrSt m n).count ∧ (pwrSt (transfers m n i).1 n).trips = (pwrSt m n).trips ∧
      (pwrSt (transfers m n i).1 n).goPend = false ∧ carrier (transfers m n i).1 n ≠ 0 ∧
      ((pwrSt m n).goPend = true → getV (transfers m n i).1 PWR_DUTY_A_DUTY n = getF m PWR_DUTY_A_DUTY n ∧
        getV (transfers m n i).1 PWR_DUTY_B_DUTY n = getF m PWR_DUTY_B_DUTY n ∧ getV (transfers m n i).1 PWR_DUTY_C_DUTY n = getF m PWR_DUTY_C_DUTY n) := by
  cases hg : (pwrSt m n).goPend with
  | false =>
    rw [transfers_uncommitted i hu hg]
    exact ⟨rfl, rfl, fun _ _ => rfl, rfl, rfl, hg, by rw [carrier, if_neg hv]; exact hv, fun h => absurd h (by decide)⟩
  | true =>
    have heq : transfers m n i = takePer (committed (takeDuties m n 7) n) n i := by
      simp only [transfers, onF, hu, hg, hp, committed]; rfl
    have hk := takeDuties_all m n
    obtain ⟨-, -, hcount, -, -, -, htrips, -⟩ := slotSide_parts hk.slot
    obtain ⟨hdA, hdB, hdC⟩ := enforceDuties_values m n
    obtain ⟨hmem', hcyc', hf', hV', hst'⟩ := committed_frame (takeDuties m n 7) n
    have hV (g : Fld) : getV (committed (takeDuties m n 7) n) g n = getV (enforceDuties m n) g n := (hV' g n).trans (getV_of_force hk.force g n)
    have hper : getV (enforceDuties m n) PWR_PER_PER n = getV m PWR_PER_PER n := by
      rw [enforceDuties, getV_enforce_other (by decide), getV_enforce_other (by decide), getV_enforce_other (by decide)]
    obtain ⟨hmem, hcyc, hf, hcount', htrips', hgo, hcar, hval⟩ := takePer_runs i (((hV _).trans hper).trans_ne hv)
    rw [heq]
    rw [hst'] at hcount' htrips' hgo
    exact ⟨(hmem.trans hmem').trans hk.mem, (hcyc.trans hcyc').trans hk.cyc, fun g hg => ((hf g n).trans (hf' g n)).trans (hk.fields g hg),
      hcount'.trans hcount, htrips'.trans htrips, hgo, hcar,
      fun _ => ⟨((hval _ (by decide)).trans (hV _)).trans hdA, ((hval _ (by decide)).trans (hV _)).trans hdB, ((hval _ (by decide)).trans (hV _)).trans hdC⟩⟩

/-! ## The second half -/

/-- The slot's place at a boundary. -/
theorem boundaryAt_keeps (n b idx : Nat) (m : Mach) :
    PeriodKeeps n (setPwr m n { pwrSt m n with cyc := some m.cyc.n, idx := idx, tick := b }) (boundaryAt n b idx m) := pendFlag_keeps ..

/-- The summary of the gates is none of the fields that a boundary reads. -/
theorem periodFields_not_gates {n : Nat} (hn : n < 16) : ∀ g ∈ periodFields, g.key n ≠ PWR_SUMMARY_GATES.key 0 := by
  have hside : ∀ g ∈ periodFields, PWR_SUMMARY_GATES.key 0 < g.key 0 ∨ g.key 15 < PWR_SUMMARY_GATES.key 0 := by decide
  intro g hg
  have hlow := g.key_mono (Nat.zero_le n)
  have hhigh := g.key_mono (Nat.le_pred_of_lt hn)
  rcases hside g hg with h | h
  · exact Nat.ne_of_gt (Nat.lt_of_lt_of_le h hlow)
  · exact Nat.ne_of_lt (Nat.lt_of_le_of_lt hhigh h)

/-- Gates that are freed change their summary alone. -/
theorem releaseGates_frame {n : Nat} (hn : n < 16) (m : Mach) : (releaseGates n m).mem = m.mem ∧ (releaseGates n m).cyc = m.cyc ∧
    (releaseGates n m).force = m.force ∧ (releaseGates n m).pwr = m.pwr ∧ ∀ g ∈ periodFields, getF (releaseGates n m) g n = getF m g n := by
  unfold releaseGates
  split
  · exact ⟨rfl, rfl, rfl, rfl, fun g hg => getF_setF_ne m _ g 0 n _ (periodFields_not_gates hn g hg)⟩
  · exact ⟨rfl, rfl, rfl, rfl, fun _ _ => rfl⟩

/-- The gates of an enabled slot are then released. -/
theorem releaseGates_on {n : Nat} (hn : n < 16) {m : Mach} (h : 2 ≤ getF m AXL_STAT_STATE n) : gatesOn (releaseGates n m) n = true := by
  cases hg : gatesOn m n with
  | true =>
    rw [releaseGates, hg, if_neg (by simp)]
    exact hg
  | false =>
    rw [releaseGates, hg, if_pos (by simp [h])]
    exact testBit_setSlotBit hn m true

/-- A SYNC event changes the slot's state alone; the first period of a current period has it at its boundary. -/
theorem markSync_frame (n b p idx : Nat) (m : Mach) : (markSync n b p idx m).mem = m.mem ∧ (markSync n b p idx m).cyc = m.cyc ∧
    (markSync n b p idx m).force = m.force ∧ (markSync n b p idx m).regs = m.regs ∧
    ∃ y, pwrSt (markSync n b p idx m) n = { pwrSt m n with sync := y } ∧
      (idx % max 1 (getF m AXL_MODE_CUR_DIV n) = 0 → getF m PWR_SD_CFG_SYNC n = 0 → y = some b) := by
  unfold markSync
  split
  case isTrue h => exact ⟨rfl, rfl, rfl, rfl, _, pwrSt_setPwr .., fun _ hs => by simp [onF, hs]⟩
  case isFalse h => exact ⟨rfl, rfl, rfl, rfl, (pwrSt m n).sync, rfl, fun hd => absurd hd h⟩

/-- No event is offered where none is selected. -/
theorem offerEvent_none {m : Mach} {n : Nat} (h : getF m PWR_EVT_CFG_SRC n = 0) (b p : Nat) : offerEvent m n b p = m := by
  simp [offerEvent, eventInstant, h]

/-- No trip cuts again where no input has been asserted. -/
theorem tripAgain_none {m : Mach} {n : Nat} (h : (pwrSt m n).trips = []) (b p : Nat) : tripAgain m n b p = m :=
  foldl_fixed_of_mem fun i _ => by simp [h, sget]

/-- What the begin of a period leaves of a slot without trips and events: its place, and the gates released where it is enabled. -/
theorem periodBegin_running {n : Nat} (hn : n < 16) {m : Mach} (ht : (pwrSt m n).trips = []) (hs : getF m PWR_EVT_CFG_SRC n = 0) (b p idx : Nat) :
    (periodBegin n b p idx m).mem = m.mem ∧ (periodBegin n b p idx m).cyc = m.cyc ∧ (periodBegin n b p idx m).force = m.force ∧
      (2 ≤ getF m AXL_STAT_STATE n → gatesOn (periodBegin n b p idx m) n = true) ∧
      ∃ y, slotSide (pwrSt (periodBegin n b p idx m) n) = slotSide { pwrSt m n with sync := y } ∧
        (idx % max 1 (getF m AXL_MODE_CUR_DIV n) = 0 → getF m PWR_SD_CFG_SYNC n = 0 → y = some b) := by
  obtain ⟨hmem, hcyc, hforce, hpwr, hf⟩ := releaseGates_frame hn m
  obtain ⟨hmem', hcyc', hforce', hregs, y, hy, hsync⟩ := markSync_frame n b p idx (releaseGates n m)
  have hk := openPeriod_keeps (markSync n b p idx (releaseGates n m)) n b p
  have hst : pwrSt (releaseGates n m) n = pwrSt m n := by rw [pwrSt, hpwr, pwrSt]
  have hslot : slotSide (pwrSt (openPeriod (markSync n b p idx (releaseGates n m)) n b p) n) = slotSide { pwrSt m n with sync := y } := by
    rw [hk.slot, hy, hst]
  obtain ⟨-, -, -, -, -, -, htrips, -⟩ := slotSide_parts hslot
  have hsrc : getF (openPeriod (markSync n b p idx (releaseGates n m)) n b p) PWR_EVT_CFG_SRC n = 0 := by
    rw [hk.fields _ (by decide), getF_of_regs hregs, hf _ (by decide), hs]
  have heq : periodBegin n b p idx m = openPeriod (markSync n b p idx (releaseGates n m)) n b p := by
    rw [periodBegin, offerEvent_none hsrc, tripAgain_none (htrips.trans ht)]
  rw [heq]
  refine ⟨(hk.mem.trans hmem').trans hmem, (hk.cyc.trans hcyc').trans hcyc, (hk.force.trans hforce').trans hforce, fun h => ?_, y, hslot, ?_⟩
  · rw [gatesOn, hk.gates, getF_of_regs hregs]
    exact releaseGates_on hn h
  · rw [← hf AXL_MODE_CUR_DIV (by decide), ← hf PWR_SD_CFG_SYNC (by decide)]
    exact hsync

/-- The same of a boundary after which the carrier runs. -/
theorem boundaryOpen_running {n : Nat} (hn : n < 16) {r : Mach × Nat} (hc : carrier r.1 n ≠ 0) (ht : (pwrSt r.1 n).trips = [])
    (hs : getF r.1 PWR_EVT_CFG_SRC n = 0) (b : Nat) :
    (boundaryOpen n b r).mem = r.1.mem ∧ (boundaryOpen n b r).cyc = r.1.cyc ∧ (boundaryOpen n b r).force = r.1.force ∧
      (2 ≤ getF r.1 AXL_STAT_STATE n → gatesOn (boundaryOpen n b r) n = true) ∧
      ∃ y, slotSide (pwrSt (boundaryOpen n b r) n) = slotSide { pwrSt r.1 n with cyc := some r.1.cyc.n, idx := r.2, tick := b, sync := y } ∧
        (r.2 % max 1 (getF r.1 AXL_MODE_CUR_DIV n) = 0 → getF r.1 PWR_SD_CFG_SYNC n = 0 → y = some b) := by
  have hk := boundaryAt_keeps n b r.2 r.1
  have hslot := hk.slot
  rw [pwrSt_setPwr] at hslot
  obtain ⟨-, -, -, -, -, -, htrips, -⟩ := slotSide_parts hslot
  have hf : ∀ g ∈ periodFields, getF (boundaryAt n b r.2 r.1) g n = getF r.1 g n := hk.fields
  obtain ⟨hmem, hcyc, hforce, hgates, y, hy, hsync⟩ := periodBegin_running hn (htrips.trans ht) ((hf _ (by decide)).trans hs) b
    (boundaryTick (boundaryAt n b r.2 r.1) (carrier r.1 n) (r.2 + 1) - b) r.2
  rw [hf _ (by decide)] at hgates
  rw [hf _ (by decide), hf _ (by decide)] at hsync
  rw [boundaryOpen, if_neg hc]
  refine ⟨hmem.trans hk.mem, hcyc.trans hk.cyc, hforce.trans hk.force, hgates, y, hy.trans ?_, hsync⟩
  exact congrArg (fun q : PwrSt => { q with sync := y }) hslot

/-! ## The boundary of a carrier that runs, and of one that stands (10 R303, R305, R328) -/

/-- CARRIER_BOUNDARY of a carrier that runs, for a slot without trips and events. -/
theorem carrierBoundary_running {m : Mach} {n i : Nat} (hn : n < 16) (h : nextIdx m n = some i) (hv : getV m PWR_PER_PER n ≠ 0)
    (ht : (pwrSt m n).trips = []) (hs : getF m PWR_EVT_CFG_SRC n = 0) (hu : getF m PWR_CFG_UPD_MODE n = 0) (hp : (pwrSt m n).perPend = false) :
    (carrierBoundary n m).cyc.now = max m.cyc.now (m.cyc.start + i * getV m PWR_PER_PER n / 16) ∧
    (pwrSt (carrierBoundary n m) n).cyc = some m.cyc.n ∧ (pwrSt (carrierBoundary n m) n).count = (pwrSt m n).count + 1 ∧
    (carrierBoundary n m).mem = m.mem ∧ (2 ≤ getF m AXL_STAT_STATE n → gatesOn (carrierBoundary n m) n = true) ∧
    ((pwrSt m n).goPend = false → (carrierBoundary n m).force = m.force ∧ (pwrSt (carrierBoundary n m) n).idx = i ∧
      (i % max 1 (getF m AXL_MODE_CUR_DIV n) = 0 → getF m PWR_SD_CFG_SYNC n = 0 →
        (pwrSt (carrierBoundary n m) n).sync = some (m.cyc.start + i * getV m PWR_PER_PER n / 16))) ∧
    ((pwrSt m n).goPend = true → (pwrSt (carrierBoundary n m) n).goPend = false ∧
      getV (carrierBoundary n m) PWR_DUTY_A_DUTY n = getF m PWR_DUTY_A_DUTY n ∧
      getV (carrierBoundary n m) PWR_DUTY_B_DUTY n = getF m PWR_DUTY_B_DUTY n ∧
      getV (carrierBoundary n m) PWR_DUTY_C_DUTY n = getF m PWR_DUTY_C_DUTY n) := by
  have hcar : carrier m n = getV m PWR_PER_PER n := if_neg hv
  have heq := carrierBoundary_eq hn h
  rw [hcar] at heq
  change carrierBoundary n m = boundaryOpen n (m.cyc.start + i * getV m PWR_PER_PER n / 16)
    (transfers (boundaryClose n (m.cyc.start + i * getV m PWR_PER_PER n / 16) m) n i) at heq
  generalize m.cyc.start + i * getV m PWR_PER_PER n / 16 = b at heq ⊢
  obtain ⟨cmem, ccyc, cforce, cf, cslot⟩ := boundaryClose_frame n b m
  generalize boundaryClose n b m = c at heq cmem ccyc cforce cf cslot
  obtain ⟨-, -, ccount, cper, cgo, -, ctrips, -⟩ := slotSide_parts cslot
  have hV : ∀ f, getV c f n = getV m f n := fun f => getV_of_force cforce f n
  obtain ⟨tmem, tcyc, tf, tcount, ttrips, tgo, tcar, tduty⟩ :=
    transfers_running i ((cf _ (by decide)).trans hu) (cper.trans hp) ((hV _).trans_ne hv)
  have hf : ∀ g ∈ periodFields, getF (transfers c n i).1 g n = getF m g n := fun g hg => (tf g hg).trans (cf g hg)
  obtain ⟨omem, ocyc, oforce, ogates, y, oslot, osync⟩ :=
    boundaryOpen_running hn tcar (ttrips.trans (ctrips.trans ht)) ((hf _ (by decide)).trans hs) b
  obtain ⟨pcyc, pidx, pcount, -, pgo, -, -, psync, -⟩ := slotSide_parts oslot
  rw [hf _ (by decide)] at ogates
  rw [hf _ (by decide), hf _ (by decide)] at osync
  have hcyc : (transfers c n i).1.cyc = (at' m b).cyc := tcyc.trans ccyc
  rw [heq]
  refine ⟨?_, ?_, pcount.trans (tcount.trans ccount), omem.trans (tmem.trans cmem), ogates, fun hg => ?_, fun hg => ?_⟩
  · rw [ocyc, hcyc]; rfl
  · rw [pcyc, hcyc]; rfl
  · have hidle := transfers_uncommitted i ((cf _ (by decide)).trans hu) (cgo.trans hg)
    rw [hidle] at oforce pidx osync psync
    rw [hidle]
    exact ⟨oforce.trans cforce, pidx, fun hd hsync => psync.trans (osync hd hsync)⟩
  · obtain ⟨hA, hB, hC⟩ := tduty (cgo.trans hg)
    have hO : ∀ f, getV (boundaryOpen n b (transfers c n i)) f n = getV (transfers c n i).1 f n := fun f => getV_of_force oforce f n
    exact ⟨pgo.trans tgo, (hO _).trans (hA.trans (cf _ (by decide))), (hO _).trans (hB.trans (cf _ (by decide))),
      (hO _).trans (hC.trans (cf _ (by decide)))⟩

/-- A carrier that stands has no next boundary in the cycle that it stands in. -/
theorem nextIdx_standing {m : Mach} {n : Nat} (hc : (pwrSt m n).cyc = some m.cyc.n) (hv : getV m PWR_PER_PER n = 0) (hl : (pwrSt m n).last = none) :
    nextIdx m n = none := by
  simp [nextIdx, hc, carrier, hv, hl]

/-- CARRIER_BOUNDARY after a PER of 0 has transferred. -/
theorem carrierBoundary_standing {m : Mach} {n i : Nat} (hn : n < 16) (h : nextIdx m n = some i) (hv : getV m PWR_PER_PER n = 0)
    (hg : (pwrSt m n).goPend = false) (hd : (pwrSt m n).dutyPend = 0) :
    gatesOn (carrierBoundary n m) n = false ∧ nextIdx (carrierBoundary n m) n = none ∧ (carrierBoundary n m).mem = m.mem := by
  rw [carrierBoundary_eq hn h]
  generalize boundaryTick m (carrier m n) i = b
  obtain ⟨cmem, -, cforce, -, cslot⟩ := boundaryClose_frame n b m
  generalize boundaryClose n b m = c at cmem cforce cslot ⊢
  obtain ⟨-, -, -, -, cgo, cduty, -, -, clast⟩ := slotSide_parts cslot
  obtain ⟨tmem, tforce, tlast⟩ := transfers_idle i (cgo.trans hg) (cduty.trans hd)
  generalize transfers c n i = r at tmem tforce tlast ⊢
  have hper : getV r.1 PWR_PER_PER n = 0 := (getV_of_force (tforce.trans cforce) _ n).trans hv
  have hlast : (pwrSt r.1 n).last = none := tlast.trans clast
  have hstands : carrier r.1 n = 0 := by rw [carrier, if_pos hper, hlast]; rfl
  have hat := boundaryAt_keeps n b r.2 r.1
  have hlow := gatesLow_keeps (boundaryAt n b r.2 r.1) n
  have hslot : slotSide (pwrSt (gatesLow (boundaryAt n b r.2 r.1) n) n) = slotSide { pwrSt r.1 n with cyc := some r.1.cyc.n, idx := r.2, tick := b } := by
    rw [← pwrSt_setPwr r.1 n { pwrSt r.1 n with cyc := some r.1.cyc.n, idx := r.2, tick := b }]
    exact hlow.slot.trans hat.slot
  obtain ⟨pcyc, -, -, -, -, -, -, -, plast⟩ := slotSide_parts hslot
  rw [boundaryOpen, if_pos hstands]
  refine ⟨?_, nextIdx_standing ?_ ?_ (plast.trans hlast), (hlow.mem.trans hat.mem).trans (tmem.trans cmem)⟩
  · rw [gatesOn, hlow.gates]
    exact testBit_setSlotBit hn _ false
  · have hcyc : (gatesLow (boundaryAt n b r.2 r.1) n).cyc = r.1.cyc := hlow.cyc.trans hat.cyc
    rw [hcyc]
    exact pcyc
  · exact (getV_of_force (hlow.force.trans hat.force) _ n).trans hper

/-! ## Pulses (10 R304, R308) -/

/-- The on-time of pair `x` in its period, in 1/16 ticks: what is asked for, held below MAX_DUTY, and the residue of the period before. -/
def onTimeOf (m : Mach) (n x : Nat) : Int :=
  let tmx := roundShift ((getF m PWR_MAX_DUTY_MAX n * carrier m n : Nat) : Int) 31
  (if tmx < onRequest m n x then tmx else onRequest m n x) + (pairSt m n x).res

/-- Where a pulse stands in its period depends on the alignment alone. -/
theorem emitAt_of_align {m m' : Mach} {n : Nat} (h : getF m' PWR_CFG_ALIGN n = getF m PWR_CFG_ALIGN n) (b p k : Nat) :
    emitAt m' n b p k = emitAt m n b p k := by
  have hon : onF m' PWR_CFG_ALIGN n = onF m PWR_CFG_ALIGN n := congrArg (· == 1) h
  rw [emitAt, emitAt, hon]

/-- A note that the maximum duty was reached leaves the alignment. -/
theorem align_flagged (m : Mach) (n : Nat) (c : Prop) [Decidable c] :
    getF (if c then flag m PWR_FLAGS_DUTY_MAX n else m) PWR_CFG_ALIGN n = getF m PWR_CFG_ALIGN n := by
  by_cases h : c
  · rw [if_pos h]
    exact getF_setF_other (by decide) ..
  · rw [if_neg h]

section
variable {m : Mach} {n x p : Nat} (b : Nat) (was : Bool)
  (htop : onTimeOf m n x ≤ 16 * ((p : Int) - getF m PWR_PROT_MIN_PULSE n - (pairSt m n x).apF))
include htop

/-- A pulse that is long enough takes the whole ticks of its on-time, and the rest is carried on. -/
theorem formPulse_whole (hmin : 16 * ((getF m PWR_PROT_MIN_PULSE n : Int) + (pairSt m n x).apR) ≤ onTimeOf m n x) (h0 : 0 ≤ onTimeOf m n x) :
    ∃ k : Nat, 16 * (k : Int) ≤ onTimeOf m n x ∧ onTimeOf m n x < 16 * k + 16 ∧
      (pairSt (formPulse m n x b p was) n x).res = onTimeOf m n x - 16 * k ∧
      (pairSt (formPulse m n x b p was) n x).pulse = some (emitAt m n b p k) := by
  unfold formPulse
  extract_lets q mn want tmx m₁ t top len m₂ said st m₃ k
  have hfits : ¬ top < t := not_lt.2 htop
  have hlong : ¬ t < 16 * ((mn : Int) + q.apR) := not_lt.2 hmin
  have halign : emitAt m₁ n b p k = emitAt m n b p k := emitAt_of_align (align_flagged m n _) b p k
  have hk : (k : Int) = t / 16 := Int.toNat_of_nonneg (Int.ediv_nonneg h0 (by decide))
  refine ⟨k, ?_, ?_, ?_⟩
  · change 16 * (k : Int) ≤ t
    omega
  · change t < 16 * (k : Int) + 16
    omega
  · rw [if_neg hfits, if_neg hlong, pairSt_setPair, halign]
    exact ⟨rfl, rfl⟩

/-- One that is too short is left out, and all of it is carried on. -/
theorem formPulse_short (hmin : onTimeOf m n x < 16 * ((getF m PWR_PROT_MIN_PULSE n : Int) + (pairSt m n x).apR)) :
    (pairSt (formPulse m n x b p was) n x).res = onTimeOf m n x ∧ (pairSt (formPulse m n x b p was) n x).pulse = none := by
  unfold formPulse
  extract_lets q mn want tmx m₁ t top len m₂ said st m₃ k
  have hfits : ¬ top < t := not_lt.2 htop
  have hshort : t < 16 * ((mn : Int) + q.apR) := hmin
  rw [if_neg hfits, if_pos hshort]
  exact ⟨congrArg PairSt.res (pairSt_setPair ..), congrArg PairSt.pulse (pairSt_setPair ..)⟩

end

/-! ## The statement -/

/-- Settles O42: the register writes by their branches, the boundary by its two halves, the pulse by its bounds. -/
theorem carrierPeriodsFormPulses : Obligations.CarrierPeriodsFormPulses := by
  intro n x v b p was s hn hx m st per fits
  refine ⟨fun hb hv hfit => ?_, fun hb hbad => ?_, fun hb hu => ?_, fun hb hu => ?_, fun hb h7 => ?_, fun hb h6 ho => ?_, fun hb h7 h6 => ?_,
    fun h => ?_, fun i h _ hv hg hd => ?_, fun i h hv ht hs hu hp => ?_, ?_⟩
  · refine ⟨perTaken m n per, ?_, perTaken_waits m n (Nat.mod_lt _ (by decide))⟩
    rw [exec_perWrite, done_domWrite_on hb, perWrite_taken hn hv hfit]
  · rw [exec_perWrite, done_domWrite_on hb, perWrite_refused hn hbad]
  · exact ⟨_, (exec_pwrCommit n s).trans (done_domWrite_on hb ..), pwrCommit_asks hn hu⟩
  · rw [exec_pwrCommit, done_domWrite_on hb, pwrCommit_immediate hu]
  · rw [exec_evtCfgWrite, done_domWrite_on hb, evtCfgWrite_refused hn h7]
  · rw [exec_evtCfgWrite, done_domWrite_on hb, evtCfgWrite_busy hn h6 ho]
  · exact ⟨_, (exec_evtCfgWrite n v s).trans (done_domWrite_on hb ..), evtCfgWrite_taken hn h7 h6⟩
  · rw [exec_carrierBoundary]
    exact done_same (carrierBoundary_none h)
  · exact ⟨_, exec_carrierBoundary n s, carrierBoundary_standing hn h hv hg hd⟩
  · exact ⟨_, exec_carrierBoundary n s, carrierBoundary_running hn h hv ht hs hu hp⟩
  · exact ⟨fun hmin htop h0 => formPulse_whole b was htop hmin h0, fun hmin htop => formPulse_short b was htop hmin⟩

end Sys2Proof.Machine
end

section
/-! PROOFS. What the statements of 02_cell_cycle share: which fields an operation may write, and what reports, interrupt sources and the
memory's error correction leave. -/

namespace Sys2Proof.Machine

/-! ## Fields that an operation may write -/

/-- From `m` to `m'` no field reads anew but those whose keys `P` names. -/
def FieldsBut (P : Nat → Prop) (m m' : Mach) : Prop := ∀ (g : Fld) (j : Nat), ¬ P (g.key j) → getF m' g j = getF m g j

namespace FieldsBut
variable {P Q : Nat → Prop} {m m' m'' : Mach}

theorem refl : FieldsBut P m m := fun _ _ _ => rfl
theorem trans (h : FieldsBut P m m') (h' : FieldsBut P m' m'') : FieldsBut P m m'' := fun g j hk => (h' g j hk).trans (h g j hk)
theorem mono (h : FieldsBut P m m') (hPQ : ∀ k, P k → Q k) : FieldsBut Q m m' := fun g j hk => h g j fun hp => hk (hPQ _ hp)

/-- The register file alone says what fields read. -/
theorem of_regs (h : m'.regs = m.regs) : FieldsBut P m m' := fun g j _ => by rw [getF, getF, h]

theorem setF {f : Fld} {i : Nat} (v : Nat) (h : P (f.key i)) : FieldsBut P m (setF m f i v) :=
  fun g j hk => getF_setF_ne m f g i j v fun he => hk (by rw [he]; exact h)

theorem ite {c : Prop} [Decidable c] {a b : Mach} (ha : FieldsBut P m a) (hb : FieldsBut P m b) : FieldsBut P m (if c then a else b) := by
  split
  · exact ha
  · exact hb

/-- Features are read of three registers. -/
theorem feature (h : FieldsBut P m m') (hdone : ¬ P (HIF_FEAT_ACK_DONE.key 0)) (hfailed : ¬ P (HIF_FEAT_ACK_FAILED.key 0))
    (hdrv : ¬ P (HIF_FEAT_DRV_DRV.key 0)) (b : Nat) : Machine.feature m' b = Machine.feature m b := by
  simp only [Machine.feature, onF, h _ 0 hdone, h _ 0 hfailed, h _ 0 hdrv]

end FieldsBut

/-- The registers that a report writes: counts of dropped events, and the size of the fault log. -/
def reportKeys : List Nat :=
  [HIF_EVT_DROP_CNT.key 0, HIF_EVT_DROP_CNT.key 1, HIF_EVT_DROP_CNT.key 2, HIF_EVT_DROP_CNT.key 3, SYS_FLOG_CNT_OVERWRITTEN.key 0,
   SYS_FLOG_CNT_N.key 0]

/-- They lie in the blocks SYS and HIF. -/
theorem reportKeys_low : ∀ k ∈ reportKeys, k < 0x40020000 * 32 := by decide

/-- The registers that an event of an interrupt source writes where it is merged. -/
def irqKeys : List Nat := [INTC_FLAGS_MERGED.key 0, INTC_MERGE_CNT_CNT.key 0]

/-- They lie in the block INTC. -/
theorem irqKeys_intc : ∀ k ∈ irqKeys, 0x40020000 * 32 ≤ k ∧ k < 0x40030000 * 32 := by decide

/-- An event held for one of the four rings. -/
theorem holdEv_fieldsBut (m : Mach) {k : Nat} (hk : k < 4) (e : Ev) : FieldsBut (· ∈ reportKeys) m (holdEv m k e) := by
  have hkey : HIF_EVT_DROP_CNT.key k ∈ reportKeys := by
    have hall : ∀ i, i < 4 → HIF_EVT_DROP_CNT.key i ∈ reportKeys := by decide
    exact hall k hk
  unfold holdEv
  split
  · exact .trans (.setF _ hkey) (.of_regs rfl)
  · exact .of_regs rfl

/-- An error logged. -/
theorem logEv_fieldsBut (m : Mach) (e : Ev) : FieldsBut (· ∈ reportKeys) m (logEv m e) := by
  have hcount : FieldsBut (· ∈ reportKeys) m (if 256 < (m.sys.flog ++ [e]).length then incF m SYS_FLOG_CNT_OVERWRITTEN 0 1 else m) :=
    .ite (.setF _ (by decide)) .refl
  have hsize : SYS_FLOG_CNT_N.key 0 ∈ reportKeys := by simp [reportKeys]
  unfold logEv
  refine .trans (.trans hcount (.of_regs ?_)) (.setF _ hsize)
  rfl

/-- A report writes those registers alone. -/
theorem report_fieldsBut (m : Mach) (code cls kind id detail index : Nat) :
    FieldsBut (· ∈ reportKeys) m (report m code cls kind id detail index) := by
  have hring : ∀ b, getF m HIF_EVT_ROUTE_RING b < 4 := fun b => Nat.mod_lt _ (by decide)
  simp only [report]
  refine .ite (.trans ?_ (.of_regs rfl)) ?_ <;>
    exact (FieldsBut.ite (holdEv_fieldsBut m (hring _) _) .refl).trans (.ite (logEv_fieldsBut _ _) .refl)

/-! ## Events of interrupt sources (21 R590 to R592) -/

/-- An event makes its source pending, or is merged: nothing else changes. -/
theorem irq_frame (m : Mach) (k : Nat) : ∃ r p, irq m k = { m with regs := r, intc := { m.intc with pend := p } } := by
  unfold irq
  split
  · exact ⟨_, m.intc.pend, rfl⟩
  · exact ⟨m.regs, _, rfl⟩

/-- The source is pending then. -/
theorem mem_irq (m : Mach) (k : Nat) : k ∈ (irq m k).intc.pend := by
  by_cases h : k ∈ m.intc.pend
  · rw [irq_of_mem h]; exact h
  · rw [irq_of_not_mem h]; exact (mem_insNat ..).2 (.inl rfl)

/-- An event writes the registers of merged events alone. -/
theorem irq_fieldsBut (m : Mach) (k : Nat) : FieldsBut (· ∈ irqKeys) m (irq m k) := by
  unfold irq
  split
  · exact .trans (.setF _ (by decide)) (.setF _ (by decide))
  · exact .of_regs rfl

@[simp] theorem irq_cyc (m : Mach) (k : Nat) : (irq m k).cyc = m.cyc := by obtain ⟨_, _, h⟩ := irq_frame m k; rw [h]
@[simp] theorem irq_locks (m : Mach) (k : Nat) : (irq m k).locks = m.locks := by obtain ⟨_, _, h⟩ := irq_frame m k; rw [h]
@[simp] theorem irq_time (m : Mach) (k : Nat) : (irq m k).time = m.time := by obtain ⟨_, _, h⟩ := irq_frame m k; rw [h]
@[simp] theorem irq_twi (m : Mach) (k : Nat) : (irq m k).twi = m.twi := by obtain ⟨_, _, h⟩ := irq_frame m k; rw [h]
@[simp] theorem irq_duo (m : Mach) (k : Nat) : (irq m k).duo = m.duo := by obtain ⟨_, _, h⟩ := irq_frame m k; rw [h]
@[simp] theorem irq_run (m : Mach) (k : Nat) : (irq m k).run = m.run := by obtain ⟨_, _, h⟩ := irq_frame m k; rw [h]
@[simp] theorem irq_ladle (m : Mach) (k : Nat) : (irq m k).ladle = m.ladle := by obtain ⟨_, _, h⟩ := irq_frame m k; rw [h]
@[simp] theorem irq_mould (m : Mach) (k : Nat) : (irq m k).mould = m.mould := by obtain ⟨_, _, h⟩ := irq_frame m k; rw [h]
@[simp] theorem irq_cruc (m : Mach) (k : Nat) : (irq m k).cruc = m.cruc := by obtain ⟨_, _, h⟩ := irq_frame m k; rw [h]
@[simp] theorem irq_hif (m : Mach) (k : Nat) : (irq m k).hif = m.hif := by obtain ⟨_, _, h⟩ := irq_frame m k; rw [h]

/-- A register beyond INTC reads as before. -/
theorem getF_irq {g : Fld} (h : g.key 0 ∉ irqKeys) (m : Mach) (k : Nat) : getF (irq m k) g = getF m g := irq_fieldsBut m k g 0 h

@[simp] theorem isManager_irq (m : Mach) (k : Nat) : isManager (irq m k) = isManager m := congrArg (· == 1) (irq_fieldsBut m k _ 0 (by decide))
@[simp] theorem inPair_irq (m : Mach) (k : Nat) : inPair (irq m k) = inPair m := by
  rw [inPair, inPair, isManager_irq, irq_mould, getF_irq (by decide)]

/-! ## Steps one after another -/

/-- A relation that holds of every step holds of them one after another. -/
theorem foldl_related {α : Type} {R : Mach → Mach → Prop} (hrefl : ∀ m, R m m) (htrans : ∀ {a b c}, R a b → R b c → R a c) {f : Mach → α → Mach}
    {l : List α} (h : ∀ x ∈ l, ∀ m, R m (f m x)) (m : Mach) : R m (l.foldl f m) := by
  induction l generalizing m with
  | nil => exact hrefl m
  | cons x l ih => exact htrans (h x (List.mem_cons_self ..) m) (ih (fun y hy => h y (List.mem_cons_of_mem _ hy)) (f m x))

/-- A relation that holds of the machines of every step holds of those of the steps one after another. -/
theorem foldl_fst_related {α β : Type} {R : Mach → Mach → Prop} (hrefl : ∀ m, R m m) (htrans : ∀ {a b c}, R a b → R b c → R a c)
    {f : Mach × β → α → Mach × β} {l : List α} (h : ∀ r x, R r.1 (f r x).1) (r : Mach × β) : R r.1 (l.foldl f r).1 := by
  induction l generalizing r with
  | nil => exact hrefl r.1
  | cons x l ih => exact htrans (h r x) (ih (f r x))

end Sys2Proof.Machine
end

section
/-! PROOFS. The locks (04 R136 to R140): each in its order where its checks pass, and the statement on them. -/

namespace Sys2Proof.Machine

/-! ## The commands of this statement -/

theorem exec_cfgLockSet (s : State) : exec .cfgLockSet s = done (fun m => (setCfgLock m).1) s := rfl
theorem exec_limitLockSet (s : State) : exec .limitLockSet s = done (fun m => (setLimitLock m).1) s := rfl
theorem exec_schedLockSet (s : State) : exec .schedLockSet s = done (fun m => (setSchedLock m).1) s := rfl
theorem exec_setLock (j : Job) (s : State) : exec (.setLock j) s = done (runJob 0x0002 setLockJob j) s := rfl

/-! ## One lock (04 R136) -/

/-- The locks stand at `l`, and the notice says so. -/
def locked (m : Mach) (l : Locks) : Mach := notice { m with locks := l } E_SYS_LOCK_SET (lockWord l)

section
variable {pre : Bool} {fail : Option (Nat × Nat)} {put : Locks → Locks} {m : Mach}

/-- A lock that is set stays as it is. -/
theorem setLock_already : setLock true pre fail put m = (m, E_OK) := rfl

/-- A lock out of its order is not set. -/
theorem setLock_outOfOrder : setLock false false fail put m = (logNode m E_SYS_LOCK_ORDER 0, E_SYS_LOCK_ORDER) := rfl

/-- One whose check fails is not set. -/
theorem setLock_fails {code det : Nat} : setLock false true (some (code, det)) put m = (logNode m code det, code) := rfl

/-- One in its order whose check passes is set and told. -/
theorem setLock_sets : setLock false true none put m = (locked m (put m.locks), E_OK) := rfl

end

/-- What a report does to the locks: nothing. -/
theorem Reported.locks {m m' : Mach} (h : Reported m m') : m'.locks = m.locks := by obtain ⟨⟨_, _, _, _, rfl⟩, _⟩ := h; rfl

@[simp] theorem locked_locks (m : Mach) (l : Locks) : (locked m l).locks = l := (report_reported ..).locks
@[simp] theorem flag_locked_locks (m : Mach) (l : Locks) (f : Fld) : (flag (locked m l) f).locks = l := locked_locks m l

/-! ## The checks before the locks -/

/-- A loaded model whose stored image is as it was and still matches its lengths and CRCs. -/
def CfgLockable (m : Mach) : Prop :=
  m.mould.loaded = true ∧ rdBytes m 0x10000000 m.mould.image.length = m.mould.image ∧ step1 (wholeModel m m.mould.image) m.mould.image = none

/-- Limits of every configured slot, and a rate limit for each timed output in use. -/
def LimitLockable (m : Mach) : Prop :=
  (∀ i ∈ configuredSlots m, getF m PWR_PEAK_TRIP_THR i ≠ 0 ∧ getF m PWR_MAX_DUTY_MAX i < 2 ^ 31 ∧
      getF m PWR_DT_LIM_DT_FLOOR i ≤ getF m PWR_DT_LIM_DT_CEIL i) ∧
    (∀ o, o < 8 → getF m TIME_OUT_RLIM_USED o = 1 → getF m TIME_OUT_RLIM_RLIM o ≠ 0)

/-- A phase plan within 02 R61 and, on a networked node, a schedule that passes its checks. -/
def SchedLockable (m : Mach) : Prop :=
  let p := planWritten m
  lenUsable m (getF m TIME_CYCLE_CFG_LEN) = true ∧ nth p 0 < nth p 1 ∧ nth p 1 < nth p 2 ∧ nth p 2 < nth p 3 ∧
    4000 ≤ nth p 0 ∧ nth p 1 + 16000 ≤ nth p 2 ∧ nth p 3 + 2000 ≤ lenTicks (getF m TIME_CYCLE_CFG_LEN) ∧
    lineBound m (upBytes m) (nth p 1 - nth p 0) = true ∧ lineBound m (downBytes m) (nth p 3 - nth p 2) = true ∧
    (m.mould.config < 2 ∨ schedFail m = none)

theorem cfgLockFail_none {m : Mach} (h : CfgLockable m) : cfgLockFail m = none := by
  obtain ⟨hloaded, himage, hstep⟩ := h
  simp [cfgLockFail, hloaded, himage, hstep]

theorem cfgLockFail_noModel {m : Mach} (h : m.mould.loaded = false) : cfgLockFail m = some (E_SYS_NO_MODEL, 0) := by
  simp [cfgLockFail, h]

theorem limitLockFail_none {m : Mach} (h : LimitLockable m) : limitLockFail m = none := by
  obtain ⟨hslots, houts⟩ := h
  have hslot : (configuredSlots m).find? (fun s => getF m PWR_PEAK_TRIP_THR s == 0 || decide (2 ^ 31 ≤ getF m PWR_MAX_DUTY_MAX s)
      || decide (getF m PWR_DT_LIM_DT_CEIL s < getF m PWR_DT_LIM_DT_FLOOR s)) = none := by
    refine List.find?_eq_none.2 fun i hi => ?_
    obtain ⟨htrip, hduty, hdead⟩ := hslots i hi
    simpa [htrip, hdead] using hduty
  have hout : (List.range 8).find? (fun o => onF m TIME_OUT_RLIM_USED o && getF m TIME_OUT_RLIM_RLIM o == 0) = none := by
    refine List.find?_eq_none.2 fun o ho => ?_
    simpa [onF] using houts o (List.mem_range.1 ho)
  simp only [limitLockFail, hslot, hout, Option.map_none]

theorem schedFail_small {m : Mach} (h : m.mould.config < 2) : schedFail m = none := by simp only [schedFail, h, if_true]

theorem schedLockFail_none {m : Mach} (h : SchedLockable m) : schedLockFail m = none := by
  obtain ⟨hlen, h01, h12, h23, hfirst, hgap, hend, hup, hdown, hsched⟩ := h
  have hplan : planFail m = none := by
    simp [planFail, hlen, h01, h12, h23, hup, hdown, Nat.not_lt.2 hfirst, Nat.not_lt.2 hgap, Nat.not_lt.2 hend]
  have hfail : schedFail m = none := hsched.elim schedFail_small id
  simp only [schedLockFail, hplan, hfail, Option.map_none]

/-! ## Each lock where its check passes -/

section
variable {m : Mach}

theorem setCfgLock_sets (h : m.locks.cfg = false) (hok : CfgLockable m) : setCfgLock m = (locked m { m.locks with cfg := true }, E_OK) := by
  rw [setCfgLock, h, cfgLockFail_none hok]; exact setLock_sets

theorem setCfgLock_noModel (h : m.locks.cfg = false) (hm : m.mould.loaded = false) :
    setCfgLock m = (logNode m E_SYS_NO_MODEL 0, E_SYS_NO_MODEL) := by
  rw [setCfgLock, h, cfgLockFail_noModel hm]; exact setLock_fails

theorem setLimitLock_sets (h : m.locks.lim = false) (hc : m.locks.cfg = true) (hok : LimitLockable m) :
    setLimitLock m = (locked m { m.locks with lim := true }, E_OK) := by
  rw [setLimitLock, h, hc, limitLockFail_none hok]; exact setLock_sets

theorem setSchedLock_sets (h : m.locks.sch = false) (hl : m.locks.lim = true) (hok : SchedLockable m) :
    setSchedLock m = (flag (locked m { m.locks with sch := true }) TIME_PHASE_STAT_PLAN_VALID, E_OK) := by
  rw [setSchedLock, h, hl, schedLockFail_none hok, setLock_sets]
  exact Prod.ext (if_pos (by rw [locked_locks])) rfl

theorem setSchedLock_already (h : m.locks.sch = true) : setSchedLock m = (flag m TIME_PHASE_STAT_PLAN_VALID, E_OK) := by
  rw [setSchedLock, h, setLock_already]
  exact Prod.ext (if_pos h) rfl

theorem setSchedLock_outOfOrder (h : m.locks.sch = false) (hl : m.locks.lim = false) : (setSchedLock m).1 = logNode m E_SYS_LOCK_ORDER 0 := by
  rw [setSchedLock, h, hl, setLock_outOfOrder]
  have hlocks : (logNode m E_SYS_LOCK_ORDER 0).locks.sch = false := by rw [logNode, (report_reported ..).locks, h]
  simp [hlocks]

end

/-! ## What a lock that is set leaves to the later checks -/

/-- Of what the checks of LIMIT_LOCK and SCHED_LOCK read, nothing differs from `m` to `m'`: of the registers, at most those of a report have
changed. -/
structure ChecksKept (m m' : Mach) : Prop where
  mould : m'.mould = m.mould
  twi : m'.twi = m.twi
  sched : m'.sched = m.sched
  fields : FieldsBut (· ∈ reportKeys) m m'

/-- The notice of a lock is held, and does nothing else. -/
theorem locked_checksKept (m : Mach) (l : Locks) : ChecksKept m (locked m l) := by
  have hset : FieldsBut (· ∈ reportKeys) m { m with locks := l } := .of_regs rfl
  have hfields : FieldsBut (· ∈ reportKeys) m (locked m l) := by rw [locked, notice]; exact hset.trans (report_fieldsBut _ _ _ _ _ _ _)
  have hrep : Reported { m with locks := l } (locked m l) := by rw [locked, notice]; exact report_reported ..
  obtain ⟨⟨_, _, _, _, hrest⟩, -⟩ := hrep
  exact ⟨by rw [hrest], by rw [hrest], by rw [hrest], hfields⟩

namespace ChecksKept
variable {m m' : Mach} (h : ChecksKept m m')
include h

/-- Registers above those of HIF read as before. -/
theorem high {g : Fld} (hg : 2 ≤ g.blk) (j : Nat) : getF m' g j = getF m g j := by
  refine h.fields g j fun hk => absurd (reportKeys_low _ hk) ?_
  simp only [Fld.key, Fld.addr]
  omega

theorem isManager : Machine.isManager m' = Machine.isManager m := congrArg (· == 1) (h.fields _ 0 (by decide))
theorem nodeId : Machine.nodeId m' = Machine.nodeId m := h.fields _ 0 (by decide)

theorem feature (b : Nat) : Machine.feature m' b = Machine.feature m b := h.fields.feature (by decide) (by decide) (by decide) b

theorem configuredSlots : Machine.configuredSlots m' = Machine.configuredSlots m := by
  simp only [Machine.configuredSlots, slotAxis, h.mould, h.nodeId]

theorem limitLockable (hok : LimitLockable m) : LimitLockable m' := by
  simp only [LimitLockable, h.configuredSlots, h.high (show 2 ≤ PWR_PEAK_TRIP_THR.blk by decide), h.high (show 2 ≤ PWR_MAX_DUTY_MAX.blk by decide),
    h.high (show 2 ≤ PWR_DT_LIM_DT_FLOOR.blk by decide), h.high (show 2 ≤ PWR_DT_LIM_DT_CEIL.blk by decide),
    h.high (show 2 ≤ TIME_OUT_RLIM_USED.blk by decide), h.high (show 2 ≤ TIME_OUT_RLIM_RLIM.blk by decide)]
  exact hok

theorem cycleLen : getF m' TIME_CYCLE_CFG_LEN = getF m TIME_CYCLE_CFG_LEN := h.high (by decide) 0

theorem planWritten : Machine.planWritten m' = Machine.planWritten m := by
  have hcustom : onF m' TIME_CYCLE_CFG_PLAN_CUSTOM = onF m TIME_CYCLE_CFG_PLAN_CUSTOM := congrArg (· == 1) (h.high (by decide) 0)
  rw [Machine.planWritten, hcustom, h.cycleLen, h.high (show 2 ≤ TIME_PHASE_1_START.blk by decide),
    h.high (show 2 ≤ TIME_PHASE_2_START.blk by decide), h.high (show 2 ≤ TIME_PHASE_3_START.blk by decide),
    h.high (show 2 ≤ TIME_PHASE_4_START.blk by decide)]
  rfl

theorem lenUsable (code : Nat) : Machine.lenUsable m' code = Machine.lenUsable m code := by
  simp only [Machine.lenUsable, h.feature, h.isManager, h.mould]

theorem onPart : Machine.onPart m' = Machine.onPart m := by simp only [Machine.onPart, h.isManager, h.mould]
theorem lineWorkers (l : Nat) : Machine.lineWorkers m' l = Machine.lineWorkers m l := by simp only [Machine.lineWorkers, h.mould]
theorem axesOn (n : Nat) : Machine.axesOn m' n = Machine.axesOn m n := by simp only [Machine.axesOn, h.mould]
theorem masterPorts (n : Nat) : Machine.masterPorts m' n = Machine.masterPorts m n := by simp only [Machine.masterPorts, h.mould]

theorem linePos (l : Nat) : Machine.linePos m' l = Machine.linePos m l := by
  simp only [Machine.linePos, h.lineWorkers, h.onPart, h.twi, h.mould]

theorem hopsOf (l p : Nat) : Machine.hopsOf m' l p = Machine.hopsOf m l p := by simp only [Machine.hopsOf, h.linePos, h.mould]

theorem lineBound (bytes : NodeRec → Nat) (len : Nat) : Machine.lineBound m' bytes len = Machine.lineBound m bytes len := by
  simp only [Machine.lineBound, h.lineWorkers, h.axesOn, h.masterPorts, h.hopsOf]

theorem upBytes : Machine.upBytes m' = Machine.upBytes m := by
  funext n; simp only [Machine.upBytes, h.axesOn, h.masterPorts]

theorem downBytes : Machine.downBytes m' = Machine.downBytes m := by
  funext n; simp only [Machine.downBytes, h.axesOn, gevOf, h.sched]

theorem modeClass (k : Nat) : Machine.modeClass m' k = Machine.modeClass m k := by
  simp only [Machine.modeClass, h.high (show 2 ≤ TWI_MODE_CLASS_CLASS.blk by decide)]

theorem phaseOf (p : List Nat) (kind : Nat) : Machine.phaseOf m' p kind = Machine.phaseOf m p kind := by
  unfold Machine.phaseOf
  rw [h.cycleLen]

theorem windowsOk (p : List Nat) (ns : List (Nat × Nat)) (d : Nat) (e : SchedEnt) :
    Machine.windowsOk m' p ns d e = Machine.windowsOk m p ns d e := by
  simp only [Machine.windowsOk, h.phaseOf]

theorem addressee (e : SchedEnt) : Machine.addressee m' e = Machine.addressee m e := by
  simp only [Machine.addressee, h.onPart, h.linePos, h.mould]

theorem lengthOk (e : SchedEnt) : Machine.lengthOk m' e = Machine.lengthOk m e := by
  simp only [Machine.lengthOk, h.onPart, h.nodeId, h.axesOn, h.masterPorts, h.addressee]

theorem witnessOk (p : List Nat) (ns : List (Nat × Nat)) (d : Nat) (es : List SchedEnt) :
    Machine.witnessOk m' p ns d es = Machine.witnessOk m p ns d es := by
  simp only [Machine.witnessOk, h.cycleLen, h.windowsOk]

theorem lineOn (l : Nat) : onF m' TWI_LINE_CFG_EN (localLine m' l) = onF m TWI_LINE_CFG_EN (localLine m l) := by
  simp only [localLine, onF, h.isManager, h.high (show 2 ≤ TWI_LINE_CFG_EN.blk by decide)]

theorem modeFail (k : Nat) : Machine.modeFail m' k = Machine.modeFail m k := by
  simp only [Machine.modeFail, h.planWritten, h.sched, h.lineOn, h.linePos, h.nodeId, h.mould, h.modeClass, funext h.lengthOk, h.windowsOk, h.lineWorkers,
    h.axesOn, h.masterPorts, h.addressee, h.witnessOk]

theorem schedFail : Machine.schedFail m' = Machine.schedFail m := by
  simp only [Machine.schedFail, h.mould, h.modeClass, h.modeFail, h.high (show 2 ≤ TWI_SU_CFG_START_MODE.blk by decide)]

theorem schedLockable (hok : SchedLockable m) : SchedLockable m' := by
  simp only [SchedLockable, h.planWritten, h.lenUsable, h.cycleLen, h.lineBound, h.upBytes, h.downBytes, h.mould, h.schedFail]
  exact hok

end ChecksKept

/-! ## The locks asked for together (04 R137) -/

theorem setLocks_zero (m : Mach) : setLocks 0 m = (m, E_OK) := rfl
theorem setLocks_one (m : Mach) : setLocks 1 m = setCfgLock m := rfl
theorem setLocks_two (m : Mach) : setLocks 2 m = setLimitLock m := rfl
theorem setLocks_four (m : Mach) : setLocks 4 m = setSchedLock m := rfl

/-- All three, where the first two are set. -/
theorem setLocks_seven {m m₁ m₂ : Mach} (h₁ : setCfgLock m = (m₁, E_OK)) (h₂ : setLimitLock m₁ = (m₂, E_OK)) :
    setLocks 7 m = setSchedLock m₂ := by
  simp [setLocks, h₁, h₂, E_OK, Nat.testBit]

/-- All three, where the first one fails. -/
theorem setLocks_seven_fails {m m₁ : Mach} {code : Nat} (h : setCfgLock m = (m₁, code)) (hc : code ≠ 0) : setLocks 7 m = (m₁, code) := by
  simp [setLocks, h, hc, E_OK]

/-- SET_LOCK ends with the status of the locks that its mask asks for, and the locks as they then stand. -/
theorem setLock_ends {j : Job} {s : State} (hj : JobRuns 0x0002 j s.m) {mask status : Nat} {m' : Mach} (hp : j.desc.par 0 = mask)
    (hmask : mask < 8) (h : setLocks mask s.m = (m', status)) :
    exec (.setLock j) s = jobEnds s 0x0002 j m' status (lockWord m'.locks) none := by
  rw [exec_setLock]
  refine job_ends hj ?_
  have hpar : (asJob 0x0002 j).desc.par 0 % 8 = mask := by rw [show (asJob 0x0002 j).desc.par 0 = mask from hp, Nat.mod_eq_of_lt hmask]
  rw [setLockJob, hpar, h]

/-! ## The statement -/

/-- Settles O29: one lock by `setLock` in its branches, the three together since a lock that is set leaves the checks of the later ones
(`ChecksKept`). -/
theorem locksAreSetInOrder : Obligations.LocksAreSetInOrder := by
  intro j s m len p cfgOk limOk schOk set valid lc ll ls
  refine ⟨fun h hok => ?_, fun h hc hok => ?_, fun h hl hok => ?_, fun h => ?_, fun h => ?_, fun h => ?_, fun h hm => ?_, fun h hc => ?_,
    fun h hl => ?_, fun hj => ⟨fun hp => ?_, fun hp h hok => ?_, fun hp hc h hok => ?_, fun hp hl h hok => ?_,
      fun hp hnone hcfg hlim hsch => ?_, fun hp hnone hm => ?_⟩⟩
  · exact (exec_cfgLockSet s).trans (done_eq (congrArg Prod.fst (setCfgLock_sets h hok)))
  · exact (exec_limitLockSet s).trans (done_eq (congrArg Prod.fst (setLimitLock_sets h hc hok)))
  · exact (exec_schedLockSet s).trans (done_eq (congrArg Prod.fst (setSchedLock_sets h hl hok)))
  · exact (exec_cfgLockSet s).trans (done_same (by rw [setCfgLock, show s.m.locks.cfg = true from h, setLock_already]))
  · exact (exec_limitLockSet s).trans (done_same (by rw [setLimitLock, show s.m.locks.lim = true from h, setLock_already]))
  · exact (exec_schedLockSet s).trans (done_eq (congrArg Prod.fst (setSchedLock_already h)))
  · exact (exec_cfgLockSet s).trans (done_eq (congrArg Prod.fst (setCfgLock_noModel h hm)))
  · refine (exec_limitLockSet s).trans (done_eq ?_)
    rw [setLimitLock, show s.m.locks.lim = false from h, show s.m.locks.cfg = false from hc, setLock_outOfOrder]
  · exact (exec_schedLockSet s).trans (done_eq (setSchedLock_outOfOrder h hl))
  · exact setLock_ends hj hp (by decide) (setLocks_zero m)
  · rw [setLock_ends hj hp (by decide) ((setLocks_one m).trans (setCfgLock_sets h hok)), locked_locks]
    rfl
  · rw [setLock_ends hj hp (by decide) ((setLocks_two m).trans (setLimitLock_sets h hc hok)), locked_locks]
    rfl
  · rw [setLock_ends hj hp (by decide) ((setLocks_four m).trans (setSchedLock_sets h hl hok)), flag_locked_locks]
    rfl
  · have hk₁ := locked_checksKept m { cfg := true }
    have hk₂ := locked_checksKept (locked m { cfg := true }) { cfg := true, lim := true }
    have h₁ : setCfgLock m = (locked m { cfg := true }, E_OK) := by rw [setCfgLock_sets (by rw [hnone]) hcfg, hnone]
    have h₂ : setLimitLock (locked m { cfg := true }) = (locked (locked m { cfg := true }) { cfg := true, lim := true }, E_OK) := by
      rw [setLimitLock_sets (by rw [locked_locks]) (by rw [locked_locks]) (hk₁.limitLockable hlim), locked_locks]
    have h₃ := (setLocks_seven h₁ h₂).trans
      (setSchedLock_sets (by rw [locked_locks]) (by rw [locked_locks]) (hk₂.schedLockable (hk₁.schedLockable hsch)))
    rw [setLock_ends hj hp (by decide) h₃, flag_locked_locks, locked_locks]
    rfl
  · have hfail : setLocks 7 m = (logNode m E_SYS_NO_MODEL 0, E_SYS_NO_MODEL) :=
      setLocks_seven_fails (setCfgLock_noModel (by rw [hnone]) hm) (by decide)
    rw [setLock_ends hj hp (by decide) hfail, logNode, (report_reported ..).locks, hnone]
    rfl

end Sys2Proof.Machine
end

section
/-! PROOFS. Cell cycles and their phases (02 R56 to R64, R678): what the end of a cycle leaves, and the statement. -/

namespace Sys2Proof.Machine

/-! ## The commands of this statement -/

theorem exec_cycleBoundary (s : State) : exec .cycleBoundary s = done cycleBoundary s := rfl
theorem exec_cycleLengthChange (s : State) : exec .cycleLengthChange s = done cycleLengthChange s := rfl
theorem exec_phaseP1Start (s : State) : exec .phaseP1Start s = done (fun m => if phased m then phaseStart 1 m else m) s := rfl
theorem exec_phaseP3Start (s : State) : exec .phaseP3Start s = done (fun m => if phased m then pairP3 (phaseStart 3 m) else m) s := rfl
theorem exec_phaseP4Start (s : State) : exec .phaseP4Start s = done (fun m => if phased m then pairP4 (twiP4 (phaseStart 4 m)) else m) s := rfl
theorem exec_commitDeadline (s : State) : exec .commitDeadline s = done commitAtDeadline s := rfl

/-! ## What the blocks do as a cycle ends -/

/-- The registers that the end of a cycle may write: those of a report, and any beyond HIF and below the one of the test units in effect, but
for the cycle length. -/
abbrev cycleEndKey (k : Nat) : Prop := k ∈ reportKeys ∨ (0x40020000 * 32 ≤ k ∧ k < TEST_STAT_ACTIVE.key 0 ∧ k ≠ TIME_CYCLE_CFG_LEN.key 0)

theorem cycleEndKey_of_irq {k : Nat} (h : k ∈ irqKeys) : cycleEndKey k := by
  obtain ⟨hlo, hhi⟩ := irqKeys_intc k h
  refine .inr ⟨hlo, ?_, ?_⟩
  · simp only [Fld.key, Fld.addr, TEST_STAT_ACTIVE]; omega
  · simp only [Fld.key, Fld.addr, TIME_CYCLE_CFG_LEN]; omega

/-- A field of the block LADLE. -/
theorem cycleEndKey_of_ladle {f : Fld} {i : Nat} (hb : f.blk = 3) (hi : f.off + f.stride * i < 0x10000) (hl : f.lsb < 32) : cycleEndKey (f.key i) := by
  refine .inr ⟨?_, ?_, ?_⟩
  · simp only [Fld.key, Fld.addr, hb]; omega
  · simp only [Fld.key, Fld.addr, hb, TEST_STAT_ACTIVE]; omega
  · simp only [Fld.key, Fld.addr, hb, TIME_CYCLE_CFG_LEN]; omega

/-- The set-up registers of the timed outputs (14 R433). -/
def outputFields : List Fld :=
  [TIME_OUT_CFG_MODE, TIME_OUT_CFG_POL, TIME_OUT_CFG_GROUP, TIME_OUT_CFG_ORDER, TIME_OUT_CFG_OWNER, TIME_OUT_START_LO_START,
   TIME_OUT_START_HI_START, TIME_OUT_PERIOD_TICKS, TIME_OUT_WIDTH_TICKS, TIME_OUT_CNT_PULSES]

theorem outputFields_place : ∀ f ∈ outputFields, f.blk = 11 ∧ 0x400 ≤ f.off ∧ f.off < 0x420 ∧ f.stride = 0x20 ∧ f.lsb < 32 := by decide

/-- They lie above the cycle length. -/
theorem cycleEndKey_of_output {f : Fld} (hf : f ∈ outputFields) {o : Nat} (ho : o < 8) : cycleEndKey (f.key o) := by
  obtain ⟨hb, hlo, hhi, hs, hl⟩ := outputFields_place f hf
  refine .inr ⟨?_, ?_, ?_⟩
  · simp only [Fld.key, Fld.addr, hb]; omega
  · simp only [Fld.key, Fld.addr, hb, hs, TEST_STAT_ACTIVE]; omega
  · simp only [Fld.key, Fld.addr, hb, hs, TIME_CYCLE_CFG_LEN]; omega

/-- What the model says about cycle lengths. -/
def lengthModel (m : Mach) : Bool × Nat × Nat := (m.mould.loaded, m.mould.features, m.mould.cellLen)

/-- Of what a cycle begins by, nothing differs from `m` to `m'`: memory, locks, cell time and cycle, a pending switch of the domain, what the
model says about lengths, the registers outside those above. -/
structure CycleKeeps (m m' : Mach) : Prop where
  mem : m'.mem = m.mem
  locks : m'.locks = m.locks
  cyc : m'.cyc = m.cyc
  target : m'.time.target = m.time.target
  model : lengthModel m' = lengthModel m
  fields : FieldsBut cycleEndKey m m'

namespace CycleKeeps
variable {m m' m'' : Mach}

theorem refl : CycleKeeps m m := ⟨rfl, rfl, rfl, rfl, rfl, .refl⟩

theorem trans (h : CycleKeeps m m') (h' : CycleKeeps m' m'') : CycleKeeps m m'' :=
  ⟨h'.mem.trans h.mem, h'.locks.trans h.locks, h'.cyc.trans h.cyc, h'.target.trans h.target, h'.model.trans h.model, h.fields.trans h'.fields⟩

theorem ite {c : Prop} [Decidable c] {a b : Mach} (ha : CycleKeeps m a) (hb : CycleKeeps m b) : CycleKeeps m (if c then a else b) := by
  split
  · exact ha
  · exact hb

theorem foldl {α : Type} {f : Mach → α → Mach} {l : List α} (h : ∀ x ∈ l, ∀ m, CycleKeeps m (f m x)) (m : Mach) : CycleKeeps m (l.foldl f m) :=
  foldl_related (R := CycleKeeps) (fun _ => refl) trans h m

/-- A register of the end of a cycle written. -/
theorem setF (h : CycleKeeps m m') {f : Fld} {i v : Nat} (hf : cycleEndKey (f.key i)) : CycleKeeps m (setF m' f i v) :=
  h.trans ⟨rfl, rfl, rfl, rfl, rfl, .setF v hf⟩

theorem report (h : CycleKeeps m m') {code cls kind id detail index : Nat} : CycleKeeps m (report m' code cls kind id detail index) := by
  have hf := (report_fieldsBut m' code cls kind id detail index).mono fun k hk => (Or.inl hk : cycleEndKey k)
  obtain ⟨⟨_, _, _, _, heq⟩, -⟩ := report_reported m' code cls kind id detail index
  exact h.trans ⟨by rw [heq], by rw [heq], by rw [heq], by rw [heq], by rw [heq]; rfl, hf⟩

theorem irq (h : CycleKeeps m m') {k : Nat} : CycleKeeps m (irq m' k) :=
  h.trans ⟨irq_mem .., irq_locks .., irq_cyc .., by rw [irq_time], by rw [lengthModel, irq_mould]; rfl, (irq_fieldsBut m' k).mono fun _ => cycleEndKey_of_irq⟩

/-- What TWI keeps changed. -/
theorem onTwi (h : CycleKeeps m m') {x : TwiSt} : CycleKeeps m { m' with twi := x } := h.trans ⟨rfl, rfl, rfl, rfl, rfl, .of_regs rfl⟩

end CycleKeeps

/-! ### The measurement of the cycle (13 R396 to R398) -/

theorem twiNote_keeps (m : Mach) (code : Nat) (det : Int) : CycleKeeps m (twiNote m code det) := .ite (.report .refl) (.report .refl)

theorem setTwiState_keeps (m : Mach) (st : Nat) : CycleKeeps m (setTwiState m st) := by
  have hset : CycleKeeps m (setF m TWI_STATUS_STATE 0 st) := .setF .refl (.inr (by decide))
  exact .ite .refl hset.irq

theorem enterPassive_keeps (m : Mach) (det : Int) : CycleKeeps m (enterPassive m det) := by
  have hcount : CycleKeeps m (incF { m with twi := { m.twi with outSince := some m.cyc.n, good := 0 } } TWI_PASSIVE_CNT_CNT 0 1) :=
    .setF (.onTwi .refl) (.inr (by decide))
  exact (hcount.trans (setTwiState_keeps _ 7)).trans (twiNote_keeps ..)

theorem correct_keeps (m : Mach) (dq : Option Int) : CycleKeeps m (correct m dq) := by
  have hkey : cycleEndKey (TWI_SYNC_RATE_RATE.key 0) := .inr (by decide)
  have hloop : ∀ (x : TwiSt) (y : Option Int), CycleKeeps m { m with twi := x, time := { m.time with yNext := y } } := fun _ _ =>
    ⟨rfl, rfl, rfl, rfl, rfl, .of_regs rfl⟩
  exact .setF (hloop _ _) hkey

theorem putDev_keeps (m : Mach) (dq : Int) : CycleKeeps m (putDev m dq) := .setF (.setF .refl (.inr (by decide))) (.inr (by decide))

theorem measure_keeps (m : Mach) (dq rate : Int) : CycleKeeps m (measure m dq rate) := by
  have hdev : CycleKeeps m (putDev (correct { m with twi := { m.twi with rate := rate, missMeas := 0 } } (some dq)) dq) :=
    (CycleKeeps.onTwi .refl).trans ((correct_keeps ..).trans (putDev_keeps ..))
  exact .ite (hdev.trans (enterPassive_keeps ..)) (.ite (.onTwi hdev) hdev)

/-- The end of a cycle for the measurement. -/
theorem measureEnd_keeps (m : Mach) : CycleKeeps m (measureEnd m) := by
  unfold measureEnd
  refine .ite (.onTwi .refl) (.onTwi ?_)
  split
  · exact .refl
  · exact (CycleKeeps.setF .refl (.inr (by decide))).trans (measure_keeps ..)
  · exact (CycleKeeps.onTwi .refl).trans (correct_keeps ..)

/-! ### The loads of the cores (18 R529) -/

theorem ladleBoundary_keeps (m : Mach) (t : Nat) : CycleKeeps m (ladleBoundary m t) := by
  unfold ladleBoundary
  extract_lets l len nowBusy push past total share m₁ m₂ on
  have h₁ : CycleKeeps m m₁ := ⟨rfl, rfl, rfl, rfl, rfl, .of_regs rfl⟩
  have h₂ : CycleKeeps m₁ m₂ := .foldl (fun c hc m => .setF .refl (cycleEndKey_of_ladle rfl (by
    have := List.mem_range.1 hc
    simp only [LADLE_CORE_LOAD_LOAD]; omega) (by decide))) m₁
  exact .setF (h₁.trans h₂) (cycleEndKey_of_ladle rfl (by decide) (by decide))

/-! ### The timed outputs (14 R423 to R428) -/

theorem setOut_keeps (m : Mach) (o : Nat) (x : OutSt) : CycleKeeps m (setOut m o x) := ⟨rfl, rfl, rfl, rfl, rfl, .of_regs rfl⟩

theorem release_keeps (m : Mach) (func kind inst : Nat) : CycleKeeps m (release m func kind inst) := ⟨rfl, rfl, rfl, rfl, rfl, .of_regs rfl⟩

theorem setOwner_keeps (m : Mach) {o : Nat} (ho : o < 8) (owner : Nat) (pol : Bool) (t : Nat) : CycleKeeps m (setOwner m o owner pol t) := by
  have hset : CycleKeeps m (setB (setF m TIME_OUT_CFG_OWNER o owner) TIME_OUT_CFG_POL o pol) :=
    .setF (.setF .refl (cycleEndKey_of_output (by decide) ho)) (cycleEndKey_of_output (by decide) ho)
  exact .ite hset (hset.trans (setOut_keeps ..))

theorem releaseOut_keeps (m : Mach) {o : Nat} (ho : o < 8) (t : Nat) : CycleKeeps m (releaseOut m o t) :=
  .irq ((((release_keeps ..).trans (release_keeps ..)).trans (setOwner_keeps _ ho ..)).trans (setOut_keeps ..))

theorem settleOuts_keeps (m : Mach) : CycleKeeps m (settleOuts m) :=
  .foldl (fun _ ho m => .ite (releaseOut_keeps m (List.mem_range.1 ho) _) .refl) m

theorem applyOut_keeps (m : Mach) {o : Nat} (ho : o < 8) (c : OutSet) (t : Nat) : CycleKeeps m (applyOut m o c t) := by
  have hkey : ∀ f ∈ outputFields, cycleEndKey (f.key o) := fun f hf => cycleEndKey_of_output hf ho
  unfold applyOut
  refine .ite (.ite ((setOut_keeps ..).trans (settleOuts_keeps _)) (setOut_keeps ..)) ?_
  refine .setF (.setF (.setF (.setF (.setF (.setF (.setF (.setF ((setOut_keeps ..).trans (setOwner_keeps _ ho ..)) ?_) ?_) ?_) ?_) ?_) ?_) ?_) ?_ <;>
    exact hkey _ (by decide)

theorem outsBoundary_keeps (m : Mach) : CycleKeeps m (outsBoundary m) := by
  refine .trans (.foldl (fun _ ho m => ?_) m) (settleOuts_keeps _)
  split
  · exact .ite (applyOut_keeps m (List.mem_range.1 ho) ..) .refl
  · exact .refl

/-! ### TIME at a boundary (14 R410, R417) -/

/-- What TIME does at a boundary while no switch of the domain is pending. -/
theorem timeBoundary_keeps {m : Mach} (h : m.time.target = none) (ticks : Nat) : CycleKeeps m (timeBoundary m ticks) := by
  unfold timeBoundary
  extract_lets t m₁ m₂
  have h₁ : CycleKeeps m m₁ := ⟨rfl, rfl, rfl, rfl, rfl, .of_regs rfl⟩
  have h₂ : CycleKeeps m₁ m₂ := by
    unfold m₂
    split
    · have hrate : ∀ y, CycleKeeps m₁ (setS m₁ TIME_RATE_Y 0 y) := fun y => .setF .refl (.inr (by decide))
      exact .ite (hrate _) ((hrate _).trans ⟨rfl, rfl, rfl, rfl, rfl, .of_regs rfl⟩)
    · exact .refl
  have hswitch : switchDomain m₂ = m₂ := by
    have htarget : m₂.time.target = none := h₂.target.trans h
    rw [switchDomain, htarget]
  rw [hswitch]
  exact (h₁.trans h₂).trans (outsBoundary_keeps _)

/-- A boundary that unit TIME does not count leaves cell time and its rate. -/
theorem testTime_off {m : Mach} (h : unitOn m uTIME = false) (servo : Bool) :
    (testTime servo m).cyc = m.cyc ∧ (testTime servo m).mem = m.mem ∧ (testTime servo m).locks = m.locks := by
  have hev : testEvent m uTIME = (false, m) := if_pos (by simp [h])
  refine ⟨?_, ?_, ?_⟩ <;> rw [testTime, hev]
  · change { m.cyc with now := ((m.cyc.now : Int) + 0).toNat } = m.cyc
    rw [Int.add_zero, Int.toNat_natCast]
  · rfl
  · rfl

/-! ## The next cycle (02 R56, R61, R678) -/

/-- A length that is due stays due. -/
theorem CycleKeeps.lenDue {m m' : Mach} (h : CycleKeeps m m') (t : Nat) : lenDue m' t = lenDue m t := by
  have hlen : getF m' TIME_CYCLE_CFG_LEN = getF m TIME_CYCLE_CFG_LEN := h.fields _ 0 (by decide)
  have hrole : isManager m' = isManager m := congrArg (· == 1) (h.fields SYS_STRAP_ROLE 0 (by decide))
  have hfeat : feature m' 15 = feature m 15 := h.fields.feature (by decide) (by decide) (by decide) 15
  have hloaded : m'.mould.loaded = m.mould.loaded := congrArg Prod.fst h.model
  have hfeatures : m'.mould.features = m.mould.features := congrArg (·.2.1) h.model
  have hcell : m'.mould.cellLen = m.mould.cellLen := congrArg (·.2.2) h.model
  have husable : ∀ c, lenUsable m' c = lenUsable m c := fun c => by simp only [lenUsable, hfeat, hrole, hloaded, hfeatures, hcell]
  rw [Machine.lenDue, Machine.lenDue, hlen, h.cyc, husable]

/-- The cycle that begins at tick `t` with a length code. -/
def cycleFrom (c : CycSt) (t code : Nat) : CycSt :=
  { c with now := max c.now t, n := t / lenTicks code, start := t, lenCode := code, skip := false, snapped := false, committed := false }

/-- The plan that governs changes the custom plan of the cycle alone. -/
theorem takePlan_cyc (m : Mach) : ∃ b l, (takePlan m).cyc = { m.cyc with custom := b, starts := l } := ⟨_, _, rfl⟩
theorem takePlan_mem (m : Mach) : (takePlan m).mem = m.mem := rfl
theorem takePlan_locks (m : Mach) : (takePlan m).locks = m.locks := rfl
theorem takePlan_time (m : Mach) : (takePlan m).time = m.time := rfl

theorem takePlan_fieldsBut (m : Mach) : FieldsBut cycleEndKey m (takePlan m) :=
  .trans (.of_regs rfl) (.setF _ (.inr (by decide)))

/-- The next cycle begins at its tick, with the length that is due. -/
theorem nextCycle_begins {m : Mach} (htarget : m.time.target = none) (hunit : unitOn m uTIME = false) :
    ∃ b l, (nextCycle m).cyc =
        { cycleFrom m.cyc (nextStart m) ((lenDue m (nextStart m)).getD m.cyc.lenCode) with custom := b, starts := l } ∧
      (nextCycle m).mem = m.mem ∧ (nextCycle m).locks = m.locks := by
  unfold nextCycle
  extract_lets m₁ t ticks servo m₂ code c₂ m₃
  have h₁ : CycleKeeps m m₁ := measureEnd_keeps m
  have h₂ : CycleKeeps m m₂ := h₁.trans (ladleBoundary_keeps m₁ t)
  clear_value m₂ m₁
  have ht : t = nextStart m := by simp only [t, nextStart, cycLen, h₁.cyc]
  have hcode : code = (lenDue m (nextStart m)).getD m.cyc.lenCode := by simp only [code, h₂.lenDue, h₂.cyc, ht]
  have hcyc₃ : m₃.cyc = cycleFrom m.cyc (nextStart m) ((lenDue m (nextStart m)).getD m.cyc.lenCode) := by
    simp only [m₃, c₂, hcode, ht, h₂.cyc, cycleFrom]
  have hmem₃ : m₃.mem = m.mem := h₂.mem
  have hlocks₃ : m₃.locks = m.locks := h₂.locks
  have htarget₃ : m₃.time.target = none := h₂.target.trans htarget
  have hfields₃ : FieldsBut cycleEndKey m m₃ := h₂.fields.trans (.of_regs rfl)
  clear_value m₃ ticks servo
  have htarget₄ : (takePlan m₃).time.target = none := by rw [takePlan_time]; exact htarget₃
  have h₄ := timeBoundary_keeps htarget₄ ticks
  have hoff : unitOn (timeBoundary (takePlan m₃) ticks) uTIME = false := by
    have hactive : getF (timeBoundary (takePlan m₃) ticks) TEST_STAT_ACTIVE = getF m TEST_STAT_ACTIVE :=
      (hfields₃.trans ((takePlan_fieldsBut m₃).trans h₄.fields)) _ 0 (by decide)
    rw [unitOn, hactive]; exact hunit
  obtain ⟨hcyc, hmem, hlocks⟩ := testTime_off hoff servo
  obtain ⟨b, l, hplan⟩ := takePlan_cyc m₃
  refine ⟨b, l, ?_, ?_, ?_⟩
  · rw [hcyc, h₄.cyc, hplan, hcyc₃]
  · rw [hmem, h₄.mem, takePlan_mem, hmem₃]
  · rw [hlocks, h₄.locks, takePlan_locks, hlocks₃]

/-! ## Boundaries -/

section
variable {m : Mach}

/-- In reset, and on a worker that has not integrated yet, no cycle begins. -/
theorem cycleBoundary_stopped (h : m.sys.inReset = true ∨ cycleStopped m = true) : cycleBoundary m = m ∧ cycleLengthChange m = m := by
  have hstop : (m.sys.inReset || cycleStopped m) = true := by simpa using h
  exact ⟨if_pos hstop, if_pos (by simp [hstop])⟩

variable (hr : m.sys.inReset = false) (hc : cycleStopped m = false)
include hr hc

theorem cycleBoundary_begins (hpre : m.cyc.pre = false) : cycleBoundary m = boundaryActions (nextCycle m) := by
  simp [cycleBoundary, hr, hc, hpre]

theorem cycleBoundary_rest (hpre : m.cyc.pre = true) :
    cycleBoundary m = boundaryActions { m with cyc := { m.cyc with pre := false } } := by
  simp [cycleBoundary, hr, hc, hpre]

theorem cycleLengthChange_begins (hpre : m.cyc.pre = false) (hdue : lenDue m (nextStart m) ≠ none) :
    cycleLengthChange m = { nextCycle m with cyc := { (nextCycle m).cyc with pre := true } } := by
  simp [cycleLengthChange, hr, hc, hpre, hdue]

end

/-- The source of a boundary is raised. -/
theorem mem_boundaryActions (m : Mach) : 16 ∈ (boundaryActions m).intc.pend := by
  unfold boundaryActions
  extract_lets
  exact mem_irq _ 16

/-- Without a length that is due nothing changes. -/
theorem cycleLengthChange_none {m : Mach} (h : lenDue m (nextStart m) = none) : cycleLengthChange m = m := by simp [cycleLengthChange, h]

/-! ## Phase starts (02 R57, R62, R64) -/

/-- Whether the manager is in a pair is as before a phase started. -/
theorem inPair_phaseStart (k : Nat) (m : Mach) : inPair (phaseStart k m) = inPair m := inPair_irq ..

/-- P3 outside a pair. -/
theorem pairP3_alone {m : Mach} (h : inPair m = false) : pairP3 m = { m with duo := { m.duo with digGot := false, digMiss := 0 } } := by
  rw [pairP3, if_pos (by simp [h])]; rfl

/-- P4 with no exchange of modes and no swap in progress. -/
theorem p4_idle {m : Mach} (hx : m.twi.exch = none) (hs : m.duo.swapA = none) (hw : m.duo.want = false) : pairP4 (twiP4 m) = m := by
  rw [twiP4, hx, pairP4, hs]
  simp [hw]

/-- The deadline of a commit where there is nothing to commit and no graph is open. -/
theorem commitAtDeadline_idle {m : Mach} (hp : phased m = true) (h : m.run.stage = 0 ∨ m.run.stage = 4 ∨ m.cyc.committed = true)
    (hl : m.ladle.isOpen = false) : commitAtDeadline m = irq (at' m (commitDeadline m)) 22 := by
  have hdue : (!m.cyc.committed && m.run.stage != 0 && m.run.stage != 4) = false := by
    rcases h with h | h | h <;> simp [h]
  simp only [commitAtDeadline, hp, irq_cyc, irq_run, at_run, hdue, show (at' m (commitDeadline m)).cyc.committed = m.cyc.committed from rfl]
  simp [graphClose, hl]

/-! ## The statement -/

/-- Settles O45: what the blocks do as a cycle ends leaves what the next one begins by (`CycleKeeps`), so it begins as `nextCycle_begins` says;
the phases by their branches. -/
theorem cyclesAndPhasesBegin : Obligations.CyclesAndPhasesBegin := by
  intro k s _ _ m t code begins starts
  have keeps {c : Instr} {g : Mach → Mach} (hc : exec c s = done g s) (h : g m = m) : exec c s = .next s := hc.trans (done_same h)
  refine ⟨fun h => ?_, fun hr hc htarget hunit => ?_, fun hpre hr hc => ?_, fun h => ?_, fun hp => ⟨?_, ?_, mem_irq .., fun hin => ?_, fun hx hs hw => ?_,
    fun hst hl => ?_⟩, fun hp => ?_⟩
  · obtain ⟨hb, hl⟩ := cycleBoundary_stopped h
    exact ⟨keeps (exec_cycleBoundary s) hb, keeps (exec_cycleLengthChange s) hl⟩
  · obtain ⟨b, l, hcyc, hmem, hlocks⟩ := nextCycle_begins htarget hunit
    have hbegins : begins (nextCycle m) := by
      simp [begins, hcyc, hmem, hlocks, cycleFrom, t, code, m]
    refine ⟨hbegins, fun hpre => ⟨(exec_cycleBoundary s).trans (done_eq (cycleBoundary_begins hr hc hpre)), mem_boundaryActions _⟩, fun hpre hdue => ?_⟩
    exact ⟨_, (exec_cycleLengthChange s).trans (done_eq (cycleLengthChange_begins hr hc hpre hdue)), hbegins, rfl⟩
  · exact (exec_cycleBoundary s).trans (done_eq (cycleBoundary_rest hr hc hpre))
  · exact keeps (exec_cycleLengthChange s) (cycleLengthChange_none h)
  · exact (exec_phaseP1Start s).trans (done_eq (if_pos hp))
  · exact congrArg CycSt.now (irq_cyc ..)
  · refine (exec_phaseP3Start s).trans (done_eq ((if_pos hp).trans ?_))
    rw [pairP3_alone ((inPair_phaseStart 3 m).trans hin), show (phaseStart 3 m).duo = m.duo from irq_duo ..]
    rfl
  · have hquiet := p4_idle (m := phaseStart 4 m) (by rw [phaseStart, irq_twi]; exact hx) (by rw [phaseStart, irq_duo]; exact hs)
      (by rw [phaseStart, irq_duo]; exact hw)
    exact (exec_phaseP4Start s).trans (done_eq ((if_pos hp).trans hquiet))
  · exact (exec_commitDeadline s).trans (done_eq (commitAtDeadline_idle hp hst hl))
  · have hno : ¬ phased m = true := by simp [hp]
    exact ⟨keeps (exec_phaseP1Start s) (if_neg hno), keeps (exec_phaseP3Start s) (if_neg hno), keeps (exec_phaseP4Start s) (if_neg hno),
      keeps (exec_commitDeadline s) (if_pos (by simp [hp]))⟩

end Sys2Proof.Machine
end

section
/-! PROOFS. What reports, interrupt sources and the error correction of the memory leave (`Served`): the services that the blocks of a cell
cycle use. -/

namespace Sys2Proof.Machine

/-- The registers of the services: SYS, HIF, INTC, and those of MEM and beyond. -/
abbrev serviceKey (k : Nat) : Prop := k < 0x40030000 * 32 ∨ 0x400F0000 * 32 ≤ k

theorem serviceKey_of_report {k : Nat} (h : k ∈ reportKeys) : serviceKey k := .inl ((reportKeys_low k h).trans (by decide))
theorem serviceKey_of_irq {k : Nat} (h : k ∈ irqKeys) : serviceKey k := .inl (irqKeys_intc k h).2

/-- Every field of the block MEM. -/
theorem serviceKey_mem {f : Fld} (h : f.blk = 15) (i : Nat) : serviceKey (f.key i) := by
  refine .inr ?_
  simp only [Fld.key, Fld.addr, h]
  omega

/-- From `m` to `m'` at most the services of a cell have worked: of the registers, those above. -/
structure Served (m m' : Mach) : Prop where
  rest : ∃ r h y a i b x n, m' = { m with regs := r, hif := h, sys := y, reacts := a, intc := i, memb := b, mem := x, free := n }
  fields : FieldsBut serviceKey m m'

namespace Served
variable {m m' m'' : Mach}

theorem refl : Served m m := ⟨⟨_, _, _, _, _, _, _, _, rfl⟩, .refl⟩

theorem trans (h : Served m m') (h' : Served m' m'') : Served m m'' := by
  obtain ⟨⟨r, x, y, a, i, b, z, n, rfl⟩, hf⟩ := h
  obtain ⟨⟨r', x', y', a', i', b', z', n', rfl⟩, hf'⟩ := h'
  exact ⟨⟨r', x', y', a', i', b', z', n', rfl⟩, hf.trans hf'⟩

theorem ite {c : Prop} [Decidable c] {a b : Mach} (ha : Served m a) (hb : Served m b) : Served m (if c then a else b) := by
  split
  · exact ha
  · exact hb

theorem foldl {α : Type} {f : Mach → α → Mach} {l : List α} (h : ∀ x m, Served m (f m x)) (m : Mach) : Served m (l.foldl f m) :=
  foldl_related (R := Served) (fun _ => refl) trans (fun x _ => h x) m

/-- A register of a service written. -/
theorem setF (h : Served m m') {f : Fld} {i v : Nat} (hf : serviceKey (f.key i)) : Served m (setF m' f i v) :=
  h.trans ⟨⟨_, _, _, _, _, _, _, _, rfl⟩, .setF v hf⟩

theorem report (h : Served m m') {code cls kind id detail index : Nat} : Served m (report m' code cls kind id detail index) := by
  obtain ⟨⟨r, x, y, a, heq⟩, -⟩ := report_reported m' code cls kind id detail index
  exact h.trans ⟨⟨r, x, y, a, m'.intc, m'.memb, m'.mem, m'.free, heq⟩, (report_fieldsBut m' code cls kind id detail index).mono fun _ => serviceKey_of_report⟩

theorem irq (h : Served m m') {k : Nat} : Served m (irq m' k) := by
  obtain ⟨r, p, heq⟩ := irq_frame m' k
  exact h.trans ⟨⟨r, m'.hif, m'.sys, m'.reacts, _, m'.memb, m'.mem, m'.free, heq⟩, (irq_fieldsBut m' k).mono fun _ => serviceKey_of_irq⟩

/-- The bookkeeping of the memory changed. -/
theorem memb (h : Served m m') {b : MemSt} : Served m { m' with memb := b } := h.trans ⟨⟨_, _, _, _, _, _, _, _, rfl⟩, .of_regs rfl⟩

/-- Reactions requested. -/
theorem reacts (h : Served m m') {l : List React} : Served m { m' with reacts := l } := h.trans ⟨⟨_, _, _, _, _, _, _, _, rfl⟩, .of_regs rfl⟩

/-- A byte written. -/
theorem wrByte (h : Served m m') {a v : Nat} : Served m (wrByte m' a v) := h.trans ⟨⟨_, _, _, _, _, _, _, _, rfl⟩, .of_regs rfl⟩

/-- An open value used up. -/
theorem fresh (h : Served m m') {w : Nat} : Served m (fresh m' w).2 := h.trans ⟨⟨_, _, _, _, _, _, _, _, rfl⟩, .of_regs rfl⟩

/-! What `Served` leaves, by component. -/

section
variable (h : Served m m')
include h
theorem cyc : m'.cyc = m.cyc := by obtain ⟨⟨_, _, _, _, _, _, _, _, rfl⟩, -⟩ := h; rfl
theorem locks : m'.locks = m.locks := by obtain ⟨⟨_, _, _, _, _, _, _, _, rfl⟩, -⟩ := h; rfl
theorem ladle : m'.ladle = m.ladle := by obtain ⟨⟨_, _, _, _, _, _, _, _, rfl⟩, -⟩ := h; rfl
theorem mould : m'.mould = m.mould := by obtain ⟨⟨_, _, _, _, _, _, _, _, rfl⟩, -⟩ := h; rfl
theorem run : m'.run = m.run := by obtain ⟨⟨_, _, _, _, _, _, _, _, rfl⟩, -⟩ := h; rfl
theorem cruc : m'.cruc = m.cruc := by obtain ⟨⟨_, _, _, _, _, _, _, _, rfl⟩, -⟩ := h; rfl
theorem crucSecs : m'.crucSecs = m.crucSecs := by obtain ⟨⟨_, _, _, _, _, _, _, _, rfl⟩, -⟩ := h; rfl
theorem safe : m'.safe = m.safe := by obtain ⟨⟨_, _, _, _, _, _, _, _, rfl⟩, -⟩ := h; rfl
end

end Served

/-! ## The memory's error correction (22 R604 to R607) -/

theorem corrected_served (m : Mach) (region : Nat) (pos : List Nat) : Served m (corrected m region pos) := by
  unfold corrected
  extract_lets m₁ lo hi m₂ thr m₃
  have h₁ : Served m m₁ := .setF (.setF .refl (serviceKey_mem rfl _)) (serviceKey_mem rfl _)
  have h₂ : Served m m₂ := .setF (.setF h₁ (serviceKey_mem rfl _)) (serviceKey_mem rfl _)
  exact .ite (.memb (.irq (.report h₂))) h₂

theorem uncorrectable_served (m : Mach) (k region source port : Nat) : Served m (uncorrectable m k region source port) := by
  unfold uncorrectable
  extract_lets own m₁ m₂ m₃
  have h₁ : Served m m₁ := .setF (.setF .refl (serviceKey_mem rfl _)) (serviceKey_mem rfl _)
  have h₂ : Served m m₂ := .setF (.setF (.setF (.setF h₁ (serviceKey_mem rfl _)) (serviceKey_mem rfl _)) (serviceKey_mem rfl _)) (serviceKey_mem rfl _)
  exact .report (.irq (.memb h₂))

theorem flipData_served (m : Mach) (k : Nat) (l : List Nat) : Served m (flipData m k l) :=
  .ite (.memb .refl) (.foldl (fun _ _ => .wrByte .refl) m)

theorem poisonWord_served {m m' : Mach} (h : Served m m') (k : Nat) (l : List Nat) : Served m (poisonWord m' k l) :=
  .memb (h.trans ((Served.memb .refl).trans (flipData_served ..)))

theorem decodeWord_served (m : Mach) (k source port : Nat) : Served m (decodeWord m k source port) := by
  unfold decodeWord
  extract_lets l region m₁ _ r v m₂
  have h₁ : Served m m₁ := corrected_served ..
  have h₂ : Served m m₂ := .memb (.fresh (.fresh .refl))
  refine .ite .refl (.ite (.ite (.memb h₁) h₁) (.ite (poisonWord_served (uncorrectable_served ..) ..) (.ite ?_ (.ite (.memb h₂) ?_))))
  · exact poisonWord_served (.trans (.fresh .refl) (uncorrectable_served ..)) ..
  · exact h₂.trans (.foldl (fun _ _ => .wrByte .refl) _)

/-- Words decoded one after another. -/
theorem eccRead_served (m : Mach) (a n port : Nat) : Served m (eccRead m a n port).1 := by
  unfold eccRead
  extract_lets old m₁ m₂
  have h₁ : Served m m₁ := .foldl (fun k m => decodeWord_served m k 0 port) m
  exact .ite (.setF (.setF h₁ (serviceKey_mem rfl _)) (serviceKey_mem rfl _)) h₁

theorem wrBytes_served (m : Mach) (a : Nat) (l : List Nat) (port : Nat) : Served m (wrBytes m a l port) := by
  unfold wrBytes
  extract_lets whole ks m₁ keep _ m₂
  have h₁ : Served m m₁ := .foldl (fun _ _ => .memb (.memb (decodeWord_served ..))) m
  have h₂ : Served m m₂ := .memb h₁
  exact h₂.trans (.foldl (fun _ _ => .wrByte .refl) _)

/-! ## Memory without words in error -/

/-- A read leaves memory, and finds no word in error. -/
theorem eccRead_noFlips {m : Mach} (h : m.memb.flips = []) (a n port : Nat) :
    (eccRead m a n port).1.memb.flips = [] ∧ (eccRead m a n port).1.mem = m.mem := by
  have hfold : (wordsIn a n).foldl (fun m k => decodeWord m k 0 port) m = m := foldl_fixed_of_mem fun k _ => decodeWord_clean h k 0 port
  simp only [eccRead, hfold]
  split
  · exact ⟨h, rfl⟩
  · exact ⟨h, rfl⟩

end Sys2Proof.Machine
end

section
/-! PROOFS. The steps of the Runner (02 R63 to R65, 07 R221 to R228, 08 R239): what each leaves, and the statement. -/

namespace Sys2Proof.Machine

/-! ## The commands of this statement -/

theorem exec_runnerSnapshot (s : State) : exec .runnerSnapshot s = done runnerSnapshot s := rfl
theorem exec_runnerTargets (s : State) : exec .runnerTargets s = done runTargets s := rfl
theorem exec_runnerPrep (s : State) : exec .runnerPrep s = done runPrep s := rfl
theorem exec_runnerCommit (s : State) : exec .runnerCommit s = done runnerCommit s := rfl
theorem exec_streamUnderrunStop (g : Nat) (s : State) : exec (.streamUnderrunStop g) s = execStreamUnderrunStop g s := rfl
theorem exec_gearMasterLost (g : Nat) (s : State) : exec (.gearMasterLost g) s = execGearMasterLost g s := rfl
theorem exec_refillComplete (g : Nat) (s : State) : exec (.refillComplete g) s = execRefillComplete g s := rfl

/-! ## What showing a plan changes -/

/-- From `m` to `m'` registers alone have changed. -/
def RegsOnly (m m' : Mach) : Prop := ∃ r, m' = { m with regs := r }

namespace RegsOnly
variable {m m' m'' : Mach}

theorem refl : RegsOnly m m := ⟨_, rfl⟩
theorem trans (h : RegsOnly m m') (h' : RegsOnly m' m'') : RegsOnly m m'' := by
  obtain ⟨r, rfl⟩ := h
  obtain ⟨r', rfl⟩ := h'
  exact ⟨r', rfl⟩
theorem ite {c : Prop} [Decidable c] {a b : Mach} (ha : RegsOnly m a) (hb : RegsOnly m b) : RegsOnly m (if c then a else b) := by
  split
  · exact ha
  · exact hb
theorem foldl {α : Type} {f : Mach → α → Mach} {l : List α} (h : ∀ x m, RegsOnly m (f m x)) (m : Mach) : RegsOnly m (l.foldl f m) :=
  foldl_related (R := RegsOnly) (fun _ => refl) trans (fun x _ => h x) m
theorem setF (h : RegsOnly m m') {f : Fld} {i v : Nat} : RegsOnly m (setF m' f i v) := h.trans ⟨_, rfl⟩

theorem run (h : RegsOnly m m') : m'.run = m.run := by obtain ⟨r, rfl⟩ := h; rfl
theorem mem (h : RegsOnly m m') : m'.mem = m.mem := by obtain ⟨r, rfl⟩ := h; rfl
theorem memb (h : RegsOnly m m') : m'.memb = m.memb := by obtain ⟨r, rfl⟩ := h; rfl
theorem cyc (h : RegsOnly m m') : m'.cyc = m.cyc := by obtain ⟨r, rfl⟩ := h; rfl
theorem ladle (h : RegsOnly m m') : m'.ladle = m.ladle := by obtain ⟨r, rfl⟩ := h; rfl
theorem grp (h : RegsOnly m m') (g : Nat) : grp m' g = grp m g := by rw [Machine.grp, h.run, ← Machine.grp]
end RegsOnly

/-- The registers of a plan show it: nothing else changes. -/
theorem showGrp_regsOnly (m : Mach) (u : GroupRec) : RegsOnly m (showGrp m u) := by
  unfold showGrp
  extract_lets x d used m₁ _ _ m₂ xs m₃
  have h₁ : RegsOnly m m₁ := .foldl (fun _ _ =>
    .setF (.setF (.setF (.setF (.setF (.setF (.setF (.setF (.setF (.setF (.setF (.setF (.setF .refl))))))))))))) m
  have h₂ : RegsOnly m m₂ := .ite h₁ (.setF (.setF (.setF (.setF (.setF (.setF h₁))))))
  exact .setF (.setF (.setF h₂))

@[simp] theorem grp_setGrp_self (m : Mach) (g : Nat) (x : GrpSt) : grp (setGrp m g x) g = x := sget_sput_self ..

/-! ## What a step of the Runner leaves (R223, R224) -/

/-- From `m` to `m'` the cycle and the graph are as they were. -/
structure StepKeeps (m m' : Mach) : Prop where
  cyc : m'.cyc = m.cyc
  ladle : m'.ladle = m.ladle

namespace StepKeeps
variable {m m' m'' : Mach}

theorem refl : StepKeeps m m := ⟨rfl, rfl⟩
theorem trans (h : StepKeeps m m') (h' : StepKeeps m' m'') : StepKeeps m m'' := ⟨h'.cyc.trans h.cyc, h'.ladle.trans h.ladle⟩
theorem ite {c : Prop} [Decidable c] {a b : Mach} (ha : StepKeeps m a) (hb : StepKeeps m b) : StepKeeps m (if c then a else b) := by
  split
  · exact ha
  · exact hb
theorem foldl {α : Type} {f : Mach → α → Mach} {l : List α} (h : ∀ x m, StepKeeps m (f m x)) (m : Mach) : StepKeeps m (l.foldl f m) :=
  foldl_related (R := StepKeeps) (fun _ => refl) trans (fun x _ => h x) m
theorem of_served (h : Served m m') : StepKeeps m m' := ⟨h.cyc, h.ladle⟩
theorem of_regsOnly (h : RegsOnly m m') : StepKeeps m m' := ⟨h.cyc, h.ladle⟩
/-- What the Runner keeps changed. -/
theorem onRun (h : StepKeeps m m') {r : RunSt} : StepKeeps m { m' with run := r } := h.trans ⟨rfl, rfl⟩
end StepKeeps

theorem report_keeps (m : Mach) (code cls kind id detail index : Nat) : StepKeeps m (report m code cls kind id detail index) :=
  .of_served (.report .refl)

theorem showGrp_keeps (m : Mach) (u : GroupRec) : StepKeeps m (showGrp m u) := .of_regsOnly (showGrp_regsOnly m u)

theorem unbind_keeps (m : Mach) (d : Dyn) : StepKeeps m (unbind m d).1 := by
  unfold unbind
  split
  · exact .onRun .refl
  · exact .refl

theorem underrunStop_keeps (u : GroupRec) (m : Mach) : StepKeeps m (underrunStop u m) := by
  unfold underrunStop
  extract_lets x ring r m₁
  have h₁ : StepKeeps m m₁ := .onRun (unbind_keeps ..)
  have hflag : StepKeeps m₁ (flag m₁ RUN_FLAGS_STREAM_BROKEN) := ⟨rfl, rfl⟩
  exact .ite .refl ((h₁.trans hflag).trans ((report_keeps ..).trans (showGrp_keeps ..)))

theorem masterLost_keeps (u : GroupRec) (m : Mach) : StepKeeps m (masterLost u m) := by
  unfold masterLost
  extract_lets x
  have h : StepKeeps m (setGrp m u.group { x with due := x.due - 2 }) := .onRun .refl
  exact .ite .refl (h.trans (report_keeps ..))

/-- Writing the window is a service of the memory. -/
theorem writeWindow_served (m : Mach) (u : GroupRec) (d : Dyn) : Served m (writeWindow m u d) := by
  unfold writeWindow
  extract_lets ax m₁
  refine .ite ((wrBytes_served ..).trans (.foldl (fun a m => ?_) m₁)) (.foldl (fun _ _ => wrBytes_served ..) m)
  exact .ite .refl (wrBytes_served ..)

theorem handTargets_keeps (m : Mach) (u : GroupRec) (d : Dyn) : StepKeeps m (handTargets m u d) := by
  unfold handTargets
  extract_lets m₁
  have h₁ : StepKeeps m m₁ := .foldl (fun _ _ => .onRun .refl) m
  refine .ite .refl ?_
  split
  · exact h₁
  · exact h₁.trans (.foldl (fun _ _ => .onRun .refl) m₁)

theorem putPlanned_keeps (m : Mach) (u : GroupRec) (d : Dyn) : StepKeeps m (putPlanned m u d) := .foldl (fun _ _ => .onRun .refl) m

/-- TARGETS of one unit leaves them. -/
theorem targetUnit_keeps (m : Mach) (u : GroupRec) : StepKeeps m (targetUnit m u) := by
  unfold targetUnit
  extract_lets m₁ x d d' m₂ x'
  have h₁ : StepKeeps m m₁ := (underrunStop_keeps u m).trans (masterLost_keeps u _)
  have h₂ : StepKeeps m₁ m₂ := (StepKeeps.of_served (writeWindow_served ..)).trans ((putPlanned_keeps ..).trans (handTargets_keeps ..))
  exact .ite .refl ((h₁.trans h₂).trans ((StepKeeps.onRun .refl).trans (showGrp_keeps ..)))

/-! ### Reads of a step -/

/-- From `m` to `m'` cycle and graph are as they were, and so is the memory if no word of it is in error. -/
structure ReadKeeps (m m' : Mach) : Prop extends StepKeeps m m' where
  clean : m.memb.flips = [] → m'.memb.flips = [] ∧ m'.mem = m.mem

namespace ReadKeeps
variable {m m' m'' : Mach}

theorem refl : ReadKeeps m m := ⟨.refl, fun h => ⟨h, rfl⟩⟩
theorem trans (h : ReadKeeps m m') (h' : ReadKeeps m' m'') : ReadKeeps m m'' :=
  ⟨h.toStepKeeps.trans h'.toStepKeeps, fun hf => ⟨(h'.clean (h.clean hf).1).1, (h'.clean (h.clean hf).1).2.trans (h.clean hf).2⟩⟩
theorem ite {c : Prop} [Decidable c] {a b : Mach} (ha : ReadKeeps m a) (hb : ReadKeeps m b) : ReadKeeps m (if c then a else b) := by
  split
  · exact ha
  · exact hb
theorem foldl {α : Type} {f : Mach → α → Mach} {l : List α} (h : ∀ x m, ReadKeeps m (f m x)) (m : Mach) : ReadKeeps m (l.foldl f m) :=
  foldl_related (R := ReadKeeps) (fun _ => refl) trans (fun x _ => h x) m
theorem onRun (h : ReadKeeps m m') {r : RunSt} : ReadKeeps m { m' with run := r } := h.trans ⟨⟨rfl, rfl⟩, fun h => ⟨h, rfl⟩⟩
theorem setF (h : ReadKeeps m m') {f : Fld} {i v : Nat} : ReadKeeps m (setF m' f i v) := h.trans ⟨⟨rfl, rfl⟩, fun h => ⟨h, rfl⟩⟩
theorem report (h : ReadKeeps m m') {code cls kind id detail index : Nat} : ReadKeeps m (report m' code cls kind id detail index) := by
  obtain ⟨⟨_, _, _, _, heq⟩, -⟩ := report_reported m' code cls kind id detail index
  exact h.trans ⟨report_keeps .., fun hf => by rw [heq]; exact ⟨hf, rfl⟩⟩
end ReadKeeps

theorem eccRead_keeps (m : Mach) (a n port : Nat) : ReadKeeps m (eccRead m a n port).1 :=
  ⟨.of_served (eccRead_served ..), fun h => eccRead_noFlips h a n port⟩

theorem logRead_keeps (m : Mach) (a n port : Nat) : ReadKeeps m (logRead a n port m).1 := by
  unfold logRead
  extract_lets r
  have h : ReadKeeps m r.1 := eccRead_keeps ..
  have hlog : ReadKeeps m (poisonLog r.1 (poisonAt r.1 a n)) := by rw [poisonLog, logNode]; exact h.report
  exact .ite hlog h

theorem readSections_keeps (c : Nat) (m : Mach) : ReadKeeps m (readSections c m) := .foldl (fun _ _ => logRead_keeps ..) m

/-- The memory that the Runner reads for a unit's next entry. -/
theorem readMotion_keeps (m : Mach) (u : GroupRec) : ReadKeeps m (readMotion m u) := by
  unfold readMotion
  split
  · exact .refl
  next d _ =>
    extract_lets r
    have h : ReadKeeps m r.1 := by
      refine foldl_fst_related (R := ReadKeeps) (fun _ => .refl) .trans (fun p x => ?_) (m, none)
      exact eccRead_keeps ..
    split
    · exact h
    · exact .report (.onRun h)

theorem prepUnit_keeps (m : Mach) (u : GroupRec) : ReadKeeps m (prepUnit m u) := by
  unfold prepUnit
  extract_lets x
  split
  · exact .refl
  next d _ =>
    extract_lets es m₁
    have h₁ : ReadKeeps m m₁ := .foldl (fun _ _ => .onRun .refl) m
    split
    · exact .report (.setF h₁)
    · exact h₁

/-! ## Steps out of their turn, and steps in it -/

/-- Without items in flight the end of a step is nobody's. -/
theorem finishKind_none {m : Mach} (h : m.ladle.items = []) (kind target st : Nat) : finishKind m kind target st = m := by simp [finishKind, h]

/-- A step starts while the graph has no items. -/
theorem stepReady_quiet {m : Mach} (hs : m.cyc.skip = false) (ht : m.ladle.tpl = []) (target : Nat) : stepReady m target = true := by
  simp [stepReady, hs, ht]

/-- None starts in a truncated cycle. -/
theorem stepReady_skip {m : Mach} (h : m.cyc.skip = true) (target : Nat) : stepReady m target = false := by simp [stepReady, h]

section
variable {m : Mach}

theorem runTargets_outOfTurn (h : m.run.stage ≠ 1 ∨ stepReady m 1 = false) : runTargets m = m := by
  refine if_pos (h.imp_right fun hr => ?_)
  rw [hr]; rfl

theorem runPrep_outOfTurn (h : m.run.stage ≠ 2 ∨ stepReady m 2 = false) : runPrep m = m := by
  refine if_pos (h.imp_right fun hr => ?_)
  rw [hr]; rfl

theorem runCommit_outOfTurn (h : m.run.stage = 0 ∨ m.run.stage = 4 ∨ stepReady m 3 = false) : runCommit m = m := by
  refine if_pos (h.imp_right (Or.imp_right fun hr => ?_))
  rw [hr]; rfl

/-- A commit that does not come changes nothing. -/
theorem runnerCommit_of_same (h : runCommit m = m) : runnerCommit m = m := by
  rw [runnerCommit, h, afterCommit]
  cases m.cyc.committed <;> rfl

/-- TARGETS in its turn. -/
theorem runTargets_runs (hi : m.ladle.items = []) (ht : m.ladle.tpl = []) (hs : m.cyc.skip = false) (h : m.run.stage = 1) :
    ∃ m₁, runTargets m = { m₁ with run := { m₁.run with stage := 2 } } ∧ StepKeeps m m₁ ∧ (planUnits m = [] → m₁ = m) := by
  have hkeep : StepKeeps m ((planUnits m).foldl targetUnit m) := .foldl (fun u m => targetUnit_keeps m u) m
  have hwork : targetsWork m = { (planUnits m).foldl targetUnit m with run := { ((planUnits m).foldl targetUnit m).run with stage := 2 } } :=
    if_neg (by simp [h])
  have hitems : (targetsWork m).ladle.items = [] := by rw [hwork]; exact (congrArg LadleSt.items hkeep.ladle).trans hi
  refine ⟨(planUnits m).foldl targetUnit m, ?_, hkeep, fun hn => by rw [hn]; rfl⟩
  rw [runTargets, if_neg (by simp [h, stepReady_quiet hs ht]), finishKind_none hitems, hwork]

/-- PREP in its turn. -/
theorem runPrep_runs (hi : m.ladle.items = []) (ht : m.ladle.tpl = []) (hs : m.cyc.skip = false) (h : m.run.stage = 2) :
    ∃ m₁, runPrep m = { m₁ with run := { m₁.run with stage := 3 } } ∧ ReadKeeps m m₁ := by
  have hkeep : ReadKeeps m ((planUnits m).foldl (fun m u => prepUnit (readMotion m u) u) (readSections (m.run.snap + 1) m)) :=
    (readSections_keeps ..).trans (.foldl (fun u m => (readMotion_keeps m u).trans (prepUnit_keeps _ u)) _)
  have hwork : prepWork m = _ := if_neg (by simp [h])
  have hitems : (prepWork m).ladle.items = [] := by rw [hwork]; exact (congrArg LadleSt.items hkeep.ladle).trans hi
  refine ⟨_, ?_, hkeep⟩
  rw [runPrep, if_neg (by simp [h, stepReady_quiet hs ht]), finishKind_none hitems, hwork]

end

/-! ## The commit without units (02 R65, 03 R103) -/

/-- What the commit of the cycle after the snapshot leaves where no unit is planned. -/
def bareCommit (m : Mach) : Mach :=
  releaseEffects { m with run := { m.run with gev := [], stage := 4 }, reacts := m.reacts.filter (fun r => r.cls == 2 || r.late),
                          cyc := { m.cyc with committed := true } } (m.run.snap + 1)

theorem followsPartner_alone {m : Mach} (h : inPair m = false) : followsPartner m = false := by simp [followsPartner, h]

theorem settleStart_none {m : Mach} (h : m.run.start.ts = none) (c : Nat) : settleStart m c = m := by rw [settleStart, h]

theorem extendAll_none {m : Mach} (h : planUnits m = []) : extendAll m = m := by rw [extendAll, h]; rfl

theorem publishDown_none {m : Mach} (h : (slotsNow m).filter (fun e => e.kind == 1 && ownsSlot m e) = []) (c : Nat) : publishDown m c = m := by
  rw [publishDown, h]; rfl

theorem commitWork_bare {m : Mach} (h : m.run.stage = 3) (hin : inPair m = false) (hu : planUnits m = []) (ht : m.run.start.ts = none)
    (hd : (slotsNow m).filter (fun e => e.kind == 1 && ownsSlot m e) = []) : commitWork m = bareCommit m := by
  have htargets : targetsWork m = m := if_pos (by simp [h])
  have hprep : prepWork m = m := if_pos (by simp [h])
  have hno : ¬ (m.run.stage = 0 ∨ m.run.stage = 4) := by simp [h]
  rw [commitWork, if_neg hno, htargets, hprep]
  extract_lets m₀ c _ m₁ m₂ m₃ m₄ m₅ m₆ y x m₇
  have h₂ : m₂ = m₁ := by
    have hnone : planUnits m₁ = [] := hu
    simp only [m₂, hnone, List.foldl_nil]
  have h₃ : m₃ = { m₁ with reacts := m.reacts.filter (fun r => r.cls == 2 || r.late) } := by simp only [m₃, h₂]; rfl
  have h₄ : m₄ = m₃ := publishDown_none (by rw [h₃]; exact hd) c
  have h₅ : m₅ = m₃ := by simp only [m₅, h₄, h₃]; rfl
  have h₆ : m₆ = m₃ := by simp only [m₆, h₅]; exact settleStart_none (by rw [h₃]; exact ht) c
  have h₇ : m₇ = { m with run := { m.run with gev := [], stage := 4 }, reacts := m.reacts.filter (fun r => r.cls == 2 || r.late),
                          cyc := { m.cyc with committed := true } } := by simp only [m₇, x, y, h₆, h₃]; rfl
  have halone : followsPartner m₇ = false := followsPartner_alone (by rw [h₇]; exact hin)
  rw [halone, if_neg (by decide), h₇, extendAll_none (by exact hu), bareCommit]

/-- The commit without units, in its turn. -/
theorem runnerCommit_bare {m : Mach} (hi : m.ladle.items = []) (ht : m.ladle.tpl = []) (hs : m.cyc.skip = false) (h : m.run.stage = 3)
    (hc : m.cyc.committed = false) (hin : inPair m = false) (hu : planUnits m = []) (hts : m.run.start.ts = none)
    (hd : (slotsNow m).filter (fun e => e.kind == 1 && ownsSlot m e) = []) : runnerCommit m = irq (bareCommit m) 109 := by
  have hrun : runCommit m = bareCommit m := by
    rw [runCommit, if_neg (by simp [h, stepReady_quiet hs ht]), commitWork_bare h hin hu hts hd]
    exact finishKind_none (m := bareCommit m) hi ..
  have halone : inPair (irq (bareCommit m) 109) = false := (inPair_irq ..).trans hin
  have hafter : pairCommit (irq (bareCommit m) 109) = irq (bareCommit m) 109 := by simp [pairCommit, halone]
  rw [runnerCommit, hrun, hc]
  exact hafter

/-- What waits for the cycle committed waits no longer. -/
theorem bareCommit_effects (m : Mach) : ∀ c ∈ (bareCommit m).hif.compl, ∀ e, c.effect = some e → m.run.snap + 1 < e := by
  intro c hc e he
  obtain ⟨x, -, rfl⟩ := List.mem_map.1 hc
  by_cases hx : x.effect.any (fun e => decide (e ≤ m.run.snap + 1)) = true
  · rw [if_pos hx] at he
    exact nomatch he
  · rw [if_neg hx] at he
    simpa [he] using hx

/-! ## The commit of a unit (07 R206, R223) -/

/-- The entry of a unit of one axis that no reaction, event or gear concerns: written to the ring, and in force. -/
theorem commitUnit_plain {m : Mach} {u : GroupRec} {a : AxisRec} {d : Dyn} (hcur : (grp m u.group).cur = some d) (hax : unitAxes m u = [a])
    (hkind : u.kind = 0) (hreact : reactFor m u = 0) (hev : d.events = []) (hgev : d.gev = []) (hmode : d.mode = 0) (heng : d.engaged = false)
    (hstuck : (grp m u.group).stuck = false) (hsegs : (grp m u.group).com.segs = []) (hafter : (grp m u.group).com.after = []) :
    ∃ m₁ z, commitUnit m u = showGrp (setGrp m₁ u.group z) u ∧ z.com = { d with events := [], gev := [] } ∧ z.cur = none ∧
      m₁.mem = (wrBytes m (ringAddr m a.axis d.c) (entryBytes (sget m.run.ents a.axis []) d.c 1) 3).mem := by
  have hcart : isCart u = false := by simp [isCart, hkind]
  unfold commitUnit
  extract_lets x ax old cls
  split
  next hnone => exact absurd (hcur.symm.trans hnone) (by simp)
  next d' hd' =>
    obtain rfl : d' = d := Option.some.inj (hd'.symm.trans hcur)
    extract_lets act r m₁ d₁ held fl m₂ ents d₂ d m₃ gone aborted m₄ m₅ m₆ gev _ m₇ rest off here far m₈ q _ m₉ clean again x₁ x₂ x₃ x₄ x₅ m₁₀ m₁₁ m₁₂
    have hact : act = 0 := by simp [act, cls, hreact, hstuck, x]
    have hr : r = (m, d') := by simp [r, hact]
    have hheld : ¬ held := by simp [held, hact]
    have hm₂ : m₂ = m := by simp [m₂, hheld, m₁, hr]
    have hents : ents = [sget m.run.ents a.axis []] := by simp [ents, hm₂, ax, hax]
    have hd : d = d' := by simp [d, d₂, hheld, hcart, d₁, hr]
    have hm₃ : m₃ = wrBytes m (ringAddr m a.axis d'.c) (entryBytes (sget m.run.ents a.axis []) d'.c 1) 3 := by
      simp [m₃, hm₂, hents, ax, hax, hd]
    have hgone : aborted = [] := by simp [aborted, gone, old, x, hsegs, hafter]
    have hm₄ : m₄ = m₃ := by simp [m₄, hgone, hd, hev, markAborted, reportEvents]
    have hm₅ : m₅ = m₃ := by simp [m₅, hheld, hm₄, checkFollowers, followerFault, hd, heng]
    have hm₆ : m₆.mem = m₃.mem := by
      simp only [m₆, hm₅]
      split <;> rfl
    have hoff : ¬ off := by simp [off, hact, hd, hmode]
    have hm₉ : m₉ = m₇ := by simp [m₉, hoff]
    have hm₁₂ : m₁₂ = setGrp m₇ u.group x₅ := by simp [m₁₂, m₁₁, m₁₀, hkind, hd, hev, hm₉]
    have hagain : ¬ again := by simp [again, hact]
    refine ⟨m₇, x₅, by rw [hm₁₂], ?_, ?_, hm₆.trans (by rw [hm₃])⟩
    · simp [x₅, x₄, x₃, x₂, x₁, hagain, clean, hd, hev]
    · simp [x₅, x₄, x₃, x₂, x₁, hagain, hd, hev]

/-! ## The window (07 R221, R228, 08 R239) -/

/-- Extending the window keeps what the Runner notes of a rebuild. -/
theorem extendTo_rb (u : GroupRec) (f n : Nat) (m : Mach) : (grp (extendTo u f n m) u.group).rb = (grp m u.group).rb := by
  induction n generalizing m with
  | zero => rfl
  | succ n ih =>
    unfold extendTo
    extract_lets x d
    split
    · rfl
    · rw [ih, grp_setGrp_self]

theorem showGrp_grp (m : Mach) (u : GroupRec) (g : Nat) : grp (showGrp m u) g = grp m g := (showGrp_regsOnly m u).grp g

theorem refillComplete_idle {u : GroupRec} {m : Mach} (h : (grp m u.group).fill = false ∨ m.run.stage = 1) : refillComplete u m = m := by
  refine if_pos (h.imp_left fun hf => ?_)
  rw [hf]; rfl

theorem refillComplete_ends {u : GroupRec} {m : Mach} (hf : (grp m u.group).fill = true) (hs : m.run.stage ≠ 1) :
    (grp (refillComplete u m) u.group).fill = false ∧ (grp (refillComplete u m) u.group).rb = (if (grp m u.group).rb = 1 then 1 else 0) := by
  have hno : ¬ ((!(grp m u.group).fill) = true ∨ m.run.stage = 1) := by simp [hf, hs]
  rw [refillComplete, if_neg hno, showGrp_grp, grp_setGrp_self, extendTo_rb]
  exact ⟨rfl, rfl⟩

theorem underrunStop_idle {u : GroupRec} {m : Mach} (h : (grp m u.group).due % 2 = 0) : underrunStop u m = m := if_pos h

theorem underrunStop_stops {u : GroupRec} {m : Mach} (h : (grp m u.group).due % 2 = 1) :
    (grp (underrunStop u m) u.group).due = (grp m u.group).due - 1 ∧ (grp (underrunStop u m) u.group).depth = 0 ∧
      (grp (underrunStop u m) u.group).com = (grp (underrunStop u m) u.group).front ∧ (underrunStop u m).mem = m.mem := by
  unfold underrunStop
  extract_lets x ring r m₁
  have hrep : Reported (flag m₁ RUN_FLAGS_STREAM_BROKEN) (report (flag m₁ RUN_FLAGS_STREAM_BROKEN) E_RUN_STREAM_UNDERRUN 0 2 u.group ring) :=
    report_reported ..
  have hunbind : r.1.mem = m.mem := by
    simp only [r, unbind]
    split <;> rfl
  have hno : ¬ x.due % 2 = 0 := by rw [h]; decide
  obtain ⟨⟨_, _, _, _, heq⟩, -⟩ := hrep
  rw [if_neg hno, showGrp_grp, (showGrp_regsOnly ..).mem, heq]
  have hgrp : grp m₁ u.group = _ := grp_setGrp_self ..
  refine ⟨congrArg GrpSt.due hgrp, congrArg GrpSt.depth hgrp, ?_, hunbind⟩
  exact (congrArg GrpSt.com hgrp).trans (congrArg GrpSt.front hgrp).symm

theorem masterLost_idle {u : GroupRec} {m : Mach} (h : (grp m u.group).due < 2) : masterLost u m = m := if_pos h

theorem masterLost_reports {u : GroupRec} {m : Mach} (h : 2 ≤ (grp m u.group).due) :
    masterLost u m = report (setGrp m u.group { grp m u.group with due := (grp m u.group).due - 2 }) E_RUN_GEAR_MASTER_LOST
      (reacClass m E_RUN_GEAR_MASTER_LOST u.group 2) 2 u.group (grp m u.group).com.master.miss u.group := if_neg (Nat.not_lt.2 h)

/-! ## The snapshot (02 R62, R63) -/

/-- The status registers of the Crucible. -/
def crucStatusKeys : List Nat := [CRUC_STATUS_BUSY.key 0, CRUC_STATUS_QDEPTH.key 0, CRUC_STATUS_WINDOW.key 0]

/-- The status registers of the Crucible show it: nothing else changes. -/
theorem crucSync_regsOnly (m : Mach) : RegsOnly m (crucSync m) := .setF (.setF (.setF .refl))

theorem crucSync_fieldsBut (m : Mach) : FieldsBut (· ∈ crucStatusKeys) m (crucSync m) :=
  .trans (.trans (.setF _ (by decide)) (.setF _ (by decide))) (.setF _ (by decide))

/-- The registers that the start of P2 writes. -/
abbrev windowKey (k : Nat) : Prop := k ∈ irqKeys ∨ k ∈ crucStatusKeys

/-- From `m` to `m'` P2 has started: of what a node knows of slots, modes and its partner, nothing differs. -/
structure WindowOpened (m m' : Mach) : Prop where
  fields : FieldsBut windowKey m m'
  mould : m'.mould = m.mould
  twi : m'.twi = m.twi
  duo : m'.duo = m.duo
  memb : m'.memb = m.memb
  sched : m'.sched = m.sched

/-- What the start of P2 does before the snapshot. -/
def openP2 (m : Mach) : Mach := if domOn (phaseStart 2 m) dCRUC then openWindow (phaseStart 2 m) else phaseStart 2 m

namespace WindowOpened
variable {m m' m'' : Mach}

theorem trans (h : WindowOpened m m') (h' : WindowOpened m' m'') : WindowOpened m m'' :=
  ⟨h.fields.trans h'.fields, h'.mould.trans h.mould, h'.twi.trans h.twi, h'.duo.trans h.duo, h'.memb.trans h.memb, h'.sched.trans h.sched⟩

/-- The status of the Crucible shown anew. -/
theorem sync (h : WindowOpened m m') : WindowOpened m (crucSync m') := by
  have hfields := (crucSync_fieldsBut m').mono fun k hk => (Or.inr hk : windowKey k)
  obtain ⟨r, heq⟩ := crucSync_regsOnly m'
  rw [heq] at hfields ⊢
  exact h.trans ⟨hfields, rfl, rfl, rfl, rfl, rfl⟩

end WindowOpened

theorem phaseStart_opened (k : Nat) (m : Mach) : WindowOpened m (phaseStart k m) := by
  have hfields : FieldsBut windowKey m (phaseStart k m) := (irq_fieldsBut (at' m _) (16 + k)).mono fun _ => .inl
  obtain ⟨r, p, heq⟩ := irq_frame (at' m (m.cyc.start + nth (plan m) (k - 1))) (16 + k)
  rw [phaseStart, heq] at hfields ⊢
  exact ⟨hfields, rfl, rfl, rfl, rfl, rfl⟩

theorem openWindow_opened (m : Mach) : WindowOpened m (openWindow m) := by
  have hopen : ∀ c : CrucSt, WindowOpened m { m with cruc := c } := fun _ => ⟨.of_regs rfl, rfl, rfl, rfl, rfl, rfl⟩
  unfold openWindow
  split
  · exact ⟨.refl, rfl, rfl, rfl, rfl, rfl⟩
  · exact (hopen _).sync

theorem openP2_opened (m : Mach) : WindowOpened m (openP2 m) := by
  unfold openP2
  split
  · exact (phaseStart_opened 2 m).trans (openWindow_opened _)
  · exact phaseStart_opened 2 m

namespace WindowOpened
variable {m m' : Mach} (h : WindowOpened m m')
include h

theorem isManager : Machine.isManager m' = Machine.isManager m := congrArg (· == 1) (h.fields _ 0 (by decide))
theorem nodeId : Machine.nodeId m' = Machine.nodeId m := h.fields _ 0 (by decide)

theorem pairRole : Machine.pairRole m' = Machine.pairRole m := by
  rw [Machine.pairRole, Machine.pairRole, h.fields PAIR_STAT_ROLE 0 (by decide), h.duo]

theorem inPair : Machine.inPair m' = Machine.inPair m := by
  rw [Machine.inPair, Machine.inPair, h.isManager, h.mould, h.fields PAIR_STAT_ROLE 0 (by decide)]

theorem isActive : Machine.isActive m' = Machine.isActive m := by rw [Machine.isActive, Machine.isActive, h.isManager, h.inPair, h.pairRole]

theorem computesAlone : Machine.computesAlone m' = Machine.computesAlone m := by
  rw [Machine.computesAlone, Machine.computesAlone, h.inPair, h.pairRole]

theorem domOn (d : Nat) : Machine.domOn m' d = Machine.domOn m d := by
  rw [Machine.domOn, Machine.domOn, h.fields SYS_PWR_STAT_ON 0 (by decide), h.fields SYS_PWR_STAT_TRANS 0 (by decide)]

theorem schedNow : Machine.schedNow m' = Machine.schedNow m := by
  have hdamaged : damaged m' = damaged m := by
    funext e
    rw [damaged, damaged, h.memb, h.nodeId]
  rw [Machine.schedNow, Machine.schedNow, h.memb, h.sched, hdamaged]

theorem slotsNow : Machine.slotsNow m' = Machine.slotsNow m := by
  have hmode : twiMode m' = twiMode m := h.fields TWI_STATUS_MODE 0 (by decide)
  have hline : ∀ l, l ∈ List.range 4 → onF m' TWI_LINE_CFG_EN l = onF m TWI_LINE_CFG_EN l := fun l hl => by
    have hkeys : ∀ l ∈ List.range 4, ¬ windowKey (TWI_LINE_CFG_EN.key l) := by decide
    rw [onF, onF, h.fields TWI_LINE_CFG_EN l (hkeys l hl)]
  have hlines : servedLines m' = servedLines m := by
    rw [servedLines, servedLines, h.isManager, List.filter_congr hline]
  simp only [Machine.slotsNow, hmode, hlines, h.schedNow, localLine, h.isManager]

theorem storesSlot (e : SchedEnt) : Machine.storesSlot m' e = Machine.storesSlot m e := by
  simp only [Machine.storesSlot, ownsSlot, h.isActive, h.isManager, h.twi, h.nodeId]

end WindowOpened

/-- No stored slot: no view. -/
theorem viewKinds_none {m : Mach} (h : (slotsNow m).filter (fun e => storesSlot m e) = []) (kinds : List Nat) (latest : Nat) :
    viewKinds m kinds latest = m := by
  have hnone : (slotsNow m).filter (fun e => kinds.contains e.kind && storesSlot m e) = [] := by
    refine List.filter_eq_nil_iff.2 fun e he hk => List.filter_eq_nil_iff.1 h e he ?_
    exact (Bool.and_eq_true_iff.1 hk).2
  rw [viewKinds, hnone]; rfl

theorem pairEval_alone {m : Mach} (h : inPair m = false) : pairEval m = m := if_pos (by simp [h])

theorem startReady_regsOnly (m : Mach) : RegsOnly m (startReady m) := .ite (.setF .refl) .refl

/-- With the Runner enabled the snapshot leaves no acts behind. -/
theorem runSnapshot_acts {m : Mach} (h : getF m RUN_CTRL_EN = 1) : (runSnapshot m).run.acts = [] := by
  have hon : onF m RUN_CTRL_EN = true := by rw [onF, h]; rfl
  unfold runSnapshot
  rw [if_neg (by simp [hon])]
  exact congrArg RunSt.acts (startReady_regsOnly _).run

theorem followSets_frame (m : Mach) : ∃ a, followSets (mirrorLatch 3 m) = { mirrorLatch 3 m with reacts := a } := by
  unfold followSets
  split
  · exact ⟨_, rfl⟩
  · exact ⟨_, rfl⟩

theorem followSets_regs (m : Mach) : (followSets (mirrorLatch 3 m)).regs = m.regs := by
  obtain ⟨a, h⟩ := followSets_frame m
  rw [h]; rfl

theorem inPair_followSets (m : Mach) : inPair (followSets (mirrorLatch 3 m)) = inPair m := by
  obtain ⟨a, h⟩ := followSets_frame m
  rw [h]; rfl

/-- A manager without a partner takes its snapshot at the start of P2. -/
theorem runnerSnapshot_alone {m : Mach} (hp : phased m = true) (hs : m.cyc.snapped = false) (hm : isManager m = true)
    (hc : computesAlone m = true) (hd : domOn m dRUN = true) (hin : inPair m = false)
    (hv : (slotsNow m).filter (fun e => storesSlot m e) = []) :
    runnerSnapshot m = snapNow (followSets (mirrorLatch 3 (openP2 m))) := by
  have h := openP2_opened m
  have hview : (slotsNow (openP2 m)).filter (fun e => storesSlot (openP2 m) e) = [] := by simpa only [h.slotsNow, h.storesSlot] using hv
  have hruns : runsRunner (openP2 m) = true := by simp [runsRunner, h.isManager, hm]
  have hready : ¬ (!runsRunner (openP2 m) || !computesAlone (openP2 m) || !domOn (openP2 m) dRUN) = true := by
    simp [hruns, h.computesAlone, hc, h.domOn, hd]
  have hpartner : inPair (followSets (mirrorLatch 3 (openP2 m))) = false := (inPair_followSets _).trans (h.inPair.trans hin)
  have hstart : ¬ (!phased m || m.cyc.snapped) = true := by simp [hp, hs]
  rw [runnerSnapshot, if_neg hstart]
  extract_lets m₁ m₂ m₃ m₄ m₅ t
  have h₃ : m₃ = openP2 m := by
    rw [show m₃ = viewKinds (viewKinds (openP2 m) [0] (openP2 m).cyc.n) [3] ((openP2 m).cyc.n - 1) from rfl, viewKinds_none hview, viewKinds_none hview]
  have h₄ : m₄ = openP2 m := by rw [show m₄ = pairEval m₃ from rfl, h₃, pairEval_alone (h.inPair.trans hin)]
  have h₅ : m₅ = followSets (mirrorLatch 3 (openP2 m)) := by rw [← h₄]
  rw [h₄, if_neg hready, if_neg (by rw [h₅, hpartner]; simp), show t = snapNow m₅ from rfl, h₅]

/-! ## The statement -/

/-- Settles O46: each step by its branches, with what it leaves of the cycle (`StepKeeps`), of the memory (`ReadKeeps`) and of the
slots (`WindowOpened`). -/
theorem theRunnerStepsInOrder : Obligations.TheRunnerStepsInOrder := by
  intro u a d s m x quiet
  have keeps {c : Instr} {g : Mach → Mach} (hc : exec c s = done g s) (h : g m = m) : exec c s = .next s := hc.trans (done_same h)
  refine ⟨fun h => ?_, fun hp hs hm hc hd hen hin hv => ?_, fun h => ⟨?_, ?_, ?_⟩, fun h => ?_, fun h => ?_, fun h => ⟨?_, ?_, ?_⟩, fun ⟨hi, ht⟩ hs h => ?_,
    fun ⟨hi, ht⟩ hs h => ?_, fun ⟨hi, ht⟩ hs h hc hin hu hts hd => ?_, fun hcur hax hk hr hev hgev hmode heng hst hsegs haft => ?_,
    fun h hfind => ⟨fun hdue => ?_, fun hdue => ?_, fun hdue => ?_, fun hdue => ?_⟩, fun hfind => ⟨fun h => ?_, fun hf h => ?_⟩⟩
  · refine keeps (exec_runnerSnapshot s) (if_pos ?_)
    rcases h with h | h <;> simp [h]
  · refine ⟨_, (exec_runnerSnapshot s).trans (done_eq (runnerSnapshot_alone hp hs hm hc hd hin hv)), rfl, runSnapshot_acts ?_⟩
    have hopen : getF (openP2 m) RUN_CTRL_EN = 1 := ((openP2_opened m).fields RUN_CTRL_EN 0 (by decide)).trans hen
    rw [getF, followSets_regs]
    exact hopen
  · exact keeps (exec_runnerTargets s) (runTargets_outOfTurn (.inl h))
  · exact (exec_streamUnderrunStop ..).trans (done_same (if_pos h))
  · exact (exec_gearMasterLost ..).trans (done_same (if_pos h))
  · exact keeps (exec_runnerPrep s) (runPrep_outOfTurn (.inl h))
  · exact keeps (exec_runnerCommit s) (runnerCommit_of_same (runCommit_outOfTurn (h.imp_right .inl)))
  · exact keeps (exec_runnerTargets s) (runTargets_outOfTurn (.inr (stepReady_skip h 1)))
  · exact keeps (exec_runnerPrep s) (runPrep_outOfTurn (.inr (stepReady_skip h 2)))
  · exact keeps (exec_runnerCommit s) (runnerCommit_of_same (runCommit_outOfTurn (.inr (.inr (stepReady_skip h 3)))))
  · obtain ⟨m₁, hrun, hkeep, hbare⟩ := runTargets_runs hi ht hs h
    exact ⟨_, (exec_runnerTargets s).trans (done_eq hrun), rfl, hkeep.cyc, fun hu => by rw [hbare hu]⟩
  · obtain ⟨m₁, hrun, hkeep⟩ := runPrep_runs hi ht hs h
    exact ⟨_, (exec_runnerPrep s).trans (done_eq hrun), rfl, hkeep.cyc, fun hf => (hkeep.clean hf).2⟩
  · refine ⟨_, (exec_runnerCommit s).trans (done_eq (runnerCommit_bare hi ht hs h hc hin hu hts hd)), ?_, ?_, mem_irq .., irq_mem .., ?_⟩
    · rw [irq_run]; rfl
    · rw [irq_cyc]; rfl
    · rw [irq_hif]; exact bareCommit_effects m
  · obtain ⟨m₁, z, hcommit, hcom, hnone, hmem⟩ := commitUnit_plain hcur hax hk hr hev hgev hmode heng hst hsegs haft
    intro e m'
    rw [show m' = _ from hcommit, showGrp_grp, grp_setGrp_self, (showGrp_regsOnly ..).mem]
    exact ⟨hmem, hcom, hnone⟩
  · refine ⟨underrunStop u m, (exec_streamUnderrunStop ..).trans (done_eq ?_), underrunStop_stops hdue⟩
    rw [if_neg (by rw [h]; decide), hfind]
  · refine (exec_streamUnderrunStop ..).trans (done_same ?_)
    rw [if_neg (by rw [h]; decide), hfind]
    exact underrunStop_idle hdue
  · intro cls m1
    refine (exec_gearMasterLost ..).trans (done_eq ?_)
    rw [if_neg (by rw [h]; decide), hfind]
    exact masterLost_reports hdue
  · refine (exec_gearMasterLost ..).trans (done_same ?_)
    rw [if_neg (by rw [h]; decide), hfind]
    exact masterLost_idle hdue
  · refine (exec_refillComplete ..).trans (done_same ?_)
    rw [hfind]
    exact refillComplete_idle h
  · refine ⟨refillComplete u m, (exec_refillComplete ..).trans (done_eq ?_), refillComplete_ends hf h⟩
    rw [hfind]

end Sys2Proof.Machine
end

section
/-! PROOFS. The programs of the Crucible (05 R154 to R165, 06 R193 to R197): what a start, an end, an abort and the deadline leave, and the
statement. -/

namespace Sys2Proof.Machine

/-! ## The commands of this statement -/

theorem exec_crucibleProgramStart (k t : Nat) (s : State) : exec (.crucibleProgramStart k t) s = done (programStart k t) s := rfl
theorem exec_crucibleProgramEnd (k t : Nat) (x : ProgramRun) (s : State) : exec (.crucibleProgramEnd k t x) s = done (programEnd k t x) s := rfl
theorem exec_crucibleProgramAbort (k t : Nat) (why : RunAbort) (s : State) : exec (.crucibleProgramAbort k t why) s = done (programAbort k t why) s := rfl
theorem exec_crucibleDeadline (stops : List (Nat × RunMet)) (s : State) : exec (.crucibleDeadline stops) s = done (crucibleDeadline stops) s := rfl

/-! ## The status of the Crucible (05 R174) -/

/-- The lane groups of runs, one bit per group. -/
def busyOf (m : Mach) (l : List CrucRun) : Nat := l.foldl (fun b r => b ||| slotGroups m r.slot) 0

theorem getF_crucSync_busy (m : Mach) : getF (crucSync m) CRUC_STATUS_BUSY = busyOf m m.cruc.run % 2 ^ CRUC_STATUS_BUSY.w := by
  have hwindow : CRUC_STATUS_BUSY.key 0 ≠ CRUC_STATUS_WINDOW.key 0 := by decide
  have hdepth : CRUC_STATUS_BUSY.key 0 ≠ CRUC_STATUS_QDEPTH.key 0 := by decide
  rw [crucSync, setB, getF_setF_ne _ _ _ _ _ _ hwindow, getF_setF_ne _ _ _ _ _ _ hdepth, getF_setF_self]
  rfl

theorem getF_crucSync_window (m : Mach) : getF (crucSync m) CRUC_STATUS_WINDOW = b2n m.cruc.isOpen := by
  rw [crucSync, setB, getF_setF_self]
  cases m.cruc.isOpen <;> rfl

theorem crucSync_cruc (m : Mach) : (crucSync m).cruc = m.cruc := by obtain ⟨r, h⟩ := crucSync_regsOnly m; rw [h]
theorem crucSync_intc (m : Mach) : (crucSync m).intc = m.intc := by obtain ⟨r, h⟩ := crucSync_regsOnly m; rw [h]

/-! ## What runs publish and report (05 R160 to R165) -/

/-- Every register but the counts of misses in a row. -/
abbrev crucKey (k : Nat) : Prop := k < 0x40051100 * 32 ∨ 0x40051200 * 32 ≤ k

theorem crucKey_of_service {k : Nat} (h : serviceKey k) : crucKey k := by
  rcases h with h | h
  · exact .inl (h.trans (by decide))
  · exact .inr (Nat.le_trans (by decide) h)

/-- From `m` to `m'` the runs of the Crucible, its sections, the cycle, the graph and the counts of misses are as they were. -/
structure CrucKeeps (m m' : Mach) : Prop where
  cruc : m'.cruc = m.cruc
  crucSecs : m'.crucSecs = m.crucSecs
  cyc : m'.cyc = m.cyc
  ladle : m'.ladle = m.ladle
  fields : FieldsBut crucKey m m'

namespace CrucKeeps
variable {m m' m'' : Mach}

theorem refl : CrucKeeps m m := ⟨rfl, rfl, rfl, rfl, .refl⟩
theorem trans (h : CrucKeeps m m') (h' : CrucKeeps m' m'') : CrucKeeps m m'' :=
  ⟨h'.cruc.trans h.cruc, h'.crucSecs.trans h.crucSecs, h'.cyc.trans h.cyc, h'.ladle.trans h.ladle, h.fields.trans h'.fields⟩
theorem ite {c : Prop} [Decidable c] {a b : Mach} (ha : CrucKeeps m a) (hb : CrucKeeps m b) : CrucKeeps m (if c then a else b) := by
  split
  · exact ha
  · exact hb
theorem foldl {α : Type} {f : Mach → α → Mach} {l : List α} (h : ∀ x m, CrucKeeps m (f m x)) (m : Mach) : CrucKeeps m (l.foldl f m) :=
  foldl_related (R := CrucKeeps) (fun _ => refl) trans (fun x _ => h x) m
theorem of_served (h : Served m m') : CrucKeeps m m' := ⟨h.cruc, h.crucSecs, h.cyc, h.ladle, h.fields.mono fun _ => crucKey_of_service⟩
theorem setF (h : CrucKeeps m m') {f : Fld} {i v : Nat} (hf : crucKey (f.key i)) : CrucKeeps m (setF m' f i v) :=
  h.trans ⟨rfl, rfl, rfl, rfl, .setF v hf⟩
theorem report (h : CrucKeeps m m') {code cls kind id detail index : Nat} : CrucKeeps m (report m' code cls kind id detail index) :=
  h.trans (.of_served (.report .refl))
/-- What changes of the Crucible, changes before as after. -/
theorem onCruc (h : CrucKeeps m m') (f : CrucSt → CrucSt) : CrucKeeps { m with cruc := f m.cruc } { m' with cruc := f m'.cruc } :=
  ⟨congrArg f h.cruc, h.crucSecs, h.cyc, h.ladle, h.fields⟩
end CrucKeeps

theorem pubWrite_keeps (m : Mach) (a : Nat) (l : List Nat) : CrucKeeps m (pubWrite m a l) := by
  have hduo : ∀ d : DuoSt, CrucKeeps m { m with duo := d } := fun _ => ⟨rfl, rfl, rfl, rfl, .of_regs rfl⟩
  unfold pubWrite
  extract_lets _ m₁
  have h₁ : CrucKeeps m m₁ := .ite (hduo _) .refl
  exact h₁.trans (.of_served (wrBytes_served ..))

theorem putAttempt_keeps (m : Mach) (k st : Nat) : CrucKeeps m (putAttempt m k st) := pubWrite_keeps ..

theorem publish_keeps (m : Mach) (r : CrucRun) (st : Nat) (hdr : List Nat) (words : List Int) : CrucKeeps m (publish m r st hdr words) :=
  (pubWrite_keeps ..).trans (pubWrite_keeps ..)

theorem reportRun_keeps (m : Mach) (k : Nat) (x : RunMet) : CrucKeeps m (reportRun m k x) := by
  unfold reportRun
  extract_lets sc m₁
  have h₁ : CrucKeeps m m₁ := by
    unfold m₁
    split
    · exact .refl
    next v l _ =>
      refine .report (.setF (.setF (.ite .refl (.setF (.setF .refl ?_) ?_)) ?_) ?_) <;> exact .inl (by decide)
  exact .ite h₁ (.report (.setF (.setF h₁ (.inl (by decide))) (.inl (by decide))))

/-- The registers that CLOSED programs write. -/
theorem crucKey_closed {f : Fld} (hb : f.blk = 5) (ho : 0x1200 ≤ f.off) (i : Nat) : crucKey (f.key i) := by
  refine .inr ?_
  simp only [Fld.key, Fld.addr, hb]
  omega

/-- What the kind of a run adds: beside it the pairs that are near. -/
theorem kindEvents_keeps (m : Mach) (r : CrucRun) (st : Nat) (z : Result) :
    ∃ near, CrucKeeps { m with cruc := { m.cruc with near := near } } (kindEvents m r st z) := by
  unfold kindEvents
  extract_lets _ k sc j piv cnt m₁ was m₂
  split
  · exact ⟨m.cruc.near, .ite (.report (.setF (.setF .refl (.inl (by decide))) (.inl (by decide)))) .refl⟩
  · have h₁ : CrucKeeps m m₁ := .setF (.setF .refl (crucKey_closed rfl (by decide) _)) (crucKey_closed rfl (by decide) _)
    exact ⟨m.cruc.near, .ite (.report (.setF h₁ (.inl (by decide)))) h₁⟩
  · have h₂ : CrucKeeps m m₂ := .foldl (fun _ _ => .ite .refl (.report .refl)) m
    exact ⟨sput m₂.cruc.near j z.near [], h₂.onCruc fun c => { c with near := sput m₂.cruc.near j z.near [] }⟩
  · exact ⟨m.cruc.near, .refl⟩

/-- A run stopped at the deadline: of the Crucible its iterate alone is new. -/
theorem stopRun_keeps (m : Mach) (r : CrucRun) (met : RunMet) :
    ∃ keep, CrucKeeps { m with cruc := { m.cruc with keep := keep } } (stopRun m r met) := by
  unfold stopRun
  extract_lets _ k sc ik m₁ m₂ q _ m₃
  have h₂ : CrucKeeps m m₂ := (putAttempt_keeps ..).trans (reportRun_keeps ..)
  split
  · exact ⟨m.cruc.keep, h₂⟩
  · refine ⟨m₃.cruc.keep, .report (.setF (.setF ?_ (.inl (by decide))) (.inl (by decide)))⟩
    exact h₂.onCruc fun c => { c with keep := m₃.cruc.keep }

/-! ## Starts (05 R154, R156) -/

/-- Whether the lane groups of a slot are free. -/
def groupsFree (m : Mach) (k : Nat) : Bool := m.cruc.run.all (fun r => (slotGroups m r.slot &&& slotGroups m k) == 0)

/-- From when on a ready program may start: one behind a busy group at once, another 16 fabric cycles later. -/
def earliestStart (rdy : Nat) (queued : Bool) : Nat := if queued then rdy else rdy + 32

/-- The run that starts, of a program other than IK_DLS. -/
def startedRun (m : Mach) (k t : Nat) : CrucRun := { slot := k, start := max m.cyc.now t, cycle := m.cyc.n, latch := latchOf m k, q0 := [], cold := false }

/-- The Crucible with that run. -/
def started (m : Mach) (k t : Nat) : Mach :=
  { at' m t with cruc := { m.cruc with wait := m.cruc.wait.filter (fun x => x.1 != k), run := m.cruc.run ++ [startedRun m k t],
                                       keep := (bitsOf 16 (slotGroups m k)).foldl sdel m.cruc.keep } }

section
variable {m : Mach} {k t rdy : Nat} {queued : Bool} {rest : List (Nat × Nat × Bool)}

/-- The first of the programs that wait starts once it may. -/
theorem programStart_starts (hw : m.cruc.wait = (k, rdy, queued) :: rest) (ho : m.cruc.isOpen = true) (hs : m.cyc.skip = false)
    (he : m.cruc.en = true) (hdue : earliestStart rdy queued ≤ t) (hdl : t < crucDeadline m) (hfree : groupsFree m k = true) (hk : slotKind m k ≠ 3) :
    programStart k t m = crucSync (started m k t) := by
  have hfind : m.cruc.wait.find? (fun w => w.1 == k) = some (k, rdy, queued) := by rw [hw]; simp
  unfold programStart
  extract_lets free may before m₁ start r _ m₂ sc m₃
  split
  next hn => exact absurd (hfind.symm.trans hn) (by simp)
  next w hsome =>
    obtain rfl : (k, rdy, queued) = w := Option.some.inj (hfind.symm.trans hsome)
    have hgroups : free k = true := hfree
    have htime : (if queued = true then rdy else rdy + 32) ≤ t := hdue
    have hmay : may (k, rdy, queued) = true := by simp only [may, hgroups, htime, decide_true, Bool.and_true]
    have hbefore : before = [] := by simp [before, hw]
    have hstart : start = ([], false) := if_neg hk
    have hm₃ : m₃ = m₂ := by simp [m₃, hstart]
    have hm₂ : m₂ = started m k t := by simp only [m₂, r, hstart]; rfl
    rw [if_neg (by simp [ho, hs, he, hdl, hmay, hbefore]), hm₃, hm₂]

/-- It does not start before, nor after the window. -/
theorem programStart_waits (hw : m.cruc.wait = (k, rdy, queued) :: rest)
    (h : m.cruc.isOpen = false ∨ m.cyc.skip = true ∨ m.cruc.en = false ∨ t < earliestStart rdy queued ∨ crucDeadline m ≤ t ∨ groupsFree m k = false) :
    programStart k t m = m := by
  have hfind : m.cruc.wait.find? (fun w => w.1 == k) = some (k, rdy, queued) := by rw [hw]; simp
  unfold programStart
  extract_lets free may before
  split
  · rfl
  next w hsome =>
    obtain rfl : (k, rdy, queued) = w := Option.some.inj (hfind.symm.trans hsome)
    have hno : (m.cruc.isOpen && !m.cyc.skip && m.cruc.en && decide (t < crucDeadline m) && may (k, rdy, queued)) = false := by
      rcases h with h | h | h | h | h | h
      · simp [h]
      · simp [h]
      · simp [h]
      · have htime : ¬ (if queued = true then rdy else rdy + 32) ≤ t := Nat.not_le.2 h
        simp only [may, htime, decide_false, Bool.and_false]
      · simp [Nat.not_lt.2 h]
      · have hgroups : free k = false := h
        simp only [may, hgroups, Bool.false_and, Bool.and_false]
    exact if_pos (by rw [hno]; rfl)

/-- None starts before an earlier one that may. -/
theorem programStart_behind {p : Nat} (hw : m.cruc.wait = (p, rdy, queued) :: rest) (hp : p ≠ k) (hdue : earliestStart rdy queued ≤ t)
    (hfree : groupsFree m p = true) : programStart k t m = m := by
  have hgroups : (m.cruc.run.all fun r => (slotGroups m r.slot &&& slotGroups m p) == 0) = true := hfree
  have htime : (if queued = true then rdy else rdy + 32) ≤ t := hdue
  unfold programStart
  extract_lets free may before
  split
  · rfl
  next w _ =>
    have hmay : may (p, rdy, queued) = true := by simp only [may, free, hgroups, htime, decide_true, Bool.and_true]
    have hbefore : before.any may = true := by
      simp [before, hw, hp, hmay]
    exact if_pos (by simp [hbefore])

theorem programStart_none (h : ∀ w ∈ m.cruc.wait, w.1 ≠ k) : programStart k t m = m := by
  have hnone : m.cruc.wait.find? (fun w => w.1 == k) = none := List.find?_eq_none.2 fun w hw => by simpa using h w hw
  simp only [programStart, hnone]

end

/-! ## Ends and aborts (05 R163, R165) -/

/-- What a run leaves as it ends, of the Crucible. -/
def endedCruc (c : CrucSt) (k now : Nat) : CrucSt := { c with run := c.run.filter (fun r => r.slot != k), fin := c.fin ++ [k], lastEnd := now }

theorem runEnds_regs (m : Mach) (k : Nat) (complete : Bool) :
    ∃ r, runEnds m k complete = { m with regs := r, cruc := endedCruc m.cruc k m.cyc.now } := by
  cases complete <;> exact ⟨_, rfl⟩

/-- The groups of the run are free then. -/
theorem runEnds_busy {m : Mach} {r : CrucRun} (h : m.cruc.run = [r]) (complete : Bool) : getF (runEnds m r.slot complete) CRUC_STATUS_BUSY = 0 := by
  unfold runEnds
  extract_lets m₁
  have h₁ : m₁.cruc = m.cruc := by
    unfold m₁
    split <;> rfl
  have hnone : m₁.cruc.run.filter (fun x => x.slot != r.slot) = [] := by simp [h₁, h]
  rw [getF_crucSync_busy, hnone]
  rfl

/-- An aborted run leaves every register but those of the status. -/
theorem runEnds_fields (m : Mach) (k : Nat) : FieldsBut (· ∈ crucStatusKeys) m (runEnds m k false) :=
  .trans (.of_regs rfl) (crucSync_fieldsBut { m with cruc := endedCruc m.cruc k m.cyc.now })

section
variable {m : Mach} {r : CrucRun} {t : Nat}

theorem find_run (h : m.cruc.run = [r]) : m.cruc.run.find? (fun x => x.slot == r.slot) = some r := by rw [h]; simp

theorem programEnd_late {x : ProgramRun} {k : Nat} (h : crucDeadline m ≤ t) : programEnd k t x m = m := by
  unfold programEnd
  split
  · rfl
  · exact if_pos h

theorem programRun_none {k : Nat} (h : ∀ r ∈ m.cruc.run, r.slot ≠ k) : m.cruc.run.find? (fun r => r.slot == k) = none :=
  List.find?_eq_none.2 fun r hr => by simpa using h r hr

/-- What the end of a run publishes and reports. -/
def runOutcome (m : Mach) (k : Nat) (r : CrucRun) : Mach :=
  match runProgram m r with
  | none => report (putAttempt m k stHELD) E_CRUC_INPUT_STALE 0 (slotScope m k).1 (slotScope m k).2 k
  | some (z, w) =>
    let st := degrade (z.st + stVALID + metBits (slotKind m k) w)
    kindEvents (reportRun (publish m r st z.hdr z.words) k w) r st z

theorem runOutcome_keeps (m : Mach) (k : Nat) (r : CrucRun) :
    ∃ near, CrucKeeps { m with cruc := { m.cruc with near := near } } (runOutcome m k r) := by
  unfold runOutcome
  split
  · exact ⟨m.cruc.near, .report (putAttempt_keeps ..)⟩
  next z w _ =>
    extract_lets _ st
    have hpub : CrucKeeps m (reportRun (publish m r st z.hdr z.words) k w) := (publish_keeps ..).trans (reportRun_keeps ..)
    obtain ⟨near, hkind⟩ := kindEvents_keeps (reportRun (publish m r st z.hdr z.words) k w) r st z
    exact ⟨near, (hpub.onCruc fun c => { c with near := near }).trans hkind⟩

/-- The end of the one run in time. -/
theorem programEnd_ends {x : ProgramRun} (h : m.cruc.run = [r]) (hi : m.ladle.items = []) (ht : t < crucDeadline m) :
    ∃ m₁ near, programEnd r.slot t x m = runEnds m₁ r.slot true ∧
      CrucKeeps { placeSection (at' m t) r.slot x.off with cruc := { m.cruc with near := near } } m₁ := by
  have hplace : (placeSection (at' m t) r.slot x.off).cruc = m.cruc ∧ (placeSection (at' m t) r.slot x.off).ladle = m.ladle := by
    unfold placeSection
    split <;> exact ⟨rfl, rfl⟩
  obtain ⟨near, hkeep⟩ := runOutcome_keeps (placeSection (at' m t) r.slot x.off) r.slot r
  rw [hplace.1] at hkeep
  refine ⟨runOutcome (placeSection (at' m t) r.slot x.off) r.slot r, near, ?_, hkeep⟩
  have hitems : (runEnds (runOutcome (placeSection (at' m t) r.slot x.off) r.slot r) r.slot true).ladle.items = [] := by
    obtain ⟨y, hy⟩ := runEnds_regs (runOutcome (placeSection (at' m t) r.slot x.off) r.slot r) r.slot true
    rw [hy]
    exact (congrArg LadleSt.items (hkeep.ladle.trans hplace.2)).trans hi
  have hend : programEnd r.slot t x m = finishKind (runEnds (runOutcome (placeSection (at' m t) r.slot x.off) r.slot r) r.slot true) 1 r.slot 1 := by
    rw [programEnd, find_run h]
    exact if_neg (Nat.not_le.2 ht)
  rw [hend, finishKind_none hitems]

/-- What an abort tells before the run ends. -/
def abortTold (m : Mach) (k : Nat) (r : CrucRun) (why : RunAbort) : Mach :=
  let code := if why.poison then E_CRUC_POISON else E_CRUC_PROG_FAULT
  let m₁ := putAttempt m k (degrade (stHELD + 2048 + 1024 * b2n why.poison + 512 * b2n r.cold + metBits (slotKind m k) why.met))
  let m₂ := flag (reportRun m₁ k why.met) CRUC_FLAGS_PROG_FAULT
  let m₃ := if why.poison then flag m₂ CRUC_FLAGS_POISON else m₂
  irq (report m₃ code (reacClass m₂ code k 2) (slotScope m k).1 (slotScope m k).2 k k) 108

theorem abortTold_keeps (m : Mach) (k : Nat) (r : CrucRun) (why : RunAbort) : CrucKeeps m (abortTold m k r why) := by
  unfold abortTold
  extract_lets code m₁ m₂ m₃
  have h₁ : CrucKeeps m m₁ := putAttempt_keeps ..
  have h₂ : CrucKeeps m m₂ := .setF (h₁.trans (reportRun_keeps ..)) (.inl (by decide))
  have h₃ : CrucKeeps m m₃ := .ite (.setF h₂ (.inl (by decide))) h₂
  exact h₃.trans (.of_served (.irq (.report .refl)))

/-- The flags of an abort. -/
theorem abortTold_flags (m : Mach) (k : Nat) (r : CrucRun) (why : RunAbort) :
    getF (abortTold m k r why) CRUC_FLAGS_PROG_FAULT = 1 ∧ (why.poison = true → getF (abortTold m k r why) CRUC_FLAGS_POISON = 1) := by
  unfold abortTold
  extract_lets code m₁ m₂ m₃
  have htold := (Served.irq (.report .refl) : Served m₃ (irq (report m₃ code (reacClass m₂ code k 2) (slotScope m k).1 (slotScope m k).2 k k) 108)).fields
  rw [htold CRUC_FLAGS_PROG_FAULT 0 (by decide), htold CRUC_FLAGS_POISON 0 (by decide)]
  have hfault : getF m₂ CRUC_FLAGS_PROG_FAULT = 1 := getF_setF_self ..
  refine ⟨?_, fun hp => ?_⟩
  · unfold m₃
    split
    · exact (getF_setF_ne _ _ _ _ _ _ (by decide)).trans hfault
    · exact hfault
  · have hm₃ : m₃ = flag m₂ CRUC_FLAGS_POISON := if_pos hp
    rw [hm₃]
    exact getF_setF_self ..

/-- The abort of the one run, up to the deadline. -/
theorem programAbort_aborts {why : RunAbort} (h : m.cruc.run = [r]) (hi : m.ladle.items = []) (ht : t ≤ crucDeadline m) :
    programAbort r.slot t why m = runEnds (abortTold (at' m t) r.slot r why) r.slot false := by
  have hitems : (runEnds (abortTold (at' m t) r.slot r why) r.slot false).ladle.items = [] := by
    obtain ⟨y, hy⟩ := runEnds_regs (abortTold (at' m t) r.slot r why) r.slot false
    rw [hy]
    exact (congrArg LadleSt.items (abortTold_keeps ..).ladle).trans hi
  have habort : programAbort r.slot t why m = finishKind (runEnds (abortTold (at' m t) r.slot r why) r.slot false) 1 r.slot 1 := by
    rw [programAbort, find_run h]
    exact if_neg (Nat.not_lt.2 ht)
  rw [habort, finishKind_none hitems]

end

/-! ## The deadline (06 R193 to R196) -/

/-- No field of the block INTC. -/
theorem usedSlots_irq (m : Mach) (n : Nat) : usedSlots (irq m n) = usedSlots m := by
  have hkeys : ∀ k ∈ List.range 64, CRUC_PROG_CFG_VALID.key k ∉ irqKeys := by decide
  exact List.filter_congr fun k hk => by rw [onF, onF, irq_fieldsBut m n _ k (hkeys k hk)]

/-- What the deadline leaves where no program has missed it. -/
def closedWindow (m : Mach) : Mach :=
  let m₁ := irq (at' m (crucDeadline m)) 21
  let used := (if m₁.cruc.run = [] then m₁.cruc.lastEnd else m₁.cyc.now) - m₁.cruc.winStart
  let m₂ := setF m₁ CRUC_CYC_USED_CYC 0 used
  let m₃ := if getF m₂ CRUC_CYC_MAX_MAX < used then setF m₂ CRUC_CYC_MAX_MAX 0 used else m₂
  crucSync { m₃ with cruc := { m₃.cruc with isOpen := false, run := [], wait := [], outside := [] } }

theorem crucibleDeadline_closed {m : Mach} (h : m.cruc.isOpen = false ∨ m.cyc.skip = true) (stops : List (Nat × RunMet)) :
    crucibleDeadline stops m = m := if_pos (by rcases h with h | h <;> simp [h])

theorem crucibleDeadline_closes {m : Mach} (ho : m.cruc.isOpen = true) (hs : m.cyc.skip = false) (hf : ∀ p ∈ usedSlots m, p ∈ m.cruc.fin)
    (stops : List (Nat × RunMet)) : crucibleDeadline stops m = closedWindow m := by
  have hnone : (usedSlots (irq (at' m (crucDeadline m)) 21)).filter (fun k => !(irq (at' m (crucDeadline m)) 21).cruc.fin.contains k) = [] := by
    refine List.filter_eq_nil_iff.2 fun p hp => ?_
    have hfin : p ∈ m.cruc.fin := hf p (by rw [usedSlots_irq] at hp; exact hp)
    simp [hfin]
  have hopen : ¬ (!m.cruc.isOpen || m.cyc.skip) = true := by simp [ho, hs]
  rw [crucibleDeadline, if_neg hopen]
  simp only [hnone, List.foldl_nil]
  rfl

/-! ## One missed slot (06 R193 to R195) -/

/-- The count of misses in a row of a slot. -/
theorem missRun_key {k : Nat} (hk : k < 64) : ¬ crucKey (CRUC_MISS_RUN_RUN.key k) := by
  simp only [crucKey, Fld.key, Fld.addr, CRUC_MISS_RUN_RUN]
  omega

/-- What a missed slot tells first: its run is stopped, or its attempt is held. -/
def missTold (stops : List (Nat × RunMet)) (m : Mach) (k : Nat) : Mach :=
  match m.cruc.run.find? (fun r => r.slot == k) with
  | some r => stopRun m r (((stops.find? (fun i => i.1 == k)).map (·.2)).getD {})
  | none => putAttempt m k stHELD

/-- Of the Crucible's state at most the iterates in the scratch of lane groups are new then, and nothing if the slot was not running. -/
theorem missTold_cruc (stops : List (Nat × RunMet)) (m : Mach) (k : Nat) :
    ∃ keep, CrucKeeps { m with cruc := { m.cruc with keep := keep } } (missTold stops m k) ∧
      ((∀ r ∈ m.cruc.run, r.slot ≠ k) → keep = m.cruc.keep) := by
  unfold missTold
  split
  next r hr =>
    obtain ⟨keep, h⟩ := stopRun_keeps m r (((stops.find? (fun i => i.1 == k)).map (·.2)).getD {})
    refine ⟨keep, h, fun hno => absurd hr ?_⟩
    rw [programRun_none hno]
    exact nofun
  · exact ⟨m.cruc.keep, putAttempt_keeps .., fun _ => rfl⟩

/-- What a missed slot shows. -/
structure Missed (m m' : Mach) (k : Nat) : Prop where
  flag : getF m' CRUC_DL_FLAGS_MISS = 1
  last : getF m' CRUC_DL_LAST_SLOT = k % 2 ^ CRUC_DL_LAST_SLOT.w
  run : getF m' CRUC_MISS_RUN_RUN k = satAdd (2 ^ CRUC_MISS_RUN_RUN.w - 1) (getF m CRUC_MISS_RUN_RUN k) 1
  source : 108 ∈ m'.intc.pend
  cruc : m'.cruc = { m.cruc with keep := m'.cruc.keep }
  idle : (∀ r ∈ m.cruc.run, r.slot ≠ k) → m'.cruc = m.cruc

theorem missSlot_missed (stops : List (Nat × RunMet)) (m : Mach) {k : Nat} (hk : k < 64) : Missed m (missSlot stops m k) k := by
  obtain ⟨keep, htold, hidle⟩ := missTold_cruc stops m k
  unfold missSlot
  extract_lets state sc m₁ m₂ m₃ run again cls m₄ old m₅
  have h₁ : CrucKeeps { m with cruc := { m.cruc with keep := keep } } m₁ := htold
  have h₃ : CrucKeeps m₂ m₃ := .setF (.setF (.setF .refl (.inl (by decide))) (.inl (by decide))) (.inl (by decide))
  have h₄ : CrucKeeps m₃ m₄ := .ite (.setF .refl (.inl (by decide))) .refl
  have h₅ : Served m₄ m₅ := .report .refl
  clear_value m₅
  have h₆ : ∀ l, Served m₄ (irq { m₅ with reacts := l } 108) := fun l => .irq (.reacts h₅)
  have hcruc : ∀ l, (irq { m₅ with reacts := l } 108).cruc = { m.cruc with keep := keep } := fun l => by
    rw [(h₆ l).cruc, h₄.cruc, h₃.cruc]
    exact h₁.cruc
  have hcount : FieldsBut (fun k => crucKey k ∧ k ≠ CRUC_DL_FLAGS_MISS.key 0 ∧ k ≠ CRUC_DL_LAST_SLOT.key 0) m₃ m₄ :=
    .ite (.setF _ (by decide)) .refl
  have hread : ∀ (g : Fld) (j : Nat) l, ¬ serviceKey (g.key j) → getF (irq { m₅ with reacts := l } 108) g j = getF m₄ g j :=
    fun g j l hg => (h₆ l).fields g j hg
  refine ⟨?_, ?_, ?_, mem_irq .., ?_, fun hno => ?_⟩
  · rw [hread _ _ _ (by decide), hcount _ _ (by decide)]
    have hlast : getF m₃ CRUC_DL_FLAGS_MISS = getF m₂ CRUC_DL_FLAGS_MISS := by
      simp only [m₃]
      rw [getF_setF_ne _ _ _ _ _ _ (by decide), getF_setF_ne _ _ _ _ _ _ (by decide), getF_setF_ne _ _ _ _ _ _ (by decide)]
    rw [hlast, show m₂ = setF _ CRUC_MISS_RUN_RUN k _ from rfl, getF_setF_above (by decide), getF_incF_ne _ _ _ _ _ _ (by decide)]
    exact getF_flag_self _ _ _ (by decide)
  · rw [hread _ _ _ (by decide), hcount _ _ (by decide)]
    simp only [m₃]
    rw [getF_setF_ne _ _ _ _ _ _ (by decide), getF_setF_ne _ _ _ _ _ _ (by decide), getF_setF_self]
  · have hkey := missRun_key hk
    have hservice : ¬ serviceKey (CRUC_MISS_RUN_RUN.key k) := fun h => hkey (crucKey_of_service h)
    have hbefore : CrucKeeps m₁ (incF (flag m₁ CRUC_DL_FLAGS_MISS) CRUC_DL_CNT_CNT 0 1) :=
      .setF (.setF .refl (.inl (by decide))) (.inl (by decide))
    rw [hread _ _ _ hservice, h₄.fields _ _ hkey, h₃.fields _ _ hkey, getF_incF_self, hbefore.fields _ _ hkey, h₁.fields _ _ hkey, satAdd_eq_min]
    rfl
  · rw [hcruc]
  · rw [hcruc, hidle hno]

/-! ## The statement -/

theorem started_busy (m : Mach) (k t : Nat) :
    getF (crucSync (started m k t)) CRUC_STATUS_BUSY = busyOf m (m.cruc.run ++ [startedRun m k t]) % 2 ^ CRUC_STATUS_BUSY.w :=
  getF_crucSync_busy _

theorem closedWindow_frame (m : Mach) : (closedWindow m).cruc.isOpen = false ∧ (closedWindow m).cruc.run = [] ∧ (closedWindow m).cruc.wait = [] ∧
    getF (closedWindow m) CRUC_STATUS_WINDOW = 0 ∧ 21 ∈ (closedWindow m).intc.pend ∧ (closedWindow m).cyc.now = max m.cyc.now (crucDeadline m) ∧
    (closedWindow m).mem = m.mem := by
  unfold closedWindow
  extract_lets m₁ used m₂ m₃ _
  have h₃ : RegsOnly m₁ m₃ := .ite (.setF (.setF .refl)) (.setF .refl)
  have hsync := fun x : CrucSt => crucSync_regsOnly { m₃ with cruc := x }
  have hintc : m₃.intc = m₁.intc := by obtain ⟨r, h⟩ := h₃; rw [h]
  have hnow : m₁.cyc.now = max m.cyc.now (crucDeadline m) := by rw [show m₁ = irq (at' m (crucDeadline m)) 21 from rfl, irq_cyc]; rfl
  refine ⟨by rw [crucSync_cruc], by rw [crucSync_cruc], by rw [crucSync_cruc], by rw [getF_crucSync_window]; rfl, ?_, ?_, ?_⟩
  · rw [crucSync_intc]
    exact hintc ▸ mem_irq (at' m (crucDeadline m)) 21
  · rw [(hsync _).cyc]
    exact (congrArg CycSt.now h₃.cyc).trans hnow
  · rw [(hsync _).mem]
    exact h₃.mem.trans (irq_mem ..)

/-- The offset of a section is noted at its instant as before it. -/
theorem placeSection_at (m : Mach) (k off t : Nat) : (placeSection (at' m t) k off).crucSecs = (placeSection m k off).crucSecs := by
  unfold placeSection
  rw [at_crucSecs]
  split <;> rfl

theorem placeSection_now (m : Mach) (k off t : Nat) : (placeSection (at' m t) k off).cyc.now = max m.cyc.now t := by
  unfold placeSection
  split <;> rfl

/-- Settles O47: starts, ends and aborts by their branches, with what publishing and reporting leave (`CrucKeeps`); the deadline without a
miss, and each miss. -/
theorem crucibleProgramsRunInTheWindow : Obligations.CrucibleProgramsRunInTheWindow := by
  intro k t r x why stops s m c free due groups
  have keeps {i : Instr} {g : Mach → Mach} (hi : exec i s = done g s) (h : g m = m) : exec i s = .next s := hi.trans (done_same h)
  refine ⟨fun rdy queued rest hw ho hs he hdue hdl hfree hk => ?_, fun rdy queued rest hw h => ?_, fun p rdy queued rest hw hp hdue hfree => ?_,
    fun h => ?_, fun h => ?_, fun hrun hr hi => ?_, fun h => ?_, fun ho hs hf => ?_, fun hk => ?_⟩
  · refine ⟨_, (exec_crucibleProgramStart ..).trans (done_eq (programStart_starts hw ho hs he hdue hdl hfree hk)), ?_, ?_, ?_, ?_,
      startedRun m k t, rfl, rfl, rfl, rfl, ?_, started_busy m k t⟩
    · rw [(crucSync_regsOnly _).mem]; rfl
    · rw [(crucSync_regsOnly _).cyc]; rfl
    · rw [crucSync_cruc]
      have hwait : s.m.cruc.wait = (k, rdy, queued) :: rest := hw
      simp [started, hwait]
    · rw [crucSync_cruc]; exact ho
    · rw [crucSync_cruc]; rfl
  · exact keeps (exec_crucibleProgramStart ..) (programStart_waits hw h)
  · exact keeps (exec_crucibleProgramStart ..) (programStart_behind hw hp hdue hfree)
  · exact keeps (exec_crucibleProgramStart ..) (programStart_none h)
  · refine ⟨keeps (exec_crucibleProgramEnd ..) ?_, keeps (exec_crucibleProgramAbort ..) ?_⟩
    · rw [programEnd, programRun_none h]
    · rw [programAbort, programRun_none h]
  · subst hr
    refine ⟨fun ht => ?_, fun ht => ?_, fun ht => ?_⟩
    · exact keeps (exec_crucibleProgramEnd ..) (programEnd_late ht)
    · obtain ⟨m₁, near, hend, hkeep⟩ := programEnd_ends (x := x) hrun hi ht
      obtain ⟨y, hy⟩ := runEnds_regs m₁ r.slot true
      have hrun₁ : m₁.cruc.run = [r] := (congrArg CrucSt.run hkeep.cruc).trans hrun
      have hfin₁ : m₁.cruc.fin = m.cruc.fin := by rw [hkeep.cruc]
      refine ⟨_, (exec_crucibleProgramEnd ..).trans (done_eq hend), ?_, ?_, ?_, runEnds_busy hrun₁ true, ?_⟩
      · rw [hy]; simp [endedCruc, hrun₁]
      · rw [hy]; exact congrArg (· ++ [r.slot]) hfin₁
      · rw [hy]
        exact hkeep.crucSecs.trans (placeSection_at m r.slot x.off t)
      · rw [hy]
        exact (congrArg CycSt.now hkeep.cyc).trans (placeSection_now m r.slot x.off t)
    · have hkeep := abortTold_keeps (at' m t) r.slot r why
      obtain ⟨hfault, hpoison⟩ := abortTold_flags (at' m t) r.slot r why
      have hfields := runEnds_fields (abortTold (at' m t) r.slot r why) r.slot
      obtain ⟨y, hy⟩ := runEnds_regs (abortTold (at' m t) r.slot r why) r.slot false
      have hrun₁ : (abortTold (at' m t) r.slot r why).cruc.run = [r] := (congrArg CrucSt.run hkeep.cruc).trans hrun
      refine ⟨_, (exec_crucibleProgramAbort ..).trans (done_eq (programAbort_aborts hrun hi ht)), ?_, ?_, ?_, fun hp => ?_, ?_, ?_⟩
      · rw [hy]; simp [endedCruc, hrun₁]
      · rw [hy]; exact congrArg (· ++ [r.slot]) (congrArg CrucSt.fin hkeep.cruc)
      · exact (hfields _ 0 (by decide)).trans hfault
      · exact (hfields _ 0 (by decide)).trans (hpoison hp)
      · rw [hy]; exact mem_irq ..
      · rw [hy]; exact congrArg CycSt.now hkeep.cyc
  · exact keeps (exec_crucibleDeadline ..) (crucibleDeadline_closed h stops)
  · exact ⟨_, (exec_crucibleDeadline ..).trans (done_eq (crucibleDeadline_closes ho hs hf stops)), closedWindow_frame m⟩
  · obtain ⟨hflag, hlast, hcount, hsource, hcruc, hidle⟩ := missSlot_missed stops m hk
    exact ⟨hflag, hlast, hcount, hsource, hcruc, hidle⟩

end Sys2Proof.Machine
end

section
/-! PROOFS. The safety cycle, the mirror and the configuration of the island (02 R72, R73, 15 R437, R438, R459 to R468): what a safety cycle
leaves, and the statement. -/

namespace Sys2Proof.Machine

/-! ## The commands of this statement -/

theorem exec_safetyCycleStart (t edm mism : Nat) (s : State) : exec (.safetyCycleStart t edm mism) s = done (safetyCycle t edm mism) s := rfl
theorem exec_mirrorPublish (s : State) : exec .mirrorPublish s = done mirrorPublish s := rfl
theorem exec_mirrorLatchRead (port : Nat) (s : State) : exec (.mirrorLatchRead port) s = done (mirrorLatch port) s := rfl
theorem exec_mirrorStale (s : State) : exec .mirrorStale s = done mirrorStale s := rfl
theorem exec_mailboxPost (s : State) : exec .mailboxPost s = done mailboxPost s := rfl
theorem exec_safeConfig (j : Job) (s : State) : exec (.safeConfig j) s = done (runJob 0x0D01 safeConfig j) s := rfl
theorem exec_configLoad (s : State) : exec .configLoad s = done configLoad s := rfl
theorem exec_configSeal (s : State) : exec .configSeal s = done configSeal s := rfl
theorem exec_configCommission (s : State) : exec .configCommission s = done configCommission s := rfl
theorem exec_configKey (s : State) : exec .configKey s = done configKey s := rfl
theorem exec_confirmTimeout (s : State) : exec .confirmTimeout s = done confirmTimeout s := rfl

/-! ## What the work of a safety cycle leaves (15 R438) -/

/-- What the start of a safety cycle has set: the outputs in force, its instant and number, and the presses that it judges. -/
def cycleSide (s : SafeSt) : Nat × Nat × Int × Bool × Nat × Nat := (s.out, s.sto, s.start, s.begun, s.k, s.presses)

/-- From `m` to `m'` memory, cell time and what the start of the safety cycle has set are as they were. -/
structure IslandHeld (m m' : Mach) : Prop where
  mem : m'.mem = m.mem
  cyc : m'.cyc = m.cyc
  side : cycleSide m'.safe = cycleSide m.safe

namespace IslandHeld
variable {m m' m'' : Mach}

theorem refl : IslandHeld m m := ⟨rfl, rfl, rfl⟩
theorem trans (h : IslandHeld m m') (h' : IslandHeld m' m'') : IslandHeld m m'' := ⟨h'.mem.trans h.mem, h'.cyc.trans h.cyc, h'.side.trans h.side⟩
theorem ite {c : Prop} [Decidable c] {a b : Mach} (ha : IslandHeld m a) (hb : IslandHeld m b) : IslandHeld m (if c then a else b) := by
  split
  · exact ha
  · exact hb
theorem foldl {α : Type} {f : Mach → α → Mach} {l : List α} (h : ∀ m x, IslandHeld m (f m x)) (m : Mach) : IslandHeld m (l.foldl f m) :=
  foldl_related (R := IslandHeld) (fun _ => refl) trans (fun x _ m => h m x) m
/-- The island's state changed beside what the start has set. -/
theorem onSafe (h : IslandHeld m m') {f : SafeSt → SafeSt} (hf : cycleSide (f m'.safe) = cycleSide m'.safe) : IslandHeld m (onSafe m' f) :=
  h.trans ⟨rfl, rfl, hf⟩
theorem setF (h : IslandHeld m m') {f : Fld} {i v : Nat} : IslandHeld m (setF m' f i v) := h.trans ⟨rfl, rfl, rfl⟩
end IslandHeld

theorem safeCount_held (m : Mach) (i : Nat) : IslandHeld m (safeCount m i) := .onSafe .refl rfl
theorem safeNews_held (m : Mach) (code cls kind id detail : Nat) : IslandHeld m (safeNews m code cls kind id detail) := .onSafe .refl rfl
theorem safeNode_held (m : Mach) (code cls detail : Nat) : IslandHeld m (safeNode m code cls detail) := safeNews_held ..

theorem lockIsland_held (m : Mach) (code : Nat) : IslandHeld m (lockIsland m code) :=
  .ite (.trans (.onSafe .refl rfl) (safeCount_held ..)) .refl

theorem freezeInputs_held (edm mism : Nat) (m : Mach) : IslandHeld m (freezeInputs edm mism m) := by
  unfold freezeInputs
  extract_lets wait run
  exact .onSafe .refl rfl

/-! ### Connections and frames -/

theorem takeConn_held (fresh : List (List Nat)) (m : Mach) (c : Nat) : IslandHeld m (takeConn fresh m c) := by
  unfold takeConn
  extract_lets r x n x₁ want got x₂ m₁ m₂ lock m₃ m₄
  have h₁ : IslandHeld m m₁ := .onSafe .refl rfl
  have h₂ : IslandHeld m m₂ := .ite (h₁.trans (safeCount_held ..)) h₁
  have h₃ : IslandHeld m m₃ := (IslandHeld.onSafe h₂ rfl).trans (safeCount_held ..)
  have h₄ : IslandHeld m m₄ := h₃.trans (safeNode_held ..)
  exact .ite h₂ (.ite (.ite (h₂.trans (lockIsland_held ..)) h₂) (.ite (h₄.trans (lockIsland_held ..)) h₄))

theorem countCrc_held (m : Mach) (l : List Nat) : IslandHeld m (countCrc m l) := by
  unfold countCrc
  extract_lets rs mine
  exact .ite (safeCount_held ..) .refl

theorem takeConns_held (m : Mach) : IslandHeld m (takeConns m) := by
  unfold takeConns
  extract_lets fresh m₁ m₂ keep
  have h₁ : IslandHeld m m₁ := .foldl countCrc_held m
  have h₂ : IslandHeld m₁ m₂ := .foldl (takeConn_held fresh) m₁
  clear_value m₁ m₂
  exact .onSafe (h₁.trans h₂) rfl

theorem mbxResult_held (m : Mach) (code det : Nat) : IslandHeld m (mbxResult m code det) := .onSafe .refl rfl

theorem takeFrame_held (m : Mach) : IslandHeld m (takeFrame m) := by
  unfold takeFrame
  extract_lets m₁ fr
  have h₁ : IslandHeld m m₁ := .setF .refl
  refine .ite .refl ?_
  split
  · exact h₁.trans (mbxResult_held ..)
  · split
    · exact .onSafe h₁ rfl
    · exact (IslandHeld.onSafe h₁ rfl).trans (mbxResult_held ..)
    · exact (IslandHeld.onSafe h₁ rfl).trans (mbxResult_held ..)
    · exact (IslandHeld.onSafe h₁ rfl).trans (mbxResult_held ..)

/-! ### Axis sets -/

theorem putSet_held (m : Mach) (s : Nat) (x : SetSt) : IslandHeld m (putSet m s x) := .onSafe .refl rfl

theorem lockSet_held (m : Mach) (s code cntr slot detail : Nat) : IslandHeld m (lockSet m s code cntr slot detail) := by
  unfold lockSet
  extract_lets _ m₁ m₂
  have h₁ : IslandHeld m m₁ := putSet_held ..
  have h₂ : IslandHeld m m₂ := (IslandHeld.onSafe h₁ rfl).trans ((safeCount_held ..).trans (safeCount_held ..))
  split
  · exact h₂.trans (safeNews_held ..)
  · exact h₂.trans (safeNode_held ..)

theorem stopStep_held (m : Mach) (s : Nat) (x : SetSt) : IslandHeld m (stopStep m s x) := by
  unfold stopStep
  extract_lets r x₁ vz tooFast
  have hlock : ∀ code cntr slot detail, IslandHeld m (lockSet (putSet m s x₁) s code cntr slot detail) := fun _ _ _ _ =>
    (putSet_held ..).trans (lockSet_held ..)
  split
  · exact hlock ..
  · refine .ite (.ite (putSet_held ..) (putSet_held ..)) (.ite (.ite (putSet_held ..) ?_) (putSet_held ..))
    split
    · exact hlock ..
    · exact putSet_held ..

theorem superviseSet_held (m : Mach) (s num den : Nat) : IslandHeld m (superviseSet m s num den) := by
  unfold superviseSet
  extract_lets x r off
  refine .ite ?_ (.ite ?_ .refl)
  · split
    · exact lockSet_held ..
    · exact .refl
  · split
    · exact lockSet_held ..
    · exact .refl

theorem setStep_held (m : Mach) (s dem num den : Nat) : IslandHeld m (setStep m s dem num den) := by
  unfold setStep
  extract_lets x n
  exact .ite .refl (.ite (putSet_held ..) (.ite (putSet_held ..) (.ite ((stopStep_held ..).trans (superviseSet_held ..))
    ((putSet_held ..).trans (superviseSet_held ..)))))

theorem stepSets_held (m : Mach) : IslandHeld m (stepSets m) :=
  .ite .refl (.foldl (fun _ _ => .ite (setStep_held ..) (setStep_held ..)) m)

theorem observeAxes_held (m : Mach) : IslandHeld m (observeAxes m) := by
  unfold observeAxes
  extract_lets ports m₁
  have h₁ : IslandHeld m m₁ := .foldl (fun m k => .onSafe .refl rfl) m
  refine h₁.trans (.foldl (fun m i => ?_) m₁)
  extract_lets r o bad m₂
  have h₂ : IslandHeld m m₂ := .onSafe .refl rfl
  refine .ite h₂ ?_
  split
  · exact .ite h₂ (h₂.trans (lockSet_held ..))
  · exact h₂.trans ((safeCount_held ..).trans (safeNode_held ..))

/-! ### Sensors and separation (16) -/

theorem takeSensor_held (p : SepCfg) (m : Mach) (r : List Nat) : IslandHeld m (takeSensor p m r) := by
  unfold takeSensor
  extract_lets k x bad st2 got y lose m₁
  have h₁ : IslandHeld m m₁ := .onSafe .refl rfl
  exact .ite (h₁.trans (safeNode_held ..)) h₁

theorem takeSensors_held (m : Mach) : IslandHeld m (takeSensors m) := by
  unfold takeSensors
  split
  · exact .refl
  next p _ => exact .onSafe (.foldl (takeSensor_held p) m) rfl

theorem sepSet_held (p : SepCfg) (caps : List (Nat × Option Capsule)) (reset : Bool) (m : Mach) (s : Nat) :
    IslandHeld m (sepSet p caps reset m s) := by
  unfold sepSet
  extract_lets x d age q mdl ok manual clears stop fq m₁ m₂
  have h₁ : IslandHeld m m₁ := .ite (safeNode_held ..) .refl
  have h₂ : IslandHeld m m₂ := .ite (h₁.trans (safeNode_held ..)) h₁
  exact h₂.trans (putSet_held ..)

theorem sepSources_held (p : SepCfg) (m : Mach) : IslandHeld m (sepSources p m) := by
  unfold sepSources
  extract_lets srcs bad m₁
  have h₁ : IslandHeld m m₁ := .foldl (fun m x => safeNode_held ..) m
  exact .onSafe h₁ rfl

theorem separate_held (reset : Bool) (m : Mach) : IslandHeld m (separate reset m) := by
  unfold separate
  split
  · exact .refl
  next p _ => exact .ite .refl ((sepSources_held p m).trans (.foldl (sepSet_held p _ reset) _))

theorem limitSets_held (m : Mach) : IslandHeld m (limitSets m) := by
  unfold limitSets
  split
  · exact .refl
  · exact .foldl (fun m s => putSet_held ..) m

/-! ### Presses and outputs -/

theorem acceptReset_held (m : Mach) : IslandHeld m (acceptReset m) :=
  (IslandHeld.onSafe .refl rfl).trans ((safeCount_held ..).trans (safeNode_held ..))

theorem judgePress_held (m : Mach) : IslandHeld m (judgePress m).1 := by
  unfold judgePress
  split
  next op d _ => exact .onSafe (f := fun s => { s with confirm := some (op, d, true) }) .refl rfl
  · split
    · exact safeCount_held ..
    · split
      · exact (safeCount_held ..).trans (safeNode_held ..)
      · exact acceptReset_held m

theorem judgePresses_held (n : Nat) (m : Mach) (b : Bool) : IslandHeld m (judgePresses n (m, b)).1 := by
  induction n generalizing m b with
  | zero => exact .refl
  | succ n ih => exact (judgePress_held m).trans (ih (judgePress m).1 (b || (judgePress m).2))

theorem edmFail_held (m : Mach) (o : Nat) : IslandHeld m (edmFail m o) :=
  .ite .refl ((IslandHeld.onSafe .refl rfl).trans ((safeCount_held ..).trans ((safeNode_held ..).trans (lockIsland_held ..))))

theorem computeOutputs_held (m : Mach) : IslandHeld m (computeOutputs m) := by
  unfold computeOutputs
  extract_lets want stuck m₁ ok sto
  have h₁ : IslandHeld m m₁ := .foldl edmFail_held m
  exact .onSafe h₁ rfl

/-! ## The start of a safety cycle (02 R72, R73) -/

/-- The number that the cycle called for tick `t` takes. -/
def begunNumber (m : Mach) (t : Nat) : Nat :=
  if m.safe.begun then safetyNumber m (m.safe.start + 200000).toNat else safetyNumber m (safetyStart m t)

/-- What the start of a safety cycle sets. -/
structure Begun (t : Nat) (m m' : Mach) : Prop where
  mem : m'.mem = m.mem
  now : m'.cyc.now = max m.cyc.now (safetyStart m t)
  start : m'.safe.start = (safetyStart m t : Int)
  begun : m'.safe.begun = true
  number : m'.safe.k = begunNumber m t % 2 ^ 64
  next : (m'.safe.outNext, m'.safe.stoNext, m'.safe.st) = (m.safe.outNext, m.safe.stoNext, m.safe.st)

theorem beginSafety_begun (t : Nat) (m : Mach) : Begun t m (beginSafety t m) := by
  unfold beginSafety
  extract_lets t₁ k m₁ age off lost m₂
  have h₂ : m₂.mem = m.mem ∧ m₂.cyc = m₁.cyc ∧ (m₂.safe.outNext, m₂.safe.stoNext, m₂.safe.st) = (m.safe.outNext, m.safe.stoNext, m.safe.st) := by
    unfold m₂
    split <;> exact ⟨rfl, rfl, rfl⟩
  obtain ⟨hmem, hcyc, hnext⟩ := h₂
  exact ⟨hmem, congrArg CycSt.now hcyc, rfl, rfl, rfl, hnext⟩

/-- Off and halted, the island starts no safety cycle. -/
theorem safetyCycle_idle {m : Mach} (h : m.safe.st = 0 ∨ m.safe.st = 6) (t edm mism : Nat) : safetyCycle t edm mism m = m := if_pos h

/-- What a safety cycle leaves. -/
structure CycleStarted (t : Nat) (m m' : Mach) : Prop where
  out : m'.safe.out = m.safe.outNext
  sto : m'.safe.sto = m.safe.stoNext
  start : m'.safe.start = (safetyStart m t : Int)
  begun : m'.safe.begun = true
  now : m'.cyc.now = max m.cyc.now (safetyStart m t)
  presses : m.safe.st ≠ 1 → m'.safe.presses = 0
  mem : m'.mem = m.mem
  number : m'.safe.k = begunNumber m t % 2 ^ 64

theorem safetyCycle_starts {m : Mach} (h₀ : m.safe.st ≠ 0) (h₆ : m.safe.st ≠ 6) (t edm mism : Nat) :
    CycleStarted t m (safetyCycle t edm mism m) := by
  unfold safetyCycle
  rw [if_neg (by simp [h₀, h₆])]
  extract_lets m₁ m₂ m₃ m₄ m₅ r m₆
  obtain ⟨hmem, hnow, hstart, hbegun, hnumber, hnext⟩ : Begun t m m₁ := beginSafety_begun t m
  clear_value m₁
  obtain ⟨hout, hsto, hst⟩ : m₁.safe.outNext = m.safe.outNext ∧ m₁.safe.stoNext = m.safe.stoNext ∧ m₁.safe.st = m.safe.st := by simpa using hnext
  split
  next h₁ => exact ⟨hout, hsto, hstart, hbegun, hnow, fun hne => absurd (hst.symm.trans h₁) hne, hmem, hnumber⟩
  · have h₃ : IslandHeld m₂ m₃ := freezeInputs_held edm mism m₂
    have h₄ : IslandHeld m₃ m₄ := takeConns_held m₃
    have h₅ : IslandHeld m₄ m₅ := (takeFrame_held m₄).trans ((observeAxes_held (takeFrame m₄)).trans (takeSensors_held (observeAxes (takeFrame m₄))))
    have hr : IslandHeld m₅ r.1 := judgePresses_held m₅.safe.presses m₅ false
    clear_value r m₅ m₄ m₃
    have hwork : IslandHeld m₆ (computeOutputs (stepSets (limitSets (separate r.2 m₆)))) :=
      (separate_held r.2 m₆).trans ((limitSets_held _).trans ((stepSets_held _).trans (computeOutputs_held _)))
    have hheld : IslandHeld m₂ r.1 := h₃.trans (h₄.trans (h₅.trans hr))
    have hside : cycleSide m₆.safe = (m₁.safe.outNext, m₁.safe.stoNext, m₁.safe.start, m₁.safe.begun, m₁.safe.k, 0) := by
      have h := hheld.side
      simp only [cycleSide, Prod.mk.injEq] at h
      obtain ⟨hout', hsto', hstart', hbegun', hnumber', -⟩ := h
      simp [m₆, cycleSide, onSafe, hout', hsto', hstart', hbegun', hnumber', m₂]
    have hend := hwork.side.trans hside
    simp only [cycleSide, Prod.mk.injEq] at hend
    obtain ⟨hout', hsto', hstart', hbegun', hnumber', hpresses⟩ := hend
    have hcyc : m₆.cyc = m₁.cyc := hheld.cyc
    have hmem₆ : m₆.mem = m₁.mem := hheld.mem
    exact ⟨hout'.trans hout, hsto'.trans hsto, hstart'.trans hstart, hbegun'.trans hbegun, (congrArg CycSt.now (hwork.cyc.trans hcyc)).trans hnow,
      fun _ => hpresses, (hwork.mem.trans hmem₆).trans hmem, hnumber'.trans hnumber⟩

/-- The first cycle starts where it falls, with the number of its instant. -/
theorem safetyCycle_first {m : Mach} (h : m.safe.begun = false) (t : Nat) :
    safetyStart m t = t ∧ begunNumber m t = (t + 100000) / 200000 := by
  have hstart : safetyStart m t = t := by simp [safetyStart, h]
  exact ⟨hstart, by simp [begunNumber, safetyNumber, h, hstart]⟩

/-- A later one takes the next number, but for the first with a marker after a step of cell time. -/
theorem begunNumber_next {m : Mach} (h : m.safe.begun = true) (hanew : m.safe.anew ≠ 2) (t : Nat) : begunNumber m t = m.safe.k + 1 := by
  simp [begunNumber, safetyNumber, h, hanew]

/-! ### Its instant -/

/-- Once cycles have begun, one starts within 40 ticks of the instant to which it is steered. -/
theorem safetyStart_near {m : Mach} (h : m.safe.begun = true) (hp : 240 ≤ m.safe.start + 200000) (t : Nat)
    (hlo : -200 ≤ cycleShift m) :
    m.safe.start + 200000 + cycleShift m - 40 ≤ (safetyStart m t : Int) ∧ (safetyStart m t : Int) ≤ m.safe.start + 200000 + cycleShift m + 40 := by
  simp only [safetyStart, h, if_true]
  generalize cycleShift m = c at hlo ⊢
  omega

theorem cycleShift_bounds (m : Mach) : -200 ≤ cycleShift m ∧ cycleShift m ≤ 200 := by
  unfold cycleShift clampI
  extract_lets p
  split <;> omega

/-- Without a marker since its start the cycle that ends is not steered. -/
theorem cycleShift_free {m : Mach} (h : ¬ (m.safe.markAge = 0 ∧ m.safe.anew ≠ 1)) : cycleShift m = 0 := if_neg h

/-- With one it is steered to the instant of the next number, where that is within 200 ticks. -/
theorem cycleShift_steers {m : Mach} (h : m.safe.markAge = 0 ∧ m.safe.anew ≠ 1)
    (hlo : (safetyNumber m (m.safe.start + 200000).toNat : Int) * 200000 - 200 ≤ m.safe.start + 200000)
    (hhi : m.safe.start + 200000 ≤ (safetyNumber m (m.safe.start + 200000).toNat : Int) * 200000 + 200) :
    m.safe.start + 200000 + cycleShift m = (safetyNumber m (m.safe.start + 200000).toNat : Int) * 200000 := by
  unfold cycleShift clampI
  extract_lets p
  rw [if_pos h]
  generalize (safetyNumber m p.toNat : Int) * 200000 = z at hlo hhi ⊢
  omega

/-- So it starts within 240 ticks of one cycle after the last, within 40 where it is not steered, and within 40 of the instant of its number
where that is near. -/
theorem safetyStart_bounds {m : Mach} (h : m.safe.begun = true) (hp : 240 ≤ m.safe.start + 200000) (t : Nat) :
    m.safe.start + 200000 - 240 ≤ (safetyStart m t : Int) ∧ (safetyStart m t : Int) ≤ m.safe.start + 200000 + 240 ∧
      (¬ (m.safe.markAge = 0 ∧ m.safe.anew ≠ 1) →
        m.safe.start + 200000 - 40 ≤ (safetyStart m t : Int) ∧ (safetyStart m t : Int) ≤ m.safe.start + 200000 + 40) ∧
      (m.safe.markAge = 0 ∧ m.safe.anew ≠ 1 →
        (safetyNumber m (m.safe.start + 200000).toNat : Int) * 200000 - 200 ≤ m.safe.start + 200000 →
        m.safe.start + 200000 ≤ (safetyNumber m (m.safe.start + 200000).toNat : Int) * 200000 + 200 →
        (safetyNumber m (m.safe.start + 200000).toNat : Int) * 200000 - 40 ≤ (safetyStart m t : Int) ∧
          (safetyStart m t : Int) ≤ (safetyNumber m (m.safe.start + 200000).toNat : Int) * 200000 + 40) := by
  obtain ⟨hmin, hmax⟩ := cycleShift_bounds m
  obtain ⟨hfrom, hto⟩ := safetyStart_near h hp t hmin
  refine ⟨by omega, by omega, fun hno => ?_, fun hs hz hz' => ?_⟩
  · rw [cycleShift_free hno] at hfrom hto
    omega
  · rw [cycleShift_steers hs hz hz'] at hfrom hto
    exact ⟨hfrom, hto⟩

/-! ## What leaves the island and the state of its mirror (15 R465) -/

/-- Every register but MIR_STAT and STALE_CNT. -/
abbrev besideMirror (k : Nat) : Prop := k < 0x400D0100 * 32 ∨ 0x400D0108 * 32 ≤ k

theorem besideMirror_of_service {k : Nat} (h : serviceKey k) : besideMirror k := by
  rcases h with h | h
  · exact .inl (h.trans (by decide))
  · exact .inr (Nat.le_trans (by decide) h)

/-- A field of a block below SAFE. -/
theorem besideMirror_of_block {f : Fld} {i : Nat} (hb : f.blk ≤ 12) (hi : f.off + f.stride * i < 0x10000) (hl : f.lsb < 32) :
    besideMirror (f.key i) := by
  refine .inl ?_
  simp only [Fld.key, Fld.addr]
  omega

/-- From `m` to `m'` the island's state, its mirror's state and the groups of the model are as they were. -/
structure SafeKeeps (m m' : Mach) : Prop where
  safe : m'.safe = m.safe
  groups : m'.mould.groups = m.mould.groups
  fields : FieldsBut besideMirror m m'

namespace SafeKeeps
variable {m m' m'' : Mach}

theorem refl : SafeKeeps m m := ⟨rfl, rfl, .refl⟩
theorem trans (h : SafeKeeps m m') (h' : SafeKeeps m' m'') : SafeKeeps m m'' :=
  ⟨h'.safe.trans h.safe, h'.groups.trans h.groups, h.fields.trans h'.fields⟩
theorem ite {c : Prop} [Decidable c] {a b : Mach} (ha : SafeKeeps m a) (hb : SafeKeeps m b) : SafeKeeps m (if c then a else b) := by
  split
  · exact ha
  · exact hb
theorem foldl {α : Type} {f : Mach → α → Mach} {l : List α} (h : ∀ x ∈ l, ∀ m, SafeKeeps m (f m x)) (m : Mach) : SafeKeeps m (l.foldl f m) :=
  foldl_related (R := SafeKeeps) (fun _ => refl) trans h m
theorem of_served (h : Served m m') : SafeKeeps m m' :=
  ⟨h.safe, by rw [h.mould], h.fields.mono fun _ => besideMirror_of_service⟩
theorem setF (h : SafeKeeps m m') {f : Fld} {i v : Nat} (hf : besideMirror (f.key i)) : SafeKeeps m (setF m' f i v) :=
  h.trans ⟨rfl, rfl, .setF v hf⟩
theorem report (h : SafeKeeps m m') {code cls kind id detail index : Nat} : SafeKeeps m (report m' code cls kind id detail index) :=
  h.trans (.of_served (.report .refl))
theorem irq (h : SafeKeeps m m') {n : Nat} : SafeKeeps m (irq m' n) := h.trans (.of_served (.irq .refl))
/-- What the Tap keeps changed. -/
theorem onTap (h : SafeKeeps m m') {x : TapSt} : SafeKeeps m { m' with tap := x } := h.trans ⟨rfl, rfl, .of_regs rfl⟩
/-- What of the island changes, changes before as after. -/
theorem onSafe (h : SafeKeeps m m') (f : SafeSt → SafeSt) : SafeKeeps (onSafe m f) (onSafe m' f) := ⟨congrArg f h.safe, h.groups, h.fields⟩
end SafeKeeps

/-! ### A slot cut (09 R287) -/

theorem addCompl_safe (m : Mach) (c : Compl) : SafeKeeps m (addCompl m c) := .ite .refl ⟨rfl, rfl, .of_regs rfl⟩

theorem release_safe (m : Mach) (func kind inst : Nat) : SafeKeeps m (release m func kind inst) := ⟨rfl, rfl, .of_regs rfl⟩

theorem releaseAll_safe (m : Mach) (func kind : Nat) : SafeKeeps m (releaseAll m func kind) := ⟨rfl, rfl, .of_regs rfl⟩

theorem setOwner_safe (m : Mach) {o : Nat} (ho : o < 8) (owner : Nat) (pol : Bool) (t : Nat) : SafeKeeps m (setOwner m o owner pol t) := by
  have hkey : ∀ f ∈ outputFields, besideMirror (f.key o) := fun f hf => by
    obtain ⟨hb, -, hhi, hs, hl⟩ := outputFields_place f hf
    exact besideMirror_of_block (by omega) (by rw [hs]; omega) hl
  have hset : SafeKeeps m (setB (setF m TIME_OUT_CFG_OWNER o owner) TIME_OUT_CFG_POL o pol) :=
    .setF (.setF .refl (hkey _ (by decide))) (hkey _ (by decide))
  exact .ite hset (hset.trans ⟨rfl, rfl, .of_regs rfl⟩)

theorem releaseOut_safe (m : Mach) {o : Nat} (ho : o < 8) (t : Nat) : SafeKeeps m (releaseOut m o t) := by
  unfold releaseOut
  extract_lets m₁
  have h₁ : SafeKeeps m m₁ := ((release_safe ..).trans (release_safe ..)).trans (setOwner_safe _ ho ..)
  have hset : SafeKeeps m₁ (setOut m₁ o { outSt m₁ o with due := [], left := 0, ending := false, next := none }) := ⟨rfl, rfl, .of_regs rfl⟩
  exact (h₁.trans hset).irq

theorem tapIdle_safe (m : Mach) : SafeKeeps m (tapIdle m) := by
  unfold tapIdle
  extract_lets outs m₁ m₂ jobs _ m₃
  have h₁ : SafeKeeps m m₁ := by
    refine .foldl (fun o ho m => ?_) m
    have hlt : o < 8 := List.mem_range.1 (List.mem_filter.1 ho).1
    exact releaseOut_safe m hlt _
  clear_value m₁
  have h₂ : SafeKeeps m₁ m₂ := (release_safe ..).trans ((release_safe ..).trans (releaseAll_safe ..))
  clear_value m₂
  have h₃ : SafeKeeps m₂ m₃ := .setF (.setF (.onTap .refl) (.inl (by decide))) (.inl (by decide))
  exact (h₁.trans (h₂.trans h₃)).trans (.foldl (fun _ _ _ => addCompl_safe ..) m₃)

theorem writeSegment_safe (m : Mach) (t : TapTrig) (stopped : Bool) : SafeKeeps m (writeSegment m t stopped) := by
  unfold writeSegment
  extract_lets post hits stop h m₁ its m₂
  have h₁ : SafeKeeps m m₁ := .ite .refl (.setF (.setF .refl (.inl (by decide))) (.inl (by decide)))
  have h₂ : SafeKeeps m₁ m₂ := .of_served (wrBytes_served ..)
  exact .onTap (h₁.trans h₂)

theorem stopCapture_safe (m : Mach) : SafeKeeps m (stopCapture m) := by
  unfold stopCapture
  extract_lets m₁ _ m₂
  have h₁ : SafeKeeps m m₁ := by
    unfold m₁
    split
    · exact .ite (writeSegment_safe ..) .refl
    · exact .refl
  have h₂ : SafeKeeps m m₂ := .onTap h₁
  exact .ite (h₂.trans (tapIdle_safe m₂)) h₂

theorem axlReport_safe (m : Mach) (s code cls detail : Nat) : SafeKeeps m (axlReport m s code cls detail) := by
  unfold axlReport
  split
  · exact .report .refl
  · exact .report .refl

theorem setPair_safe (m : Mach) (s x : Nat) (p : PairSt) : SafeKeeps m (setPair m s x p) := ⟨rfl, rfl, .of_regs rfl⟩

section
variable {s : Nat} (hs : s < 16)
include hs

/-- The fields of an axis engine and of its power stage. -/
theorem slot_besideMirror {f : Fld} (hb : f.blk ≤ 12) (ho : f.off < 0x2040) (hst : f.stride ≤ 0x100) (hl : f.lsb < 32) : besideMirror (f.key s) := by
  refine besideMirror_of_block hb ?_ hl
  have hmul : f.stride * s ≤ 0x100 * 15 := Nat.mul_le_mul hst (by omega)
  omega

theorem endInjection_safe (m : Mach) (aborted : Bool) : SafeKeeps m (endInjection m s aborted) := by
  unfold endInjection
  extract_lets m₁ m₂ d
  have h₁ : SafeKeeps m m₁ := .setF (.setF .refl (slot_besideMirror hs (by decide) (by decide) (by decide) (by decide)))
    (slot_besideMirror hs (by decide) (by decide) (by decide) (by decide))
  have h₂ : SafeKeeps m₁ m₂ := .setF (release_safe ..) (.inl (by decide))
  refine .ite .refl ?_
  split
  · exact (h₁.trans h₂).report
  · exact (h₁.trans h₂).report

theorem injAbort_safe (m : Mach) : SafeKeeps m (injAbort m s) := by
  unfold injAbort
  extract_lets _ m₁
  have hset : SafeKeeps m (setAxl m s { axlSt m s with injAt := none }) := ⟨rfl, rfl, .of_regs rfl⟩
  have h₁ : SafeKeeps m m₁ := hset.trans ((release_safe ..).trans (endInjection_safe hs ..))
  exact .ite .refl (.ite (h₁.trans (stopCapture_safe m₁)) h₁)

theorem axlOff_safe (m : Mach) (cause : Nat) : SafeKeeps m (axlOff m s cause) := by
  unfold axlOff
  extract_lets was m₁ a m₂
  have h₁ : SafeKeeps m m₁ := .setF (.setF .refl (slot_besideMirror hs (by decide) (by decide) (by decide) (by decide))) (.inl (by decide))
  have h₂ : SafeKeeps m₁ m₂ :=
    (SafeKeeps.setF .refl (slot_besideMirror hs (by decide) (by decide) (by decide) (by decide)) : SafeKeeps m₁ (setF m₁ AXL_VINT_VAL s 0)).trans
      ⟨rfl, rfl, .of_regs rfl⟩
  exact .ite (h₁.trans h₂) ((h₁.trans h₂).trans ((axlReport_safe ..).trans (injAbort_safe hs _)))

theorem gatesLow_safe (m : Mach) : SafeKeeps m (gatesLow m s) := by
  unfold gatesLow
  extract_lets m₁ m₂
  have h₁ : SafeKeeps m m₁ := .setF .refl (.inl (by decide))
  have h₂ : SafeKeeps m₁ m₂ := .foldl (fun _ _ _ => setPair_safe ..) m₁
  have h₃ : SafeKeeps m₂ (setPwr m₂ s { pwrSt m₂ s with arming := none }) := ⟨rfl, rfl, .of_regs rfl⟩
  exact (h₁.trans (h₂.trans h₃)).setF (slot_besideMirror hs (by decide) (by decide) (by decide) (by decide))

theorem cutSlot_safe (m : Mach) : SafeKeeps m (cutSlot m s) := (gatesLow_safe hs m).trans (axlOff_safe hs _ 2)

end

theorem cutStoSlots_safe (m : Mach) : SafeKeeps m (cutStoSlots m) :=
  .foldl (fun _ hs m => cutSlot_safe (List.mem_range.1 (List.mem_filter.1 hs).1) m) m

/-! ### The latched causes (07 R226) -/

/-- The registers of a plan of 32 groups. -/
def groupFields : List Fld :=
  [RUN_GRP_STAT_STATE, RUN_GRP_STAT_RB, RUN_GRP_STAT_FEED_HOLD, RUN_GRP_STAT_LIMITED, RUN_GRP_STAT_COUPLED, RUN_GRP_STAT_DEPTH_NOW, RUN_GRP_K_K,
   RUN_GRP_FRONT_FRONT, RUN_GRP_QUEUE_USED, RUN_GRP_QUEUE_SEG_CUR, RUN_GRP_STREAM_BOUND, RUN_GRP_STREAM_RING, RUN_GRP_STREAM_UNDERRUN_RUN,
   RUN_GEAR_CFG_SRC, RUN_GEAR_STAT_ENGAGED, RUN_GEAR_STAT_RAMPING, RUN_GEAR_STAT_ARMED, RUN_GEAR_STAT_MLOSS_RUN, RUN_GEAR_STAT_DIR]

theorem groupFields_place : ∀ f ∈ groupFields, f.blk ≤ 12 ∧ f.off < 0x700 ∧ f.stride = 0x20 ∧ f.lsb < 32 := by decide

theorem besideMirror_of_group {f : Fld} (hf : f ∈ groupFields) {g : Nat} (hg : g < 32) : besideMirror (f.key g) := by
  obtain ⟨hb, ho, hs, hl⟩ := groupFields_place f hf
  exact besideMirror_of_block hb (by rw [hs]; omega) hl

/-- The plan shown of groups within 32. -/
theorem showGrp_safe {m : Mach} (hgroups : ∀ g ∈ m.mould.groups, g.group < 32) {u : GroupRec} (hu : u.group < 32) : SafeKeeps m (showGrp m u) := by
  unfold showGrp
  extract_lets x d used m₁ _ _ m₂ xs m₃
  have h₁ : SafeKeeps m m₁ := by
    refine .foldl (fun g hg m => ?_) m
    have hlt : g.group < 32 := hgroups g (List.mem_filter.1 hg).1
    have hkey : ∀ f ∈ groupFields, besideMirror (f.key g.group) := fun f hf => besideMirror_of_group hf hlt
    refine .setF (.setF (.setF (.setF (.setF (.setF (.setF (.setF (.setF (.setF (.setF (.setF (.setF .refl ?_) ?_) ?_) ?_) ?_) ?_) ?_) ?_) ?_) ?_) ?_) ?_) ?_ <;>
      exact hkey _ (by decide)
  have h₂ : SafeKeeps m m₂ := by
    have hkey : ∀ f ∈ groupFields, besideMirror (f.key u.group) := fun f hf => besideMirror_of_group hf hu
    refine .ite h₁ (.setF (.setF (.setF (.setF (.setF (.setF h₁ ?_) ?_) ?_) ?_) ?_) ?_) <;> exact hkey _ (by decide)
  exact .setF (.setF (.setF h₂ (.inl (by decide))) (.inl (by decide))) (.inl (by decide))

theorem setGrp_safe (m : Mach) (g : Nat) (x : GrpSt) : SafeKeeps m (setGrp m g x) := ⟨rfl, rfl, .of_regs rfl⟩

theorem latchCause_safe {m : Mach} (hgroups : ∀ g ∈ m.mould.groups, g.group < 32) {u : GroupRec} (hu : u.group < 32) (c : Nat) :
    SafeKeeps m (latchCause m u c) := by
  unfold latchCause
  extract_lets x
  exact (setGrp_safe ..).trans (showGrp_safe (by exact hgroups) hu)

theorem latchCause_mem (m : Mach) (u : GroupRec) (c : Nat) : (latchCause m u c).mem = m.mem := (showGrp_regsOnly ..).mem

theorem latchLimits_mem (m : Mach) : (latchLimits m).mem = m.mem := by
  refine foldl_related (R := fun a b : Mach => b.mem = a.mem) (fun _ => rfl) (fun h h' => h'.trans h) (fun u _ m => ?_) m
  extract_lets x l
  split
  · rfl
  · exact latchCause_mem ..

/-- The causes of limits latched, of groups within 32. -/
theorem latchLimits_safe {m : Mach} (hgroups : ∀ g ∈ m.mould.groups, g.group < 32) : SafeKeeps m (latchLimits m) := by
  refine foldl_related (R := fun a b => (∀ g ∈ a.mould.groups, g.group < 32) → SafeKeeps a b) (fun _ _ => .refl) (fun h h' ha => ?_)
    (fun u hu a ha => ?_) m hgroups
  · exact (h ha).trans (h' (by rw [(h ha).groups]; exact ha))
  · extract_lets x l
    exact .ite .refl (latchCause_safe ha (hgroups u (List.mem_filter.1 hu).1) 1)

/-! ## The mirror (15 R463 to R465) -/

/-- Reports at a publication: the island's news are told then. -/
theorem reportMirror_keeps (old : List Nat) (m : Mach) : SafeKeeps (onSafe m fun s => { s with news := [] }) (reportMirror old m) := by
  unfold reportMirror
  extract_lets new m₁ m₂ m₃
  have h₁ : SafeKeeps m m₁ := .ite .refl (.report .refl)
  have h₂ : SafeKeeps m₁ m₂ := .foldl (fun _ _ _ => .report .refl) m₁
  have h₃ : SafeKeeps m₂ m₃ := .foldl (fun _ _ _ => .report .refl) m₂
  exact (h₁.trans (h₂.trans h₃)).onSafe _

theorem settleDeletes_safe (m : Mach) : SafeKeeps m (settleDeletes m) := by
  have hkey : ∀ k, besideMirror (HIF_CMD_CTRL_STATE.key k) := fun k => by
    simp only [besideMirror, Fld.key, Fld.addr, HIF_CMD_CTRL_STATE]
    omega
  unfold settleDeletes
  extract_lets go _ m₁
  have h₁ : SafeKeeps m m₁ := ⟨rfl, rfl, .of_regs rfl⟩
  exact h₁.trans (.foldl (fun _ _ _ => (SafeKeeps.setF .refl (hkey _)).trans (addCompl_safe ..)) m₁)

/-- The result of a frame that reaches the main side. -/
theorem mailboxDone_keeps (m : Mach) :
    ∃ due job, SafeKeeps (onSafe m fun s => { s with mbxDue := due, job := job }) (mailboxDone m) := by
  unfold mailboxDone
  extract_lets m₁ m₂
  split
  · exact ⟨m.safe.mbxDue, m.safe.job, .refl⟩
  · have h₁ : SafeKeeps m m₁ := (SafeKeeps.setF (.setF .refl (.inr (by decide))) (.inr (by decide))).irq
    have h₂ : SafeKeeps m₁ m₂ := by
      unfold m₂
      split
      · exact addCompl_safe ..
      · exact .refl
    exact ⟨false, none, ((h₁.trans h₂).onSafe fun s => { s with mbxDue := false, job := none }).trans (settleDeletes_safe _)⟩

theorem handFrames_onSafe (m : Mach) : ∃ tx, handFrames m = onSafe m fun s => { s with tx := tx } := ⟨_, rfl⟩

/-- What the main side does with a publication: reports, the mailbox, frames. Of the island its news end, and the mailbox's result. -/
theorem publicationTold_keeps (old : List Nat) (m : Mach) :
    ∃ due job tx, SafeKeeps (onSafe m fun s => { s with news := [], mbxDue := due, job := job, tx := tx })
      (handFrames (mailboxDone (reportMirror old m))) := by
  have hreport : SafeKeeps (onSafe m fun s => { s with news := [] }) (reportMirror old m) := reportMirror_keeps old m
  obtain ⟨due, job, hmail⟩ := mailboxDone_keeps (reportMirror old m)
  obtain ⟨tx, htx⟩ := handFrames_onSafe (mailboxDone (reportMirror old m))
  have hbefore := (hreport.onSafe fun s => { s with mbxDue := due, job := job }).trans hmail
  have hafter := hbefore.onSafe fun s => { s with tx := tx }
  rw [onSafe_onSafe, onSafe_onSafe] at hafter
  rw [htx]
  exact ⟨due, job, tx, hafter⟩

/-- What a publication shows. -/
structure MirrorShown (m m' : Mach) : Prop where
  mir : m'.safe.mir = mirrorBytes (at' m (m.safe.start + 144000).toNat)
  instant : m'.safe.pubAt = some (max m.cyc.now (m.safe.start + 144000).toNat)
  news : m'.safe.news = []
  fresh : getF m' SAFE_MIR_STAT_MIRROR_STALE = 0

theorem mirrorPublish_shows {m : Mach} (h₀ : m.safe.st ≠ 0) (h₆ : m.safe.st ≠ 6) (hb : m.safe.begun = true)
    (hgroups : ∀ g ∈ m.mould.groups, g.group < 32) : MirrorShown m (mirrorPublish m) := by
  unfold mirrorPublish
  rw [if_neg (by simp [h₀, h₆, hb])]
  extract_lets m₁ old m₂ m₃ m₄
  have hmir : m₂.safe.mir = mirrorBytes m₁ := rfl
  have hpub : m₂.safe.pubAt = some m₁.cyc.now := rfl
  have hgroups₂ : m₂.mould.groups = m.mould.groups := rfl
  have hfresh : getF m₃ SAFE_MIR_STAT_MIRROR_STALE = 0 := getF_setF_self ..
  have h₃ : m₃.safe = m₂.safe ∧ m₃.mould.groups = m₂.mould.groups :=
    have hirq : SafeKeeps m₂ (irq m₂ 23) := .irq .refl
    ⟨hirq.safe, hirq.groups⟩
  obtain ⟨due, job, tx, h₄⟩ : ∃ due job tx, SafeKeeps (onSafe m₃ fun s => { s with news := [], mbxDue := due, job := job, tx := tx }) m₄ :=
    publicationTold_keeps old m₃
  clear_value m₄ m₃ m₂
  have hgroups₄ : m₄.mould.groups = m.mould.groups := h₄.groups.trans (h₃.2.trans hgroups₂)
  have hcut : SafeKeeps m₄ (cutStoSlots m₄) := cutStoSlots_safe m₄
  have hlatch : SafeKeeps m₄ (latchLimits (cutStoSlots m₄)) :=
    hcut.trans (latchLimits_safe (by rw [hcut.groups, hgroups₄]; exact hgroups))
  have hend := h₄.trans hlatch
  refine ⟨?_, ?_, ?_, (hend.fields _ 0 (by decide)).trans hfresh⟩
  · rw [hend.safe]
    exact (congrArg SafeSt.mir h₃.1).trans hmir
  · rw [hend.safe]
    exact (congrArg SafeSt.pubAt h₃.1).trans hpub
  · rw [hend.safe]
    rfl

/-- What the passing of two safety cycles without a publication shows. -/
structure MirrorStale (m m' : Mach) : Prop where
  stale : getF m' SAFE_MIR_STAT_MIRROR_STALE = 1
  seen : getF m' SAFE_MIR_STAT_STALE_SEEN = 1
  count : getF m' SAFE_STALE_CNT_CNT = satAdd (2 ^ SAFE_STALE_CNT_CNT.w - 1) (getF m SAFE_STALE_CNT_CNT) 1
  safe : m'.safe = m.safe
  mem : m'.mem = m.mem

theorem mirrorStale_shows {m : Mach} (h : getF m SAFE_MIR_STAT_MIRROR_STALE = 0) (hgroups : ∀ g ∈ m.mould.groups, g.group < 32) :
    MirrorStale m (mirrorStale m) := by
  have hoff : onF m SAFE_MIR_STAT_MIRROR_STALE = false := by rw [onF, h]; rfl
  unfold mirrorStale
  rw [if_neg (by simp [hoff])]
  extract_lets m₁ m₂
  have hlog : SafeKeeps (incF m₂ SAFE_STALE_CNT_CNT 0 1) (logNode (incF m₂ SAFE_STALE_CNT_CNT 0 1) E_SAFE_MIRROR_STALE 0) := by
    rw [logNode]; exact .report .refl
  have hmem := logNode_mem (incF m₂ SAFE_STALE_CNT_CNT 0 1) E_SAFE_MIRROR_STALE 0
  generalize logNode (incF m₂ SAFE_STALE_CNT_CNT 0 1) E_SAFE_MIRROR_STALE 0 = m₃ at hlog hmem ⊢
  have hlevels : SafeKeeps m₃ (levels m₃) := ⟨rfl, rfl, .of_regs rfl⟩
  have hlatch : SafeKeeps (incF m₂ SAFE_STALE_CNT_CNT 0 1) (latchLimits (levels m₃)) :=
    (hlog.trans hlevels).trans (latchLimits_safe (by rw [hlevels.groups, hlog.groups]; exact hgroups))
  refine ⟨?_, ?_, ?_, hlatch.safe, (latchLimits_mem _).trans hmem⟩
  · rw [hlatch.fields _ 0 (by decide), getF_incF_ne _ _ _ _ _ _ (by decide)]
    exact (getF_setF_ne _ _ _ _ _ _ (by decide)).trans (getF_flag_self _ _ _ (by decide))
  · rw [hlatch.fields _ 0 (by decide), getF_incF_ne _ _ _ _ _ _ (by decide)]
    exact getF_flag_self _ _ _ (by decide)
  · have hcount : getF m₂ SAFE_STALE_CNT_CNT = getF m SAFE_STALE_CNT_CNT :=
      (getF_setF_ne _ _ _ _ _ _ (by decide)).trans (getF_setF_ne _ _ _ _ _ _ (by decide))
    rw [hlatch.fields _ 0 (by decide), getF_incF_self, satAdd_eq_min, hcount]

/-! ## The mailbox (15 R459, R468) -/

/-- Sparse data reads the default at a key below all of its own. -/
theorem sget_of_below {α : Type} {l : Sparse α} {k : Nat} (h : ∀ x ∈ l, k < x.1) (d : α) : sget l k d = d := by
  induction l with
  | nil => rfl
  | cons x l ih =>
    have hne : x.1 ≠ k := Nat.ne_of_gt (h x (List.mem_cons_self ..))
    rw [sget, if_neg hne]
    exact ih fun y hy => h y (List.mem_cons_of_mem _ hy)

/-- The bytes of a frame from buffer byte `n` on, without the zeros. -/
def frameCells (l : List Nat) (n : Nat) : Sparse Nat := ((l.zipIdx n).filter (fun x => x.1 != 0)).map (fun x => (x.2, x.1))

theorem frameCells_from (l : List Nat) (n : Nat) : ∀ x ∈ frameCells l n, n ≤ x.1 := by
  intro x hx
  obtain ⟨y, hy, rfl⟩ := List.mem_map.1 hx
  exact (List.mem_zipIdx (List.mem_filter.1 hy).1).1

/-- A frame put over a buffer whose other bytes lie beyond it reads back. -/
theorem sget_frameCells (l : List Nat) (n : Nat) {rest : Sparse Nat} (hrest : ∀ x ∈ rest, n + l.length ≤ x.1) {i : Nat} (hi : i < l.length) :
    sget (frameCells l n ++ rest) (n + i) 0 = nth l i := by
  induction l generalizing n i with
  | nil => exact absurd hi (Nat.not_lt_zero i)
  | cons b l ih =>
    have hrest' : ∀ x ∈ rest, n + 1 + l.length ≤ x.1 := fun x hx => by
      have := hrest x hx
      rw [List.length_cons] at this
      omega
    have htail : frameCells (b :: l) n = if b = 0 then frameCells l (n + 1) else (n, b) :: frameCells l (n + 1) := by
      by_cases hb : b = 0 <;> simp [frameCells, hb]
    cases i with
    | zero =>
      rw [htail]
      by_cases hb : b = 0
      · rw [if_pos hb, sget_of_below (fun x hx => ?_)]
        · exact hb.symm
        · rcases List.mem_append.1 hx with hx | hx
          · exact Nat.lt_of_succ_le (frameCells_from l (n + 1) x hx)
          · exact Nat.lt_of_lt_of_le (by omega) (hrest' x hx)
      · rw [if_neg hb, List.cons_append, sget]
        exact if_pos rfl
    | succ i =>
      have hstep : sget (frameCells l (n + 1) ++ rest) (n + (i + 1)) 0 = nth l i := by
        rw [show n + (i + 1) = n + 1 + i by omega]
        exact ih (n + 1) hrest' (by simpa using hi)
      rw [htail]
      split
      · exact hstep
      · have hne : n ≠ n + (i + 1) := by omega
        rw [List.cons_append, sget, if_neg hne]
        exact hstep

theorem nth_padTo {n i : Nat} (h : i < n) (l : List Nat) : nth (padTo n l) i = nth l i := by
  rw [nth, nth, padTo, List.getD_eq_getElem?_getD, List.getElem?_take_of_lt h, List.getD_eq_getElem?_getD]
  by_cases hl : i < l.length
  · rw [List.getElem?_append_left hl]
  · have hr : i - l.length < n - l.length := by omega
    rw [List.getElem?_append_right (Nat.le_of_not_lt hl), List.getElem?_replicate, if_pos hr, List.getElem?_eq_none (Nat.le_of_not_lt hl)]
    rfl

theorem nth_map_mod (l : List Nat) (i : Nat) : nth (l.map (· % 256)) i = nth l i % 256 := by
  rw [nth, nth, List.getD_eq_getElem?_getD, List.getElem?_map, List.getD_eq_getElem?_getD]
  cases l[i]? <;> rfl

theorem length_padTo (n : Nat) (l : List Nat) : (padTo n l).length = n := by
  simp [padTo]
  omega

/-- A frame posted. -/
def posted (m : Mach) : Mach := setF (setF m SAFE_MBX_STAT_STATE 0 1) SAFE_MBX_STAT_SEQ 0 (getF m SAFE_MBX_STAT_SEQ + 1)

/-- The mailbox is not the island's. -/
theorem mboxBusy_iff (m : Mach) : mboxBusy m = false ↔ getF m SAFE_MBX_STAT_STATE ≠ 1 ∧ getF m SAFE_MBX_STAT_STATE ≠ 2 := by
  simp [mboxBusy]

theorem mailboxPost_free {m : Mach} (h : getF m SAFE_MBX_STAT_STATE ≠ 1 ∧ getF m SAFE_MBX_STAT_STATE ≠ 2) : mailboxPost m = posted m := by
  rw [mailboxPost, (mboxBusy_iff m).2 h]; rfl

theorem mboxBusy_of_not {m : Mach} (h : ¬ (getF m SAFE_MBX_STAT_STATE ≠ 1 ∧ getF m SAFE_MBX_STAT_STATE ≠ 2)) : mboxBusy m = true := by
  rw [← mboxBusy_iff] at h
  simpa using h

theorem posted_state (m : Mach) : getF (posted m) SAFE_MBX_STAT_STATE = 1 :=
  (getF_setF_ne _ _ _ _ _ _ (by decide)).trans (getF_setF_self ..)

theorem posted_seq (m : Mach) : getF (posted m) SAFE_MBX_STAT_SEQ = (getF m SAFE_MBX_STAT_SEQ + 1) % 2 ^ SAFE_MBX_STAT_SEQ.w := getF_setF_self ..

/-- The machine with a frame that a job has posted. -/
def frameTaken (m : Mach) (j : Job) : Mach :=
  let l := padTo j.desc.dataLen (j.data.map (· % 256))
  posted (setF (onSafe m fun s => { s with mbox := frameCells l 0 ++ s.mbox.filter (fun x => decide (l.length ≤ x.1)), job := some (jcompl j 0 0 none) })
    SAFE_MBX_LEN_LEN 0 l.length)

section
variable {m : Mach} {j : Job}

theorem safeConfig_badLength (h : j.desc.dataLen < 256 ∨ 32768 < j.desc.dataLen) : safeConfig j m = jobDetail m E_SAFE_CFG_FORMAT 8 :=
  if_pos h.symm

theorem safeConfig_busy (hlo : 256 ≤ j.desc.dataLen) (hhi : j.desc.dataLen ≤ 32768) (hb : mboxBusy m = true) :
    safeConfig j m = jobDetail m E_SAFE_MBX_BUSY (getF m SAFE_MBX_STAT_SEQ) := by
  have hlen : ¬ (32768 < j.desc.dataLen ∨ j.desc.dataLen < 256) := by omega
  rw [safeConfig, if_neg hlen, if_pos hb]

theorem safeConfig_posts (hlo : 256 ≤ j.desc.dataLen) (hhi : j.desc.dataLen ≤ 32768)
    (hf : getF m SAFE_MBX_STAT_STATE ≠ 1 ∧ getF m SAFE_MBX_STAT_STATE ≠ 2) : safeConfig j m = { m := frameTaken m j, later := true } := by
  have hlen : ¬ (32768 < j.desc.dataLen ∨ j.desc.dataLen < 256) := by omega
  have hfree : ¬ mboxBusy m = true := by simp [(mboxBusy_iff m).2 hf]
  have hkeep : ∀ m' : Mach, getF (setF m' SAFE_MBX_LEN_LEN 0 (padTo j.desc.dataLen (j.data.map (· % 256))).length) SAFE_MBX_STAT_STATE =
      getF m' SAFE_MBX_STAT_STATE := fun m' => getF_setF_ne _ _ _ _ _ _ (by decide)
  rw [safeConfig, if_neg hlen, if_neg hfree]
  extract_lets l new m₁
  rw [mailboxPost_free (by rw [hkeep]; exact hf)]
  rfl

/-- The mailbox then. -/
theorem frameTaken_mailbox (hhi : j.desc.dataLen ≤ 32768) :
    getF (frameTaken m j) SAFE_MBX_STAT_STATE = 1 ∧ getF (frameTaken m j) SAFE_MBX_LEN_LEN = j.desc.dataLen ∧
      (frameTaken m j).safe.job = some (jcompl j 0 0 none) ∧
      ∀ i, i < j.desc.dataLen → sget (frameTaken m j).safe.mbox i 0 = nth j.data i % 256 := by
  refine ⟨posted_state _, ?_, rfl, fun i hi => ?_⟩
  · have hlen : getF (frameTaken m j) SAFE_MBX_LEN_LEN = (padTo j.desc.dataLen (j.data.map (· % 256))).length % 2 ^ SAFE_MBX_LEN_LEN.w :=
      (getF_setF_ne _ _ _ _ _ _ (by decide)).trans ((getF_setF_ne _ _ _ _ _ _ (by decide)).trans (getF_setF_self ..))
    rw [hlen, length_padTo]
    exact Nat.mod_eq_of_lt (Nat.lt_of_le_of_lt hhi (by decide))
  · have hread := sget_frameCells (padTo j.desc.dataLen (j.data.map (· % 256))) 0 (i := i)
      (rest := m.safe.mbox.filter (fun x => decide ((padTo j.desc.dataLen (j.data.map (· % 256))).length ≤ x.1)))
      (fun x hx => by simpa using (List.mem_filter.1 hx).2) (by rw [length_padTo]; exact hi)
    rw [Nat.zero_add, nth_padTo hi, nth_map_mod] at hread
    exact hread

end

/-! ## Configuration (15 R437, R460) -/

section
variable {m : Mach}

theorem islandRuns_of (h₀ : m.safe.st ≠ 0) (h₆ : m.safe.st ≠ 6) : islandRuns m = true := by simp [islandRuns, h₀, h₆]
theorem islandRuns_idle (h : m.safe.st = 0 ∨ m.safe.st = 6) : islandRuns m = false := by rcases h with h | h <;> simp [islandRuns, h]

theorem configLoad_none (h : m.safe.taken = none) : configLoad m = m := by simp [configLoad, h]
theorem configLoad_idle (h : m.safe.st = 0 ∨ m.safe.st = 6) : configLoad m = m := by simp [configLoad, islandRuns_idle h]

/-- What a LOAD leaves before a configuration ran. -/
structure Loaded (m m' : Mach) (f : List Nat) : Prop where
  cfg : m'.safe.cfg = f
  digest : m'.safe.digest = sha384 (cfgSigned f)
  taken : m'.safe.taken = none
  st : m'.safe.st = if m.safe.seals = [] then 3 else 4
  outNext : m'.safe.outNext = 0
  stoNext : m'.safe.stoNext = 0
  sets : m'.safe.sets = []
  mbx : m'.safe.mbx = 0
  seals : m'.safe.seals = m.safe.seals
  key : m'.safe.key = m.safe.key
  mem : m'.mem = m.mem

theorem configLoad_loads {f : List Nat} (h : m.safe.taken = some f) (hst : m.safe.st = 2) : Loaded m (configLoad m) f := by
  have hruns : islandRuns m = true := islandRuns_of (by simp [hst]) (by simp [hst])
  have hload : (if islandRuns m then m.safe.taken else none) = some f := by rw [hruns, if_pos rfl, h]
  unfold configLoad
  split
  next hnone => exact absurd (hload.symm.trans hnone) (by simp)
  next f' hf' =>
    obtain rfl : f = f' := Option.some.inj (hload.symm.trans hf')
    extract_lets anti man m₁ m₂
    have hst₂ : m₂.safe.st = 2 := hst
    rw [if_pos hst₂]
    exact ⟨rfl, rfl, rfl, rfl, rfl, rfl, rfl, rfl, rfl, rfl, rfl⟩

theorem confirmed_of {op : Nat} {d : List Nat} (h : m.safe.confirm = some (op, d, true)) (hr : islandRuns m = true) : confirmed m op = some d := by
  simp [confirmed, h, hr]

theorem confirmed_none {op : Nat} (h : (∃ o d, m.safe.confirm = some (o, d, false)) ∨ m.safe.confirm = none ∨ islandRuns m = false) : confirmed m op = none := by
  rcases h with ⟨o, d, h⟩ | h | h
  · simp [confirmed, h]
  · simp [confirmed, h]
  · unfold confirmed
    split <;> simp [h]

theorem configSeal_none (h : confirmed m 1 = none) : configSeal m = m := by rw [configSeal, h]
theorem configCommission_none (h : confirmed m 2 = none) : configCommission m = m := by rw [configCommission, h]
theorem configKey_none (h : confirmed m 3 = none) : configKey m = m := by rw [configKey, h]

theorem configSeal_seals {d : List Nat} (h : confirmed m 1 = some d) (h5 : m.safe.st ≠ 5) :
    configSeal m = { m with safe := { m.safe with confirm := none, seals := m.safe.seals ++ [d], st := (if m.safe.st = 3 then 4 else m.safe.st),
                                                  news := m.safe.news ++ [(E_SAFE_SEALED, 7, 1, nodeId m, m.safe.seals.length)] } } := by
  rw [configSeal, h]
  simp only [safeNode, safeNews, onSafe, if_neg h5]
  rfl

theorem configCommission_commissions {d : List Nat} (h : confirmed m 2 = some d) :
    configCommission m = { m with safe := { m.safe with confirm := none, st := 3, was := 3, hold := true, outNext := 0, stoNext := 0 } } := by
  rw [configCommission, h]; rfl

theorem configKey_sets {d : List Nat} (h : confirmed m 3 = some d) :
    configKey m = { m with safe := { m.safe with confirm := none, key := (if m.safe.key = [] then d else m.safe.key) } } := by
  rw [configKey, h]; rfl

theorem confirmTimeout_drops {op : Nat} {d : List Nat} (h : m.safe.confirm = some (op, d, false)) (hr : islandRuns m = true) :
    confirmTimeout m = { m with safe := { m.safe with confirm := none,
                                                      news := m.safe.news ++ [(E_SAFE_CONFIRM_TIMEOUT, 0, 1, nodeId m, op)] } } := by
  rw [confirmTimeout, h, hr]; rfl

theorem confirmTimeout_none (h : m.safe.confirm = none ∨ islandRuns m = false) : confirmTimeout m = m := by
  unfold confirmTimeout
  split
  next op d hc =>
    rcases h with h | h
    · exact absurd (h.symm.trans hc) (by simp)
    · simp [h]
  · rfl

end

/-! ## The statement -/

/-- Settles O49: what the work of a safety cycle leaves (`IslandHeld`), the bounds of its start, what a publication leaves of the island
(`SafeKeeps`), the mailbox and the configuration by their branches. -/
theorem safetyCycleMirrorAndConfiguration : Obligations.SafetyCycleMirrorAndConfiguration := by
  intro j t edm mism port op d fr s m f set same free
  have keeps {c : Instr} {g : Mach → Mach} (hc : exec c s = done g s) (h : g m = m) : same c := hc.trans (done_same h)
  refine ⟨fun h => ⟨?_, ?_⟩, fun h₀ h₆ => ?_, fun hb hlo => ?_, fun h₀ h₆ hb hg => ?_, ?_, fun h hg => ?_, fun h => ?_, fun hf => ?_, fun hf => ?_,
    fun hj => ⟨fun hlen => ?_, fun hlo hhi => ⟨fun hf => ?_, fun hf => ?_⟩⟩, fun h => ?_, fun h hst => ?_, fun h => ?_, fun h₀ h₆ hc h5 => ?_,
    fun h₀ h₆ hc => ?_, fun h₀ h₆ hc => ?_, fun h => ?_, fun h₀ h₆ hc => ?_, fun h => ?_⟩
  · exact keeps (exec_safetyCycleStart ..) (safetyCycle_idle h t edm mism)
  · exact keeps (exec_mirrorPublish s) (if_pos (h.imp_right .inl))
  · obtain ⟨hout, hsto, hstart, hbegun, hnow, hpresses, hmem, hnumber⟩ := safetyCycle_starts h₀ h₆ t edm mism
    refine ⟨safetyCycle t edm mism m, exec_safetyCycleStart .., hout, hsto, hstart, hbegun, hnow, hpresses, hmem, fun hfirst => ?_, fun hb hanew => ?_⟩
    · obtain ⟨ht, hk⟩ := safetyCycle_first hfirst t
      exact ⟨ht, by rw [hnumber, hk]⟩
    · rw [hnumber, begunNumber_next hb hanew]
  · exact safetyStart_bounds hb hlo t
  · obtain ⟨hmir, hpub, hnews, hfresh⟩ := mirrorPublish_shows h₀ h₆ hb hg
    exact ⟨mirrorPublish m, exec_mirrorPublish s, hmir, hpub, hnews, hfresh⟩
  · exact exec_mirrorLatchRead port s
  · obtain ⟨hstale, hseen, hcount, hsafe, hmem⟩ := mirrorStale_shows h hg
    exact ⟨mirrorStale m, exec_mirrorStale s, hstale, hseen, hcount, hsafe, hmem⟩
  · have hon : onF m SAFE_MIR_STAT_MIRROR_STALE = true := by rw [onF, h]; rfl
    exact keeps (exec_mirrorStale s) (if_pos hon)
  · exact ⟨posted m, (exec_mailboxPost s).trans (done_eq (mailboxPost_free hf)), posted_state m, posted_seq m, rfl⟩
  · exact (exec_mailboxPost s).trans (done_eq (if_pos (mboxBusy_of_not hf)))
  · exact (exec_safeConfig j s).trans (job_fails hj (safeConfig_badLength hlen))
  · exact (exec_safeConfig j s).trans (job_fails hj (safeConfig_busy hlo hhi (mboxBusy_of_not hf)))
  · refine ⟨frameTaken m (asJob 0x0D01 j), (exec_safeConfig j s).trans (job_later hj (safeConfig_posts hlo hhi hf)), ?_⟩
    exact frameTaken_mailbox (j := asJob 0x0D01 j) hhi
  · exact keeps (exec_configLoad s) (configLoad_none h)
  · obtain ⟨hcfg, hdigest, htaken, hst', hout, hsto, hsets, hmbx, hseals, hkey, hmem⟩ := configLoad_loads h hst
    exact ⟨configLoad m, exec_configLoad s, hcfg, hdigest, htaken, hst', hout, hsto, hsets, hmbx, hseals, hkey, hmem⟩
  · have hno : ∀ op, confirmed m op = none := fun op => confirmed_none (.inr (.inr (islandRuns_idle h)))
    exact ⟨keeps (exec_configLoad s) (configLoad_idle h), keeps (exec_configSeal s) (configSeal_none (hno 1)),
      keeps (exec_configCommission s) (configCommission_none (hno 2)), keeps (exec_configKey s) (configKey_none (hno 3)),
      keeps (exec_confirmTimeout s) (confirmTimeout_none (.inr (islandRuns_idle h)))⟩
  · exact (exec_configSeal s).trans (done_eq (configSeal_seals (confirmed_of hc (islandRuns_of h₀ h₆)) h5))
  · exact (exec_configCommission s).trans (done_eq (configCommission_commissions (confirmed_of hc (islandRuns_of h₀ h₆))))
  · exact (exec_configKey s).trans (done_eq (configKey_sets (confirmed_of hc (islandRuns_of h₀ h₆))))
  · have hno : ∀ op, confirmed m op = none := fun _ => confirmed_none (h.elim (fun h => .inr (.inl h)) fun h => .inl ⟨op, d, h⟩)
    exact ⟨keeps (exec_configSeal s) (configSeal_none (hno 1)), keeps (exec_configCommission s) (configCommission_none (hno 2)),
      keeps (exec_configKey s) (configKey_none (hno 3))⟩
  · exact (exec_confirmTimeout s).trans (done_eq (confirmTimeout_drops hc (islandRuns_of h₀ h₆)))
  · exact keeps (exec_confirmTimeout s) (confirmTimeout_none (.inl h))

end Sys2Proof.Machine
end

section
/-! PROOFS. The checks of a descriptor in their order (03 R87), the completion of a job that fails one (03 R90), and the statement on them. -/

namespace Sys2Proof.Machine

/-! ## The completion of a job (03 R90, R107) -/

/-- Each job command runs its job under its own opcode. -/
theorem exec_jobCommand : ∀ p ∈ jobCommands, ∃ eff, ∀ (j : Job) (s : State), exec (p.1 j) s = done (runJob p.2 eff j) s := by
  simp only [jobCommands, List.forall_mem_cons, List.not_mem_nil, false_implies, implies_true, and_true]
  and_intros <;> exact ⟨_, fun _ _ => rfl⟩

/-- No deletion of a ring that waits is due where none waits. -/
theorem settleDeletes_none {m : Mach} (h : m.hif.deleting = []) : settleDeletes m = m := by
  have hsame : { m with hif := { m.hif with deleting := [] } } = m := by rw [← h]
  simp only [settleDeletes, h, List.filter_nil, List.foldl_nil, hsame]

/-- The completion of a failure of a ring's job waits to be written, whether or not the job asked for one. -/
theorem addCompl_failed {m : Mach} {c : Compl} (hr : c.ring < 16) (hs : c.status ≠ E_OK) :
    addCompl m c = { m with hif := { m.hif with compl := m.hif.compl ++ [c] } } :=
  if_neg (by simp [hs]; omega)

/-- A job of a ring that fails leaves the jobs in flight, and its completion waits to be written. -/
theorem finishJob_failed {m : Mach} {j : Job} {status result : Nat} (hr : j.ring < 16) (hs : status ≠ E_OK) (hdel : m.hif.deleting = []) :
    finishJob m j status result none = { m with hif := { m.hif with
      inflight := m.hif.inflight.filter (fun x => !sameJob j x), compl := m.hif.compl ++ [jcompl j status result none] } } := by
  rw [finishJob, addCompl_failed (c := jcompl j status result none) hr hs]
  exact settleDeletes_none hdel

/-- A job that fails a check ends with it, in the machine as it was, unless the check is that of its data buffer. -/
theorem job_unchecked {opc : Nat} {j : Job} {s : State} {status result : Nat} (hw : jobWaits s.m (asJob opc j) = false)
    (hd : descCheck s.m (asJob opc j).desc = some (status, result)) (hne : status ≠ E_HIF_DMA_DENIED) (eff : Job → Mach → JobRes) :
    done (runJob opc eff j) s = jobEnds s opc j s.m status result none := by
  unfold asJob at hw hd
  simp only [done, runJob, hw, hd, hne, if_false, Bool.false_eq_true]
  rfl

/-! ## The checks made at the fetch (03 R87, checks 1 to 7) -/

/-- A descriptor that fails a check at its fetch fails it as well when it executes. -/
theorem descCheck_of_fetch {m : Mach} {d : Desc} {r : Nat × Nat} (h : fetchCheck m d = some r) : descCheck m d = some r := by
  simp only [descCheck, h]

/-- What a well-formed descriptor satisfies (03 R87, check 1). -/
def WellFormedDesc (d : Desc) : Prop := d.version = 2 ∧ d.rsv = 0 ∧ d.flags < 4 ∧ d.dataLen ≤ 2 ^ 24

/-- Negotiation has succeeded, or the job is the one that runs before (check 3). -/
def Negotiated (m : Mach) (d : Desc) : Prop := d.opcode = 1 ∨ (getF m HIF_FEAT_ACK_DONE = 1 ∧ getF m HIF_FEAT_ACK_FAILED ≠ 1)

/-- The features of the job's row and of its parameters are accepted (check 4). -/
def Featured (m : Mach) (i : JobInfo) (d : Desc) : Prop :=
  (i.feat = none ∨ (∃ f, i.feat = some f ∧ (feature m f = true ∨ d.opcode = 0x1001 ∧ getF m TEST_STAT_UNLOCK = 2))) ∧
    (d.opcode ≠ 0x0101 ∨ d.par 0 % 4 ≠ 3 ∨ (d.par 1).testBit 24 = false ∨ bits (d.par 1) 25 2 ≠ 1 ∨ feature m 8 = true)

theorem fetchCheck_malformed {m : Mach} {d : Desc} (h : d.version ≠ 2 ∨ d.rsv ≠ 0 ∨ 4 ≤ d.flags ∨ 2 ^ 24 < d.dataLen) :
    fetchCheck m d = some (E_HIF_BAD_DESC, noParam) := if_pos h

theorem fetchCheck_unknown {m : Mach} {d : Desc} (hf : WellFormedDesc d) (hi : jobInfo d.opcode = none) :
    fetchCheck m d = some (E_HIF_BAD_OPCODE, noParam) := by
  obtain ⟨hv, hr, hfl, hl⟩ := hf
  rw [fetchCheck, if_neg (by omega), hi]

/-- Check 3 is decided by what the negotiation has left. -/
theorem negotiated_iff (m : Mach) (d : Desc) :
    Negotiated m d ↔ ¬ (d.opcode ≠ 1 ∧ (!(onF m HIF_FEAT_ACK_DONE && !onF m HIF_FEAT_ACK_FAILED)) = true) := by
  simp only [Negotiated, onF, Bool.not_eq_true', Bool.and_eq_false_iff, beq_eq_false_iff_ne, Bool.not_eq_false', beq_iff_eq]
  tauto

/-- The stream of a Tap drain is the one ring that needs a feature of its own. -/
theorem extraFeature_iff (m : Mach) (d : Desc) : (extraFeature d).any (fun f => !feature m f) = false ↔
    d.opcode ≠ 0x0101 ∨ d.par 0 % 4 ≠ 3 ∨ (d.par 1).testBit 24 = false ∨ bits (d.par 1) 25 2 ≠ 1 ∨ feature m 8 = true := by
  unfold extraFeature
  split_ifs with h
  · obtain ⟨h1, h2, h3, h4⟩ := h
    simp [h1, h2, h3, h4]
  · refine iff_of_true rfl ?_
    simp only [← Bool.not_eq_true]
    tauto

theorem featured_iff (m : Mach) (i : JobInfo) (d : Desc) : Featured m i d ↔
    ¬ ((i.feat.any (fun f => !feature m f) && !(d.opcode == 0x1001 && getF m TEST_STAT_UNLOCK == 2))
      || (extraFeature d).any (fun f => !feature m f)) = true := by
  rw [Featured, ← extraFeature_iff]
  cases i.feat with
  | none => simp
  | some f => cases h : feature m f <;> simp [h]

section
variable {m : Mach} {d : Desc} {i : JobInfo} (hf : WellFormedDesc d) (hi : jobInfo d.opcode = some i)
include hf hi

/-- The checks of a well-formed descriptor of a known job, one after the other. -/
theorem fetchCheck_known : fetchCheck m d =
    if d.opcode ≠ 1 ∧ !(onF m HIF_FEAT_ACK_DONE && !onF m HIF_FEAT_ACK_FAILED) then some (E_HIF_NOT_NEGOTIATED, noParam)
    else if (i.feat.any (fun f => !feature m f) && !(d.opcode == 0x1001 && getF m TEST_STAT_UNLOCK == 2))
        || (extraFeature d).any (fun f => !feature m f) then some (E_HIF_FEATURE_OFF, noParam)
    else if domOff m (domOf (d.opcode / 256)) && !farAxis m d then some (E_SYS_ROLE_UNSUPPORTED, noParam)
    else if i.std && isStandby m then some (E_HIF_STANDBY, noParam)
    else if d.dataLen ≠ 0 ∧ !dmaOk m i.out d.dataAddr d.dataLen then some (E_HIF_DMA_DENIED, noParam)
    else none := by
  obtain ⟨hv, hr, hfl, hl⟩ := hf
  rw [fetchCheck, if_neg (by omega), hi]

theorem fetchCheck_notNegotiated (h : ¬ Negotiated m d) : fetchCheck m d = some (E_HIF_NOT_NEGOTIATED, noParam) := by
  rw [fetchCheck_known hf hi, if_pos (not_not.1 (mt (negotiated_iff m d).2 h))]

theorem fetchCheck_featureOff (hn : Negotiated m d) (h : ¬ Featured m i d) : fetchCheck m d = some (E_HIF_FEATURE_OFF, noParam) := by
  rw [fetchCheck_known hf hi, if_neg ((negotiated_iff m d).1 hn), if_pos (not_not.1 (mt (featured_iff m i d).2 h))]

variable (hn : Negotiated m d) (hft : Featured m i d)
include hn hft

/-- Past the first four checks the domain, the standby and the data buffer decide. -/
theorem fetchCheck_featured : fetchCheck m d =
    if domOff m (domOf (d.opcode / 256)) && !farAxis m d then some (E_SYS_ROLE_UNSUPPORTED, noParam)
    else if i.std && isStandby m then some (E_HIF_STANDBY, noParam)
    else if d.dataLen ≠ 0 ∧ !dmaOk m i.out d.dataAddr d.dataLen then some (E_HIF_DMA_DENIED, noParam)
    else none := by
  rw [fetchCheck_known hf hi, if_neg ((negotiated_iff m d).1 hn), if_neg ((featured_iff m i d).1 hft)]

theorem fetchCheck_roleOff (ho : domOff m (domOf (d.opcode / 256)) = true) (ha : farAxis m d = false) :
    fetchCheck m d = some (E_SYS_ROLE_UNSUPPORTED, noParam) := by
  rw [fetchCheck_featured hf hi hn hft, if_pos (by simp [ho, ha])]

variable (hdom : domOff m (domOf (d.opcode / 256)) = false ∨ farAxis m d = true)
include hdom

theorem fetchCheck_standby (hstd : i.std = true) (hs : isStandby m = true) : fetchCheck m d = some (E_HIF_STANDBY, noParam) := by
  rw [fetchCheck_featured hf hi hn hft, if_neg (by rcases hdom with h | h <;> simp [h]), if_pos (by simp [hstd, hs])]

variable (hstd : i.std = false ∨ isStandby m = false)
include hstd

/-- The last check made at the fetch is that of the data buffer. -/
theorem fetchCheck_dma : fetchCheck m d =
    if d.dataLen ≠ 0 ∧ !dmaOk m i.out d.dataAddr d.dataLen then some (E_HIF_DMA_DENIED, noParam) else none := by
  rw [fetchCheck_featured hf hi hn hft, if_neg (by rcases hdom with h | h <;> simp [h]), if_neg (by rcases hstd with h | h <;> simp [h])]

end

/-! ## The checks made when the job executes (03 R87, checks 8 and 9) -/

section
variable {m : Mach} {d : Desc} {i : JobInfo} (hfetch : fetchCheck m d = none) (hi : jobInfo d.opcode = some i)
include hfetch hi

theorem descCheck_badParam {k : Nat} (hk : badParam m i d = some k) : descCheck m d = some (E_HIF_BAD_PARAM, k) := by
  simp only [descCheck, hfetch, hi, hk]

/-- With its parameters in order a job is refused for a domain that is switched off alone. -/
theorem descCheck_domain (hp : badParam m i d = none) : descCheck m d =
    if !domOn m (domOf (d.opcode / 256)) && !i.powers && domOf (d.opcode / 256) != 1 && !farAxis m d then
      some (E_SYS_DOMAIN_OFF, noParam) else none := by
  simp only [descCheck, hfetch, hi, hp]

end

/-- The first parameter at fault is at fault, and none before it. -/
theorem badParam_eq_some_iff (m : Mach) (i : JobInfo) (d : Desc) (k : Nat) : badParam m i d = some k ↔
    k < 10 ∧ (andNot (d.par k) (nth i.masks k) ≠ 0 ∨ paramIn m d k = false) ∧
      ∀ n, n < k → ¬ andNot (d.par n) (nth i.masks n) ≠ 0 ∧ paramIn m d n = true := by
  have hfault (n : Nat) : (andNot (d.par n) (nth i.masks n) != 0 || !paramIn m d n) = true ↔
      andNot (d.par n) (nth i.masks n) ≠ 0 ∨ paramIn m d n = false := by simp
  have hgood (n : Nat) : (!(andNot (d.par n) (nth i.masks n) != 0 || !paramIn m d n)) = true ↔
      ¬ andNot (d.par n) (nth i.masks n) ≠ 0 ∧ paramIn m d n = true := by simp
  rw [badParam, List.find?_range_eq_some, hfault, List.mem_range]
  simp only [hgood]
  tauto

/-- No check answers with the code of success. -/
theorem fetchCheck_code {m : Mach} {d : Desc} {st r : Nat} (h : fetchCheck m d = some (st, r)) : st ≠ E_OK := by
  unfold fetchCheck at h
  split at h
  · cases h; decide
  · split at h
    · cases h; decide
    · split_ifs at h <;> cases h <;> decide

theorem descCheck_code {m : Mach} {d : Desc} {st r : Nat} (h : descCheck m d = some (st, r)) : st ≠ E_OK := by
  cases hfetch : fetchCheck m d with
  | some x =>
    rw [descCheck_of_fetch hfetch] at h
    exact fetchCheck_code (hfetch.trans h)
  | none =>
    cases hi : jobInfo d.opcode with
    | none => simp only [descCheck, hfetch, hi] at h; cases h
    | some i =>
      cases hp : badParam m i d with
      | some k => rw [descCheck_badParam hfetch hi hp] at h; cases h; decide
      | none => rw [descCheck_domain hfetch hi hp] at h; split_ifs at h; cases h; decide

/-! ## The statement -/

/-- Settles O16: `job_unchecked` for the end of the job, one lemma for each check, and `badParam_eq_some_iff`. -/
theorem jobChecksInOrder : Obligations.JobChecksInOrder := by
  refine ⟨?_, ?_, badParam_eq_some_iff⟩
  · intro p hp j s status result hw hd hne hdel hr gone entry hif'
    obtain ⟨eff, heff⟩ := exec_jobCommand p hp
    rw [heff, job_unchecked hw hd hne eff, jobEnds, finishJob_failed (j := asJob p.2 j) hr (descCheck_code hd) hdel]
    rfl
  intro m d fails
  have fails_of {st r : Nat} (h : fetchCheck m d = some (st, r)) : fails st r := ⟨h, descCheck_of_fetch h⟩
  refine ⟨fun h => fails_of (fetchCheck_malformed h), fun hv hrsv hfl hl => ?_⟩
  have hf : WellFormedDesc d := ⟨hv, hrsv, hfl, hl⟩
  refine ⟨fun hi => fails_of (fetchCheck_unknown hf hi), fun i hi => ?_⟩
  refine ⟨fun h => fails_of (fetchCheck_notNegotiated hf hi h), fun hn h => fails_of (fetchCheck_featureOff hf hi hn h), fun hn hft =>
    ⟨fun ho ha => fails_of (fetchCheck_roleOff hf hi hn hft ho ha), fun hdom =>
      ⟨fun hstd hs => fails_of (fetchCheck_standby hf hi hn hft hdom hstd hs), fun hstd => ?_⟩⟩⟩
  have hdma := fetchCheck_dma hf hi hn hft hdom hstd
  refine ⟨fun hlen hno => fails_of (hdma.trans (if_pos ⟨hlen, by simp [hno]⟩)), fun hok => ?_⟩
  have hfetch : fetchCheck m d = none := hdma.trans (if_neg (by rcases hok with h | h <;> simp [h]))
  refine ⟨hfetch, fun k hk => descCheck_badParam hfetch hi hk, fun hp hpow h1 hoff ha => ?_, fun hp hon => ?_⟩
  · exact (descCheck_domain hfetch hi hp).trans (if_pos (by simp [hpow, show domOf (d.opcode / 256) ≠ 1 from h1, hoff, ha]))
  · exact (descCheck_domain hfetch hi hp).trans (if_neg (by rcases hon with h | h <;> simp [h]))

end Sys2Proof.Machine
end

section
/-! PROOFS. Jobs with data out (03 R104, R680) and the host's configuration of routes, vectors and windows (03 R83, R94, R102), and the statement
on them. -/

namespace Sys2Proof.Machine

/-! ## The commands of this statement and their effects -/

/-- A job whose result is a block of data (03 R680). -/
def blockOut (f : Mach → List Nat) (j : Job) (m : Mach) : JobRes := { m := (dataOut m j.desc (f m)).1, result := (dataOut m j.desc (f m)).2 }

/-- How many entries GET_FAULT_LOG gives. -/
def faultLogLen (j : Job) (m : Mach) : Nat := min (j.desc.par 0) (min (j.desc.dataLen / 16) m.sys.flog.length)

/-- GET_FAULT_LOG: of the entries that fit, the newest come first. -/
def faultLogOut (j : Job) (m : Mach) : JobRes :=
  { m := (dataOut m j.desc ((m.sys.flog.reverse.take (faultLogLen j m)).flatMap (fun e => evBytes e 0 0))).1, result := faultLogLen j m }

/-- MEM_ERR_LOG's entries that fit, the oldest first. -/
def memLogOut (n : Nat) (m : Mach) : List Nat := (m.memb.log.take (n / 16)).flatMap id

/-- ROUTE_EVENTS of block `b`. -/
def routeTaken (j : Job) (b : Nat) (m : Mach) : Mach := setF (setF m HIF_EVT_ROUTE_RING b (j.desc.par 1)) HIF_EVT_ROUTE_NOTICES b (j.desc.par 1 / 4)

/-- SET_COALESCE of vector `v`. -/
def coalesceTaken (j : Job) (v : Nat) (m : Mach) : Mach := setF (setF m HIF_COAL_COUNT v (j.desc.par 1)) HIF_COAL_TIME v (j.desc.par 1 / 256)

/-- SET_DMA_WINDOW of window `n`. -/
def windowTaken (j : Job) (n : Nat) (m : Mach) : Mach :=
  (List.range 5).foldl (fun m i => putReg m 1 (0x100 + 0x20 * n + 4 * i) (j.desc.par (1 + i))) m

/-- A job of a block, a vector or a window numbered by parameter 0, below `n`. -/
def numbered (n : Nat) (f : Nat → Mach → JobRes) (j : Job) (m : Mach) : JobRes :=
  if n ≤ j.desc.par 0 then jobFail m E_HIF_BAD_PARAM 0 else f (j.desc.par 0) m

theorem exec_getInfo (j : Job) (s : State) : exec (.getInfo j) s = done (runJob 0x0001 (blockOut identity) j) s := rfl
theorem exec_safeMirrorRead (j : Job) (s : State) :
    exec (.safeMirrorRead j) s = done (runJob 0x0D02 (blockOut fun m => padTo 256 m.safe.mir) j) s := rfl
theorem exec_ladleStats (j : Job) (s : State) : exec (.ladleStats j) s = done (runJob 0x0301 (blockOut ladleBlock) j) s := rfl
theorem exec_getFaultLog (j : Job) (s : State) : exec (.getFaultLog j) s = done (runJob 0x0003 faultLogOut j) s := rfl
theorem exec_memErrLog (j : Job) (s : State) :
    exec (.memErrLog j) s = done (runJob 0x0F01 (fun j => blockOut (memLogOut j.desc.dataLen) j) j) s := rfl
theorem exec_routeEvents (j : Job) (s : State) :
    exec (.routeEvents j) s = done (runJob 0x0103 (fun j => numbered 17 (fun b m => { m := routeTaken j b m }) j) j) s := rfl
theorem exec_setCoalesce (j : Job) (s : State) :
    exec (.setCoalesce j) s = done (runJob 0x0104 (fun j => numbered 64 (fun v m => { m := coalChanged (coalesceTaken j v m) v }) j) j) s := rfl
theorem exec_setDmaWindow (j : Job) (s : State) :
    exec (.setDmaWindow j) s = done (runJob 0x0105 (fun j => numbered 16 (fun n m =>
      if m.locks.lim then jobFail m E_SYS_LOCK_WRITE else { m := windowTaken j n m }) j) j) s := rfl

/-- The three status jobs write what is open (entry 41). -/
theorem exec_statusJob : ∀ p ∈ [((Instr.crucStatus, 0x0501) : (Job → Instr) × Nat), (Instr.netStatus, 0x0A03), (Instr.pairStatus, 0x0E02)],
    ∀ (j : Job) (s : State), exec (p.1 j) s = done (runJob p.2 freeOut j) s := by
  simp only [List.forall_mem_cons, List.not_mem_nil, false_implies, implies_true, and_true]
  exact ⟨fun _ _ => rfl, fun _ _ => rfl, fun _ _ => rfl⟩

/-! ## Data out (03 R680) -/

/-- Data out writes what DATA_LEN takes, and answers how much that is. -/
theorem dataOut_eq (m : Mach) (j : Job) (l : List Nat) : dataOut m j.desc l = (putsOut m j l, min j.desc.dataLen l.length) := by
  unfold dataOut putsOut
  split
  case isTrue h => rw [h, Nat.zero_min]
  case isFalse => exact congrArg (Prod.mk _) List.length_take

/-- A job whose result is a block of data ends with how much of it was written. -/
theorem blockOut_ends {opc : Nat} {j : Job} {s : State} (h : JobRuns opc j s.m) (f : Mach → List Nat) :
    done (runJob opc (blockOut f) j) s = jobEnds s opc j (putsOut s.m j (f s.m)) 0 (min j.desc.dataLen (f s.m).length) none :=
  job_ends h (by rw [blockOut, dataOut_eq s.m (asJob opc j)]; rfl)

theorem length_leBytes (n x : Nat) : (leBytes n x).length = n := by simp [leBytes]

theorem length_identity (m : Mach) : (identity m).length = 256 := length_padTo ..

theorem length_ladleBlock (m : Mach) : (ladleBlock m).length = 3136 := by
  simp [ladleBlock, List.length_flatMap, length_leBytes]

/-- Whole entries of 16 B fit the buffer. -/
theorem length_memLogOut {n : Nat} {m : Mach} (h : ∀ r ∈ m.memb.log, r.length = 16) : (memLogOut n m).length ≤ n ∧ (n = 0 → (memLogOut n m).length = 0) := by
  have hlen : (memLogOut n m).length = (m.memb.log.take (n / 16)).length * 16 := by
    have hentry : (m.memb.log.take (n / 16)).map List.length = (m.memb.log.take (n / 16)).map (fun _ => 16) :=
      List.map_congr_left fun r hr => h r (List.mem_of_mem_take hr)
    simp only [memLogOut, List.length_flatMap, id_eq, hentry, List.map_const', List.sum_replicate, smul_eq_mul]
  rw [List.length_take] at hlen
  omega

/-- The open block of a status job: its length fits a buffer of `n` bytes. -/
def openBlock (m : Mach) (n : Nat) : List Nat :=
  leBytes (Config.freeValue m.free % 2 ^ 25 % (n + 1))
    (Config.freeValue (m.free + 1) % 2 ^ (8 * (Config.freeValue m.free % 2 ^ 25 % (n + 1))))

theorem length_openBlock (m : Mach) (n : Nat) : (openBlock m n).length ≤ n := by
  rw [openBlock, length_leBytes]
  exact Nat.le_of_lt_succ (Nat.mod_lt _ (Nat.succ_pos n))

/-- A status job writes it, which uses up two open values. -/
theorem freeOut_eq (j : Job) (m : Mach) : freeOut j m =
    { m := putsOut { m with free := m.free + 2 } j (openBlock m j.desc.dataLen), result := (openBlock m j.desc.dataLen).length } := by
  have hout := dataOut_eq { m with free := m.free + 2 } j (openBlock m j.desc.dataLen)
  rw [Nat.min_eq_right (length_openBlock ..)] at hout
  exact congrArg (fun r : Mach × Nat => ({ m := r.1, result := r.2 } : JobRes)) hout

/-! ## Numbered registers -/

/-- A number out of range fails the job. -/
theorem numbered_refused {opc n : Nat} {j : Job} {s : State} {i : JobInfo} (hw : jobWaits s.m (asJob opc j) = false)
    (hf : fetchCheck s.m (asJob opc j).desc = none) (hi : jobInfo opc = some i) (hin : paramIn s.m (asJob opc j).desc 0 = decide (j.desc.par 0 < n))
    (h : n ≤ j.desc.par 0) (eff : Job → Mach → JobRes) : done (runJob opc eff j) s = jobEnds s opc j s.m E_HIF_BAD_PARAM 0 none := by
  have hbad : badParam s.m i (asJob opc j).desc = some 0 :=
    (badParam_eq_some_iff ..).2 ⟨by decide, .inr (by rw [hin]; exact decide_eq_false (Nat.not_lt.2 h)), fun k hk => absurd hk (Nat.not_lt_zero k)⟩
  exact job_unchecked hw (descCheck_badParam hf hi hbad) (by decide) eff

/-- A number in range is taken. -/
theorem numbered_taken {opc n : Nat} {f : Job → Nat → Mach → JobRes} {j : Job} {s : State} (h : JobRuns opc j s.m) (hn : j.desc.par 0 < n)
    {m' : Mach} {status result : Nat} (he : f (asJob opc j) (j.desc.par 0) s.m = { m := m', status := status, result := result }) :
    done (runJob opc (fun j => numbered n (f j) j) j) s = jobEnds s opc j m' status result none :=
  job_ends h ((if_neg (Nat.not_le.2 hn)).trans he)

/-- A vector without entries pending sends no message when its limits change. -/
theorem coalChanged_none {m : Mach} {v : Nat} (h : sget m.hif.pend v 0 = 0) : coalChanged m v = m := if_neg fun hc => hc.1 h

/-- A field takes the low bits of a value. -/
theorem setF_mod (m : Mach) (f : Fld) (i v : Nat) : setF m f i (v % 2 ^ f.w) = setF m f i v := by rw [setF, Nat.mod_mod, setF]

/-! ## The statement -/

/-- Settles O17: `blockOut_ends` and `freeOut_eq` for the jobs with data out, `numbered_taken` and `numbered_refused` for the others. -/
theorem jobsWithDataOut : Obligations.JobsWithDataOut := by
  refine ⟨?_, ?_, ?_⟩
  · intro j s n entries
    refine ⟨fun h => ?_, fun h => ?_, fun h => ?_, fun h => ?_, fun h hlog => ?_⟩
    · rw [exec_getInfo, blockOut_ends h, length_identity]
    · rw [exec_safeMirrorRead, blockOut_ends h, length_padTo]
    · rw [exec_ladleStats, blockOut_ends h, length_ladleBlock]
    · exact (exec_getFaultLog j s).trans (job_ends h (by rw [faultLogOut, dataOut_eq]; rfl))
    · obtain ⟨hfit, hzero⟩ := length_memLogOut (n := n) hlog
      have hres : min n (memLogOut n s.m).length = if n = 0 then 0 else (memLogOut n s.m).length := by split_ifs <;> omega
      refine (exec_memErrLog j s).trans ?_
      exact (job_ends h (by rw [blockOut, dataOut_eq]; rfl)).trans (congrArg (jobEnds s 0x0F01 j (putsOut s.m j (memLogOut n s.m)) 0 · none) hres)
  · intro p hp j s h
    exact ⟨openBlock s.m j.desc.dataLen, length_openBlock .., (exec_statusJob p hp j s).trans (job_ends h (freeOut_eq ..))⟩
  · intro j s a reaches w
    refine ⟨fun h hn => ?_, fun ⟨hw, hf⟩ hn => ?_, fun h hn hp => ?_, fun ⟨hw, hf⟩ hn => ?_, fun h => ⟨fun hn hlim => ?_, fun hn hlim => ?_⟩, fun ⟨hw, hf⟩ hn => ?_⟩
    · refine (exec_routeEvents j s).trans ((numbered_taken h hn rfl).trans ?_)
      rw [routeTaken, ← setF_mod _ HIF_EVT_ROUTE_RING, ← setF_mod _ HIF_EVT_ROUTE_NOTICES]; rfl
    · exact (exec_routeEvents j s).trans (numbered_refused hw hf rfl rfl hn _)
    · refine (exec_setCoalesce j s).trans ((numbered_taken h hn rfl).trans ?_)
      rw [coalChanged_none (m := coalesceTaken _ _ _) hp, coalesceTaken, ← setF_mod _ HIF_COAL_COUNT, ← setF_mod _ HIF_COAL_TIME]; rfl
    · exact (exec_setCoalesce j s).trans (numbered_refused hw hf rfl rfl hn _)
    · exact (exec_setDmaWindow j s).trans (numbered_taken h hn (by rw [hlim]; rfl))
    · exact (exec_setDmaWindow j s).trans (numbered_taken h hn (by rw [hlim]; rfl))
    · exact (exec_setDmaWindow j s).trans (numbered_refused hw hf rfl rfl hn _)

end Sys2Proof.Machine
end

section
/-! PROOFS. Rings: their register sets, and what the operations on them share (03 R79, R105 to R107). -/

namespace Sys2Proof.Machine

/-! ## The register sets of rings (03 R105, R114) -/

theorem getF_lt (m : Mach) (f : Fld) (i : Nat) : getF m f i < 2 ^ f.w := Nat.mod_lt _ (Nat.two_pow_pos _)

/-- Two registers of a ring's set that differ for every kind of ring have different keys at every number. -/
theorem ringFld_apart {a b c d a' b' c' d' : Fld} (h : ∀ x ∈ [(a, a'), (b, b'), (c, c'), (d, d')], x.2.stride = x.1.stride ∧ x.2.key 0 ≠ x.1.key 0)
    (kind : Nat) : (ringFld kind a' b' c' d').stride = (ringFld kind a b c d).stride ∧ (ringFld kind a' b' c' d').key 0 ≠ (ringFld kind a b c d).key 0 :=
  match kind with
  | 0 => h (a, a') (by simp)
  | 1 => h (b, b') (by simp)
  | 2 => h (c, c') (by simp)
  | _ + 3 => h (d, d') (by simp)

/-- Writing one register of a ring's set leaves another of the same ring. -/
theorem getF_setF_ring {a b c d a' b' c' d' : Fld} (h : ∀ x ∈ [(a, a'), (b, b'), (c, c'), (d, d')], x.2.stride = x.1.stride ∧ x.2.key 0 ≠ x.1.key 0)
    (m : Mach) (kind k v : Nat) : getF (setF m (ringFld kind a b c d) k v) (ringFld kind a' b' c' d') k = getF m (ringFld kind a' b' c' d') k :=
  getF_setF_other (ringFld_apart h kind) m k v

/-- STATE takes a value of two bits. -/
theorem rState_w : ∀ kind, (rState kind).w = 2
  | 0 | 1 | 2 | _ + 3 => rfl

/-- ENABLE takes one bit. -/
theorem rEn_w : ∀ kind, (rEn kind).w = 1
  | 0 | 1 | 2 | _ + 3 => rfl

theorem rCount_le : ∀ kind, rCount kind ≤ 32
  | 0 | 1 => by decide
  | 2 => by decide
  | _ + 3 => Nat.le_refl 32

/-- LOG2_SIZE stands lowest in CFG, which lies at 8 in the ring's set. -/
theorem rLog_key : ∀ kind k, (rLog kind).key k = regAddr 1 (ringOff kind k + 8) * 32
  | 0, k | 1, k | 2, k | _ + 3, k => by simp only [Fld.key, Fld.addr, rLog, ringFld, regAddr, ringOff, HIF_CMD_CFG_LOG2_SIZE, HIF_CPL_CFG_LOG2_SIZE,
      HIF_EVT_CFG_LOG2_SIZE, HIF_STR_CFG_LOG2_SIZE]; omega

/-- The sets of rings lie below the axis masks. -/
theorem ringOff_le {kind k : Nat} (hk : k < rCount kind) : ringOff kind k ≤ 0x17C0 := by
  have h := rCount_le kind
  unfold ringOff
  split <;> omega

/-! ## Writes of whole registers -/

/-- The fields of a register lie in it. -/
theorem mem_fieldsAt {blk off : Nat} {x : Fld × Nat} (h : x ∈ fieldsAt blk off) : x.1 ∈ fieldsOf blk ∧ x.1.off + x.1.stride * x.2 = off := by
  unfold fieldsAt at h
  split at h
  · cases h
  · simp only [List.mem_filterMap, Option.map_eq_some_iff, Fld.instAt] at h
    obtain ⟨f, hf, i, hi, rfl⟩ := h
    split_ifs at hi with hat
    cases hi
    obtain ⟨hle, hmod, -⟩ := hat
    exact ⟨hf, by have := Nat.mul_div_cancel' (Nat.dvd_of_mod_eq_zero hmod); simp only [this]; omega⟩

/-- A field of a block's table lies in the block's window, and begins in its 32 bits. -/
theorem fieldsOf_place : ∀ blk, blk < 17 → ∀ f ∈ fieldsOf blk, f.blk = blk ∧ f.lsb < 32 := by decide

/-- Writing fields of other keys leaves a field. -/
theorem getF_writeFields_ne (v : Nat) {g : Fld} {j : Nat} (l : List (Fld × Nat)) (h : ∀ x ∈ l, x.1.key x.2 ≠ g.key j) (m : Mach) :
    getF (l.foldl (fun m x => setF m x.1 x.2 (bits v x.1.lsb x.1.w)) m) g j = getF m g j := by
  induction l generalizing m with
  | nil => rfl
  | cons x r ih =>
    rw [List.foldl_cons, ih (fun y hy => h y (List.mem_cons_of_mem _ hy)), getF_setF_ne _ _ _ _ _ _ (h x (List.mem_cons_self ..)).symm]

/-- Writing a register leaves the fields of every other one. -/
theorem getF_putReg_ne {blk off : Nat} (hb : blk < 17) {g : Fld} {j : Nat} (h : g.key j < regAddr blk off * 32 ∨ (regAddr blk off + 1) * 32 ≤ g.key j)
    (m : Mach) (v : Nat) : getF (putReg m blk off v) g j = getF m g j := by
  refine getF_writeFields_ne v _ (fun x hx => ?_) m
  obtain ⟨hf, hoff⟩ := mem_fieldsAt hx
  obtain ⟨hblk, hlsb⟩ := fieldsOf_place blk hb _ hf
  have haddr : x.1.addr x.2 = regAddr blk off := by simp only [Fld.addr, regAddr, hblk]; omega
  rw [Fld.key, haddr]
  omega

/-- Of the fields of a ring's CFG, LOG2_SIZE is the first, and the others have other keys. -/
theorem fieldsAt_ringCfg : ∀ kind, kind < 4 → ∀ k, k < rCount kind → (fieldsAt 1 (ringOff kind k + 8)).head? = some (rLog kind, k) ∧
    ∀ x ∈ (fieldsAt 1 (ringOff kind k + 8)).tail, x.1.key x.2 ≠ (rLog kind).key k := by decide

theorem rLog_place : ∀ kind, (rLog kind).lsb = 0 ∧ (rLog kind).w = 5
  | 0 | 1 | 2 | _ + 3 => ⟨rfl, rfl⟩

/-- CFG written, LOG2_SIZE holds the low five bits. -/
theorem getF_putReg_log {kind k : Nat} (hkind : kind < 4) (hk : k < rCount kind) (m : Mach) (cfg : Nat) :
    getF (putReg m 1 (ringOff kind k + 8) cfg) (rLog kind) k = cfg % 32 := by
  obtain ⟨hhead, htail⟩ := fieldsAt_ringCfg kind hkind k hk
  obtain ⟨r, hr⟩ := List.head?_eq_some_iff.1 hhead
  rw [hr, List.tail_cons] at htail
  obtain ⟨hlsb, hw⟩ := rLog_place kind
  rw [putReg, hr, List.foldl_cons, getF_writeFields_ne _ _ htail, getF_setF_self, bits_mod, hlsb, hw]
  simp [bits]

theorem RegsOnly.sys {m m' : Mach} (h : RegsOnly m m') : m'.sys = m.sys := by obtain ⟨r, rfl⟩ := h; rfl

/-- A register written changes the register file alone. -/
theorem putReg_regsOnly (m : Mach) (blk off v : Nat) : RegsOnly m (putReg m blk off v) := putReg_frame m blk off v

/-! ## A ring is enabled (03 R106) -/

/-- The indices of a ring that is enabled. -/
theorem startRing_fields (m : Mach) (kind k : Nat) : getF (startRing m kind k) (rState kind) k = 1 ∧ getF (startRing m kind k) (rEn kind) k = 1 ∧
    getF (startRing m kind k) (rHead kind) k = 0 ∧ getF (startRing m kind k) (rTail kind) k = 0 ∧
    getF (startRing m kind k) (rLog kind) k = getF m (rLog kind) k := by
  let m₁ := setF m (rEn kind) k 1
  let m₂ := setF m₁ (rState kind) k 1
  let m₃ := setF m₂ (rHead kind) k 0
  have hregs : (startRing m kind k).regs = (setF m₃ (rTail kind) k 0).regs := rfl
  simp only [getF_of_regs hregs]
  refine ⟨?_, ?_, ?_, (getF_setF_self ..).trans (Nat.zero_mod _), ?_⟩
  · exact (getF_setF_ring (by decide) m₃ kind k 0).trans ((getF_setF_ring (by decide) m₂ kind k 0).trans
      ((getF_setF_self ..).trans (by rw [rState_w]; rfl)))
  · exact (getF_setF_ring (by decide) m₃ kind k 0).trans ((getF_setF_ring (by decide) m₂ kind k 0).trans
      ((getF_setF_ring (by decide) m₁ kind k 1).trans ((getF_setF_self ..).trans (by rw [rEn_w]; rfl))))
  · exact (getF_setF_ring (by decide) m₃ kind k 0).trans ((getF_setF_self ..).trans (Nat.zero_mod _))
  · exact (getF_setF_ring (by decide) m₃ kind k 0).trans ((getF_setF_ring (by decide) m₂ kind k 0).trans
      ((getF_setF_ring (by decide) m₁ kind k 1).trans (getF_setF_ring (by decide) m kind k 1)))

/-- The registers of a new ring take the job's parameters. -/
def ringSetUp (d : Desc) (kind k : Nat) (m : Mach) : Mach :=
  let o := ringOff kind k
  let m := putReg (putReg (putReg m 1 (o + 8) (d.par 1)) 1 o (d.par 2)) 1 (o + 4) (d.par 3)
  putReg (putReg (putReg m 1 (o + 0x18) (d.par 4)) 1 (o + 0x1C) (d.par 5)) 1 (o + 0x20) (d.par 6)

/-- A telemetry stream's mask is the job's data in. -/
def maskSetUp (j : Job) (k : Nat) (m : Mach) : Mach := (List.range 8).foldl (fun m i => setF m HIF_TMASK_AXES (8 * k + i) (word j.data i)) m

/-- Whether the ring is an out-stream of telemetry, by its CFG. -/
def teleCfg (kind cfg : Nat) : Bool := kind == 3 && cfg.testBit 24 && bits cfg 25 2 == 0

theorem ringSetUp_regsOnly (d : Desc) (kind k : Nat) (m : Mach) : RegsOnly m (ringSetUp d kind k m) :=
  (((((putReg_regsOnly ..).trans (putReg_regsOnly ..)).trans (putReg_regsOnly ..)).trans (putReg_regsOnly ..)).trans
    (putReg_regsOnly ..)).trans (putReg_regsOnly ..)

theorem maskSetUp_regsOnly (j : Job) (k : Nat) (m : Mach) : RegsOnly m (maskSetUp j k m) := .foldl (fun _ _ => .setF .refl) m

/-- The size of the ring is that of the CFG value. -/
theorem getF_ringSetUp_log {kind k : Nat} (hkind : kind < 4) (hk : k < rCount kind) (d : Desc) (m : Mach) :
    getF (ringSetUp d kind k m) (rLog kind) k = d.par 1 % 32 := by
  have hkey := rLog_key kind k
  have hother {n : Nat} (hn : n ≠ ringOff kind k + 8) (m : Mach) (v : Nat) : getF (putReg m 1 n v) (rLog kind) k = getF m (rLog kind) k :=
    getF_putReg_ne (by decide) (by rw [hkey]; unfold regAddr; omega) m v
  unfold ringSetUp
  rw [hother (by omega), hother (by omega), hother (by omega), hother (by omega), hother (by omega), getF_putReg_log hkind hk]

/-- The masks lie elsewhere. -/
theorem getF_maskSetUp_log {kind k : Nat} (hk : k < rCount kind) (j : Job) (n : Nat) (m : Mach) :
    getF (maskSetUp j n m) (rLog kind) k = getF m (rLog kind) k := by
  have hbelow : (rLog kind).key k < HIF_TMASK_AXES.key 0 := by
    have hoff := ringOff_le hk
    rw [rLog_key]
    simp only [regAddr, Fld.key, Fld.addr, HIF_TMASK_AXES]
    omega
  exact foldl_related (R := fun m m' => getF m' (rLog kind) k = getF m (rLog kind) k) (fun _ => rfl) (fun h h' => h'.trans h)
    (fun i _ m => getF_setF_above hbelow m _ _) m

section
variable {d : Desc} {kind k : Nat} (hkind : kind < 4) (hk : k < rCount kind) (hname : d.par 0 = kind + 256 * k)
include hkind hk hname

/-- Parameter 0 names kind and ring. -/
theorem ring_named : d.par 0 % 4 = kind ∧ bits (d.par 0) 8 5 = k := by
  have := rCount_le kind
  simp only [bits]
  omega

/-- CREATE_RING with values that pass its checks (03 R106). -/
theorem createRing_taken {j : Job} (hj : j.desc = d) {m : Mach} (h0 : k = 0 → kind = 3)
    (hlen : d.dataLen = if teleCfg kind (d.par 1) then 32 else 0) (hwb : (kind == 3 && (d.par 1).testBit 24) = false → d.par 4 = 0 ∧ d.par 5 = 0)
    (h6 : andNot (d.par 6) 0x71F = 0) (h1 : andNot (d.par 1) 0xF73F3F1F = 0)
    (hok : createFails m kind k (d.par 1) (d.par 2 + d.par 3 * 2 ^ 32) (d.par 4 + d.par 5 * 2 ^ 32) (d.par 6) = none) :
    createRing j m = { m := startRing (if teleCfg kind (d.par 1) then maskSetUp j k (ringSetUp d kind k m) else ringSetUp d kind k m) kind k, result := k } := by
  obtain ⟨hp, hb⟩ := ring_named hkind hk hname
  unfold teleCfg at hlen ⊢
  have hcmd : ¬ (k = 0 ∧ kind < 3) := by omega
  have h4 : ¬ ((!(kind == 3 && (d.par 1).testBit 24)) = true ∧ d.par 4 ≠ 0) := fun h => h.2 (hwb (by simpa only [Bool.not_eq_true'] using h.1)).1
  have h5 : ¬ ((!(kind == 3 && (d.par 1).testBit 24)) = true ∧ d.par 5 ≠ 0) := fun h => h.2 (hwb (by simpa only [Bool.not_eq_true'] using h.1)).2
  have hdata : ¬ ((kind == 3 && (d.par 1).testBit 24 && bits (d.par 1) 25 2 == 0) = true ∧ d.dataLen ≠ 32 ∨
      (!(kind == 3 && (d.par 1).testBit 24 && bits (d.par 1) 25 2 == 0)) = true ∧ d.dataLen ≠ 0) := by
    split_ifs at hlen with ht <;> simp [ht, hlen]
  simp only [createRing, hj, hp, hb, if_neg hcmd, h1, h6, if_neg h4, if_neg h5, if_neg hdata, hok, ne_eq, not_true_eq_false, if_false]
  rfl

end

/-- The ring then runs with the size that CFG gives, and memory and SYS are as they were. -/
theorem createdRing_runs {kind k : Nat} (hkind : kind < 4) (hk : k < rCount kind) (j : Job) (d : Desc) (b : Bool) (m : Mach) :
    let m' := startRing (if b then maskSetUp j k (ringSetUp d kind k m) else ringSetUp d kind k m) kind k
    (getF m' (rState kind) k = 1 ∧ getF m' (rEn kind) k = 1 ∧ getF m' (rHead kind) k = 0 ∧ getF m' (rTail kind) k = 0) ∧
      getF m' (rLog kind) k = d.par 1 % 32 ∧ m'.mem = m.mem ∧ m'.sys = m.sys := by
  intro m'
  have hset : RegsOnly m (if b then maskSetUp j k (ringSetUp d kind k m) else ringSetUp d kind k m) :=
    .ite ((ringSetUp_regsOnly ..).trans (maskSetUp_regsOnly ..)) (ringSetUp_regsOnly ..)
  have hlog : getF (if b then maskSetUp j k (ringSetUp d kind k m) else ringSetUp d kind k m) (rLog kind) k = d.par 1 % 32 := by
    split
    · rw [getF_maskSetUp_log hk, getF_ringSetUp_log hkind hk]
    · exact getF_ringSetUp_log hkind hk d m
  obtain ⟨hs, he, hh, ht, hl⟩ := startRing_fields (if b then maskSetUp j k (ringSetUp d kind k m) else ringSetUp d kind k m) kind k
  exact ⟨⟨hs, he, hh, ht⟩, hl.trans hlog, hset.mem, hset.sys⟩

/-- DIR is bit 24 of a stream's CFG. -/
theorem testBit_ringCfg (m : Mach) (k : Nat) : (ringCfg m 3 k).testBit 24 = isOut m k := by
  have hlog := getF_lt m HIF_STR_CFG_LOG2_SIZE k
  have hvec := getF_lt m HIF_STR_CFG_VECTOR k
  have hcq := getF_lt m HIF_STR_CFG_CQ k
  have hprio := getF_lt m HIF_STR_CFG_PRIO k
  have hdir := getF_lt m HIF_STR_CFG_DIR k
  have hbit : ringCfg m 3 k / 2 ^ 24 % 2 = getF m HIF_STR_CFG_DIR k := by
    simp only [ringCfg, ringFld]
    generalize getF m HIF_STR_CFG_LOG2_SIZE k = log at *
    generalize getF m HIF_STR_CFG_VECTOR k = vec at *
    generalize getF m HIF_STR_CFG_CQ k = cq at *
    generalize getF m HIF_STR_CFG_PRIO k = prio at *
    generalize getF m HIF_STR_CFG_DIR k = dir at *
    generalize getF m HIF_STR_CFG_SRC k = src
    generalize getF m HIF_STR_CFG_ESIZE k = esize
    simp only [HIF_STR_CFG_LOG2_SIZE, HIF_STR_CFG_VECTOR, HIF_STR_CFG_CQ, HIF_STR_CFG_PRIO, HIF_STR_CFG_DIR, HIF_STR_CFG_SRC,
      HIF_STR_CFG_ESIZE] at *
    omega
  rw [Nat.testBit_eq_decide_div_mod_eq, hbit, isOut, onF]
  rfl

/-- RING_ENABLE of a ring that is no out-stream, with values that pass the checks. -/
theorem ringEnable_taken {m : Mach} {kind k : Nat} (hkind : kind < 4) (hready : getF m HIF_STATUS_READY = 1) (hout : kind = 3 → isOut m k = false)
    (hok : createFails m kind k (ringCfg m kind k) (ringBase m kind k) (strWb m k) (getF m HIF_STR_AUX_DECIM k * 256) = none) :
    ringEnable kind k m = startRing m kind k := by
  have htap : (kind == 3 && (ringCfg m kind k).testBit 24 && bits (ringCfg m kind k) 25 2 == 1 && !feature m 8) = false := by
    by_cases h : kind = 3
    · subst h; simp [testBit_ringCfg, hout rfl]
    · simp [h]
  have hguard : (!onF m HIF_STATUS_READY || decide (4 ≤ kind)) = false := by simp [onF, hready]; omega
  simp only [ringEnable, hguard, hok, htap, Bool.false_eq_true, if_false]

/-! ## A ring is stopped (03 R107) -/

/-- A ring that is stopped is disabled and IDLE. -/
theorem stopRing_fields (m : Mach) (kind k : Nat) : getF (stopRing m kind k) (rState kind) k = 0 ∧ getF (stopRing m kind k) (rEn kind) k = 0 := by
  have hregs : (stopRing m kind k).regs = (setF (setF m (rEn kind) k 0) (rState kind) k 0).regs := by unfold stopRing; split <;> rfl
  simp only [getF_of_regs hregs]
  exact ⟨(getF_setF_self ..).trans (Nat.zero_mod _),
    (getF_setF_ring (by decide) (setF m (rEn kind) k 0) kind k 0).trans ((getF_setF_self ..).trans (Nat.zero_mod _))⟩

/-- Of a stopped in-stream no block is kept, in the store or before the partner's acknowledgement. -/
theorem stopRing_blocks (m : Mach) (k : Nat) : (∀ b ∈ (stopRing m 3 k).hif.blocks, b.ring ≠ k) ∧
    ∀ x ∈ (stopRing m 3 k).duo.ins, ∀ b, x.block = some b → b.ring ≠ k := by
  refine ⟨fun b hb => ?_, fun x hx b hb => ?_⟩
  · have hkept : (b.ring != k) = true := (List.mem_filter.1 hb).2
    simpa using hkept
  · have hkept : (!x.block.any (fun b => b.ring == k)) = true := (List.mem_filter.1 hx).2
    simpa [hb] using hkept

/-- A command ring with jobs in flight drains: its deletion waits with completion `c`. -/
def draining (m : Mach) (k : Nat) (c : Compl) : Mach :=
  { setF (setF m (rEn 0) k 0) (rState 0) k 3 with hif := { m.hif with deleting := m.hif.deleting ++ [(k, c)] } }

theorem draining_fields (m : Mach) (k : Nat) (c : Compl) : getF (draining m k c) HIF_CMD_CTRL_STATE k = 3 ∧ getF (draining m k c) HIF_CMD_CTRL_ENABLE k = 0 :=
  ⟨getF_setF_self .., (getF_setF_ring (by decide) (setF m (rEn 0) k 0) 0 k 3).trans (getF_setF_self ..)⟩

section
variable {m : Mach} {kind k : Nat} (hkind : kind < 4) (hk : k < rCount kind) (h0 : k = 0 → kind = 3)
    (hcq : kind = 1 → ∀ c, c < 16 → ringOn m 0 c = true → getF m HIF_CMD_CFG_CQ c ≠ k)

include hcq in
/-- No enabled command ring completes into the ring. -/
theorem completes_none : ¬ (kind = 1 ∧ (List.range 16).any (fun c => ringOn m 0 c && getF m HIF_CMD_CFG_CQ c == k)) := by
  rintro ⟨h1, hany⟩
  obtain ⟨c, hc, hon⟩ := List.any_eq_true.1 hany
  simp only [Bool.and_eq_true, beq_iff_eq] at hon
  exact hcq h1 c (List.mem_range.1 hc) hon.1 hon.2

include hkind hk h0
section
variable {j : Job} (hname : j.desc.par 0 = kind + 256 * k)
include hname

/-- DELETE_RING of a ring that is IDLE. -/
theorem deleteRing_idle (hs : getF m (rState kind) k = 0) : deleteRing j m = { m := m } := by
  obtain ⟨hp, hb⟩ := ring_named hkind hk hname
  have hin : ¬ ((k = 0 ∧ kind < 3) ∨ rCount kind ≤ k) := by omega
  simp only [deleteRing, hp, hb, if_neg hin, hs, if_true]

include hcq in
/-- DELETE_RING of a ring without open jobs. -/
theorem deleteRing_stops (hs : getF m (rState kind) k ≠ 0) (hbusy : kind = 0 → ringBusy (dropFlight m j) k = false) :
    deleteRing j m = { m := stopRing m kind k } := by
  obtain ⟨hp, hb⟩ := ring_named hkind hk hname
  have hin : ¬ ((k = 0 ∧ kind < 3) ∨ rCount kind ≤ k) := by omega
  have hopen : ¬ (kind = 0 ∧ ringBusy (dropFlight m j) k = true) := fun h => by rw [hbusy h.1] at h; exact absurd h.2 (by decide)
  simp only [deleteRing, hp, hb, if_neg hin, hs, if_false, if_neg (completes_none hcq), if_neg hopen]

/-- DELETE_RING of a command ring with open jobs. -/
theorem deleteRing_drains (h : kind = 0) (hs : getF m HIF_CMD_CTRL_STATE k ≠ 0) (hbusy : ringBusy (dropFlight m j) k = true) :
    deleteRing j m = { m := draining m k (jcompl j E_OK 0 none), later := true } := by
  subst h
  obtain ⟨hp, hb⟩ := ring_named hkind hk hname
  have hin : ¬ ((k = 0 ∧ 0 < 3) ∨ rCount 0 ≤ k) := by omega
  have hst : ¬ getF m (rState 0) k = 0 := hs
  simp only [deleteRing, hp, hb, if_neg hin, if_neg hst, hbusy, Nat.zero_ne_one, false_and, if_false, and_self, if_true]
  rfl

end

section
variable (hready : getF m HIF_STATUS_READY = 1)
omit h0
include hready

include hcq in
/-- RING_DISABLE of a ring without open jobs. -/
theorem ringDisable_stops (hs : getF m (rState kind) k ≠ 0) (hbusy : kind = 0 → ringBusy m k = false) : ringDisable kind k m = stopRing m kind k := by
  have hin : ¬ (4 ≤ kind ∨ rCount kind ≤ k ∨ getF m (rState kind) k = 0 ∨ (!onF m HIF_STATUS_READY) = true) := by
    simp [onF, hready, hs]; omega
  have hopen : ¬ (kind = 0 ∧ ringBusy m k = true) := fun h => by rw [hbusy h.1] at h; exact absurd h.2 (by decide)
  simp only [ringDisable, if_neg hin, if_neg (completes_none hcq), if_neg hopen]

/-- RING_DISABLE of a command ring with open jobs. -/
theorem ringDisable_drains (h : kind = 0) (hs : getF m HIF_CMD_CTRL_STATE k ≠ 0) (hbusy : ringBusy m k = true) :
    ringDisable kind k m = draining m k { ring := 16 } := by
  subst h
  have hst : ¬ getF m (rState 0) k = 0 := hs
  have hin : ¬ (4 ≤ 0 ∨ rCount 0 ≤ k ∨ getF m (rState 0) k = 0 ∨ (!onF m HIF_STATUS_READY) = true) := by
    simp [onF, hready, hst]; omega
  simp only [ringDisable, if_neg hin, hbusy, Nat.zero_ne_one, false_and, if_false, and_self, if_true]
  rfl

end
end

/-! ## The statement -/

theorem exec_createRing (j : Job) (s : State) : exec (.createRing j) s = done (runJob 0x0101 createRing j) s := rfl
theorem exec_deleteRing (j : Job) (s : State) : exec (.deleteRing j) s = done (runJob 0x0102 deleteRing j) s := rfl
theorem exec_ringEnable (kind k : Nat) (s : State) : exec (.ringEnable kind k) s = done (domWrite 1 (ringCtrlOff kind k) (ringEnable kind k)) s := rfl
theorem exec_ringDisable (kind k : Nat) (s : State) : exec (.ringDisable kind k) s = done (domWrite 1 (ringCtrlOff kind k) (ringDisable kind k)) s := rfl

/-- Settles O18: creation through `createRing_taken` and `ringEnable_taken`, the end through `stopRing_fields` and `draining_fields`. -/
theorem ringsAreCreatedAndStopped : Obligations.RingsAreCreatedAndStopped := by
  intro j kind k s hkind hk h0 m running stopped noBlocks wb names cfg out tele
  refine ⟨fun hj hn hlen hwb h6 h1 hok => ?_, fun hb hr hout hok => ?_, fun hcq => ⟨fun hj hn hbusy => ?_, fun hb hr hs hbusy => ?_⟩,
    fun h hs => ⟨fun hj hn hbusy => ?_, fun hb hr hbusy => ?_⟩⟩
  · exact ⟨_, (exec_createRing j s).trans (job_ends hj (createRing_taken (d := (asJob 0x0101 j).desc) hkind hk hn rfl h0 hlen hwb h6 h1 hok)),
      createdRing_runs hkind hk ..⟩
  · obtain ⟨hs, he, hh, ht, hl⟩ := startRing_fields m kind k
    exact ⟨_, (exec_ringEnable kind k s).trans ((done_domWrite_on hb ..).trans (by rw [ringEnable_taken hkind hr hout hok])), ⟨hs, he, hh, ht⟩, hl⟩
  · by_cases hs : getF m (rState kind) k = 0
    · exact ⟨m, (exec_deleteRing j s).trans (job_ends hj (deleteRing_idle (j := asJob 0x0102 j) hkind hk h0 hn hs)), ⟨hs, fun h => absurd hs h⟩, fun h => absurd hs h⟩
    · obtain ⟨hst, hen⟩ := stopRing_fields m kind k
      exact ⟨_, (exec_deleteRing j s).trans (job_ends hj (deleteRing_stops (j := asJob 0x0102 j) hkind hk h0 hcq hn hs hbusy)), ⟨hst, fun _ => hen⟩,
        fun _ h => by subst h; exact stopRing_blocks m k⟩
  · obtain ⟨hst, hen⟩ := stopRing_fields m kind k
    exact ⟨_, (exec_ringDisable kind k s).trans ((done_domWrite_on hb ..).trans (by rw [ringDisable_stops hkind hk hcq hr hs hbusy])),
      ⟨hst, fun _ => hen⟩, fun h => by subst h; exact stopRing_blocks m k⟩
  · obtain ⟨hst, hen⟩ := draining_fields m k (jcompl (asJob 0x0102 j) E_OK 0 none)
    exact ⟨_, (exec_deleteRing j s).trans (job_later hj (deleteRing_drains (j := asJob 0x0102 j) hkind hk h0 hn h hs hbusy)), hst, hen, rfl, _, rfl⟩
  · obtain ⟨hst, hen⟩ := draining_fields m k { ring := 16 }
    exact ⟨_, (exec_ringDisable kind k s).trans ((done_domWrite_on hb ..).trans (by rw [ringDisable_drains hkind hk hr h hs hbusy])), hst, hen, rfl, _, rfl⟩

end Sys2Proof.Machine
end

section
/-! PROOFS. What the host interface's statements share: which registers a refused host access writes, and what reports leave of it (03 R83, R84). -/

namespace Sys2Proof.Machine

/-! ## What a report leaves -/

theorem Reported.out {m m' : Mach} (h : Reported m m') : m'.out = m.out := by obtain ⟨⟨_, _, _, _, rfl⟩, _⟩ := h; rfl
theorem Reported.mould {m m' : Mach} (h : Reported m m') : m'.mould = m.mould := by obtain ⟨⟨_, _, _, _, rfl⟩, _⟩ := h; rfl

/-- Of HIF a report changes the held events, and which rings have lost one. -/
theorem report_hif (m : Mach) (code cls kind id detail index : Nat) :
    ∃ h l, (report m code cls kind id detail index).hif = { m.hif with held := h, lost := l } := by
  have hlog (m : Mach) (e : Ev) : (logEv m e).hif = m.hif := by simp only [logEv, setF_hif, apply_ite Mach.hif, incF, ite_self]
  have hhold (m : Mach) (k : Nat) (e : Ev) : ∃ h l, (holdEv m k e).hif = { m.hif with held := h, lost := l } := by
    unfold holdEv; split
    · exact ⟨m.hif.held, _, rfl⟩
    · exact ⟨_, m.hif.lost, rfl⟩
  simp only [report, apply_ite Mach.hif, hlog, ite_self]
  split
  · exact hhold ..
  · exact ⟨_, _, rfl⟩

/-! An error of node scope is a report. -/

theorem logNode_reported (m : Mach) (code detail : Nat) : Reported m (logNode m code detail) := report_reported m code 0 1 (nodeId m) detail 0xFFFF
theorem logNode_fieldsBut (m : Mach) (code detail : Nat) : FieldsBut (· ∈ reportKeys) m (logNode m code detail) :=
  report_fieldsBut m code 0 1 (nodeId m) detail 0xFFFF
theorem logNode_hif (m : Mach) (code detail : Nat) : ∃ h l, (logNode m code detail).hif = { m.hif with held := h, lost := l } :=
  report_hif m code 0 1 (nodeId m) detail 0xFFFF

/-! ## Refused host accesses (03 R84) -/

/-- The registers that the refusal of a host access writes. -/
def deniedKeys : List Nat := HIF_DMA_DENIED_CNT_CNT.key 0 :: HIF_STATUS_DMA_DENIED.key 0 :: reportKeys

/-- They lie below the DMA windows, or among those of the event rings. -/
theorem deniedKeys_place : ∀ k ∈ deniedKeys, k < 0x40010100 * 32 ∨ 0x40010C24 * 32 ≤ k ∧ k < 0x40010D00 * 32 := by decide

/-- A refusal is counted and flagged. -/
def denialCounted (m : Mach) : Mach := flag (incF m HIF_DMA_DENIED_CNT_CNT 0 1) HIF_STATUS_DMA_DENIED

theorem dmaDenied_eq (m : Mach) (a : Nat) : dmaDenied m a = logNode (denialCounted m) E_HIF_DMA_DENIED a := rfl

theorem ringDenied_eq (m : Mach) (kind k a : Nat) :
    ringDenied m kind k a = report (setF (dmaDenied m a) (rState kind) k 2) E_HIF_RING_FAULT 0 4 k kind 0xFFFF := rfl

theorem dmaDenied_fieldsBut (m : Mach) (a : Nat) : FieldsBut (· ∈ deniedKeys) m (dmaDenied m a) := by
  have hcount : FieldsBut (· ∈ deniedKeys) m (denialCounted m) := (FieldsBut.setF _ (.head _)).trans (.setF _ (.tail _ (.head _)))
  rw [dmaDenied_eq]
  exact hcount.trans (FieldsBut.mono (logNode_fieldsBut _ _ _) fun _ h => .tail _ (.tail _ h))

/-- A ring that enters FAULT writes its STATE beside them. -/
theorem ringDenied_fieldsBut (m : Mach) (kind k a : Nat) :
    FieldsBut (fun x => x = (rState kind).key k ∨ x ∈ deniedKeys) m (ringDenied m kind k a) := by
  have hd := FieldsBut.mono (Q := fun x => x = (rState kind).key k ∨ x ∈ deniedKeys) (dmaDenied_fieldsBut m a) fun _ => .inr
  have hs : FieldsBut (fun x => x = (rState kind).key k ∨ x ∈ deniedKeys) (dmaDenied m a) (setF (dmaDenied m a) (rState kind) k 2) := .setF _ (.inl rfl)
  rw [ringDenied_eq]
  exact (hd.trans hs).trans (FieldsBut.mono (report_fieldsBut _ _ _ _ _ _ _) fun _ h => .inr (.tail _ (.tail _ h)))

/-- Of HIF beside its registers a refused ring access changes the events alone. -/
theorem ringDenied_hif (m : Mach) (kind k a : Nat) : ∃ h l, (ringDenied m kind k a).hif = { m.hif with held := h, lost := l } := by
  obtain ⟨h₁, l₁, hd⟩ := logNode_hif (denialCounted m) E_HIF_DMA_DENIED a
  obtain ⟨h₂, l₂, hr⟩ := report_hif (setF (dmaDenied m a) (rState kind) k 2) E_HIF_RING_FAULT 0 4 k kind 0xFFFF
  rw [setF_hif, dmaDenied_eq, hd] at hr
  exact ⟨h₂, l₂, hr⟩

/-- Memory and what leaves the block stay. -/
theorem ringDenied_frame (m : Mach) (kind k a : Nat) : (ringDenied m kind k a).mem = m.mem ∧ (ringDenied m kind k a).out = m.out := by
  have hd := logNode_reported (denialCounted m) E_HIF_DMA_DENIED a
  have hr := report_reported (setF (dmaDenied m a) (rState kind) k 2) E_HIF_RING_FAULT 0 4 k kind 0xFFFF
  exact ⟨hr.mem.trans hd.mem, hr.out.trans hd.out⟩

/-- The ring is in FAULT. -/
theorem ringDenied_state {kind k : Nat} (h : (rState kind).key k ∉ reportKeys) (m : Mach) (a : Nat) : getF (ringDenied m kind k a) (rState kind) k = 2 := by
  rw [ringDenied_eq, report_fieldsBut _ _ _ _ _ _ _ _ _ h, getF_setF_self, rState_w]; rfl

/-! ## The DMA windows (03 R83) -/

/-- Whether a window holds a range is read of the window table. -/
theorem dmaOk_of_fieldsBut {P : Nat → Prop} {m m' : Mach} (h : FieldsBut P m m') (hP : ∀ k, P k → k < 0x40010100 * 32 ∨ 0x40010300 * 32 ≤ k)
    (write : Bool) (a n : Nat) : dmaOk m' write a n = dmaOk m write a n := by
  have hkeep {f : Fld} (hf : f.blk = 1 ∧ 0x100 ≤ f.off ∧ f.off < 0x120 ∧ f.stride = 0x20 ∧ f.lsb < 32) {i : Nat} (hi : i < 16) : getF m' f i = getF m f i := by
    refine h f i fun hp => ?_
    obtain ⟨hb, hlo, hhi, hs, hl⟩ := hf
    have := hP _ hp
    simp only [Fld.key, Fld.addr, hb, hs] at this
    omega
  unfold dmaOk
  rw [Bool.eq_iff_iff, List.any_eq_true, List.any_eq_true]
  refine exists_congr fun i => and_congr_right fun hi => ?_
  have hlt := List.mem_range.1 hi
  simp only [onF, hkeep (f := HIF_DMAW_BASE_LO_ADDR) (by decide) hlt, hkeep (f := HIF_DMAW_BASE_HI_ADDR) (by decide) hlt,
    hkeep (f := HIF_DMAW_END_LO_ADDR) (by decide) hlt, hkeep (f := HIF_DMAW_END_HI_ADDR) (by decide) hlt,
    hkeep (f := HIF_DMAW_CTRL_EN) (by decide) hlt, hkeep (f := HIF_DMAW_CTRL_RD) (by decide) hlt, hkeep (f := HIF_DMAW_CTRL_WR) (by decide) hlt]

/-! ## Indices of a ring (03 R82) -/

/-- A ring's size is read of LOG2_SIZE. -/
theorem ringSize_of {m m' : Mach} {kind k : Nat} (h : getF m' (rLog kind) k = getF m (rLog kind) k) : ringSize m' kind k = ringSize m kind k := by
  rw [ringSize, h, ringSize]

theorem ringSize_pos (m : Mach) (kind k : Nat) : 0 < ringSize m kind k := Nat.two_pow_pos _

/-- An index register holds an index of a ring of at most 2^16 entries. -/
theorem getF_setF_index {m : Mach} {f : Fld} (hw : f.w = 16) {size : Nat} (hsize : size ≤ 2 ^ 16) (hpos : 0 < size) (k n : Nat) :
    getF (setF m f k (n % size)) f k = n % size := by
  rw [getF_setF_self, hw]
  exact Nat.mod_eq_of_lt (Nat.lt_of_lt_of_le (Nat.mod_lt _ hpos) hsize)

/-- An enabled ring is one of its kind. -/
theorem lt_of_ringOn {m : Mach} {kind k : Nat} (h : ringOn m kind k = true) : k < rCount kind := by
  simp only [ringOn, Bool.and_eq_true, decide_eq_true_eq] at h
  exact h.1

/-! ## Little-endian bytes -/

/-- The bytes of a number give its low bits back. -/
theorem leNat_leBytes (n x : Nat) : leNat (leBytes n x) = x % 2 ^ (8 * n) := by
  induction n generalizing x with
  | zero => simp [leBytes, leNat, Nat.mod_one]
  | succ n ih =>
    have hsplit : leBytes (n + 1) x = bits x 0 8 :: leBytes n (x / 2 ^ 8) := by
      simp only [leBytes, List.range_succ_eq_map, List.map_cons, List.map_map, Nat.mul_zero, List.cons.injEq, true_and]
      refine List.map_congr_left fun i _ => ?_
      simp only [Function.comp_apply, bits, Nat.div_div_eq_div_mul, ← Nat.pow_add]
      rw [show 8 * (i + 1) = 8 + 8 * i by omega]
    have hbyte : bits x 0 8 % 256 = x % 2 ^ 8 := by simp [bits]
    rw [hsplit, leNat, ih, hbyte, show 8 * (n + 1) = 8 + 8 * n by omega, Nat.pow_add, Nat.mod_mul]

/-- A field behind the bytes of a number is one of the rest. -/
theorem field_leBytes_append {k o : Nat} (h : k ≤ o) (x : Nat) (l : List Nat) (n : Nat) : field (leBytes k x ++ l) o n = field l (o - k) n := by
  rw [field, List.drop_append, length_leBytes, List.drop_eq_nil_of_le (by rw [length_leBytes]; exact h), List.nil_append, field]

/-- A number's own bytes give it back. -/
theorem field_leBytes (n x : Nat) (l : List Nat) : field (leBytes n x ++ l) 0 n = x % 2 ^ (8 * n) := by
  rw [field, List.drop_zero, List.take_left' (length_leBytes n x), leNat_leBytes]

/-- A field behind a byte is one of the rest. -/
theorem field_cons (b : Nat) (l : List Nat) (o n : Nat) : field (b :: l) (o + 1) n = field l o n := rfl

/-- A byte gives itself back. -/
theorem field_byte (b : Nat) (l : List Nat) : field (b :: l) 0 1 = b % 2 ^ 8 := by simp [field, leNat]

/-- Words one behind the other give themselves back. -/
theorem field_words (l : List Nat) {i : Nat} (hi : i < l.length) : field (l.flatMap (leBytes 4)) (4 * i) 4 = nth l i % 2 ^ 32 := by
  induction l generalizing i with
  | nil => exact absurd hi (Nat.not_lt_zero i)
  | cons x r ih =>
    rw [List.flatMap_cons]
    cases i with
    | zero => exact field_leBytes 4 x _
    | succ i =>
      rw [field_leBytes_append (by omega), show 4 * (i + 1) - 4 = 4 * i by omega, ih (by simpa using hi)]
      rfl

end Sys2Proof.Machine
end

section
/-! PROOFS. Doorbells (03 R78, R81, R82) and the fetch of descriptors (03 R84, R88, R89), and the statement on them. -/

namespace Sys2Proof.Machine

/-! ## Doorbells -/

theorem doorbell_unseen {m : Mach} (h : hostSees m = false) (f : Mach → Mach) : doorbell f m = m := by rw [doorbell, h]; rfl
theorem doorbell_seen {m : Mach} (h : hostSees m = true) (f : Mach → Mach) : doorbell f m = f m := by rw [doorbell, if_pos h]

section
variable {m : Mach} {kind k v : Nat} (off src : Nat)

/-- A producer index that the ring does not have, or of a ring that is not enabled. -/
theorem producerDoorbell_bad (h : ringOn m kind k = false ∨ ringSize m kind k ≤ v) : producerDoorbell kind off k v src m = doorbellBad m off v :=
  if_pos (by rcases h with h | h <;> simp [h])

/-- A consumer index that the ring does not have, that passes the producer, or of a ring that is not enabled. -/
theorem consumerDoorbell_bad (h : ringOn m kind k = false ∨ ringSize m kind k ≤ v ∨
      ringUsed m kind k < (v + ringSize m kind k - getF m (rHead kind) k) % ringSize m kind k) :
    consumerDoorbell kind off k v src m = doorbellBad m off v := by
  rcases h with h | h | h
  · exact if_pos (by simp [h])
  · exact if_pos (by simp [h])
  · have hpass : consumerDoorbell kind off k v src m = if 2 ^ 16 ≤ v ∨ (!ringOn m kind k) = true ∨ (kind = 3 ∧ (!isOut m k) = true) ∨ ringSize m kind k ≤ v then
        doorbellBad m off v else doorbellBad m off v := ite_congr rfl (fun _ => rfl) (fun _ => if_pos h)
    rw [hpass, ite_self]

variable (hon : ringOn m kind k = true) (hv : v < 2 ^ 16) (hsize : v < ringSize m kind k)
include hon hv hsize

/-- A producer index in range. -/
theorem producerDoorbell_taken (hin : kind = 3 → isOut m k = false) :
    producerDoorbell kind off k v src m = if v = getF m (rTail kind) k then m else irq (setF m (rTail kind) k v) src := by
  refine if_neg ?_
  rintro (h | h | ⟨h3, h⟩ | h)
  · omega
  · simp [hon] at h
  · simp [hin h3] at h
  · omega

/-- A consumer index in range. -/
theorem consumerDoorbell_taken (hout : kind = 3 → isOut m k = true)
    (hback : (v + ringSize m kind k - getF m (rHead kind) k) % ringSize m kind k ≤ ringUsed m kind k) :
    consumerDoorbell kind off k v src m = if v = getF m (rHead kind) k then m else irq (setF m (rHead kind) k v) src := by
  refine (if_neg ?_).trans (if_neg (Nat.not_lt.2 hback))
  rintro (h | h | ⟨h3, h⟩ | h)
  · omega
  · simp [hon] at h
  · simp [hout h3] at h
  · omega

end

/-! ## The ring that arbitration picks (03 R89) -/

/-- It is one that can be fetched from. -/
theorem canFetch_of_pickRing {m : Mach} {k : Nat} (h : pickRing m = some k) : canFetch m k = true := by
  obtain ⟨p, -, hp⟩ := List.exists_of_findSome?_eq_some h
  have hk := List.find?_some hp
  rw [Bool.and_eq_true] at hk
  exact hk.1

/-- A ring that can be fetched from is enabled and not empty, and there is room for a job in flight. -/
theorem canFetch_ring {m : Mach} {k : Nat} (h : canFetch m k = true) : ringOn m 0 k = true ∧ ringUsed m 0 k ≠ 0 ∧ jobsInFlight m < 256 := by
  simp only [canFetch, ringUp, Bool.and_eq_true, bne_iff_ne, decide_eq_true_eq] at h
  obtain ⟨⟨⟨⟨⟨hon, -⟩, hused⟩, -⟩, -⟩, hroom⟩ := h
  exact ⟨hon, hused, hroom⟩

/-! ## Descriptors taken one after another (03 R84, R88) -/

/-- The registers that taking a descriptor of ring `k` may write. -/
def fetchKey (k key : Nat) : Prop := key = HIF_CMD_HEAD_INDEX.key k ∨ key ∈ deniedKeys

/-- The set of the ring lies beside them. -/
theorem not_fetchKey {f : Fld} {k : Nat} (hk : k < 16) (hf : f.blk = 1 ∧ 0x400 ≤ f.off ∧ f.off < 0x440 ∧ f.stride = 0x40 ∧ f.lsb < 32 ∧ f.off ≠ 0x410) :
    ¬ fetchKey k (f.key k) := by
  obtain ⟨hb, hlo, hhi, hs, hl, hne⟩ := hf
  rintro (h | h)
  · simp only [Fld.key, Fld.addr, hb, hs, HIF_CMD_HEAD_INDEX] at h; omega
  · have := deniedKeys_place _ h
    simp only [Fld.key, Fld.addr, hb, hs] at this
    omega

/-- The DMA windows lie beside them. -/
theorem fetchKey_place (k : Nat) : ∀ key, fetchKey k key → key < 0x40010100 * 32 ∨ 0x40010300 * 32 ≤ key := by
  rintro key (rfl | h)
  · simp only [Fld.key, Fld.addr, HIF_CMD_HEAD_INDEX]; omega
  · have := deniedKeys_place _ h; omega

/-- What is left of machine `m₀` after `i` descriptors of ring `k` have been taken. -/
structure Fetched (k i : Nat) (m₀ m : Mach) : Prop where
  fields : FieldsBut (fetchKey k) m₀ m
  head : getF m HIF_CMD_HEAD_INDEX k = (getF m₀ HIF_CMD_HEAD_INDEX k + i) % ringSize m₀ 0 k
  last : m.hif.lastRing = m₀.hif.lastRing
  mem : m.mem = m₀.mem

/-- The consumer index has moved past one descriptor. -/
def headMoved (k : Nat) (m : Mach) : Mach := setF m HIF_CMD_HEAD_INDEX k ((getF m HIF_CMD_HEAD_INDEX k + 1) % ringSize m 0 k)

/-- And the descriptor has got its number. -/
def descNumbered (k : Nat) (m : Mach) : Mach := { headMoved k m with hif := { m.hif with num := m.hif.num + 1 } }

/-- The job of the descriptor taken. -/
def fetchedJob (k : Nat) (m : Mach) (d : Desc) : Job :=
  { ring := k, head := (getF m HIF_CMD_HEAD_INDEX k + 1) % ringSize m 0 k, num := m.hif.num, desc := d }

/-- A descriptor that passes its checks joins the jobs in flight. -/
theorem takeDesc_passes {k : Nat} {m : Mach} {d : Desc} (h : fetchCheck (headMoved k m) d = none) :
    takeDesc k m d = { headMoved k m with hif := { m.hif with num := m.hif.num + 1, inflight := m.hif.inflight ++ [fetchedJob k m d] } } := by
  have hc : fetchCheck (descNumbered k m) d = none := h
  unfold takeDesc
  change (match fetchCheck (descNumbered k m) d with | some (st, r) => _ | none => _) = _
  rw [hc]
  rfl

/-- One that fails is completed with its status. -/
theorem takeDesc_fails {k : Nat} {m : Mach} {d : Desc} {st r : Nat} (h : fetchCheck (headMoved k m) d = some (st, r)) : takeDesc k m d =
    addCompl (if st = E_HIF_DMA_DENIED then dmaDenied (descNumbered k m) d.dataAddr else descNumbered k m) (jcompl (fetchedJob k m d) st r none) := by
  have hc : fetchCheck (descNumbered k m) d = some (st, r) := h
  unfold takeDesc
  change (match fetchCheck (descNumbered k m) d with | some (st, r) => _ | none => _) = _
  rw [hc]
  rfl

/-- A completion that joins those waiting changes HIF alone. -/
theorem addCompl_frame (m : Mach) (c : Compl) : (addCompl m c).regs = m.regs ∧ (addCompl m c).mem = m.mem ∧ (addCompl m c).hif.lastRing = m.hif.lastRing := by
  unfold addCompl; split <;> exact ⟨rfl, rfl, rfl⟩

/-- Beside the index a descriptor taken writes the registers of a refused access alone. -/
theorem takeDesc_frame (k : Nat) (m : Mach) (d : Desc) : FieldsBut (· ∈ deniedKeys) (headMoved k m) (takeDesc k m d) ∧
    (takeDesc k m d).hif.lastRing = m.hif.lastRing ∧ (takeDesc k m d).mem = m.mem := by
  cases hc : fetchCheck (headMoved k m) d with
  | none => rw [takeDesc_passes hc]; exact ⟨.of_regs rfl, rfl, rfl⟩
  | some x =>
    obtain ⟨st, r⟩ := x
    obtain ⟨hregs, hmem, hlast⟩ := addCompl_frame (if st = E_HIF_DMA_DENIED then dmaDenied (descNumbered k m) d.dataAddr else descNumbered k m)
      (jcompl (fetchedJob k m d) st r none)
    rw [takeDesc_fails hc]
    refine ⟨?_, hlast.trans ?_, hmem.trans ?_⟩
    · have hsame : FieldsBut (· ∈ deniedKeys) (headMoved k m) (descNumbered k m) := .of_regs rfl
      exact (FieldsBut.ite (hsame.trans (dmaDenied_fieldsBut _ _)) hsame).trans (.of_regs hregs)
    · obtain ⟨h, l, hhif⟩ := logNode_hif (denialCounted (descNumbered k m)) E_HIF_DMA_DENIED d.dataAddr
      split
      · rw [dmaDenied_eq, hhif]; rfl
      · rfl
    · split
      · exact logNode_mem ..
      · rfl

/-- An entry that a window permits is read. -/
theorem readDesc_permitted {m : Mach} {k : Nat} (hon : ringOn m 0 k = true)
    (hdma : dmaOk m false (ringBase m 0 k + 64 * getF m HIF_CMD_HEAD_INDEX k) 64 = true) (l : List Nat) : readDesc k m l = takeDesc k m (descOf l) := by
  simp [readDesc, hon, hdma]

/-- One that no window permits puts the ring into FAULT. -/
theorem readDesc_denied {m : Mach} {k : Nat} (hon : ringOn m 0 k = true)
    (hdma : dmaOk m false (ringBase m 0 k + 64 * getF m HIF_CMD_HEAD_INDEX k) 64 = false) (l : List Nat) :
    readDesc k m l = ringDenied m 0 k (ringBase m 0 k + 64 * getF m HIF_CMD_HEAD_INDEX k) := by
  simp [readDesc, hon, hdma]

section
variable {k : Nat} {m₀ : Mach} (hk : k < 16) (hsize : ringSize m₀ 0 k ≤ 2 ^ 16)
include hk

namespace Fetched
variable {i : Nat} {m : Mach} (h : Fetched k i m₀ m)
include h

theorem size : ringSize m 0 k = ringSize m₀ 0 k := ringSize_of (h.fields _ _ (not_fetchKey hk (by decide)))

theorem on : ringOn m 0 k = ringOn m₀ 0 k := by
  have hst : getF m (rState 0) k = getF m₀ (rState 0) k := h.fields _ _ (not_fetchKey hk (by decide))
  rw [ringOn, hst, ringOn]

theorem base : ringBase m 0 k = ringBase m₀ 0 k := by
  have hlo : getF m (rBaseLo 0) k = getF m₀ (rBaseLo 0) k := h.fields _ _ (not_fetchKey hk (by decide))
  have hhi : getF m (rBaseHi 0) k = getF m₀ (rBaseHi 0) k := h.fields _ _ (not_fetchKey hk (by decide))
  rw [ringBase, hlo, hhi, ringBase]

include hsize

/-- One more descriptor. -/
theorem taken (d : Desc) : Fetched k (i + 1) m₀ (takeDesc k m d) := by
  obtain ⟨hfields, hlast, hmem⟩ := takeDesc_frame k m d
  have hset : FieldsBut (fetchKey k) m (headMoved k m) := .setF _ (.inl rfl)
  have hplace : HIF_CMD_HEAD_INDEX.key k ∉ deniedKeys := fun hd => by
    have := deniedKeys_place _ hd
    simp only [Fld.key, Fld.addr, HIF_CMD_HEAD_INDEX] at this
    omega
  have hhead : getF (headMoved k m) HIF_CMD_HEAD_INDEX k = (getF m₀ HIF_CMD_HEAD_INDEX k + (i + 1)) % ringSize m₀ 0 k := by
    rw [headMoved, h.size hk, getF_setF_index (f := HIF_CMD_HEAD_INDEX) rfl hsize (ringSize_pos ..), h.head, Nat.mod_add_mod, Nat.add_assoc]
  exact ⟨(h.fields.trans hset).trans (hfields.mono fun _ => .inr), (hfields _ _ hplace).trans hhead, hlast.trans h.last, hmem.trans h.mem⟩

/-- A descriptor that a window permits is taken. -/
theorem read (hon : ringOn m₀ 0 k = true) (l : List Nat)
    (hdma : dmaOk m₀ false (ringBase m₀ 0 k + 64 * ((getF m₀ HIF_CMD_HEAD_INDEX k + i) % ringSize m₀ 0 k)) 64 = true) :
    Fetched k (i + 1) m₀ (readDesc k m l) := by
  have hok : dmaOk m false (ringBase m 0 k + 64 * getF m HIF_CMD_HEAD_INDEX k) 64 = true := by
    rw [h.base hk, h.head, dmaOk_of_fieldsBut h.fields (fetchKey_place k)]; exact hdma
  rw [readDesc_permitted ((h.on hk).trans hon) hok]
  exact h.taken hk hsize (descOf l)

/-- Descriptors that windows permit are taken in order. -/
theorem reads (hon : ringOn m₀ 0 k = true) (ds : List (List Nat)) (hdma : ∀ n, n < i + ds.length →
      dmaOk m₀ false (ringBase m₀ 0 k + 64 * ((getF m₀ HIF_CMD_HEAD_INDEX k + n) % ringSize m₀ 0 k)) 64 = true) :
    Fetched k (i + ds.length) m₀ (ds.foldl (readDesc k) m) := by
  induction ds generalizing i m with
  | nil => exact h
  | cons d r ih =>
    rw [List.length_cons] at hdma ⊢
    rw [List.foldl_cons, show i + (r.length + 1) = i + 1 + r.length by omega]
    exact ih (h.read hk hsize hon d (hdma i (by omega))) fun n hn => hdma n (by omega)

end Fetched
end

/-! ## DESCRIPTOR_FETCH -/

/-- How many descriptors of ring `k` are fetched at most. -/
def fetchCount (m : Mach) (k : Nat) : Nat := min 8 (min (ringUsed m 0 k) (256 - jobsInFlight m))

/-- Arbitration notes that it has served ring `k`. -/
def served (m : Mach) (k : Nat) : Mach := { m with hif := { m.hif with lastRing := sput m.hif.lastRing (getF m HIF_CMD_CFG_PRIO k) k 15 } }

/-- The descriptors of the ring picked are read one after another. -/
theorem descriptorFetch_picked {m : Mach} {k : Nat} (h : pickRing m = some k) (l : List (List Nat)) :
    descriptorFetch [{ ring := k, descs := l }] m = (l.take (fetchCount m k)).foldl (readDesc k) (served m k) := by
  have hmine : ([{ ring := k, descs := l }] : List RingDescs).filter (fun r => r.ring == k) = [{ ring := k, descs := l }] := by simp
  simp only [descriptorFetch, h, hmine, List.flatMap_cons, List.flatMap_nil, List.append_nil]
  rfl

/-- Of a ring that has been picked at least one is fetched. -/
theorem fetchCount_pos {m : Mach} {k : Nat} (h : pickRing m = some k) : 1 ≤ fetchCount m k := by
  obtain ⟨-, hused, hroom⟩ := canFetch_ring (canFetch_of_pickRing h)
  unfold fetchCount
  omega

section
variable {m : Mach} {k : Nat} (h : pickRing m = some k) (hhead : getF m HIF_CMD_HEAD_INDEX k < ringSize m 0 k) (hsize : ringSize m 0 k ≤ 2 ^ 16)
include h hhead hsize

/-- The descriptors that windows permit are taken. -/
theorem descriptorFetch_takes (l : List (List Nat)) (hdma : ∀ i, i < fetchCount m k →
      dmaOk m false (ringBase m 0 k + 64 * ((getF m HIF_CMD_HEAD_INDEX k + i) % ringSize m 0 k)) 64 = true) :
    Fetched k (l.take (fetchCount m k)).length (served m k) (descriptorFetch [{ ring := k, descs := l }] m) := by
  obtain ⟨hon, -, -⟩ := canFetch_ring (canFetch_of_pickRing h)
  have hstart : Fetched k 0 (served m k) (served m k) := ⟨.refl, (Nat.mod_eq_of_lt hhead).symm, rfl, rfl⟩
  have hall := hstart.reads (m₀ := served m k) (lt_of_ringOn hon) hsize hon (l.take (fetchCount m k)) fun n hn =>
    hdma n (Nat.lt_of_lt_of_le hn ((Nat.zero_add _).trans_le (List.length_take_le _ _)))
  rw [Nat.zero_add] at hall
  rw [descriptorFetch_picked h]
  exact hall

omit hhead hsize in
/-- A single descriptor that a window permits and that passes its checks joins the jobs in flight. -/
theorem descriptorFetch_passes (b : List Nat) (hdma : dmaOk m false (ringBase m 0 k + 64 * getF m HIF_CMD_HEAD_INDEX k) 64 = true)
    (hc : fetchCheck (headMoved k m) (descOf b) = none) :
    (descriptorFetch [{ ring := k, descs := [b] }] m).hif.inflight = m.hif.inflight ++ [fetchedJob k m (descOf b)] ∧
      (descriptorFetch [{ ring := k, descs := [b] }] m).hif.compl = m.hif.compl := by
  obtain ⟨hon, -, -⟩ := canFetch_ring (canFetch_of_pickRing h)
  rw [descriptorFetch_picked h, List.take_of_length_le (fetchCount_pos h), List.foldl_cons, List.foldl_nil,
    readDesc_permitted (m := served m k) hon hdma, takeDesc_passes (m := served m k) hc]
  exact ⟨rfl, rfl⟩

omit hhead hsize in
/-- A ring whose next descriptor no window permits enters FAULT. -/
theorem descriptorFetch_denied (b : List Nat) (hdma : dmaOk m false (ringBase m 0 k + 64 * getF m HIF_CMD_HEAD_INDEX k) 64 = false) :
    descriptorFetch [{ ring := k, descs := [b] }] m = ringDenied (served m k) 0 k (ringBase m 0 k + 64 * getF m HIF_CMD_HEAD_INDEX k) := by
  obtain ⟨hon, -, -⟩ := canFetch_ring (canFetch_of_pickRing h)
  rw [descriptorFetch_picked h, List.take_of_length_le (fetchCount_pos h), List.foldl_cons, List.foldl_nil,
    readDesc_denied (m := served m k) hon hdma]
  rfl

end

/-! ## The layout of a descriptor (03 R86) -/

/-- Ten words one behind the other are ten parameters. -/
theorem params_words {l : List Nat} (hl : l.length = 10) (hx : ∀ x ∈ l, x < 2 ^ 32) :
    (List.range 10).map (fun i => field (l.flatMap (leBytes 4)) (4 * i) 4) = l := by
  refine List.ext_getElem (by simp [hl]) fun i _ hi => ?_
  rw [List.getElem_map, List.getElem_range, field_words l hi, nth, List.getD_eq_getElem _ _ hi, Nat.mod_eq_of_lt (hx _ (List.getElem_mem hi))]

/-- The bytes of a descriptor hold its fields. -/
theorem descOf_layout {op flags version tag addr len rsv : Nat} {par : List Nat} (hop : op < 2 ^ 16) (hfl : flags < 2 ^ 8) (hv : version < 2 ^ 8)
    (ht : tag < 2 ^ 32) (ha : addr < 2 ^ 64) (hlen : len < 2 ^ 32) (hr : rsv < 2 ^ 32) (hp : par.length = 10) (hx : ∀ x ∈ par, x < 2 ^ 32) :
    descOf (leBytes 2 op ++ [flags, version] ++ leBytes 4 tag ++ leBytes 8 addr ++ leBytes 4 len ++ leBytes 4 rsv ++ par.flatMap (leBytes 4)) =
      { opcode := op, flags := flags, version := version, tag := tag, dataAddr := addr, dataLen := len, rsv := rsv, params := par } := by
  have hpar : (List.range 10).map (fun i => field (leBytes 2 op ++ (flags :: version :: (leBytes 4 tag ++ (leBytes 8 addr ++ (leBytes 4 len ++
      (leBytes 4 rsv ++ par.flatMap (leBytes 4))))))) (24 + 4 * i) 4) = par := by
    refine Eq.trans (List.map_congr_left fun i _ => ?_) (params_words hp hx)
    rw [field_leBytes_append (by omega), show 24 + 4 * i - 2 = 20 + 4 * i + 1 + 1 by omega, field_cons, field_cons, field_leBytes_append (by omega),
      field_leBytes_append (by omega), field_leBytes_append (by omega), field_leBytes_append (by omega)]
    congr 1
    omega
  simp only [descOf, List.append_assoc, List.cons_append, List.nil_append, hpar]
  simp only [field_leBytes_append, field_leBytes, field_byte, field_cons, Nat.reduceLeDiff, Nat.reduceSub, Nat.reduceMul, Nat.le_refl,
    Nat.mod_eq_of_lt hop, Nat.mod_eq_of_lt hfl, Nat.mod_eq_of_lt hv, Nat.mod_eq_of_lt ht, Nat.mod_eq_of_lt ha, Nat.mod_eq_of_lt hlen,
    Nat.mod_eq_of_lt hr]

/-! ## The statement -/

theorem exec_descriptorFetch (l : List RingDescs) (s : State) : exec (.descriptorFetch l) s = done (descriptorFetch l) s := rfl

/-- Settles O19: `producerDoorbell_taken` and `consumerDoorbell_taken` with what makes a write bad; `Fetched` for the descriptors taken. -/
theorem doorbellsAndDescriptors : Obligations.DoorbellsAndDescriptors := by
  refine ⟨?_, ?_, ?_⟩
  · intro k v s m bad unseen prod cons
    have unseen_of {i : Instr} {f : Mach → Mach} (hi : exec i s = done (doorbell f) s) : unseen i := fun h =>
      hi.trans (done_same (doorbell_unseen h f))
    have prod_of {i : Instr} {kind off src : Nat} (hi : exec i s = done (doorbell (producerDoorbell kind off k v src)) s) : prod i kind off src := by
      refine ⟨unseen_of hi, fun hs => ⟨fun hon hin hv hsize hne => ?_, fun h => ?_, fun hon hin hv hsize he => ?_⟩⟩
      · exact hi.trans (done_eq ((doorbell_seen hs _).trans ((producerDoorbell_taken off src hon hv hsize hin).trans (if_neg hne))))
      · exact hi.trans (done_eq ((doorbell_seen hs _).trans (producerDoorbell_bad off src h)))
      · exact hi.trans (done_same ((doorbell_seen hs _).trans ((producerDoorbell_taken off src hon hv hsize hin).trans (if_pos he))))
    have cons_of {i : Instr} {kind off src : Nat} (hi : exec i s = done (doorbell (consumerDoorbell kind off k v src)) s) : cons i kind off src := by
      refine ⟨unseen_of hi, fun hs => ⟨fun hon hin hv hsize hback hne => ?_, fun h => ?_⟩⟩
      · exact hi.trans (done_eq ((doorbell_seen hs _).trans ((consumerDoorbell_taken off src hon hv hsize hin hback).trans (if_neg hne))))
      · exact hi.trans (done_eq ((doorbell_seen hs _).trans (consumerDoorbell_bad off src h)))
    exact ⟨prod_of rfl, prod_of rfl, cons_of rfl, cons_of rfl, cons_of rfl⟩
  · intro k l s h hhead hsize m idx a n p
    have hidx : idx 0 = getF m HIF_CMD_HEAD_INDEX k := Nat.mod_eq_of_lt hhead
    obtain ⟨hon, -, -⟩ := canFetch_ring (canFetch_of_pickRing h)
    have hk : k < 16 := lt_of_ringOn hon
    refine ⟨fun hdma => ?_, fun b hb hdma => ?_⟩
    · have hall := descriptorFetch_takes h hhead hsize l hdma
      refine ⟨_, exec_descriptorFetch .., hall.head, ?_, hall.mem, fun b hb hc => ?_⟩
      · rw [hall.last]; exact sget_sput_self ..
      · subst hb
        have hfirst := hdma 0 (fetchCount_pos h)
        rw [hidx] at hfirst
        exact descriptorFetch_passes h b hfirst hc
    · subst hb
      refine ⟨_, (exec_descriptorFetch ..).trans (done_eq (descriptorFetch_denied h b hdma)), ?_, ?_, ?_⟩
      · refine ringDenied_state (kind := 0) (fun hd => ?_) ..
        exact not_fetchKey hk (f := HIF_CMD_CTRL_STATE) (by decide) (.inr (.tail _ (.tail _ hd)))
      · refine ringDenied_fieldsBut (served m k) 0 k a _ k ?_
        rintro (he | hd)
        · simp only [Fld.key, Fld.addr, rState, ringFld, HIF_CMD_HEAD_INDEX, HIF_CMD_CTRL_STATE] at he; omega
        · have := deniedKeys_place _ hd
          simp only [Fld.key, Fld.addr, HIF_CMD_HEAD_INDEX] at this
          omega
      · obtain ⟨x, y, hhif⟩ := ringDenied_hif (served m k) 0 k a
        rw [hhif]; rfl
  · intro op flags version tag addr len rsv par hop hfl hv ht ha hlen hr hp hx
    exact descOf_layout hop hfl hv ht ha hlen hr hp hx

end Sys2Proof.Machine
end

section
/-! PROOFS. Entries of device-written rings: what writing one changes, and the layouts of completions and events (03 R90 to R95, R102). -/

namespace Sys2Proof.Machine

/-! ## Messages and producer indices -/

/-- A message leaves, or its pending bit is set. -/
theorem sendMsg_frame (m : Mach) (v : Nat) :
    ∃ p l, sendMsg m v = { m with hif := { m.hif with pba := p }, out := { m.out with msgs := l } } := by
  unfold sendMsg
  split
  · exact ⟨_, m.out.msgs, rfl⟩
  · exact ⟨m.hif.pba, _, rfl⟩

/-- An entry is counted for its vector, whose message may go. -/
theorem pendVec_frame (m : Mach) (v : Nat) :
    ∃ q p l, pendVec m v = { m with hif := { m.hif with pend := q, pba := p }, out := { m.out with msgs := l } } := by
  unfold pendVec
  dsimp only
  split
  · obtain ⟨p, l, h⟩ := sendMsg_frame { m with hif := { m.hif with pend := sput m.hif.pend v 0 0 } } v
    exact ⟨_, p, l, h⟩
  · exact ⟨_, m.hif.pba, m.out.msgs, rfl⟩

/-- The producer index moves modulo the ring's size; PHASE may invert. -/
theorem advTail_frame (m : Mach) (kind k n : Nat) :
    ∃ ph, advTail m kind k n = setF { m with hif := { m.hif with phase0 := ph } } (rTail kind) k ((getF m (rTail kind) k + n) % ringSize m kind k) := by
  unfold advTail
  dsimp only
  split
  · exact ⟨_, rfl⟩
  · exact ⟨m.hif.phase0, rfl⟩

/-! ## An entry written -/

/-- What writing `x` to host memory as the next entry of ring `k` leaves: the producer index moves on, and beside that only the marks of PHASE
and of the vectors and what goes to the host change. -/
def EntryPut (kind k : Nat) (x : Nat × List Nat) (m m' : Mach) : Prop :=
  ∃ q p ph l, m' = setF { m with hif := { m.hif with pend := q, pba := p, phase0 := ph }, out := { m.out with host := m.out.host ++ [x], msgs := l } }
    (rTail kind) k ((getF m (rTail kind) k + 1) % ringSize m kind k)

/-- An entry is written, the index moves, and its message may go. -/
theorem entryPut (m : Mach) (kind k a v : Nat) (b : List Nat) : EntryPut kind k (a, b) m (pendVec (advTail (hostWrite m a b) kind k 1) v) := by
  obtain ⟨ph, hadv⟩ := advTail_frame (hostWrite m a b) kind k 1
  obtain ⟨q, p, l, hpend⟩ := pendVec_frame (advTail (hostWrite m a b) kind k 1) v
  rw [hpend, hadv]
  exact ⟨q, p, ph, l, rfl⟩

namespace EntryPut

section
variable {kind k : Nat} {x : Nat × List Nat} {m m' : Mach} (h : EntryPut kind k x m m')
include h

theorem host : m'.out.host = m.out.host ++ [x] := by obtain ⟨_, _, _, _, rfl⟩ := h; rfl
theorem mem : m'.mem = m.mem := by obtain ⟨_, _, _, _, rfl⟩ := h; rfl
theorem hif : ∃ q p ph, m'.hif = { m.hif with pend := q, pba := p, phase0 := ph } := by obtain ⟨q, p, ph, _, rfl⟩ := h; exact ⟨q, p, ph, rfl⟩
theorem fieldsBut : FieldsBut (· = (rTail kind).key k) m m' := by
  obtain ⟨q, p, ph, l, rfl⟩ := h
  exact FieldsBut.trans (m' := { m with hif := { m.hif with pend := q, pba := p, phase0 := ph }, out := { m.out with host := m.out.host ++ [x], msgs := l } })
    (.of_regs rfl) (.setF _ rfl)

theorem tail (hw : (rTail kind).w = 16) (hsize : ringSize m kind k ≤ 2 ^ 16) : getF m' (rTail kind) k = (getF m (rTail kind) k + 1) % ringSize m kind k := by
  obtain ⟨_, _, _, _, rfl⟩ := h
  rw [getF_setF_index hw hsize (ringSize_pos m kind k)]

end
end EntryPut

/-! ## COMPLETION_ENTRY_WRITE and EVENT_ENTRY_WRITE -/

/-- The first finished job of a ring with room is written where a window permits. -/
theorem completionEntryWrite_written {cq : Nat} {c : Compl} {m : Mach}
    (hc : m.hif.compl.find? (fun c => getF m HIF_CMD_CFG_CQ c.ring == cq && !complWaits m c) = some c) (hup : ringUp m 1 cq = true)
    (hfree : ringFree m 1 cq ≠ 0) (hdel : m.hif.deleting = []) (hdma : dmaOk m true (ringBase m 1 cq + 16 * getF m HIF_CPL_TAIL_INDEX cq) 16 = true) :
    EntryPut 1 cq (ringBase m 1 cq + 16 * getF m HIF_CPL_TAIL_INDEX cq, complBytes c (phaseBit m 1 cq))
      { m with hif := { m.hif with compl := m.hif.compl.erase c } } (completionEntryWrite cq m) := by
  have hput := entryPut { m with hif := { m.hif with compl := m.hif.compl.erase c } } 1 cq
    (ringBase m 1 cq + 16 * getF m HIF_CPL_TAIL_INDEX cq) (getF m (rVec 1) cq) (complBytes c (phaseBit m 1 cq))
  obtain ⟨_, _, _, hh⟩ := hput.hif
  simp only [completionEntryWrite, hc, hup, hfree, hdma, beq_iff_eq, Bool.not_true, Bool.false_or, if_false, Bool.false_eq_true, writeEntry]
  rwa [settleDeletes_none]
  exact (congrArg HifSt.deleting hh).trans hdel

/-- The oldest event held for a ring with room is written where a window permits. -/
theorem eventEntryWrite_written {k : Nat} {e : Ev} {m : Mach} (he : m.hif.held.find? (fun x => x.1 == k) = some (k, e)) (hup : ringUp m 2 k = true)
    (hfree : ringFree m 2 k ≠ 0) (hdma : dmaOk m true (ringBase m 2 k + 16 * getF m HIF_EVT_TAIL_INDEX k) 16 = true) :
    EntryPut 2 k (ringBase m 2 k + 16 * getF m HIF_EVT_TAIL_INDEX k, evBytes e (b2n (m.hif.lost.contains k)) (phaseBit m 2 k))
      { m with hif := { m.hif with held := m.hif.held.erase (k, e), lost := m.hif.lost.filter (· != k) } } (eventEntryWrite k m) := by
  simp only [eventEntryWrite, he, hup, hfree, hdma, beq_iff_eq, Bool.not_true, Bool.false_or, if_false, Bool.false_eq_true]
  exact entryPut ..

/-- Bit 23 of an entry's last word is LOST. -/
theorem evBytes_lost (e : Ev) (k : Nat) (lost : List Nat) (phase : Nat) :
    evBytes e (b2n (lost.contains k)) phase = leBytes 2 e.code ++ leBytes 1 e.kind ++ leBytes 1 e.id ++ leBytes 4 e.detail ++ leBytes 4 e.cycle ++
      leBytes 4 (e.offset % 2 ^ 20 + e.cls % 8 * 2 ^ 20 + (if k ∈ lost then 2 ^ 23 else 0) + phase * 2 ^ 31) := by
  have hbit : b2n (lost.contains k) * 2 ^ 23 = if k ∈ lost then 2 ^ 23 else 0 := by
    by_cases h : k ∈ lost <;> simp [h, b2n]
  rw [evBytes, hbit]

/-- Settles O20: both writes are `EntryPut`. -/
theorem completionAndEventEntries : Obligations.CompletionAndEventEntries := by
  refine ⟨?_, ?_⟩
  · intro cq c s m hc hup hfree hsize hdel a hdma
    have hput := completionEntryWrite_written hc hup hfree hdel hdma
    obtain ⟨_, _, _, hhif⟩ := hput.hif
    exact ⟨_, rfl, hput.host, by rw [hhif], hput.tail rfl hsize, hput.mem, by rw [hhif]⟩
  · intro k e s m he hup hfree hsize a hdma
    have hput := eventEntryWrite_written he hup hfree hdma
    obtain ⟨_, _, _, hhif⟩ := hput.hif
    refine ⟨_, rfl, ?_, by rw [hhif], ?_, hput.tail rfl hsize⟩
    · exact hput.host.trans (by rw [evBytes_lost])
    · rw [hhif]
      simp

end Sys2Proof.Machine
end

section
/-! PROOFS. Streams: blocks fetched from in-streams, the layout of their elements, and the telemetry blocks written to out-streams (03 R96 to R100). -/

namespace Sys2Proof.Machine

/-! ## STREAM_BLOCK_FETCH -/

/-- The elements of a block of `n` have left the ring. -/
def blockTaken (m : Mach) (k n : Nat) : Mach := setF m HIF_STR_HEAD_INDEX k ((getF m HIF_STR_HEAD_INDEX k + n) % ringSize m 3 k)

section
variable {m : Mach} {k : Nat} {e : List Nat} {els : List (List Nat)} {nax : Nat} (hnax : (groupAxes m (getF m HIF_STR_AUX_GROUP k)).length = nax)
  (hup : ringUp m 3 k = true) (hin : isOut m k = false) (hbound : k ∉ m.run.unbound) (hlen : (e :: els).length = nax) (hused : nax ≤ ringUsed m 3 k)
  (hdma : ∀ i, i < nax → dmaOk m false (strAddr m k (getF m HIF_STR_HEAD_INDEX k + i)) 16 = true)
include hnax hup hin hbound hlen hused hdma

/-- A block that the ring holds whole and that windows permit is judged by its cycle. -/
theorem streamBlockFetch_judged : streamBlockFetch k (e :: els) m =
    let c := resolveTag m.cyc.n (elOf e).tag
    if (m.cyc.n : Int) + 65 ≤ c then m
    else if c ≤ (m.cyc.n : Int) ∨ m.hif.snapped.any (fun p => decide (c ≤ (p : Int))) then dropBlock (blockTaken m k nax) k E_HIF_STREAM_LATE
    else if !blockFormed ((e :: els).map elOf) then dropBlock (blockTaken m k nax) k E_HIF_STREAM_FORMAT
    else if blockHere m k c then dropBlock (blockTaken m k nax) k E_HIF_STREAM_FORMAT
    else if mirrors m then forwardInput (blockTaken m k nax) { block := some { ring := k, cycle := c.toNat, els := (e :: els).map elOf } }
      (.block k c.toNat ((e :: els).map elOf))
    else addBlock (blockTaken m k nax) { ring := k, cycle := c.toNat, els := (e :: els).map elOf } := by
  have hpos : nax ≠ 0 := by rw [← hlen]; exact Nat.succ_ne_zero _
  have hcond : (!ringUp m 3 k || isOut m k || m.run.unbound.contains k || nax == 0 || decide (ringUsed m 3 k < nax) || (e :: els).length != nax) = false := by
    simp [hup, hin, hbound, hpos, hlen, Nat.not_lt.2 hused]
  have hfind : ((List.range nax).map (fun i => strAddr m k (getF m HIF_STR_HEAD_INDEX k + i))).find? (fun a => !dmaOk m false a 16) = none := by
    refine List.find?_eq_none.2 fun a ha => ?_
    obtain ⟨i, hi, rfl⟩ := List.mem_map.1 ha
    simp [hdma i (List.mem_range.1 hi)]
  simp only [streamBlockFetch, hnax, hcond, Bool.false_eq_true, if_false, hfind]
  rfl

/-- A block more than 64 cycles ahead stays in the ring. -/
theorem streamBlockFetch_early (hc : (m.cyc.n : Int) + 64 < resolveTag m.cyc.n (elOf e).tag) : streamBlockFetch k (e :: els) m = m := by
  rw [streamBlockFetch_judged hnax hup hin hbound hlen hused hdma]
  exact if_pos (by omega)

/-- A block for the cycle in progress or one that has passed is discarded. -/
theorem streamBlockFetch_late (hc : resolveTag m.cyc.n (elOf e).tag ≤ (m.cyc.n : Int)) :
    streamBlockFetch k (e :: els) m = dropBlock (blockTaken m k nax) k E_HIF_STREAM_LATE := by
  rw [streamBlockFetch_judged hnax hup hin hbound hlen hused hdma]
  exact (if_neg (by omega)).trans (if_pos (.inl hc))

/-- A well-formed block in time is judged by the blocks that wait. -/
theorem streamBlockFetch_inTime (hlo : (m.cyc.n : Int) < resolveTag m.cyc.n (elOf e).tag) (hhi : resolveTag m.cyc.n (elOf e).tag ≤ (m.cyc.n : Int) + 64)
    (hsnap : ∀ p, m.hif.snapped = some p → (p : Int) < resolveTag m.cyc.n (elOf e).tag) (hform : blockFormed ((e :: els).map elOf) = true) :
    streamBlockFetch k (e :: els) m =
      if blockHere m k (resolveTag m.cyc.n (elOf e).tag) then dropBlock (blockTaken m k nax) k E_HIF_STREAM_FORMAT
      else if mirrors m then forwardInput (blockTaken m k nax)
        { block := some { ring := k, cycle := (resolveTag m.cyc.n (elOf e).tag).toNat, els := (e :: els).map elOf } }
        (.block k (resolveTag m.cyc.n (elOf e).tag).toNat ((e :: els).map elOf))
      else addBlock (blockTaken m k nax) { ring := k, cycle := (resolveTag m.cyc.n (elOf e).tag).toNat, els := (e :: els).map elOf } := by
  have hopen : ¬(resolveTag m.cyc.n (elOf e).tag ≤ (m.cyc.n : Int) ∨
      m.hif.snapped.any (fun p => decide (resolveTag m.cyc.n (elOf e).tag ≤ (p : Int))) = true) := by
    rintro (h | h)
    · omega
    · cases hs : m.hif.snapped with
      | none => simp [hs] at h
      | some p =>
        have hle : resolveTag m.cyc.n (elOf e).tag ≤ (p : Int) := by simpa [hs] using h
        exact Int.not_lt.2 hle (hsnap p hs)
  rw [streamBlockFetch_judged hnax hup hin hbound hlen hused hdma]
  refine (if_neg (by omega)).trans ((if_neg hopen).trans (if_neg ?_))
  rw [hform]
  exact Bool.false_ne_true

end

/-! ## The layout of an element (03 R96) -/

/-- The low bits of a signed number in range give it back. -/
theorem sgn_toNat_emod {w : Nat} (hw : 0 < w) {x : Int} (hlo : -2 ^ (w - 1) ≤ x) (hhi : x < 2 ^ (w - 1)) : sgn w ((x % 2 ^ w).toNat % 2 ^ w) = x := by
  obtain ⟨v, rfl⟩ := Nat.exists_eq_succ_of_ne_zero hw.ne'
  have hpow : (2 : Int) ^ (v + 1) = 2 * 2 ^ v := by rw [pow_succ, mul_comm]
  have hpow' : 2 ^ (v + 1) = 2 * 2 ^ v := by rw [pow_succ, mul_comm]
  have hcast : ((2 ^ v : Nat) : Int) = 2 ^ v := by push_cast; rfl
  simp only [Nat.succ_eq_add_one, Nat.add_sub_cancel] at hlo hhi
  simp only [sgn, Nat.succ_eq_add_one, Nat.add_sub_cancel, Nat.mod_mod, hpow, hpow', ← hcast] at hlo hhi ⊢
  generalize 2 ^ v = p at hlo hhi ⊢
  by_cases hx : 0 ≤ x
  · have hmod : x % (2 * (p : Int)) = x := Int.emod_eq_of_lt hx (by omega)
    rw [hmod, Nat.mod_eq_of_lt (by omega), if_pos (by omega)]
    omega
  · have hmod : x % (2 * (p : Int)) = x + 2 * p := by
      rw [← Int.add_emod_right, Int.emod_eq_of_lt (by omega) (by omega)]
    rw [hmod, Nat.mod_eq_of_lt (by omega), if_neg (by omega)]
    omega

/-- The bytes of an element hold its fields. -/
theorem elOf_layout {pos vel : Int} {tag axis : Nat} (last : Bool) (hpl : -(2 ^ 63) ≤ pos) (hph : pos < 2 ^ 63) (hvl : -(2 ^ 31) ≤ vel) (hvh : vel < 2 ^ 31)
    (ht : tag < 2 ^ 16) (ha : axis < 2 ^ 8) :
    elOf (leBytes 8 (pos % 2 ^ 64).toNat ++ leBytes 4 (vel % 2 ^ 32).toNat ++ leBytes 2 tag ++ [axis, b2n last]) =
      { pos := pos, vel := vel, tag := tag, axis := axis, last := last } := by
  have hlast : (b2n last % 2 ^ 8).testBit 0 = last := by cases last <;> rfl
  simp only [elOf, List.append_assoc, field_leBytes_append, field_leBytes, field_cons, field_byte, Nat.reduceLeDiff, Nat.reduceSub, Nat.reduceMul,
    Nat.le_refl, Nat.mod_eq_of_lt ht, Nat.mod_eq_of_lt ha, hlast]
  rw [sgn_toNat_emod (by decide) hpl hph, sgn_toNat_emod (by decide) hvl hvh]

/-! ## Elements written to an out-stream (03 R98) -/

/-- A register of the ring other than its producer index. -/
theorem keptAtTail {m m' : Mach} {k : Nat} (h : FieldsBut (· = HIF_STR_TAIL_INDEX.key k) m m') {f : Fld}
    (hf : f.stride = HIF_STR_TAIL_INDEX.stride ∧ f.key 0 ≠ HIF_STR_TAIL_INDEX.key 0) : getF m' f k = getF m f k :=
  h f k (Fld.key_ne_of_stride hf k)

/-- The machine `m'` is `m` with the elements `ls` written to out-stream `k`, one behind the other from the producer index on. -/
structure Streamed (k : Nat) (m : Mach) (ls : List (List Nat)) (m' : Mach) : Prop where
  fields : FieldsBut (· = HIF_STR_TAIL_INDEX.key k) m m'
  index : getF m' HIF_STR_TAIL_INDEX k % ringSize m 3 k = (getF m HIF_STR_TAIL_INDEX k + ls.length) % ringSize m 3 k
  inRing : ls ≠ [] → getF m' HIF_STR_TAIL_INDEX k < ringSize m 3 k
  host : m'.out.host = m.out.host ++ ls.mapIdx (fun i l => (strAddr m k (getF m HIF_STR_TAIL_INDEX k + i), l))
  hif : ∃ q p ph, m'.hif = { m.hif with pend := q, pba := p, phase0 := ph }
  mem : m'.mem = m.mem

namespace Streamed

section
variable {k : Nat} {m m' : Mach} {ls : List (List Nat)} (h : Streamed k m ls m')
include h

theorem size : ringSize m' 3 k = ringSize m 3 k := ringSize_of (keptAtTail h.fields (by decide))

theorem base : ringBase m' 3 k = ringBase m 3 k := by
  have hlo : getF m' (rBaseLo 3) k = getF m (rBaseLo 3) k := keptAtTail h.fields (by decide)
  have hhi : getF m' (rBaseHi 3) k = getF m (rBaseHi 3) k := keptAtTail h.fields (by decide)
  rw [ringBase, hlo, hhi, ringBase]

theorem entry : entrySize m' 3 k = entrySize m 3 k := by
  have he : getF m' HIF_STR_CFG_ESIZE k = getF m HIF_STR_CFG_ESIZE k := keptAtTail h.fields (by decide)
  simp only [entrySize, he]

theorem writeBack : strWb m' k = strWb m k := by
  have hlo : getF m' HIF_STR_WB_LO_ADDR k = getF m HIF_STR_WB_LO_ADDR k := keptAtTail h.fields (by decide)
  have hhi : getF m' HIF_STR_WB_HI_ADDR k = getF m HIF_STR_WB_HI_ADDR k := keptAtTail h.fields (by decide)
  rw [strWb, hlo, hhi, strWb]

theorem up : ringUp m' 3 k = ringUp m 3 k := by
  have hst : getF m' (rState 3) k = getF m (rState 3) k := keptAtTail h.fields (by decide)
  obtain ⟨_, _, _, hhif⟩ := h.hif
  simp only [ringUp, ringOn, busMaster, hst, hhif]

theorem windows (write : Bool) (a n : Nat) : dmaOk m' write a n = dmaOk m write a n :=
  dmaOk_of_fieldsBut h.fields (by rintro _ rfl; simp only [Fld.key, Fld.addr, HIF_STR_TAIL_INDEX]; omega) write a n

/-- The next element's address. -/
theorem addr : strAddr m' k (getF m' HIF_STR_TAIL_INDEX k) = strAddr m k (getF m HIF_STR_TAIL_INDEX k + ls.length) := by
  rw [strAddr, h.base, h.entry, h.size, h.index, strAddr]

/-- After at least one element the producer index lies in the ring. -/
theorem tail (hne : ls ≠ []) : getF m' HIF_STR_TAIL_INDEX k = (getF m HIF_STR_TAIL_INDEX k + ls.length) % ringSize m 3 k := by
  rw [← h.index, Nat.mod_eq_of_lt (h.inRing hne)]

/-- One more element. -/
theorem write (hup : ringUp m 3 k = true) (hsize : ringSize m 3 k ≤ 2 ^ 16)
    (hdma : dmaOk m true (strAddr m k (getF m HIF_STR_TAIL_INDEX k + ls.length)) (entrySize m 3 k) = true) (l : List Nat) :
    Streamed k m (ls ++ [l]) (writeElem k m' l) := by
  have hok : dmaOk m' true (strAddr m' k (getF m' HIF_STR_TAIL_INDEX k)) (entrySize m' 3 k) = true := by rw [h.windows, h.addr, h.entry]; exact hdma
  have hput := entryPut m' 3 k (strAddr m' k (getF m' HIF_STR_TAIL_INDEX k)) (getF m' HIF_STR_CFG_VECTOR k) l
  have hstep : writeElem k m' l = pendVec (advTail (hostWrite m' (strAddr m' k (getF m' HIF_STR_TAIL_INDEX k)) l) 3 k 1) (getF m' HIF_STR_CFG_VECTOR k) := by
    simp only [writeElem, h.up, hup, hok, Bool.not_true, Bool.false_eq_true, if_false]
  rw [← hstep] at hput
  have htail : getF (writeElem k m' l) HIF_STR_TAIL_INDEX k = (getF m' HIF_STR_TAIL_INDEX k + 1) % ringSize m 3 k :=
    (hput.tail rfl (h.size.le.trans hsize)).trans (by rw [h.size]; rfl)
  obtain ⟨_, _, _, hhif'⟩ := h.hif
  obtain ⟨q, p, ph, hhif⟩ := hput.hif
  refine ⟨h.fields.trans hput.fieldsBut, ?_, fun _ => ?_, ?_, ⟨q, p, ph, ?_⟩, hput.mem.trans h.mem⟩
  · rw [htail, Nat.mod_mod, Nat.add_mod, h.index, ← Nat.add_mod, List.length_append, List.length_singleton, Nat.add_assoc]
  · rw [htail]; exact Nat.mod_lt _ (ringSize_pos m 3 k)
  · rw [hput.host, h.host, h.addr, List.mapIdx_concat, List.append_assoc]
  · rw [hhif, hhif']

end

/-- Elements that windows permit are written one behind the other. -/
theorem writes {k : Nat} {m : Mach} (hup : ringUp m 3 k = true) (hsize : ringSize m 3 k ≤ 2 ^ 16) (ls : List (List Nat))
    (hdma : ∀ i, i < ls.length → dmaOk m true (strAddr m k (getF m HIF_STR_TAIL_INDEX k + i)) (entrySize m 3 k) = true) :
    Streamed k m ls (ls.foldl (writeElem k) m) := by
  induction ls using List.reverseRecOn with
  | nil => exact ⟨.refl, rfl, fun h => absurd rfl h, (List.append_nil _).symm, ⟨_, _, _, rfl⟩, rfl⟩
  | append_singleton ls l ih =>
    rw [List.length_append, List.length_singleton] at hdma
    rw [List.foldl_append, List.foldl_cons, List.foldl_nil]
    exact (ih fun i hi => hdma i (by omega)).write hup hsize (hdma _ (by omega)) l

end Streamed

/-- A block that windows permit is written with its write-back word. -/
theorem outBlock_permitted {k : Nat} {m : Mach} {els : List (List Nat)} (hup : ringUp m 3 k = true) (hsize : ringSize m 3 k ≤ 2 ^ 16)
    (hdma : ∀ i, i < els.length → dmaOk m true (strAddr m k (getF m HIF_STR_TAIL_INDEX k + i)) (entrySize m 3 k) = true)
    (hwb : dmaOk m true (strWb m k) 8 = true) (c : Nat) : ∃ m', Streamed k m els m' ∧
      outBlock k els c m = hostWrite m' (strWb m k) (leBytes 8 (getF m' HIF_STR_TAIL_INDEX k + c % 2 ^ 32 * 2 ^ 32)) := by
  have h := Streamed.writes hup hsize els hdma
  refine ⟨_, h, ?_⟩
  simp only [outBlock, h.up, h.writeBack, h.windows, hup, hwb, Bool.not_true, Bool.false_eq_true, if_false]

/-- A ring in FAULT takes no further element. -/
theorem writeElem_down {m : Mach} {k : Nat} (h : ringUp m 3 k = false) (l : List Nat) : writeElem k m l = m := by
  simp [writeElem, h]

/-- A block whose first element no window permits puts the ring into FAULT, and no more is written. -/
theorem outBlock_denied {k : Nat} {m : Mach} (hk : k < 32) (hup : ringUp m 3 k = true)
    (hdma : dmaOk m true (strAddr m k (getF m HIF_STR_TAIL_INDEX k)) (entrySize m 3 k) = false) (l : List Nat) (ls : List (List Nat)) (c : Nat) :
    getF (outBlock k (l :: ls) c m) HIF_STR_CTRL_STATE k = 2 ∧ (outBlock k (l :: ls) c m).out = m.out := by
  have hstate : getF (ringDenied m 3 k (strAddr m k (getF m HIF_STR_TAIL_INDEX k))) (rState 3) k = 2 := by
    refine ringDenied_state (fun hr => ?_) _ _
    have := deniedKeys_place _ (.tail _ (.tail _ hr))
    simp only [Fld.key, Fld.addr, rState, ringFld, HIF_STR_CTRL_STATE] at this
    omega
  have hdown : ringUp (ringDenied m 3 k (strAddr m k (getF m HIF_STR_TAIL_INDEX k))) 3 k = false := by simp [ringUp, ringOn, hstate]
  have hfirst : writeElem k m l = ringDenied m 3 k (strAddr m k (getF m HIF_STR_TAIL_INDEX k)) := by simp [writeElem, hup, hdma]
  have hall : outBlock k (l :: ls) c m = ringDenied m 3 k (strAddr m k (getF m HIF_STR_TAIL_INDEX k)) := by
    simp only [outBlock, List.foldl_cons, hfirst, List.foldl_fixed' (writeElem_down hdown), hdown, Bool.not_false, if_true]
  rw [hall]
  exact ⟨hstate, (ringDenied_frame ..).2⟩

/-! ## TELEMETRY_BLOCK_WRITE (03 R99, R100) -/

/-- There is a record for each axis; open values may be used up. -/
theorem telemetryRecords (axes : List AxisRec) (m : Mach) (acc : List (List Nat)) :
    ∃ n ls, axes.foldl telemetryRecord (m, acc) = ({ m with free := n }, acc ++ ls) ∧ ls.length = axes.length := by
  induction axes generalizing m acc with
  | nil => exact ⟨m.free, [], by rw [List.append_nil]; rfl, rfl⟩
  | cons a r ih =>
    have hone : ∃ n l, telemetryRecord (m, acc) a = ({ m with free := n }, acc ++ [l]) := by
      unfold telemetryRecord
      split
      · exact ⟨m.free, _, rfl⟩
      · exact ⟨_, _, rfl⟩
    obtain ⟨n, l, hone⟩ := hone
    obtain ⟨n', ls, hrest, hlen⟩ := ih { m with free := n } (acc ++ [l])
    refine ⟨n', l :: ls, ?_, congrArg (· + 1) hlen⟩
    rw [List.foldl_cons, hone, hrest, List.append_assoc]
    rfl

/-- The header of a telemetry block of `n` records. -/
def telemetryHead (m : Mach) (k n : Nat) : List Nat := leBytes 8 m.cyc.n ++ leBytes 2 n ++ leBytes 2 (sget m.hif.lostCycles k 0) ++ List.replicate 20 0

/-- The count of lost cycles starts anew. -/
def lostAnew (k : Nat) (m : Mach) : Mach := { m with hif := { m.hif with lostCycles := sdel m.hif.lostCycles k } }

/-- A cycle is lost: it is counted and reported. -/
def telemetryLost (k : Nat) (m : Mach) : Mach :=
  let m' := report (incF m HIF_STR_DROP_CNT k 1) E_HIF_STREAM_DROP 0 4 k 3
  { m' with hif := { m'.hif with lostCycles := sput m'.hif.lostCycles k (min 0xFFFF (sget m.hif.lostCycles k 0 + 1)) 0 } }

section
variable {k : Nat} {m : Mach} (hk : k < 32) (hen : getF m HIF_STR_CTRL_ENABLE k = 1) (hon : ringOn m 3 k = true) (hout : isOut m k = true)
  (hsrc : getF m HIF_STR_CFG_SRC k = 0) (hdec : m.cyc.n % 2 ^ getF m HIF_STR_AUX_DECIM k = 0)
include hk hen hon hout hsrc hdec

/-- A telemetry stream in a cycle that it selects writes its block where there is room, else it drops the cycle. -/
theorem telemetryBlock_selected : telemetryBlock k m =
    let axes := (maskedAxes m k).filterMap (axisRec m)
    if ringFree m 3 k < 1 + axes.length ∨ busMaster m = false then telemetryLost k m
    else lostAnew k (outBlock k (telemetryHead m k axes.length :: (axes.foldl telemetryRecord (m, [])).2) m.cyc.n (axes.foldl telemetryRecord (m, [])).1) := by
  have hst : getF m HIF_STR_CTRL_STATE k = 1 := by
    simp only [ringOn, Bool.and_eq_true, beq_iff_eq] at hon
    exact hon.2
  have hsel : (decide (k < 32) && onF m HIF_STR_CTRL_ENABLE k && getF m HIF_STR_CTRL_STATE k == 1 && isOut m k && getF m HIF_STR_CFG_SRC k == 0
      && m.cyc.n % 2 ^ getF m HIF_STR_AUX_DECIM k == 0) = true := by
    simp [hk, onF, hen, hst, hout, hsrc, hdec]
  simp only [telemetryBlock, hsel, Bool.not_true, Bool.false_eq_true, if_false]
  rfl

/-- With room and bus mastering the block is the header and one record per axis. -/
theorem telemetryBlock_room (hroom : 1 + ((maskedAxes m k).filterMap (axisRec m)).length ≤ ringFree m 3 k) (hbus : busMaster m = true) :
    ∃ n ls, ls.length = ((maskedAxes m k).filterMap (axisRec m)).length ∧
      telemetryBlock k m = lostAnew k (outBlock k (telemetryHead m k ls.length :: ls) m.cyc.n { m with free := n }) := by
  obtain ⟨n, ls, hrecs, hlen⟩ := telemetryRecords ((maskedAxes m k).filterMap (axisRec m)) m []
  refine ⟨n, ls, hlen, ?_⟩
  rw [telemetryBlock_selected hk hen hon hout hsrc hdec]
  refine (if_neg ?_).trans (by rw [hrecs, hlen]; rfl)
  rintro (h | h)
  · omega
  · rw [hbus] at h; exact Bool.noConfusion h

/-- Without room or bus mastering the cycle is lost and counted. -/
theorem telemetryBlock_drop
    (hfull : ringFree m 3 k < 1 + ((maskedAxes m k).filterMap (axisRec m)).length ∨ busMaster m = false) :
    sget (telemetryBlock k m).hif.lostCycles k 0 = min 0xFFFF (sget m.hif.lostCycles k 0 + 1) ∧ (telemetryBlock k m).out.host = m.out.host ∧
      getF (telemetryBlock k m) HIF_STR_TAIL_INDEX k = getF m HIF_STR_TAIL_INDEX k := by
  rw [telemetryBlock_selected hk hen hon hout hsrc hdec]
  dsimp only
  rw [if_pos hfull]
  refine ⟨sget_sput_self .., congrArg (·.host) (report_reported (incF m HIF_STR_DROP_CNT k 1) E_HIF_STREAM_DROP 0 4 k 3 0xFFFF).out, ?_⟩
  refine (report_fieldsBut (incF m HIF_STR_DROP_CNT k 1) E_HIF_STREAM_DROP 0 4 k 3 0xFFFF HIF_STR_TAIL_INDEX k fun hr => ?_).trans
    (getF_setF_ne _ _ _ _ _ _ ?_)
  · have := deniedKeys_place _ (.tail _ (.tail _ hr))
    simp only [Fld.key, Fld.addr, HIF_STR_TAIL_INDEX] at this
    omega
  · simp only [Fld.key, Fld.addr, HIF_STR_TAIL_INDEX, HIF_STR_DROP_CNT]
    omega

end

/-- The places of elements numbered by their place in a list. -/
theorem map_fst_mapIdx (f : Nat → Nat) (ls : List (List Nat)) : (ls.mapIdx fun i l => (f i, l)).map (·.1) = (List.range ls.length).map f := by
  rw [List.mapIdx_eq_zipIdx_map, List.map_map, List.range_eq_range', ← List.zipIdx_map_snd 0 ls, List.map_map]
  rfl

/-- Settles O21: `streamBlockFetch_judged` for in-streams, `Streamed` for the elements of a telemetry block. -/
theorem streamBlocks : Obligations.StreamBlocks := by
  refine ⟨?_, fun pos vel tag axis last hpl hph hvl hvh ht ha => elOf_layout last hpl hph hvl hvh ht ha, ?_⟩
  · intro k e els s m l nax c idx moved hup hin hbound hlen hused hdma
    refine ⟨fun hc => done_same (streamBlockFetch_early rfl hup hin hbound hlen hused hdma hc), fun hlo hhi hsnap hform => ⟨fun hhere hpair => ?_, fun hhere => ?_⟩,
      fun hc => done_eq (streamBlockFetch_late rfl hup hin hbound hlen hused hdma hc)⟩
    · refine done_eq ((streamBlockFetch_inTime rfl hup hin hbound hlen hused hdma hlo hhi hsnap hform).trans ?_)
      rw [hhere, hpair]
      rfl
    · exact done_eq ((streamBlockFetch_inTime rfl hup hin hbound hlen hused hdma hlo hhi hsnap hform).trans (if_pos hhere))
  · intro k s m axes wb tail slot hk hen hon hout hsrc hdec hsize
    refine ⟨fun hbus hroom hdma hwb => ?_, fun hbus hroom hdma => ?_, fun hfull => ⟨_, rfl, telemetryBlock_drop hk hen hon hout hsrc hdec hfull⟩⟩
    · have hup : ringUp m 3 k = true := by rw [ringUp, hon, hbus]; rfl
      obtain ⟨n, ls, hlen, hblock⟩ := telemetryBlock_room hk hen hon hout hsrc hdec hroom hbus
      obtain ⟨m₁, hs, hwritten⟩ := outBlock_permitted (m := { m with free := n }) (els := telemetryHead m k ls.length :: ls) hup hsize
        (fun i hi => hdma i ((Nat.lt_succ_iff.1 hi).trans hlen.le)) hwb m.cyc.n
      rw [hwritten] at hblock
      obtain ⟨_, _, _, hhif⟩ := hs.hif
      refine ⟨_, done_eq hblock, ?_, sget_sdel_self .., hs.mem, ls.mapIdx (fun i l => (slot (i + 1), l)), ?_, ?_⟩
      · refine (hs.tail (List.cons_ne_nil _ _)).trans ?_
        rw [List.length_cons, hlen, Nat.add_comm _ 1, ← Nat.add_assoc]
        rfl
      · rw [map_fst_mapIdx, hlen]
        exact List.map_congr_left fun i _ => congrArg slot (Nat.add_comm i 1)
      · refine congrArg (· ++ _) (hs.host.trans ?_)
        rw [List.mapIdx_cons, List.append_cons, hlen]
        rfl
    · have hup : ringUp m 3 k = true := by rw [ringUp, hon, hbus]; rfl
      obtain ⟨n, ls, -, hblock⟩ := telemetryBlock_room hk hen hon hout hsrc hdec hroom hbus
      obtain ⟨hstate, hhost⟩ := outBlock_denied (m := { m with free := n }) hk hup hdma (telemetryHead m k ls.length) ls m.cyc.n
      exact ⟨_, done_eq hblock, hstate, congrArg (·.host) hhost⟩

end Sys2Proof.Machine
end

section
/-! PROOFS. Interrupt messages of a vector, and the negotiation of features (03 R79, R102, R109, R110). -/

namespace Sys2Proof.Machine

/-! ## Messages (03 R102) -/

/-- The message of vector `v` has left with address and data of its table entry. -/
def messageSent (m : Mach) (v : Nat) : Mach :=
  { m with out := { m.out with msgs := m.out.msgs ++
      [(v, sget m.hif.msix (4 * v) 0 + 2 ^ 32 * sget m.hif.msix (4 * v + 1) 0, sget m.hif.msix (4 * v + 2) 0)] } }

/-- A message that nothing masks leaves. -/
theorem sendMsg_open {m : Mach} {v : Nat} (hv : sget m.hif.msix (4 * v + 3) 1 % 2 = 0) (hon : msixOn m = true) : sendMsg m v = messageSent m v :=
  if_neg (by rw [hv, hon]; simp)

/-- A masked one sets its pending bit. -/
theorem sendMsg_masked {m : Mach} {v : Nat} (h : sget m.hif.msix (4 * v + 3) 1 % 2 = 1 ∨ msixOn m = false) :
    sendMsg m v = { m with hif := { m.hif with pba := m.hif.pba ||| 2 ^ v } } := if_pos h

/-- No entry is pending on vector `v`. -/
def nonePending (m : Mach) (v : Nat) : Mach := { m with hif := { m.hif with pend := sput m.hif.pend v 0 0 } }

/-- The timer of a vector with pending entries sends its message. -/
theorem coalesceTimerExpiry_sends {m : Mach} {v : Nat} (ht : getF m HIF_COAL_TIME v ≠ 0) (hp : sget m.hif.pend v 0 ≠ 0) :
    coalesceTimerExpiry v m = sendMsg (nonePending m v) v := if_neg (by rw [not_or]; exact ⟨ht, hp⟩)

/-! ## The message table (03 R79) -/

/-- Word `d` of vector `v` has the value `x`. -/
def tableWord (m : Mach) (v d x rst : Nat) : Mach := { m with hif := { m.hif with msix := sput m.hif.msix (4 * v + d) x rst } }

/-- The message of vector `v` is no longer held back. -/
def unheld (m : Mach) (v : Nat) : Mach := { m with hif := { m.hif with pba := andNot m.hif.pba (2 ^ v) } }

/-- Address and data are written alone. -/
theorem msixTableWrite_word {v d : Nat} (hv : v < 64) (hd : d < 3) (x : Nat) (m : Mach) :
    msixTableWrite v d x m = tableWord m v d (if d = 0 then x % 2 ^ 32 / 4 * 4 else x % 2 ^ 32) 0 := by
  have hne : d ≠ 3 := by omega
  simp only [msixTableWrite, hne, if_false, false_and]
  exact if_neg (by omega)

/-- The mask of a vector is written; a pending message goes where that unmasks it. -/
theorem msixTableWrite_mask {v : Nat} (hv : v < 64) (x : Nat) (m : Mach) : msixTableWrite v 3 x m =
    if x % 2 = 0 ∧ m.hif.pba.testBit v = true then
      sendMsg (unheld (tableWord m v 3 (x % 2) 1) v) v
    else tableWord m v 3 (x % 2) 1 := by
  simp only [msixTableWrite, if_true, true_and]
  exact if_neg (by omega)

/-! ## Negotiation (03 R109, R110) -/

/-- The node advertises features of the first sixteen. -/
theorem advertised_lt (m : Mach) : advertised m < 2 ^ 16 := by
  have hall : ∀ a b : Bool, maskOf ([0, 1, 2, 4, 5, 8, 9, 10, 11, 12, 15] ++ (if a then [3, 6, 7, 14] else []) ++ (if b then [13] else [])) < 2 ^ 16 := by
    decide
  exact hall _ _

/-- Taking bit 2 away takes 4. -/
theorem andNot_four {n : Nat} (h : n.testBit 2 = true) : andNot n 4 = n - 4 := by
  have hbit : n &&& 4 = 4 := (Nat.and_two_pow n 2).trans (by rw [h]; rfl)
  rw [andNot, hbit]

/-- Of the features that the node advertises and the host asks for, those accepted. -/
def acceptedOf (req both : Nat) : Nat := if req.testBit 1 && both.testBit 2 then both - 4 else both

theorem acceptedOf_le (req both : Nat) : acceptedOf req both ≤ both := by unfold acceptedOf; split <;> omega

/-- SUBMIT_PRIO is not accepted beside DEP_COUNTERS. -/
theorem acceptedOf_eq (req both : Nat) : (if req.testBit 1 && both.testBit 2 then andNot both 4 else both) = acceptedOf req both := by
  unfold acceptedOf
  split
  · rename_i h
    exact andNot_four (Bool.and_eq_true_iff.1 h).2
  · rfl

/-- The registers of the answer to the host. -/
def featureAnswer (m : Mach) (acc : Nat) (unknown clash : Bool) : Mach :=
  setF (setB (setB (setB (flag ([1, 2, 3].foldl (fun m i => setF m HIF_FEAT_DRV_DRV i 0) (setF m HIF_FEAT_DRV_DRV 0 acc)) HIF_FEAT_ACK_DONE)
    HIF_FEAT_ACK_UNKNOWN 0 unknown) HIF_FEAT_ACK_CONFLICT 0 clash) HIF_FEAT_ACK_FAILED 0 (!acc.testBit 0))
    LADLE_CTRL_MODE 0 (if !acc.testBit 0 then 2 else ladleMode acc)

/-- The answer's reports. -/
def answerReported (m : Mach) (acc : Nat) : Mach := notice (if !acc.testBit 0 then logNode m E_HIF_FEAT_REQUIRED 0 else m) E_HIF_FEAT_DONE acc

/-- The negotiation that GO has begun ends with the answer and its reports. -/
theorem featureDone_answered {m : Mach} (hgone : m.hif.gone = true) (hdone : getF m HIF_FEAT_ACK_DONE = 0) :
    let req := nth m.hif.latched 0
    let both := req &&& advertised m
    ∃ unknown, featureDone m =
      answerReported (featureAnswer m (acceptedOf req both) unknown (req.testBit 1 && both.testBit 2)) (acceptedOf req both) := by
  have hdue : (!m.hif.gone || onF m HIF_FEAT_ACK_DONE) = false := by simp [hgone, onF, hdone]
  refine ⟨andNot (nth m.hif.latched 0) (advertised m) != 0 || (m.hif.latched.drop 1).any (· != 0), ?_⟩
  simp only [featureDone, hdue, Bool.false_eq_true, if_false, acceptedOf_eq]
  rfl

/-- Reports leave fields, memory and the model. -/
theorem answerReported_frame (m : Mach) (acc : Nat) : FieldsBut (· ∈ reportKeys) m (answerReported m acc) ∧ (answerReported m acc).mem = m.mem ∧
    (answerReported m acc).mould = m.mould := by
  have hnotice (x : Mach) := report_reported x E_HIF_FEAT_DONE 7 1 (nodeId x) acc 0xFFFF
  have hlog := logNode_reported m E_HIF_FEAT_REQUIRED 0
  refine ⟨(FieldsBut.ite (logNode_fieldsBut _ _ _) .refl).trans (report_fieldsBut _ _ _ _ _ _ _), (hnotice _).mem.trans ?_, (hnotice _).mould.trans ?_⟩
  · split
    · exact hlog.mem
    · rfl
  · split
    · exact hlog.mould
    · rfl

/-- The accepted set and the flags are what the answer says. -/
theorem featureAnswer_fields {acc : Nat} (hacc : acc < 2 ^ 32) (m : Mach) (unknown clash : Bool) :
    let m' := featureAnswer m acc unknown clash
    getF m' HIF_FEAT_DRV_DRV 0 = acc ∧ getF m' HIF_FEAT_ACK_DONE = 1 ∧ getF m' HIF_FEAT_ACK_CONFLICT = b2n clash ∧
      getF m' HIF_FEAT_ACK_FAILED = b2n (!acc.testBit 0) ∧
      getF m' LADLE_CTRL_MODE = (if !acc.testBit 0 then 2 else if acc.testBit 1 then 0 else if acc.testBit 2 then 1 else 2) := by
  have hbit : ∀ b : Bool, b2n b % 2 ^ 1 = b2n b := by decide
  have hmode : (if !acc.testBit 0 then 2 else ladleMode acc) % 2 ^ 2 = if !acc.testBit 0 then 2 else ladleMode acc :=
    Nat.mod_eq_of_lt (by unfold ladleMode; split_ifs <;> decide)
  simp (disch := decide) only [featureAnswer, setB, flag, List.foldl_cons, List.foldl_nil, getF_setF_ne, getF_setF_self]
  exact ⟨Nat.mod_eq_of_lt hacc, rfl, hbit clash, hbit _, hmode⟩

/-! ## The statement -/

/-- Settles O22: `sendMsg_open` and `sendMsg_masked` for the messages, `featureDone_answered` for the negotiation. -/
theorem messagesAndNegotiation : Obligations.MessagesAndNegotiation := by
  refine ⟨?_, ?_⟩
  · intro v d x s m entry none_
    refine ⟨fun ht hp => ⟨fun hv hon => ?_, fun h => ?_⟩, fun hb hv hd => ?_, fun hb hv hx hpba hon => ?_, fun hb hv h => ?_⟩
    · exact done_eq ((coalesceTimerExpiry_sends ht hp).trans (sendMsg_open (m := nonePending m v) hv hon))
    · exact done_eq ((coalesceTimerExpiry_sends ht hp).trans (sendMsg_masked (m := nonePending m v) h))
    · exact (done_domWrite_on hb _ _).trans (done_eq (msixTableWrite_word hv hd x m))
    · have hsent : sendMsg (unheld (tableWord m v 3 0 1) v) v = messageSent (unheld (tableWord m v 3 0 1) v) v :=
        sendMsg_open (congrArg (· % 2) (sget_sput_self m.hif.msix (4 * v + 3) 0 1)) hon
      have hmask := (msixTableWrite_mask hv x m).trans (if_pos ⟨hx, hpba⟩)
      rw [hx, hsent] at hmask
      exact (done_domWrite_on hb _ _).trans (done_eq hmask)
    · refine (done_domWrite_on hb _ _).trans (done_eq ((msixTableWrite_mask hv x m).trans (if_neg fun hsent => ?_)))
      obtain ⟨hx, hpba⟩ := hsent
      rcases h with h | h
      · omega
      · exact Bool.false_ne_true (h.symm.trans hpba)
  · intro x s m
    refine ⟨fun hb hready hx hgone => ?_, fun hb hready hx hgone => ?_, fun hgone hdone => ?_⟩
    · intro h
      have hgo : featureGo x m = irq { m with hif := h } 101 := by simp [featureGo, onF, hready, hx, hgone, h, List.range_succ]
      exact (done_domWrite_on hb _ _).trans (done_eq hgo)
    · have hgo : featureGo x m = logNode m E_HIF_FEAT_LOCKED 0 := by simp [featureGo, onF, hready, hx, hgone]
      exact (done_domWrite_on hb _ _).trans (done_eq hgo)
    · intro req both clash acc
      obtain ⟨unknown, hanswer⟩ := featureDone_answered hgone hdone
      have hacc : acc < 2 ^ 32 := ((acceptedOf_le req both).trans Nat.and_le_right).trans_lt ((advertised_lt m).trans (by decide))
      obtain ⟨hfields, hmem, hmould⟩ := answerReported_frame (featureAnswer m acc unknown clash) acc
      obtain ⟨hdrv, hack, hclash, hfail, hmode⟩ := featureAnswer_fields hacc m unknown clash
      exact ⟨_, done_eq hanswer, (hfields _ _ (by decide)).trans hdrv, (hfields _ _ (by decide)).trans hack, (hfields _ _ (by decide)).trans hclash,
        (hfields _ _ (by decide)).trans hfail, (hfields _ _ (by decide)).trans hmode, hmem, hmould⟩

end Sys2Proof.Machine
end

section
/-! PROOFS. The resets of HIF and the PCIe link: what a reset clears and keeps, configuration requests, and host reads (03 R78, R79, R111, R113). -/

namespace Sys2Proof.Machine

/-! ## Fields put back to their reset values -/

/-- The keys of all instances of a field. -/
def fieldKeys (f : Fld) : List Nat := (List.range f.n).map f.key

theorem mem_fieldKeys {f : Fld} {k : Nat} : k ∈ fieldKeys f ↔ ∃ i, i < f.n ∧ f.key i = k := by simp [fieldKeys]

/-- Keys dropped read the default, others what they held. -/
theorem sget_sdels {α : Type} (ks : List Nat) (l : Sparse α) (k : Nat) (d : α) : sget (ks.foldl sdel l) k d = if k ∈ ks then d else sget l k d := by
  induction ks generalizing l with
  | nil => rfl
  | cons a r ih =>
    rw [List.foldl_cons, ih]
    by_cases ha : k = a
    · simp [ha]
    · simp [ha, sget_sdel_ne l d ha]

/-- A reset drops the keys of its fields. -/
theorem resetFields_eq (m : Mach) (l : List Fld) : resetFields m l = { m with regs := (l.flatMap fieldKeys).foldl sdel m.regs } := by
  induction l generalizing m with
  | nil => rfl
  | cons f r ih =>
    rw [resetFields, List.foldl_cons, ← resetFields, ih, List.flatMap_cons, List.foldl_append, fieldKeys, List.foldl_map]
    rfl

/-- A field reset reads its reset value. -/
theorem getF_resetFields {m : Mach} {l : List Fld} {f : Fld} (hf : f ∈ l) {i : Nat} (hi : i < f.n) : getF (resetFields m l) f i = f.rst i % 2 ^ f.w := by
  have hmem : f.key i ∈ l.flatMap fieldKeys := List.mem_flatMap.2 ⟨f, hf, mem_fieldKeys.2 ⟨i, hi, rfl⟩⟩
  rw [resetFields_eq, getF, sget_sdels, if_pos hmem]

theorem resetFields_fieldsBut (m : Mach) (l : List Fld) : FieldsBut (· ∈ l.flatMap fieldKeys) m (resetFields m l) := by
  intro g j hk
  rw [resetFields_eq, getF, sget_sdels, if_neg hk, getF]

/-! ## Jobs that lose their ring (03 R111) -/

/-- A completion that no ring waits for. -/
def cutCompl (c : Compl) : Compl := { c with ring := 16 + c.ring % 16 }

/-- A job that no ring waits for. -/
def cutJob (j : Job) : Job := { j with ring := 16 + j.ring % 16 }

/-- A unit's jobs are cut where it keeps them. -/
theorem heldJobs_detachJobs (m : Mach) : heldJobs (detachJobs m) = (heldJobs m).map cutCompl := by
  have hopt (o : Option Compl) : (o.map cutCompl).toList = o.toList.map cutCompl := by cases o <;> rfl
  have hexch : (m.twi.exch.map (fun e => { e with job := e.job.map cutCompl })).bind (·.job) = (m.twi.exch.bind (·.job)).map cutCompl := by
    cases m.twi.exch <;> rfl
  have hcut (o : Option Job) : ((o.map cutJob).map fun j => jcompl j 0 0 none) = (o.map fun j => jcompl j 0 0 none).map cutCompl := by cases o <;> rfl
  unfold heldJobs detachJobs
  simp only [List.map_append, List.map_map, List.map_filterMap, List.filterMap_map, Function.comp_def, ← hopt, ← hexch, ← hcut]
  rfl

/-! ## A reset of HIF -/

/-- The fields that a reset of HIF puts back. -/
def hifResetFields : List Fld := fieldsHIF.filter (fun f => !hifKeeps f)

/-- They lie beside HIF_STATUS, the features and the DMA windows. -/
theorem hifResetFields_place : ∀ f ∈ hifResetFields, f.blk = 1 ∧ f.lsb < 32 ∧
    (8 ≤ f.off ∧ f.off + f.stride * (f.n - 1) < 0x10 ∨ 0x40 ≤ f.off ∧ f.off + f.stride * (f.n - 1) < 0x100 ∨
      0x300 ≤ f.off ∧ f.off + f.stride * (f.n - 1) < 0x10000) := by decide

/-- So do their keys. -/
theorem hifResetKeys_place {k : Nat} (h : k ∈ hifResetFields.flatMap fieldKeys) :
    0x40010008 * 32 ≤ k ∧ k < 0x40010010 * 32 ∨ 0x40010040 * 32 ≤ k ∧ k < 0x40010100 * 32 ∨
      0x40010300 * 32 ≤ k ∧ k < 0x40020000 * 32 := by
  obtain ⟨f, hf, hk⟩ := List.mem_flatMap.1 h
  obtain ⟨i, hi, rfl⟩ := mem_fieldKeys.1 hk
  obtain ⟨hb, hl, hplace⟩ := hifResetFields_place f hf
  have hstep : f.stride * i ≤ f.stride * (f.n - 1) := Nat.mul_le_mul_left _ (by omega)
  simp only [Fld.key, Fld.addr, hb]
  omega

/-- The registers after a reset, before its event. -/
def hifRegs (seen : Fld) (link : Bool) (m : Mach) : Mach :=
  let m := flag (resetFields m hifResetFields) seen
  if link then m else setF (setF (setF m HIF_STATUS_LINK_UP 0 0) HIF_STATUS_LINK_SPEED 0 0) HIF_STATUS_LINK_WIDTH 0 0

/-- What HIF keeps beside its registers is gone. -/
def hifCleared (link : Bool) (m : Mach) : Mach :=
  { m with hif := { m.hif with
      cfgLoaded := link, msix := [], pba := 0, pend := [], phase0 := [], lostCycles := [], lastRing := [], d3 := false,
      mps := if link then m.hif.mps else 0, mrrs := 2, cmd := 0, msixCtl := 0 } }

theorem hifReset_eq (seen : Fld) (link : Bool) (m : Mach) :
    hifReset seen link m = irq (linkResetEvent (hifCleared link (detachJobs (hifRegs seen link m)))) 100 := rfl

/-- The first event held for ring 0. -/
def firstHeld (m : Mach) : Option Ev := (m.hif.held.filter (fun x => x.1 == 0)).head?.map (·.2)

/-- The event goes ahead of those held for ring 0, one of which may be lost. -/
theorem linkResetEvent_frame (m : Mach) : FieldsBut (· = HIF_EVT_DROP_CNT.key 0) m (linkResetEvent m) ∧
    (firstHeld (linkResetEvent m)).map (·.code) = some E_HIF_LINK_RESET ∧
    ∃ r h l, linkResetEvent m = { m with regs := r, hif := { m.hif with held := h, lost := l } } := by
  have hcount : FieldsBut (· = HIF_EVT_DROP_CNT.key 0) m (incF m HIF_EVT_DROP_CNT 0 1) := .setF _ rfl
  unfold linkResetEvent
  dsimp only
  split
  · exact ⟨hcount.trans (.of_regs rfl), rfl, _, _, _, rfl⟩
  · exact ⟨.of_regs rfl, rfl, m.regs, _, m.hif.lost, rfl⟩

/-- Beside registers, events and pending sources a reset cuts the jobs loose and clears what HIF keeps. -/
theorem hifReset_rest (seen : Fld) (link : Bool) (m : Mach) : ∃ r p h l, hifReset seen link m =
    { hifCleared link (detachJobs m) with regs := r, intc := { m.intc with pend := p }, hif := { (hifCleared link (detachJobs m)).hif with held := h, lost := l } } := by
  obtain ⟨-, -, r₁, h, l, hevent⟩ := linkResetEvent_frame (hifCleared link (detachJobs (hifRegs seen link m)))
  obtain ⟨r, p, hirq⟩ := irq_frame (linkResetEvent (hifCleared link (detachJobs (hifRegs seen link m)))) 100
  have hregs : ∃ r₂, hifRegs seen link m = { m with regs := r₂ } := by
    unfold hifRegs
    rw [resetFields_eq]
    cases link <;> exact ⟨_, rfl⟩
  obtain ⟨r₂, hregs⟩ := hregs
  refine ⟨r, p, h, l, ?_⟩
  rw [hifReset_eq, hirq, hevent, hregs]
  rfl

/-- What a reset of HIF leaves beside its registers. -/
structure HifCut (link : Bool) (m m' : Mach) : Prop where
  compl : m'.hif.compl = []
  pend : m'.hif.pend = []
  msix : m'.hif.msix = []
  inflight : m'.hif.inflight = m.hif.inflight.map cutJob
  jobs : heldJobs m' = (heldJobs m).map cutCompl
  d3 : m'.hif.d3 = false
  mps : m'.hif.mps = if link then m.hif.mps else 0
  mrrs : m'.hif.mrrs = 2
  cmd : m'.hif.cmd = 0
  msixCtl : m'.hif.msixCtl = 0
  perstLow : m'.hif.perstLow = m.hif.perstLow
  outside : m'.mem = m.mem ∧ m'.mould = m.mould ∧ m'.locks = m.locks ∧ m'.cruc = m.cruc ∧ m'.ladle = m.ladle

/-- One step of `hifReset_rest` for each part of the state. -/
theorem hifReset_cut (seen : Fld) (link : Bool) (m : Mach) : HifCut link m (hifReset seen link m) := by
  obtain ⟨r, p, h, l, hrest⟩ := hifReset_rest seen link m
  rw [hrest]
  exact ⟨rfl, rfl, rfl, rfl, heldJobs_detachJobs m, rfl, rfl, rfl, rfl, rfl, rfl, rfl, rfl, rfl, rfl, rfl⟩

/-- The event is the first of ring 0. -/
theorem hifReset_event (seen : Fld) (link : Bool) (m : Mach) : (firstHeld (hifReset seen link m)).map (·.code) = some E_HIF_LINK_RESET := by
  obtain ⟨r, p, hirq⟩ := irq_frame (linkResetEvent (hifCleared link (detachJobs (hifRegs seen link m)))) 100
  rw [hifReset_eq, hirq]
  exact (linkResetEvent_frame (hifCleared link (detachJobs (hifRegs seen link m)))).2.1

/-- The event and its source write a count of HIF and registers of INTC. -/
theorem hifReset_fieldsBut (seen : Fld) (link : Bool) (m : Mach) :
    FieldsBut (· ∈ HIF_EVT_DROP_CNT.key 0 :: irqKeys) (hifRegs seen link m) (hifReset seen link m) := by
  have hclear : FieldsBut (· ∈ HIF_EVT_DROP_CNT.key 0 :: irqKeys) (hifRegs seen link m) (hifCleared link (detachJobs (hifRegs seen link m))) := .of_regs rfl
  have hevent := (linkResetEvent_frame (hifCleared link (detachJobs (hifRegs seen link m)))).1
  rw [hifReset_eq]
  exact (hclear.trans (hevent.mono fun _ h => h ▸ .head _)).trans (FieldsBut.mono (irq_fieldsBut _ _) fun _ h => .tail _ h)

/-- The status fields that a reset writes. -/
def statusKeys (seen : Fld) : List Nat := [seen.key 0, HIF_STATUS_LINK_UP.key 0, HIF_STATUS_LINK_SPEED.key 0, HIF_STATUS_LINK_WIDTH.key 0]

/-- Of the registers those of the reset and of the status are written. -/
theorem hifRegs_fieldsBut (seen : Fld) (link : Bool) (m : Mach) : FieldsBut (· ∈ statusKeys seen) (resetFields m hifResetFields) (hifRegs seen link m) := by
  have hseen : FieldsBut (· ∈ statusKeys seen) (resetFields m hifResetFields) (flag (resetFields m hifResetFields) seen) := .setF _ (.head _)
  unfold hifRegs
  cases link
  · exact ((hseen.trans (.setF _ (.tail _ (.head _)))).trans (.setF _ (.tail _ (.tail _ (.head _))))).trans (.setF _ (.tail _ (.tail _ (.tail _ (.head _)))))
  · exact hseen

section
variable {seen : Fld} (hseen : seen = HIF_STATUS_FLR_SEEN ∨ seen = HIF_STATUS_LINK_DOWN_SEEN)
include hseen

/-- The status fields are those of HIF_STATUS. -/
theorem statusKeys_place : ∀ k ∈ statusKeys seen, 0x40010000 * 32 ≤ k ∧ k < 0x40010004 * 32 := by
  rcases hseen with rfl | rfl <;> decide

/-- The flag is set. -/
theorem hifRegs_seen (link : Bool) (m : Mach) : getF (hifRegs seen link m) seen = 1 := by
  have hset : getF (flag (resetFields m hifResetFields) seen) seen = 1 := getF_flag_self _ _ _ (by rcases hseen with rfl | rfl <;> decide)
  cases link with
  | true => exact hset
  | false =>
    rw [← hset]
    rcases hseen with rfl | rfl <;> simp (disch := decide) only [hifRegs, Bool.false_eq_true, if_false, getF_setF_ne]

/-- But for a function level reset the link is down. -/
theorem hifRegs_link (link : Bool) (m : Mach) : getF (hifRegs seen link m) HIF_STATUS_LINK_UP = if link then getF m HIF_STATUS_LINK_UP else 0 := by
  cases link with
  | true =>
    have hkeep : ¬ HIF_STATUS_LINK_UP.key 0 ∈ hifResetFields.flatMap fieldKeys := fun h => absurd (hifResetKeys_place h) (by decide)
    exact (getF_setF_ne _ _ _ _ _ _ (by rcases hseen with rfl | rfl <;> decide)).trans (resetFields_fieldsBut _ _ _ _ hkeep)
  | false =>
    simp (disch := decide) only [hifRegs, Bool.false_eq_true, if_false, getF_setF_ne, getF_setF_self]
    rfl

/-- A reset leaves the status as `hifRegs` says. -/
theorem hifReset_status (link : Bool) (m : Mach) : getF (hifReset seen link m) seen = 1 ∧
    getF (hifReset seen link m) HIF_STATUS_LINK_UP = if link then getF m HIF_STATUS_LINK_UP else 0 := by
  have hout : ∀ f ∈ [seen, HIF_STATUS_LINK_UP], f.key 0 ∉ HIF_EVT_DROP_CNT.key 0 :: irqKeys := by rcases hseen with rfl | rfl <;> decide
  exact ⟨(hifReset_fieldsBut _ _ _ _ _ (hout _ (.head _))).trans (hifRegs_seen hseen link m),
    (hifReset_fieldsBut _ _ _ _ _ (hout _ (.tail _ (.head _)))).trans (hifRegs_link hseen link m)⟩

/-- A field put back reads its reset value. -/
theorem hifReset_getF {f : Fld} (hf : f ∈ hifResetFields) {i : Nat} (hi : i < f.n) (hdrop : f.key i ≠ HIF_EVT_DROP_CNT.key 0) (link : Bool) (m : Mach) :
    getF (hifReset seen link m) f i = f.rst i % 2 ^ f.w := by
  have hplace := hifResetKeys_place (List.mem_flatMap.2 ⟨f, hf, mem_fieldKeys.2 ⟨i, hi, rfl⟩⟩)
  have hevent : f.key i ∉ HIF_EVT_DROP_CNT.key 0 :: irqKeys := fun h => by
    rcases List.mem_cons.1 h with h | h
    · exact hdrop h
    · have := irqKeys_intc _ h
      omega
  have hstatus : f.key i ∉ statusKeys seen := fun h => by
    have := statusKeys_place hseen _ h
    omega
  rw [hifReset_fieldsBut _ _ _ _ _ hevent, hifRegs_fieldsBut _ _ _ _ _ hstatus, getF_resetFields hf hi]

/-- Rings are in STATE 0. -/
theorem hifReset_ringState {f : Fld} (hf : f = HIF_CMD_CTRL_STATE ∨ f = HIF_STR_CTRL_STATE) {k : Nat} (hk : k < f.n) (link : Bool) (m : Mach) :
    getF (hifReset seen link m) f k = 0 := by
  have hreset : f ∈ hifResetFields ∧ f.rst k = 0 := by
    rcases hf with rfl | rfl <;> exact ⟨by decide, (Nat.zero_add _).trans (Nat.zero_mul k)⟩
  have hdrop : f.key k ≠ HIF_EVT_DROP_CNT.key 0 := by
    rcases hf with rfl | rfl <;> simp only [Fld.key, Fld.addr, HIF_CMD_CTRL_STATE, HIF_STR_CTRL_STATE, HIF_EVT_DROP_CNT] <;> omega
  rw [hifReset_getF hseen hreset.1 hk hdrop, hreset.2, Nat.zero_mod]

/-- The features and the DMA windows stay. -/
theorem hifReset_keeps {f : Fld} (hf : f.blk = 1 ∧ f.lsb < 32 ∧ (0x10 ≤ f.off ∧ f.off + f.stride * (f.n - 1) < 0x40 ∨ 0x100 ≤ f.off ∧ f.off + f.stride * (f.n - 1) < 0x300))
    {i : Nat} (hi : i < f.n) (link : Bool) (m : Mach) : getF (hifReset seen link m) f i = getF m f i := by
  obtain ⟨hb, hl, hf⟩ := hf
  have hstep : f.stride * i ≤ f.stride * (f.n - 1) := Nat.mul_le_mul_left _ (by omega)
  have hplace : 0x40010010 * 32 ≤ f.key i ∧ f.key i < 0x40010040 * 32 ∨ 0x40010100 * 32 ≤ f.key i ∧ f.key i < 0x40010300 * 32 := by
    simp only [Fld.key, Fld.addr, hb]
    omega
  have hevent : f.key i ∉ HIF_EVT_DROP_CNT.key 0 :: irqKeys := fun h => by
    have hev : ∀ k ∈ HIF_EVT_DROP_CNT.key 0 :: irqKeys, 0x40010300 * 32 ≤ k := by decide
    have := hev _ h
    omega
  have hstatus : f.key i ∉ statusKeys seen := fun h => by
    have := statusKeys_place hseen _ h
    omega
  have hreset : f.key i ∉ hifResetFields.flatMap fieldKeys := fun h => by
    have := hifResetKeys_place h
    omega
  rw [hifReset_fieldsBut _ _ _ _ _ hevent, hifRegs_fieldsBut _ _ _ _ _ hstatus, resetFields_fieldsBut _ _ _ _ hreset]

end

/-! ## Configuration requests (03 R78, R79) -/

/-- Messages held back may go: of the machine the pending bits and the messages change. -/
theorem sendHeld_frame (m : Mach) : ∃ p l, sendHeld m = { m with hif := { m.hif with pba := p }, out := { m.out with msgs := l } } := by
  unfold sendHeld
  split
  · refine foldl_related (R := fun a b => ∃ p l, b = { a with hif := { a.hif with pba := p }, out := { a.out with msgs := l } })
      (fun a => ⟨a.hif.pba, a.out.msgs, rfl⟩) ?_ (fun v _ a => ?_) m
    · rintro a _ _ ⟨_, _, rfl⟩ ⟨p, l, rfl⟩
      exact ⟨p, l, rfl⟩
    · exact sendMsg_frame (unheld a v) v
  · exact ⟨m.hif.pba, m.out.msgs, rfl⟩

@[simp] theorem sendHeld_d3 (m : Mach) : (sendHeld m).hif.d3 = m.hif.d3 := by obtain ⟨_, _, h⟩ := sendHeld_frame m; rw [h]
@[simp] theorem sendHeld_cmd (m : Mach) : (sendHeld m).hif.cmd = m.hif.cmd := by obtain ⟨_, _, h⟩ := sendHeld_frame m; rw [h]
@[simp] theorem sendHeld_msixCtl (m : Mach) : (sendHeld m).hif.msixCtl = m.hif.msixCtl := by obtain ⟨_, _, h⟩ := sendHeld_frame m; rw [h]

/-- What a configuration write leaves: it changes HIF, and messages may go; the space stays loaded. -/
def CfgWritten (m m' : Mach) : Prop := ∃ h l, m' = { m with hif := h, out := { m.out with msgs := l } } ∧ h.cfgLoaded = m.hif.cfgLoaded

/-- Messages held back may go after a write. -/
theorem CfgWritten.sendHeld {m : Mach} {h : HifSt} (hl : h.cfgLoaded = m.hif.cfgLoaded) : CfgWritten m (sendHeld { m with hif := h }) := by
  obtain ⟨p, l, heq⟩ := sendHeld_frame { m with hif := h }
  exact ⟨_, l, heq, hl⟩

theorem cfgWrite_frame (m : Mach) (item : CfgItem) (x : Nat) : CfgWritten m (cfgWrite m item x) := by
  have hstay : CfgWritten m m := ⟨m.hif, m.out.msgs, rfl, rfl⟩
  cases item with
  | maxPayload => exact ⟨_, m.out.msgs, rfl, rfl⟩
  | maxReadRequest => exact ⟨_, m.out.msgs, rfl, rfl⟩
  | powerState =>
    by_cases hx : x % 4 = 0 ∨ x % 4 = 3
    · rw [cfgWrite, if_pos hx]; exact .sendHeld rfl
    · rw [cfgWrite, if_neg hx]; exact hstay
  | command => exact .sendHeld rfl
  | msixControl => exact .sendHeld rfl
  | aer i =>
    change CfgWritten m (aerWrite m i x)
    unfold aerWrite
    split <;> exact ⟨_, m.out.msgs, rfl, rfl⟩
  | _ => exact hstay

/-- The configuration space is loaded. -/
def cfgReady (m : Mach) : Mach := { m with hif := { m.hif with cfgLoaded := true } }

/-- And a request's write, where it is one, has been done. -/
def cfgDone (m : Mach) (item : CfgItem) (w : Option Nat) : Mach :=
  match w with
  | some x => cfgWrite (cfgReady m) item x
  | none => cfgReady m

theorem cfgDone_frame (m : Mach) (item : CfgItem) (w : Option Nat) : CfgWritten (cfgReady m) (cfgDone m item w) := by
  cases w with
  | none => exact ⟨(cfgReady m).hif, m.out.msgs, rfl, rfl⟩
  | some x => exact cfgWrite_frame ..

/-- A status register of error reporting keeps what has been read of it. -/
def cfgNoted (item : CfgItem) (v : Nat) (m : Mach) : Mach :=
  match item with
  | .aer i => if i = 1 ∨ i = 4 then { m with hif := { m.hif with aer := sput m.hif.aer i v 0 } } else m
  | _ => m

/-- Error reporting is a matter of HIF alone. -/
theorem cfgNoted_frame (item : CfgItem) (v : Nat) (m : Mach) : ∃ a, cfgNoted item v m = { m with hif := { m.hif with aer := a } } := by
  have hstay : ∃ a, m = { m with hif := { m.hif with aer := a } } := ⟨m.hif.aer, rfl⟩
  cases item with
  | aer i =>
    by_cases hi : i = 1 ∨ i = 4
    · exact ⟨_, if_pos hi⟩
    · rw [cfgNoted, if_neg hi]; exact hstay
  | _ => exact hstay

/-- The request is answered with what the item holds. -/
def cfgAnswered (item : CfgItem) (m : Mach) : Mach :=
  let m' := cfgNoted item (cfgRead m item) m
  { m' with out := { m'.out with cfgAnswer := some (cfgRead m item) }, free := m'.free + 1 }

theorem cfgAnswered_frame (item : CfgItem) (m : Mach) : ∃ a, cfgAnswered item m =
    { m with hif := { m.hif with aer := a }, out := { m.out with cfgAnswer := some (cfgRead m item) }, free := m.free + 1 } := by
  obtain ⟨a, h⟩ := cfgNoted_frame item (cfgRead m item) m
  exact ⟨a, by rw [cfgAnswered, h]⟩

/-- While PERST# is asserted no request is answered. -/
theorem configurationRequest_perst {m : Mach} (h : m.hif.perstLow = true) (x : CfgRequest) : configurationRequest x m = m :=
  if_pos (by rw [h, Bool.or_true])

section
variable {m : Mach} (hreset : m.sys.inReset = false) (hdom : domOn m dHIF = true) (hperst : m.hif.perstLow = false)
include hreset hdom hperst

/-- A request before the configuration space is loaded meets a retry. -/
theorem configurationRequest_retry (hload : m.hif.cfgLoaded = false) (item : CfgItem) (w : Option Nat) :
    configurationRequest { item := item, write := w } m = { m with out := { m.out with cfgAnswer := none } } := by
  simp [configurationRequest, hreset, hdom, hperst, hload]

/-- Afterwards it is answered with what the item holds after the write. -/
theorem configurationRequest_answered {loaded : Bool} (hload : loaded = true ∨ m.hif.cfgLoaded = true) (item : CfgItem) (w : Option Nat) :
    configurationRequest { loaded := loaded, item := item, write := w } m = cfgAnswered item (cfgDone m item w) := by
  have hready : (if loaded then { m with hif := { m.hif with cfgLoaded := true } } else m) = cfgReady m := by
    cases loaded
    · have h : m.hif.cfgLoaded = true := hload.resolve_left Bool.false_ne_true
      have hsame : { m.hif with cfgLoaded := true } = m.hif := by rw [← h]
      rw [cfgReady, hsame]
      rfl
    · rfl
  have hgo : (m.sys.inReset || !domOn m dHIF || m.hif.perstLow) = false := by simp [hreset, hdom, hperst]
  unfold configurationRequest
  rw [hgo, if_neg Bool.false_ne_true]
  dsimp only
  rw [hready]
  rfl

end

/-! ## Host reads (03 R113) -/

/-- A unit that is off has no event. -/
theorem testEvent_off {m : Mach} {u : Nat} (h : unitOn m u = false) : (testEvent m u).2 = m := by simp [testEvent, h]

section
variable {m : Mach} (hoff : unitOn m uPCIE = false)
include hoff

/-- Data without error is used as it comes. -/
theorem hostReadCompletion_good (job : Bool) (kind k head : Nat) : hostReadCompletion false job kind k head m = m := by
  simp [hostReadCompletion, testEvent_off hoff]

/-- An error fails the job that read. -/
theorem hostReadCompletion_job {j : Job} {k head : Nat} (hj : m.hif.inflight.find? (fun j => j.ring == k && j.head == head) = some j) (kind : Nat) :
    hostReadCompletion true true kind k head m = finishJob (logNode m E_HIF_HOST_ABORT 0) j E_HIF_HOST_ABORT 0xFFFFFFFF none := by
  simp only [hostReadCompletion, testEvent_off hoff, Bool.not_true, Bool.false_eq_true, if_false, if_true, hj]
  rfl

/-- An error in a ring's own reads puts it into FAULT. -/
theorem hostReadCompletion_ring {kind k : Nat} (hon : ringOn m kind k = true) (head : Nat) : hostReadCompletion true false kind k head m =
    report (setF (report m E_HIF_HOST_ABORT 0 4 k kind) (rState kind) k 2) E_HIF_RING_FAULT 0 4 k kind := by
  simp only [hostReadCompletion, testEvent_off hoff, Bool.not_true, Bool.false_eq_true, if_false, hon, if_true]
  rfl

end

/-! ## PCIE_LINK_UP (03 R79, R113) -/

/-- With PERST# asserted no link trains. -/
theorem pcieLinkUp_perst (speed width : Nat) (m : Mach) : pcieLinkUp { speed := speed, perst := true } width m = m :=
  if_pos (Bool.or_true _)

/-- The link is up, with its speed and width. -/
def linkRecorded (speed width : Nat) (m : Mach) : Mach :=
  setF (setF (flag { m with hif := { m.hif with perstLow := false } } HIF_STATUS_LINK_UP) HIF_STATUS_LINK_SPEED 0 speed) HIF_STATUS_LINK_WIDTH 0 width

/-- A trained link is recorded and reported. -/
theorem pcieLinkUp_trained {m : Mach} (hreset : m.sys.inReset = false) (hdom : domOn m dHIF = true) {speed width : Nat} (hs : speed < 8) (hw : width < 8) :
    getF (pcieLinkUp { speed := speed } width m) HIF_STATUS_LINK_UP = 1 ∧ getF (pcieLinkUp { speed := speed } width m) HIF_STATUS_LINK_SPEED = speed ∧
      getF (pcieLinkUp { speed := speed } width m) HIF_STATUS_LINK_WIDTH = width ∧
      ∃ h l, (pcieLinkUp { speed := speed } width m).hif = { m.hif with held := h, lost := l, perstLow := false } := by
  have hgo : pcieLinkUp { speed := speed } width m = notice (linkRecorded speed width m) E_HIF_LINK_UP (speed % 8 + width % 8 * 8) := by
    simp [pcieLinkUp, hreset, hdom, linkRecorded]
  have hfields := report_fieldsBut (linkRecorded speed width m) E_HIF_LINK_UP 7 1 (nodeId (linkRecorded speed width m)) (speed % 8 + width % 8 * 8) 0xFFFF
  rw [hgo]
  refine ⟨(hfields _ _ (by decide)).trans ?_, (hfields _ _ (by decide)).trans ?_, (hfields _ _ (by decide)).trans ?_, report_hif (linkRecorded speed width m) ..⟩
  all_goals simp (disch := decide) only [linkRecorded, flag, getF_setF_ne, getF_setF_self]
  · rfl
  · exact Nat.mod_eq_of_lt hs
  · exact Nat.mod_eq_of_lt hw

/-! ## The statement -/

/-- Settles O23: `hifReset_rest`, `hifReset_getF` and `hifReset_keeps` for the resets, `configurationRequest_answered` for the configuration space. -/
theorem hifResetsAndTheLink : Obligations.HifResetsAndTheLink := by
  refine ⟨?_, ?_⟩
  · intro s m common
    have hall {i : Instr} {seen : Fld} {link p : Bool} {a : Sparse Nat} (hseen : seen = HIF_STATUS_FLR_SEEN ∨ seen = HIF_STATUS_LINK_DOWN_SEEN)
        (hi : exec i s = .next { s with m := hifReset seen link { m with hif := { m.hif with perstLow := p, aer := a } } }) : common i seen link := by
      have hcut := hifReset_cut seen link { m with hif := { m.hif with perstLow := p, aer := a } }
      have hevent := hifReset_event seen link { m with hif := { m.hif with perstLow := p, aer := a } }
      obtain ⟨hflag, hlink⟩ := hifReset_status hseen link { m with hif := { m.hif with perstLow := p, aer := a } }
      refine ⟨_, hi, hflag, hcut.compl, hcut.pend, hcut.msix, ?_, fun j hj => ?_, ?_, fun c hc => ?_, fun k hk => ?_, fun k hk => ?_, fun i hi => ?_, ?_,
        fun i hi => ⟨?_, ?_⟩, hlink, hcut.d3, hcut.mps, hcut.mrrs, hcut.cmd, hcut.msixCtl, ?_, hcut.outside⟩
      · rw [hcut.inflight, List.length_map]
      · rw [hcut.inflight] at hj
        obtain ⟨j', -, rfl⟩ := List.mem_map.1 hj
        exact Nat.le_add_right ..
      · rw [hcut.jobs, List.length_map]; rfl
      · rw [hcut.jobs] at hc
        obtain ⟨c', -, rfl⟩ := List.mem_map.1 hc
        exact Nat.le_add_right ..
      · exact hifReset_ringState hseen (.inl rfl) hk link _
      · exact hifReset_ringState hseen (.inr rfl) hk link _
      · exact hifReset_keeps hseen (f := HIF_FEAT_DRV_DRV) (by decide) hi link _
      · exact hifReset_keeps hseen (f := HIF_FEAT_ACK_DONE) (by decide) (by decide) link _
      · exact hifReset_keeps hseen (f := HIF_DMAW_BASE_LO_ADDR) (by decide) hi link _
      · exact hifReset_keeps hseen (f := HIF_DMAW_CTRL_EN) (by decide) hi link _
      · exact (Option.map_map ..).symm.trans hevent
    have hperst : ∀ m', exec .perst s = .next { s with m := m' } → m'.hif.perstLow = true := by
      intro m' h
      have hm : perst m = m' := by injection h with h; exact congrArg State.m h
      rw [← hm]
      exact (hifReset_cut HIF_STATUS_FLR_SEEN false { m with hif := { m.hif with perstLow := true, aer := [] } }).perstLow
    exact ⟨hall (.inl rfl) rfl, hperst, hall (.inl rfl) rfl, hall (.inl rfl) rfl, hall (.inr rfl) rfl⟩
  · intro speed width kind k head loaded item w s m read there
    refine ⟨fun ⟨hreset, hdom⟩ hs hw => ?_, done_same (pcieLinkUp_perst ..), fun hperst => done_same (configurationRequest_perst hperst ..),
      fun ⟨hreset, hdom⟩ hperst hload => done_eq (configurationRequest_retry hreset hdom hperst hload item w),
      fun ⟨hreset, hdom⟩ hperst hload => ?_, fun hoff => ⟨fun job => done_same (hostReadCompletion_good hoff job kind k head),
        fun j hj => done_eq (hostReadCompletion_job hoff hj kind), fun hon => done_eq (hostReadCompletion_ring hoff hon head)⟩⟩
    · obtain ⟨hup, hspeed, hwidth, h, l, hhif⟩ := pcieLinkUp_trained hreset hdom hs hw
      exact ⟨_, rfl, hup, hspeed, hwidth, by rw [hhif]⟩
    · obtain ⟨a, hanswer⟩ := cfgAnswered_frame item (cfgDone m item w)
      obtain ⟨h, l, hdone, hl⟩ := cfgDone_frame m item w
      have hregs : (cfgDone m item w).regs = m.regs := by rw [hdone]; rfl
      refine ⟨cfgRead (cfgDone m item w) item, _, done_eq ((configurationRequest_answered hreset hdom hperst hload item w).trans hanswer), ?_, ?_, ?_,
        ?_, ?_, ?_, ?_, ?_, ?_, ?_, ?_, ?_, ?_, ?_, ?_, ?_⟩
      · rw [hdone]; rfl
      · rw [hdone]; exact hl
      · exact hregs
      · rintro rfl; exact (Nat.add_mul_div_right _ _ (by decide)).trans (by rw [Nat.div_eq_of_lt (Nat.mod_lt _ (by decide))])
      · rintro rfl; rfl
      · rintro rfl; exact getF_of_regs hregs ..
      · rintro rfl; exact getF_of_regs hregs ..
      · rintro rfl; rfl
      · rintro rfl; rfl
      · rintro rfl; rfl
      · rintro rfl; rfl
      · rintro rfl; refine ⟨rfl, ?_⟩; cases w <;> rfl
      · rintro rfl; refine ⟨rfl, ?_⟩; cases w <;> rfl
      · rintro rfl
        refine ⟨?_, ?_⟩
        · rintro rfl
          exact ⟨if_pos (sendHeld_d3 _), sendHeld_d3 _⟩
        · rintro rfl
          exact ⟨if_neg (fun h => Bool.false_ne_true ((sendHeld_d3 _).symm.trans h)), sendHeld_d3 _⟩
      · rintro rfl
        refine ⟨rfl, ?_⟩
        cases w with
        | none => rfl
        | some x => exact sendHeld_cmd _
      · rintro rfl
        refine ⟨rfl, ?_⟩
        cases w with
        | none => rfl
        | some x => exact sendHeld_msixCtl _

end Sys2Proof.Machine
end

section
/-! PROOFS. What the loading and the discarding of a cell model leave: the locks, the role of the node and, once it is set, the model (04 R117,
R126). -/

namespace Sys2Proof.Machine

/-! ## Steps of a load -/

/-- From `m` to `m'` the model in force, the locks and the role of the node are as they were. -/
structure ModelKept (m m' : Mach) : Prop where
  mould : m'.mould = m.mould
  locks : m'.locks = m.locks
  fields : FieldsBut (· ≠ SYS_STRAP_ROLE.key 0) m m'

namespace ModelKept
variable {m m' m'' : Mach}

theorem refl : ModelKept m m := ⟨rfl, rfl, .refl⟩
theorem trans (h : ModelKept m m') (h' : ModelKept m' m'') : ModelKept m m'' :=
  ⟨h'.mould.trans h.mould, h'.locks.trans h.locks, h.fields.trans h'.fields⟩
theorem ite {c : Prop} [Decidable c] {a b : Mach} (ha : ModelKept m a) (hb : ModelKept m b) : ModelKept m (if c then a else b) := by
  split
  · exact ha
  · exact hb
theorem foldl {α : Type} {f : Mach → α → Mach} {l : List α} (h : ∀ m x, ModelKept m (f m x)) (m : Mach) : ModelKept m (l.foldl f m) :=
  foldl_related (R := ModelKept) (fun _ => refl) trans (fun x _ m => h m x) m

/-- Another register written. -/
theorem setF (h : ModelKept m m') {f : Fld} {i v : Nat} (hf : f.key i ≠ SYS_STRAP_ROLE.key 0) : ModelKept m (setF m' f i v) :=
  h.trans ⟨rfl, rfl, .setF v hf⟩

/-! Something beside the model, the locks and the registers changed. -/

theorem memb (h : ModelKept m m') {b : MemSt} : ModelKept m { m' with memb := b } := h.trans ⟨rfl, rfl, .of_regs rfl⟩
theorem force (h : ModelKept m m') {l : Sparse Nat} : ModelKept m { m' with force := l } := h.trans ⟨rfl, rfl, .of_regs rfl⟩
theorem enc (h : ModelKept m m') {l : Sparse EncSt} : ModelKept m { m' with enc := l } := h.trans ⟨rfl, rfl, .of_regs rfl⟩
theorem pwr (h : ModelKept m m') {l : Sparse PwrSt} : ModelKept m { m' with pwr := l } := h.trans ⟨rfl, rfl, .of_regs rfl⟩
theorem ladle (h : ModelKept m m') {l : LadleSt} : ModelKept m { m' with ladle := l } := h.trans ⟨rfl, rfl, .of_regs rfl⟩
theorem wrByte (h : ModelKept m m') {a v : Nat} : ModelKept m (wrByte m' a v) := h.trans ⟨rfl, rfl, .of_regs rfl⟩
theorem fresh (h : ModelKept m m') {w : Nat} : ModelKept m (fresh m' w).2 := h.trans ⟨rfl, rfl, .of_regs rfl⟩

theorem report (h : ModelKept m m') {code cls kind id detail index : Nat} : ModelKept m (report m' code cls kind id detail index) :=
  h.trans ⟨(report_reported ..).mould, (report_reported ..).locks,
    (report_fieldsBut m' code cls kind id detail index).mono fun k hk he => absurd (he ▸ hk) (by decide)⟩

theorem logNode (h : ModelKept m m') {code detail : Nat} : ModelKept m (logNode m' code detail) := h.report
theorem notice (h : ModelKept m m') {code detail : Nat} : ModelKept m (notice m' code detail) := h.report

theorem irq (h : ModelKept m m') {k : Nat} : ModelKept m (irq m' k) :=
  h.trans ⟨irq_mould .., irq_locks .., (irq_fieldsBut m' k).mono fun k hk he => absurd (he ▸ hk) (by decide)⟩

theorem isManager (h : ModelKept m m') : isManager m' = isManager m := congrArg (· == 1) (h.fields SYS_STRAP_ROLE 0 fun hk => hk rfl)

end ModelKept

/-- The registers of every block but SYS and HIF lie above the straps. -/
theorem key_ne_role {f : Fld} (h : 2 ≤ f.blk) (i : Nat) : f.key i ≠ SYS_STRAP_ROLE.key 0 := by
  simp only [Fld.key, Fld.addr, SYS_STRAP_ROLE]
  omega

/-- The fields of a register of such a block are that block's. -/
theorem fieldsAt_ne_role {blk off : Nat} (hb : 2 ≤ blk ∧ blk < 17) {x : Fld × Nat} (hx : x ∈ fieldsAt blk off) :
    x.1.key x.2 ≠ SYS_STRAP_ROLE.key 0 :=
  key_ne_role (((fieldsOf_place blk hb.2 _ (mem_fieldsAt hx).1).1).symm ▸ hb.1) _

/-! ## Registers written, put into force and put back (04 R117) -/

theorem putReg_kept {blk : Nat} (hb : 2 ≤ blk ∧ blk < 17) (m : Mach) (off v : Nat) : ModelKept m (putReg m blk off v) :=
  foldl_related (R := ModelKept) (fun _ => .refl) .trans (fun _ hx _ => .setF .refl (fieldsAt_ne_role hb hx)) m

theorem enforceReg_kept (m : Mach) (blk off : Nat) : ModelKept m (enforceReg m blk off) :=
  .foldl (fun _ _ => .ite (.force .refl) .refl) m

theorem loadReg_kept {blk : Nat} (hb : 2 ≤ blk ∧ blk < 17) (m : Mach) (off v : Nat) : ModelKept m (loadReg m blk off v) :=
  (putReg_kept hb m off v).trans (enforceReg_kept ..)

/-- A field put back to its reset value, written and in force. -/
theorem unload_kept {k : Nat} (hk : k ≠ SYS_STRAP_ROLE.key 0) (m : Mach) : ModelKept m { m with regs := sdel m.regs k, force := sdel m.force k } :=
  ⟨rfl, rfl, fun g j hg => by simp only [getF, not_not.1 hg, sget_sdel_ne _ _ hk.symm]⟩

theorem unloadReg_kept {blk : Nat} (hb : 2 ≤ blk ∧ blk < 17) (m : Mach) (off : Nat) : ModelKept m (unloadReg m blk off) :=
  foldl_related (R := ModelKept) (fun _ => .refl) .trans (fun _ hx _ => unload_kept (fieldsAt_ne_role hb hx) _) m

/-! ## Bytes written (22 R604, R605) -/

theorem corrected_kept (m : Mach) (region : Nat) (pos : List Nat) : ModelKept m (corrected m region pos) := by
  unfold corrected
  extract_lets m₁ lo hi m₂ thr m₃
  have h₁ : ModelKept m m₁ := .setF (.setF .refl (by decide)) (key_ne_role (by decide) _)
  have h₂ : ModelKept m m₂ := .setF (.setF h₁ (by decide)) (by decide)
  exact .ite (.memb (.irq (.notice h₂))) h₂

theorem uncorrectable_kept (m : Mach) (k region source port : Nat) : ModelKept m (uncorrectable m k region source port) := by
  unfold uncorrectable
  extract_lets own m₁ m₂ m₃
  have h₁ : ModelKept m m₁ := .setF (.setF .refl (by decide)) (by decide)
  have h₂ : ModelKept m m₂ := .setF (.setF (.setF (.setF h₁ (by decide)) (by decide)) (by decide)) (by decide)
  exact .logNode (.irq (.memb h₂))

theorem poisonWord_kept {m m' : Mach} (h : ModelKept m m') (k : Nat) (l : List Nat) : ModelKept m (poisonWord m' k l) := by
  have hflips : ModelKept m (setFlips m' k []) := .memb h
  have hdata : ModelKept m (flipData (setFlips m' k []) k l) := hflips.trans (.ite (.memb .refl) (.foldl (fun _ _ => .wrByte .refl) _))
  exact .memb hdata

theorem decodeWord_kept (m : Mach) (k source port : Nat) : ModelKept m (decodeWord m k source port) := by
  unfold decodeWord
  extract_lets l region m₁ _ r v m₂
  have h₁ : ModelKept m m₁ := corrected_kept ..
  have h₂ : ModelKept m m₂ := .memb (.fresh (.fresh .refl))
  have hr : ModelKept m r.2 := .fresh .refl
  exact .ite .refl (.ite (.ite (.memb h₁) h₁) (.ite (poisonWord_kept (uncorrectable_kept ..) ..)
    (.ite (poisonWord_kept (hr.trans (uncorrectable_kept ..)) ..) (.ite (.memb h₂) (h₂.trans (.foldl (fun _ _ => .wrByte .refl) _))))))

theorem writeBytes_kept (m : Mach) (a : Nat) (l : List Nat) (port : Nat) : ModelKept m (wrBytes m a l port) := by
  unfold wrBytes
  extract_lets whole ks m₁ keep _ m₂
  have h₁ : ModelKept m m₁ := .foldl (fun _ _ => .memb (.memb (decodeWord_kept ..))) m
  have h₂ : ModelKept m m₂ := .memb h₁
  exact h₂.trans (.foldl (fun _ _ => .wrByte .refl) _)

/-! ## The sections of an image (04 R117) -/

section
variable (m : Mach) (img : List Nat)

theorem loadLimits_kept : ModelKept m (loadLimits m img) := .foldl (fun m _ => .foldl (fun _ _ => loadReg_kept (by decide) ..) m) m

theorem loadLoops_kept : ModelKept m (loadLoops m img) := .foldl (fun m _ => .foldl (fun _ _ => loadReg_kept (by decide) ..) m) m

theorem loadSchedule_kept : ModelKept m (loadSchedule m img) := by
  unfold loadSchedule
  split
  · exact putReg_kept (by decide) ..
  · extract_lets mine _ m₁ cls m₂ m₃ m₄
    have h₁ : ModelKept m m₁ := ⟨rfl, rfl, .of_regs rfl⟩
    have h₂ : ModelKept m m₂ := (h₁.trans (putReg_kept (by decide) ..)).trans (putReg_kept (by decide) ..)
    have h₃ : ModelKept m m₃ := h₂.trans (.foldl (fun _ _ => putReg_kept (by decide) ..) _)
    have h₄ : ModelKept m m₄ := h₃.trans (.foldl (fun _ _ => putReg_kept (by decide) ..) _)
    exact h₄.trans (putReg_kept (by decide) ..)

theorem loadGroups_kept : ModelKept m (loadGroups m img) := by
  have h₁ : ModelKept m ((groupsOf img).foldl (fun m g =>
      putReg (putReg (putReg m 6 (0x100 + 0x20 * (g.group % 32)) g.cfg) 6 (0x100 + 0x20 * (g.group % 32) + 4) g.kt) 6
        (0x100 + 0x20 * (g.group % 32) + 8) g.ovr) m) :=
    .foldl (fun _ _ => ((putReg_kept (by decide) ..).trans (putReg_kept (by decide) ..)).trans (putReg_kept (by decide) ..)) m
  exact h₁.trans (.foldl (fun _ _ => (putReg_kept (by decide) ..).trans (putReg_kept (by decide) ..)) _)

theorem loadLines_kept : ModelKept m (loadLines m img) := by
  have hline (m : Mach) (l a b c : Nat) : ModelKept m (setF (setF (setF m TWI_LINE_CFG_EN l a) TWI_LINE_CFG_NODES l b) TWI_LINE_CFG_POS l c) :=
    .setF (.setF (.setF .refl (key_ne_role (by decide) _)) (key_ne_role (by decide) _)) (key_ne_role (by decide) _)
  refine .foldl (fun m l => ?_) m
  extract_lets on ll
  split
  · exact .ite (hline ..) .refl
  · exact hline ..

theorem showEnabled_kept (k : Nat) : ModelKept m (showEnabled m k) := .setF .refl (by decide)

theorem freshPort_kept (k : Nat) : ModelKept m (freshPort m k) := by
  have h : ModelKept m (setF (setF { m with enc := sdel m.enc k } ENC_STAT_FAIL_RUN k 0) ENC_STAT_VALID k 0) :=
    .setF (.setF (.enc .refl) (key_ne_role (by decide) _)) (key_ne_role (by decide) _)
  exact h.trans (showEnabled_kept ..)

theorem loadPorts_kept : ModelKept m (loadPorts m img) := by
  unfold loadPorts
  extract_lets m₁
  have h₁ : ModelKept m m₁ := by
    refine .foldl (fun m o => ?_) m
    extract_lets k m₂ m₃
    have h₂ : ModelKept m m₂ := .foldl (fun _ _ => putReg_kept (by decide) ..) m
    have h₃ : ModelKept m m₃ := .setF h₂ (key_ne_role (by decide) _)
    exact .ite (h₃.trans (freshPort_kept ..)) (h₃.trans (showEnabled_kept ..))
  exact h₁.trans (.foldl (fun _ _ => .setF (.setF .refl (key_ne_role (by decide) _)) (key_ne_role (by decide) _)) _)

theorem loadGraph_kept : ModelKept m (loadGraph m img) := by
  unfold loadGraph
  extract_lets s raw be m₁ m₂ m₃ m₄
  have h₁ : ModelKept m m₁ := .setF (.setF .refl (by decide)) (by decide)
  have h₂ : ModelKept m m₂ := .ite h₁ (.setF h₁ (by decide))
  have h₃ : ModelKept m m₃ := .setF (.setF h₂ (by decide)) (by decide)
  exact .ladle (h₃.trans (writeBytes_kept ..))

theorem modelRegs_kept : ModelKept m (modelRegs m img) := by
  unfold modelRegs
  extract_lets m₁ m₂ m₃ m₄ m₅ m₆
  have h₁ : ModelKept m m₁ := .setF (.setF (.setF .refl (by decide)) (by decide)) (by decide)
  have h₂ : ModelKept m m₂ := .setF (.setF h₁ (by decide)) (by decide)
  have h₃ : ModelKept m m₃ := h₂.trans (.foldl (fun _ _ => .setF .refl (key_ne_role (by decide) _)) _)
  have h₄ : ModelKept m m₄ := .setF (.setF (.setF h₃ (by decide)) (by decide)) (by decide)
  have h₅ : ModelKept m m₅ := h₄.trans (writeBytes_kept ..)
  have h₆ : ModelKept m m₆ := h₅.trans (.foldl (fun _ _ => .setF (.setF .refl (key_ne_role (by decide) _)) (key_ne_role (by decide) _)) _)
  exact (((((h₆.trans (loadLimits_kept ..)).trans (loadLoops_kept ..)).trans (loadSchedule_kept ..)).trans (loadGroups_kept ..)).trans
    (loadLines_kept ..)).trans ((loadPorts_kept ..).trans (loadGraph_kept ..))

end

/-! ## Power domains (23 R630, R679) -/

/-- A domain that is to be switched: its bit in the registers, and the transition. -/
theorem switchDom_frame (m : Mach) (d : Nat) (on : Bool) : ∃ r t, switchDom m d on = { m with regs := r, sys := { m.sys with trans := t } } := by
  unfold switchDom
  extract_lets cur put m₁
  split
  · exact ⟨_, m.sys.trans, rfl⟩
  · exact ⟨_, _, rfl⟩

theorem switchDom_fieldsBut (m : Mach) (d : Nat) (on : Bool) :
    FieldsBut (fun k => k = SYS_PWR_CTRL_ON.key 0 ∨ k = SYS_PWR_STAT_TRANS.key 0) m (switchDom m d on) := by
  unfold switchDom
  extract_lets cur put m₁
  have h₁ : FieldsBut (fun k => k = SYS_PWR_CTRL_ON.key 0 ∨ k = SYS_PWR_STAT_TRANS.key 0) m m₁ := .setF _ (.inl rfl)
  exact .ite h₁ (h₁.trans (.trans (.setF _ (.inr rfl)) (.of_regs rfl)))

theorem switchDom_kept (m : Mach) (d : Nat) (on : Bool) : ModelKept m (switchDom m d on) := by
  obtain ⟨r, t, h⟩ := switchDom_frame m d on
  exact ⟨by rw [h], by rw [h], (switchDom_fieldsBut m d on).mono (by rintro k (rfl | rfl) <;> decide)⟩

/-! ## A model put into force, and one discarded (04 R126) -/

/-- The model of an accepted image is loaded, with the image and its identifier. -/
theorem applyModel_mould (m : Mach) (img : List Nat) : (applyModel m img).mould.loaded = true ∧ (applyModel m img).mould.image = img ∧
    (applyModel m img).mould.modelId = field img 12 4 := by
  unfold applyModel
  extract_lets s mould m₁ m₂
  have h₂ : ModelKept m₁ m₂ := (writeBytes_kept ..).trans (writeBytes_kept ..)
  have h : ModelKept m₁ (carriersWait (modelRegs m₂ img)) := .pwr (h₂.trans (modelRegs_kept ..))
  rw [h.mould]
  exact ⟨rfl, rfl, rfl⟩

theorem applyModel_keeps (m : Mach) (img : List Nat) : (applyModel m img).locks = m.locks ∧ isManager (applyModel m img) = isManager m := by
  unfold applyModel
  extract_lets s mould m₁ m₂
  have h₂ : ModelKept m₁ m₂ := (writeBytes_kept ..).trans (writeBytes_kept ..)
  have h : ModelKept m₁ (carriersWait (modelRegs m₂ img)) := .pwr (h₂.trans (modelRegs_kept ..))
  exact ⟨h.locks, h.isManager⟩

theorem modelDomains_kept (m : Mach) : ModelKept m (modelDomains m) :=
  .foldl (fun _ _ => .ite (switchDom_kept ..) (.ite (switchDom_kept ..) (switchDom_kept ..))) m

theorem crucSync_kept {m m' : Mach} (h : ModelKept m m') : ModelKept m (crucSync m') :=
  .setF (.setF (.setF h (by decide)) (by decide)) (by decide)

/-- What is discarded leaves the dynamic claims alone of the model. -/
theorem discardModel_kept (m : Mach) : ModelKept { m with mould := { claims := m.mould.claims } } (discardModel m) := by
  unfold discardModel
  extract_lets l m₁ m₂ m₃ m₄
  have h₁ : ModelKept { m with mould := { claims := m.mould.claims } } m₁ := crucSync_kept ⟨rfl, rfl, .of_regs rfl⟩
  have h₂ := h₁.trans (.foldl (f := fun m s => pwrRecordOffs.foldl (fun m o => unloadReg m 8 (0x1000 + 0x100 * s + o)) m) (l := List.range 16)
    (fun m _ => .foldl (fun _ _ => unloadReg_kept (by decide) ..) m) m₁)
  have h₃ := h₂.trans (.foldl (f := fun m s => axlRecordOffs.foldl (fun m o => unloadReg m 7 (0x1000 + 0x100 * s + o)) m) (l := List.range 16)
    (fun m _ => .foldl (fun _ _ => unloadReg_kept (by decide) ..) m) m₂)
  have hsched : ∀ x ∈ schedRegs, 2 ≤ x.1 ∧ x.1 < 17 := by decide
  have h₄ := h₃.trans (foldl_related (R := ModelKept) (f := fun m x => unloadReg m x.1 x.2) (l := schedRegs) (fun _ => .refl) .trans
    (fun x hx m => unloadReg_kept (hsched x hx) m x.2) m₃)
  have hreset : ∀ k ∈ [ENC_CFG_OWNER, CRUC_CL_CFG_SLOT, CRUC_CL_CFG_VALID].flatMap fieldKeys, k ≠ SYS_STRAP_ROLE.key 0 := by decide
  have h₅ : ModelKept m₄ (resetFields m₄ [ENC_CFG_OWNER, CRUC_CL_CFG_SLOT, CRUC_CL_CFG_VALID]) :=
    ⟨by rw [resetFields_eq], by rw [resetFields_eq], (resetFields_fieldsBut _ _).mono hreset⟩
  exact h₄.trans h₅

theorem discardModel_loaded (m : Mach) : (discardModel m).mould.loaded = false := by rw [(discardModel_kept m).mould]
theorem discardModel_locks (m : Mach) : (discardModel m).locks = m.locks := (discardModel_kept m).locks
theorem discardModel_isManager (m : Mach) : isManager (discardModel m) = isManager m := (discardModel_kept m).isManager

/-! ## A load (04 R124, R126) -/

section
variable {acc : Nat} {img : List Nat} {m : Mach}

theorem loadImage_accepted (h : imageFail (discardModel m) acc img = none) :
    loadImage acc img m = (notice (modelDomains (applyModel (discardModel m) img)) E_SYS_MODEL_LOADED (field img 12 4), none) := by
  simp only [loadImage, h]

theorem loadImage_rejected {code sc idx : Nat} (h : imageFail (discardModel m) acc img = some (code, sc, idx)) :
    loadImage acc img m = (logNode (discardModel m) code (idx % 2 ^ 24 + sc % 256 * 2 ^ 24), some code) := by
  simp only [loadImage, h]

/-- Behind the model put into force come the power domains and the notice. -/
theorem loadImage_kept (h : imageFail (discardModel m) acc img = none) : ModelKept (applyModel (discardModel m) img) (loadImage acc img m).1 := by
  rw [loadImage_accepted h]
  dsimp only
  exact (modelDomains_kept _).notice

/-- An accepted image is the model in force. -/
theorem loadImage_inForce (h : imageFail (discardModel m) acc img = none) :
    (loadImage acc img m).1.mould.loaded = true ∧ (loadImage acc img m).1.mould.image = img ∧ (loadImage acc img m).1.mould.modelId = field img 12 4 := by
  rw [(loadImage_kept h).mould]
  exact applyModel_mould ..

/-- One that fails a check leaves no model; the locks stay. -/
theorem loadImage_discards (h : imageFail (discardModel m) acc img ≠ none) :
    (loadImage acc img m).1.mould.loaded = false ∧ (loadImage acc img m).1.locks = m.locks ∧ (loadImage acc img m).2.isSome = true := by
  obtain ⟨⟨code, sc, idx⟩, hfail⟩ := Option.ne_none_iff_exists'.1 h
  rw [loadImage_rejected hfail]
  have hlog := logNode_reported (discardModel m) code (idx % 2 ^ 24 + sc % 256 * 2 ^ 24)
  exact ⟨(congrArg MouldSt.loaded hlog.mould).trans (discardModel_loaded m), hlog.locks.trans (discardModel_locks m), rfl⟩

/-- The locks and the role of the node stay. -/
theorem loadImage_keeps (h : imageFail (discardModel m) acc img = none) :
    (loadImage acc img m).1.locks = m.locks ∧ isManager (loadImage acc img m).1 = isManager m := by
  obtain ⟨hlocks, hrole⟩ := applyModel_keeps (discardModel m) img
  rw [(loadImage_kept h).locks, (loadImage_kept h).isManager, hlocks, hrole]
  exact ⟨discardModel_locks m, discardModel_isManager m⟩

end

end Sys2Proof.Machine
end

section
/-! PROOFS. Boot: flash discovery, the start of authenticated firmware, boot over PCIe, the model of the flash (23 R625 to R629, 04 R126), and the
statement on them. -/

namespace Sys2Proof.Machine

/-! ## The commands of this statement -/

theorem exec_flashDiscovery (header : Bool) (mode : Nat) (eye : List Bool) (s : State) :
    exec (.flashDiscovery header mode eye) s = done (flashDiscovery header mode eye) s := rfl
theorem exec_firmwareAuthentication (l : List Nat) (ms : Nat) (s : State) :
    exec (.firmwareAuthentication l ms) s = done (firmwareAuth l ms) s := rfl
theorem exec_bootLenWrite (len ms : Nat) (s : State) : exec (.bootLenWrite len ms) s = done (bootLenWrite len ms) s := rfl
theorem exec_bootModelLoad (l : List Nat) (s : State) : exec (.bootModelLoad l) s = done (bootModelLoad l) s := rfl

/-! ## Boot under way -/

/-- Boot is under way out of reset and before its fifth phase. -/
theorem booting_before {m : Mach} (h : booting m = true) : m.sys.inReset = false ∧ getF m SYS_BOOT_STAT_PHASE < 5 := by
  simp only [booting, Bool.and_eq_true, Bool.not_eq_true', decide_eq_true_eq] at h
  exact ⟨h.1.1, h.2⟩

/-- A four-byte field is a number of 32 bits. -/
theorem field_four_lt (l : List Nat) (o : Nat) : field l o 4 < 2 ^ 32 :=
  (leNat_lt _).trans_le (Nat.pow_le_pow_right (by decide) (by rw [List.length_take]; omega))

/-! ## Flash discovery (23 R625) -/

/-- The flash is found in its read mode, and boot goes on to authentication. -/
def flashFound (mode : Nat) (m : Mach) : Mach :=
  setF (setF (setF m SYS_BOOT_STAT_PHASE 0 1) SYS_BOOT_STAT_MODE 0 (min mode 2)) SYS_BOOT_STAT_PHASE 0 2

theorem flashDiscovery_found {m : Mach} (hboot : booting m = true) (hpcie : m.sys.pcie = false) (hphase : getF m SYS_BOOT_STAT_PHASE = 0)
    {eye : List Bool} (heye : 4 ≤ longestRun (eye.take 16) 0 0) (mode : Nat) : flashDiscovery true mode eye m = flashFound mode m := by
  simp [flashDiscovery, flashFound, hboot, hpcie, hphase, heye]

theorem flashFound_fields (mode : Nat) (m : Mach) : getF (flashFound mode m) SYS_BOOT_STAT_PHASE = 2 ∧
    getF (flashFound mode m) SYS_BOOT_STAT_MODE = min mode 2 ∧ (flashFound mode m).mem = m.mem := by
  refine ⟨getF_setF_self .., (getF_setF_other (by decide) ..).trans ((getF_setF_self ..).trans (Nat.mod_eq_of_lt ?_)), rfl⟩
  exact (Nat.min_le_right mode 2).trans_lt (by decide)

/-! ## Firmware that runs (23 R629) -/

/-- From `m` to `m'` at most power domains have begun to switch: of the registers, those two. -/
structure DomainsSwitched (m m' : Mach) : Prop where
  rest : ∃ r t, m' = { m with regs := r, sys := { m.sys with trans := t } }
  fields : FieldsBut (fun k => k = SYS_PWR_CTRL_ON.key 0 ∨ k = SYS_PWR_STAT_TRANS.key 0) m m'

namespace DomainsSwitched
variable {m m' m'' : Mach}

theorem refl : DomainsSwitched m m := ⟨⟨_, _, rfl⟩, .refl⟩
theorem trans (h : DomainsSwitched m m') (h' : DomainsSwitched m' m'') : DomainsSwitched m m'' := by
  obtain ⟨⟨r, t, rfl⟩, hf⟩ := h
  obtain ⟨⟨r', t', rfl⟩, hf'⟩ := h'
  exact ⟨⟨r', t', rfl⟩, hf.trans hf'⟩
theorem ite {c : Prop} [Decidable c] {a b : Mach} (ha : DomainsSwitched m a) (hb : DomainsSwitched m b) : DomainsSwitched m (if c then a else b) := by
  split
  · exact ha
  · exact hb
theorem mem (h : DomainsSwitched m m') : m'.mem = m.mem := by obtain ⟨⟨_, _, rfl⟩, -⟩ := h; rfl
theorem cores (h : DomainsSwitched m m') : m'.cores = m.cores := by obtain ⟨⟨_, _, rfl⟩, -⟩ := h; rfl
theorem clamp (h : DomainsSwitched m m') : m'.sys.clamp = m.sys.clamp := by obtain ⟨⟨_, _, rfl⟩, -⟩ := h; rfl

end DomainsSwitched

theorem switchDom_switched (m : Mach) (d : Nat) (on : Bool) : DomainsSwitched m (switchDom m d on) :=
  ⟨switchDom_frame m d on, switchDom_fieldsBut m d on⟩

/-- The registers that say which firmware runs, from which copy, and after how long. -/
def firmwareTold (m : Mach) (l : List Nat) (copy ms : Nat) : Mach :=
  setF (setF (setF m SYS_FW_VER_VERSION 0 (field l 12 4)) SYS_BOOT_STAT_COPY 0 copy) SYS_BOOT_STAT_BOOT_MS 0 (min ms 65535)

/-- The supervisor at the entry of the firmware, with the outputs released. -/
def firmwareEntered (m : Mach) (l : List Nat) : Mach :=
  let m := putCore m 32 { coreSt m 32 with pc := BitVec.ofNat 32 (field l 20 4) }
  { m with sys := { m.sys with pcie := false, clamp := false } }

/-- The domains that are on for every role that the node may have. -/
def firmwareDomains (m : Mach) : Mach :=
  (List.range 14).foldl (fun m d =>
    if !clocked m d then m else if (domCols m).any (fun c => nth (domTable d) c == 1) then switchDom m d true else m) m

theorem firmwareDomains_switched (m : Mach) : DomainsSwitched m (firmwareDomains m) :=
  foldl_related (R := DomainsSwitched) (fun _ => .refl) .trans (fun _ _ _ => .ite .refl (.ite (switchDom_switched ..) .refl)) m

theorem startFirmware_eq (m : Mach) (l : List Nat) (copy ms : Nat) : startFirmware m l copy ms =
    setF (flag (firmwareDomains (firmwareEntered (firmwareTold (loadSegs m l) l copy ms) l)) HIF_STATUS_READY) SYS_BOOT_STAT_PHASE 0 4 := rfl

/-- From `m` firmware of image `l`, copy `copy`, has been started: the supervisor stands at its entry, the outputs are released, READY is told with
the version and the copy in the phase of the model, and memory holds the image's segments. -/
structure FirmwareRuns (m : Mach) (l : List Nat) (copy : Nat) (m' : Mach) : Prop where
  phase : getF m' SYS_BOOT_STAT_PHASE = 4
  ready : getF m' HIF_STATUS_READY = 1
  version : getF m' SYS_FW_VER_VERSION = field l 12 4
  copy : getF m' SYS_BOOT_STAT_COPY = copy % 4
  pc : (coreSt m' 32).pc = BitVec.ofNat 32 (field l 20 4)
  clamp : m'.sys.clamp = false
  mem : m'.mem = (loadSegs m l).mem

theorem startFirmware_runs (m : Mach) (l : List Nat) (copy ms : Nat) : FirmwareRuns m l copy (startFirmware m l copy ms) := by
  have h := firmwareDomains_switched (firmwareEntered (firmwareTold (loadSegs m l) l copy ms) l)
  have hentered : (firmwareEntered (firmwareTold (loadSegs m l) l copy ms) l).cores =
      sput (loadSegs m l).cores 32 { coreSt (loadSegs m l) 32 with pc := BitVec.ofNat 32 (field l 20 4) } {} := rfl
  have htold (f : Fld) : getF (firmwareEntered (firmwareTold (loadSegs m l) l copy ms) l) f = getF (firmwareTold (loadSegs m l) l copy ms) f := rfl
  rw [startFirmware_eq]
  constructor
  case phase => exact getF_setF_self ..
  case ready => exact (getF_setF_ne _ _ _ _ _ _ (by decide)).trans (getF_setF_self ..)
  case version =>
    rw [getF_setF_ne _ _ _ _ _ _ (by decide), flag, getF_setF_ne _ _ _ _ _ _ (by decide), h.fields _ _ (by decide), htold, firmwareTold,
      getF_setF_ne _ _ _ _ _ _ (by decide), getF_setF_ne _ _ _ _ _ _ (by decide), getF_setF_self]
    exact Nat.mod_eq_of_lt (field_four_lt l 12)
  case copy =>
    rw [getF_setF_ne _ _ _ _ _ _ (by decide), flag, getF_setF_ne _ _ _ _ _ _ (by decide), h.fields _ _ (by decide), htold, firmwareTold,
      getF_setF_ne _ _ _ _ _ _ (by decide), getF_setF_self]
    rfl
  case pc => rw [coreSt, setF_cores, flag, setF_cores, h.cores, hentered, sget_sput_self]
  case clamp => rw [setF_sys, flag, setF_sys, h.clamp]; rfl
  case mem => rw [setF_mem, flag, setF_mem, h.mem]; rfl

/-! ## Authentication (23 R627) -/

section
variable {l : List Nat} {ms : Nat} {m : Mach} (hboot : booting m = true) (hpcie : m.sys.pcie = false) (hphase : getF m SYS_BOOT_STAT_PHASE = 2)
include hboot hpcie hphase

/-- An image that passes runs. -/
theorem firmwareAuth_accepted (h : imgFail m false l = 0) : ∃ m', firmwareAuth l ms m = m' ∧ FirmwareRuns m l m.sys.bootTries m' :=
  ⟨startFirmware m l m.sys.bootTries ms, by simp [firmwareAuth, hboot, hpcie, hphase, h], startFirmware_runs ..⟩

/-- One that fails ends the first try, and the second for good. -/
theorem firmwareAuth_failed (h : imgFail m false l ≠ 0) : firmwareAuth l ms m =
    if m.sys.bootTries = 0 then { m with sys := { m.sys with bootTries := m.sys.bootTries + 1 } }
    else fallback { m with sys := { m.sys with bootTries := m.sys.bootTries + 1 } } E_SYS_AUTH_FAIL (imgFail m false l + 16 * m.sys.bootTries) := by
  obtain ⟨step, hstep⟩ := Nat.exists_eq_succ_of_ne_zero h
  simp [firmwareAuth, hboot, hpcie, hphase, hstep]

end

/-- Boot that fails stands in phase 6 with an alert. -/
theorem bootFail_fails (m : Mach) (code det : Nat) : getF (bootFail m code det) SYS_BOOT_STAT_PHASE = 6 ∧ (bootFail m code det).sys.alert = true ∧
    (bootFail m code det).mem = m.mem :=
  ⟨(getF_setF_ne _ _ _ _ _ _ (by decide)).trans (getF_setF_self ..), rfl, rfl⟩

/-- Without boot over PCIe in the straps there is no fallback. -/
theorem fallback_flashOnly {m : Mach} (h : getF m SYS_STRAP_BOOT_SRC = 0) (code det : Nat) : fallback m code det = bootFail m code det :=
  if_neg (by simp [h])

/-- Without it boot ends with the last copy that fails. -/
theorem firmwareAuth_lastFailed {l : List Nat} {ms : Nat} {m : Mach} (hboot : booting m = true) (hpcie : m.sys.pcie = false)
    (hphase : getF m SYS_BOOT_STAT_PHASE = 2) (h : imgFail m false l ≠ 0) (hlast : m.sys.bootTries ≠ 0) (hsrc : getF m SYS_STRAP_BOOT_SRC = 0) :
    ∃ m', firmwareAuth l ms m = m' ∧ getF m' SYS_BOOT_STAT_PHASE = 6 ∧ m'.sys.alert = true ∧ m'.mem = m.mem := by
  refine ⟨bootFail { m with sys := { m.sys with bootTries := m.sys.bootTries + 1 } } E_SYS_AUTH_FAIL (imgFail m false l + 16 * m.sys.bootTries), ?_,
    bootFail_fails ..⟩
  rw [firmwareAuth_failed hboot hpcie hphase h, if_neg hlast]
  exact fallback_flashOnly (m := { m with sys := { m.sys with bootTries := m.sys.bootTries + 1 } }) hsrc ..

/-! ## Boot over PCIe (23 R628) -/

/-- The length of the image is written. -/
def lenTaken (len : Nat) (m : Mach) : Mach := setF m SYS_BOOT_LEN_LEN 0 len

/-- The image that the host has written to the working store, as long as LEN says. -/
def storeImage (m : Mach) : List Nat := rdBytes m 0x10000000 (getF m SYS_BOOT_LEN_LEN)

theorem booting_lenTaken (len : Nat) (m : Mach) : booting (lenTaken len m) = booting m := by
  rw [booting, booting, onF, onF, lenTaken, getF_setF_ne _ _ _ _ _ _ (by decide), getF_setF_ne _ _ _ _ _ _ (by decide), setF_sys]

section
variable {len ms : Nat} {m : Mach} (hboot : booting m = true) (hpcie : m.sys.pcie = true)
include hboot hpcie

/-- An image that passes runs. -/
theorem bootLenWrite_accepted (h : imgFail (lenTaken len m) false (storeImage (lenTaken len m)) = 0) :
    ∃ m', bootLenWrite len ms m = m' ∧ FirmwareRuns (lenTaken len m) (storeImage (lenTaken len m)) 2 m' := by
  refine ⟨startFirmware (lenTaken len m) (storeImage (lenTaken len m)) 2 ms, ?_, startFirmware_runs ..⟩
  obtain ⟨hreset, hphase⟩ := booting_before hboot
  have hstill := (booting_lenTaken len m).trans hboot
  simp only [lenTaken, storeImage] at hstill h
  simp [bootLenWrite, lenTaken, storeImage, hreset, Nat.not_le.2 hphase, hstill, hpcie, h, -getF_setF_self]

/-- One that fails ends boot. -/
theorem bootLenWrite_failed (h : imgFail (lenTaken len m) false (storeImage (lenTaken len m)) ≠ 0) : bootLenWrite len ms m =
    bootFail (setF (lenTaken len m) SYS_BOOT_STAT_COPY 0 2) E_SYS_AUTH_FAIL (imgFail (lenTaken len m) false (storeImage (lenTaken len m))) := by
  obtain ⟨hreset, hphase⟩ := booting_before hboot
  obtain ⟨step, hstep⟩ := Nat.exists_eq_succ_of_ne_zero h
  have hstill := (booting_lenTaken len m).trans hboot
  simp only [lenTaken, storeImage] at hstill hstep
  simp [bootLenWrite, lenTaken, storeImage, hreset, Nat.not_le.2 hphase, hstill, hpcie, hstep, -getF_setF_self]

end

/-! ## The model of the flash (23 R629, 04 R126) -/

/-- The end of boot is a phase and a notice. -/
theorem booted_ends (m : Mach) : getF (booted m) SYS_BOOT_STAT_PHASE = 5 ∧ (booted m).mould = m.mould ∧ (booted m).mem = m.mem ∧
    (booted m).locks = m.locks := by
  have h := report_reported (setF m SYS_BOOT_STAT_PHASE 0 5) E_SYS_BOOTED 7 1 (nodeId (setF m SYS_BOOT_STAT_PHASE 0 5)) (getF m SYS_FW_VER_VERSION) 0xFFFF
  have hf := report_fieldsBut (setF m SYS_BOOT_STAT_PHASE 0 5) E_SYS_BOOTED 7 1 (nodeId (setF m SYS_BOOT_STAT_PHASE 0 5)) (getF m SYS_FW_VER_VERSION) 0xFFFF
  exact ⟨(hf SYS_BOOT_STAT_PHASE 0 (by decide)).trans (getF_setF_self ..), h.mould, h.mem, h.locks⟩

section
variable {l : List Nat} {m : Mach} (hboot : booting m = true) (hphase : getF m SYS_BOOT_STAT_PHASE = 4)
include hboot hphase

/-- An erased region holds no model. -/
theorem bootModelLoad_erased (h : field l 0 4 = 0xFFFFFFFF) : bootModelLoad l m = booted m := by
  simp [bootModelLoad, hboot, hphase, h]

/-- One that is not authentic is reported. -/
theorem bootModelLoad_failed (hthere : field l 0 4 ≠ 0xFFFFFFFF) (h : imgFail m true l ≠ 0) :
    bootModelLoad l m = booted (logNode m E_SYS_AUTH_FAIL (imgFail m true l + 32)) := by
  obtain ⟨step, hstep⟩ := Nat.exists_eq_succ_of_ne_zero h
  simp [bootModelLoad, hboot, hphase, hthere, hstep]

end

/-- The bytes of a model image: those of its one segment. -/
def flashImage (l : List Nat) : List Nat := (l.drop ((imgSegs l).headD (0, 0, 0, 0)).2.2.1).take ((imgSegs l).headD (0, 0, 0, 0)).2.1

/-- A standalone worker with a model sets its locks (04 R140). -/
def locksAfterLoad (r : Mach × Option Nat) : Mach :=
  if r.2.isNone && !isManager r.1 && r.1.mould.config == 0 then (setLocks 7 r.1).1 else r.1

/-- An authentic image is loaded as a model. -/
theorem bootModelLoad_authentic {l : List Nat} {m : Mach} (hboot : booting m = true) (hphase : getF m SYS_BOOT_STAT_PHASE = 4)
    (hthere : field l 0 4 ≠ 0xFFFFFFFF) (h : imgFail m true l = 0) :
    bootModelLoad l m = booted (locksAfterLoad (loadImage (acceptedSet m) (flashImage l) m)) := by
  simp [bootModelLoad, hboot, hphase, hthere, h, flashImage, locksAfterLoad]

/-! ### Locks leave memory and model -/

/-- A lock set, or not, with what it reports. -/
theorem setLock_keeps (have_ pre : Bool) (fail : Option (Nat × Nat)) (put : Locks → Locks) (m : Mach) :
    (setLock have_ pre fail put m).1.mould = m.mould ∧ (setLock have_ pre fail put m).1.mem = m.mem := by
  have hlog (code det : Nat) : (logNode m code det).mould = m.mould ∧ (logNode m code det).mem = m.mem :=
    ⟨(logNode_reported ..).mould, (logNode_reported ..).mem⟩
  cases have_ with
  | true => exact ⟨rfl, rfl⟩
  | false =>
    cases pre with
    | false => exact hlog ..
    | true =>
      cases fail with
      | some f => exact hlog ..
      | none => exact ⟨(report_reported ..).mould, (report_reported ..).mem⟩

theorem setSchedLock_keeps (m : Mach) : (setSchedLock m).1.mould = m.mould ∧ (setSchedLock m).1.mem = m.mem := by
  obtain ⟨hmould, hmem⟩ := setLock_keeps m.locks.sch m.locks.lim (schedLockFail m) (fun l => { l with sch := true }) m
  simp only [setSchedLock, apply_ite Mach.mould, apply_ite Mach.mem, flag, setF_mould, setF_mem, ite_self]
  exact ⟨hmould, hmem⟩

/-- All three. -/
theorem setLocks_keep (mask : Nat) (m : Mach) : (setLocks mask m).1.mould = m.mould ∧ (setLocks mask m).1.mem = m.mem := by
  have hgo (r : Mach × Nat) (b : Bool) {f : Mach → Mach × Nat} (hf : ∀ m, (f m).1.mould = m.mould ∧ (f m).1.mem = m.mem) :
      (if b && r.2 == 0 then f r.1 else r).1.mould = r.1.mould ∧ (if b && r.2 == 0 then f r.1 else r).1.mem = r.1.mem := by
    split
    · exact hf r.1
    · exact ⟨rfl, rfl⟩
  unfold setLocks
  extract_lets go
  obtain ⟨h₁, h₁'⟩ := hgo (m, E_OK) (mask.testBit 0) (f := setCfgLock) fun m => setLock_keeps ..
  obtain ⟨h₂, h₂'⟩ := hgo (go (m, E_OK) (mask.testBit 0) setCfgLock) (mask.testBit 1) (f := setLimitLock) fun m => setLock_keeps ..
  obtain ⟨h₃, h₃'⟩ := hgo (go (go (m, E_OK) (mask.testBit 0) setCfgLock) (mask.testBit 1) setLimitLock) (mask.testBit 2) setSchedLock_keeps
  exact ⟨h₃.trans (h₂.trans h₁), h₃'.trans (h₂'.trans h₁')⟩

theorem locksAfterLoad_keep (r : Mach × Option Nat) : (locksAfterLoad r).mould = r.1.mould ∧ (locksAfterLoad r).mem = r.1.mem := by
  unfold locksAfterLoad
  split
  · exact setLocks_keep ..
  · exact ⟨rfl, rfl⟩

/-- The locks stay on a manager, and where no model has been loaded. -/
theorem locksAfterLoad_locks {r : Mach × Option Nat} (h : isManager r.1 = true ∨ r.2.isSome = true) : locksAfterLoad r = r.1 := by
  refine if_neg ?_
  rcases h with h | h
  · simp [h]
  · simp [Option.isNone_eq_false_iff.2 h]

/-! ### An authentic model image -/

section
variable {l : List Nat} {m : Mach} (hboot : booting m = true) (hphase : getF m SYS_BOOT_STAT_PHASE = 4) (hthere : field l 0 4 ≠ 0xFFFFFFFF)
  (hauth : imgFail m true l = 0)
include hboot hphase hthere hauth

/-- What boot leaves of phase, model, memory and locks is what the load and the locks after it do. -/
theorem bootModelLoad_ends : ∃ m', bootModelLoad l m = m' ∧ getF m' SYS_BOOT_STAT_PHASE = 5 ∧
    m'.mould = (loadImage (acceptedSet m) (flashImage l) m).1.mould ∧ m'.mem = (loadImage (acceptedSet m) (flashImage l) m).1.mem ∧
    m'.locks = (locksAfterLoad (loadImage (acceptedSet m) (flashImage l) m)).locks := by
  obtain ⟨hat, hmould, hmem, hlocks⟩ := booted_ends (locksAfterLoad (loadImage (acceptedSet m) (flashImage l) m))
  obtain ⟨hmould', hmem'⟩ := locksAfterLoad_keep (loadImage (acceptedSet m) (flashImage l) m)
  exact ⟨_, bootModelLoad_authentic hboot hphase hthere hauth, hat, hmould.trans hmould', hmem.trans hmem', hlocks⟩

/-- A model that passes its checks is in force. -/
theorem bootModelLoad_accepted (h : imageFail (discardModel m) (acceptedSet m) (flashImage l) = none) :
    ∃ m', bootModelLoad l m = m' ∧ getF m' SYS_BOOT_STAT_PHASE = 5 ∧ m'.mould.loaded = true ∧ m'.mould.image = flashImage l ∧
      m'.mould.modelId = field (flashImage l) 12 4 ∧ m'.mem = (loadImage (acceptedSet m) (flashImage l) m).1.mem ∧
      (isManager m = true → m'.locks = m.locks) := by
  obtain ⟨m', hnext, hat, hmould, hmem, hlocks⟩ := bootModelLoad_ends hboot hphase hthere hauth
  obtain ⟨hloaded, himage, hid⟩ := loadImage_inForce h
  obtain ⟨hlocks', hrole⟩ := loadImage_keeps h
  refine ⟨m', hnext, hat, by rw [hmould, hloaded], by rw [hmould, himage], by rw [hmould, hid], hmem, fun hmanager => ?_⟩
  rw [hlocks, locksAfterLoad_locks (.inl (hrole.trans hmanager)), hlocks']

/-- One that fails a check is not, and no lock is set. -/
theorem bootModelLoad_rejected (h : imageFail (discardModel m) (acceptedSet m) (flashImage l) ≠ none) :
    ∃ m', bootModelLoad l m = m' ∧ getF m' SYS_BOOT_STAT_PHASE = 5 ∧ m'.mould.loaded = false ∧ m'.locks = m.locks := by
  obtain ⟨m', hnext, hat, hmould, -, hlocks⟩ := bootModelLoad_ends hboot hphase hthere hauth
  obtain ⟨hloaded, hlocks', hsome⟩ := loadImage_discards h
  exact ⟨m', hnext, hat, by rw [hmould, hloaded], by rw [hlocks, locksAfterLoad_locks (.inr hsome), hlocks']⟩

end

/-! ## The statement -/

/-- Settles O36: each step of boot by its lemma, with `startFirmware_runs` for firmware that passes, and `loadImage_inForce` and `loadImage_keeps` for
a model that does. -/
theorem bootAuthenticatesFirmware : Obligations.BootAuthenticatesFirmware := by
  intro l ms mode len eye s m hboot
  refine ⟨fun hpcie hphase heye => ?_, fun hpcie hphase hok => ?_, fun hpcie hphase hfail hfirst => ?_, fun hpcie hphase hfail hsecond hsrc => ?_,
    ⟨fun hpcie hok => ?_, fun hpcie hfail => ?_⟩, fun hphase herased => ?_, fun hphase hthere hok => ?_, fun hphase hthere hfail => ?_⟩
  · exact ⟨_, (exec_flashDiscovery ..).trans (done_eq (flashDiscovery_found hboot hpcie hphase heye mode)), flashFound_fields mode m⟩
  · obtain ⟨m', hnext, hruns⟩ := firmwareAuth_accepted (ms := ms) hboot hpcie hphase hok
    exact ⟨m', (exec_firmwareAuthentication ..).trans (done_eq hnext), hruns.phase, hruns.ready, hruns.pc, hruns.clamp, hruns.version, hruns.mem⟩
  · refine (exec_firmwareAuthentication ..).trans (done_eq ?_)
    rw [firmwareAuth_failed hboot hpcie hphase hfail, if_pos hfirst, hfirst]
  · obtain ⟨m', hnext, hat, halert, hmem⟩ := firmwareAuth_lastFailed (ms := ms) hboot hpcie hphase hfail (by rw [hsecond]; decide) hsrc
    exact ⟨m', (exec_firmwareAuthentication ..).trans (done_eq hnext), hat, halert, hmem⟩
  · obtain ⟨m', hnext, hruns⟩ := bootLenWrite_accepted (ms := ms) hboot hpcie hok
    exact ⟨m', (exec_bootLenWrite ..).trans (done_eq hnext), hruns.phase, hruns.ready, hruns.copy, hruns.pc, hruns.mem⟩
  · obtain ⟨hat, -, hmem⟩ := bootFail_fails (setF (lenTaken len m) SYS_BOOT_STAT_COPY 0 2) E_SYS_AUTH_FAIL
      (imgFail (lenTaken len m) false (storeImage (lenTaken len m)))
    exact ⟨_, (exec_bootLenWrite ..).trans (done_eq (bootLenWrite_failed hboot hpcie hfail)), hat, hmem⟩
  · obtain ⟨hat, hmould, hmem, -⟩ := booted_ends m
    exact ⟨_, (exec_bootModelLoad ..).trans (done_eq (bootModelLoad_erased hboot hphase herased)), hat, hmould, hmem⟩
  · refine ⟨fun haccept => ?_, fun hreject => ?_⟩
    · obtain ⟨m', hnext, hmodel⟩ := bootModelLoad_accepted hboot hphase hthere hok haccept
      exact ⟨m', (exec_bootModelLoad ..).trans (done_eq hnext), hmodel⟩
    · obtain ⟨m', hnext, hmodel⟩ := bootModelLoad_rejected hboot hphase hthere hok hreject
      exact ⟨m', (exec_bootModelLoad ..).trans (done_eq hnext), hmodel⟩
  · obtain ⟨hat, hmould, -, -⟩ := booted_ends (logNode m E_SYS_AUTH_FAIL (imgFail m true l + 32))
    exact ⟨_, (exec_bootModelLoad ..).trans (done_eq (bootModelLoad_failed hboot hphase hthere hfail)), hat, hmould.trans (logNode_reported ..).mould⟩

end Sys2Proof.Machine
end

section
/-! PROOFS. The jobs of the cell model, the automatic start of the network, and limit inputs (04 R117, R124, R126, 08 R260 to R263, 13 R405), and
the statement on them. -/

namespace Sys2Proof.Machine

/-! ## The commands of this statement -/

theorem exec_modelLoad (j : Job) (s : State) : exec (.modelLoad j) s = done (runJob 0x0010 modelLoad j) s := rfl
theorem exec_modelRead (j : Job) (s : State) : exec (.modelRead j) s = done (runJob 0x0011 modelRead j) s := rfl
theorem exec_autoStart (s : State) : exec .autoStart s = done autoStart s := rfl
theorem exec_limitInputChange (n : Nat) (neg level : Bool) (held : Nat) (s : State) :
    exec (.limitInputChange n neg level held) s = done (limitInput n neg level held) s := rfl

/-! ## MODEL_LOAD (04 R124, R126) -/

/-- The image of the job's data. -/
def jobImage (j : Job) : List Nat := padTo j.desc.dataLen j.data

section
variable {j : Job} {m : Mach}

/-- With CFG_LOCK set, an axis enabled or a network in operation no load starts. -/
theorem modelLoad_busy (h : m.locks.cfg = true ∨ anyEnabled m = true ∨ getF m TWI_STATUS_MODE ≠ 0) : modelLoad j m = jobFail m E_SYS_MODEL_BUSY :=
  if_pos (by simpa [or_assoc] using h)

variable (hcfg : m.locks.cfg = false) (hidle : anyEnabled m = false) (hmode : getF m TWI_STATUS_MODE = 0)
include hcfg hidle hmode

theorem modelLoad_accepted (h : imageFail (discardModel m) (acceptedSet m) (jobImage j) = none) :
    modelLoad j m = { m := (loadImage (acceptedSet m) (jobImage j) m).1, result := field (jobImage j) 12 4 } := by
  rw [loadImage_accepted h]
  rw [jobImage] at h
  rw [modelLoad, if_neg (by simp [hcfg, hidle, hmode])]
  simp only [loadImage_accepted h, jobImage]

theorem modelLoad_rejected {code sc idx : Nat} (h : imageFail (discardModel m) (acceptedSet m) (jobImage j) = some (code, sc, idx)) :
    modelLoad j m = jobFail (loadImage (acceptedSet m) (jobImage j) m).1 code := by
  rw [loadImage_rejected h]
  rw [jobImage] at h
  rw [modelLoad, if_neg (by simp [hcfg, hidle, hmode])]
  simp only [loadImage_rejected h]

end

/-! ## MODEL_READ (04 R117) -/

/-- A section that the model does not know fails the job. -/
theorem modelRead_badId {j : Job} {s : State} (hw : jobWaits s.m (asJob 0x0011 j) = false) (hf : fetchCheck s.m (asJob 0x0011 j).desc = none)
    (h : j.desc.par 0 = 0 ∨ 14 < j.desc.par 0) : done (runJob 0x0011 modelRead j) s = jobEnds s 0x0011 j s.m E_HIF_BAD_PARAM 0 none := by
  obtain ⟨i, hi⟩ : ∃ i, jobInfo 0x0011 = some i := ⟨_, rfl⟩
  have hin : paramIn s.m (asJob 0x0011 j).desc 0 = decide (0 < j.desc.par 0 ∧ j.desc.par 0 ≤ 14) := rfl
  have hbad : badParam s.m i (asJob 0x0011 j).desc = some 0 :=
    (badParam_eq_some_iff ..).2 ⟨by decide, .inr (by rw [hin, decide_eq_false_iff_not]; omega), fun k hk => absurd hk (Nat.not_lt_zero k)⟩
  exact job_unchecked hw (descCheck_badParam hf hi hbad) (by decide) modelRead

/-- A job that puts bytes out ends with how many of them were taken. -/
theorem job_putsOut {opc : Nat} {eff : Job → Mach → JobRes} {j : Job} {s : State} (h : JobRuns opc j s.m) {l : List Nat}
    (he : eff (asJob opc j) s.m = blockOut (fun _ => l) (asJob opc j) s.m) :
    done (runJob opc eff j) s = jobEnds s opc j (putsOut s.m j l) 0 (min j.desc.dataLen l.length) none :=
  job_ends h (by rw [he, blockOut, dataOut_eq s.m (asJob opc j)]; rfl)

section
variable {j : Job} {m : Mach}

theorem modelRead_noModel (hlo : 1 ≤ j.desc.par 0) (hhi : j.desc.par 0 ≤ 14) (hloaded : m.mould.loaded = false) :
    modelRead j m = jobFail m E_SYS_NO_MODEL := by
  rw [modelRead, if_neg (by omega), if_pos (by simp [hloaded])]

variable (hloaded : m.mould.loaded = true)
include hloaded

theorem modelRead_absent (hlo : 1 ≤ j.desc.par 0) (hhi : j.desc.par 0 ≤ 14) (h : secOf m.mould.image (j.desc.par 0) = none) :
    modelRead j m = { m := m } := by
  rw [modelRead, if_neg (by omega), if_neg (by simp [hloaded]), h]

theorem modelRead_limits (hid : j.desc.par 0 = 12) (h : secOf m.mould.image (j.desc.par 0) ≠ none) :
    modelRead j m = blockOut (fun _ => (limitsRaw m.mould.image).flatMap (recInForce m 8 pwrRecordOffs)) j m := by
  obtain ⟨x, hx⟩ := Option.ne_none_iff_exists'.1 h
  rw [hid] at hx
  simp [modelRead, hid, hloaded, hx, blockOut]

theorem modelRead_schedule (hid : j.desc.par 0 = 13) (h : secOf m.mould.image (j.desc.par 0) ≠ none) :
    modelRead j m = blockOut (fun _ => schedInForce m m.mould.image) j m := by
  obtain ⟨x, hx⟩ := Option.ne_none_iff_exists'.1 h
  rw [hid] at hx
  simp [modelRead, hid, hloaded, hx, blockOut]

theorem modelRead_loops (hid : j.desc.par 0 = 14) (h : secOf m.mould.image (j.desc.par 0) ≠ none) :
    modelRead j m = blockOut (fun _ => (loopsRaw m.mould.image).flatMap (recInForce m 7 axlRecordOffs)) j m := by
  obtain ⟨x, hx⟩ := Option.ne_none_iff_exists'.1 h
  rw [hid] at hx
  simp [modelRead, hid, hloaded, hx, blockOut]

/-- Another section is read from the image in the working store. -/
theorem modelRead_stored (hlo : 1 ≤ j.desc.par 0) (hhi : j.desc.par 0 ≤ 11) (h : secOf m.mould.image (j.desc.par 0) ≠ none) {e : SecEnt}
    (he : (secTable m.mould.image).find? (fun e => e.id == j.desc.par 0) = some e) {m' : Mach} {poison : Bool}
    (hread : logRead (0x10000000 + e.off) (min e.len j.desc.dataLen) 1 m = (m', poison)) : modelRead j m =
      if poison then jobDetail m' E_MEM_POISON_READ (poisonAt m' (0x10000000 + e.off) (min e.len j.desc.dataLen))
      else blockOut (fun _ => rdBytes m' (0x10000000 + e.off) (min e.len j.desc.dataLen)) j m' := by
  obtain ⟨x, hx⟩ := Option.ne_none_iff_exists'.1 h
  rw [modelRead, if_neg (by omega), if_neg (by simp [hloaded]), hx]
  dsimp only
  split
  · omega
  · omega
  · omega
  · rw [he]
    dsimp only
    rw [hread]
    rfl

end

/-! ### Logged reads of memory without words in error (22 R607, R609) -/

section
variable {m : Mach} (hflips : m.memb.flips = []) (a n port : Nat)
include hflips

theorem logRead_clean (h : m.memb.poison = []) : logRead a n port m = (m, false) := by
  simp [logRead, eccRead_clean hflips h]

/-- A read that meets poison tells the first poisoned word; memory and what left for the host stay. -/
theorem logRead_poisoned (h : poisoned m a n = true) : ∃ m', logRead a n port m = (m', true) ∧ poisonAt m' a n = poisonAt m a n ∧
    m'.out = m.out ∧ m'.mem = m.mem := by
  have hfold : (wordsIn a n).foldl (fun m k => decodeWord m k 0 port) m = m := foldl_fixed_of_mem fun k _ => decodeWord_clean hflips k 0 port
  let m₁ := incF (flag m MEM_FLAGS_POISON_READ) MEM_POISON_READ_CNT_CNT 0 1
  have hread : eccRead m a n port = (m₁, true) := by
    rw [eccRead, hfold, if_pos h]
    exact Prod.ext rfl h
  have hlog : Reported m₁ (poisonLog m₁ (poisonAt m₁ a n)) := logNode_reported ..
  refine ⟨poisonLog m₁ (poisonAt m₁ a n), by rw [logRead, hread]; rfl, ?_, hlog.out, hlog.mem⟩
  obtain ⟨⟨_, _, _, _, hrest⟩, -⟩ := hlog
  rw [poisonAt, hrest]
  rfl

end

/-! ## The start of the network (13 R383, R405, 14 R418) -/

/-- STATE of TWI_STATUS takes the state, with an interrupt where it changes. -/
theorem setTwiState_state (m : Mach) {st : Nat} (h : st < 16) : twiState (setTwiState m st) = st := by
  unfold setTwiState
  split
  case isTrue heq => exact heq
  case isFalse => exact (getF_irq (by decide) ..).trans ((getF_setF_self ..).trans (Nat.mod_eq_of_lt h))

/-- The ports lie beyond the registers that it writes. -/
theorem setTwiState_port (m : Mach) (st p : Nat) : getF (setTwiState m st) TWI_PORT_STATE p = getF m TWI_PORT_STATE p := by
  have hplace : 0x400A0880 * 32 ≤ TWI_PORT_STATE.key p := by simp only [Fld.key, Fld.addr, TWI_PORT_STATE]; omega
  have hirq : TWI_PORT_STATE.key p ∉ irqKeys := fun hk => by have := (irqKeys_intc _ hk).2; omega
  unfold setTwiState
  split
  · rfl
  · rw [irq_fieldsBut _ _ _ _ hirq, getF_setF_below (by simp only [Fld.key, Fld.addr, TWI_PORT_STATE, TWI_STATUS_STATE]; omega)]

/-- Ports that leave electrical idle one after another have left it. -/
theorem foldl_ports_state {p : Nat} (l : List Nat) (m : Mach) (h : p ∈ l ∨ getF m TWI_PORT_STATE p = 1) :
    getF (l.foldl (fun m p => setF m TWI_PORT_STATE p 1) m) TWI_PORT_STATE p = 1 := by
  induction l generalizing m with
  | nil => exact h.resolve_left (List.not_mem_nil)
  | cons q l ih =>
    refine ih _ ?_
    by_cases hq : p = q
    · subst hq
      exact .inr (getF_setF_self ..)
    · have hkey : TWI_PORT_STATE.key p ≠ TWI_PORT_STATE.key q := by simp only [Fld.key, Fld.addr, TWI_PORT_STATE]; omega
      exact h.imp (fun hm => (List.mem_cons.1 hm).resolve_left hq) (getF_setF_ne _ _ _ _ _ _ hkey).trans

/-- The register file says which ports the node has. -/
theorem twiPorts_of_regs {m m' : Mach} (h : m'.regs = m.regs) : twiPorts m' = twiPorts m := by
  have hrole : isManager m' = isManager m := congrArg (· == 1) (getF_of_regs h SYS_STRAP_ROLE 0)
  rw [twiPorts, twiPorts, hrole]
  simp only [onF, getF_of_regs h]

/-- Training starts on every port of the node. -/
theorem startTraining_trains (m : Mach) : twiState (startTraining m) = 1 ∧ ∀ p ∈ twiPorts m, getF (startTraining m) TWI_PORT_STATE p = 1 := by
  unfold startTraining
  extract_lets _ m₁ _ m₂
  have hports : twiPorts m₂ = twiPorts m := twiPorts_of_regs (by simp only [m₂, m₁, apply_ite Mach.regs, ite_self])
  refine ⟨setTwiState_state _ (by decide), fun p hp => ?_⟩
  rw [setTwiState_port]
  exact foldl_ports_state _ _ (.inl (hports ▸ hp))

/-- Without a wait for PTP the network starts at once. -/
theorem netBegin_starts {m : Mach} (hstate : twiState m = 0) (hwait : getF m TIME_CTRL_WAIT_MS = 0) : netBegin m = startTraining m := by
  simp [netBegin, hstate, hwait]

/-- A manager whose model says AUTO. -/
def StartsItself (m : Mach) : Prop := isManager m = true ∧ m.mould.loaded = true ∧ getF m TWI_SU_CFG_AUTO = 1

/-- A worker whose firmware runs and that may be in a network (entry 121). -/
def TrainsItself (m : Mach) : Prop :=
  isManager m = false ∧ blockOn m 10 = true ∧ getF m SYS_BOOT_STAT_PHASE = 4 ∧ ¬ (m.mould.loaded = true ∧ m.mould.config = 0)

section
variable {m : Mach}

theorem autoStart_manager (h : StartsItself m) : autoStart m = if (setLocks 7 m).2 = 0 then netBegin (setLocks 7 m).1 else (setLocks 7 m).1 :=
  if_pos (by simp [onF, h.1, h.2.1, h.2.2])

theorem autoStart_worker (h : TrainsItself m) : autoStart m = netBegin m := by
  obtain ⟨hrole, hon, hphase, hnet⟩ := h
  have hmay : (!(m.mould.loaded && m.mould.config == 0)) = true := by
    rw [Bool.not_eq_true', ← Bool.not_eq_true, Bool.and_eq_true, beq_iff_eq]
    exact hnet
  rw [autoStart, if_neg (by simp [hrole]), if_pos (by rw [hmay]; simp [hrole, hon, hphase])]

theorem autoStart_neither (hstart : ¬ StartsItself m) (htrain : ¬ TrainsItself m) : autoStart m = m := by
  rw [autoStart, if_neg (by simpa [StartsItself, onF, and_assoc] using hstart), if_neg (by simpa [TrainsItself, and_assoc] using htrain)]

end

/-! ## Limit inputs (08 R260 to R263) -/

/-- The status bits of the inputs of a direction. -/
def limStat (neg : Bool) : Fld := if neg then RUN_LIM_STAT_N_ACT else RUN_LIM_STAT_P_ACT

/-- MODE of an input. -/
def limMode (n : Nat) (neg : Bool) (m : Mach) : Nat := getF m (if neg then RUN_LIM_CFG_N_MODE else RUN_LIM_CFG_P_MODE) n

/-- Whether an input is active at a level. -/
def limAct (n : Nat) (neg level : Bool) (m : Mach) : Bool := level != (getF m (if neg then RUN_LIM_CFG_N_POL else RUN_LIM_CFG_P_POL) n == 1)

/-- The level of an input as it was last seen. -/
def limRaw (neg level : Bool) (l : LimSt) : LimSt := if neg then { l with rawN := level } else { l with rawP := level }

/-- Whether a change of an input is not accepted: it is off, not held for FILT, not owned, or no change. -/
def limIgnored (n : Nat) (neg level : Bool) (held : Nat) (m : Mach) : Bool :=
  limMode n neg m == 0 || decide (held < getF m RUN_LIM_CFG_FILT n) || (onF m RUN_LIM_CFG_ALT n && !altOwned m n neg) ||
    limAct n neg level m == (getF m (limStat neg)).testBit n

/-- The level is seen now. -/
def limSeen (n : Nat) (neg level : Bool) (m : Mach) : Mach :=
  let m := passTo m m.cyc.now
  { m with lims := sput m.lims n (limRaw neg level (sget m.lims n {})) {} }

/-- The change is accepted: its status bit, its interrupt source, its report. -/
def limTold (n : Nat) (neg act : Bool) (m : Mach) : Mach :=
  axlReport (irq (setSlotBit m (limStat neg) n act) (192 + n)) n (if act then E_RUN_LIMIT_ACTIVE else E_RUN_LIMIT_CLEAR) 7 (b2n neg)

/-- The clamp of a direction. -/
def limSet (neg : Bool) (c : Option Int) (l : LimSt) : LimSt := if neg then { l with neg := c } else { l with pos := c }

/-- What the two inputs of a slot hold. -/
def limHeld (n : Nat) (l : LimSt) (m : Mach) : Mach := { m with lims := sput m.lims n l {} }

/-- Both inputs of a slot are active. -/
def limBothTold (n : Nat) (m : Mach) : Mach :=
  let g := ((slotAxis m n).map (·.group)).getD 0
  let i := ((slotAxis m n).map (·.axis)).getD 0xFFFF
  report m E_RUN_LIMIT_BOTH (reacClass m E_RUN_LIMIT_BOTH i 1) 2 g n i

/-- What the acceptance does to the clamps. -/
def limClamps (n : Nat) (neg act : Bool) (mode : Nat) (m : Mach) : Mach :=
  let l := sget m.lims n {}
  let p := measuredPos m n
  let held := limSet neg (some (clampAt m n mode neg p)) l
  if !act then limHeld n { limSet neg none l with said := false, both := none } m
  else if (getF m (limStat (!neg))).testBit n then limBothTold n (limHeld n { held with both := some p } m)
  else limHeld n held m

/-- Of a slot that is not there, or with the block off, nothing is seen. -/
theorem limitInput_off {n : Nat} {m : Mach} (h : 16 ≤ n ∨ blockOn m 7 = false) (neg level : Bool) (held : Nat) : limitInput n neg level held m = m :=
  if_pos (by rcases h with h | h <;> simp [h])

/-- LIMIT_INPUT_CHANGE sees the level, and accepts it or not. -/
theorem limitInput_eq {n : Nat} {m : Mach} (hn : n < 16) (hb : blockOn m 7 = true) (neg level : Bool) (held : Nat) :
    limitInput n neg level held m =
      if limIgnored n neg level held (limSeen n neg level m) then limSeen n neg level m
      else limClamps n neg (limAct n neg level (limSeen n neg level m)) (limMode n neg (limSeen n neg level m))
        (limTold n neg (limAct n neg level (limSeen n neg level m)) (limSeen n neg level m)) := by
  rw [limitInput, if_neg (by simp [Nat.not_le.2 hn, hb])]
  cases neg <;> rfl

/-! ### What is read of the machine -/

/-- From `m` to `m'` what limit inputs read is as it was: the model, the node, the registers of inputs and encoders but for the status bits of one
direction. -/
structure InputsKept (neg : Bool) (m m' : Mach) : Prop where
  mould : m'.mould = m.mould
  mem : m'.mem = m.mem
  fields : FieldsBut (fun k => k ∈ reportKeys ∨ k ∈ irqKeys ∨ k = (limStat neg).key 0) m m'

namespace InputsKept
variable {neg : Bool} {m m' : Mach} (h : InputsKept neg m m')
include h

/-- Registers of RUN and beyond read as before, but for those status bits. -/
theorem beyond {f : Fld} {i : Nat} (hplace : 0x40060000 * 32 ≤ f.key i) (hne : f.key i ≠ (limStat neg).key 0) : getF m' f i = getF m f i := by
  refine h.fields f i ?_
  rintro (hk | hk | hk)
  · have := reportKeys_low _ hk; omega
  · have := (irqKeys_intc _ hk).2; omega
  · exact hne hk

theorem nodeId : nodeId m' = nodeId m := h.fields _ _ (by cases neg <;> decide)

theorem slotAxis (n : Nat) : slotAxis m' n = slotAxis m n := by rw [Machine.slotAxis, h.mould, h.nodeId, ← Machine.slotAxis]

/-- The measured position is that of the encoder. -/
theorem measuredPos (n : Nat) : measuredPos m' n = measuredPos m n := by
  have hread {f : Fld} (hf : f.blk = 9) (i : Nat) : getF m' f i = getF m f i := by
    have hplace : 0x40070000 * 32 ≤ f.key i := by simp only [Fld.key, Fld.addr, hf]; omega
    have hstat : (limStat neg).key 0 < 0x40070000 * 32 := by cases neg <;> decide
    exact h.beyond (by omega) (by omega)
  simp only [Machine.measuredPos, slotPort, h.slotAxis, get64, encC, hread (f := ENC_XPOS_LO_X) rfl, hread (f := ENC_XPOS_HI_X) rfl,
    hread (f := ENC_POS_LO_C) rfl, hread (f := ENC_POS_HI_C) rfl]

/-- The margin of a slot is set apart from the status. -/
theorem clampAt {n : Nat} (hn : n < 16) (mode : Nat) (p : Int) : clampAt m' n mode neg p = clampAt m n mode neg p := by
  have hplace : 0x40060000 * 32 ≤ RUN_LIM_MARGIN_MARGIN.key n ∧ RUN_LIM_MARGIN_MARGIN.key n < 0x40060B80 * 32 := by
    simp only [Fld.key, Fld.addr, RUN_LIM_MARGIN_MARGIN]; omega
  have hstat : 0x40060B80 * 32 ≤ (limStat neg).key 0 := by cases neg <;> decide
  rw [Machine.clampAt, h.beyond hplace.1 (by omega), ← Machine.clampAt]

/-- The status of the other direction stays. -/
theorem other : getF m' (limStat (!neg)) = getF m (limStat (!neg)) := h.fields _ _ (by cases neg <;> decide)

end InputsKept

/-! ### The level seen -/

section
variable (n : Nat) (neg level : Bool) (m : Mach)

/-- A level that is seen is kept as it was last seen; the registers and what other blocks read stay. -/
theorem limSeen_keeps : (limSeen n neg level m).lims = sput m.lims n (limRaw neg level (sget m.lims n {})) {} ∧
    (limSeen n neg level m).regs = m.regs ∧ (limSeen n neg level m).mem = m.mem ∧ (limSeen n neg level m).hif = m.hif ∧
    (limSeen n neg level m).intc = m.intc ∧ (limSeen n neg level m).out = m.out ∧ (limSeen n neg level m).cyc = m.cyc ∧
    (limSeen n neg level m).mould = m.mould := by
  obtain ⟨a, e, h⟩ := passTo_frame m m.cyc.now
  have hnow : (at' m m.cyc.now).cyc = m.cyc := by simp only [at', Nat.max_self]
  simp only [limSeen, h]
  exact ⟨rfl, rfl, rfl, rfl, rfl, rfl, hnow, rfl⟩

theorem getF_limSeen (f : Fld) (i : Nat) : getF (limSeen n neg level m) f i = getF m f i := getF_of_regs (limSeen_keeps n neg level m).2.1 f i

theorem limMode_limSeen : limMode n neg (limSeen n neg level m) = limMode n neg m := getF_limSeen ..

theorem limAct_limSeen : limAct n neg level (limSeen n neg level m) = limAct n neg level m := by rw [limAct, getF_limSeen, ← limAct]

theorem limSeen_inputsKept : InputsKept neg m (limSeen n neg level m) := by
  obtain ⟨-, hregs, hmem, -, -, -, -, hmould⟩ := limSeen_keeps n neg level m
  exact ⟨hmould, hmem, .of_regs hregs⟩

end

/-! ### The change told -/

theorem Reported.intc {m m' : Mach} (h : Reported m m') : m'.intc = m.intc := by obtain ⟨⟨_, _, _, _, rfl⟩, _⟩ := h; rfl
theorem Reported.lims {m m' : Mach} (h : Reported m m') : m'.lims = m.lims := by obtain ⟨⟨_, _, _, _, rfl⟩, _⟩ := h; rfl
theorem irq_lims (m : Mach) (k : Nat) : (irq m k).lims = m.lims := by obtain ⟨_, _, h⟩ := irq_frame m k; rw [h]

theorem axlReport_reported (m : Mach) (n code cls detail : Nat) : Reported m (axlReport m n code cls detail) ∧
    FieldsBut (· ∈ reportKeys) m (axlReport m n code cls detail) := by
  unfold axlReport
  split
  · exact ⟨report_reported .., report_fieldsBut _ _ _ _ _ _ _⟩
  · exact ⟨report_reported .., report_fieldsBut _ _ _ _ _ _ _⟩

/-- An accepted change shows in its status bit and is pending at its source; inputs read otherwise as before. -/
theorem limTold_tells {n : Nat} (hn : n < 16) (neg act : Bool) (m : Mach) : InputsKept neg m (limTold n neg act m) ∧
    (limTold n neg act m).lims = m.lims ∧ 192 + n ∈ (limTold n neg act m).intc.pend ∧ (getF (limTold n neg act m) (limStat neg)).testBit n = act := by
  let m₁ := setSlotBit m (limStat neg) n act
  let m₂ := irq m₁ (192 + n)
  obtain ⟨hrep, hfields⟩ := axlReport_reported m₂ n (if act then E_RUN_LIMIT_ACTIVE else E_RUN_LIMIT_CLEAR) 7 (b2n neg)
  have hirq := irq_fieldsBut m₁ (192 + n)
  change Reported m₂ (limTold n neg act m) at hrep
  have hpend : 192 + n ∈ m₂.intc.pend := mem_irq ..
  have hbit : getF (limTold n neg act m) (limStat neg) = getF m₁ (limStat neg) :=
    (hfields _ _ (by cases neg <;> decide)).trans (hirq _ _ (by cases neg <;> decide))
  have hwidth : n < (limStat neg).w := by cases neg <;> exact hn
  refine ⟨⟨hrep.mould.trans (irq_mould ..), hrep.mem.trans (irq_mem ..), ?_⟩, hrep.lims.trans (irq_lims ..), hrep.intc ▸ hpend,
    by rw [hbit]; exact testBit_setSlotBit hwidth m act⟩
  have hset : FieldsBut (fun k => k ∈ reportKeys ∨ k ∈ irqKeys ∨ k = (limStat neg).key 0) m m₁ := .setF _ (.inr (.inr rfl))
  exact (hset.trans (hirq.mono fun _ hk => .inr (.inl hk))).trans (hfields.mono fun _ hk => .inl hk)

/-- What an accepted level leaves of what was there before it was seen. -/
theorem limTold_seen {n : Nat} (hn : n < 16) (neg level act : Bool) (m : Mach) : InputsKept neg m (limTold n neg act (limSeen n neg level m)) ∧
    sget (limTold n neg act (limSeen n neg level m)).lims n {} = limRaw neg level (sget m.lims n {}) ∧
    192 + n ∈ (limTold n neg act (limSeen n neg level m)).intc.pend ∧
    (getF (limTold n neg act (limSeen n neg level m)) (limStat neg)).testBit n = act := by
  have hseen := limSeen_inputsKept n neg level m
  obtain ⟨htold, hlims, hpend, hbit⟩ := limTold_tells hn neg act (limSeen n neg level m)
  refine ⟨⟨htold.mould.trans hseen.mould, htold.mem.trans hseen.mem, hseen.fields.trans htold.fields⟩, ?_, hpend, hbit⟩
  rw [hlims, (limSeen_keeps n neg level m).1, sget_sput_self]

/-! ### The clamps (08 R261 to R263) -/

section
variable {n : Nat} {neg : Bool} {mode : Nat} {m : Mach}

theorem limClamps_released : limClamps n neg false mode m = limHeld n { limSet neg none (sget m.lims n {}) with said := false, both := none } m := rfl

theorem limClamps_alone (h : (getF m (limStat (!neg))).testBit n = false) :
    limClamps n neg true mode m = limHeld n (limSet neg (some (clampAt m n mode neg (measuredPos m n))) (sget m.lims n {})) m := by
  simp [limClamps, h]

theorem limClamps_both (h : (getF m (limStat (!neg))).testBit n = true) : limClamps n neg true mode m = limBothTold n (limHeld n
    { limSet neg (some (clampAt m n mode neg (measuredPos m n))) (sget m.lims n {}) with both := some (measuredPos m n) } m) := by
  simp [limClamps, h]

theorem limBothTold_reported (n : Nat) (m : Mach) : Reported m (limBothTold n m) := report_reported ..

end

/-! ### What a change of an input does -/

section
variable {n : Nat} {m : Mach} (hn : n < 16) (hb : blockOn m 7 = true) {neg level : Bool} {held : Nat}
include hn hb

/-- An input that is off, not held for FILT, or unchanged is seen alone. -/
theorem limitInput_ignored (h : limMode n neg m = 0 ∨ held < getF m RUN_LIM_CFG_FILT n ∨ limAct n neg level m = (getF m (limStat neg)).testBit n) :
    limitInput n neg level held m = limSeen n neg level m := by
  rw [limitInput_eq hn hb, if_pos]
  rw [limIgnored, limMode_limSeen, limAct_limSeen, getF_limSeen, getF_limSeen]
  rcases h with h | h | h <;> simp [h]

variable (hmode : limMode n neg m ≠ 0) (hheld : getF m RUN_LIM_CFG_FILT n ≤ held) (halt : getF m RUN_LIM_CFG_ALT n = 0)
  (hchange : limAct n neg level m ≠ (getF m (limStat neg)).testBit n)
include hmode hheld halt hchange

/-- Another one is accepted. -/
theorem limitInput_accepted : limitInput n neg level held m =
    limClamps n neg (limAct n neg level m) (limMode n neg m) (limTold n neg (limAct n neg level m) (limSeen n neg level m)) := by
  rw [limitInput_eq hn hb, limMode_limSeen, limAct_limSeen, if_neg]
  rw [limIgnored, limMode_limSeen, limAct_limSeen, getF_limSeen, getF_limSeen, onF, getF_limSeen]
  simp [hmode, Nat.not_lt.2 hheld, halt, hchange]

/-- Of an input that is released the clamp goes. -/
theorem limitInput_released (hact : limAct n neg level m = false) : ∃ m', limitInput n neg level held m = m' ∧
    (getF m' (limStat neg)).testBit n = false ∧ 192 + n ∈ m'.intc.pend ∧ m'.mem = m.mem ∧
    sget m'.lims n {} = { limSet neg none (limRaw neg level (sget m.lims n {})) with said := false, both := none } := by
  have heq := limitInput_accepted hn hb hmode hheld halt hchange
  rw [hact] at heq
  obtain ⟨hkept, hlims, hpend, hbit⟩ := limTold_seen hn neg level false m
  refine ⟨_, heq.trans limClamps_released, hbit, hpend, hkept.mem, ?_⟩
  rw [hlims]
  exact sget_sput_self ..

variable (hact : limAct n neg level m = true)
include hact

/-- One that is active alone clamps its direction at the measured position. -/
theorem limitInput_clamps (hother : (getF m (limStat (!neg))).testBit n = false) : ∃ m', limitInput n neg level held m = m' ∧
    (getF m' (limStat neg)).testBit n = true ∧ 192 + n ∈ m'.intc.pend ∧ m'.mem = m.mem ∧
    sget m'.lims n {} = limSet neg (some (clampAt m n (limMode n neg m) neg (measuredPos m n))) (limRaw neg level (sget m.lims n {})) := by
  have heq := limitInput_accepted hn hb hmode hheld halt hchange
  rw [hact] at heq
  obtain ⟨hkept, hlims, hpend, hbit⟩ := limTold_seen hn neg level true m
  refine ⟨_, heq.trans (limClamps_alone (by rw [hkept.other, hother])), hbit, hpend, hkept.mem, ?_⟩
  rw [hlims, hkept.measuredPos, hkept.clampAt hn]
  exact sget_sput_self ..

/-- The later of two that are active clamps its own direction, and rules. -/
theorem limitInput_clampsBoth (hother : (getF m (limStat (!neg))).testBit n = true) : ∃ m', limitInput n neg level held m = m' ∧
    (getF m' (limStat neg)).testBit n = true ∧ m'.mem = m.mem ∧
    sget m'.lims n {} = { limSet neg (some (clampAt m n (limMode n neg m) neg (measuredPos m n))) (limRaw neg level (sget m.lims n {})) with
      both := some (measuredPos m n) } := by
  have heq := limitInput_accepted hn hb hmode hheld halt hchange
  rw [hact] at heq
  obtain ⟨hkept, hlims, -, hbit⟩ := limTold_seen hn neg level true m
  have hend := heq.trans (limClamps_both (by rw [hkept.other, hother]))
  have hrep := limBothTold_reported n (limHeld n { limSet neg (some (clampAt (limTold n neg true (limSeen n neg level m)) n (limMode n neg m) neg
    (measuredPos (limTold n neg true (limSeen n neg level m)) n))) (sget (limTold n neg true (limSeen n neg level m)).lims n {}) with
      both := some (measuredPos (limTold n neg true (limSeen n neg level m)) n) } (limTold n neg true (limSeen n neg level m)))
  refine ⟨_, hend, ?_, hrep.mem.trans hkept.mem, ?_⟩
  · rw [hrep.fields _ _ (by cases neg <;> decide)]
    exact hbit
  · rw [hrep.lims, hlims, hkept.measuredPos, hkept.clampAt hn]
    exact sget_sput_self ..

end

/-! ### A section as it is stored -/

/-- A read of some bytes is the begin of a longer one. -/
theorem take_rdBytes (m : Mach) (a n k : Nat) : (rdBytes m a n).take k = rdBytes m a (min k n) := by
  simp only [rdBytes, ← List.map_take, List.take_range]

theorem length_rdBytes (m : Mach) (a n : Nat) : (rdBytes m a n).length = n := by simp [rdBytes]

/-- Of what does not fit the buffer nothing is put out. -/
theorem putsOut_rdBytes (m : Mach) (j : Job) (a n : Nat) : putsOut m j (rdBytes m a (min n j.desc.dataLen)) = putsOut m j (rdBytes m a n) := by
  simp only [putsOut, take_rdBytes, Nat.min_comm n, ← Nat.min_assoc, Nat.min_self]

section
variable {j : Job} {s : State} (hj : JobRuns 0x0011 j s.m) (hloaded : s.m.mould.loaded = true) (hlo : 1 ≤ j.desc.par 0) (hhi : j.desc.par 0 ≤ 11)
  (hthere : secOf s.m.mould.image (j.desc.par 0) ≠ none) {e : SecEnt}
  (he : (secTable s.m.mould.image).find? (fun e => e.id == j.desc.par 0) = some e) (hflips : s.m.memb.flips = [])
include hj hloaded hlo hhi hthere he hflips

/-- MODEL_READ of a section as it stands in the working store. -/
theorem modelRead_gives (hclean : s.m.memb.poison = []) : done (runJob 0x0011 modelRead j) s =
    jobEnds s 0x0011 j (putsOut s.m j (rdBytes s.m (0x10000000 + e.off) e.len)) 0 (min j.desc.dataLen e.len) none := by
  have heff := modelRead_stored (j := asJob 0x0011 j) hloaded hlo hhi hthere he (logRead_clean hflips _ _ _ hclean)
  refine (job_putsOut hj heff).trans ?_
  rw [length_rdBytes]
  change jobEnds s 0x0011 j (putsOut s.m j (rdBytes s.m (0x10000000 + e.off) (min e.len j.desc.dataLen))) 0
    (min j.desc.dataLen (min e.len j.desc.dataLen)) none = _
  rw [putsOut_rdBytes, Nat.min_comm e.len, ← Nat.min_assoc, Nat.min_self]

/-- One that reads poisoned puts nothing out. -/
theorem modelRead_poisoned (hpoison : poisoned s.m (0x10000000 + e.off) (min e.len j.desc.dataLen) = true) :
    ∃ m', done (runJob 0x0011 modelRead j) s =
        jobFails s 0x0011 j m' E_MEM_POISON_READ (poisonAt s.m (0x10000000 + e.off) (min e.len j.desc.dataLen)) ∧
      m'.out.host = s.m.out.host ∧ m'.mem = s.m.mem := by
  obtain ⟨m', hread, hat, hout, hmem⟩ := logRead_poisoned hflips (0x10000000 + e.off) (min e.len j.desc.dataLen) 1 hpoison
  have heff := modelRead_stored (j := asJob 0x0011 j) hloaded hlo hhi hthere he hread
  refine ⟨m', job_fails hj (heff.trans ?_), congrArg _ hout, hmem⟩
  rw [← hat]
  rfl

end

/-! ## The statement -/

/-- Settles O56: MODEL_LOAD by `loadImage_inForce` and `loadImage_rejected`, MODEL_READ by the section read, AUTO_START by who starts, and limit
inputs by `limitInput_eq`. -/
theorem modelsLoadAndLimitsClamp : Obligations.ModelsLoadAndLimitsClamp := by
  intro j n held neg level s m img acc
  refine ⟨fun hj => ⟨fun hbusy => ?_, fun hcfg hidle hmode => ⟨fun hok => ?_, fun code sc idx hfail => ?_⟩⟩,
    fun hw hf hid => (exec_modelRead j s).trans (modelRead_badId hw hf hid), fun hj => ⟨fun hlo hhi hnone => ?_, fun hlo hhi hloaded habsent => ?_,
      fun hloaded hthere => ⟨fun hid => ?_, fun hid => ?_, fun hid => ?_⟩,
      fun hlo hhi hloaded e hthere he hflips => ⟨fun hclean => ?_, fun hpoison => ?_⟩⟩,
    ⟨fun hauto htrain => ?_, fun htrain => ?_, fun hauto hfail => ?_, fun hauto hok => ⟨?_, fun hstate hwait => ?_⟩⟩, fun hoff => ?_,
    fun hn hb => ⟨fun hignored => ?_, fun hmode hheld halt hchange hother => ?_, fun hmode hheld halt hact hwas hother => ?_⟩⟩
  · exact (exec_modelLoad j s).trans (job_ends hj (modelLoad_busy hbusy))
  · obtain ⟨hloaded, himage, hid⟩ := loadImage_inForce hok
    exact ⟨(exec_modelLoad j s).trans (job_ends hj (modelLoad_accepted (j := asJob 0x0010 j) hcfg hidle hmode hok)), hloaded, himage, hid,
      (loadImage_keeps hok).1⟩
  · exact ⟨(exec_modelLoad j s).trans (job_ends hj (modelLoad_rejected (j := asJob 0x0010 j) hcfg hidle hmode hfail)),
      congrArg Prod.fst (loadImage_rejected hfail)⟩
  · exact (exec_modelRead j s).trans (job_ends hj (modelRead_noModel (j := asJob 0x0011 j) hlo hhi hnone))
  · exact (exec_modelRead j s).trans (job_ends hj (modelRead_absent (j := asJob 0x0011 j) hloaded hlo hhi habsent))
  · exact (exec_modelRead j s).trans (job_putsOut hj (modelRead_limits (j := asJob 0x0011 j) hloaded hid hthere))
  · exact (exec_modelRead j s).trans (job_putsOut hj (modelRead_schedule (j := asJob 0x0011 j) hloaded hid hthere))
  · exact (exec_modelRead j s).trans (job_putsOut hj (modelRead_loops (j := asJob 0x0011 j) hloaded hid hthere))
  · exact (exec_modelRead j s).trans (modelRead_gives hj hloaded hlo hhi hthere he hflips hclean)
  · obtain ⟨m', hends, hhost, hmem⟩ := modelRead_poisoned hj hloaded hlo hhi hthere he hflips hpoison
    exact ⟨m', (exec_modelRead j s).trans hends, hhost, hmem⟩
  · exact (exec_autoStart s).trans (done_same (autoStart_neither hauto htrain))
  · exact (exec_autoStart s).trans (done_eq (autoStart_worker htrain))
  · exact (exec_autoStart s).trans (done_eq ((autoStart_manager hauto).trans (if_neg hfail)))
  · exact (exec_autoStart s).trans (done_eq ((autoStart_manager hauto).trans (if_pos hok)))
  · rw [netBegin_starts hstate hwait]
    exact startTraining_trains _
  · exact (exec_limitInputChange ..).trans (done_same (limitInput_off hoff neg level held))
  · obtain ⟨hlims, hregs, hmem, hhif, hintc, hout, hcyc, -⟩ := limSeen_keeps n neg level m
    exact ⟨_, (exec_limitInputChange ..).trans (done_eq (limitInput_ignored hn hb hignored)), hlims, hregs, hmem, hhif, hintc, hout, hcyc⟩
  · have hchange : limAct n neg level m ≠ (getF m (limStat neg)).testBit n := hchange
    have hother : (getF m (limStat (!neg))).testBit n = false := by cases neg <;> exact hother
    cases hact : limAct n neg level m with
    | false =>
      obtain ⟨m', hnext, hbit, hpend, hmem, hset⟩ := limitInput_released hn hb hmode hheld halt hchange hact
      refine ⟨m', (exec_limitInputChange ..).trans (done_eq hnext), hbit.trans hact.symm, hpend, hmem, fun h => ?_, fun _ => ?_⟩
      · exact absurd (hact.symm.trans h) Bool.false_ne_true
      · rw [hset]; cases neg <;> rfl
    | true =>
      obtain ⟨m', hnext, hbit, hpend, hmem, hset⟩ := limitInput_clamps hn hb hmode hheld halt hchange hact hother
      refine ⟨m', (exec_limitInputChange ..).trans (done_eq hnext), hbit.trans hact.symm, hpend, hmem, fun _ => ?_, fun h => ?_⟩
      · rw [hset]; cases neg <;> rfl
      · exact absurd (h.symm.trans hact) Bool.false_ne_true
  · have hact : limAct n neg level m = true := hact
    have hwas : (getF m (limStat neg)).testBit n = false := hwas
    have hother : (getF m (limStat (!neg))).testBit n = true := by cases neg <;> exact hother
    obtain ⟨m', hnext, hbit, hmem, hset⟩ := limitInput_clampsBoth hn hb hmode hheld halt (by rw [hact, hwas]; decide) hact hother
    refine ⟨m', (exec_limitInputChange ..).trans (done_eq hnext), hbit, hmem, ?_⟩
    rw [hset]; cases neg <;> rfl

end Sys2Proof.Machine
end

section
/-! PROOFS. The flags and the ranges of the cores' arithmetic, convergent rounding, the two halves of a complex register, the accumulator
instructions of a core that is ready (19 R541, R542, 05 R158), and the statement on them. -/

namespace Sys2Proof.Machine

/-! ## Saturation (19 R541, R542) -/

theorem sat_eq_heldTo (w : Nat) (v : Int) : sat w v = heldTo w v := by
  have hpos : (0 : Int) < 2 ^ (w - 1) := by positivity
  unfold sat heldTo smax smin
  generalize (2 : Int) ^ (w - 1) = p at *
  split_ifs <;> omega

theorem satHit_iff_outside (w : Nat) (v : Int) : satHit w v = true ↔ outside w v := by
  rw [satHit, decide_eq_true_iff, outside, smax, smin, or_comm, Int.sub_one_lt_iff]

theorem satHit_of_not_outside {w : Nat} {v : Int} (h : ¬ outside w v) : satHit w v = false :=
  Bool.eq_false_iff.2 (mt (satHit_iff_outside w v).1 h)

theorem heldTo_of_not_outside {w : Nat} {v : Int} (h : ¬ outside w v) : heldTo w v = v := by
  unfold outside at h
  unfold heldTo
  omega

theorem satTo_eq (w : Nat) (v : Int) : satTo w v = (heldTo w v, satHit w v) := by rw [satTo, sat_eq_heldTo]

/-- The value of a bit vector lies in the range of its width. -/
theorem not_outside_toInt {w : Nat} (x : BitVec w) : ¬ outside w x.toInt := by
  have hlo := BitVec.le_toInt x
  have hhi := BitVec.toInt_lt (x := x)
  unfold outside
  omega

/-! ## Convergent rounding (05 R158) -/

/-- The quotient stays where the rest is at most one half, and goes up by one from one half on; at one half it is even. -/
theorem roundDiv_cases (a : Int) (d : Nat) :
    (roundDiv a d = a / d ∧ 2 * (a % d) ≤ d ∧ (2 * (a % d) = d → roundDiv a d % 2 = 0)) ∨
    (roundDiv a d = a / d + 1 ∧ (d : Int) ≤ 2 * (a % d) ∧ (2 * (a % d) = d → roundDiv a d % 2 = 0)) := by
  have hrest : a - a / d * d = a % d := by rw [Int.emod_def, mul_comm]
  simp only [roundDiv, hrest]
  split_ifs <;> omega

/-- The rounded quotient is within one half of the exact one, and even where it lies just between two integers. -/
theorem roundDiv_nearest (a : Int) {d : Nat} (hd : 0 < d) :
    (d : Int) * (2 * roundDiv a d - 1) ≤ 2 * a ∧ 2 * a ≤ d * (2 * roundDiv a d + 1) ∧
      (2 * a = d * (2 * roundDiv a d - 1) ∨ 2 * a = d * (2 * roundDiv a d + 1) → roundDiv a d % 2 = 0) := by
  have hsplit : d * (a / d) + a % d = a := Int.mul_ediv_add_emod a d
  have hnonneg : 0 ≤ a % d := Int.emod_nonneg a (by omega)
  have hlt : a % d < d := Int.emod_lt_of_pos a (by omega)
  have hbelow (r : Int) : (d : Int) * (2 * r - 1) = 2 * (d * r) - d := by ring
  have habove (r : Int) : (d : Int) * (2 * r + 1) = 2 * (d * r) + d := by ring
  rw [hbelow, habove]
  rcases roundDiv_cases a d with ⟨hr, hhalf, htie⟩ | ⟨hr, hhalf, htie⟩
  · have hmul : (d : Int) * roundDiv a d = d * (a / d) := by rw [hr]
    omega
  · have hmul : (d : Int) * roundDiv a d = d * (a / d) + d := by rw [hr]; ring
    omega

theorem roundShift_nearest (a : Int) (k : Nat) :
    2 ^ k * (2 * roundShift a k - 1) ≤ 2 * a ∧ 2 * a ≤ 2 ^ k * (2 * roundShift a k + 1) ∧
      (2 * a = 2 ^ k * (2 * roundShift a k - 1) ∨ 2 * a = 2 ^ k * (2 * roundShift a k + 1) → roundShift a k % 2 = 0) := by
  simpa [roundShift] using roundDiv_nearest a (Nat.two_pow_pos k)

/-- A shift right takes back an exact shift left. -/
theorem roundShift_mul_two_pow (v : Int) (k : Nat) : roundShift (v * 2 ^ k) k = v := by
  have hquot : v * 2 ^ k / ((2 ^ k : Nat) : Int) = v := by
    push_cast
    exact Int.mul_ediv_cancel v (by positivity)
  rw [roundShift, roundDiv, hquot]
  simp

theorem moveOut_eq (w k : Nat) (v : Int) : moveOut w k v = (heldTo w (roundShift v k), satHit w (roundShift v k)) := satTo_eq ..

/-! ## Complex values in a register (19 R540, R542) -/

theorem rePart_eq (x : BitVec 64) : rePart x = (x.setWidth 32).toInt := by
  rw [rePart, sgn, BitVec.toInt_eq_toNat_cond, BitVec.toNat_setWidth]
  split_ifs <;> omega

theorem imPart_eq (x : BitVec 64) : imPart x = (x.extractLsb' 32 32).toInt := by
  rw [imPart, sgn, BitVec.toInt_eq_toNat_cond, BitVec.extractLsb'_toNat, Nat.shiftRight_eq_div_pow]
  split_ifs <;> omega

/-- The word of MVA with PART 0 is the imaginary part above the real one. -/
theorem ofNat_unsg_add_eq_append (re im : Int) :
    BitVec.ofNat 64 (unsg 32 re + 2 ^ 32 * unsg 32 im) = BitVec.ofInt 32 im ++ BitVec.ofInt 32 re := by
  apply BitVec.eq_of_toNat_eq
  have hre : unsg 32 re < 2 ^ 32 := by unfold unsg; omega
  have him : unsg 32 im < 2 ^ 32 := by unfold unsg; omega
  have hpack : (BitVec.ofInt 32 im ++ BitVec.ofInt 32 re).toNat = unsg 32 im <<< 32 ||| unsg 32 re := by
    rw [BitVec.toNat_append, BitVec.toNat_ofInt, BitVec.toNat_ofInt, unsg, unsg]
    norm_cast
  rw [hpack, ← Nat.shiftLeft_add_eq_or_of_lt hre, BitVec.toNat_ofNat, Nat.shiftLeft_eq]
  omega

/-- A register is its upper half above its lower half. -/
theorem halves_append (x : BitVec 64) : BitVec.ofInt 32 (x.extractLsb' 32 32).toInt ++ BitVec.ofInt 32 (x.setWidth 32).toInt = x := by
  rw [BitVec.ofInt_toInt, BitVec.ofInt_toInt, BitVec.setWidth_eq_extractLsb' (by decide),
    BitVec.extractLsb'_append_extractLsb'_eq_extractLsb' (by decide), BitVec.extractLsb'_eq_self]

/-! ## Registers and flags -/

theorem ovfIf_eq (k : CoreSt) (h : Bool) : ovfIf k h = withOvf k (k.b.ovf || h) := by cases h <;> simp [ovfIf, withOvf]
theorem aovfIf_eq (k : CoreSt) (h : Bool) : aovfIf k h = withAovf k (k.b.aovf || h) := by cases h <;> simp [aovfIf, withAovf]

theorem withOvf_self (k : CoreSt) : withOvf k k.b.ovf = k := rfl

@[simp] theorem xw_ovf (k : CoreSt) (i : Nat) (v : BitVec 64) : (xw k i v).b.ovf = k.b.ovf := by unfold xw; split <;> rfl

@[simp] theorem ar_aw_self (k : CoreSt) (i : Nat) (v : AccV) : ar (aw k i v) i = v := sget_sput_self ..
@[simp] theorem ar_withAovf (k : CoreSt) (o : Bool) (i : Nat) : ar (withAovf k o) i = ar k i := rfl
@[simp] theorem ar_advance (k : CoreSt) (i : Nat) : ar (advance k) i = ar k i := by unfold advance; dsimp only; split <;> rfl

@[simp] theorem sr_aw (k : CoreSt) (i j : Nat) (v : AccV) : sr (aw k i v) j = sr k j := rfl
@[simp] theorem sr_withAovf (k : CoreSt) (o : Bool) (i : Nat) : sr (withAovf k o) i = sr k i := rfl
@[simp] theorem sr_advance (k : CoreSt) (i : Nat) : sr (advance k) i = sr k i := by unfold advance; dsimp only; split <;> rfl

/-! ## The instructions of this statement -/

theorem exec_aclr (c a : Nat) (s : State) : exec (.aclr c a) s = done (regOp c (fun q => aw q a { re := 0, im := 0 })) s := rfl
theorem exec_aadd (c a b : Nat) (s : State) :
    exec (.aadd c a b) s = done (accOp c a (fun q => { re := (ar q a).re + (ar q b).re, im := (ar q a).im + (ar q b).im })) s := rfl
theorem exec_asub (c a b : Nat) (s : State) :
    exec (.asub c a b) s = done (accOp c a (fun q => { re := (ar q a).re - (ar q b).re, im := (ar q a).im - (ar q b).im })) s := rfl
theorem exec_aneg (c a : Nat) (s : State) :
    exec (.aneg c a) s = done (accOp c a (fun q => { re := -(ar q a).re, im := -(ar q a).im })) s := rfl
theorem exec_aswap (c a : Nat) (s : State) :
    exec (.aswap c a) s = done (regOp c (fun q => aw q a { re := (ar q a).im, im := (ar q a).re })) s := rfl
theorem exec_mva (c rd a sc part : Nat) (s : State) : exec (.mva c rd a sc part) s = done (runCore c (fun k m =>
    if 3 ≤ part then .fault 1 (if c = 32 then mvaWord rd a sc part else 0) m
    else .seq (ovfIf (xw k rd (mvaVal k a sc part).1) (mvaVal k a sc part).2) m)) s := rfl
theorem exec_ald (c a sc rd : Nat) (s : State) : exec (.ald c a sc rd) s = done (accOp c a (fun q =>
    { re := ((xr q rd).setWidth 32).toInt * 2 ^ (sr q sc).toNat, im := ((xr q rd).extractLsb' 32 32).toInt * 2 ^ (sr q sc).toNat })) s := by
  simp only [← rePart_eq, ← imPart_eq]
  rfl

/-! ## What they come to on a core that is ready -/

section
variable {c : Nat} {s : State} (hready : CoreReady s.m c)
include hready

theorem regOp_retires (f : CoreSt → CoreSt) : done (regOp c f) s = retires s c (f (regsAt s.m c)) (atInstr s.m c) :=
  done_eq (regOp_ready hready f)

/-- An accumulator operation computes both parts, each held in the 80-bit range. -/
theorem accOp_writesAcc {a : Nat} {f : CoreSt → AccV} {i : Instr} (hi : exec i s = done (accOp c a f) s) :
    writesAcc s c i (regsAt s.m c) a (f (regsAt s.m c)).re (f (regsAt s.m c)).im := by
  refine ⟨(regsAt s.m c).b.aovf || (satHit 80 (f (regsAt s.m c)).re || satHit 80 (f (regsAt s.m c)).im), ?_, ?_⟩
  · refine hi.trans ((regOp_retires hready _).trans ?_)
    simp only [sat80, satTo_eq, aovfIf_eq]
    rfl
  · simp only [Bool.or_eq_true, satHit_iff_outside]

/-- MVA with PART 0 to 2 writes the value selected; OVF is set by a saturation and else kept. -/
theorem mva_retires (rd a sc : Nat) {part : Nat} (hpart : part < 3) : exec (.mva c rd a sc part) s = retires s c
    (withOvf (xw (regsAt s.m c) rd (mvaVal (regsAt s.m c) a sc part).1) ((regsAt s.m c).b.ovf || (mvaVal (regsAt s.m c) a sc part).2))
    (atInstr s.m c) := by
  rw [exec_mva, ← xw_ovf (regsAt s.m c) rd (mvaVal (regsAt s.m c) a sc part).1, ← ovfIf_eq]
  exact done_eq (by rw [runCore_ready hready, if_neg (by omega)])

/-- MVA with PART 0 to 2 writes the value that PART selects; OVF is set where it has saturated. -/
theorem mva_moves (rd : Nat) {a sc part : Nat} (hpart : part < 3) {v : BitVec 64} {hit : Bool} {saturates : Prop}
    (hval : mvaVal (regsAt s.m c) a sc part = (v, hit)) (hhit : hit = true ↔ saturates) :
    ∃ o : Bool, exec (.mva c rd a sc part) s = retires s c (withOvf (xw (regsAt s.m c) rd v) o) (atInstr s.m c) ∧
      (o = true ↔ (regsAt s.m c).b.ovf = true ∨ saturates) := by
  refine ⟨(regsAt s.m c).b.ovf || hit, ?_, by rw [Bool.or_eq_true, hhit]⟩
  rw [mva_retires hready rd a sc hpart, hval]

theorem mva_illegal (rd a sc : Nat) :
    exec (.mva c rd a sc 3) s = faults s c 1 (if c = 32 then mvaWord rd a sc 3 else 0) (atInstr s.m c) := by
  rw [exec_mva]
  exact done_eq (by rw [runCore_ready hready, if_pos le_rfl])

end

/-! ## The result that PART selects (19 R542) -/

section
variable (k : CoreSt) (a sc : Nat)

theorem mvaVal_packed : mvaVal k a sc 0 =
    (BitVec.ofInt 32 (heldTo 32 (roundShift (ar k a).im (sr k sc).toNat)) ++ BitVec.ofInt 32 (heldTo 32 (roundShift (ar k a).re (sr k sc).toNat)),
     satHit 32 (roundShift (ar k a).re (sr k sc).toNat) || satHit 32 (roundShift (ar k a).im (sr k sc).toNat)) := by
  simp only [mvaVal, moveOut_eq, ofNat_unsg_add_eq_append]

theorem mvaVal_re : mvaVal k a sc 1 =
    (BitVec.ofInt 64 (heldTo 64 (roundShift (ar k a).re (sr k sc).toNat)), satHit 64 (roundShift (ar k a).re (sr k sc).toNat)) := by
  simp only [mvaVal, moveOut_eq]

theorem mvaVal_im : mvaVal k a sc 2 =
    (BitVec.ofInt 64 (heldTo 64 (roundShift (ar k a).im (sr k sc).toNat)), satHit 64 (roundShift (ar k a).im (sr k sc).toNat)) := by
  simp only [mvaVal, moveOut_eq]

/-- What ALD has put into an accumulator moves back as it was and saturates nowhere. -/
theorem mvaVal_loaded (x : BitVec 64) (o : Bool) : mvaVal (advance (withAovf (aw k a
    { re := (x.setWidth 32).toInt * 2 ^ (sr k sc).toNat, im := (x.extractLsb' 32 32).toInt * 2 ^ (sr k sc).toNat }) o)) a sc 0 = (x, false) := by
  rw [mvaVal_packed, ar_advance, ar_withAovf, ar_aw_self, sr_advance, sr_withAovf, sr_aw, roundShift_mul_two_pow, roundShift_mul_two_pow,
    heldTo_of_not_outside (not_outside_toInt _), heldTo_of_not_outside (not_outside_toInt _), halves_append,
    satHit_of_not_outside (not_outside_toInt _), satHit_of_not_outside (not_outside_toInt _), Bool.or_false]

end

/-! ## The statement -/

/-- Settles O8: `accOp_writesAcc` for the sums and ALD, `mva_moves` with `roundShift_nearest` for MVA, and `mvaVal_loaded` for the way
back. -/
theorem accumulatorInstructions : Obligations.AccumulatorInstructions := by
  refine ⟨fun c a b s hready => ?_, fun c rd a sc s hready => ?_, fun c rd a sc s hready => ⟨?_, ?_⟩⟩
  · exact ⟨(exec_aclr ..).trans (regOp_retires hready _), (accOp_writesAcc hready (exec_aadd ..) :), (accOp_writesAcc hready (exec_asub ..) :),
      (accOp_writesAcc hready (exec_aneg ..) :), (exec_aswap ..).trans (regOp_retires hready _)⟩
  · exact ⟨_, _, roundShift_nearest (ar (regsAt s.m c) a).re _, roundShift_nearest (ar (regsAt s.m c) a).im _,
      mva_moves hready rd (by decide) (mvaVal_packed ..) (by simp only [Bool.or_eq_true, satHit_iff_outside]),
      mva_moves hready rd (by decide) (mvaVal_re ..) (satHit_iff_outside ..),
      mva_moves hready rd (by decide) (mvaVal_im ..) (satHit_iff_outside ..), _, mva_illegal hready rd a sc⟩
  · exact (accOp_writesAcc hready (exec_ald ..) :)
  · intro hre him t o ht hregs r
    have hval : mvaVal (regsAt t.m c) a sc 0 = (xr (regsAt s.m c) rd, false) := by
      rw [hregs, heldTo_of_not_outside hre, heldTo_of_not_outside him, mvaVal_loaded]
    rw [mva_retires ht r a sc (by decide), hval, Bool.or_false, ← xw_ovf (regsAt t.m c) r (xr (regsAt s.m c) rd), withOvf_self, writesRd]

end Sys2Proof.Machine
end

section
/-! PROOFS. The motion jobs of the Runner: what one that is accepted asks of the next snapshot, and what one that is turned away answers (07 R201 to
R235); gears (08 R243, R244, R248, R254), the shared start and its line (08 R255 to R257), and the statement on them. -/

namespace Sys2Proof.Machine

/-! ## The commands of this statement -/

theorem exec_movePtp (j : Job) (s : State) : exec (.movePtp j) s = done (runJob 0x0601 movePtp j) s := rfl
theorem exec_movePath (j : Job) (s : State) : exec (.movePath j) s = done (runJob 0x0602 movePath j) s := rfl
theorem exec_moveSpline (j : Job) (s : State) : exec (.moveSpline j) s = done (runJob 0x0603 moveSpline j) s := rfl
theorem exec_streamBind (j : Job) (s : State) : exec (.streamBind j) s = done (runJob 0x0604 streamBind j) s := rfl
theorem exec_feedHold (j : Job) (s : State) : exec (.feedHold j) s = done (runJob 0x0605 feedHold j) s := rfl
theorem exec_resumeJob (j : Job) (s : State) : exec (.resumeJob j) s = done (runJob 0x0606 resumeGroups j) s := rfl
theorem exec_overrideJob (j : Job) (s : State) : exec (.overrideJob j) s = done (runJob 0x0607 overrideGroup j) s := rfl
theorem exec_stopJob (j : Job) (s : State) : exec (.stopJob j) s = done (runJob 0x0608 stopGroups j) s := rfl
theorem exec_gearSet (j : Job) (s : State) : exec (.gearSet j) s = done (runJob 0x0609 gearSet j) s := rfl
theorem exec_gearChangeAt (j : Job) (s : State) : exec (.gearChangeAt j) s = done (runJob 0x060A gearChangeAt j) s := rfl
theorem exec_sharedStart (j : Job) (s : State) : exec (.sharedStart j) s = done (runJob 0x060B sharedStart j) s := rfl
theorem exec_triggerBusEdge (l : Nat) (falling : Bool) (t : Nat) (own : Bool) (s : State) :
    exec (.triggerBusEdge l falling t own) s = done (busEdge l falling t own) s := rfl

/-! ## What a motion job changes -/

/-- From `m` to `m'` registers and what the Runner keeps alone have changed. -/
def RunOnly (m m' : Mach) : Prop := ∃ r x, m' = { m with regs := r, run := x }

namespace RunOnly
variable {m m' m'' : Mach}

theorem refl : RunOnly m m := ⟨_, _, rfl⟩
theorem trans (h : RunOnly m m') (h' : RunOnly m' m'') : RunOnly m m'' := by
  obtain ⟨r, x, rfl⟩ := h
  obtain ⟨r', x', rfl⟩ := h'
  exact ⟨r', x', rfl⟩
theorem of_regsOnly (h : RegsOnly m m') : RunOnly m m' := by
  obtain ⟨r, rfl⟩ := h
  exact ⟨r, m.run, rfl⟩
/-- What the Runner keeps changed. -/
theorem of_run (x : RunSt) : RunOnly m { m with run := x } := ⟨m.regs, x, rfl⟩

theorem mem (h : RunOnly m m') : m'.mem = m.mem := by obtain ⟨r, x, rfl⟩ := h; rfl
theorem locks (h : RunOnly m m') : m'.locks = m.locks := by obtain ⟨r, x, rfl⟩ := h; rfl
theorem mould (h : RunOnly m m') : m'.mould = m.mould := by obtain ⟨r, x, rfl⟩ := h; rfl
theorem cyc (h : RunOnly m m') : m'.cyc = m.cyc := by obtain ⟨r, x, rfl⟩ := h; rfl
end RunOnly

@[simp] theorem grp_addAct (m : Mach) (a : Act) (g : Nat) : grp (addAct m a) g = grp m g := rfl

theorem addAct_runOnly (m : Mach) (a : Act) : RunOnly m (addAct m a) := .of_run _

/-! ### A cause latched (07 R226) -/

section
variable (m : Mach) (u : GroupRec) (c : Nat)

/-- A cause latched is noted in the group's plan, and the plan shown. -/
theorem latchCause_regsOnly :
    RegsOnly (setGrp m u.group { grp m u.group with pend := (grp m u.group).pend ||| 2 ^ c, rb := 1 }) (latchCause m u c) := showGrp_regsOnly ..

theorem latchCause_runOnly : RunOnly m (latchCause m u c) := .trans (.of_run _) (.of_regsOnly (latchCause_regsOnly m u c))
theorem latchCause_acts : (latchCause m u c).run.acts = m.run.acts := by rw [(latchCause_regsOnly m u c).run]; rfl
theorem latchCause_start : (latchCause m u c).run.start = m.run.start := by rw [(latchCause_regsOnly m u c).run]; rfl
theorem latchCause_pend : (grp (latchCause m u c) u.group).pend = (grp m u.group).pend ||| 2 ^ c := by
  rw [(latchCause_regsOnly m u c).grp, grp_setGrp_self]

end

/-! ### The registers that show a plan -/

/-- A field that lies in a register set of 32 bytes as one of those that show a plan does in the first. -/
def planKey (k : Nat) : Prop := ∃ f ∈ RUN_STATUS_ACTIVE :: RUN_STATUS_PENDING :: RUN_STATUS_REFILL :: groupFields, k % 1024 = f.key 0 % 1024

/-- A field of a register set of 32 bytes lies in each as in the first. -/
theorem Fld.key_mod {f : Fld} (h : f.stride = 0x20) (i : Nat) : f.key i % 1024 = f.key 0 % 1024 := by
  simp only [Fld.key, Fld.addr, h]
  omega

theorem planKey_of_group {f : Fld} (hf : f ∈ groupFields) (g : Nat) : planKey (f.key g) :=
  ⟨f, List.mem_cons_of_mem _ (List.mem_cons_of_mem _ (List.mem_cons_of_mem _ hf)), Fld.key_mod (groupFields_place f hf).2.2.1 g⟩

/-- A field of groups that lies in the first set as none of those does lies so in every set. -/
theorem not_planKey {f : Fld} (hs : f.stride = 0x20)
    (h : ∀ g ∈ RUN_STATUS_ACTIVE :: RUN_STATUS_PENDING :: RUN_STATUS_REFILL :: groupFields, f.key 0 % 1024 ≠ g.key 0 % 1024) (i : Nat) :
    ¬ planKey (f.key i) := by
  rintro ⟨g, hg, heq⟩
  exact h g hg ((Fld.key_mod hs i).symm.trans heq)

/-- Fields written one after another. -/
theorem FieldsBut.thenSetF {P : Nat → Prop} {m m' : Mach} (h : FieldsBut P m m') {f : Fld} {i v : Nat} (hk : P (f.key i)) :
    FieldsBut P m (Machine.setF m' f i v) := h.trans (.setF v hk)

/-- Showing a plan writes those registers alone. -/
theorem showGrp_fieldsBut (m : Mach) (u : GroupRec) : FieldsBut planKey m (showGrp m u) := by
  have hkey : ∀ g, ∀ f ∈ groupFields, planKey (f.key g) := fun g f hf => planKey_of_group hf g
  unfold showGrp
  extract_lets x d used m₁ _ _ m₂ xs m₃
  have h₁ : FieldsBut planKey m m₁ := by
    refine foldl_related (fun _ => .refl) .trans (fun g _ m => ?_) m
    refine .thenSetF (.thenSetF (.thenSetF (.thenSetF (.thenSetF (.thenSetF (.thenSetF (.thenSetF (.thenSetF (.thenSetF (.thenSetF (.thenSetF
      (.thenSetF .refl ?_) ?_) ?_) ?_) ?_) ?_) ?_) ?_) ?_) ?_) ?_) ?_) ?_ <;> exact hkey _ _ (by decide)
  have h₂ : FieldsBut planKey m m₂ := by
    refine .ite h₁ (.thenSetF (.thenSetF (.thenSetF (.thenSetF (.thenSetF (.thenSetF h₁ ?_) ?_) ?_) ?_) ?_) ?_) <;> exact hkey _ _ (by decide)
  refine .thenSetF (.thenSetF (.thenSetF h₂ ?_) ?_) ?_
  · exact ⟨RUN_STATUS_ACTIVE, by simp, rfl⟩
  · exact ⟨RUN_STATUS_PENDING, by simp, rfl⟩
  · exact ⟨RUN_STATUS_REFILL, by simp, rfl⟩

theorem latchCause_fieldsBut (m : Mach) (u : GroupRec) (c : Nat) : FieldsBut planKey m (latchCause m u c) :=
  .trans (.of_regs rfl) (showGrp_fieldsBut (setGrp m u.group { grp m u.group with pend := (grp m u.group).pend ||| 2 ^ c, rb := 1 }) u)

/-! ## Jobs accepted (07 R204) -/

/-- A motion job is accepted: it completes with the cycle of effect once that cycle is committed, `acts` holds of what it asks of the next
snapshot, and `more` of the machine that it leaves. -/
def Asks (s : State) (opc : Nat) (j : Job) (out : Out) (acts : List Act → Prop) (more : Mach → Prop) : Prop :=
  ∃ m' l, out = jobEnds s opc j m' 0 (effectCycle s.m % 2 ^ 32) (some (effectCycle s.m)) ∧ m'.run.acts = s.m.run.acts ++ l ∧
    acts l ∧ more m' ∧ m'.mem = s.m.mem ∧ m'.locks = s.m.locks ∧ m'.mould = s.m.mould ∧ m'.cyc = s.m.cyc

section
variable {opc : Nat} {eff : Job → Mach → JobRes} {j : Job} {s : State} (h : JobRuns opc j s.m) {m' : Mach}
include h

/-- An accepted job ends with the cycle of effect as it was, whatever it reports then. -/
theorem job_accepted {m₁ : Mach} (he : eff (asJob opc j) s.m = { accepted m₁ with m := m' }) (hcyc : m₁.cyc = s.m.cyc) :
    done (runJob opc eff j) s = jobEnds s opc j m' 0 (effectCycle s.m % 2 ^ 32) (some (effectCycle s.m)) := by
  have heffect : effectCycle m₁ = effectCycle s.m := by rw [effectCycle, effectCycle, hcyc]
  rw [← heffect]
  exact job_ends h he

theorem job_asks (he : eff (asJob opc j) s.m = accepted m') (hrun : RunOnly s.m m') {l : List Act}
    (hl : m'.run.acts = s.m.run.acts ++ l) {acts : List Act → Prop} {more : Mach → Prop} (hacts : acts l) (hmore : more m') :
    Asks s opc j (done (runJob opc eff j) s) acts more :=
  ⟨m', l, job_accepted h he hrun.cyc, hl, hacts, hmore, hrun.mem, hrun.locks, hrun.mould, hrun.cyc⟩

end

/-- What a job asks is added, and its cause of a unit latched where it is an invalidation (07 R226). -/
def askedOf (m : Mach) (a : Act) (u : GroupRec) (c : Nat) (breaks : Bool) : Mach :=
  if breaks then latchCause (addAct m a) u c else addAct m a

section
variable (m : Mach) (a : Act) (u : GroupRec) (c : Nat) (breaks : Bool)

theorem askedOf_runOnly : RunOnly m (askedOf m a u c breaks) := by
  unfold askedOf
  split
  · exact (addAct_runOnly m a).trans (latchCause_runOnly ..)
  · exact addAct_runOnly m a

theorem askedOf_acts : (askedOf m a u c breaks).run.acts = m.run.acts ++ [a] := by
  unfold askedOf
  split
  · exact latchCause_acts ..
  · rfl

theorem askedOf_pend : (grp (askedOf m a u c breaks) u.group).pend = (grp m u.group).pend ||| if breaks then 2 ^ c else 0 := by
  unfold askedOf
  split
  · exact latchCause_pend ..
  · exact (Nat.or_zero _).symm

end

/-- A job that asks one thing of a unit. -/
theorem job_asksOne {opc : Nat} {eff : Job → Mach → JobRes} {j : Job} {s : State} (h : JobRuns opc j s.m)
    {a : Act} {u : GroupRec} {c : Nat} {breaks : Bool} (he : eff (asJob opc j) s.m = accepted (askedOf s.m a u c breaks))
    {acts : List Act → Prop} {more : Mach → Prop} (hacts : acts [a])
    (hmore : ∀ m', (grp m' u.group).pend = (grp s.m u.group).pend ||| (if breaks then 2 ^ c else 0) → more m') :
    Asks s opc j (done (runJob opc eff j) s) acts more :=
  job_asks h he (askedOf_runOnly ..) (askedOf_acts ..) hacts (hmore _ (askedOf_pend ..))

/-! ## The group of a job (07 R202) -/

section
variable {m : Mach} {g : GroupRec} (hset : g.set = 0xFF)
include hset

/-- A group of no set is planned by itself. -/
theorem leadOf_single : leadOf m g = g.group := by simp [leadOf, setOf, hset]

theorem groupBusy_single : groupBusy m g = jobDetail m E_RUN_GROUP_BUSY (groupState (grp m g.group).com) := by
  rw [groupBusy, leadOf_single hset]

/-- A job takes a group of no set that is of its kinds. -/
theorem moveGroup_single {j : Job} (hg : groupRec m (j.desc.par 0) = some g) {kinds : List Nat} (hk : g.kind ∈ kinds) (path : Bool) :
    moveGroup m j kinds path = .inr g := by simp [moveGroup, hg, hset, hk]

end

theorem group_of_groupRec {m : Mach} {k : Nat} {g : GroupRec} (h : groupRec m k = some g) : g.group = k := by
  simpa using List.find?_some h

/-! ## Segments of MOVE jobs (07 R203, R209) -/

/-- Giving descriptors leaves everything else of the segments. -/
theorem giveDescs_map {β : Type} {p : Seg → β} (hp : ∀ s ix, p { s with ix := ix } = p s) (n : Nat → Nat) (f : List Nat) (l : List Seg) :
    (giveDescs n f l).map p = l.map p := by
  induction l generalizing f with
  | nil => rfl
  | cons s r ih => rw [giveDescs, List.map_cons, List.map_cons, hp, ih]

/-- Where enough descriptors are free, every segment has its own. -/
theorem giveDescs_ix (n : Nat → Nat) (f : List Nat) (l : List Seg) (h : (l.map (fun s => n s.item)).sum ≤ f.length) :
    ((giveDescs n f l).flatMap (·.ix)).length = (l.map (fun s => n s.item)).sum := by
  induction l generalizing f with
  | nil => rfl
  | cons s r ih =>
    rw [List.map_cons, List.sum_cons] at h ⊢
    have hrest := ih (f.drop (n s.item)) (by rw [List.length_drop]; omega)
    rw [giveDescs, List.flatMap_cons, List.length_append, hrest, List.length_take, Nat.min_eq_left (by omega)]

/-- The segments of a MOVE job, numbered by SEG_ID, the first and the last of them marked. -/
def numberedSegs (d : Desc) (l : List Seg) : List Seg :=
  l.zipIdx.map (fun s =>
    { s.1 with sid := d.par 1 / 65536, first := s.2 == 0, last := s.2 + 1 == l.length, wait := (d.par 1).testBit 2 && s.2 == 0 })

/-- Numbering leaves what does not number. -/
theorem numberedSegs_map {β : Type} {p : Seg → β} (hp : ∀ s i a b w, p { s with sid := i, first := a, last := b, wait := w } = p s)
    (d : Desc) (l : List Seg) : (numberedSegs d l).map p = l.map p := by
  rw [numberedSegs, List.map_map]
  calc _ = l.zipIdx.map (p ∘ Prod.fst) := List.map_congr_left fun x _ => hp x.1 ..
    _ = l.map p := by rw [← List.map_map, List.zipIdx_map_fst]

/-- The segments as they join the queue: of the first, WAIT_START is noted. -/
theorem segs_taken (per : Nat → Nat) (f : List Nat) (d : Desc) {l : List Seg} (hne : l ≠ [])
    (hfree : (l.map (fun s => per s.item)).sum ≤ f.length) :
    let q := giveDescs per f (numberedSegs d l)
    (∀ x ∈ q, x.sid = d.par 1 / 65536) ∧ (q.head?.map (·.wait)) = some ((d.par 1).testBit 2) ∧
      (q.flatMap (·.ix)).length = (l.map (fun s => per s.item)).sum := by
  have hitem : (numberedSegs d l).map (fun s => per s.item) = l.map (fun s => per s.item) := numberedSegs_map (fun _ _ _ _ _ => rfl) d l
  refine ⟨?_, ?_, ?_⟩
  · have hsid : (giveDescs per f (numberedSegs d l)).map (·.sid) = (numberedSegs d l).map (·.sid) := giveDescs_map (fun _ _ => rfl) ..
    intro x hx
    have hmem := hsid ▸ List.mem_map_of_mem (f := Seg.sid) hx
    simp only [numberedSegs, List.map_map, List.mem_map, Function.comp_apply] at hmem
    obtain ⟨-, -, heq⟩ := hmem
    exact heq.symm
  · rw [← List.head?_map, giveDescs_map (p := (·.wait)) (fun _ _ => rfl)]
    cases l with
    | nil => exact absurd rfl hne
    | cons s r => simp [numberedSegs]
  · rw [giveDescs_ix _ _ _ (hitem ▸ hfree), hitem]

/-- One segment stays one, of its type and interval. -/
theorem giveDescs_one (per : Nat → Nat) (f : List Nat) (d : Desc) (x : Seg) :
    ∃ y, giveDescs per f (numberedSegs d [x]) = [y] ∧ y.typ = x.typ ∧ y.interval = x.interval := ⟨_, rfl, rfl, rfl⟩

/-! ## MOVE jobs enter their segments (07 R203, R209, R226) -/

/-- What a MOVE job asks. -/
def moveAct (d : Desc) (u : GroupRec) (q : List Seg) : Act :=
  { kind := 1, grp := u.group, data := [if d.par 1 % 4 = 1 then 1 else 0], segs := q }

section
variable (m : Mach) (u : GroupRec) (j : Job) (per : Nat → Nat) (l : List Seg)

theorem foldl_descs : l.foldl (fun n s => n + per s.item) 0 = (l.map (fun s => per s.item)).sum := by
  rw [List.sum_eq_foldl_nat, List.foldl_map]

/-- Without enough free descriptors the job is turned away; those given to jobs that wait for the snapshot are not free (R203). -/
theorem enterMove_full (h : (freeDescs m u).length < (l.map (fun s => per s.item)).sum) :
    enterMove m u j per l = jobDetail m E_RUN_QUEUE_FULL (freeDescs m u).length := by
  unfold enterMove
  extract_lets free_ need
  rw [if_pos (by rw [show need = _ from foldl_descs per l]; exact h)]

/-- With enough of them its segments wait for the next snapshot; with REPLACE it is an invalidation. -/
theorem enterMove_taken (h : (l.map (fun s => per s.item)).sum ≤ (freeDescs m u).length) :
    ∃ breaks : Bool, (j.desc.par 1 % 4 = 1 → breaks = true) ∧
      enterMove m u j per l = accepted (askedOf m (moveAct j.desc u (giveDescs per (freeDescs m u) (numberedSegs j.desc l))) u 0 breaks) := by
  unfold enterMove
  extract_lets free_ need w n l₁ l₂ rep breaks m₁
  rw [if_neg (by rw [show need = _ from foldl_descs per l]; exact Nat.not_lt.2 h)]
  refine ⟨breaks, fun hrep => ?_, ?_⟩
  · simp [breaks, rep, isReplace, hrep]
  · have hact : m₁ = addAct m (moveAct j.desc u l₂) := by simp [m₁, moveAct, rep, isReplace]
    exact hact ▸ rfl

end

/-- A MOVE job with enough free descriptors gives `descs` of them to the segments of which `segs` holds; without, it is turned away. -/
def Moves (s : State) (opc : Nat) (j : Job) (g : GroupRec) (out : Out) (descs : Nat) (segs : List Seg → Prop) : Prop :=
  (descs ≤ (freeDescs s.m g).length → Asks s opc j out
    (fun l => ∃ q, l = [moveAct j.desc g q] ∧ segs q ∧ (∀ x ∈ q, x.sid = j.desc.par 1 / 65536) ∧
      (q.head?.map (·.wait)) = some ((j.desc.par 1).testBit 2) ∧ (q.flatMap (·.ix)).length = descs)
    (fun m' => j.desc.par 1 % 4 = 1 → (grp m' g.group).pend = (grp s.m g.group).pend ||| 1)) ∧
  ((freeDescs s.m g).length < descs → out = jobFails s opc j s.m E_RUN_QUEUE_FULL (freeDescs s.m g).length)

theorem job_moves {opc : Nat} {eff : Job → Mach → JobRes} {j : Job} {s : State} (h : JobRuns opc j s.m)
    {g : GroupRec} {per : Nat → Nat} {l : List Seg} (he : eff (asJob opc j) s.m = enterMove s.m g (asJob opc j) per l) (hne : l ≠ [])
    {descs : Nat} (hneed : (l.map (fun s => per s.item)).sum = descs)
    {segs : List Seg → Prop} (hsegs : ∀ f, segs (giveDescs per f (numberedSegs j.desc l))) :
    Moves s opc j g (done (runJob opc eff j) s) descs segs := by
  subst hneed
  refine ⟨fun hroom => ?_, fun hfull => job_fails h (he.trans (enterMove_full _ _ _ _ _ hfull))⟩
  obtain ⟨breaks, hrep, hent⟩ := enterMove_taken s.m g (asJob opc j) per l hroom
  refine job_asksOne h (he.trans hent) ⟨_, rfl, hsegs _, segs_taken per _ j.desc hne hroom⟩ fun m' hp hr => ?_
  rw [hp, hrep hr]
  rfl

/-- APPEND and REPLACE are the modes, and the bits beyond WAIT_START are 0 (07 R203). -/
theorem moveMode_valid {d : Desc} (h : d.par 1 % 4 < 2 ∧ bits (d.par 1) 3 13 = 0) : moveMode d = true := by simp [moveMode, h]

/-! ### MOVE_PTP (07 R213) -/

section
variable {m : Mach} {j : Job} {g : GroupRec} (hg : moveGroup m j [0, 1, 3] false = .inr g) (hmode : moveMode j.desc = true)
  (hspeed : j.desc.par 2 ≤ 2 ^ 30) (hacc : j.desc.par 3 ≤ 2 ^ 30)
include hg hmode hspeed hacc

/-- Data of a wrong length are refused with the number of whole positions that they hold (R235 with entry 109). -/
theorem movePtp_badData (hlen : j.desc.dataLen ≠ 8 * (unitAxes m g).length) :
    movePtp j m = jobDetail m E_RUN_BAD_DATA (min (j.desc.dataLen / 8) (unitAxes m g).length) := by
  simp only [movePtp, hg]
  rw [if_neg (by simp [hmode]), if_neg (Nat.not_lt.2 hspeed), if_neg (Nat.not_lt.2 hacc), if_pos hlen]

theorem movePtp_enters (hlen : j.desc.dataLen = 8 * (unitAxes m g).length) (hfree : streamBusy m g = false) :
    ∃ x : Seg, movePtp j m = enterMove m g j (fun _ => ((unitAxes m g).length + 11) / 12) [x] ∧ x.typ = 0 ∧
      x.target = targets j.data (unitAxes m g).length 0 := by
  simp only [movePtp, hg]
  rw [if_neg (by simp [hmode]), if_neg (Nat.not_lt.2 hspeed), if_neg (Nat.not_lt.2 hacc), if_neg (not_not.2 hlen), if_neg (by simp [hfree])]
  exact ⟨_, rfl, rfl, rfl⟩

end

/-! ### MOVE_PATH (07 R215, R216) -/

section
variable {m : Mach} {j : Job} {g : GroupRec} (hg : moveGroup m j [1] true = .inr g) (hmode : moveMode j.desc = true) (hpar : j.desc.par 2 = 0)
  (hlen : j.desc.dataLen % 64 = 0) (hne : j.desc.dataLen ≠ 0)
include hg hmode hpar hlen hne

theorem movePath_badItem {k : Nat} (h : pathFault m g (isReplace j.desc) (records j.data 0 64 (j.desc.dataLen / 64)) = some k) :
    movePath j m = jobDetail m E_RUN_BAD_DATA k := by
  simp only [movePath, hg, h]
  rw [if_neg (by simp [hmode]), if_neg (not_not.2 hpar), if_neg (by omega)]

/-- The items of a path as segments. -/
def pathSegs (items : List (List Nat)) : List Seg := items.zipIdx.map (fun x => { typ := field x.1 0 1, item := x.2, raw := x.1 })

theorem movePath_enters (h : pathFault m g (isReplace j.desc) (records j.data 0 64 (j.desc.dataLen / 64)) = none) (hfree : streamBusy m g = false) :
    movePath j m = enterMove m g j (fun _ => 1) (pathSegs (records j.data 0 64 (j.desc.dataLen / 64))) := by
  simp only [movePath, hg, h]
  rw [if_neg (by simp [hmode]), if_neg (not_not.2 hpar), if_neg (by omega), if_neg (by simp [hfree])]
  rfl

end

theorem pathSegs_raw (items : List (List Nat)) : (pathSegs items).map (·.raw) = items := by
  rw [pathSegs, List.map_map]
  exact List.zipIdx_map_fst 0 items

/-- A path of `n` items needs a descriptor for each. -/
theorem pathSegs_need {j : Job} {n : Nat} (hn : 0 < n) : let l := pathSegs (records j.data 0 64 n)
    l ≠ [] ∧ (l.map (fun _ => 1)).sum = n ∧ ∀ f, (giveDescs (fun _ => 1) f (numberedSegs j.desc l)).map (·.raw) = records j.data 0 64 n := by
  intro l
  have hlen : l.length = n := by
    simp only [l, pathSegs, records, List.length_map, List.length_zipIdx, List.length_range]
  refine ⟨List.ne_nil_of_length_pos (by rwa [hlen]), by simpa using hlen, fun f => ?_⟩
  rw [giveDescs_map (p := (·.raw)) (fun _ _ => rfl), numberedSegs_map (p := (·.raw)) (fun _ _ _ _ _ => rfl), pathSegs_raw]

/-! ### MOVE_SPLINE (07 R219) -/

/-- A sum that grows by steps ends no lower than it begins. -/
theorem le_foldl_of_le {α : Type} {f : Nat → α → Nat} (h : ∀ t x, t ≤ f t x) (l : List α) (t : Nat) : t ≤ l.foldl f t := by
  induction l generalizing t with
  | nil => exact le_rfl
  | cons x r ih => exact (h t x).trans (ih _)

/-- A spline is stretched, not shortened. -/
theorem planSpline_interval (m : Mach) (g : GroupRec) (start : List Int) (interval : Nat) (pts : List (List Int)) (x : Seg) :
    interval ≤ (planSpline m g start interval pts x).1.interval :=
  le_foldl_of_le (fun _ _ => le_foldl_of_le (fun _ _ => le_max_left ..) ..) ..

/-- The segment of a spline, planned from its start; one whose start is not known yet has none. -/
def splineSeg (m : Mach) (g : GroupRec) (j : Job) : Seg :=
  let n := (unitAxes m g).length
  let start := moveStart m g (isReplace j.desc)
  let pts := (List.range (j.desc.dataLen / (8 * n))).map (fun i => targets j.data n (8 * n * i))
  let x := (planSpline m g (start.getD (comPos m g)) (j.desc.par 2) pts { typ := 3, vs := j.desc.par 2 }).1
  if start.isSome then x else { x with start := [] }

theorem splineSeg_spline (m : Mach) (g : GroupRec) (j : Job) : (splineSeg m g j).typ = 3 ∧ j.desc.par 2 ≤ (splineSeg m g j).interval := by
  unfold splineSeg
  extract_lets n start pts x
  have hint : j.desc.par 2 ≤ x.interval := planSpline_interval ..
  split
  · exact ⟨rfl, hint⟩
  · exact ⟨rfl, hint⟩

/-- The descriptors of a spline: one for each point and twelve axes, or part of twelve (07 R209). -/
def splineDescs (m : Mach) (g : GroupRec) (j : Job) : Nat :=
  let n := (unitAxes m g).length
  j.desc.dataLen / (8 * n) * ((n + 11) / 12)

theorem moveSpline_enters {m : Mach} {j : Job} {g : GroupRec} (hg : moveGroup m j [0, 1, 3] false = .inr g) (hmode : moveMode j.desc = true)
    (hlo : 1 ≤ j.desc.par 2) (hhi : j.desc.par 2 < 65536) (hn : (unitAxes m g).length ≠ 0) (hne : j.desc.dataLen ≠ 0)
    (hlen : j.desc.dataLen % (8 * (unitAxes m g).length) = 0) (hfree : streamBusy m g = false) :
    let res := enterMove m g j (fun _ => splineDescs m g j) [splineSeg m g j]
    moveSpline j m = res ∨
      ∃ t, moveSpline j m = if res.status = 0 then { res with m := report res.m E_RUN_SPLINE_STRETCHED 7 2 g.group t } else res := by
  simp only [moveSpline, hg]
  rw [if_neg (by simp [hmode]), if_neg (by omega), if_neg (by simp [hn, hlen, hne]), if_neg (by simp [hfree])]
  split
  · exact .inr ⟨_, rfl⟩
  · exact .inl rfl

/-- A spline with room for its descriptors waits as one segment for the next snapshot, and tells where it had to be stretched. -/
theorem moveSpline_asks {j : Job} {s : State} (h : JobRuns 0x0603 j s.m) {g : GroupRec} (hg : moveGroup s.m (asJob 0x0603 j) [0, 1, 3] false = .inr g)
    (hmode : moveMode j.desc = true) (hlo : 1 ≤ j.desc.par 2) (hhi : j.desc.par 2 < 65536) (hn : (unitAxes s.m g).length ≠ 0)
    (hne : j.desc.dataLen ≠ 0) (hlen : j.desc.dataLen % (8 * (unitAxes s.m g).length) = 0) (hfree : streamBusy s.m g = false)
    (hroom : splineDescs s.m g j ≤ (freeDescs s.m g).length) :
    ∃ m' x, exec (.moveSpline j) s = jobEnds s 0x0603 j m' 0 (effectCycle s.m % 2 ^ 32) (some (effectCycle s.m)) ∧ m'.mem = s.m.mem ∧
      j.desc.par 2 ≤ x.interval ∧ x.typ = 3 ∧ m'.run.acts = s.m.run.acts ++ [moveAct j.desc g [x]] := by
  have heff := moveSpline_enters (j := asJob 0x0603 j) hg hmode hlo hhi hn hne hlen hfree
  obtain ⟨htyp, hint⟩ := splineSeg_spline s.m g (asJob 0x0603 j)
  generalize splineSeg s.m g (asJob 0x0603 j) = x at heff htyp hint
  obtain ⟨breaks, -, hent⟩ := enterMove_taken s.m g (asJob 0x0603 j) (fun _ => splineDescs s.m g (asJob 0x0603 j)) [x] hroom
  obtain ⟨y, hone, hytyp, hyint⟩ := giveDescs_one (fun _ => splineDescs s.m g (asJob 0x0603 j)) (freeDescs s.m g) (asJob 0x0603 j).desc x
  rw [hent, hone] at heff
  have hkeep := askedOf_runOnly s.m (moveAct j.desc g [y]) g 0 breaks
  have hacts := askedOf_acts s.m (moveAct j.desc g [y]) g 0 breaks
  rcases heff with heff | ⟨t, heff⟩
  · exact ⟨_, y, job_accepted h heff hkeep.cyc, hkeep.mem, hyint ▸ hint, hytyp.trans htyp, hacts⟩
  · obtain ⟨⟨_, _, _, _, heq⟩, -⟩ :=
      report_reported (askedOf s.m (moveAct j.desc g [y]) g 0 breaks) E_RUN_SPLINE_STRETCHED 7 2 g.group t 0xFFFF
    exact ⟨_, y, job_accepted h heff hkeep.cyc, (congrArg Mach.mem heq).trans hkeep.mem, hyint ▸ hint, hytyp.trans htyp,
      (congrArg (·.run.acts) heq).trans hacts⟩

/-! ## STREAM_BIND (07 R220) -/

section
variable {m : Mach} {j : Job} {g : GroupRec} (hg : moveGroup m j [0, 3] false = .inr g) (hring : j.desc.par 1 < 32)
  (hon : getF m HIF_STR_CTRL_STATE (j.desc.par 1) = 1) (hdir : getF m HIF_STR_CFG_DIR (j.desc.par 1) = 0)
  (hgroup : getF m HIF_STR_AUX_GROUP (j.desc.par 1) = g.group)
include hg hring hon hdir hgroup

/-- An in-stream of the group is bound to it where the group is at rest with nothing queued. -/
theorem streamBind_judged : streamBind j m =
    if streamBusy m g ∨ !atRest (grp m g.group).com ∨ queueView m g.group ≠ [] then groupBusy m g
    else accepted (addAct m { kind := 6, grp := g.group, data := [(j.desc.par 1 : Int)] }) := by
  simp only [streamBind, hg]
  rw [if_neg (by simp [onF, hon, hdir, hgroup]; omega)]

end

/-! ## Jobs on the units of a mask (07 R225, R232, R234, 08 R254, R255) -/

section
variable {m : Mach} {j : Job} {g : GroupRec} (hmask : maskUnits m (j.desc.par 0) = some [g])
include hmask

theorem feedHold_asks : feedHold j m = accepted (askedOf m { kind := 2, grp := g.group } g 2 (!(grp m g.group).com.fh)) := by
  simp only [feedHold, hmask, List.foldl_cons, List.foldl_nil, askedOf, grp_addAct]
  by_cases hfh : (grp m g.group).com.fh = true <;> simp [hfh]

theorem resumeGroups_asks (h3 : (grp m g.group).com.mode ≠ 3) (h5 : (grp m g.group).com.mode ≠ 5)
    (hk : g.kind ≠ 2 ∨ (grp m g.group).com.engaged = true ∧ (grp m g.group).com.gsrc = 2) :
    resumeGroups j m =
      accepted (askedOf m { kind := 3, grp := g.group } g 2 ((grp m g.group).com.fh || (grp m g.group).com.mode == 4)) := by
  have hvirtual : notVirtual m g = false := by
    rcases hk with hk | ⟨he, hs⟩
    · simp [notVirtual, hk]
    · simp [notVirtual, he, hs]
  simp only [resumeGroups, hmask]
  rw [if_neg (by simp [h3, h5]), if_neg (by simp [hvirtual])]
  rfl

theorem resumeGroups_ramping (h : (grp m g.group).com.mode = 3 ∨ (grp m g.group).com.mode = 5) :
    resumeGroups j m = jobDetail m E_RUN_RAMP_ACTIVE 0 := by
  simp only [resumeGroups, hmask]
  rw [if_pos (by simpa using h)]
  rfl

theorem resumeGroups_notEngaged (h3 : (grp m g.group).com.mode ≠ 3) (h5 : (grp m g.group).com.mode ≠ 5) (hk : g.kind = 2)
    (hv : ¬ ((grp m g.group).com.engaged = true ∧ (grp m g.group).com.gsrc = 2)) :
    resumeGroups j m = jobDetail m E_RUN_GEAR_NOT_ENGAGED 0 := by
  simp only [resumeGroups, hmask]
  rw [if_neg (by simp [h3, h5]), if_pos (by simpa [notVirtual, hk, or_iff_not_imp_left] using hv)]
  rfl

/-- A stop also takes the group out of the shared start. -/
theorem stopGroups_asks : ∃ m', stopGroups j m = accepted m' ∧ RunOnly m m' ∧ m'.run.acts = m.run.acts ++ [{ kind := 5, grp := g.group }] ∧
    (grp m' g.group).pend = (grp m g.group).pend ||| 1 ∧ g.group ∉ m'.run.start.groups := by
  let m₁ := addAct m { kind := 5, grp := g.group }
  let m₂ : Mach := { m₁ with run := { m₁.run with start := { m₁.run.start with groups := m₁.run.start.groups.filter (· != g.group) } } }
  refine ⟨latchCause m₂ g 0, by simp only [stopGroups, hmask]; rfl, ?_, latchCause_acts m₂ g 0, latchCause_pend m₂ g 0, ?_⟩
  · exact ((addAct_runOnly m _).trans (.of_run _)).trans (latchCause_runOnly m₂ g 0)
  · rw [latchCause_start]
    simp [m₂]

end

/-! ## OVERRIDE (07 R233, 08 R254) -/

/-- OVR is none of the registers that show a plan. -/
theorem ovr_not_planKey (i : Nat) : ¬ planKey (RUN_GRP_OVR_OVR.key i) := not_planKey rfl (by decide) i

/-- OVR of a unit of one group takes its value. -/
theorem setOvr_takes {m : Mach} {g : GroupRec} (h : (members m g).map (·.group) = [g.group]) {v : Nat} (hv : v < 2 ^ 31) :
    RunOnly m (setOvr m g v) ∧ (setOvr m g v).run.acts = m.run.acts ∧ getF (setOvr m g v) RUN_GRP_OVR_OVR g.group = v := by
  obtain ⟨x, hx, hgroup⟩ := List.map_eq_singleton_iff.1 h
  have hset : setOvr m g v = if getF m RUN_GRP_OVR_OVR g.group = v then setF m RUN_GRP_OVR_OVR g.group v
      else latchCause (setF m RUN_GRP_OVR_OVR g.group v) g 3 := by
    rw [setOvr, hx, List.foldl_cons, List.foldl_nil, hgroup]
  have hown : getF (setF m RUN_GRP_OVR_OVR g.group v) RUN_GRP_OVR_OVR g.group = v :=
    (getF_setF_self ..).trans (Nat.mod_eq_of_lt hv)
  have hreg : RunOnly m (setF m RUN_GRP_OVR_OVR g.group v) := .of_regsOnly (.setF .refl)
  rw [hset]
  split
  · exact ⟨hreg, rfl, hown⟩
  · exact ⟨hreg.trans (latchCause_runOnly ..), latchCause_acts .., (latchCause_fieldsBut _ _ _ _ _ (ovr_not_planKey _)).trans hown⟩

section
variable {m : Mach} {j : Job} {g : GroupRec} (hg : groupRec m (j.desc.par 0) = some g) (hu : unitOf m g = g)
  (hv : j.desc.par 1 ≤ 2 ^ 30)
include hg hu hv

theorem overrideGroup_judged : overrideGroup j m =
    if (grp m g.group).com.engaged && (grp m g.group).com.gsrc != 2 then jobDetail m E_RUN_BAD_KIND g.kind
    else accepted (setOvr m g (j.desc.par 1)) := by
  simp only [overrideGroup, hg, hu]
  rw [if_neg (Nat.not_lt.2 hv)]

end

/-- A job that runs has its parameters in range (03 R87). -/
theorem JobRuns.paramIn {opc : Nat} {j : Job} {m : Mach} (h : JobRuns opc j m) {i : JobInfo} (hi : jobInfo opc = some i) {k : Nat} (hk : k < 10) :
    Machine.paramIn m (asJob opc j).desc k = true := by
  obtain ⟨-, hd, -⟩ := h
  have hfetch : fetchCheck m (asJob opc j).desc = none := by
    cases hf : fetchCheck m (asJob opc j).desc with
    | none => rfl
    | some x => rw [descCheck_of_fetch hf] at hd; cases hd
  have hbad : badParam m i (asJob opc j).desc = none := by
    cases hb : badParam m i (asJob opc j).desc with
    | none => rfl
    | some x => rw [descCheck_badParam hfetch hi hb] at hd; cases hd
  have hgood := List.find?_eq_none.1 hbad k (List.mem_range.2 hk)
  simp only [Bool.or_eq_true, not_or] at hgood
  simpa using hgood.2

/-- An override above 1.0 is a parameter out of range. -/
theorem override_badParam {j : Job} {m : Mach} {g : GroupRec} (hg : groupRec m (j.desc.par 0) = some g) (hlt : g.group < 32)
    (hv : 2 ^ 30 < j.desc.par 1) (i : JobInfo) (hi : jobInfo 0x0607 = some i) : badParam m i (asJob 0x0607 j).desc = some 1 := by
  have hgroup := group_of_groupRec hg
  have hmask : nth i.masks 0 = 2 ^ 32 - 1 := by
    cases hi
    rfl
  refine (badParam_eq_some_iff ..).2 ⟨by decide, .inr (decide_eq_false (Nat.not_le.2 hv)), fun k hk => ?_⟩
  obtain rfl : k = 0 := by omega
  refine ⟨not_not.2 ?_, ?_⟩
  · change andNot (j.desc.par 0) (nth i.masks 0) = 0
    rw [hmask, andNot, Nat.and_two_pow_sub_one_eq_mod]
    omega
  · change (groupRec m (j.desc.par 0)).isSome = true
    rw [hg]; rfl

/-! ## Gears (08 R243, R244, R248) -/

/-- A two-byte field is a number of 16 bits. -/
theorem field_two_lt (l : List Nat) (o : Nat) : field l o 2 < 2 ^ 16 :=
  (leNat_lt _).trans_le (Nat.pow_le_pow_right (by decide) (by rw [List.length_take]; omega))

/-- LEAD is none of the registers that show a plan. -/
theorem lead_not_planKey (i : Nat) : ¬ planKey (RUN_GEAR_CFG_LEAD.key i) := not_planKey rfl (by decide) i

section
variable {m : Mach} {j : Job} {g : GroupRec} (hg : moveGroup m j [2] false = .inr g)
include hg

theorem gearSet_badHeader (h : gearHeaderOk j.data j.desc.dataLen (unitAxes m g).length = false) :
    ∃ k, gearSet j m = jobDetail m E_RUN_BAD_DATA k := by
  simp only [gearSet, hg]
  rw [if_pos (by simp [h])]
  exact ⟨_, rfl⟩

section
variable (h : gearHeaderOk j.data j.desc.dataLen (unitAxes m g).length = true)
  (hsrc : gearSource m (field j.data 0 1) (field j.data 2 1) (field j.data 3 1) = true) (hset : (field j.data 1 1).testBit 3 = false)
include h hsrc hset

theorem gearSet_busy (hbusy : (grp m g.group).com.engaged = true ∨ atRest (grp m g.group).com = false) : gearSet j m = groupBusy m g := by
  simp only [gearSet, hg]
  rw [if_neg (by simp [h]), if_neg (by simp [hsrc]), if_neg (by simp [hset]), if_pos (by simpa using hbusy)]

/-- A gear that may be set waits for the next snapshot, with its LEAD in the register. -/
theorem gearSet_taken (hoff : (grp m g.group).com.engaged = false) (hrest : atRest (grp m g.group).com = true) : ∃ m₁ w,
    gearSet j m = laterJob (latchCause m₁ g 5)
      { kind := 7, grp := g.group, data := [0, b2n ((field j.data 1 1).testBit 0), b2n ((field j.data 1 1).testBit 2)], gear := some w } j ∧
    RegsOnly m m₁ ∧ getF m₁ RUN_GEAR_CFG_LEAD g.group = field j.data 8 2 ∧ w.engaged = true ∧ w.gsrc = field j.data 0 1 ∧
      w.master.v = sgn 64 (field j.data 24 8) := by
  simp only [gearSet, hg]
  rw [if_neg (by simp [h]), if_neg (by simp [hsrc]), if_neg (by simp [hset]), if_neg (by simp [hoff, hrest])]
  refine ⟨_, _, rfl, .setF (.setF (.setF .refl)), ?_, rfl, rfl, rfl⟩
  exact (getF_setF_self ..).trans (Nat.mod_eq_of_lt (field_two_lt ..))

end

/-- A change of ratios whose data are well formed waits for the next snapshot. -/
theorem gearChangeAt_taken (hlen : j.desc.dataLen = 32 + 8 * (unitAxes m g).length)
    (hden : ∀ r ∈ ratios j.data (unitAxes m g).length 32, r.2 = 0 → r.1 = 0)
    (hfall : field j.data 8 1 ≤ 1) (hramp : field j.data 9 1 ≤ 1) (h10 : field j.data 10 2 = 0) (h20 : field j.data 20 8 = 0)
    (h28 : field j.data 28 4 = 0) (hw : field j.data 9 1 = 1 ↔ field j.data 12 4 ≠ 0) :
    let c : Change := { pc := sgn 64 (field j.data 0 8), fall := field j.data 8 1 == 1, w := field j.data 12 4, tag := field j.data 16 4 % 65536,
                        ratios := ratios j.data (unitAxes m g).length 32 }
    gearChangeAt j m = laterJob (latchCause m g 5) { kind := 8, grp := g.group, change := some c } j := by
  have hratios : ¬ (ratios j.data (unitAxes m g).length 32).any (fun r => r.2 == 0 && r.1 != 0) = true := by
    simp only [List.any_eq_true, Bool.and_eq_true, beq_iff_eq, bne_iff_ne, not_exists, not_and, not_not]
    exact hden
  have hwidth : ¬ if field j.data 9 1 = 1 then field j.data 12 4 = 0 else field j.data 12 4 ≠ 0 := by
    split_ifs with hr
    · exact hw.1 hr
    · exact not_not.2 (not_not.1 fun hne => hr (hw.2 hne))
  simp only [gearChangeAt, hg]
  rw [if_neg (by simp only [not_or]; exact ⟨not_not.2 hlen, hratios, by omega, by omega, by omega, by omega, by omega, hwidth⟩)]

end

/-- What is judged at the snapshot waits there with its job, its cause latched. -/
theorem laterJob_waits {m m₁ : Mach} (hreg : RegsOnly m m₁) (g : GroupRec) (a : Act) (j : Job) :
    let m' := (laterJob (latchCause m₁ g 5) a j).m
    m'.run.acts = m.run.acts ++ [{ a with job := some (jcompl j 0 0 none) }] ∧ (grp m' g.group).pend = (grp m g.group).pend ||| 32 ∧
      m'.mem = m.mem := by
  refine ⟨?_, ?_, ?_⟩
  · exact congrArg (· ++ [_]) ((latchCause_acts m₁ g 5).trans (congrArg RunSt.acts hreg.run))
  · exact (latchCause_pend m₁ g 5).trans (congrArg (fun x => GrpSt.pend x ||| 32) (hreg.grp g.group))
  · exact (latchCause_mem m₁ g 5).trans hreg.mem

/-! ## The shared start (08 R255, R256) -/

/-- From `m` to `m'` the jobs of gears that waited may have completed: the start and its state, the cycle and which groups wait are as they
were. -/
structure GearJobsEnded (m m' : Mach) : Prop where
  start : m'.run.start = m.run.start
  cyc : m'.cyc = m.cyc
  waits : ∀ g, groupWaits m' g = groupWaits m g
  state : getF m' RUN_START_STAT_STATE = getF m RUN_START_STAT_STATE

namespace GearJobsEnded
variable {m m' m'' : Mach}

theorem refl : GearJobsEnded m m := ⟨rfl, rfl, fun _ => rfl, rfl⟩
theorem trans (h : GearJobsEnded m m') (h' : GearJobsEnded m' m'') : GearJobsEnded m m'' :=
  ⟨h'.start.trans h.start, h'.cyc.trans h.cyc, fun g => (h'.waits g).trans (h.waits g), h'.state.trans h.state⟩
/-- What waits to be written to the host changed. -/
theorem of_hif (x : HifSt) : GearJobsEnded m { m with hif := x } := ⟨rfl, rfl, fun _ => rfl, rfl⟩
theorem addCompl (m : Mach) (c : Compl) : GearJobsEnded m (addCompl m c) := by
  unfold Machine.addCompl
  split
  · exact refl
  · exact of_hif _
end GearJobsEnded

/-- The state of a command ring is no field of the shared start, whatever the ring. -/
theorem startState_ne_ring (k : Nat) : RUN_START_STAT_STATE.key 0 ≠ HIF_CMD_CTRL_STATE.key k := by
  simp only [Fld.key, Fld.addr, RUN_START_STAT_STATE, HIF_CMD_CTRL_STATE]
  omega

theorem settleDeletes_gearJobs (m : Mach) : GearJobsEnded m (settleDeletes m) := by
  unfold settleDeletes
  extract_lets go _ m₁
  have h₁ : GearJobsEnded m m₁ := .of_hif _
  refine h₁.trans (foldl_related (fun _ => .refl) .trans (fun x _ m => ?_) m₁)
  have hset : GearJobsEnded m (setF m HIF_CMD_CTRL_STATE x.1 0) := ⟨rfl, rfl, fun _ => rfl, getF_setF_ne _ _ _ _ _ _ (startState_ne_ring x.1)⟩
  exact hset.trans (.addCompl ..)

theorem grp_setGrp_ne (m : Mach) {g h : Nat} (x : GrpSt) (hne : h ≠ g) : grp (setGrp m g x) h = grp m h := sget_sput_ne _ _ _ hne

theorem endGearJob_gearJobs (m : Mach) (g status : Nat) (effect : Option Nat) : GearJobsEnded m (endGearJob m g status effect) := by
  unfold endGearJob
  extract_lets x
  split
  · exact .refl
  · have hset : GearJobsEnded m (setGrp m g { x with gearJob := none }) := by
      refine ⟨rfl, rfl, fun h => ?_, rfl⟩
      by_cases hh : h = g
      · subst hh
        simp only [groupWaits, grp_setGrp_self]
        rfl
      · simp only [groupWaits, grp_setGrp_ne _ _ hh]
        rfl
    exact (hset.trans (.addCompl ..)).trans (settleDeletes_gearJobs _)

/-- Arming groups puts the start in its place, and completes the jobs of gears that waited for it. -/
theorem armGroups_gearJobs (m : Mach) (st : StartSt) : GearJobsEnded { m with run := { m.run with start := st } } (armGroups m st) :=
  foldl_related (R := GearJobsEnded) (fun _ => .refl) .trans (fun _ _ _ => endGearJob_gearJobs ..) _

/-- A mask of 0 clears the shared start. -/
theorem sharedStart_cleared {m : Mach} {j : Job} (h : j.desc.par 0 = 0) :
    ∃ m', sharedStart j m = accepted m' ∧ m'.cyc = m.cyc ∧ m'.run.start = {} ∧ getF m' RUN_START_STAT_STATE = 0 ∧
      m'.run.acts = m.run.acts := by
  have hmask : maskUnits m 0 = some [] := by simp [maskUnits, bitsOf]
  simp only [sharedStart, h, hmask, if_true]
  exact ⟨_, rfl, rfl, rfl, (getF_setF_self (releaseStart m) RUN_START_STAT_STATE 0 0 :), rfl⟩

/-- With every group of the start waiting, it is ready. -/
theorem startReady_ready {m : Mach} (h : getF m RUN_START_STAT_STATE = 1) (hne : m.run.start.groups ≠ [])
    (hall : ∀ g ∈ m.run.start.groups, groupWaits m g = true) :
    startReady m = setF m RUN_START_STAT_STATE 0 2 := if_pos ⟨h, hne, List.all_eq_true.2 hall⟩

/-- A start at a given instant arms the group that waits, and is ready. -/
theorem sharedStart_armed {m : Mach} {j : Job} {g : GroupRec} (hmask : maskUnits m (j.desc.par 0) = some [g]) (h0 : j.desc.par 0 ≠ 0)
    (ht : j.desc.par 1 + j.desc.par 2 * 2 ^ 32 ≠ 0) (hwait : groupWaits m g.group = true) : let t := j.desc.par 1 + j.desc.par 2 * 2 ^ 32
    ∃ m', sharedStart j m = accepted m' ∧ m'.cyc = m.cyc ∧ m'.run.start.groups = [g.group] ∧
      m'.run.start.ts = some (max t (effectCycle m * cycLen m)) ∧ m'.run.start.moved = decide (t < effectCycle m * cycLen m) ∧
      getF m' RUN_START_STAT_STATE = 2 := by
  intro t
  let m₁ := setF (releaseStart m) RUN_START_STAT_STATE 0 1
  let st : StartSt := { groups := [g.group], armTick := m.cyc.now, lowSince := some m.cyc.now }
  let m₂ := setStart (armGroups m₁ st) (t : Nat)
  have hgroups : [g.group].filter (groupWaits (releaseStart m)) = [g.group] := by
    rw [List.filter_cons_of_pos, List.filter_nil]
    exact hwait
  have heff : sharedStart j m = accepted (startReady m₂) := by
    simp only [sharedStart, hmask, h0, if_false, List.map_cons, List.map_nil, hgroups]
    rw [if_pos (by omega)]
    rfl
  have harm := armGroups_gearJobs m₁ st
  have hcyc : (armGroups m₁ st).cyc = m.cyc := harm.cyc
  have hstart : (armGroups m₁ st).run.start = st := harm.start
  have hready : startReady m₂ = setF m₂ RUN_START_STAT_STATE 0 2 := by
    have hin : m₂.run.start.groups = [g.group] := congrArg StartSt.groups hstart
    refine startReady_ready (harm.state.trans (getF_setF_self (releaseStart m) RUN_START_STAT_STATE 0 1 :)) (by simp [hin]) fun x hx => ?_
    rw [hin] at hx
    cases List.mem_singleton.1 hx
    exact (harm.waits g.group).trans hwait
  have heffect : effectCycle (armGroups m₁ st) * cycLen (armGroups m₁ st) = effectCycle m * cycLen m := by
    rw [effectCycle, effectCycle, cycLen, cycLen, hcyc]
  refine ⟨_, heff, ?_, ?_, ?_, ?_, ?_⟩ <;> rw [hready]
  · exact hcyc
  · exact congrArg StartSt.groups hstart
  · change some (max t (effectCycle (armGroups m₁ st) * cycLen (armGroups m₁ st))) = _
    rw [heffect]
  · change decide ((t : Int) < ((effectCycle (armGroups m₁ st) * cycLen (armGroups m₁ st) : Nat) : Int)) = _
    rw [heffect]
    exact decide_eq_decide.2 Int.ofNat_lt
  · exact getF_setF_self ..

/-! ## The line of the start (08 R256, R257) -/

/-- The third line is none. -/
theorem busEdge_noLine {l : Nat} (h : 2 ≤ l) (falling : Bool) (t : Nat) (own : Bool) (m : Mach) : busEdge l falling t own m = m := if_pos h

/-- A rising edge on the line of the start is seen: its level is shown, and the line is low no more. -/
def lineRisen (m : Mach) (t : Nat) : Mach :=
  let m := setB (at' m t) RUN_START_STAT_LEVEL 0 true
  { m with run := { m.run with start := { m.run.start with lowSince := none } } }

/-- Beside LEVEL the registers are as they were. -/
theorem getF_lineRisen {f : Fld} (h : f.key 0 ≠ RUN_START_STAT_LEVEL.key 0) (m : Mach) (t : Nat) :
    getF (setB (at' m t) RUN_START_STAT_LEVEL 0 true) f = getF m f := getF_setF_ne (at' m t) _ _ _ _ _ h

/-- A rising edge that is accepted sets the instant of the start. -/
theorem busEdge_starts {m : Mach} {l t : Nat} (hl : l < 2) (hline : getF m RUN_START_CFG_LINE = l) (hclaim : m.run.start.line = true)
    (hown : ownerOf m 2 l = some 3) (hstate : getF m RUN_START_STAT_STATE = 2) (hts : m.run.start.ts = none)
    (hlow : m.run.start.lowSince = some m.run.start.armTick) (hmin : 800 * getF m RUN_START_CFG_ARM_MIN ≤ t - m.run.start.armTick) (own : Bool) :
    busEdge l false t own m = setStart (lineRisen m t) ((t + startDelay m : Nat) - (getF m RUN_START_COMP_COMP : Int)) := by
  rw [busEdge, if_neg (Nat.not_le.2 hl)]
  extract_lets m₁ mine m₂ st r held m₃ m₄
  have hmine : mine = true := by
    change (m.run.start.line && ownerOf m 2 l == some 3) = true
    rw [hclaim, hown]; rfl
  have h₂ : m₂ = setB (at' m t) RUN_START_STAT_LEVEL 0 true := if_pos hline
  have hst : st = m.run.start := congrArg (·.run.start) h₂
  have h₃ : m₃ = lineRisen m t := by simp only [m₃, r, st, h₂]; rfl
  have hheld : held = true := by
    simp only [held, hst, hlow, h₂, getF_lineRisen (f := RUN_START_CFG_ARM_MIN) (by decide)]
    simpa [mul_comm] using hmin
  have hready : getF m₂ RUN_START_STAT_STATE = 2 := by rw [h₂, getF_lineRisen (by decide), hstate]
  have h₄ : m₄ = setStart m₃ ((t + startDelay m₂ : Nat) - (getF m₂ RUN_START_COMP_COMP : Int)) :=
    (if_neg (by rw [hmine]; decide)).trans ((if_neg Bool.false_ne_true).trans
      (if_pos ⟨hready, by rw [hst, hts]; rfl, hheld, by rw [hst]; exact hlow⟩))
  have hdelay : startDelay m₂ = startDelay m := by
    rw [startDelay, startDelay, h₂, getF_lineRisen (by decide)]
    rfl
  refine (if_neg (by rw [Bool.false_and, Bool.false_and, Bool.false_and]; exact Bool.false_ne_true)).trans ?_
  rw [h₄, h₃, hdelay, h₂, getF_lineRisen (by decide)]

/-- The start then comes DELAY after the edge, less COMP, though not before the first entry planned after it. -/
theorem setStart_lineRisen (m : Mach) (t : Nat) : let m' := setStart (lineRisen m t) ((t + startDelay m : Nat) - (getF m RUN_START_COMP_COMP : Int))
    getF m' RUN_START_STAT_LEVEL = 1 ∧ m'.run.acts = m.run.acts ∧
      m'.run.start.ts = some (max (t + startDelay m - getF m RUN_START_COMP_COMP) (effectCycle m * cycLen m)) ∧ m'.mem = m.mem := by
  refine ⟨(getF_setF_self (at' m t) RUN_START_STAT_LEVEL 0 1 :), rfl, ?_, rfl⟩
  rw [← Int.toNat_sub]
  rfl

/-! ## The statement -/

/-- Settles O39: MOVE jobs by `job_moves`, jobs on a unit by `job_asksOne`, gears by `laterJob_waits`, the shared start by `armGroups_gearJobs`, which
says what its arming leaves, and its line by `busEdge_starts`. -/
theorem motionJobsAndSharedStarts : Obligations.MotionJobsAndSharedStarts := by
  refine ⟨fun j g s hlt => ?_, fun l t own s => ?_⟩
  · intro m p e d n rep words asks refuses moves modeOk single virtual mask
    have takes {kinds : List Nat} (hs : single) (hk : g.kind ∈ kinds) (opc : Nat) (path : Bool) : moveGroup m (asJob opc j) kinds path = .inr g :=
      moveGroup_single hs.2 hs.1 hk path
    have joint (hk : g.kind < 4) (hne : g.kind ≠ 2) : g.kind ∈ [0, 1, 3] := by simp only [List.mem_cons, List.not_mem_nil, or_false]; omega
    refine ⟨fun hs hmode hkind => ⟨fun hrun hk hspeed hacc => ⟨fun hlen hfree => ?_, fun hlen => ?_⟩,
        fun hrun hk hpar hlen hne => ⟨fun hok hfree => ?_, fun k hbad => ?_⟩,
        fun hrun hk hring hon hdir hgroup => ⟨fun hfree hrest hempty => ?_, fun hbusy => ?_⟩⟩,
      fun hs hmode hrun hkind hk hlo hhi hn hne hlen hfree hroom => ?_,
      fun hrun hmask => ?_, fun hrun => ⟨fun h3 h5 hk hmask => ?_, fun hramp hmask => ?_, fun h3 h5 hk hv hmask => ?_⟩,
      fun hrun hg hu hmem => ⟨fun hv hgear => ?_, fun heng hsrc => ?_⟩, fun hw hf hg hv => ?_, fun hrun hmask => ?_,
      fun hs hkind => ⟨fun hrun => ⟨fun hbad => ?_, fun hok hsrc hset => ⟨fun hbusy => ?_, fun hoff hrest => ?_⟩⟩, fun hrun => ?_⟩,
      fun hrun => ⟨fun h0 => ?_, fun hmask h0 ht hwait => ?_⟩⟩
    · obtain ⟨x, heff, htyp, htarget⟩ := movePtp_enters (takes hs (joint hk hkind) 0x0601 false) (moveMode_valid hmode) hspeed hacc hlen hfree
      exact job_moves hrun heff (List.cons_ne_nil _ _) (Nat.add_zero _) fun _ => ⟨_, rfl, htyp, htarget⟩
    · exact job_fails hrun (movePtp_badData (takes hs (joint hk hkind) 0x0601 false) (moveMode_valid hmode) hspeed hacc hlen)
    · have heff := movePath_enters (takes hs (by simp [hk]) 0x0602 true) (moveMode_valid hmode) hpar hlen hne hok hfree
      obtain ⟨hsome, hneed, hraw⟩ := pathSegs_need (j := j) (show 0 < j.desc.dataLen / 64 by omega)
      exact job_moves hrun heff hsome hneed hraw
    · exact job_fails hrun (movePath_badItem (takes hs (by simp [hk]) 0x0602 true) (moveMode_valid hmode) hpar hlen hne hbad)
    · have heff := streamBind_judged (takes hs (by simpa using hk) 0x0604 false) hring hon hdir hgroup
      have hstill : atRest (grp m g.group).com = true := hrest
      exact job_asks hrun (heff.trans (if_neg (by simp [hfree, hempty, hstill]))) (addAct_runOnly ..) rfl rfl trivial
    · have heff := streamBind_judged (takes hs (by simpa using hk) 0x0604 false) hring hon hdir hgroup
      exact job_fails hrun (heff.trans ((if_pos (by simpa using hbusy)).trans (groupBusy_single hs.2)))
    · exact moveSpline_asks hrun (takes hs (joint hk hkind) 0x0603 false) (moveMode_valid hmode) hlo hhi hn hne hlen hfree hroom
    · have hcause : (if !d.fh then 2 ^ 2 else 0) = if d.fh then 0 else 4 := by cases d.fh <;> rfl
      exact job_asksOne hrun (feedHold_asks hmask) rfl fun m' hp => hp.trans (congrArg (_ ||| ·) hcause)
    · have hcause : (if d.fh || d.mode == 4 then 2 ^ 2 else 0) = if d.fh ∨ d.mode = 4 then 4 else 0 := by
        simp only [Bool.or_eq_true, beq_iff_eq, Nat.reducePow]
      exact job_asksOne hrun (resumeGroups_asks hmask h3 h5 hk) rfl fun m' hp => hp.trans (congrArg (_ ||| ·) hcause)
    · exact job_fails hrun (resumeGroups_ramping hmask hramp)
    · exact job_fails hrun (resumeGroups_notEngaged hmask h3 h5 hk hv)
    · obtain ⟨hkeep, hacts, hovr⟩ := setOvr_takes hmem (v := p 1) (by omega)
      have hnone : ¬ (d.engaged && d.gsrc != 2) = true := by rcases hgear with h | h <;> simp [h]
      exact job_asks hrun ((overrideGroup_judged hg hu hv).trans (if_neg hnone)) hkeep (hacts.trans (List.append_nil _).symm) rfl hovr
    · have hv : p 1 ≤ 2 ^ 30 := of_decide_eq_true (hrun.paramIn rfl (k := 1) (by decide))
      exact job_fails hrun ((overrideGroup_judged hg hu hv).trans (if_pos (Bool.and_eq_true_iff.2 ⟨heng, bne_iff_ne.2 hsrc⟩)))
    · exact job_unchecked hw (descCheck_badParam hf rfl (override_badParam hg hlt hv _ rfl)) (by decide) _
    · obtain ⟨m', heff, hkeep, hacts, hpend, hout⟩ := stopGroups_asks (j := asJob 0x0608 j) hmask
      exact job_asks hrun heff hkeep hacts rfl ⟨hpend, hout⟩
    · obtain ⟨k, heff⟩ := gearSet_badHeader (takes hs (by simp [hkind]) 0x0609 false) hbad
      exact ⟨k, job_fails hrun heff⟩
    · have heff := gearSet_busy (takes hs (by simp [hkind]) 0x0609 false) hok hsrc hset hbusy
      exact job_fails hrun (heff.trans (groupBusy_single hs.2))
    · obtain ⟨m₁, w, heff, hreg, hlead, heng, hgsrc, hmaster⟩ :=
        gearSet_taken (takes hs (by simp [hkind]) 0x0609 false) hok hsrc hset hoff hrest
      obtain ⟨hacts, hpend, hmem⟩ := laterJob_waits hreg g _ (asJob 0x0609 j)
      exact ⟨_, _, w, job_later hrun heff, hacts, rfl, rfl, rfl, rfl, rfl,
        (latchCause_fieldsBut _ _ _ _ _ (lead_not_planKey _)).trans hlead, heng, hgsrc, fun _ => hmaster, hpend, hmem⟩
    · intro l hlen hden hfall hramp h10 h20 h28 hw
      have heff := gearChangeAt_taken (takes hs (by simp [hkind]) 0x060A false) hlen hden hfall hramp h10 h20 h28 hw
      exact ⟨_, job_later hrun heff, laterJob_waits .refl ..⟩
    · obtain ⟨m', heff, hcyc, hstart, hstate, hacts⟩ := sharedStart_cleared (m := m) (j := asJob 0x060B j) h0
      exact ⟨m', job_accepted hrun heff hcyc, hstart, hstate, hacts⟩
    · obtain ⟨m', heff, hcyc, hrest⟩ := sharedStart_armed (j := asJob 0x060B j) hmask h0 ht hwait
      exact ⟨m', job_accepted hrun heff hcyc, hrest⟩
  · refine ⟨fun hl f => ?_, fun hl hline hclaim hown hstate hts hlow _ hmin => ?_⟩
    · rw [exec_triggerBusEdge, done, busEdge_noLine hl]
    · exact ⟨_, by rw [exec_triggerBusEdge, done, busEdge_starts hl hline hclaim hown hstate hts hlow hmin], setStart_lineRisen s.m t⟩

end Sys2Proof.Machine
end

section
/-! PROOFS. Passes of an axis engine (09 R267 to R289, 10 R321 to R323): words missed, the voltage of the open-loop mode, the currents of the main
filters and the velocity law, and the statement on them. -/

namespace Sys2Proof.Machine

/-! ## The commands of this statement -/

theorem exec_pvcPass (n k : Nat) (d : Bool) (s : State) : exec (.pvcPass n k d) s = done (pvcPass n k d) s := rfl
theorem exec_cPass (n : Nat) (a b c : List Bool) (t : Nat) (d : Bool) (s : State) : exec (.cPass n a b c t d) s = done (cPass n a b c t d) s := rfl

/-! ## Signed values in registers (00 R26) -/

/-- A signed value that fits its field reads back. -/
theorem getS_setS_self {f : Fld} (hw : 0 < f.w) (m : Mach) (i : Nat) {v : Int} (hlo : -2 ^ (f.w - 1) ≤ v) (hhi : v < 2 ^ (f.w - 1)) :
    getS (setS m f i v) f i = v := by
  rw [getS, setS, getF_setF_self]
  exact sgn_toNat_emod hw hlo hhi

/-- A saturated value fits 32 bits. -/
theorem sat_bounds (v : Int) : -2 ^ 31 ≤ sat 32 v ∧ sat 32 v < 2 ^ 31 := by
  rw [sat_eq_heldTo, heldTo]
  omega

/-- A value held between a limit and its negative lies there. -/
theorem clampI_bounds {l : Int} (h : 0 ≤ l) (v : Int) : -l ≤ clampI (-l) l v ∧ clampI (-l) l v ≤ l := by
  unfold clampI
  split_ifs <;> omega

/-! ## What the writes of a slot leave -/

/-- From `m` to `m'` the power stage's state may have changed, and of the registers those of `l` of slot `n`. -/
structure SlotWrites (l : List Fld) (n : Nat) (m m' : Mach) : Prop where
  rest : ∃ r p, m' = { m with regs := r, pwr := p }
  fields : FieldsBut (· ∈ l.map (·.key n)) m m'

namespace SlotWrites
variable {l : List Fld} {n : Nat} {m m' m'' : Mach}

theorem refl : SlotWrites l n m m := ⟨⟨_, _, rfl⟩, .refl⟩

theorem trans (h : SlotWrites l n m m') (h' : SlotWrites l n m' m'') : SlotWrites l n m m'' := by
  obtain ⟨⟨r, p, rfl⟩, hf⟩ := h
  obtain ⟨⟨r', p', rfl⟩, hf'⟩ := h'
  exact ⟨⟨r', p', rfl⟩, hf.trans hf'⟩

theorem ite {c : Prop} [Decidable c] {a b : Mach} (ha : SlotWrites l n m a) (hb : SlotWrites l n m b) : SlotWrites l n m (if c then a else b) := by
  split
  · exact ha
  · exact hb

theorem mono {l' : List Fld} (h : SlotWrites l n m m') (hl : l ⊆ l') : SlotWrites l' n m m' :=
  ⟨h.rest, h.fields.mono fun _ hk => List.map_subset _ hl hk⟩

/-- A register of the list written. -/
theorem setF (h : SlotWrites l n m m') {f : Fld} {v : Nat} (hf : f ∈ l) : SlotWrites l n m (setF m' f n v) :=
  h.trans ⟨⟨_, m'.pwr, rfl⟩, .setF v (List.mem_map_of_mem hf)⟩

/-- The power stage's state changed. -/
theorem setPwr (h : SlotWrites l n m m') {p : PwrSt} : SlotWrites l n m (setPwr m' n p) := h.trans ⟨⟨m'.regs, _, rfl⟩, .of_regs rfl⟩

section
variable (h : SlotWrites l n m m')
include h

theorem mem : m'.mem = m.mem := by obtain ⟨⟨_, _, rfl⟩, -⟩ := h; rfl
theorem cyc : m'.cyc = m.cyc := by obtain ⟨⟨_, _, rfl⟩, -⟩ := h; rfl
theorem axlSt : axlSt m' n = axlSt m n := by obtain ⟨⟨_, _, rfl⟩, -⟩ := h; rfl
theorem getV (f : Fld) (i : Nat) : getV m' f i = getV m f i := by obtain ⟨⟨_, _, rfl⟩, -⟩ := h; rfl

/-- Another register of the slot, of those that lie as far apart from slot to slot. -/
theorem other {g : Fld} (hg : ∀ f ∈ l, g.stride = f.stride ∧ g.key 0 ≠ f.key 0) : getF m' g n = getF m g n := by
  refine h.fields g n fun hmem => ?_
  obtain ⟨f, hf, hkey⟩ := List.mem_map.1 hmem
  exact Fld.key_ne_of_stride (hg f hf) n hkey.symm

/-- A register set apart from all those of the list. -/
theorem aside (hn : n < 16) {g : Fld} (hg : ∀ f ∈ l, f.key 15 < g.key 0 ∨ g.key 15 < f.key 0) : getF m' g n = getF m g n := by
  refine h.fields g n fun hmem => ?_
  obtain ⟨f, hf, hkey⟩ := List.mem_map.1 hmem
  have hf0 := f.key_mono (Nat.zero_le n)
  have hf15 := f.key_mono (show n ≤ 15 by omega)
  have hg0 := g.key_mono (Nat.zero_le n)
  have hg15 := g.key_mono (show n ≤ 15 by omega)
  rcases hg f hf with hlt | hlt <;> omega

end
end SlotWrites

/-! ## The state of an engine -/

/-- The state of an engine reads back. -/
@[simp] theorem axlSt_setAxl (m : Mach) (n : Nat) (a : AxlSt) : axlSt (setAxl m n a) n = a := sget_sput_self ..

/-- Without a commit that waits a pass begins with the values in force. -/
theorem takeCommit_none {m : Mach} {n : Nat} (h : getF m AXL_STAT_COMMIT_PEND n = 0) : takeCommit m n = m := by
  simp [takeCommit, onF, h]

section
variable {m : Mach} {n : Nat} (h : getF m AXL_TUNE_STAT_RUN n = 0)
include h

/-- Without an injection no point has one. -/
theorem injOn_idle (l : List Nat) : injOn m n l = false := by simp [injOn, onF, h]

theorem injAt_idle (p : Nat) : injAt m n p = 0 := by simp [injAt, injOn_idle h]

/-- A pass without an injection and without an integrator that was clamped ends as it stands. -/
theorem endPass_idle : endPass m n false = m := by simp [endPass, injDone, onF, h]

end

/-! ## Duties and voltages (09 R268, R276, R280) -/

/-- The registers that the duties of a pass write. -/
def dutyWrites : List Fld := [PWR_DUTY_A_DUTY, PWR_DUTY_B_DUTY, PWR_DUTY_C_DUTY, PWR_STAT_PEND]

/-- The registers that the current law writes in open-loop mode. -/
def lawWrites : List Fld :=
  [AXL_ID_VAL, AXL_IQ_VAL, AXL_THETA_THETA, AXL_VD_VAL, AXL_VQ_VAL, AXL_STAT_V_LIM, PWR_DUTY_A_DUTY, PWR_DUTY_B_DUTY, PWR_DUTY_C_DUTY, PWR_STAT_PEND]

theorem dutyF_written (x : Nat) : dutyF x ∈ dutyWrites := by
  unfold dutyF
  split <;> decide

theorem pendFlag_writes (m : Mach) (n : Nat) : SlotWrites dutyWrites n m (pendFlag m n) := .setF .refl (by decide)

theorem dutyWrite_writes (m : Mach) (n x v : Nat) : SlotWrites dutyWrites n m (dutyWrite m n x v) :=
  (SlotWrites.setPwr (.setF .refl (dutyF_written x))).trans (pendFlag_writes ..)

/-- The duties of a pass and their commit. -/
theorem engineDuties_writes (m : Mach) (n a b c : Nat) : SlotWrites dutyWrites n m (engineDuties m n a b c) := by
  have hduties := ((dutyWrite_writes m n 0 a).trans (dutyWrite_writes _ n 1 b)).trans (dutyWrite_writes _ n 2 c)
  exact hduties.trans (.ite .refl ((SlotWrites.setPwr .refl).trans (pendFlag_writes ..)))

/-- The voltage of the open-loop mode: OLV in force, held in its limit (09 R276). -/
def openVolt (m : Mach) (n : Nat) : Int := clampI (-(getV m AXL_VLIM_LIM n : Int)) (getV m AXL_VLIM_LIM n) (getVS m AXL_OLV_V n)

/-- The registers of slot `n` show the voltage `v` on the q axis and none on the d axis, and whether it meets the limit `l` (09 R271). -/
structure ShowsVolt (n : Nat) (v l : Int) (m : Mach) : Prop where
  vq : getS m AXL_VQ_VAL n = v
  vd : getF m AXL_VD_VAL n = 0
  lim : getF m AXL_STAT_V_LIM n = b2n (absI v == l)

/-- A voltage within a limit of 31 bits that is put is shown, whatever the duties. -/
theorem putVolt_shows {m m' : Mach} {n : Nat} {v l : Int} (hlo : -l ≤ v) (hhi : v ≤ l) (hl : l < 2 ^ 31)
    (h : SlotWrites dutyWrites n (putVolt m n 0 v (absI v == l)) m') : ShowsVolt n v l m' := by
  refine ⟨?_, ?_, ?_⟩
  · rw [getS, h.other (by decide), putVolt, passBit, setB, getF_setF_other (by decide)]
    exact getS_setS_self (f := AXL_VQ_VAL) (by decide) _ n (by change -2 ^ 31 ≤ v; omega) (lt_of_le_of_lt hhi hl)
  · rw [h.other (by decide), putVolt, passBit, setB, getF_setF_other (by decide), setS, getF_setF_other (by decide), setS, getF_setF_self]
    rfl
  · rw [h.other (by decide), putVolt, passBit, setB, getF_setF_self]
    cases absI v == l <;> rfl

/-- An engine enabled in open-loop mode, without an injection and with no disable and no local stop in progress. -/
structure OpenLoop (m : Mach) (n : Nat) : Prop where
  ending : (axlSt m n).ending = none
  stop : (axlSt m n).stop = none
  run : getF m AXL_TUNE_STAT_RUN n = 0
  state : getF m AXL_STAT_STATE n = 2
  mode : getF m AXL_MODE_LOOP_MODE n = 3
  chop : isChop m n = false

/-- From `m` to `m'` the state of engines alone has changed, and that of slot `n` has neither ended nor stopped anew. -/
structure EngineKeeps (n : Nat) (m m' : Mach) : Prop where
  rest : ∃ e, m' = { m with axl := e }
  ending : (axlSt m' n).ending = (axlSt m n).ending
  stop : (axlSt m' n).stop = (axlSt m n).stop

theorem EngineKeeps.setAxl (m : Mach) {n : Nat} {a : AxlSt} (hend : a.ending = (axlSt m n).ending) (hstop : a.stop = (axlSt m n).stop) :
    EngineKeeps n m (setAxl m n a) := ⟨⟨_, rfl⟩, by rw [axlSt_setAxl, hend], by rw [axlSt_setAxl, hstop]⟩

theorem EngineKeeps.trans {n : Nat} {m m' m'' : Mach} (h : EngineKeeps n m m') (h' : EngineKeeps n m' m'') : EngineKeeps n m m'' := by
  obtain ⟨⟨e, rfl⟩, hend, hstop⟩ := h
  obtain ⟨⟨e', rfl⟩, hend', hstop'⟩ := h'
  exact ⟨⟨e', rfl⟩, hend'.trans hend, hstop'.trans hstop⟩

theorem OpenLoop.of_engine {m m' : Mach} {n : Nat} (h : OpenLoop m n) (hk : EngineKeeps n m m') : OpenLoop m' n := by
  obtain ⟨⟨e, rfl⟩, hend, hstop⟩ := hk
  exact ⟨hend.trans h.ending, hstop.trans h.stop, h.run, h.state, h.mode, h.chop⟩

/-- A register of a slot that is none of those which that mode goes by. -/
abbrev besideLoop (f : Fld) : Prop :=
  (∀ g ∈ [AXL_MODE_LOOP_MODE, AXL_MODE_CUR_LAW, AXL_STAT_STATE], g.stride = f.stride ∧ g.key 0 ≠ f.key 0) ∧
    (f.key 15 < AXL_TUNE_STAT_RUN.key 0 ∨ AXL_TUNE_STAT_RUN.key 15 < f.key 0)

/-- Writes of such registers leave the engine in that mode. -/
theorem OpenLoop.of_writes {m m' : Mach} {n : Nat} (hn : n < 16) {l : List Fld} (h : OpenLoop m n) (hw : SlotWrites l n m m')
    (hl : ∀ f ∈ l, besideLoop f) : OpenLoop m' n := by
  have hread {g : Fld} (hg : g ∈ [AXL_MODE_LOOP_MODE, AXL_MODE_CUR_LAW, AXL_STAT_STATE]) : getF m' g n = getF m g n := hw.other fun f hf => (hl f hf).1 g hg
  refine ⟨?_, ?_, ?_, (hread (by decide)).trans h.state, (hread (by decide)).trans h.mode, ?_⟩
  · rw [hw.axlSt, h.ending]
  · rw [hw.axlSt, h.stop]
  · rw [hw.aside hn fun f hf => (hl f hf).2, h.run]
  · rw [isChop, hread (by decide), ← isChop, h.chop]

theorem lawWrites_beside : ∀ f ∈ lawWrites, besideLoop f := by decide

/-- The current law of the open-loop mode puts the voltage in force. -/
theorem curLaw_openLoop {m : Mach} {n : Nat} (hn : n < 16) (h : OpenLoop m n) (hl : (getV m AXL_VLIM_LIM n : Int) < 2 ^ 31) (th : Nat) :
    ∃ m', curLaw m n th = (false, m') ∧ SlotWrites lawWrites n m m' ∧ ShowsVolt n (openVolt m n) (getV m AXL_VLIM_LIM n) m' := by
  unfold curLaw
  extract_lets +onlyGivenNames a zero dc ia ib ic sc al be id iq m₁ iqr idr vlim
  have h₁ : SlotWrites lawWrites n m m₁ := .setF (.setF (.setF .refl (by decide)) (by decide)) (by decide)
  have hopen : OpenLoop m₁ n := h.of_writes hn h₁ lawWrites_beside
  rw [if_neg (by simp [hopen.chop]), if_pos ⟨hopen.mode, by simp [a, h.stop]⟩]
  extract_lets +onlyGivenNames x vq m₂
  have hvq : vq = openVolt m n := by
    have hx : x = getVS m₁ AXL_OLV_V n := by simp [x, zero, a, h.ending, injAt_idle hopen.run]
    simp only [vq, hx]; rfl
  have hput : SlotWrites lawWrites n m₁ m₂ := .setF (.setF (.setF .refl (by decide)) (by decide)) (by decide)
  have hduties : SlotWrites dutyWrites n m₂ (if dc = true then dcDuties m₂ n vq else phaseDuties m₂ n 0 vq sc.1 sc.2) :=
    .ite (engineDuties_writes ..) (engineDuties_writes ..)
  obtain ⟨hlo, hhi⟩ := clampI_bounds (Int.natCast_nonneg (getV m AXL_VLIM_LIM n)) (getVS m AXL_OLV_V n)
  refine ⟨_, rfl, (h₁.trans hput).trans (hduties.mono (by decide)), putVolt_shows (m := m₁) hlo hhi hl ?_⟩
  change SlotWrites dutyWrites n (putVolt m₁ n 0 (openVolt m n) (absI (openVolt m n) == vlim)) _
  rw [← hvq]
  exact hduties

/-- A pass that comes to this law ends with the voltage shown: no integrator is clamped, and no injection runs. -/
theorem endPass_openLoop {m : Mach} {n : Nat} (hn : n < 16) (h : OpenLoop m n) (hl : (getV m AXL_VLIM_LIM n : Int) < 2 ^ 31) (th : Nat) :
    ∃ m', curLaw m n th = (false, m') ∧ endPass m' n false = m' ∧ SlotWrites lawWrites n m m' ∧ ShowsVolt n (openVolt m n) (getV m AXL_VLIM_LIM n) m' := by
  obtain ⟨m', hlaw, hw, hshow⟩ := curLaw_openLoop hn h hl th
  exact ⟨m', hlaw, endPass_idle (h.of_writes hn hw lawWrites_beside).run, hw, hshow⟩

/-! ## PVC_PASS (09 R267, R289) -/

/-- A slot without an engine of its own does no pass. -/
theorem pvcPass_noPort {m : Mach} {n : Nat} (h : slotPort m n = none) (k : Nat) (d : Bool) : pvcPass n k d m = m := by
  rw [pvcPass, h]

/-- The engine with the word of its encoder taken (09 R283, R289). -/
def wordTaken (m : Mach) (n p : Nat) : Mach :=
  setAxl (advanceR m n (encC m p)) n { axlSt (advanceR m n (encC m p)) n with miss := 0, vMeas := getS m ENC_SPD_V p }

/-- A word taken goes to the engine's state, and ends the run of misses. -/
theorem wordTaken_keeps (m : Mach) (n p : Nat) : EngineKeeps n m (wordTaken m n p) ∧ (axlSt (wordTaken m n p) n).vMeas = getS m ENC_SPD_V p ∧
    (axlSt (wordTaken m n p) n).miss = 0 := by
  have hadvance : EngineKeeps n m (advanceR m n (encC m p)) := .setAxl m rfl rfl
  refine ⟨hadvance.trans (.setAxl _ rfl rfl), ?_, ?_⟩
  · rw [wordTaken, axlSt_setAxl]
  · rw [wordTaken, axlSt_setAxl]

/-- No clamp of a limit input is in force on slot `n`. -/
def unclamped (m : Mach) (n : Nat) : Prop := (sget m.lims n {}).pos = none ∧ (sget m.lims n {}).neg = none ∧ (sget m.lims n {}).both = none

/-- Without a clamp in force nothing of a reference is held, and nothing is told. -/
theorem limitClamp_none {m : Mach} {n : Nat} (h : unclamped m n) (p v : Int) : limitClamp m n p v = (m, p, v) := by
  obtain ⟨hpos, hneg, hboth⟩ := h
  simp [limitClamp, hpos, hneg, hboth]

/-- Outside position mode a measured speed within its limit is no fault. -/
theorem supervise_none {m : Mach} {n : Nat} (hm : getF m AXL_MODE_LOOP_MODE n ≠ 0) (hv : absI (axlSt m n).vMeas ≤ getV m AXL_VMEAS_MAX_MAX n) (ep : Int) :
    supervise m n ep = setAxl m n { axlSt m n with follow := 0 } := by
  simp [supervise, hm, hv]

/-- In open-loop mode a position evaluation keeps the reference alone. -/
theorem posEval_openLoop {m : Mach} {n : Nat} (h : OpenLoop m n) (hc : unclamped m n) (hv : absI (axlSt m n).vMeas ≤ getV m AXL_VMEAS_MAX_MAX n) (k c : Nat) :
    ∃ m', posEval m n k c = (false, m') ∧ EngineKeeps n m m' ∧ (axlSt m' n).vMeas = (axlSt m n).vMeas ∧ (axlSt m' n).miss = (axlSt m n).miss := by
  let r := reference m n k
  let m₁ := setAxl m n { axlSt m n with pRef := r.1 + injAt m n 0, vRef := r.2.1 }
  have hk₁ : EngineKeeps n m m₁ := .setAxl m rfl rfl
  have hm₁ : axlSt m₁ n = { axlSt m n with pRef := r.1 + injAt m n 0, vRef := r.2.1 } := axlSt_setAxl ..
  have h₁ := h.of_engine hk₁
  have hsup : ∀ ep, supervise m₁ n ep = setAxl m₁ n { axlSt m₁ n with follow := 0 } :=
    supervise_none (by rw [h₁.mode]; decide) (by rw [hm₁]; exact hv)
  have hk₂ : EngineKeeps n m₁ (setAxl m₁ n { axlSt m₁ n with follow := 0 }) := .setAxl m₁ rfl rfl
  have hstate : getF (setAxl m₁ n { axlSt m₁ n with follow := 0 }) AXL_STAT_STATE n = 2 := (h₁.of_engine hk₂).state
  refine ⟨setAxl m₁ n { axlSt m₁ n with follow := 0 }, ?_, hk₁.trans hk₂, ?_, ?_⟩
  · unfold posEval
    extract_lets +onlyGivenNames m₀ mode x r' l m₃ ep
    have hm₀ : m₀ = m := if_neg (by simp [injOn_idle h.run])
    clear_value m₀
    subst hm₀
    have hmode : mode = 3 := h.mode
    have hl : l = (m₀, r.1 + injAt m₀ n 0, r.2.1) := limitClamp_none hc ..
    clear_value l
    subst hl
    rw [show x.stop = none from h.stop]
    have hne : ∀ i, i < 3 → mode ≠ i := by omega
    change (if getF (supervise (if mode = 0 then setS m₁ AXL_PERR_VAL n ep else m₁) n ep) AXL_STAT_STATE n = 0 then _ else _) = _
    rw [if_neg (hne 0 (by decide)), hsup, hstate, if_neg (by decide), if_neg (hne 0 (by decide)), if_neg (hne 1 (by decide)), if_neg (hne 2 (by decide))]
  · rw [axlSt_setAxl, hm₁]
  · rw [axlSt_setAxl, hm₁]

section
variable {m : Mach} {n k p : Nat} (hn : n < 16) (hp : slotPort m n = some p) (hk : k < posN m n) (hc : getF m AXL_STAT_COMMIT_PEND n = 0)
include hn hp hk hc

/-- An engine that is off does no pass. -/
theorem pvcPass_off (h : getF m AXL_STAT_STATE n = 0) : pvcPass n k false m = m := by
  simp [pvcPass, hp, Nat.not_le.2 hn, Nat.not_le.2 hk, takeCommit_none hc, h]

/-- The pass of an engine that waits for its first word counts a miss. -/
theorem pvcPass_missed (hs : getF m AXL_STAT_STATE n = 1) (hv : getF m ENC_STAT_VALID p = 0) (h : getF (missedWord m n) AXL_STAT_STATE n < 2) :
    pvcPass n k false m = missedWord m n := by
  simp [pvcPass, hp, Nat.not_le.2 hn, Nat.not_le.2 hk, takeCommit_none hc, hs, onF, hv, h]

/-- The pass of an enabled engine with a word: the position evaluation and then the current law, here where neither clamps an integrator and the
engine stays enabled. -/
theorem pvcPass_evaluated (hs : getF m AXL_STAT_STATE n = 2) (hv : getF m ENC_STAT_VALID p = 1) (hend : (axlSt m n).ending = none) {m₁ m₂ : Mach}
    (heval : posEval (wordTaken m n p) n k (encC m p) = (false, m₁)) (hs₁ : getF m₁ AXL_STAT_STATE n = 2)
    (hlaw : curLaw m₁ n (elecAngle m₁ n 0) = (false, m₂)) : pvcPass n k false m = endPass m₂ n false := by
  obtain ⟨hkeep, -, -⟩ := wordTaken_keeps m n p
  have hword : (axlSt (wordTaken m n p) n).ending = none := hkeep.ending.trans hend
  have hstate : getF (wordTaken m n p) AXL_STAT_STATE n = 2 := hs
  rw [pvcPass, hp]
  change (if 16 ≤ n ∨ posN m n ≤ k then m else _) = _
  rw [if_neg (by omega)]
  extract_lets +onlyGivenNames m₀
  have hm₀ : m₀ = m := takeCommit_none hc
  clear_value m₀
  subst hm₀
  rw [if_neg (by rw [hs]; decide), if_neg (by simp [onF, hv])]
  extract_lets +onlyGivenNames c m₃ x m₄ m₅ q r
  have hm₅ : m₅ = wordTaken m₀ n p := if_neg (by change getF m₀ _ n ≠ 1; rw [hs]; decide)
  clear_value m₅
  subst hm₅
  have hq : q = (false, m₁) := (if_neg (by rw [hword]; decide)).trans heval
  clear_value q
  subst hq
  have hr : r = (false, m₂) := hlaw
  rw [if_neg (by rw [hstate]; decide), if_neg (by rw [hs₁]; decide), hr]
  rfl

/-- The pass of an engine in open-loop mode with a word puts its voltage and keeps the measured speed. -/
theorem pvcPass_openLoop (h : OpenLoop m n) (hl : (getV m AXL_VLIM_LIM n : Int) < 2 ^ 31) (hv : getF m ENC_STAT_VALID p = 1)
    (hs : absI (getS m ENC_SPD_V p) ≤ getV m AXL_VMEAS_MAX_MAX n) (hcl : unclamped m n) :
    ShowsVolt n (openVolt m n) (getV m AXL_VLIM_LIM n) (pvcPass n k false m) ∧ (axlSt (pvcPass n k false m) n).vMeas = getS m ENC_SPD_V p ∧
      (axlSt (pvcPass n k false m) n).miss = 0 ∧ (pvcPass n k false m).mem = m.mem := by
  obtain ⟨hkeep, hspeed, hmiss⟩ := wordTaken_keeps m n p
  have hclear : unclamped (wordTaken m n p) n := hcl
  have hslow : absI (axlSt (wordTaken m n p) n).vMeas ≤ getV (wordTaken m n p) AXL_VMEAS_MAX_MAX n := by rw [hspeed]; exact hs
  obtain ⟨m₁, heval, hkeep₁, hspeed₁, hmiss₁⟩ := posEval_openLoop (h.of_engine hkeep) hclear hslow k (encC m p)
  have hk₁ := hkeep.trans hkeep₁
  have h₁ := h.of_engine hk₁
  obtain ⟨e, he⟩ := hk₁.rest
  obtain ⟨m₂, hlaw, hend, hw, hshow⟩ := endPass_openLoop hn h₁ (by rw [he]; exact hl) (elecAngle m₁ n 0)
  rw [pvcPass_evaluated hn hp hk hc h.state hv h.ending heval h₁.state hlaw, hend]
  refine ⟨?_, ?_, ?_, ?_⟩
  · rw [he] at hshow; exact hshow
  · rw [hw.axlSt, hspeed₁, hspeed]
  · rw [hw.axlSt, hmiss₁, hmiss]
  · rw [hw.mem, he]

end

/-! ## The main filters (10 R321 to R324) -/

/-- The output of the main filter of a channel (10 R321, R322). -/
def mainCurrent (m : Mach) (n ch : Nat) (bits : List Bool) : Int := sdValue m n ch 3 (getF m PWR_SD_CFG_OSR n + 3) bits

/-- A channel of slot `n` with an output that is valid. -/
def channelShown (m : Mach) (n ch : Nat) (v : Int) : Mach :=
  setF (setS m (curF ch) n v) PWR_STAT_SD_VALID n (getF m PWR_STAT_SD_VALID n ||| 2 ^ ch)

/-- The registers that the outputs of the main filters write. -/
def currentWrites : List Fld := [PWR_CUR_A_I, PWR_CUR_B_I, PWR_CUR_C_I, PWR_STAT_SD_VALID]

theorem currentWrites_beside : ∀ f ∈ currentWrites, besideLoop f := by decide

/-- The set-up of the filters. -/
def filterFields : List Fld := [PWR_SD_CFG_EN, PWR_SD_CFG_OSR, PWR_SD_OFF_A_OFF, PWR_SD_OFF_B_OFF, PWR_SD_OFF_C_OFF]

theorem currentWrites_apart : ∀ f ∈ currentWrites, ∀ g ∈ filterFields, g.stride = f.stride ∧ g.key 0 ≠ f.key 0 := by decide

theorem sdOffF_setUp (ch : Nat) : sdOffF ch ∈ filterFields := by
  unfold sdOffF
  split <;> decide

theorem curF_written (ch : Nat) : curF ch ∈ currentWrites := by
  unfold curF
  split <;> decide

theorem channelShown_writes (m : Mach) (n ch : Nat) (v : Int) : SlotWrites [curF ch, PWR_STAT_SD_VALID] n m (channelShown m n ch v) :=
  .setF (.setF .refl (.head _)) (.tail _ (.head _))

/-- Both are among the registers of the outputs. -/
theorem channelShown_currentWrites (m : Mach) (n ch : Nat) (v : Int) : SlotWrites currentWrites n m (channelShown m n ch v) :=
  (channelShown_writes m n ch v).mono (List.cons_subset.2 ⟨curF_written ch, by decide⟩)

/-- The output of a channel reads back. -/
theorem channelShown_current (m m' : Mach) (n ch : Nat) (bits : List Bool) :
    getS (channelShown m n ch (mainCurrent m' n ch bits)) (curF ch) n = mainCurrent m' n ch bits := by
  have hplace : ((curF ch).stride = PWR_STAT_SD_VALID.stride ∧ (curF ch).key 0 ≠ PWR_STAT_SD_VALID.key 0) ∧ (curF ch).w = 32 := by
    unfold curF
    split <;> decide
  obtain ⟨hother, hw⟩ := hplace
  obtain ⟨hlo, hhi⟩ := sat_bounds (sincSum 3 (2 ^ (getF m' PWR_SD_CFG_OSR n + 3)) bits * 2 ^ (30 - 3 * (getF m' PWR_SD_CFG_OSR n + 3)) - getS m' (sdOffF ch) n)
  rw [getS, channelShown, getF_setF_other hother]
  exact getS_setS_self (by omega) m n (by rw [hw]; exact hlo) (by rw [hw]; exact hhi)

/-- Its valid bit joins those of the others. -/
theorem channelShown_valid (m : Mach) (n ch : Nat) (v : Int) :
    getF (channelShown m n ch v) PWR_STAT_SD_VALID n = (getF m PWR_STAT_SD_VALID n ||| 2 ^ ch) % 8 := getF_setF_self ..

/-- Registers that hold the set-up of the filters alike give the same output. -/
theorem mainCurrent_of_setUp {m m' : Mach} {n : Nat} (h : ∀ g ∈ filterFields, getF m' g n = getF m g n) (ch : Nat) (bits : List Bool) :
    mainCurrent m' n ch bits = mainCurrent m n ch bits := by
  simp only [mainCurrent, sdValue, getS, h _ (sdOffF_setUp ch), h PWR_SD_CFG_OSR (by decide)]

section
variable {m : Mach} {n : Nat} (hen : getF m PWR_SD_CFG_EN n = 7) (hok : (pwrSt m n).sdFail = 0)
include hen hok

/-- A channel that is enabled and sound shows its output. -/
theorem mainOutput_sound {ch : Nat} (hch : ch < 3) (bits : List Bool) : mainOutput m n ch bits = channelShown m n ch (mainCurrent m n ch bits) := by
  have hbit : Nat.testBit 7 ch = true := by
    have hall : ∀ i, i < 3 → Nat.testBit 7 i = true := by decide
    exact hall ch hch
  have hvalid : getF (setS m (curF ch) n (mainCurrent m n ch bits)) PWR_STAT_SD_VALID n = getF m PWR_STAT_SD_VALID n := by
    refine getF_setF_other ?_ ..
    unfold curF
    split <;> decide
  rw [mainOutput, hen, hbit, Bool.not_true, if_neg Bool.false_ne_true]
  change sdValid (setS m (curF ch) n (mainCurrent m n ch bits)) n ch = _
  rw [sdValid, if_neg, channelShown, hvalid]
  change ¬ (pwrSt m n).sdFail.testBit ch = true
  simp [hok]

/-- The outputs of the three channels of a slot that is enabled and sound: each its own current, and all of them valid. -/
theorem mainOutput_currents (a b c : List Bool) :
    ∃ m', mainOutput (mainOutput (mainOutput m n 0 a) n 1 b) n 2 c = m' ∧ SlotWrites currentWrites n m m' ∧
      getS m' PWR_CUR_A_I n = mainCurrent m n 0 a ∧ getS m' PWR_CUR_B_I n = mainCurrent m n 1 b ∧
      getS m' PWR_CUR_C_I n = mainCurrent m n 2 c ∧ getF m' PWR_STAT_SD_VALID n = 7 := by
  let m₁ := channelShown m n 0 (mainCurrent m n 0 a)
  let m₂ := channelShown m₁ n 1 (mainCurrent m n 1 b)
  let m₃ := channelShown m₂ n 2 (mainCurrent m n 2 c)
  have h₁ : SlotWrites currentWrites n m m₁ := channelShown_currentWrites ..
  have h₂ : SlotWrites currentWrites n m m₂ := h₁.trans (channelShown_currentWrites ..)
  have h₃ : SlotWrites currentWrites n m m₃ := h₂.trans (channelShown_currentWrites ..)
  have hsetup {m' : Mach} (h : SlotWrites currentWrites n m m') : ∀ g ∈ filterFields, getF m' g n = getF m g n :=
    fun g hg => h.other fun f hf => currentWrites_apart f hf g hg
  have heq : mainOutput (mainOutput (mainOutput m n 0 a) n 1 b) n 2 c = m₃ := by
    rw [mainOutput_sound hen hok (by decide)]
    change mainOutput (mainOutput m₁ n 1 b) n 2 c = m₃
    rw [mainOutput_sound ((hsetup h₁ _ (by decide)).trans hen) hok (by decide), mainCurrent_of_setUp (hsetup h₁)]
    change mainOutput m₂ n 2 c = m₃
    rw [mainOutput_sound ((hsetup h₂ _ (by decide)).trans hen) hok (by decide), mainCurrent_of_setUp (hsetup h₂)]
  have hother₂ {g : Fld} (hg : ∀ f ∈ [PWR_CUR_B_I, PWR_STAT_SD_VALID], g.stride = f.stride ∧ g.key 0 ≠ f.key 0) : getF m₂ g n = getF m₁ g n :=
    (channelShown_writes ..).other hg
  have hother₃ {g : Fld} (hg : ∀ f ∈ [PWR_CUR_C_I, PWR_STAT_SD_VALID], g.stride = f.stride ∧ g.key 0 ≠ f.key 0) : getF m₃ g n = getF m₂ g n :=
    (channelShown_writes ..).other hg
  have hvalid : ∀ x, x < 8 → (((x ||| 2 ^ 0) % 8 ||| 2 ^ 1) % 8 ||| 2 ^ 2) % 8 = 7 := by decide
  refine ⟨m₃, heq, h₃, ?_, ?_, channelShown_current m₂ m n 2 c, ?_⟩
  · rw [getS, hother₃ (by decide), hother₂ (by decide)]
    exact channelShown_current m m n 0 a
  · rw [getS, hother₃ (by decide)]
    exact channelShown_current m₁ m n 1 b
  · rw [channelShown_valid, channelShown_valid, channelShown_valid]
    exact hvalid _ (getF_lt m PWR_STAT_SD_VALID n)

end

/-! ## C_PASS (09 R267, 10 R323) -/

/-- The record of an axis ends the reports of its faults, and leaves every engine otherwise. -/
theorem axisRecord_axlSt (m : Mach) (a : AxisRec) (n : Nat) : ∃ r, axlSt (axisRecord m a).2 n = { axlSt m n with recFlags := r } := by
  change ∃ r, axlSt (setAxl m a.slot { axlSt m a.slot with recFlags := 0 }) n = _
  by_cases h : n = a.slot
  · exact ⟨0, by rw [h, axlSt_setAxl]⟩
  · exact ⟨(axlSt m n).recFlags, sget_sput_ne _ _ _ h⟩

/-- So does the payload of AXIS_STATE. -/
theorem statePayload_axlSt (m : Mach) (n : Nat) : ∃ r, axlSt (statePayload m).2 n = { axlSt m n with recFlags := r } := by
  have key : ∀ (l : List AxisRec) (b : List Nat) (m : Mach), ∃ r, axlSt (l.foldl (fun (x : List Nat × Mach) a =>
      let y := axisRecord x.2 a
      (x.1 ++ y.1, y.2)) (b, m)).2 n = { axlSt m n with recFlags := r } := by
    intro l
    induction l with
    | nil => exact fun _ m => ⟨(axlSt m n).recFlags, rfl⟩
    | cons a l ih =>
      intro b m
      obtain ⟨r, h⟩ := axisRecord_axlSt m a n
      obtain ⟨r', h'⟩ := ih (b ++ (axisRecord m a).1) (axisRecord m a).2
      exact ⟨r', by rw [List.foldl_cons, h', h]⟩
  exact key _ _ _

/-- Time that passes may assemble that payload. -/
theorem passTo_axlSt (m : Mach) (t n : Nat) : ∃ r, axlSt (passTo m t) n = { axlSt m n with recFlags := r } := by
  unfold passTo
  split
  · split
    · exact statePayload_axlSt m n
    · exact ⟨_, rfl⟩
  · exact ⟨_, rfl⟩

/-- Where no window of the main filters ends nothing happens. -/
theorem cPass_notDue {m : Mach} {n t : Nat} (h : mainDue m n t = false) (a b c : List Bool) (d : Bool) : cPass n a b c t d m = m := by
  rw [cPass, if_pos (by simp [h])]

/-- The slot at tick `t`, at which the window of its main filters ends. -/
def windowEnd (m : Mach) (n t : Nat) : Mach := passTo (setPwr m n { pwrSt m n with sync := none }) t

/-- The end of a window leaves the registers, the values in force, memory and the channels' failures, and an engine in open-loop mode. -/
theorem windowEnd_keeps (m : Mach) (n t : Nat) : (windowEnd m n t).mem = m.mem ∧ (windowEnd m n t).cyc.now = max m.cyc.now t ∧
    (windowEnd m n t).force = m.force ∧ (windowEnd m n t).regs = m.regs ∧ (pwrSt (windowEnd m n t) n).sdFail = (pwrSt m n).sdFail ∧
    (OpenLoop m n → OpenLoop (windowEnd m n t) n) := by
  obtain ⟨hmem, hcyc, hforce, hregs, hpwr⟩ := passTo_facts (setPwr m n { pwrSt m n with sync := none }) t
  obtain ⟨r, haxl⟩ := passTo_axlSt (setPwr m n { pwrSt m n with sync := none }) t n
  refine ⟨hmem, by rw [windowEnd, hcyc]; rfl, hforce, hregs, ?_, fun h => ?_⟩
  · rw [windowEnd, pwrSt, hpwr]
    change (pwrSt (setPwr m n { pwrSt m n with sync := none }) n).sdFail = _
    rw [pwrSt_setPwr]
  · have hf (f : Fld) : getF (windowEnd m n t) f n = getF m f n := getF_of_regs hregs f n
    refine ⟨?_, ?_, (hf _).trans h.run, (hf _).trans h.state, (hf _).trans h.mode, (congrArg (· == 1) (hf _)).trans h.chop⟩
    · rw [windowEnd, haxl]; exact h.ending
    · rw [windowEnd, haxl]; exact h.stop

/-- The pass of an engine in open-loop mode without an injection: the outputs of the filters, and the current law on them. -/
theorem cPass_law {m : Mach} {n t : Nat} (hn : n < 16) (hd : mainDue m n t = true) (a b c : List Bool) {m₁ m₂ : Mach}
    (hout : mainOutput (mainOutput (mainOutput (windowEnd m n t) n 0 a) n 1 b) n 2 c = m₁) (h : OpenLoop m₁ n)
    (hc : getF m₁ AXL_STAT_COMMIT_PEND n = 0) (hlaw : curLaw m₁ n (elecAngle m₁ n (m₁.cyc.now - (axlSt m₁ n).passT)) = (false, m₂))
    (hend : (axlSt m₂ n).ending = none) : cPass n a b c t false m = endPass m₂ n false := by
  rw [cPass, if_neg (by simp [hd, Nat.not_le.2 hn])]
  extract_lets +onlyGivenNames x m₃ m₄ m₅
  have hm₅ : m₅ = m₁ := hout
  clear_value m₅
  subst hm₅
  rw [if_neg (by rw [h.state]; decide)]
  extract_lets +onlyGivenNames m₆ m₇ y m₈ r
  have hm₆ : m₆ = m₅ := takeCommit_none hc
  clear_value m₆
  subst hm₆
  have hm₇ : m₇ = m₆ := if_neg (by simp [injOn_idle h.run])
  clear_value m₇
  subst hm₇
  have hm₈ : m₈ = m₇ := by
    have hmode := h.mode
    refine (if_neg ?_).trans ((if_neg ?_).trans (if_neg ?_))
    · simp [y, h.ending]
    · omega
    · omega
  clear_value m₈
  subst hm₈
  have hr : r = (false, m₂) := hlaw
  clear_value r
  subst hr
  split
  case h_1 cause hsome => exact absurd (hsome.symm.trans hend) (by simp)
  case h_2 => rfl

/-- The pass of an engine in open-loop mode puts its voltage, and shows the currents of its three channels. -/
theorem cPass_openLoop {m : Mach} {n t : Nat} (hn : n < 16) (h : OpenLoop m n) (hc : getF m AXL_STAT_COMMIT_PEND n = 0)
    (hl : (getV m AXL_VLIM_LIM n : Int) < 2 ^ 31) (hd : mainDue m n t = true) (hok : (pwrSt m n).sdFail = 0) (hen : getF m PWR_SD_CFG_EN n = 7)
    (a b c : List Bool) :
    ∃ m', cPass n a b c t false m = m' ∧ ShowsVolt n (openVolt m n) (getV m AXL_VLIM_LIM n) m' ∧ getS m' PWR_CUR_A_I n = mainCurrent m n 0 a ∧
      getS m' PWR_CUR_B_I n = mainCurrent m n 1 b ∧ getS m' PWR_CUR_C_I n = mainCurrent m n 2 c ∧ getF m' PWR_STAT_SD_VALID n = 7 ∧
      m'.cyc.now = max m.cyc.now t ∧ m'.mem = m.mem := by
  obtain ⟨hmem, hnow, hforce, hregs, hfail, hloop⟩ := windowEnd_keeps m n t
  have hf (f : Fld) : getF (windowEnd m n t) f n = getF m f n := getF_of_regs hregs f n
  have hV (f : Fld) : getV (windowEnd m n t) f n = getV m f n := getV_of_force hforce f n
  obtain ⟨m₁, hout, hw₁, hA, hB, hC, hvalid⟩ := mainOutput_currents ((hf _).trans hen) (hfail.trans hok) a b c
  simp only [mainCurrent_of_setUp fun g _ => hf g] at hA hB hC
  have h₁ : OpenLoop m₁ n := (hloop h).of_writes hn hw₁ currentWrites_beside
  have hc₁ : getF m₁ AXL_STAT_COMMIT_PEND n = 0 := (hw₁.other (by decide)).trans ((hf _).trans hc)
  have hV₁ (f : Fld) : getV m₁ f n = getV m f n := (hw₁.getV f n).trans (hV f)
  have hvolt : openVolt m₁ n = openVolt m n := by simp only [openVolt, getVS, hV₁]
  obtain ⟨m₂, hlaw, hend, hw₂, hshow⟩ := endPass_openLoop hn h₁ (by rw [hV₁]; exact hl) (elecAngle m₁ n (m₁.cyc.now - (axlSt m₁ n).passT))
  rw [hvolt, hV₁] at hshow
  have hcur (f : Fld) (hg : ∀ g ∈ lawWrites, f.stride = g.stride ∧ f.key 0 ≠ g.key 0) : getF m₂ f n = getF m₁ f n := hw₂.other hg
  refine ⟨m₂, ?_, hshow, ?_, ?_, ?_, ?_, ?_, ?_⟩
  · rw [cPass_law hn hd a b c hout h₁ hc₁ hlaw (by rw [hw₂.axlSt]; exact h₁.ending), hend]
  · rw [getS, hcur _ (by decide)]; exact hA
  · rw [getS, hcur _ (by decide)]; exact hB
  · rw [getS, hcur _ (by decide)]; exact hC
  · rw [hcur _ (by decide), hvalid]
  · rw [hw₂.cyc, hw₁.cyc, hnow]
  · rw [hw₂.mem, hw₁.mem, hmem]

/-! ## The velocity law (09 R279) -/

/-- The exact output of the velocity law, before its limits. -/
def velOut (m : Mach) (n : Nat) (aref : Int) : Int :=
  coef m n AXL_KVP_K (shA m n 4) (sat 32 (getS m AXL_VCMD_VAL n - (axlSt m n).vMeas)) + getS m AXL_VINT_VAL n + feedForward m n aref

/-- iq_ref from it. -/
def velRef (m : Mach) (n : Nat) (aref : Int) : Int := limTo m n AXL_IQ_LIM_LIM (sat 32 (velOut m n aref + injAt m n 2))

/-- The next value of the integrator, before its limit. -/
def velSum (m : Mach) (n : Nat) (aref : Int) : Int :=
  getS m AXL_VINT_VAL n + coef m n AXL_KVI_K (shA m n 5) (sat 32 (getS m AXL_VCMD_VAL n - (axlSt m n).vMeas)) +
    coef m n AXL_KBC_K (shB m n 0) (sat 32 (velRef m n aref - velOut m n aref))

/-- iq_ref reads back where its limit leaves the sign bit free. -/
theorem putIqRef_iqRef {m : Mach} {n : Nat} {x : Int} (hx : (axlSt m n).accIq + injAt m n 2 = x) (hl : (getV m AXL_IQ_LIM_LIM n : Int) < 2 ^ 31) :
    getS (putIqRef m n) AXL_IQREF_VAL n = limTo m n AXL_IQ_LIM_LIM (sat 32 x) := by
  obtain ⟨hlo, hhi⟩ := clampI_bounds (Int.natCast_nonneg (getV m AXL_IQ_LIM_LIM n)) (sat 32 x)
  subst hx
  exact getS_setS_self (f := AXL_IQREF_VAL) (by decide) _ n (by change -2 ^ 31 ≤ _; unfold limTo; omega) (lt_of_le_of_lt hhi hl)

/-- The velocity law shows iq_ref and the integrator, each held in its limit, and leaves memory. -/
theorem velLaw_shows {m : Mach} {n : Nat} (aref : Int) (hl : (getV m AXL_IQ_LIM_LIM n : Int) < 2 ^ 31) :
    getS (velLaw m n aref).2 AXL_IQREF_VAL n = velRef m n aref ∧
      getS (velLaw m n aref).2 AXL_VINT_VAL n = sat 32 (limTo m n AXL_INT_LIM_LIM (velSum m n aref)) ∧ (velLaw m n aref).2.mem = m.mem := by
  let m₁ := setAxl m n { axlSt m n with accIq := velOut m n aref }
  have hacc : (axlSt m₁ n).accIq + injAt m₁ n 2 = velOut m n aref + injAt m n 2 := by
    have hst : axlSt m₁ n = { axlSt m n with accIq := velOut m n aref } := axlSt_setAxl ..
    have hon : injOn m₁ n [2] = injOn m n [2] := rfl
    rw [injAt, injAt, hst, hon]
  have href : getS (putIqRef m₁ n) AXL_IQREF_VAL n = velRef m n aref := putIqRef_iqRef hacc hl
  have heq : (velLaw m n aref).2 = setS (putIqRef m₁ n) AXL_VINT_VAL n (sat 32 (limTo m n AXL_INT_LIM_LIM (velSum m n aref))) := by
    rw [velSum, ← href]; rfl
  obtain ⟨hlo, hhi⟩ := sat_bounds (limTo m n AXL_INT_LIM_LIM (velSum m n aref))
  rw [heq]
  refine ⟨?_, getS_setS_self (f := AXL_VINT_VAL) (by decide) _ n hlo hhi, rfl⟩
  rw [getS, setS, getF_setF_other (by decide)]
  exact href

/-! ## What is pending stays pending (21 R590) -/

/-- The sources that are pending in `m` are so in `m'`. -/
structure PendGrows (m m' : Mach) : Prop where
  keeps : ∀ k ∈ m.intc.pend, k ∈ m'.intc.pend

namespace PendGrows
variable {m m' m'' : Mach}

/-- The interrupt controller is as it was. -/
theorem of_intc (h : m'.intc = m.intc) : PendGrows m m' := ⟨fun k hk => by rw [h]; exact hk⟩

theorem refl : PendGrows m m := .of_intc rfl

theorem trans (h : PendGrows m m') (h' : PendGrows m' m'') : PendGrows m m'' := ⟨fun k hk => h'.keeps k (h.keeps k hk)⟩

theorem ite {c : Prop} [Decidable c] {a b : Mach} (ha : PendGrows m a) (hb : PendGrows m b) : PendGrows m (if c then a else b) := by
  split
  · exact ha
  · exact hb

theorem foldl {α : Type} {f : Mach → α → Mach} {l : List α} (h : ∀ x m, PendGrows m (f m x)) (m : Mach) : PendGrows m (l.foldl f m) :=
  foldl_related (R := PendGrows) (fun _ => refl) trans (fun x _ => h x) m

theorem setF (h : PendGrows m m') {f : Fld} {i v : Nat} : PendGrows m (setF m' f i v) := h.trans (.of_intc rfl)
theorem memb (h : PendGrows m m') {b : MemSt} : PendGrows m { m' with memb := b } := h.trans (.of_intc rfl)
theorem wrByte (h : PendGrows m m') {a v : Nat} : PendGrows m (wrByte m' a v) := h.trans (.of_intc rfl)
theorem fresh (h : PendGrows m m') {w : Nat} : PendGrows m (fresh m' w).2 := h.trans (.of_intc rfl)

/-- A further event. -/
theorem irq (h : PendGrows m m') {n : Nat} : PendGrows m (irq m' n) := by
  refine h.trans ⟨fun k hk => ?_⟩
  by_cases hn : n ∈ m'.intc.pend
  · rw [irq_of_mem hn]; exact hk
  · rw [irq_of_not_mem hn]; exact (mem_insNat ..).2 (.inr hk)

theorem report (h : PendGrows m m') {code cls kind id detail index : Nat} : PendGrows m (report m' code cls kind id detail index) :=
  h.trans (.of_intc (report_reported ..).intc)

end PendGrows

theorem corrected_pend (m : Mach) (region : Nat) (pos : List Nat) : PendGrows m (corrected m region pos) := by
  unfold corrected
  extract_lets m₁ lo hi m₂ thr m₃
  have h₂ : PendGrows m m₂ := .setF (.setF (.setF (.setF .refl)))
  exact .ite (.memb (.irq (.report h₂))) h₂

theorem uncorrectable_pend (m : Mach) (k region source port : Nat) : PendGrows m (uncorrectable m k region source port) := by
  unfold uncorrectable
  extract_lets own m₁ m₂ m₃
  have h₂ : PendGrows m m₂ := .setF (.setF (.setF (.setF (.setF (.setF .refl)))))
  exact .report (.irq (.memb h₂))

theorem flipData_pend (m : Mach) (k : Nat) (l : List Nat) : PendGrows m (flipData m k l) :=
  .ite (.memb .refl) (.foldl (fun _ _ => .wrByte .refl) m)

theorem poisonWord_pend {m m' : Mach} (h : PendGrows m m') (k : Nat) (l : List Nat) : PendGrows m (poisonWord m' k l) :=
  .memb (h.trans ((PendGrows.memb .refl).trans (flipData_pend ..)))

theorem decodeWord_pend (m : Mach) (k source port : Nat) : PendGrows m (decodeWord m k source port) := by
  unfold decodeWord
  extract_lets l region m₁ _ r v m₂
  have h₁ : PendGrows m m₁ := corrected_pend ..
  have h₂ : PendGrows m m₂ := .memb (.fresh (.fresh .refl))
  refine .ite .refl (.ite (.ite (.memb h₁) h₁) (.ite (poisonWord_pend (uncorrectable_pend ..) ..) (.ite ?_ (.ite (.memb h₂) ?_))))
  · exact poisonWord_pend (.trans (.fresh .refl) (uncorrectable_pend ..)) ..
  · exact h₂.trans (.foldl (fun _ _ => .wrByte .refl) _)

theorem wrBytes_pend (m : Mach) (a : Nat) (l : List Nat) (port : Nat) : PendGrows m (wrBytes m a l port) := by
  unfold wrBytes
  extract_lets whole ks m₁ keep _ m₂
  have h₁ : PendGrows m m₁ := .foldl (fun _ _ => .memb (.memb (decodeWord_pend ..))) m
  have h₂ : PendGrows m m₂ := .memb h₁
  exact h₂.trans (.foldl (fun _ _ => .wrByte .refl) _)

/-! ## What leaves the registers of the engines -/

/-- Every register but those of the engines' slots. -/
abbrev besideEngines (k : Nat) : Prop := k < 0x40071000 * 32 ∨ 0x40072000 * 32 ≤ k

/-- A register of a slot is one of those. -/
theorem slot_not_besideEngines {n : Nat} (hn : n < 16) {f : Fld} (hf : f.blk = 7 ∧ 0x1000 ≤ f.off ∧ f.off < 0x1100 ∧ f.stride = 0x100 ∧ f.lsb < 32) :
    ¬ besideEngines (f.key n) := by
  obtain ⟨hb, hlo, hhi, hst, hl⟩ := hf
  simp only [besideEngines, Fld.key, Fld.addr, hb, hst]
  omega

/-- A register of a block above the engines' is none. -/
theorem besideEngines_of_block {f : Fld} (h : 8 ≤ f.blk) (i : Nat) : besideEngines (f.key i) := by
  refine .inr ?_
  simp only [Fld.key, Fld.addr]
  omega

theorem besideEngines_of_service {k : Nat} (h : serviceKey k) : besideEngines k := by
  rcases h with h | h
  · exact .inl (h.trans (by decide))
  · exact .inr (Nat.le_trans (by decide) h)

/-- From `m` to `m'` what is pending stays so, and the registers of the engines' slots read as before. -/
structure EnginesHeld (m m' : Mach) : Prop where
  pend : PendGrows m m'
  fields : FieldsBut besideEngines m m'

namespace EnginesHeld
variable {m m' m'' : Mach}

theorem refl : EnginesHeld m m := ⟨.refl, .refl⟩

theorem trans (h : EnginesHeld m m') (h' : EnginesHeld m' m'') : EnginesHeld m m'' := ⟨h.pend.trans h'.pend, h.fields.trans h'.fields⟩

theorem ite {c : Prop} [Decidable c] {a b : Mach} (ha : EnginesHeld m a) (hb : EnginesHeld m b) : EnginesHeld m (if c then a else b) := by
  split
  · exact ha
  · exact hb

theorem foldl {α : Type} {f : Mach → α → Mach} {l : List α} (h : ∀ x ∈ l, ∀ m, EnginesHeld m (f m x)) (m : Mach) : EnginesHeld m (l.foldl f m) :=
  foldl_related (R := EnginesHeld) (fun _ => refl) trans h m

/-- Neither the registers nor the sources changed. -/
theorem of_eq (hregs : m'.regs = m.regs) (hintc : m'.intc = m.intc) : EnginesHeld m m' := ⟨.of_intc hintc, .of_regs hregs⟩

theorem setF (h : EnginesHeld m m') {f : Fld} {i v : Nat} (hf : besideEngines (f.key i)) : EnginesHeld m (setF m' f i v) :=
  ⟨h.pend.setF, h.fields.trans (.setF v hf)⟩

/-- What the Tap keeps changed. -/
theorem onTap (h : EnginesHeld m m') {x : TapSt} : EnginesHeld m { m' with tap := x } := h.trans (.of_eq rfl rfl)

theorem of_served (h : Served m m') (hp : PendGrows m m') : EnginesHeld m m' := ⟨hp, h.fields.mono fun _ => besideEngines_of_service⟩

theorem report (h : EnginesHeld m m') {code cls kind id detail index : Nat} : EnginesHeld m (report m' code cls kind id detail index) :=
  h.trans (.of_served (.report .refl) (.report .refl))

theorem irq (h : EnginesHeld m m') {n : Nat} : EnginesHeld m (irq m' n) := h.trans (.of_served (.irq .refl) (.irq .refl))

end EnginesHeld

theorem axlReport_held (m : Mach) (n code cls detail : Nat) : EnginesHeld m (axlReport m n code cls detail) := by
  unfold axlReport
  split
  · exact .report .refl
  · exact .report .refl

/-! ### The end of a capture (20 R576) -/

theorem setOwner_held (m : Mach) (o owner : Nat) (pol : Bool) (t : Nat) : EnginesHeld m (setOwner m o owner pol t) := by
  have hset : EnginesHeld m (setB (setF m TIME_OUT_CFG_OWNER o owner) TIME_OUT_CFG_POL o pol) :=
    .setF (.setF .refl (besideEngines_of_block (by decide) _)) (besideEngines_of_block (by decide) _)
  exact .ite hset (hset.trans (.of_eq rfl rfl))

theorem releaseOut_held (m : Mach) (o t : Nat) : EnginesHeld m (releaseOut m o t) := by
  unfold releaseOut
  extract_lets m₁
  have hfreed : EnginesHeld m (release (release m 4 3 o) 8 3 o) := .of_eq rfl rfl
  have h₁ : EnginesHeld m m₁ := hfreed.trans (setOwner_held ..)
  have hset : EnginesHeld m₁ (setOut m₁ o { outSt m₁ o with due := [], left := 0, ending := false, next := none }) := .of_eq rfl rfl
  exact (h₁.trans hset).irq

theorem addCompl_held (m : Mach) (c : Compl) : EnginesHeld m (addCompl m c) := .ite .refl (.of_eq rfl rfl)

theorem tapIdle_held (m : Mach) : EnginesHeld m (tapIdle m) := by
  unfold tapIdle
  extract_lets outs m₁ m₂ jobs _ m₃
  have h₁ : EnginesHeld m m₁ := .foldl (fun o _ m => releaseOut_held m o _) m
  clear_value m₁
  have h₂ : EnginesHeld m₁ m₂ := .of_eq rfl rfl
  clear_value m₂
  have h₃ : EnginesHeld m₂ m₃ := .setF (.setF (.onTap .refl) (by decide)) (by decide)
  exact (h₁.trans (h₂.trans h₃)).trans (.foldl (fun _ _ _ => addCompl_held ..) m₃)

theorem writeSegment_held (m : Mach) (t : TapTrig) (stopped : Bool) : EnginesHeld m (writeSegment m t stopped) := by
  unfold writeSegment
  extract_lets post hits stop h m₁ its m₂
  have h₁ : EnginesHeld m m₁ := .ite .refl (.setF (.setF .refl (by decide)) (by decide))
  have h₂ : EnginesHeld m₁ m₂ := .of_served (wrBytes_served ..) (wrBytes_pend ..)
  exact .onTap (h₁.trans h₂)

theorem stopCapture_held (m : Mach) : EnginesHeld m (stopCapture m) := by
  unfold stopCapture
  extract_lets m₁ _ m₂
  have h₁ : EnginesHeld m m₁ := by
    unfold m₁
    split
    · exact .ite (writeSegment_held ..) .refl
    · exact .refl
  have h₂ : EnginesHeld m m₂ := .onTap h₁
  exact .ite (h₂.trans (tapIdle_held m₂)) h₂

/-! ### A slot cut (09 R287) -/

/-- The registers of an injection lie beside those of the slots. -/
theorem tune_besideEngines (n : Nat) : besideEngines (AXL_TUNE_STAT_RUN.key n) ∧ besideEngines (AXL_TUNE_STAT_ABORTED.key n) := by
  have habove {f : Fld} (h : 0x40072000 * 32 ≤ f.key 0) : besideEngines (f.key n) := .inr (h.trans (f.key_mono (Nat.zero_le n)))
  exact ⟨habove (by decide), habove (by decide)⟩

theorem endInjection_held (m : Mach) (n : Nat) (aborted : Bool) : EnginesHeld m (endInjection m n aborted) := by
  obtain ⟨hrun, habort⟩ := tune_besideEngines n
  unfold endInjection
  extract_lets m₁ m₂ d
  have h₁ : EnginesHeld m m₁ := .setF (.setF .refl hrun) habort
  have hfreed : EnginesHeld m₁ (release m₁ 12 7 n) := .of_eq rfl rfl
  have h₂ : EnginesHeld m₁ m₂ := hfreed.setF (by decide)
  refine .ite .refl ?_
  split
  · exact (h₁.trans h₂).report
  · exact (h₁.trans h₂).report

theorem injAbort_held (m : Mach) (n : Nat) : EnginesHeld m (injAbort m n) := by
  unfold injAbort
  extract_lets _ m₁
  have hfreed : EnginesHeld m (release (setAxl m n { axlSt m n with injAt := none }) 12 7 n) := .of_eq rfl rfl
  have h₁ : EnginesHeld m m₁ := hfreed.trans (endInjection_held ..)
  exact .ite .refl (.ite (h₁.trans (stopCapture_held m₁)) h₁)

theorem gatesLow_held (m : Mach) (n : Nat) : EnginesHeld m (gatesLow m n) := by
  unfold gatesLow
  extract_lets m₁ m₂
  have h₁ : EnginesHeld m m₁ := .setF .refl (by decide)
  have h₂ : EnginesHeld m₁ m₂ := .foldl (fun x _ m => (.of_eq rfl rfl : EnginesHeld m (setPair m n x _))) m₁
  have h₃ : EnginesHeld m₂ (setPwr m₂ n { pwrSt m₂ n with arming := none }) := .of_eq rfl rfl
  exact (h₁.trans (h₂.trans h₃)).setF (besideEngines_of_block (by decide) _)

/-- An engine that ends its work is disabled; its flags stay, and so does what is pending. -/
theorem axlOff_disabled {n : Nat} (hn : n < 16) (m : Mach) (cause : Nat) : PendGrows m (axlOff m n cause) ∧ getF (axlOff m n cause) AXL_STAT_STATE n = 0 ∧
    getF (axlOff m n cause) AXL_FLAGS_FEEDBACK n = getF m AXL_FLAGS_FEEDBACK n := by
  unfold axlOff
  extract_lets was m₁ a m₂
  have hstate : getF m₂ AXL_STAT_STATE n = 0 := by
    change getF (setF (setF (setF m AXL_STAT_STATE n 0) AXL_SUMMARY_ENABLED 0 _) AXL_VINT_VAL n 0) _ n = 0
    rw [getF_setF_other (by decide), getF_setF_below (by decide), getF_setF_self]
    rfl
  have hflag : getF m₂ AXL_FLAGS_FEEDBACK n = getF m AXL_FLAGS_FEEDBACK n := by
    change getF (setF (setF (setF m AXL_STAT_STATE n 0) AXL_SUMMARY_ENABLED 0 _) AXL_VINT_VAL n 0) _ n = _
    rw [getF_setF_other (by decide), getF_setF_below (by decide), getF_setF_other (by decide)]
  have hpend : PendGrows m m₂ := .of_intc rfl
  have hend : EnginesHeld m₂ (if was = 0 then m₂ else injAbort (axlReport m₂ n E_AXL_DISABLED 7 cause) n) :=
    .ite .refl ((axlReport_held ..).trans (injAbort_held ..))
  exact ⟨hpend.trans hend.pend, (hend.fields _ _ (slot_not_besideEngines hn (by decide))).trans hstate,
    (hend.fields _ _ (slot_not_besideEngines hn (by decide))).trans hflag⟩

/-- A slot that is cut is disabled likewise. -/
theorem cutSlot_disabled {n : Nat} (hn : n < 16) (m : Mach) : PendGrows m (cutSlot m n) ∧ getF (cutSlot m n) AXL_STAT_STATE n = 0 ∧
    getF (cutSlot m n) AXL_FLAGS_FEEDBACK n = getF m AXL_FLAGS_FEEDBACK n := by
  have hlow := gatesLow_held m n
  obtain ⟨hpend, hstate, hflag⟩ := axlOff_disabled hn (gatesLow m n) 2
  exact ⟨hlow.pend.trans hpend, hstate, hflag.trans (hlow.fields _ _ (slot_not_besideEngines hn (by decide)))⟩

/-! ## Words missed (09 R289) -/

/-- Below ENC_MISS_MAX a miss is counted alone. -/
theorem missedWord_counts {m : Mach} {n : Nat} (h : (axlSt m n).miss + 1 < getV m AXL_SUPV_ENC_MISS_MAX n) :
    missedWord m n = setAxl m n { axlSt m n with miss := (axlSt m n).miss + 1 } := if_neg (Nat.not_le.2 h)

/-- A fault of the feedback sets its flag and its source, whatever reaction follows, and enables no engine. -/
theorem axlFault_feedback {n : Nat} (hn : n < 16) (m : Mach) (code bitNo dflt : Nat) :
    getF (axlFault m n code AXL_FLAGS_FEEDBACK bitNo dflt) AXL_FLAGS_FEEDBACK n = 1 ∧
      112 + n ∈ (axlFault m n code AXL_FLAGS_FEEDBACK bitNo dflt).intc.pend ∧
      getF (axlFault m n code AXL_FLAGS_FEEDBACK bitNo dflt) AXL_STAT_STATE n ≤ getF m AXL_STAT_STATE n := by
  unfold axlFault
  extract_lets a cls m₁ m₂
  have h₂ : EnginesHeld m₁ m₂ := (axlReport_held ..).irq
  have hflag : getF m₂ AXL_FLAGS_FEEDBACK n = 1 :=
    (h₂.fields _ _ (slot_not_besideEngines hn (by decide))).trans (getF_flag_self m AXL_FLAGS_FEEDBACK n (by decide))
  have hstate : getF m₂ AXL_STAT_STATE n = getF m AXL_STAT_STATE n :=
    (h₂.fields _ _ (slot_not_besideEngines hn (by decide))).trans (getF_setF_other (f := AXL_FLAGS_FEEDBACK) (by decide) m n 1)
  have hpend : 112 + n ∈ m₂.intc.pend := mem_irq ..
  obtain ⟨hcpend, hcstate, hcflag⟩ := cutSlot_disabled hn m₂
  split
  · exact ⟨hcflag.trans hflag, hcpend.keeps _ hpend, by rw [hcstate]; exact Nat.zero_le _⟩
  · exact ⟨hflag, hpend, hstate.le⟩

/-- From ENC_MISS_MAX on a miss is a fault of the feedback. -/
theorem missedWord_faults {m : Mach} {n : Nat} (hn : n < 16) (h : getV m AXL_SUPV_ENC_MISS_MAX n ≤ (axlSt m n).miss + 1) :
    getF (missedWord m n) AXL_FLAGS_FEEDBACK n = 1 ∧ 112 + n ∈ (missedWord m n).intc.pend ∧
      getF (missedWord m n) AXL_STAT_STATE n ≤ getF m AXL_STAT_STATE n := by
  have heq : missedWord m n =
      axlFault (setAxl m n { axlSt m n with miss := (axlSt m n).miss + 1 }) n E_AXL_FEEDBACK AXL_FLAGS_FEEDBACK 2 3 := if_pos h
  rw [heq]
  exact axlFault_feedback hn ..

/-! ## The statement -/

/-- Settles O41: a pass without an engine or a word by its branch, the open-loop passes by `curLaw_openLoop`, the currents by
`mainOutput_currents`, the velocity law by `velLaw_shows`. -/
theorem enginePassesFollowTheLaws : Obligations.EnginePassesFollowTheLaws := by
  intro n k p t sa sb sc aref s hn m vlim idle vq cur
  refine ⟨fun hd d => ?_, fun hp d => ?_, fun hp hk hs hc => ?_, fun hp hk hi hs hv hmiss => ?_, fun hp hk hi hs hv hmiss => ?_,
    fun hi hs hm hchop hl => ?_, fun hl => velLaw_shows aref hl⟩
  · rw [exec_cPass]
    exact done_same (cPass_notDue hd ..)
  · rw [exec_pvcPass]
    exact done_same (pvcPass_noPort hp ..)
  · rw [exec_pvcPass]
    exact done_same (pvcPass_off hn hp hk hc hs)
  · obtain ⟨-, -, -, hc⟩ := hi
    have hcount := missedWord_counts hmiss
    have hlow : getF (missedWord m n) AXL_STAT_STATE n < 2 := by rw [hcount]; exact hs.trans_lt (by decide)
    rw [exec_pvcPass]
    exact done_eq ((pvcPass_missed hn hp hk hc hs hv hlow).trans hcount)
  · obtain ⟨-, -, -, hc⟩ := hi
    obtain ⟨hflag, hpend, hstate⟩ := missedWord_faults hn hmiss
    have hlow : getF (missedWord m n) AXL_STAT_STATE n < 2 := by rw [hs] at hstate; omega
    refine ⟨missedWord m n, ?_, hflag, hpend⟩
    rw [exec_pvcPass]
    exact done_eq (pvcPass_missed hn hp hk hc hs hv hlow)
  · obtain ⟨hend, hstop, hrun, hc⟩ := hi
    have hopen : OpenLoop m n := ⟨hend, hstop, hrun, hs, hm, hchop⟩
    refine ⟨fun hp hk hv hspeed hpos hneg hboth => ?_, fun hd hok hen => ?_⟩
    · obtain ⟨hshow, hmeas, hmiss, hmem⟩ := pvcPass_openLoop hn hp hk hc hopen hl hv hspeed ⟨hpos, hneg, hboth⟩
      exact ⟨_, exec_pvcPass n k false s, hshow.vq, hshow.vd, hshow.lim, hmeas, hmiss, hmem⟩
    · obtain ⟨m', heq, hshow, hA, hB, hC, hvalid, hnow, hmem⟩ := cPass_openLoop hn hopen hc hl hd hok hen sa sb sc
      exact ⟨m', (exec_cPass ..).trans (done_eq heq), hshow.vq, hshow.vd, hA, hB, hC, hvalid, hnow, hmem⟩

end Sys2Proof.Machine
end

section
/-! PROOFS. Fast samples, converter faults, switch-node crossings and trips of the power stage (10 R313 to R324): what a slot that is cut leaves,
and the statement on them. -/

namespace Sys2Proof.Machine

/-! ## The commands of this statement -/

theorem exec_fastChannelSample (n ch : Nat) (bits : List Bool) (t : Nat) (s : State) :
    exec (.fastChannelSample n ch bits t) s = done (fastSample n ch bits t) s := rfl
theorem exec_sdChannelFault (n ch : Nat) (s : State) : exec (.sdChannelFault n ch) s = done (sdFault n ch) s := rfl
theorem exec_switchNodeCrossing (n x : Nat) (rising : Bool) (c : Option Nat) (s : State) :
    exec (.switchNodeCrossing n x rising c) s = done (switchNode n x rising c) s := rfl
theorem exec_tripInput (n i a held : Nat) (s : State) : exec (.tripInput n i a held) s = done (tripInput n i a held) s := rfl

/-! ## What the end of an engine's work leaves of the power stage (09 R285, R296) -/

/-- Every register outside the block PWR. -/
abbrev outsideStage (k : Nat) : Prop := k < 0x40080000 * 32 ∨ 0x40090000 * 32 ≤ k

/-- Of those, every one but the summary of the engines that are enabled. -/
abbrev besideStage (k : Nat) : Prop := outsideStage k ∧ k ≠ AXL_SUMMARY_ENABLED.key 0

theorem summaryEnabled_key : AXL_SUMMARY_ENABLED.key 0 = 0x40070000 * 32 := rfl

theorem besideStage_of_service {k : Nat} (h : serviceKey k) : besideStage k := by
  rw [besideStage, summaryEnabled_key]
  omega

/-- A register of a block above PWR. -/
theorem besideStage_of_block {f : Fld} (h : 9 ≤ f.blk) (i : Nat) : besideStage (f.key i) := by
  rw [besideStage, summaryEnabled_key]
  simp only [outsideStage, Fld.key, Fld.addr]
  omega

/-- A register of an injection. -/
theorem besideStage_of_tune {n : Nat} (hn : n < 16) {f : Fld} (h : f.blk = 7 ∧ 0x2000 ≤ f.off ∧ f.off < 0x2040 ∧ f.stride = 0x40 ∧ f.lsb < 32) :
    besideStage (f.key n) := by
  obtain ⟨hb, hlo, hhi, hst, hl⟩ := h
  rw [besideStage, summaryEnabled_key]
  simp only [outsideStage, Fld.key, Fld.addr, hb, hst]
  omega

/-- A register of a slot of the power stage lies in its block. -/
theorem slot_not_outsideStage {n : Nat} (hn : n < 16) {f : Fld} (hf : f.blk = 8 ∧ f.off < 0x1100 ∧ f.stride = 0x100 ∧ f.lsb < 32) :
    ¬ outsideStage (f.key n) := by
  obtain ⟨hb, ho, hst, hl⟩ := hf
  simp only [outsideStage, Fld.key, Fld.addr, hb, hst]
  omega

/-- From `m` to `m'` the power stage, its registers and the summary of the enabled engines are as they were. -/
structure StageHeld (m m' : Mach) : Prop where
  pwr : m'.pwr = m.pwr
  fields : FieldsBut besideStage m m'

namespace StageHeld
variable {m m' m'' : Mach}

theorem refl : StageHeld m m := ⟨rfl, .refl⟩

theorem trans (h : StageHeld m m') (h' : StageHeld m' m'') : StageHeld m m'' := ⟨h'.pwr.trans h.pwr, h.fields.trans h'.fields⟩

theorem ite {c : Prop} [Decidable c] {a b : Mach} (ha : StageHeld m a) (hb : StageHeld m b) : StageHeld m (if c then a else b) := by
  split
  · exact ha
  · exact hb

theorem foldl {α : Type} {f : Mach → α → Mach} {l : List α} (h : ∀ m x, StageHeld m (f m x)) (m : Mach) : StageHeld m (l.foldl f m) :=
  foldl_related (R := StageHeld) (fun _ => refl) trans (fun x _ m => h m x) m

/-- Neither the registers nor the power stage changed. -/
theorem of_eq (hregs : m'.regs = m.regs) (hpwr : m'.pwr = m.pwr) : StageHeld m m' := ⟨hpwr, .of_regs hregs⟩

theorem setF (h : StageHeld m m') {f : Fld} {i v : Nat} (hf : besideStage (f.key i)) : StageHeld m (setF m' f i v) :=
  h.trans ⟨rfl, .setF v hf⟩

/-- What the Tap keeps changed. -/
theorem onTap (h : StageHeld m m') {x : TapSt} : StageHeld m { m' with tap := x } := h.trans (.of_eq rfl rfl)

theorem of_served (h : Served m m') : StageHeld m m' := by
  obtain ⟨⟨_, _, _, _, _, _, _, _, rfl⟩, hfields⟩ := h
  exact ⟨rfl, hfields.mono fun _ => besideStage_of_service⟩

theorem report (h : StageHeld m m') {code cls kind id detail index : Nat} : StageHeld m (report m' code cls kind id detail index) :=
  h.trans (.of_served (.report .refl))

theorem irq (h : StageHeld m m') {k : Nat} : StageHeld m (irq m' k) := h.trans (.of_served (.irq .refl))

end StageHeld

theorem releaseOut_stage (m : Mach) (o t : Nat) : StageHeld m (releaseOut m o t) := by
  unfold releaseOut setOwner
  extract_lets m₁ x high m₂
  have hfreed : StageHeld m (release (release m 4 3 o) 8 3 o) := .of_eq rfl rfl
  have h₁ : StageHeld m m₁ := .setF (.setF hfreed (besideStage_of_block (by decide) _)) (besideStage_of_block (by decide) _)
  have h₂ : StageHeld m m₂ := .ite h₁ (h₁.trans (.of_eq rfl rfl))
  have hset : StageHeld m₂ (setOut m₂ o { outSt m₂ o with due := [], left := 0, ending := false, next := none }) := .of_eq rfl rfl
  exact (h₂.trans hset).irq

theorem addCompl_stage (m : Mach) (c : Compl) : StageHeld m (addCompl m c) := .ite .refl (.of_eq rfl rfl)

theorem tapIdle_stage (m : Mach) : StageHeld m (tapIdle m) := by
  unfold tapIdle
  extract_lets outs m₁ m₂ jobs _ m₃
  have h₁ : StageHeld m m₁ := .foldl (fun m o => releaseOut_stage m o _) m
  clear_value m₁
  have h₂ : StageHeld m₁ m₂ := .of_eq rfl rfl
  clear_value m₂
  have h₃ : StageHeld m₂ m₃ := .setF (.setF (.onTap .refl) (besideStage_of_block (by decide) _)) (besideStage_of_block (by decide) _)
  exact (h₁.trans (h₂.trans h₃)).trans (.foldl addCompl_stage m₃)

theorem writeSegment_stage (m : Mach) (t : TapTrig) (stopped : Bool) : StageHeld m (writeSegment m t stopped) := by
  unfold writeSegment
  extract_lets post hits stop h m₁ its m₂
  have h₁ : StageHeld m m₁ := .ite .refl (.setF (.setF .refl (besideStage_of_block (by decide) _)) (besideStage_of_block (by decide) _))
  have h₂ : StageHeld m₁ m₂ := .of_served (wrBytes_served ..)
  exact .onTap (h₁.trans h₂)

theorem stopCapture_stage (m : Mach) : StageHeld m (stopCapture m) := by
  unfold stopCapture
  extract_lets m₁ _ m₂
  have h₁ : StageHeld m m₁ := by
    unfold m₁
    split
    · exact .ite (writeSegment_stage ..) .refl
    · exact .refl
  have h₂ : StageHeld m m₂ := .onTap h₁
  exact .ite (h₂.trans (tapIdle_stage m₂)) h₂

/-- An injection that ends is told, which leaves memory and the Tap; one that does not run leaves everything. -/
theorem endInjection_leaves (m : Mach) (n : Nat) (aborted : Bool) :
    (endInjection m n aborted).mem = m.mem ∧ (endInjection m n aborted).tap = m.tap := by
  by_cases h : getF m AXL_TUNE_STAT_RUN n = 1
  · exact ⟨(endInjection_reported h aborted).mem, (endInjection_reported h aborted).tap⟩
  · simp [endInjection, onF, h]

/-- Without a capture that an injection started, its abort leaves memory. -/
theorem injAbort_mem {m : Mach} (h : m.tap.inj = false) (n : Nat) : (injAbort m n).mem = m.mem := by
  unfold injAbort
  extract_lets _ m₁
  obtain ⟨hmem, htap⟩ := endInjection_leaves (release (setAxl m n { axlSt m n with injAt := none }) 12 7 n) n true
  have hinj : m₁.tap.inj = false := by rw [htap]; exact h
  rw [hinj, Bool.false_and, Bool.false_and, Bool.false_and, if_neg Bool.false_ne_true]
  split
  · rfl
  · exact hmem

section
variable {n : Nat} (hn : n < 16)
include hn

theorem endInjection_stage (m : Mach) (aborted : Bool) : StageHeld m (endInjection m n aborted) := by
  unfold endInjection
  extract_lets m₁ m₂ d
  have h₁ : StageHeld m m₁ := .setF (.setF .refl (besideStage_of_tune hn (by decide))) (besideStage_of_tune hn (by decide))
  have hfreed : StageHeld m₁ (release m₁ 12 7 n) := .of_eq rfl rfl
  have h₂ : StageHeld m₁ m₂ := hfreed.setF (by decide)
  refine .ite .refl ?_
  split
  · exact (h₁.trans h₂).report
  · exact (h₁.trans h₂).report

theorem injAbort_stage (m : Mach) : StageHeld m (injAbort m n) := by
  unfold injAbort
  extract_lets _ m₁
  have hfreed : StageHeld m (release (setAxl m n { axlSt m n with injAt := none }) 12 7 n) := .of_eq rfl rfl
  have h₁ : StageHeld m m₁ := hfreed.trans (endInjection_stage hn ..)
  exact .ite .refl (.ite (h₁.trans (stopCapture_stage m₁)) h₁)

end

/-! ## A slot cut and told (09 R287, 10 R310) -/

/-- A report of an engine leaves the power stage. -/
theorem axlReport_stage (m : Mach) (n code cls detail : Nat) : StageHeld m (axlReport m n code cls detail) := by
  unfold axlReport
  split
  · exact .report .refl
  · exact .report .refl

/-- An engine that ends its work is no longer in the summary, and the power stage stays as it was; memory too, unless a capture of the injector
ends with it. -/
theorem axlOff_stage {n : Nat} (hn : n < 16) (m : Mach) (cause : Nat) : (axlOff m n cause).pwr = m.pwr ∧ FieldsBut outsideStage m (axlOff m n cause) ∧
    (getF (axlOff m n cause) AXL_SUMMARY_ENABLED).testBit n = false ∧ (m.tap.inj = false → (axlOff m n cause).mem = m.mem) := by
  unfold axlOff
  extract_lets was m₁ a m₂
  have hslot {f : Fld} (hf : f.blk = 7 ∧ f.off < 0x1100 ∧ f.stride = 0x100 ∧ f.lsb < 32) : outsideStage (f.key n) := by
    obtain ⟨hb, ho, hst, hl⟩ := hf
    simp only [outsideStage, Fld.key, Fld.addr, hb, hst]
    omega
  have h₁ : FieldsBut outsideStage m m₁ := .trans (.setF 0 (hslot (by decide))) (.setF _ (by decide))
  have h₂ : FieldsBut outsideStage m m₂ := h₁.trans (.trans (.setF 0 (hslot (by decide))) (.of_regs rfl))
  have hbit : (getF m₂ AXL_SUMMARY_ENABLED).testBit n = false := by
    change (getF (setF m₁ AXL_VINT_VAL n 0) AXL_SUMMARY_ENABLED).testBit n = false
    rw [getF_setF_above (by decide)]
    exact testBit_setSlotBit hn _ false
  have hrep := (axlReport_reported m₂ n E_AXL_DISABLED 7 cause).1
  have hend : StageHeld m₂ (if was = 0 then m₂ else injAbort (axlReport m₂ n E_AXL_DISABLED 7 cause) n) :=
    .ite .refl ((axlReport_stage ..).trans (injAbort_stage hn _))
  refine ⟨hend.pwr, h₂.trans (hend.fields.mono fun _ => And.left), ?_, fun ht => ?_⟩
  · rw [hend.fields _ _ (by decide), hbit]
  · split
    · rfl
    · exact (injAbort_mem (by rw [hrep.tap]; exact ht) n).trans hrep.mem

/-- The summary of the gates, and CHOP of slot `n`. -/
abbrev gateKey (n k : Nat) : Prop := k = PWR_SUMMARY_GATES.key 0 ∨ k = PWR_STAT_CHOP.key n

/-- Gates held low write these alone, and leave the Tap. -/
theorem gatesLow_writes (m : Mach) (n : Nat) : FieldsBut (gateKey n) m (gatesLow m n) ∧ (gatesLow m n).tap = m.tap := by
  unfold gatesLow
  extract_lets m₁ m₂
  have h₁ : FieldsBut (gateKey n) m m₁ := .setF _ (.inl rfl)
  have h₂ : FieldsBut (gateKey n) m₁ (setPwr m₂ n { pwrSt m₂ n with arming := none }) := .of_regs rfl
  exact ⟨h₁.trans (h₂.trans (.setF 0 (.inr rfl))), rfl⟩

/-- From `m` to `m'` slot `n` has been cut: its gates are low, its engine is disabled and its source is raised. Of the registers of the power
stage only the gates and the slot's CHOP read anew, and a channel that had failed stays so. -/
structure SlotCut (n : Nat) (m m' : Mach) : Prop where
  gates : gatesOn m' n = false
  state : getF m' AXL_STAT_STATE n = 0
  enabled : (getF m' AXL_SUMMARY_ENABLED).testBit n = false
  pend : 176 + n ∈ m'.intc.pend
  mem : m.tap.inj = false → m'.mem = m.mem
  fields : FieldsBut (fun k => outsideStage k ∨ gateKey n k) m m'
  failed : (pwrSt m' n).sdFail = (pwrSt m n).sdFail

/-- Another register of the slot reads as before. -/
theorem SlotCut.slot {n : Nat} {m m' : Mach} (h : SlotCut n m m') (hn : n < 16) {f : Fld}
    (hf : (f.blk = 8 ∧ f.off < 0x1100 ∧ f.stride = 0x100 ∧ f.lsb < 32) ∧ PWR_SUMMARY_GATES.key 0 < f.key 0 ∧ f.key 0 ≠ PWR_STAT_CHOP.key 0) :
    getF m' f n = getF m f n := by
  obtain ⟨hplace, hgates, hchop⟩ := hf
  refine h.fields f n (not_or.2 ⟨slot_not_outsideStage hn hplace, not_or.2 ⟨?_, ?_⟩⟩)
  · exact (hgates.trans_le (f.key_mono (Nat.zero_le n))).ne'
  · exact Fld.key_ne_of_stride (f := PWR_STAT_CHOP) ⟨hplace.2.2.1, hchop⟩ n

/-- A report of the power stage is a service. -/
theorem pwrReport_served (m : Mach) (n code cls detail : Nat) : Served m (pwrReport m n code cls detail) := by
  unfold pwrReport
  split
  · exact .report .refl
  · exact .report .refl

/-- A cut of a slot that is told and raised. -/
theorem slotCut_told {n : Nat} (hn : n < 16) (m : Mach) (code cls detail : Nat) :
    SlotCut n m (irq (pwrReport (cutSlot m n) n code cls detail) (176 + n)) := by
  have hlow := gatesLow_keeps m n
  obtain ⟨hlowFields, hlowTap⟩ := gatesLow_writes m n
  obtain ⟨-, hstate, -⟩ := cutSlot_disabled hn m
  obtain ⟨hpwr, hfields, henabled, hmem⟩ := axlOff_stage hn (gatesLow m n) 2
  have hserved : Served (cutSlot m n) (irq (pwrReport (cutSlot m n) n code cls detail) (176 + n)) := (pwrReport_served ..).irq
  have hstage : StageHeld (cutSlot m n) _ := .of_served hserved
  have hrep := pwrReport_reported (cutSlot m n) n code cls detail
  refine ⟨?_, ?_, ?_, mem_irq .., fun ht => ?_, fun f i hk => ?_, ?_⟩
  · rw [gatesOn, hstage.fields _ _ (by decide), cutSlot, hfields _ _ (by decide), hlow.gates]
    exact testBit_setSlotBit hn m false
  · rw [(EnginesHeld.of_served hserved ((PendGrows.of_intc hrep.intc).irq)).fields _ _ (slot_not_besideEngines hn (by decide)), hstate]
  · rw [hstage.fields _ _ (by decide)]
    exact henabled
  · rw [irq_mem, hrep.mem]
    exact (hmem (by rw [hlowTap]; exact ht)).trans hlow.mem
  · obtain ⟨hout, hrest⟩ := not_or.1 hk
    exact (hstage.fields f i fun h => hout h.1).trans ((hfields f i hout).trans (hlowFields f i hrest))
  · have hfail := congrArg PwrSt.sdFail hlow.slot
    have hsame : pwrSt (irq (pwrReport (cutSlot m n) n code cls detail) (176 + n)) n = pwrSt (gatesLow m n) n := by
      rw [pwrSt, hstage.pwr]
      exact congrArg (sget · n {}) hpwr
    rw [hsame]
    exact hfail

/-! ## Fast samples and converter faults (10 R319, R321, R322, R324) -/

/-- The output of the fast filter of a channel. -/
def fastCurrent (m : Mach) (n ch : Nat) (bits : List Bool) : Int := sdValue m n ch 2 (getF m PWR_SD_CFG_OSR_F n + 2) bits

/-- Slot `n` at tick `t` with a fast output of a channel, which is valid unless the channel has failed. -/
def fastTaken (m : Mach) (n ch t : Nat) (v : Int) : Mach :=
  let m := passTo m t
  sdValid (setPair m n ch { pairSt m n ch with fast := v }) n ch

/-- A register below all instances of a field is none of them. -/
theorem Fld.key_ne_of_below {f g : Fld} (h : g.key 0 < f.key 0) (i : Nat) : g.key 0 ≠ f.key i :=
  (h.trans_le (f.key_mono (Nat.zero_le i))).ne

/-- A fast output writes the valid bits alone. -/
theorem fastTaken_writes (m : Mach) (n ch t : Nat) (v : Int) : SlotWrites [PWR_STAT_SD_VALID] n (passTo m t) (fastTaken m n ch t v) :=
  (SlotWrites.setPwr .refl).trans (.ite .refl (.setF .refl (.head _)))

/-- It leaves memory and the Tap, and time passes. -/
theorem fastTaken_leaves (m : Mach) (n ch t : Nat) (v : Int) : (fastTaken m n ch t v).mem = m.mem ∧ (fastTaken m n ch t v).tap = m.tap ∧
    (fastTaken m n ch t v).cyc.now = max m.cyc.now t := by
  obtain ⟨_, _, hpass⟩ := passTo_frame m t
  obtain ⟨_, _, htaken⟩ := (fastTaken_writes m n ch t v).rest
  rw [htaken, hpass]
  exact ⟨rfl, rfl, rfl⟩

/-- Another register of the slot reads as before. -/
theorem getF_fastTaken {g : Fld} (hg : g.stride = PWR_STAT_SD_VALID.stride ∧ g.key 0 ≠ PWR_STAT_SD_VALID.key 0) (m : Mach) (n ch t : Nat) (v : Int) :
    getF (fastTaken m n ch t v) g n = getF m g n := by
  obtain ⟨-, -, -, hregs, -⟩ := passTo_facts m t
  rw [(fastTaken_writes m n ch t v).other (by simpa using hg), getF_of_regs hregs]

/-- It is what the channel reads, and the pair is otherwise as it was. -/
theorem fastTaken_pair (m : Mach) (n ch t : Nat) (v : Int) : pairSt (fastTaken m n ch t v) n ch = { pairSt m n ch with fast := v } := by
  obtain ⟨-, -, -, -, hpwr⟩ := passTo_facts m t
  have hpair : pairSt (passTo m t) n ch = pairSt m n ch := by rw [pairSt, pwrSt, hpwr]; rfl
  have hkeep (m' : Mach) : pairSt (sdValid m' n ch) n ch = pairSt m' n ch := by
    unfold sdValid
    split
    · rfl
    · rfl
  rw [fastTaken, hkeep, pairSt_setPair, hpair]

/-- A channel that is sound is valid then. -/
theorem fastTaken_valid {m : Mach} {n ch : Nat} (hch : ch < 3) (h : (pwrSt m n).sdFail.testBit ch = false) (t : Nat) (v : Int) :
    (getF (fastTaken m n ch t v) PWR_STAT_SD_VALID n).testBit ch = true := by
  obtain ⟨-, -, -, -, hpwr⟩ := passTo_facts m t
  have hsound : (pwrSt (setPair (passTo m t) n ch { pairSt (passTo m t) n ch with fast := v }) n).sdFail.testBit ch = false := by
    rw [setPair, pwrSt_setPwr, pwrSt, hpwr]
    exact h
  rw [fastTaken, sdValid, hsound, if_neg Bool.false_ne_true, getF_setF_self, Nat.testBit_mod_two_pow, Nat.testBit_or, Nat.testBit_two_pow_self,
    Bool.or_true, Bool.and_true]
  exact decide_eq_true hch

/-- The slot with its overcurrent latched and flagged. -/
def overcurrent (m : Mach) (n : Nat) : Mach := flag (setSlotBit m PWR_SUMMARY_OC n true) PWR_FLAGS_OVERCURRENT n

theorem overcurrent_shows {n : Nat} (hn : n < 16) (m : Mach) :
    getF (overcurrent m n) PWR_FLAGS_OVERCURRENT n = 1 ∧ (getF (overcurrent m n) PWR_SUMMARY_OC).testBit n = true := by
  refine ⟨getF_flag_self _ _ n (by decide), ?_⟩
  rw [overcurrent, flag, getF_setF_above (by decide)]
  exact testBit_setSlotBit hn m true

/-- The slot with channel `ch` failed: not valid, and flagged. -/
def channelFailed (m : Mach) (n ch : Nat) : Mach :=
  let m := flag (setF m PWR_STAT_SD_VALID n (andNot (getF m PWR_STAT_SD_VALID n) (2 ^ ch))) PWR_FLAGS_SD_FAULT n
  setPwr m n { pwrSt m n with sdFail := (pwrSt m n).sdFail ||| 2 ^ ch }

theorem channelFailed_shows (m : Mach) (n ch : Nat) : getF (channelFailed m n ch) PWR_FLAGS_SD_FAULT n = 1 ∧
    (getF (channelFailed m n ch) PWR_STAT_SD_VALID n).testBit ch = false ∧ (pwrSt (channelFailed m n ch) n).sdFail.testBit ch = true := by
  refine ⟨getF_flag_self (setF m PWR_STAT_SD_VALID n _) _ n (by decide), ?_, ?_⟩
  · change (getF (flag (setF m PWR_STAT_SD_VALID n _) PWR_FLAGS_SD_FAULT n) _ n).testBit ch = false
    rw [flag, getF_setF_other (by decide), getF_setF_self, Nat.testBit_mod_two_pow, testBit_andNot, Nat.testBit_two_pow_self]
    simp
  · rw [channelFailed, pwrSt_setPwr, Nat.testBit_or, Nat.testBit_two_pow_self, Bool.or_true]

section
variable {n ch : Nat} {m : Mach}

/-- A channel that is not enabled gives no samples and has no faults. -/
theorem channel_off (h : ¬ (getF m PWR_SD_CFG_EN n).testBit ch = true) (bits : List Bool) (t : Nat) :
    fastSample n ch bits t m = m ∧ sdFault n ch m = m := by
  simp [fastSample, sdFault, h]

variable (hn : n < 16) (hch : ch < 3) (hen : (getF m PWR_SD_CFG_EN n).testBit ch = true)
include hn hch hen

/-- A fault of an enabled channel cuts its slot. -/
theorem sdFault_cuts : SlotCut n (channelFailed m n ch) (sdFault n ch m) := by
  rw [sdFault, hen, if_neg (by simp [hn, hch])]
  exact slotCut_told hn (channelFailed m n ch) ..

variable (bits : List Bool) (t : Nat)

/-- The sample of an enabled channel above the peak threshold trips; one below it is taken alone where the slot has no chopper. -/
theorem fastSample_judged :
    ((getF m PWR_PEAK_TRIP_THR n : Int) < absI (fastCurrent m n ch bits) →
      fastSample n ch bits t m = peakTrip (fastTaken m n ch t (fastCurrent m n ch bits)) n ch) ∧
    (absI (fastCurrent m n ch bits) ≤ getF m PWR_PEAK_TRIP_THR n → isChop m n = false →
      fastSample n ch bits t m = fastTaken m n ch t (fastCurrent m n ch bits)) := by
  obtain ⟨-, -, -, hregs, -⟩ := passTo_facts m t
  have hthr := getF_fastTaken (g := PWR_PEAK_TRIP_THR) (by decide) m n ch t (fastCurrent m n ch bits)
  have hchop : isChop (fastTaken m n ch t (fastCurrent m n ch bits)) n = isChop m n :=
    congrArg (· == 1) (getF_fastTaken (g := AXL_MODE_CUR_LAW) (by decide) ..)
  unfold fastSample
  extract_lets m₁ i _ m₂
  have hi : i = fastCurrent m n ch bits := by
    simp only [i, m₁, fastCurrent, sdValue, getS, getF_of_regs hregs]
  have hm₂ : m₂ = fastTaken m n ch t (fastCurrent m n ch bits) := by rw [← hi]; rfl
  clear_value m₂ i
  rw [hen, if_neg (by simp [hn, hch]), hm₂, hi, hthr, hchop]
  exact ⟨fun h => if_pos h, fun h hc => by rw [if_neg (not_lt.2 h), hc, Bool.false_and, Bool.false_and, if_neg Bool.false_ne_true]⟩

/-- The first trip of an enabled channel cuts its slot. -/
theorem fastSample_cuts (h : (getF m PWR_PEAK_TRIP_THR n : Int) < absI (fastCurrent m n ch bits)) (hoc : (getF m PWR_SUMMARY_OC).testBit n = false) :
    SlotCut n (overcurrent (fastTaken m n ch t (fastCurrent m n ch bits)) n) (fastSample n ch bits t m) := by
  obtain ⟨-, -, -, hregs, -⟩ := passTo_facts m t
  have hlow : (getF (fastTaken m n ch t (fastCurrent m n ch bits)) PWR_SUMMARY_OC).testBit n = false := by
    have hkey : PWR_SUMMARY_OC.key 0 ∉ [PWR_STAT_SD_VALID].map (·.key n) := by
      rw [List.map_singleton, List.mem_singleton]
      exact Fld.key_ne_of_below (by decide) n
    rw [(fastTaken_writes ..).fields _ _ hkey, getF_of_regs hregs, hoc]
  rw [(fastSample_judged hn hch hen bits t).1 h, peakTrip, hlow, if_neg Bool.false_ne_true]
  exact slotCut_told hn (overcurrent (fastTaken m n ch t (fastCurrent m n ch bits)) n) ..

end

/-! ## Switch-node crossings (10 R313, R314) -/

section
variable {n x : Nat} {m : Mach} (hn : n < 16) (hx : x < 3)
include hn hx

/-- A rise at a current that does not force it moves nothing. -/
theorem switchNode_rise (h : -(64 * getF m PWR_SN_CFG_IMIN n : Int) ≤ pairCurrent m n x) (o : Option Nat) :
    switchNode n x true o m = setPair m n x { pairSt m n x with lateR := false } := by
  simp [switchNode, Nat.not_le.2 hn, Nat.not_le.2 hx, h]

/-- Nor does a fall. -/
theorem switchNode_fall (h : pairCurrent m n x ≤ (64 * getF m PWR_SN_CFG_IMIN n : Int)) (o : Option Nat) :
    switchNode n x false o m = setPair m n x { pairSt m n x with lateF := false } := by
  simp [switchNode, Nat.not_le.2 hn, Nat.not_le.2 hx, h]

/-- A natural rise that crosses within the dead time moves the adaptive dead time towards it. -/
theorem switchNode_adapts {c : Nat} (h : pairCurrent m n x < -(64 * getF m PWR_SN_CFG_IMIN n : Int)) (hc : c ≤ (pairSt m n x).apR)
    (ha : adapts m n = true) : switchNode n x true (some c) m = setPair m n x { pairSt m n x with
      dtR := (pairSt m n x).dtR + roundShift (16 * ((c : Int) - getF m PWR_SN_CFG_SN_DLY n + getF m PWR_DT_CFG_MARGIN n) - (pairSt m n x).dtR)
        (getF m PWR_DT_CFG_GAIN n), lateR := false } := by
  have hcross : (some c).filter (fun c => decide (c ≤ (pairSt m n x).apR)) = some c := by simp [hc]
  simp [switchNode, Nat.not_le.2 hn, Nat.not_le.2 hx, h, ha, hcross]

end

/-! ## Trips (10 R316 to R318) -/

/-- Slot `n` with an assertion of trip input `i` noted. -/
def tripNoted (m : Mach) (n i a e : Nat) : Mach := setPwr m n { pwrSt m n with trips := sput (pwrSt m n).trips i (a, e) (0, 0) }

/-- The slot at tick `t`, at which an assertion of input `i` is accepted. -/
def tripAccepted (m : Mach) (n i t : Nat) : Mach :=
  let m := passTo m t
  setPwr m n { pwrSt m n with acc := (pwrSt m n).acc ||| 2 ^ i }

/-- The tick at which an assertion of input `i` from `a` is accepted where it cuts the pairs of `mask`. -/
def tripTick (m : Mach) (n i mask a : Nat) : Nat :=
  acceptTick (tripCfg m n i).1 (if ownerOf m 6 n = some 11 then 0 else getF m PWR_AUX_CMP_VAL n) (maskEdges m n mask) a

/-- Trip input `i` is enabled and cuts pair 0 alone with action LOW, and the gates of slot `n` are released (10 R316). -/
structure CutsFirstPair (m : Mach) (n i : Nat) : Prop where
  enabled : (tripCfg m n i).2.2.1 = true
  low : (tripCfg m n i).2.1 = false
  mask : (tripCfg m n i).2.2.2.2 = 1
  gates : gatesOn m n = true
  armed : (pwrSt m n).arming = none
  event : getF m PWR_EVT_CFG_SRC n ≠ 3

/-- An assertion that is noted changes the slot's list of them alone. -/
theorem tripNoted_pwrSt (m : Mach) (n i a e : Nat) :
    pwrSt (tripNoted m n i a e) n = { pwrSt m n with trips := sput (pwrSt m n).trips i (a, e) (0, 0) } := pwrSt_setPwr ..

theorem tripNoted_pair (m : Mach) (n i a e x : Nat) : pairSt (tripNoted m n i a e) n x = pairSt m n x := by
  rw [pairSt, tripNoted_pwrSt, pairSt]

theorem tripNoted_tick (m : Mach) (n i a e mask b : Nat) : tripTick (tripNoted m n i a e) n i mask b = tripTick m n i mask b := by
  have hedges : maskEdges (tripNoted m n i a e) n mask = maskEdges m n mask := by simp only [maskEdges, tripNoted_pair]
  rw [tripTick, hedges]
  rfl

theorem tripNoted_nextTick (m : Mach) (n i a e : Nat) : nextTick (tripNoted m n i a e) n = nextTick m n := by
  have hcarrier : carrier (tripNoted m n i a e) n = carrier m n := by
    rw [carrier, tripNoted_pwrSt]
    rfl
  have hidx : nextIdx (tripNoted m n i a e) n = nextIdx m n := by
    rw [nextIdx, hcarrier, tripNoted_pwrSt]
    rfl
  rw [nextTick, hidx, hcarrier]
  rfl

theorem CutsFirstPair.noted {m : Mach} {n i : Nat} (h : CutsFirstPair m n i) (a e : Nat) : CutsFirstPair (tripNoted m n i a e) n i :=
  ⟨h.enabled, h.low, h.mask, h.gates, by rw [tripNoted_pwrSt]; exact h.armed, h.event⟩

/-- An assertion that is accepted leaves the registers and memory, and of the slot all but what was accepted; time passes. -/
theorem tripAccepted_keeps (m : Mach) (n i t : Nat) : (tripAccepted m n i t).regs = m.regs ∧ (tripAccepted m n i t).mem = m.mem ∧
    (tripAccepted m n i t).cyc.now = max m.cyc.now t ∧
    pwrSt (tripAccepted m n i t) n = { pwrSt m n with acc := (pwrSt m n).acc ||| 2 ^ i } := by
  obtain ⟨hmem, hcyc, -, hregs, hpwr⟩ := passTo_facts m t
  have hslot : pwrSt (passTo m t) n = pwrSt m n := by rw [pwrSt, hpwr, pwrSt]
  exact ⟨hregs, hmem, congrArg CycSt.now hcyc, by rw [tripAccepted, pwrSt_setPwr, hslot]⟩

/-- A pair cut low at tick `t`: a chopped high side falls, and the low side takes over. -/
def pairCutLow (p : PairSt) (mn t : Nat) : PairSt :=
  let p := if p.high then chopFall p mn t else p
  { p with lowAt := some (p.lowAt.getD t) }

/-- A pair that has not been cut is cut at that tick. -/
theorem pairCutLow_lowAt {p : PairSt} (h : p.lowAt = none) (mn t : Nat) : (pairCutLow p mn t).lowAt = some t := by
  have hfall : (if p.high then chopFall p mn t else p).lowAt = none := by
    split
    · exact h
    · exact h
  change some ((if p.high then chopFall p mn t else p).lowAt.getD t) = some t
  rw [hfall]
  rfl

/-- A cut of action LOW before a pair's pulse has ended changes its gates. -/
theorem cutPair_pulse {m : Mach} {n x t r f : Nat} (hp : (pairSt m n x).pulse = some (r, f)) (ht : t < f) :
    cutPair m n x t false = (true, setPair m n x (pairCutLow (pairSt m n x) (getF m PWR_PROT_MIN_PULSE n) t)) := by
  simp [cutPair, pairCutLow, hp, ht]

/-- A rise that is not the selected event is dropped without a trace. -/
theorem dropRise_other {m : Mach} {n x : Nat} (h : getF m PWR_EVT_CFG_SRC n ≠ 3 + x) (t : Nat) : dropRise m n x t = m := by
  unfold dropRise
  extract_lets p
  split
  · exact if_neg fun hc => h hc.2.2.2
  · rfl

/-- An assertion that is accepted before pulse A ends, and before the period does, ends that pulse and is counted. -/
theorem tripCut_pulse {m : Mach} {n i : Nat} (hc : CutsFirstPair m n i) {a e r f : Nat} (he : tripTick m n i 1 a < e)
    (hp : (pairSt m n 0).pulse = some (r, f)) (hf : tripTick m n i 1 a < f) : tripCut n i a e m =
      tripCounted (setPair (tripAccepted m n i (tripTick m n i 1 a)) n 0
        (pairCutLow (pairSt m n 0) (getF m PWR_PROT_MIN_PULSE n) (tripTick m n i 1 a))) n i := by
  generalize ht : tripTick m n i 1 a = t at he hf ⊢
  obtain ⟨hregs, -, -, hslot⟩ := tripAccepted_keeps m n i t
  generalize hacc : tripAccepted m n i t = m₁ at hregs hslot ⊢
  have hpair : pairSt m₁ n 0 = pairSt m n 0 := by rw [pairSt, hslot, pairSt]
  have hcut := cutPair_pulse (m := m₁) (x := 0) (by rw [hpair]; exact hp) hf
  rw [hpair, getF_of_regs hregs] at hcut
  have hgates : gatesOn m₁ n = true := (congrArg (Nat.testBit · n) (getF_of_regs hregs PWR_SUMMARY_GATES 0)).trans hc.gates
  have harmed : (pwrSt m₁ n).arming = none := by rw [hslot]; exact hc.armed
  have hdrop : dropRise m₁ n 0 t = m₁ := dropRise_other (by rw [getF_of_regs hregs]; exact hc.event) t
  have hone : bitsOf 3 1 = [0] := by decide
  unfold tripCut
  extract_lets c filt mask blank t' m₂ _ m₃ r'
  have ht' : t' = t := by
    rw [← ht]
    simp only [t', filt, c, blank, mask, hc.gates, hc.mask, if_true]
    rfl
  have hm₃ : m₃ = m₁ := by rw [← hacc, ← ht']; rfl
  clear_value t' m₃
  subst hm₃
  have hr : r' = (true, setPair m₃ n 0 (pairCutLow (pairSt m n 0) (getF m PWR_PROT_MIN_PULSE n) t)) := by
    simp only [r', mask, c, hc.mask, hone, ht', hc.low, List.foldl_cons, List.foldl_nil, hdrop, hcut]
    simp
  rw [if_neg (by simp [c, hc.enabled]), if_neg (by omega), if_neg (by simp [hgates, harmed]), hr, if_pos rfl]

/-- A source that is raised leaves the registers of the slot. -/
theorem getF_irq_slot {n : Nat} (hn : n < 16) {f : Fld} (hf : f.blk = 8 ∧ f.off < 0x1100 ∧ f.stride = 0x100 ∧ f.lsb < 32) (m : Mach) (k : Nat) :
    getF (irq m k) f n = getF m f n :=
  (StageHeld.irq .refl).fields f n fun h => slot_not_outsideStage hn hf h.1

/-- The slot with the first cut of its period counted and shown. -/
def tripShown (m : Mach) (n i : Nat) : Mach :=
  let p := pwrSt m n
  let m := setPwr (incF m PWR_TRIP_CNT_CNT n 1) n { p with cutNow := 2 ^ i, runs := sput p.runs i (sget p.runs i 0 + 1) 0 }
  setF (setF m PWR_STAT_CUT n (2 ^ i)) PWR_FLAGS_TRIP n (getF m PWR_FLAGS_TRIP n ||| 2 ^ i)

/-- What it shows. -/
theorem tripShown_shows {i : Nat} (hi : i < 2) (m : Mach) (n : Nat) : getF (tripShown m n i) PWR_STAT_CUT n = 2 ^ i ∧
    (getF (tripShown m n i) PWR_FLAGS_TRIP n).testBit i = true ∧
    getF (tripShown m n i) PWR_TRIP_CNT_CNT n = min (2 ^ PWR_TRIP_CNT_CNT.w - 1) (getF m PWR_TRIP_CNT_CNT n + 1) ∧
    getF (tripShown m n i) PWR_PROT_TRIP_MAX n = getF m PWR_PROT_TRIP_MAX n := by
  refine ⟨?_, ?_, ?_, ?_⟩
  · rw [tripShown, getF_setF_other (by decide), getF_setF_self]
    exact Nat.mod_eq_of_lt (Nat.pow_lt_pow_right (by decide) hi)
  · rw [tripShown, getF_setF_self, Nat.testBit_mod_two_pow, Nat.testBit_or, Nat.testBit_two_pow_self, Bool.or_true, Bool.and_true]
    exact decide_eq_true hi
  · rw [tripShown, getF_setF_other (by decide), getF_setF_other (by decide)]
    exact getF_incF_self m PWR_TRIP_CNT_CNT n 1
  · rw [tripShown, getF_setF_other (by decide), getF_setF_other (by decide)]
    exact getF_setF_other (f := PWR_TRIP_CNT_CNT) (by decide) ..

/-- The first cut of a period is counted, shown and raised; without a limit no run of them is judged. -/
theorem tripCounted_first {m : Mach} {n i : Nat} (hn : n < 16) (hi : i < 2) (hc : (pwrSt m n).cutNow = 0) (hmax : getF m PWR_PROT_TRIP_MAX n = 0) :
    tripCounted m n i = irq (tripShown m n i) (176 + n) := by
  have hlimit : getF (irq (tripShown m n i) (176 + n)) PWR_PROT_TRIP_MAX n = 0 := by
    rw [getF_irq_slot hn (by decide), (tripShown_shows hi m n).2.2.2, hmax]
  unfold tripCounted
  extract_lets p run m₁ m₂ m₃ m₄ mx cls m₅
  have hm₄ : m₄ = irq (tripShown m n i) (176 + n) := by
    simp only [m₄, m₃, m₂, m₁, p, run, hc, if_true, Nat.zero_or]
    rfl
  have hmx : mx = 0 := by rw [← hlimit, ← hm₄]
  rw [if_neg (by simp [p, hc]), if_neg (by simp [hmx]), hm₄]

/-- An input that is not enabled is noted alone. -/
theorem tripInput_disabled {m : Mach} {n i : Nat} (hn : n < 16) (hi : i < 2) (h : (tripCfg m n i).2.2.1 = false) (a held : Nat) :
    tripInput n i a held m = tripNoted m n i a (a + held) := by
  have hoff : (tripCfg (tripNoted m n i a (a + held)) n i).2.2.1 = false := h
  rw [tripInput, if_neg (by simp [hn, hi])]
  change tripCut n i a _ (tripNoted m n i a (a + held)) = _
  rw [tripCut, hoff, Bool.not_false, if_pos rfl]

/-- What a first cut that is counted and raised leaves and shows. -/
theorem tripCounted_shows {m : Mach} {n i : Nat} (hn : n < 16) (hi : i < 2) (hc : (pwrSt m n).cutNow = 0) (hmax : getF m PWR_PROT_TRIP_MAX n = 0) :
    (∀ x, pairSt (tripCounted m n i) n x = pairSt m n x) ∧ getF (tripCounted m n i) PWR_STAT_CUT n = 2 ^ i ∧
      (getF (tripCounted m n i) PWR_FLAGS_TRIP n).testBit i = true ∧
      getF (tripCounted m n i) PWR_TRIP_CNT_CNT n = min (2 ^ PWR_TRIP_CNT_CNT.w - 1) (getF m PWR_TRIP_CNT_CNT n + 1) ∧
      176 + n ∈ (tripCounted m n i).intc.pend ∧ (tripCounted m n i).cyc = m.cyc ∧ (tripCounted m n i).mem = m.mem := by
  obtain ⟨hcut, hflag, hcount, -⟩ := tripShown_shows hi m n
  have hpwr : (irq (tripShown m n i) (176 + n)).pwr = (tripShown m n i).pwr := (StageHeld.irq .refl).pwr
  rw [tripCounted_first hn hi hc hmax]
  refine ⟨fun x => ?_, ?_, ?_, ?_, mem_irq .., irq_cyc .., irq_mem ..⟩
  · rw [pairSt, pwrSt, hpwr]
    change sget (pwrSt (setPwr (incF m PWR_TRIP_CNT_CNT n 1) n _) n).pairs x {} = _
    rw [pwrSt_setPwr]
    rfl
  · rw [getF_irq_slot hn (by decide), hcut]
  · rw [getF_irq_slot hn (by decide), hflag]
  · rw [getF_irq_slot hn (by decide), hcount]

section
variable {m : Mach} {n i a held r f : Nat} (hn : n < 16) (hi : i < 2) (hc : CutsFirstPair m n i) (hheld : tripTick m n i 1 a < a + held)
  (hnext : tripTick m n i 1 a < max (a + 1) (nextTick m n)) (hp : (pairSt m n 0).pulse = some (r, f)) (hf : tripTick m n i 1 a < f)
include hn hi hc hheld hnext hp hf

/-- An assertion that lasts until it is accepted, before the next boundary, cuts pulse A. -/
theorem tripInput_cuts : tripInput n i a held m =
    tripCounted (setPair (tripAccepted (tripNoted m n i a (a + held)) n i (tripTick m n i 1 a)) n 0
      (pairCutLow (pairSt m n 0) (getF m PWR_PROT_MIN_PULSE n) (tripTick m n i 1 a))) n i := by
  have htick : tripTick (tripNoted m n i a (a + held)) n i 1 a = tripTick m n i 1 a := tripNoted_tick ..
  have hpair := tripNoted_pair m n i a (a + held) 0
  have hcut := tripCut_pulse (hc.noted a (a + held)) (e := min (a + held) (max (a + 1) (nextTick m n)))
    (by rw [htick]; exact lt_min hheld hnext) (by rw [hpair]; exact hp) (by rw [htick]; exact hf)
  rw [htick, hpair] at hcut
  rw [tripInput, if_neg (by simp [hn, hi])]
  change tripCut n i a (min (a + held) (max (a + 1) (nextTick (tripNoted m n i a (a + held)) n))) (tripNoted m n i a (a + held)) = _
  rw [tripNoted_nextTick, hcut]
  rfl

/-- As the first cut of the period it ends that pulse, is counted, and raised. -/
theorem tripInput_ends (hlow : (pairSt m n 0).lowAt = none) (hcut : (pwrSt m n).cutNow = 0) (hmax : getF m PWR_PROT_TRIP_MAX n = 0) :
    (pairSt (tripInput n i a held m) n 0).lowAt = some (tripTick m n i 1 a) ∧ getF (tripInput n i a held m) PWR_STAT_CUT n = 2 ^ i ∧
      (getF (tripInput n i a held m) PWR_FLAGS_TRIP n).testBit i = true ∧
      getF (tripInput n i a held m) PWR_TRIP_CNT_CNT n = min (2 ^ PWR_TRIP_CNT_CNT.w - 1) (getF m PWR_TRIP_CNT_CNT n + 1) ∧
      176 + n ∈ (tripInput n i a held m).intc.pend ∧ (tripInput n i a held m).cyc.now = max m.cyc.now (tripTick m n i 1 a) ∧
      (tripInput n i a held m).mem = m.mem := by
  rw [tripInput_cuts hn hi hc hheld hnext hp hf]
  have hlowAt := pairCutLow_lowAt hlow (getF m PWR_PROT_MIN_PULSE n) (tripTick m n i 1 a)
  generalize pairCutLow (pairSt m n 0) (getF m PWR_PROT_MIN_PULSE n) (tripTick m n i 1 a) = q at hlowAt ⊢
  obtain ⟨hregs, hmem, hnow, hslot⟩ := tripAccepted_keeps (tripNoted m n i a (a + held)) n i (tripTick m n i 1 a)
  generalize tripAccepted (tripNoted m n i a (a + held)) n i (tripTick m n i 1 a) = m₁ at hregs hmem hnow hslot ⊢
  have hfield (f : Fld) : getF (setPair m₁ n 0 q) f n = getF m f n := getF_of_regs hregs f n
  have hnone : (pwrSt (setPair m₁ n 0 q) n).cutNow = 0 := by
    rw [setPair, pwrSt_setPwr, hslot, tripNoted_pwrSt]
    exact hcut
  obtain ⟨hpair, hstat, hflag, hcount, hpend, hcyc, hmem'⟩ := tripCounted_shows hn hi hnone ((hfield _).trans hmax)
  refine ⟨?_, hstat, hflag, ?_, hpend, ?_, hmem'.trans hmem⟩
  · rw [hpair, pairSt_setPair, hlowAt]
  · rw [hcount, hfield]
  · rw [hcyc]
    exact hnow

end

/-! ## The statement -/

/-- Settles O43: a cut by `slotCut_told` after what each cause writes, crossings by their branches, a trip by `tripInput_cuts` and
`tripCounted_shows`. -/
theorem protectionCutsTheStage : Obligations.ProtectionCutsTheStage := by
  intro n ch t c i a held bits s hn hch hi m enabled k v thr cut p
  refine ⟨fun hen h hoc => ?_, fun hen h hchop => ?_, fun hen => ?_, fun hen => ?_, ⟨fun h hc ha => ?_, fun h o => ?_, fun h o => ?_⟩,
    fun hdis => ?_, fun hen hlow hmask hgates harm hc _ hheld hnext hlowAt hpulse hmax hsrc => ?_⟩
  · have hcut := fastSample_cuts hn hch hen bits t h hoc
    obtain ⟨hflag, hsum⟩ := overcurrent_shows hn (fastTaken m n ch t (fastCurrent m n ch bits))
    obtain ⟨hmem, htap, -⟩ := fastTaken_leaves m n ch t (fastCurrent m n ch bits)
    have hoc' : ¬ (outsideStage (PWR_SUMMARY_OC.key 0) ∨ gateKey n (PWR_SUMMARY_OC.key 0)) :=
      not_or.2 ⟨by decide, not_or.2 ⟨by decide, Fld.key_ne_of_below (by decide) n⟩⟩
    refine ⟨_, exec_fastChannelSample n ch bits t s,
      ⟨hcut.gates, hcut.state, hcut.enabled, hcut.pend, fun ht => (hcut.mem ((congrArg TapSt.inj htap).trans ht)).trans hmem⟩, ?_, ?_⟩
    · rw [hcut.slot hn (by decide), hflag]
    · rw [hcut.fields _ _ hoc', hsum]
  · have heq := (fastSample_judged hn hch hen bits t).2 h hchop
    obtain ⟨hmem, -, hnow⟩ := fastTaken_leaves m n ch t (fastCurrent m n ch bits)
    exact ⟨_, (exec_fastChannelSample ..).trans (done_eq heq), fastTaken_pair .., fun hs => fastTaken_valid hch hs _ _, hnow, hmem⟩
  · obtain ⟨hsample, hfault⟩ := channel_off hen bits t
    exact ⟨(exec_fastChannelSample ..).trans (done_same hsample), (exec_sdChannelFault ..).trans (done_same hfault)⟩
  · have hcut := sdFault_cuts hn hch hen
    obtain ⟨hflag, hvalid, hfail⟩ := channelFailed_shows m n ch
    refine ⟨_, exec_sdChannelFault n ch s, ⟨hcut.gates, hcut.state, hcut.enabled, hcut.pend, hcut.mem⟩, ?_, ?_, ?_⟩
    · rw [hcut.slot hn (by decide), hflag]
    · rw [hcut.slot hn (by decide), hvalid]
    · rw [hcut.failed, hfail]
  · refine ⟨_, (exec_switchNodeCrossing ..).trans (done_eq (switchNode_adapts hn hch h hc ha)), rfl, ?_, ?_, rfl⟩
    · rw [pairSt_setPair]
    · rw [pairSt_setPair]
  · exact (exec_switchNodeCrossing ..).trans (done_eq (switchNode_rise hn hch h o))
  · exact (exec_switchNodeCrossing ..).trans (done_eq (switchNode_fall hn hch h o))
  · exact (exec_tripInput ..).trans (done_eq (tripInput_disabled hn hi hdis a held))
  · obtain ⟨r, e, hp, he⟩ := hpulse
    exact ⟨_, exec_tripInput n i a held s,
      tripInput_ends hn hi ⟨hen, hlow, hmask, hgates, harm, hsrc⟩ hheld hnext hp he hlowAt hc hmax⟩

end Sys2Proof.Machine
end
